-- ==== Sys2Proof/Word.lean ====
section
/-! DEFINITION. The words of the ELX: a 32-bit register or engine word, a byte and the 64-bit device time. -/

namespace Sys2Proof

/-- A 32-bit register of the set-up map, a field-engine word or a context word (R5, 00_scope.md). -/
abbrev Word := BitVec 32

/-- One byte of a memory, of a descriptor or of a frame. -/
abbrev Byte := BitVec 8

/-- The 64-bit device time in microseconds (R5, 00_scope.md). -/
abbrev Time := BitVec 64

end Sys2Proof
end

