-- ==== Sys2Proof/Syntax.lean ====
section
/-! DEFINITION. The commands the block takes: one constructor for each row of spec/opcode_table.json, with its operands,
and the plain data those operands are made of. -/

namespace Sys2Proof

/-- Who makes a register write or an access (R464, 24_register_map.md; R385, 19_paired_execution.md). -/
inductive Writer
  | hostA | hostB | steward | wardenA | wardenB | coreA0 | coreA1 | service | tap
  deriving DecidableEq, Repr

/-- A host command that has passed checks 1 to 6 of R96 (05_command_rings.md): what its descriptor carries.
`payload` holds the payload bytes from descriptor byte 16. -/
structure Cmd where
  master : Nat
  tag : Nat
  target : Nat
  len : Nat
  hostAddr : Nat
  payload : List Byte
  deriving DecidableEq, Repr

/-- What BOOT finds (R63, 03_supplies_reset_hibernate.md): the outcome of its authentications, self-tests and checks. -/
structure BootIn where
  /-- levels of SEAL_0 to SEAL_7, sampled at step 1 of a cold reset -/
  straps : Nat
  /-- the Warden runtime, then the Steward runtime, authenticated (steps 4 and 6) -/
  wardenAuth : Bool
  stewardAuth : Bool
  /-- outcomes of the checker self-tests that differ from a working checker's: bank, case of R154's table, and the CLASS it gave -/
  selfTest : List (Nat × Nat × Nat)
  /-- spare rows that did not read back as written: bank and spare (R154) -/
  badSpares : List (Nat × Nat)
  /-- comparators whose canary sweep failed at step 5: 0 Warden A, 1 Warden B, 2 + n FE_n (R383) -/
  badCanary : List Nat
  /-- both MRAM copies of the parameter set are intact (R438) -/
  copiesIntact : Bool
  deriving DecidableEq, Repr

/-- What happens to a stored word as it is reached, beside the damage that it has already (R148, R149, R163). -/
structure EccHit where
  /-- bank within the line, or 0 -/
  bank : Nat
  /-- stored bits that have flipped: of an SRAM word its data in 0 to 63 and its check bits in 64 to 71; of an MRAM word its data in 0 to 127
  and its check bits in 128 to 144 -/
  flips : Nat
  /-- bits of the word address that are wrong in this access -/
  addr : Nat
  /-- the parity of the word's eight valid bits fails -/
  parity : Bool
  deriving DecidableEq, Repr

/-- An access of the other port of a bank to the same word: who makes it, a read or a write of a part of the word, and for how many cycles an
atomic's lock keeps it waiting (R133, R137). -/
structure Side where
  who : Writer
  gallery : Option Nat
  write : Bool
  /-- byte within the word, and size -/
  off : Nat
  size : Nat
  data : Nat
  wait : Nat
  deriving DecidableEq, Repr

/-- An access to the Store Gallery (R132, R136): who, through which port, where and what. -/
structure Access where
  who : Writer
  /-- the initiator is no core but a unit: the Drive, Power, Motion or Host Gallery, 0 to 3 (R8) -/
  gallery : Option Nat
  /-- the field-engine pair that makes the access, if one does -/
  engine : Option Nat
  portD : Bool
  write : Bool
  addr : Nat
  size : Nat
  data : Nat
  /-- what the other port asks of the same word in the same cycle, or during an atomic's lock (R133, R137) -/
  other : Option Side
  ecc : EccHit
  deriving DecidableEq, Repr

/-- What the commit gate and the canary comparison find at a COMMIT (R175, R380, R383). -/
structure GateIn where
  /-- the bits that a disturbance has inverted in the 64-bit signatures of the two copies; equal signatures where both are equal -/
  main : Nat
  checker : Nat
  /-- a parity error in a delay register, an uncorrectable SRAM read, a comparator fault -/
  parity : Bool
  ueRead : Bool
  comparator : Bool
  /-- the canary comparison, if one runs, reports the inverted bit -/
  canarySees : Bool
  deriving DecidableEq, Repr

/-- What discovery measures of an item (R75, R78, 04_discovery.md): a supply or hop latency in the item's unit, a cable's
code × 65,536 + distance; for a winding resistance the mean d voltage in µV at the test current, for Ld the rise of the current in mA, for Lq
the four rises in mA in `more`; for a gate driver the capability word and the two round-trip times in ps, turn-on and turn-off, in `more`;
for a Gallery Link neighbour its identity and capability in `more`. -/
structure DiscMeas where
  value : Nat
  more : List Nat
  deriving DecidableEq, Repr

/-- A ledger record from a unit outside the commands of the model (R427). -/
structure RecIn where
  code : Nat
  sev : Nat
  unit : Nat
  tick : Nat
  ctx0 : Word
  ctx1 : Word
  deriving DecidableEq, Repr

/-- What a Warden pair does in a signature window and what its comparison finds (R377, R378, R383): the register writes among its Hall
transactions, in retirement order, how many transactions there were, instructions retired, cycles stalled, and the comparison. -/
structure WindowIn where
  writes : List (Nat × Word)
  count : Nat
  retired : Nat
  stalled : Nat
  gate : GateIn
  deriving DecidableEq, Repr

/-- Where an update point finds the carriers (R199, R200): at a peak or a valley of carrier A, with carrier B at `posB` / 65,536 of its period. -/
structure CarrierAt where
  peak : Bool
  posB : Nat
  deriving DecidableEq, Repr

/-- What an aperture of a fast converter is to a tick and to the quiet window (R210, R242): a tick's sample instant (0 none, 1 at a carrier-A
peak, 2 at a valley, 3 on a FREE timebase); and whether it begins within T_BLANK after a gate-level edge of a carrier schedule of its group. -/
structure Instant where
  kind : Nat
  edge : Bool
  deriving DecidableEq, Repr

/-- The commands: one constructor for each row of spec/opcode_table.json, the rows with operands in the order of the table and after
them those without. -/
inductive Instr
  /-- VSTBY_RISE (R55): VSTBY rises above its threshold from OFF; the always-on domain raises RAIL_EN and starts the power-on rail wait. -/
  | vstbyRise (resetN : Bool) (straps wake : Nat)
  /-- SUPPLY_GOOD (R58): A supply has been inside its limits for 100 µs and counts as good; when all main rails and required banks are good with RESET_N high, the part leads towards BOOT. -/
  | supplyGood (supply : Nat)
  /-- SUPPLY_LOST (R58): A supply stays beyond a threshold for its filter time; this causes OFF, a brown-out reset source, or a bank record with its pads held high-impedance. -/
  | supplyLost (supply : Nat)
  /-- BOOT_START (R63): BOOT starts 10 µs after the last reset source releases and runs its steps through self-tests, authentication, Banister take-over and the choice of next mode. -/
  | bootStart (b : BootIn)
  /-- PERST_ASSERT (R62): PERST_A_N or PERST_B_N resets only its own PCIe port, which counts as a link loss for ownership. -/
  | perstAssert (port : Nat)
  /-- STRAP_CHANGE_DETECTED (R65): LIVE differs from LATCHED for more than 10 ms; CHANGED is set and an S0 STRAP_CHANGED record is raised. -/
  | strapChangeDetected (live : Nat)
  /-- WAKE_EVENT (R70): An enabled WAKE_n event or a RESET_N rising edge arrives in HIBERNATE; RAIL_EN rises and the rail wait starts, or the event is latched as EARLY during entry. -/
  | wakeEvent (pin : Option (Nat × Bool))
  /-- MODE_STATUS (R48): Returns the SYS_MODE image and the DEGRADED time remaining. -/
  | modeStatus (c : Cmd)
  /-- MODE_REQUEST (R32): Requests a mode change that is judged against the transition table, precedence and conditions, and starts the transition if accepted. -/
  | modeRequest (c : Cmd)
  /-- PARK_ENGAGE (R345): Starts a park-lock engage: holds traction torque, issues PARK_REQ engage and clears PARK. -/
  | parkEngage (c : Cmd)
  /-- PARK_RELEASE (R346): Clears PARK and the park motor's hold, then moves the lock to the released position. -/
  | parkRelease (c : Cmd)
  /-- SAFE_STOP_REQUEST (R48): Requests SAFE_STOP; it is applied and completed when Landing 0 accepts it. -/
  | safeStopRequest (c : Cmd)
  /-- SYS_RESET (R48): Issues the completion, writes out the ledger buffer and asserts the warm reset CMD within 1 ms. -/
  | sysReset (c : Cmd)
  /-- MODE_TRANSITION_END (R33): A transition in progress completes; MODE changes, IN_TRANSITION clears and held triggers are judged against the new mode. -/
  | modeTransitionEnd (drop : Nat) (fault : Bool)
  /-- DISCOVER_START (R79): DISCOVER begins after BOOT and runs supply, gate-link, cable, Gallery Link and winding measurements. -/
  | discoverStart (meas : List (Nat × DiscMeas))
  /-- DISCOVER_END (R81): Discovery items are compared, block flags and DEGRADE_MARK are set, records are written and the ELX goes to STANDBY. -/
  | discoverEnd (meas : List (Nat × DiscMeas)) (emf : List Nat)
  /-- DISC_RUN (R82): Runs discovery steps 1–9 in COMMISSION without changing the flags. -/
  | discRun (c : Cmd) (meas : List (Nat × DiscMeas))
  /-- DISC_ADOPT (R82): Copies the last run's values into the commissioned record. -/
  | discAdopt (c : Cmd)
  /-- DISC_READ (R82): Writes the surroundings record and the commissioned record to host memory. -/
  | discRead (c : Cmd)
  /-- RING_SELECT (R86): A RING_m_SEL write chooses the ring that the window acts on, or a BAD_SELECT selection. -/
  | ringSelect (w : Writer) (m : Nat) (v : Word)
  /-- RING_CONFIG_WRITE (R87): A RING_m_CFG write applies its fields, with locked fields protected by CFG_LOCKED and BAD_SIZE checked on enable. -/
  | ringConfigWrite (w : Writer) (m : Nat) (v : Word)
  /-- RING_RESET (R87): RING_m_CTRL.RESET clears the counts, the error and the phase, or is refused with RESET_REFUSED. -/
  | ringReset (w : Writer) (m : Nat) (v : Word)
  /-- DOORBELL_CMD (R89): A command doorbell write moves the descriptor count forward or sets ERR DOORBELL. -/
  | doorbellCmd (w : Writer) (m k : Nat) (v : Word)
  /-- DOORBELL_CPL (R102): A completion doorbell releases slots so that waiting completion entries can be written. -/
  | doorbellCpl (w : Writer) (m k : Nat) (v : Word)
  /-- DOORBELL_EVT (R109): An event doorbell releases event slots; EV_OVERFLOW is written first if events were dropped. -/
  | doorbellEvt (w : Writer) (m k : Nat) (v : Word)
  /-- DOORBELL_TLM (R88): A telemetry doorbell releases host telemetry buffers. -/
  | doorbellTlm (w : Writer) (m k : Nat) (v : Word)
  /-- DESCRIPTOR_READ_DONE (R96): Fetched descriptors are checked in order and dispatched or completed with a refusal status. -/
  | descriptorReadDone (data : Option (List Byte)) (payloads : List (Option (List Byte)))
  /-- CR_FULL_REPEAT (R104): A completion ring is still full 100 ms after CR_FULL, so CR_FULL is raised again. -/
  | crFullRepeat (m k : Nat)
  /-- CLASS_R_TIMEOUT (R100): A Class R command not finished within 2 ms completes with TIMEOUT. -/
  | classRTimeout (m tag : Nat)
  /-- CMD_PROGRESS (R100): A running Class B command reaches 10 ms since its start or last report, and CMD_PROGRESS is written. -/
  | cmdProgress (m tag perMille bytes : Nat)
  /-- IRQ_TIME_EXPIRY (R111): TIME µs after the first unsignalled entry, the ring signals its MSI-X vector. -/
  | irqTimeExpiry (m kind k : Nat)
  /-- TLM_SELECT (R112): Sets the signal list of a telemetry stream. -/
  | tlmSelect (c : Cmd)
  /-- TLM_BUFFER_COPY (R112): A full telemetry stall is copied into the next host buffer with its header. -/
  | tlmBufferCopy (m k : Nat)
  /-- TLM_FLUSH_EXPIRY (R112): The FLUSH time passes and a partly filled telemetry stall is delivered. -/
  | tlmFlushExpiry (m k : Nat)
  /-- OWN_QUERY (R116): Returns OWN_STATUS and OWN_NONCE. -/
  | ownQuery (c : Cmd)
  /-- OWN_CLAIM (R118): A claim opens or joins a 20 ms claim window, replaces an earlier claim, or completes HELD. -/
  | ownClaim (c : Cmd)
  /-- OWN_HANDOVER (R121): Starts a hand-over: STATE becomes HANDOVER, Class B work is aborted and setpoints hold. -/
  | ownHandover (c : Cmd)
  /-- OWN_CONFIRM (R122): The named successor confirms with its nonce. -/
  | ownConfirm (c : Cmd)
  /-- HEARTBEAT (R126): A write to OWN_m_HB by master m restarts the owner heartbeat timer. -/
  | heartbeat (w : Writer) (m : Nat) (v : Word)
  /-- SRAM_ACCESS (R132): A port H or port D access to an SRAM bank is served, with collision, wake, region and checking rules. -/
  | sramAccess (a : Access)
  /-- AADD (R136): An atomic fetch-and-add on one word returns the old value. -/
  | aadd (a : Access)
  /-- ASWP (R136): An atomic swap on one word returns the old value. -/
  | aswp (a : Access)
  /-- BANK_POWER_REQUEST (R139): A REQ write sets a bank's power request to ON or RET, or is refused with PWR_REFUSED. -/
  | bankPowerRequest (w : Writer) (k : Nat) (v : Word)
  /-- BANK_IDLE_RETENTION (R139): A bank with REQ RET has been idle for IDLE × 64 cycles and enters RET. -/
  | bankIdleRetention (bank : Nat)
  /-- MARKET_REQUEST (R144): A channel's stall request at the head of its line is judged in its round-robin turn and granted or refused. -/
  | marketRequest (chs : List Nat)
  /-- MARKET_RELEASE (R144): A stall is released to the free list, or the invalid release is recorded. -/
  | marketRelease (w : Option Writer) (ch stall : Nat)
  /-- MARKET_QUOTA_WRITE (R145): A quota write is accepted, or rejected whole with QUOTA_ERR and record 0x0501. -/
  | marketQuotaWrite (w : Writer) (ch : Nat) (v : Word)
  /-- SCRUB_LINE (R155): The scrubber checks one 256-byte line and writes back corrected words. -/
  | scrubLine (found : List EccHit)
  /-- TRACKER_ENTRY_EXPIRY (R157): An hour after a word's first correction, its tracker count resets. -/
  | trackerEntryExpiry (word : Nat)
  /-- ROW_REPAIR (R158): A hard-error row is copied into a spare row and ROW_REPAIRED is raised, or SPARES_EXHAUSTED when none is free. -/
  | rowRepair (word cause : Nat)
  /-- BGT_WINDOW_STEP (R160): The background test saves, March-tests and restores one 8-word window. -/
  | bgtWindowStep (ends : Bool) (fails : Option Nat)
  /-- MRAM_DAILY_READ (R165): The runtime reads MRAM words each 24 h and rewrites any word that needed correction. -/
  | mramDailyRead (addr flips : Nat)
  /-- FE_TICK (R172): A tick strobe starts a field-engine tick: staging transfer, blend step, then the program runs to COMMIT. -/
  | feTick (n : Nat)
  /-- TICK_OVERRUN (R173): No COMMIT by cycle P − 64; the tick is aborted and misses. -/
  | tickOverrun (n : Nat)
  /-- NOP (R178): No operation. -/
  | nop (n d a b x : Nat)
  /-- MOV (R178): Copies a float register. -/
  | mov (n d a b x : Nat)
  /-- FADD (R178): Float addition. -/
  | fadd (n d a b x : Nat)
  /-- FSUB (R178): Float subtraction. -/
  | fsub (n d a b x : Nat)
  /-- FMUL (R178): Float multiplication. -/
  | fmul (n d a b x : Nat)
  /-- FMAC (R178): Float multiply-accumulate with a single rounding. -/
  | fmac (n d a b x : Nat)
  /-- FMIN (R178): Float minimum. -/
  | fmin (n d a b x : Nat)
  /-- FMAX (R178): Float maximum. -/
  | fmax (n d a b x : Nat)
  /-- FABS (R178): Float absolute value. -/
  | fabs (n d a b x : Nat)
  /-- FNEG (R178): Float negation. -/
  | fneg (n d a b x : Nat)
  /-- FCMP (R178): IEEE float comparison into an integer register. -/
  | fcmp (n d a b x : Nat)
  /-- FTOI (R178): Float to integer, rounded and saturated. -/
  | ftoi (n d a b x : Nat)
  /-- ITOF (R178): Integer to float. -/
  | itof (n d a b x : Nat)
  /-- SINCOS (R180): Sine and cosine of a wrapped angle. -/
  | sincos (n d a b x : Nat)
  /-- SQRT (R178): Correctly rounded square root. -/
  | sqrt (n d a b x : Nat)
  /-- DIV (R178): Correctly rounded float division. -/
  | div (n d a b x : Nat)
  /-- IADD (R178): Integer addition modulo 2^32. -/
  | iadd (n d a b x : Nat)
  /-- ISUB (R178): Integer subtraction modulo 2^32. -/
  | isub (n d a b x : Nat)
  /-- IAND (R178): Integer bitwise AND. -/
  | iand (n d a b x : Nat)
  /-- IOR (R178): Integer bitwise OR. -/
  | ior (n d a b x : Nat)
  /-- IXOR (R178): Integer bitwise XOR. -/
  | ixor (n d a b x : Nat)
  /-- ISHL (R178): Integer shift left. -/
  | ishl (n d a b x : Nat)
  /-- ISHR (R178): Arithmetic shift right. -/
  | ishr (n d a b x : Nat)
  /-- ILI (R178): Loads a sign-extended 16-bit immediate. -/
  | ili (n d imm : Nat)
  /-- LDP (R178): Loads a parameter-memory word, optionally indexed. -/
  | ldp (n d a b x : Nat)
  /-- STP (R178): Stores a register to a state word; an address outside 384–447 is a STATE_WRITE fault. -/
  | stp (n d a b x : Nat)
  /-- LDG (R186): Loads a blended gain word. -/
  | ldg (n d a b x : Nat)
  /-- CLARKE (R180): Transforms phase currents to alpha and beta. -/
  | clarke (n d a b x : Nat)
  /-- ICLARKE (R180): Transforms alpha and beta to three phase values. -/
  | iclarke (n d a b x : Nat)
  /-- PARK (R180): Transforms alpha and beta to d and q. -/
  | park (n d a b x : Nat)
  /-- IPARK (R180): Transforms d and q to alpha and beta. -/
  | ipark (n d a b x : Nat)
  /-- PISTEP (R187): Runs a PI step with integrator and output clamps and gain-change rescaling. -/
  | pistep (n d a b x : Nat)
  /-- LIMIT (R188): Applies a scalar clamp or a direction-keeping vector limit. -/
  | limit (n d a b x : Nat)
  /-- REGION (R185): Looks up the gain region with hysteresis and starts a blend on a change. -/
  | region (n d a b x : Nat)
  /-- PROF (R189): Advances or seeds a jerk-limited profile channel by one tick. -/
  | prof (n d a b x : Nat)
  /-- PLAUS (R191): Counts a plausibility check and raises PLAUS_k when the count reaches N. -/
  | plaus (n d a b x : Nat)
  /-- BSET (R181): Stores a band half-width for a half-bridge in the command stage. -/
  | bset (n d a b x : Nat)
  /-- SLD (R179): Loads a calibrated sample with its flags, waiting for the tick's sample. -/
  | sld (n d a b x : Nat)
  /-- SLD_SAMPLE_TIMEOUT (R179): SLD has waited 400 cycles without the sample and returns the last value with STALE. -/
  | sldSampleTimeout (n : Nat)
  /-- CST (R181): Stores a duty or band-reference command for a half-bridge in the command stage. -/
  | cst (n d a b x : Nat)
  /-- EVT (R182): Queues a subsystem event or a ledger record for release. -/
  | evt (n d a b x : Nat)
  /-- BR (R178): Unconditional branch. -/
  | br (n d a b x : Nat)
  /-- BRC (R178): Conditional branch on an integer register. -/
  | brc (n d a b x : Nat)
  /-- COMMIT (R175): Ends the tick; the commit gate compares signatures and releases or holds the tick's commands, events and state. -/
  | commit (n cycle : Nat) (g : GateIn)
  /-- FE_RUN_START (R193): Setting RUN starts the engine at the next strobe with all registers zero. -/
  | feRunStart (w : Writer) (n : Nat)
  /-- FE_RUN_STOP (R193): Clearing RUN stops the engine at the next tick start, unless an assigned enable is asserted. -/
  | feRunStop (w : Writer) (n : Nat)
  /-- FE_ENTRY_WRITE (R193): A write of ENTRY changes the program entry point at the next cycle 0. -/
  | feEntryWrite (w : Writer) (n entry : Nat)
  /-- FE_PSTAGE_HOLD (R170): Setting or clearing PSTAGE_HOLD holds or frees the staging transfer. -/
  | fePstageHold (w : Writer) (n : Nat) (hold : Bool)
  /-- FE_PARAM_WRITE (R168): A window write to parameter memory lands in the staging copy, subject to region and writer rules. -/
  | feParamWrite (w : Writer) (n p : Nat) (vs : List Word)
  /-- FE_LOOP_STORE_WRITE (R194): A loop-store write takes effect only in COMMISSION or SERVICE with RUN = 0. -/
  | feLoopStoreWrite (w : Writer) (n a : Nat) (v : Word)
  /-- BANISTER_REMOVE (R13): An enable removal or a force on the Banister acts asynchronously at the pads within 10 ns. -/
  | banisterRemove (pair unit line : Nat)
  /-- BANISTER_GRANT (R13): An enable grant passes the synchroniser, and the channel restarts at its next update point or band decision. -/
  | banisterGrant (pair unit : Nat)
  /-- ASC_INTERLOCK_EXPIRY (R205): ASC_IL after the high side falls under FORCE_ASC, the low-side pad goes high. -/
  | ascInterlockExpiry (ch : Nat)
  /-- TIMEBASE_START (R198): Setting EDGE_TB EN starts a timebase, or is refused with TB_MISMATCH. -/
  | timebaseStart (w : Writer) (n : Nat) (v : Word)
  /-- UPDATE_POINT (R199): At a carrier update point, released commands apply and the shift scheduler runs. -/
  | updatePoint (n : Nat) (at_ : CarrierAt) (settled : Bool)
  /-- FAST_CONVERSION (R358): A fast converter completes a conversion on the 50 ns grid, feeding band comparators, protection and SLD. -/
  | fastConversion (k t raw : Nat) (inst : Instant)
  /-- BAND_DWELL_END (R239): A leg's minimum dwell after a change of state ends and decisions are judged again. -/
  | bandDwellEnd (ch : Nat)
  /-- GATE_LINK_POLL (R207): Each enabled gate link reads STATUS and EDGE_CNT every POLL µs and compares edge counts. -/
  | gateLinkPoll (n : Nat) (status count poll : List Word)
  /-- DRIVER_FAULT (R208): SDI held low 100 ns outside a frame latches a driver fault, optionally drives the pads low and reports to Landing 0. -/
  | driverFault (n : Nat)
  /-- TRQ_SET (R231): Class I torque setpoint for a traction set. -/
  | trqSet (c : Cmd)
  /-- SPD_SET (R231): Class I speed setpoint with a torque cap. -/
  | spdSet (c : Cmd)
  /-- CTRL_SEL (R235): Selects torque or speed mode, with a bumpless change. -/
  | ctrlSel (c : Cmd)
  /-- TRQ_STATUS (R231): Returns the estimated torque and the speed. -/
  | trqStatus (c : Cmd)
  /-- TRC_PARAM_WRITE (R231): Writes up to eight traction parameter words as one held group. -/
  | trcParamWrite (c : Cmd)
  /-- TRC_PARAM_READ (R231): Reads traction parameter words to host memory. -/
  | trcParamRead (c : Cmd)
  /-- SETPOINT_WD_EXPIRY (R230): SP_SEQ unchanged for SWD_TIMEOUT starts the torque ramp and raises SETPOINT_WD and SWD_EXPIRED. -/
  | setpointWdExpiry (n : Nat)
  /-- OVERSPEED (R236): Filtered speed above N_OVER for 10 ticks raises the S1 record 0x0842. -/
  | overspeed (n : Nat)
  /-- VDC_ABSENT (R224): A DC-link sample INVALID or STALE in two ticks repeats the duties and raises the S2 record 0x0841. -/
  | vdcAbsent (n : Nat)
  /-- LAW_SEL (R255): Changes a set between modulated and band control by an ENTRY write. -/
  | lawSel (c : Cmd)
  /-- BAND_SAT (R251): BSAT set for BSAT_N consecutive ticks raises the BAND_SAT event. -/
  | bandSat (n : Nat)
  /-- FSW_LIMIT (R256): HLIM held for 100 ms with f̄ outside the target band raises 0x0845. -/
  | fswLimit (n : Nat)
  /-- ESTIMATOR_LOCKED (R264): LOCK below PTH_1 for 40 ticks ends ACQUIRE. -/
  | estimatorLocked (n : Nat)
  /-- ACQUIRE_FAIL (R264): Acquisition not locked 15 ms after it began, or polarity inconclusive twice, raises 0x0849 and enters FAILED. -/
  | acquireFail (n : Nat)
  /-- RECAP_DECAY_TIMEOUT (R275): Currents not below 5 A within 1 ms of freewheel change the method to short circuit. -/
  | recapDecayTimeout (n : Nat)
  /-- RECAP_FW_END (R275): T_FW ends; the trackers are seeded and the estimator enters RELOCK. -/
  | recapFwEnd (n : Nat)
  /-- RECAP_ASC_END (R275): The short-circuit step ends at ASC_T or at current limit, and angle and speed are taken from Δi. -/
  | recapAscEnd (n : Nat)
  /-- RECAPTURE_FAIL (R277): Recapture not complete 5 ms after detection raises 0x0848 and enters FAILED. -/
  | recaptureFail (n : Nat)
  /-- DCL_MONITOR_SAMPLE (R283): A DC-link monitor sample is compared with UV, OV1, OV2, OV3 and the charger OVP code, driving their actions. -/
  | dclMonitorSample (code : Nat)
  /-- DCL_QUERY (R292): Returns SAFE_DCL_STATUS and SAFE_SEL_STATE. -/
  | dclQuery (c : Cmd)
  /-- DCL_DISCHARGE (R292): Holds the chopper on until the link falls below the target voltage. -/
  | dclDischarge (c : Cmd)
  /-- CHOP_TEST (R288): Tests the chopper with a 20 µs pulse and judges the voltage drop. -/
  | chopTest (c : Cmd) (drop : Nat) (fault : Bool)
  /-- CONV_SET_V (R311): Sets the converter output voltage and ends a burst sleep. -/
  | convSetV (c : Cmd)
  /-- CONV_STATUS (R311): Returns CONV_STATUS and CONV_SYNC_STAT. -/
  | convStatus (c : Cmd)
  /-- CONV_RESTART (R311): Restarts a latched converter with a soft start. -/
  | convRestart (c : Cmd)
  /-- CONV_LIGHT_LOAD (R311): Selects forced continuous or burst operation in SERVICE. -/
  | convLightLoad (c : Cmd)
  /-- CONV_SYNC (R311): Sets FOLLOW and the internal converter frequency. -/
  | convSync (c : Cmd)
  /-- SYNC_EDGE (R302): A CONV_SYNC rising edge is validated and moves the sync state. -/
  | syncEdge (interval : Nat) (phase : Int)
  /-- BURST_WAKE_SAMPLE (R305): The burst comparator samples the output in SLEEP and resumes strobes when it has fallen. -/
  | burstWakeSample (low : Bool)
  /-- CBC_LIMIT (R310): A phase current reaching ILIM_CBC ends its pulse for the rest of the half-period. -/
  | cbcLimit (k : Nat)
  /-- CHG_ARM (R335): Arms the HV charge with its phase parameters. -/
  | chgArm (c : Cmd)
  /-- CHG_DISARM (R335): Disarms the HV charge with a current ramp to zero. -/
  | chgDisarm (c : Cmd)
  /-- CHG_LIMIT (R335): Class I host AC-current limit and derating. -/
  | chgLimit (c : Cmd)
  /-- CHG_STATUS (R335): Returns CHG_STATUS and CHG_PILOT. -/
  | chgStatus (c : Cmd)
  /-- CHG_RESTART (R335): Leaves HELD for IDLE. -/
  | chgRestart (c : Cmd)
  /-- SUP_SET (R335): Sets the supply current limit and restarts a stopped supply. -/
  | supSet (c : Cmd)
  /-- LV_CHG_ARM (R335): Arms the LV charge machine. -/
  | lvChgArm (c : Cmd)
  /-- LV_CHG_DISARM (R335): Disarms the LV charge. -/
  | lvChgDisarm (c : Cmd)
  /-- LV_CHG_LIMIT (R335): Class I LV charge current setpoint. -/
  | lvChgLimit (c : Cmd)
  /-- PILOT_STATE_CHANGE (R319): A CP level stable for FILT ms assigns a new pilot state, with mode triggers and holds. -/
  | pilotStateChange (vh vl : Int) (freq duty : Nat)
  /-- PP_SAMPLE (R321): Every 10 ms PP_SENSE is read and the cable code is updated. -/
  | ppSample (mv : Nat)
  /-- PILOT_ROUTE_CHECK (R322): 100 ms after CP_DRV goes high in vehicle-to-vehicle supply, the route is checked and PILOT_ROUTE is raised on failure. -/
  | pilotRouteCheck (vh : Int)
  /-- CHG_ON_TIME_END (R323): An on-time of T_ON ends and a rest starts. -/
  | chgOnTimeEnd (lv : Bool) (mean : Word)
  /-- CHG_REST_END (R324): A rest ends; the relaxation estimate is formed and RELAX is raised. -/
  | chgRestEnd (lv : Bool) (vOn v10 vEnd iOn : Word) (zero : Bool)
  /-- CHG_PREP_FAIL (R323): PREP without bus regulation after 2 s raises 0x0862 and disarms. -/
  | chgPrepFail (lv : Bool)
  /-- CHG_TERMINATE (R323): I_BATT below I_TERM for 10 s moves FINISH to DONE. -/
  | chgTerminate (lv : Bool)
  /-- CHG_WATCHDOG (R328): No owner contact for WD_TIMEOUT ramps the current to zero, disarms and raises 0x0860. -/
  | chgWatchdog (lv : Bool)
  /-- CHG_TIMER (R329): The safety timer reaches TIMER_MAX; the current ramps to zero, DONE is entered and 0x0E02 is raised. -/
  | chgTimer (lv : Bool)
  /-- ACT_CURRENT (R355): Class I actuator current setpoint. -/
  | actCurrent (c : Cmd)
  /-- ACT_SPEED (R355): Class I actuator speed setpoint. -/
  | actSpeed (c : Cmd)
  /-- ACT_MOVE (R355): Class I actuator position move. -/
  | actMove (c : Cmd)
  /-- ACT_STATUS (R355): Returns actuator position and speed. -/
  | actStatus (c : Cmd)
  /-- ENC_STATUS (R355): Returns encoder COUNT and status. -/
  | encStatus (c : Cmd)
  /-- ENCODER_ENABLE (R347): A rising EN clears COUNT and sets STANDSTILL. -/
  | encoderEnable (w : Writer) (k : Nat) (v : Word)
  /-- ENCODER_EDGE (R347): An accepted A or B edge moves COUNT, direction and speed, or counts an illegal transition. -/
  | encoderEdge (k : Nat) (a b : Bool) (dt : Nat)
  /-- ENCODER_INDEX (R350): An accepted index pulse latches COUNT and checks the count per revolution. -/
  | encoderIndex (k : Nat)
  /-- ENCODER_STANDSTILL (R349): No accepted edge for STOP_TIME sets STANDSTILL and SPEED 0. -/
  | encoderStandstill (k : Nat)
  /-- HALL_CODE_CHANGE (R351): An accepted Hall code change maps to a sector, or raises HALL_ILLEGAL. -/
  | hallCodeChange (k code : Nat)
  /-- SENT_FRAME (R352): A SENT frame is accepted and its value updated, or rejected and counted. -/
  | sentFrame (k sync : Nat) (nibbles : List Nat) (crcOk : Bool) (slow : Option Nat)
  /-- SENT_LOST (R352): No accepted frame for TO sets LOST and raises 0x0F04. -/
  | sentLost (k : Nat)
  /-- RESOLVER_ENABLE (R353): A resolver EN write starts the channel, or is refused with CFG_ERR. -/
  | resolverEnable (w : Writer) (k : Nat) (v : Word)
  /-- RES_SIGNAL (R353): Resolver amplitude outside 25–95 % for 1 ms makes the angle STALE and raises 0x0F05. -/
  | resSignal (k : Nat)
  /-- SEQ_CONVERSION (R360): A sequenced conversion completes, updates LAST and its stall, and the table advances. -/
  | seqConversion (k raw sub : Nat)
  /-- SEQ_ENTRY_WRITE (R361): A table entry write lands in the shadow, or is refused with CFG_ERR. -/
  | seqEntryWrite (w : Writer) (k e : Nat) (delay : Bool) (v : Word)
  /-- SEQ_SWAP (R363): Writing SWAP arms a table swap at the next pass start. -/
  | seqSwap (w : Writer) (k : Nat)
  /-- REF_READY (R367): 2 ms after REF_BUF_EN rises, REF_RDY rises if channel 94 is within tolerance. -/
  | refReady (ok : Bool)
  /-- REF_BUFFER_WRITE (R367): A write of REF_BUF_EN = 0 takes effect only in SERVICE. -/
  | refBufferWrite (w : Writer) (v : Word)
  /-- ACQ_SEQ_WRITE (R371): Writes sequence-table entries to the shadow, optionally arming a swap. -/
  | acqSeqWrite (c : Cmd)
  /-- ACQ_SEQ_RUN (R362): Starts or stops a sequence table. -/
  | acqSeqRun (c : Cmd)
  /-- ACQ_GRP_FETCH (R371): Copies delivered stalls of a group to host memory and releases them. -/
  | acqGrpFetch (c : Cmd)
  /-- ACQ_CAL_ZERO (R368): Averages 256 conversions for the provisional offset. -/
  | acqCalZero (c : Cmd)
  /-- ACQ_CAL_SPAN (R368): Averages the span and computes, accepts or refuses the gain. -/
  | acqCalSpan (c : Cmd)
  /-- ACQ_CAL_STORE (R369): Stores all calibration coefficients to MRAM. -/
  | acqCalStore (c : Cmd)
  /-- ACQ_DIAG (R370): Tests an input path with a test DAC at two levels. -/
  | acqDiag (c : Cmd)
  /-- ACQ_INSERTION_DONE (R364): Inserted calibration or diagnosis conversions finish, the table resumes and the judgement is made. -/
  | acqInsertionDone (chan : Nat) (sum1 sum2 : Int) (good : Bool)
  /-- WARDEN_WINDOW_CLOSE (R377): A Warden signature window closes and is compared; the Turnstile releases or discards its transactions. -/
  | wardenWindowClose (k : Nat) (x : WindowIn)
  /-- DIVERGENCE (R380): A pair diverges, leaves service at once and reports to Landing 0. -/
  | divergence (unit cause main checker : Nat)
  /-- PAIR_SPLIT (R386): PAIR_CTRL SPLIT drains, snapshots and splits Warden A into A0 and A1. -/
  | pairSplit (c : Cmd)
  /-- PAIR_REJOIN (R386): PAIR_CTRL REJOIN resynchronises A1 from A0, tests the comparator and resumes the pair. -/
  | pairRejoin (c : Cmd) (good : Bool)
  /-- PAIR_STATUS (R387): Returns PAIR_STATUS and PAIR_DIV_INFO. -/
  | pairStatus (c : Cmd)
  /-- PAIR_CHECKIN (R385): A split core writes its check-in token. -/
  | pairCheckin (w : Writer) (j : Nat) (v : Word)
  /-- SUPERVISION_MISS (R385): A missed or wrong check-in halts the core and raises 0x1008. -/
  | supervisionMiss (j : Nat)
  /-- DBG_HALT (R388): Halts the debug target, subject to the debug rules. -/
  | dbgHalt (w : Writer) (t : Nat)
  /-- DBG_STEP (R468): Retires one instruction of the halted target. -/
  | dbgStep (w : Writer) (t : Nat)
  /-- DBG_RESUME (R468): Resumes the halted target. -/
  | dbgResume (w : Writer) (t : Nat)
  /-- DBG_MEM_WRITE (R468): A DBG_DATA write stores the word at ADDR and enters the replay queue. -/
  | dbgMemWrite (w : Writer) (v : Word)
  /-- DBG_REG_WRITE (R468): A DBG_REG_DATA write sets register INDEX of a halted target. -/
  | dbgRegWrite (w : Writer) (v : Word)
  /-- SIN_CONTACT_CHANGE (R392): A safety-input contact changes level and starts its filter. -/
  | sinContactChange (n : Nat) (b level : Bool)
  /-- SIN_FILTERED (R393): A contact level held for FILT is accepted; DEMAND, the discrepancy timer and any fast action follow. -/
  | sinFiltered (n : Nat) (b : Bool)
  /-- SIN_DISCREPANCY (R394): The other contact fails to follow within DISC; DISC_n is set and 0x1101 is raised. -/
  | sinDiscrepancy (n : Nat)
  /-- SAFETY_SCAN (R400): Every 250 µs a Warden pair runs the safety logic table, judges Tally PDUs and writes its outputs. -/
  | safetyScan (pair : Nat)
  /-- SAFETY_ROW_TIMER_EXPIRY (R400): An ON_DELAY or OFF_DELAY row's TIME elapses and its result changes. -/
  | safetyRowTimerExpiry (pair row : Nat)
  /-- SOUT_READBACK_FAULT (R397): Readback disagrees with the command for 1 ms and SOUT_STUCK_ON or SOUT_STUCK_OFF is raised. -/
  | soutReadbackFault (n : Nat)
  /-- SOUT_TEST_PULSE (R398): TP_PERIOD after the last test, an on output is pulsed low, or the test is deferred. -/
  | soutTestPulse (n : Nat)
  /-- SOUT_TEST_PULSE_END (R398): The test pulse ends and the output is driven high again. -/
  | soutTestPulseEnd (n : Nat) (low : Bool)
  /-- SOUT_TEST_JUDGE (R398): 200 µs after the pulse, the test is judged passed, failed or stuck off. -/
  | soutTestJudge (n : Nat) (high : Bool)
  /-- FAST_CLEAR (R404): A Warden write of SAFE_FAST_CLR ends a fast action when DEMAND is 0. -/
  | fastClear (w : Writer) (v : Word)
  /-- WARDEN_KICK (R406): An in-service pair pulses KICK every 100 µs to restart the latch watchdog. -/
  | wardenKick (pair : Nat)
  /-- SAFE_TABLE_WRITE (R408): Loads a new safety logic table into both pairs and MRAM. -/
  | safeTableWrite (c : Cmd)
  /-- SAFE_IO_STATUS (R408): Returns the safety input and output status. -/
  | safeIoStatus (c : Cmd)
  /-- TALLY_WATCHDOG_EXPIRY (R419): No PDU accepted within WD_TIME puts the connection in SAFE with CAUSE 4. -/
  | tallyWatchdogExpiry (pair c : Nat)
  /-- TALLY_TRANSMIT (R424): A transmitting connection builds and sends one PDU every PERIOD. -/
  | tallyTransmit (c : Nat)
  /-- TALLY_ENABLE (R420): A write of EN opens a connection at WAIT or RUN, or is refused with CFG_ERR. -/
  | tallyEnable (w : Writer) (c : Nat) (v : Word)
  /-- TALLY_REARM (R425): Moves a SAFE connection to WAIT. -/
  | tallyRearm (c : Cmd)
  /-- TALLY_TX_SET (R425): Sets the owner's transmit image for a connection. -/
  | tallyTxSet (c : Cmd)
  /-- TALLY_READ (R425): Returns a connection's status and its received data. -/
  | tallyRead (c : Cmd)
  /-- LEDGER_RECORD (R431): A ledger record arrives at Landing 0 and is logged, reported and queued, or handled at once. -/
  | ledgerRecord (r : Option RecIn) (written : Nat)
  /-- LEDGER_RECORD_START (R431): A queued S1 or S2 record starts its handling, with its Banister, limit and mode actions done within 180 µs. -/
  | ledgerRecordStart (cut : Bool)
  /-- LOG_READ (R435): Copies a span of logged records to host memory. -/
  | logRead (c : Cmd)
  /-- LOG_ERASE (R435): Clears the MRAM log in SERVICE. -/
  | logErase (c : Cmd)
  /-- FAULT_CLEAR (R435): Releases FAULT_N outside SAFE_STOP. -/
  | faultClear (c : Cmd)
  /-- COMM_AUTH (R441): Checks the commissioning authorisation code and grants a 10 s authorisation. -/
  | commAuth (c : Cmd)
  /-- COMM_CHECK (R440): Recomputes the parameter-set check value and clears CHANGED. -/
  | commCheck (c : Cmd)
  /-- COMM_CONFIRM (R440): Confirms the check value, records the straps and warm-resets to BOOT. -/
  | commConfirm (c : Cmd)
  /-- PCIE_LINK_UP (R62): A PCIe port finishes training and its link counts as up, with CLK_HOST set for the generation. -/
  | pcieLinkUp (port gen : Nat) (x2 : Bool)
  /-- PCIE_LINK_DOWN (R446): A PCIe link leaves L0 for Detect; 0x1401 is raised and ownership loss follows for an owner. -/
  | pcieLinkDown (port : Nat)
  /-- ETH_FRAME_RX (R448): A received Ethernet frame is sorted by EtherType into Tally, time sync, the service path or its channel. -/
  | ethFrameRx (m : Nat) (accept : Bool) (frame : List Byte)
  /-- ETH_LINK_DOWN (R459): An Ethernet link goes down and 0x1405 is raised. -/
  | ethLinkDown (m : Nat)
  /-- CAN_FRAME_RX (R450): A received CAN frame is stamped and matched to Tally tags or filters and stored in its channel. -/
  | canFrameRx (k id : Nat) (xtd hit : Bool) (data : List Byte) (tec rec : Nat)
  /-- CAN_BUS_OFF (R451): A controller reaches bus-off, stops transmitting and raises 0x1404. -/
  | canBusOff (k tec rec : Nat)
  /-- CAN_BUS_OFF_RECOVERY (R451): After 128 recessive sequences with AUTO_REC, the controller recovers and sends its queued frames. -/
  | canBusOffRecovery (k : Nat)
  /-- TIME_SYNC_MESSAGE (R453): A time message from the source steps or slews ATIME and updates LOCKED. -/
  | timeSyncMessage (path : Nat) (offset : Int)
  /-- TIME_UNSYNC (R453): Three sync intervals lost, or an offset above 100 µs, clears LOCKED and raises 0x1403. -/
  | timeUnsync (offset : Option Int)
  /-- GL_TIME_SEND (R452): Every 1 ms a port with GM set sends a Gallery Link time frame. -/
  | glTimeSend (p : Nat)
  /-- GL_FRAME_RX (R455): A Gallery Link frame is checked and delivered locally or forwarded by the route table. -/
  | glFrameRx (p tag : Nat) (frame : List Byte)
  /-- GL_PORT_DOWN (R459): A Gallery Link port goes down and 0x1402 is raised. -/
  | glPortDown (p : Nat)
  /-- CLOCK_MONITOR_TRIP (R29): A clock comparison over 10 µs deviates beyond its tolerance and triggers the clock-loss reaction. -/
  | clockMonitorTrip (trips : Nat)
  /-- REGISTER_WRITE (R464): A write to a register with no row of its own applies field by field under rights, types and conditions. -/
  | registerWrite (w : Writer) (addr : Nat) (v : Word)
  /-- ILLEGAL_INSTR (R192): A field engine issues an unlisted opcode, or its program counter steps past word 1,023; the tick misses and 0x0803 is raised. -/
  | illegalInstr (n : Nat)
  /-- ETH_LINK_UP (R447): An Ethernet MAC's PHY link comes up, at a rate adapted from the in-band word, and LINK_STATUS.ETH_UP sets. -/
  | ethLinkUp (m : Nat)
  /-- GL_LINK_TRAINED (R454): A Gallery Link port finishes link training, GL_UP sets and the port may send frames and run the neighbour exchange. -/
  | glLinkTrained (p : Nat)
  /-- RAIL_WAIT_EXPIRY (R73): The rail wait after power-on or a wake runs out with rails not good; RAIL_EN goes low, RAIL_FAIL is set and the part stays in HIBERNATE. -/
  | railWaitExpiry
  /-- RESET_PIN (R60): A RESET_N low outlasts the 36-cycle CLK_SAFE count and asserts the warm reset source PIN. -/
  | resetPin
  /-- WAKE_TIMER_EXPIRY (R70): The HIBERNATE wake timer reaches its count and wakes the part with TIMER set. -/
  | wakeTimerExpiry
  /-- EARLY_WAKE_DELAY_EXPIRY (R72): The 20 ms RAIL_EN low time after an early wake ends and RAIL_EN rises for a clean power cycle. -/
  | earlyWakeDelayExpiry
  /-- DEGRADED_TIMER_EXPIRY (R44): The DEGRADED timer expires; the ELX ramps to SAFE_STOP, enters SAFE_STOP at once, or takes no action, according to the mode. -/
  | degradedTimerExpiry
  /-- DEGRADED_TIMER (R50): The DEGRADED_TIMER event falls due every 5 s and reports the time remaining. -/
  | degradedTimer
  /-- DISC_LINK_WAIT_EXPIRY (R78): LINK_WAIT expires without UV clearing, so the winding items become NOT_MEASURED. -/
  | discLinkWaitExpiry
  /-- DESCRIPTOR_FETCH (R90): The ring engine issues a read of up to eight descriptors in ring order, by priority and round-robin. -/
  | descriptorFetch
  /-- RESULT_INTAKE (R103): A finished operation's result enters its Gallery's collector intake queue, or is marked pending. -/
  | resultIntake
  /-- COMPLETION_ISSUE (R103): The collector issues a completion entry into a running ring with a free slot, or holds it. -/
  | completionIssue
  /-- EVENT_DELIVERY (R109): An event is written to each matching event ring, or dropped and counted when the ring is full. -/
  | eventDelivery
  /-- CLAIM_WINDOW_CLOSE (R119): The 20 ms claim window closes; the highest-priority claim wins, or STATE becomes FINAL. -/
  | claimWindowClose
  /-- OWNERSHIP_PASS (R122): Ownership passes at the later of confirmation and the old owner's last Class I or R result. -/
  | ownershipPass
  /-- STEWARD_SUCCESSOR_CONFIRM (R125): The Steward cluster named as successor confirms within 1 ms and ownership passes with STATE FINAL. -/
  | stewardSuccessorConfirm
  /-- HANDOVER_HOLD_EXPIRY (R123): 2 ms after OWN_HANDOVER without a pass, traction ramps to zero and the charger falls to safe defaults. -/
  | handoverHoldExpiry
  /-- HANDOVER_CONFIRM_TIMEOUT (R124): No valid confirmation within 50 ms; ownership reverts, or a window opens if the owner was lost. -/
  | handoverConfirmTimeout
  /-- HEARTBEAT_TIMEOUT (R126): The owner heartbeat runs out; the owner is lost, the Stewards take over and a claim window opens. -/
  | heartbeatTimeout
  /-- SERVICE_REQUEST (R449): A service-path Ethernet frame reads or writes set-up registers under R128 and is answered. -/
  | serviceRequest
  /-- SCRUB_PRIORITY_WRITEBACK (R156): A word queued by a correcting read is written back within 1 µs. -/
  | scrubPriorityWriteback
  /-- OV2_RESTORE (R283): After 10 ms below OV2 − HYST, the commissioned T_GEN_MAX is restored. -/
  | ov2Restore
  /-- CHOPPER_BUDGET (R287): Chopper on-time over the 1 s window exceeds BUDGET; the chopper is held off and 0x1115 is raised. -/
  | chopperBudget
  /-- DCL_MON_COMPARE (R282): Every 1 ms the Wardens compare the monitor with channel 95 and raise 0x1116 after 10 mismatches. -/
  | dclMonCompare
  /-- SELECTOR_EVALUATION (R289): Every 100 µs the selector chooses ASC or STO per set and updates the forces of sets out of operation. -/
  | selectorEvaluation
  /-- OV3_LATCH_RELEASE (R285): The Wardens assert the selector's state and then clear the OV3 latch while below OV1 − HYST. -/
  | ov3LatchRelease
  /-- SYNC_LOST (R303): No valid edge within two periods; SYNC_LOST is raised and the carrier glides to INT_FREQ. -/
  | syncLost
  /-- CONV_START (R307): The Wardens start the converter: START_SEQ advances and STATE becomes SOFT_START. -/
  | convStart
  /-- CONV_SHORT (R309): The output stays below 30 % of V_RAMP for 1 ms; the converter stops and a retry or latch follows. -/
  | convShort
  /-- CONV_RETRY_WAIT_EXPIRY (R309): 200 ms after a short stop, the Wardens retry the start. -/
  | convRetryWaitExpiry
  /-- CONV_OVP (R310): Output overvoltage drives every converter pad low and latches with 0x0D03. -/
  | convOvp
  /-- CONV_VOUT_ABSENT (R296): An output-voltage sample STALE in two ticks stores zero duty and raises 0x0850. -/
  | convVoutAbsent
  /-- LV_BATTERY_ABSENT (R332): An absent LV battery raises 0x0861 and puts the LV phase in HELD. -/
  | lvBatteryAbsent
  /-- LV_VSET_FORWARD (R327): The charge manager writes LV_VSET to FE_4 word 336 within 40 µs of a change. -/
  | lvVsetForward
  /-- SUPPLY_OVERLOAD (R333): Output below 0.8 × SUP_V for 1 s stops the supply and raises 0x0E05. -/
  | supplyOverload
  /-- PARK_VERIFIED (R345): Park engage or release conditions have held for SETTLE; PARK and the holds are updated and PARK_STATE is raised. -/
  | parkVerified
  /-- PARK_FAIL (R345): Park engage or release not verified within TIMEOUT raises 0x0F10. -/
  | parkFail
  /-- PARK_RECHECK (R346): Every 10 ms the Wardens re-check an engaged lock and raise PARK_LOST when it drifts. -/
  | parkRecheck
  /-- REF_FAULT (R367): REF_RDY falls while enabled and the Wardens raise the S2 record 0x0C01. -/
  | refFault
  /-- DBG_MEM_READ (R468): A DBG_DATA read returns the word at ADDR. -/
  | dbgMemRead
  /-- DBG_REG_READ (R468): A DBG_REG_DATA read returns register INDEX of the target. -/
  | dbgRegRead
  /-- SAFE_LATCH_FIRE (R407): The safe-state latch fires on loss of both pairs or watchdog expiry and forces the safe pad states. -/
  | safeLatchFire
  /-- LEDGER_MRAM_WRITE (R433): A buffered record is written to the MRAM log, freeing a buffer place. -/
  | ledgerMramWrite
  /-- COMM_AUTH_EXPIRY (R441): The 10 s commissioning authorisation ends. -/
  | commAuthExpiry
  deriving DecidableEq, Repr

end Sys2Proof
end

