-- ==== Sys2Proof/Config.lean ====
section
/-! DEFINITION. The free values: what the spec leaves open. Each is a constant with no body, so a statement holds for every value of it. -/

namespace Sys2Proof

/-- A value the spec leaves open: which value it is (`tag`), and the draw, the state's free counter or an operand (log 20). -/
opaque Config.freeWord (tag draw : Nat) : Word

/-- The bytes of the parameter set as it is stored (R439): the spec gives the algorithm of the check value and not the stored order of the
set, so the bytes are an unknown function of the set's content, listed in the model's order (log 21). -/
opaque Config.setBytes : List Nat → List Byte

/-- The bits of a float result that IEEE 754 and R167 leave open, as a function of the operation and its operands (log 23). -/
opaque Config.openFloat (op : Nat) (a b : Word) : Word

/-- The words of the two discovery records in host memory (R82): the spec gives no layout, so each word is an unknown function of the
records' contents, listed in the model's order, and of its place (log 43). -/
opaque Config.recordWord : List Nat → Nat → Word

/-- The words of the vendor's loop programs (R195), by program and address: the spec gives their number and not their content (log 29). -/
opaque Config.vendorWord (prog at_ : Nat) : Word

end Sys2Proof
end

