-- ==== Sys2Proof/Machine/Bits.lean ====
section
/-! DEFINITION. Bit fields, sign extension and byte order: the helpers every family of the model uses. -/

namespace Sys2Proof.Machine

/-- The 32-bit word of a number. -/
def w32 (n : Nat) : Word := BitVec.ofNat 32 n

/-- Bits `hi` down to `lo` of a word, as a number. -/
def bitsOf (w : Word) (hi lo : Nat) : Nat := (w.toNat >>> lo) % 2 ^ (hi + 1 - lo)

/-- Bit `b` of a word. -/
def bitOf (w : Word) (b : Nat) : Bool := bitsOf w b b == 1

/-- `w` with bits `hi` down to `lo` replaced by the low bits of `v`. -/
def withBits (w : Word) (hi lo v : Nat) : Word :=
  w32 (w.toNat - bitsOf w hi lo * 2 ^ lo + (v % 2 ^ (hi + 1 - lo)) * 2 ^ lo)

/-- 1 for true, 0 for false. -/
def bit (b : Bool) : Nat := if b then 1 else 0

/-- Bit `b` of a number. -/
def natBit (n b : Nat) : Bool := (n >>> b) % 2 == 1

/-- `n` with bit `b` set to `v`. -/
def natSetBit (n b : Nat) (v : Bool) : Nat :=
  n - bit (natBit n b) * 2 ^ b + bit v * 2 ^ b

/-- A list of bits, bit 0 first, as a number. -/
def packBits : List Bool → Nat
  | [] => 0
  | b :: t => bit b + 2 * packBits t

/-- The signed value of the low `w` bits of `n`. -/
def signedOf (w n : Nat) : Int :=
  if n % 2 ^ w < 2 ^ (w - 1) then Int.ofNat (n % 2 ^ w) else Int.ofNat (n % 2 ^ w) - Int.ofNat (2 ^ w)

/-- The low `w` bits of a two's complement value. -/
def toBits (w : Nat) (z : Int) : Nat := (z % Int.ofNat (2 ^ w)).toNat

/-- `v` held between 0 and the largest number of `w` bits (a saturating counter of the spec). -/
def satTo (w v : Nat) : Nat := min v (2 ^ w - 1)

/-- The absolute difference of two numbers. -/
def natDist (a b : Nat) : Nat := (a - b) + (b - a)

/-- The `n` bytes of `v`, least significant first (the byte order of every format of the spec). -/
def leBytes : Nat → Nat → List Byte
  | 0, _ => []
  | n + 1, v => BitVec.ofNat 8 v :: leBytes n (v / 256)

/-- The number whose bytes, least significant first, are given. -/
def leNat : List Byte → Nat
  | [] => 0
  | b :: t => b.toNat + 256 * leNat t

/-- `n` bytes from position `i` as a number, least significant first; bytes past the end count as zero. -/
def fieldAt (bs : List Byte) (i n : Nat) : Nat := leNat ((bs.drop i).take n)

/-- The four bytes of a word. -/
def wordBytes (w : Word) : List Byte := leBytes 4 w.toNat

/-- A 64-bit result of two words, the first in bytes 0-3. -/
def pair64 (lo hi : Nat) : Nat := lo % 2 ^ 32 + (hi % 2 ^ 32) * 2 ^ 32

end Sys2Proof.Machine
end

