-- ==== Sys2Proof/Machine/Float.lean ====
section
/-! DEFINITION. Float arithmetic of R167 (09_field_engines.md): IEEE 754 binary32 in exact integers with one rounding,
round-to-nearest-even, subnormal operands and results flushed to zero of the same sign. -/

namespace Sys2Proof.Machine

/-- A binary32 value is held as its 32-bit image. -/
abbrev F32 := Word

/-- Sign bit, exponent field and mantissa field. -/
def fSign (a : F32) : Bool := bitOf a 31
def fExp (a : F32) : Nat := bitsOf a 30 23
def fMan (a : F32) : Nat := bitsOf a 22 0

def fIsNaN (a : F32) : Bool := fExp a == 255 && fMan a != 0
def fIsInf (a : F32) : Bool := fExp a == 255 && fMan a == 0
def fFinite (a : F32) : Bool := fExp a != 255

/-- The operand is zero, or a subnormal that is flushed to zero. -/
def fIsZero (a : F32) : Bool := fExp a == 0

/-- Zero and infinity of a sign. -/
def fZero (s : Bool) : F32 := w32 (bit s * 2 ^ 31)
def fInf (s : Bool) : F32 := w32 (bit s * 2 ^ 31 + 0x7F800000)

/-- An operand with a subnormal flushed to zero of the same sign. -/
def fFlush (a : F32) : F32 := if fIsZero a then fZero (fSign a) else a

/-- A NaN result: a quiet NaN whose sign and payload R167 leaves open (log 23). -/
def fNaN (op : Nat) (a b : F32) : F32 := (Config.openFloat op a b) ||| 0x7FC00000#32

/-- The integer significand of a finite operand: its value is `±fSig * 2 ^ fPow`. -/
def fSig (a : F32) : Nat := if fIsZero a then 0 else 2 ^ 23 + fMan a
def fPow (a : F32) : Int := if fIsZero a then -149 else Int.ofNat (fExp a) - 150

/-- The binary32 nearest to `±m * 2 ^ e`, ties to even; an overflow gives infinity, a subnormal result zero. -/
def fRound (s : Bool) (m : Nat) (e : Int) : F32 :=
  if m = 0 then fZero s
  else
    let q : Int := max (Int.ofNat (Nat.log2 m) + e - 23) (-149)
    let sig :=
      if q ≤ e then m * 2 ^ (e - q).toNat
      else
        let k := (q - e).toNat
        let t := m / 2 ^ k
        let r := m % 2 ^ k
        let h := 2 ^ (k - 1)
        if h < r || (r == h && t % 2 == 1) then t + 1 else t
    if sig < 2 ^ 23 then fZero s
    else
      let body := (q + 149).toNat * 2 ^ 23 + sig
      if 0x7F800000 ≤ body then fInf s else w32 (bit s * 2 ^ 31 + body)

/-- The binary32 nearest to an integer times a power of two; `z` is the sign of a zero result. -/
def fOfScaled (z : Bool) (v : Int) (e : Int) : F32 :=
  if v = 0 then fZero z else fRound (decide (v < 0)) v.natAbs e

/-- A finite operand's significand with its sign. -/
def fInt (a : F32) : Int := if fSign a then - Int.ofNat (fSig a) else Int.ofNat (fSig a)

/-- `x * 2 ^ p + y * 2 ^ q` rounded once. -/
def fSumExact (z : Bool) (x p y q : Int) : F32 :=
  let e := min p q
  fOfScaled z (x * 2 ^ (p - e).toNat + y * 2 ^ (q - e).toNat) e

/-- fa + fb. -/
def fAdd (a b : F32) : F32 :=
  if fIsNaN a || fIsNaN b then fNaN 2 a b
  else if fIsInf a then (if fIsInf b && fSign a != fSign b then fNaN 2 a b else a)
  else if fIsInf b then b
  else fSumExact (fSign a && fSign b) (fInt a) (fPow a) (fInt b) (fPow b)

/-- −fa; a subnormal gives zero. -/
def fNeg (a : F32) : F32 := if fIsZero a then fZero (!fSign a) else a ^^^ 0x80000000#32

/-- |fa|; a subnormal gives zero. -/
def fAbs (a : F32) : F32 := if fIsZero a then fZero false else a &&& 0x7FFFFFFF#32

/-- fa − fb. -/
def fSub (a b : F32) : F32 :=
  if fIsNaN a || fIsNaN b then fNaN 3 a b else fAdd a (fNeg b)

/-- fa × fb. -/
def fMul (a b : F32) : F32 :=
  let s := fSign a != fSign b
  if fIsNaN a || fIsNaN b then fNaN 4 a b
  else if fIsInf a || fIsInf b then (if fIsZero a || fIsZero b then fNaN 4 a b else fInf s)
  else fRound s (fSig a * fSig b) (fPow a + fPow b)

/-- c + fa × fb with a single rounding. -/
def fMac (c a b : F32) : F32 :=
  let s := fSign a != fSign b
  if fIsNaN a || fIsNaN b || fIsNaN c then fNaN 5 (fMul a b) c
  else if fIsInf a || fIsInf b then
    (if fIsZero a || fIsZero b || (fIsInf c && fSign c != s) then fNaN 5 (fMul a b) c else fInf s)
  else if fIsInf c then c
  else fSumExact (s && fSign c) (fInt a * fInt b) (fPow a + fPow b) (fInt c) (fPow c)

/-- fa / fb, correctly rounded. -/
def fDiv (a b : F32) : F32 :=
  let s := fSign a != fSign b
  if fIsNaN a || fIsNaN b then fNaN 15 a b
  else if fIsInf a then (if fIsInf b then fNaN 15 a b else fInf s)
  else if fIsInf b then fZero s
  else if fIsZero b then (if fIsZero a then fNaN 15 a b else fInf s)
  else
    let n := fSig a * 2 ^ 50
    let q := n / fSig b
    fRound s (2 * q + (if n % fSig b = 0 then 0 else 1)) (fPow a - fPow b - 51)

/-- The integer square root, one bit of the result at a time. -/
def natSqrt (n : Nat) : Nat → Nat → Nat
  | 0, r => r
  | k + 1, r =>
    let t := r + 2 ^ k
    natSqrt n k (if t * t ≤ n then t else r)

/-- √fa, correctly rounded; the root of a negative number is a NaN, and √−0 is −0. -/
def fSqrt (a : F32) : F32 :=
  if fIsNaN a then fNaN 14 a a
  else if fIsZero a then fZero (fSign a)
  else if fSign a then fNaN 14 a a
  else if fIsInf a then a
  else
    let odd := (fPow a) % 2 ≠ 0
    let m := (if odd then 2 * fSig a else fSig a) * 2 ^ 40
    let e := (if odd then fPow a - 1 else fPow a) - 40
    let r := natSqrt m 34 0
    fRound false (2 * r + (if r * r = m then 0 else 1)) (e / 2 - 1)

/-- A number whose order is the order of the operands: equal zeros compare equal. -/
def fKey (a : F32) : Int := if fIsZero a then 0 else if fSign a then - Int.ofNat (bitsOf a 30 0) else Int.ofNat (bitsOf a 30 0)

/-- IEEE 754 order of two operands neither of which is a NaN; with a NaN no order holds. -/
def fLt (a b : F32) : Bool := !fIsNaN a && !fIsNaN b && decide (fKey a < fKey b)
def fLe (a b : F32) : Bool := !fIsNaN a && !fIsNaN b && decide (fKey a ≤ fKey b)
def fEq (a b : F32) : Bool := !fIsNaN a && !fIsNaN b && decide (fKey a = fKey b)

/-- The smaller operand; a NaN operand gives a NaN. Which zero comes out of +0 and −0 is open (log 23). -/
def fMin (a b : F32) : F32 :=
  if fIsNaN a || fIsNaN b then fNaN 6 a b
  else if fLt a b then fFlush a else if fLt b a then fFlush b
  else if fIsZero a && fSign a != fSign b then fZero (fSign (Config.openFloat 6 a b)) else fFlush a

/-- The larger operand; a NaN operand gives a NaN. -/
def fMax (a b : F32) : F32 :=
  if fIsNaN a || fIsNaN b then fNaN 7 a b
  else if fLt b a then fFlush a else if fLt a b then fFlush b
  else if fIsZero a && fSign a != fSign b then fZero (fSign (Config.openFloat 7 a b)) else fFlush a

/-- `x` held between two limits; a NaN, of the value or of a limit, gives a NaN, and a subnormal is flushed. -/
def fClamp (x lo hi : F32) : F32 :=
  if fIsNaN x || fIsNaN lo || fIsNaN hi then fNaN 8 x lo else if fLt x lo then fFlush lo else if fLt hi x then fFlush hi else fFlush x

/-- FCMP of R178: −1, 0, +1, or 2 when unordered. -/
def fCmp (a b : F32) : Int :=
  if fIsNaN a || fIsNaN b then 2 else if fLt a b then -1 else if fLt b a then 1 else 0

/-- `n / d` rounded to the nearest integer, ties to even. -/
def divNearest (n d : Nat) : Nat :=
  let t := n / d
  let r := n % d
  if d < 2 * r || (2 * r == d && t % 2 == 1) then t + 1 else t

/-- FTOI of R178: nearest integer, saturated to 32 bits; a NaN gives 0. -/
def fToInt (a : F32) : Int :=
  if fIsNaN a then 0
  else if fIsInf a then (if fSign a then -2147483648 else 2147483647)
  else
    let m := if 0 ≤ fPow a then fSig a * 2 ^ (fPow a).toNat else divNearest (fSig a) (2 ^ (-fPow a).toNat)
    let v : Int := if fSign a then - Int.ofNat m else Int.ofNat m
    max (-2147483648) (min 2147483647 v)

/-- The binary32 nearest to an integer. -/
def fOfInt (v : Int) : F32 := fOfScaled false v 0

/-- The binary32 nearest to a natural number. -/
def fOfNat (n : Nat) : F32 := fRound false n 0

/-- The binary32 nearest to `n / d` for a positive `d`. -/
def fOfRatio (n d : Nat) : F32 :=
  let q := n * 2 ^ 200 / d
  fRound false (2 * q + (if n * 2 ^ 200 % d = 0 then 0 else 1)) (-201)

/-- Constants of the transforms and of the angle units: 1, 2, 1/2, √3, √3/2, π, 2π. -/
def fOne : F32 := 0x3F800000#32
def fTwo : F32 := 0x40000000#32
def fHalf : F32 := 0x3F000000#32
def fRoot3 : F32 := 0x3FDDB3D7#32
def fRoot3Half : F32 := 0x3F5DB3D7#32
def fPi : F32 := 0x40490FDB#32
def fTwoPi : F32 := 0x40C90FDB#32

/-- An angle wrapped into ±π by one turn. -/
def fWrap (a : F32) : F32 := if fLt fPi a then fSub a fTwoPi else if fLt a (fNeg fPi) then fAdd a fTwoPi else a

/-- 2π in units of 2⁻¹⁰⁰. -/
def twoPi100 : Int := 0x6487ED5110B4611A62633145C0

/-- A finite operand in units of 2⁻¹⁰⁰, reduced into 0 to 2π. -/
def fAngle100 (a : F32) : Int :=
  let v := if -100 ≤ fPow a then fInt a * 2 ^ (fPow a + 100).toNat else fInt a / 2 ^ (-100 - fPow a).toNat
  v % twoPi100

/-- The Taylor sum of sine (from `t = x`, `k = 1`) or cosine (from `t = 1`, `k = 0`), in units of 2⁻¹⁰⁰, with `x2 = x²`. -/
def taylorSum (x2 : Int) : Nat → Int → Int → Int
  | 0, _, _ => 0
  | n + 1, t, k => t + taylorSum x2 n (-(t * x2 / 2 ^ 100) / ((k + 1) * (k + 2))) (k + 2)

/-- Sine (`c = 0`) or cosine (`c = 1`) of an angle in units of 2⁻¹⁰⁰, in the same units; the angle lies in 0 to 2π. -/
def trig100 (x : Int) (c : Nat) : Int :=
  let x2 := x * x / 2 ^ 100
  if c = 0 then taylorSum x2 30 x 1 else taylorSum x2 30 (2 ^ 100) 0

/-- A finite value lies within 2⁻²¹ of `y`, in units of 2⁻¹⁰⁰; the margin covers the error of `y` itself. -/
def fNear (v : F32) (y : Int) : Bool := fFinite v && decide ((fInt v * 2 ^ (fPow v + 149).toNat - y * 2 ^ 49).natAbs ≤ (2 ^ 79 - 2 ^ 20) * 2 ^ 49)

/-- SINCOS of R180: a value within 2⁻²¹ of the true one for |fa| ≤ 2¹⁶, which value the spec leaves open; for a larger argument, whose
reduction loses accuracy without a bound, some value of −1 to 1 (log 23). -/
def fTrig (a : F32) (c : Nat) : F32 :=
  let o := fFlush (Config.openFloat 13 a (w32 c))
  if !fFinite a then fNaN 13 a (w32 c)
  else if fLe (fAbs a) 0x47800000#32 then
    let y := trig100 (fAngle100 a) c
    if fNear o y then o else fOfScaled false y (-100)
  else if fIsNaN o then fZero false
  else fClamp o (fNeg fOne) fOne

def fSin (a : F32) : F32 := fTrig a 0
def fCos (a : F32) : F32 := fTrig a 1

/-- The angle of the vector (x, y) in −π to π; the spec does not give the digits a program's atan2 yields (log 34). -/
def fAtan2 (y x : F32) : F32 :=
  let o := Config.openFloat 40 y x
  if fIsNaN y || fIsNaN x then fNaN 40 y x else if fIsNaN o then fZero false else fClamp o (fNeg fPi) fPi

/-- The sign of a value as ±1.0; zero counts as positive. -/
def fSgn (a : F32) : F32 := if fLt a (fZero false) then fNeg fOne else fOne

/-- √(x² + y²). -/
def fHyp (x y : F32) : F32 := fSqrt (fAdd (fMul x x) (fMul y y))

/-- `m` / √(x² + y²), rounded once, for a vector that is not zero (R188). -/
def fOverNorm (m x y : F32) : F32 :=
  if fIsNaN m || fIsNaN x || fIsNaN y then fNaN 37 m (fAdd x y)
  else if fIsInf x || fIsInf y then (if fIsInf m then fNaN 37 m (fAdd x y) else fZero (fSign m))
  else if fIsInf m then m
  else
    let e := min (fPow x) (fPow y)
    let n := (fInt x * 2 ^ (fPow x - e).toNat).natAbs ^ 2 + (fInt y * 2 ^ (fPow y - e).toNat).natAbs ^ 2
    let q := fSig m ^ 2 * 2 ^ 1200 / n
    let r := natSqrt q (Nat.log2 q / 2 + 1) 0
    fRound (fSign m) (2 * r + (if r * r = q ∧ fSig m ^ 2 * 2 ^ 1200 % n = 0 then 0 else 1)) (fPow m - e - 601)

/-- A first-order filter: `y` moves towards `x` by Ts / (Ts + τ). -/
def fFilter (y x ts tau : F32) : F32 := fAdd y (fMul (fDiv ts (fAdd ts tau)) (fSub x y))

/-- The sum of two values, rounded in list order. -/
def fSum : List F32 → F32
  | [] => fZero false
  | a :: t => fAdd a (fSum t)

end Sys2Proof.Machine
end

