-- ==== Sys2Proof/Machine/Ecc.lean ====
section
/-! DEFINITION. The check code of an SRAM word (R148, R149, 08_stored_data_integrity.md). R148 gives the weights of the columns and not the
columns themselves: they are drawn, all different, from the columns of those weights by free values (log 65). -/

namespace Sys2Proof.Machine

/-- The bits set among the lowest `n` of a number. -/
def weight : Nat → Nat → Nat
  | 0, _ => 0
  | n + 1, v => v % 2 + weight n (v / 2)

/-- The columns a data bit may have, of weight 3 or 5, and an address bit, of weight 4 (R148). -/
def dataCands : List Nat := (List.range 256).filter fun c => weight 8 c = 3 || weight 8 c = 5
def addrCands : List Nat := (List.range 256).filter fun c => weight 8 c = 4

/-- `n` members of a list, drawn one after the other without return. -/
def draw (f : Nat → Nat) : Nat → List Nat → List Nat
  | 0, _ => []
  | n + 1, l =>
    match l[f n % l.length]? with
    | some c => c :: draw f n (l.erase c)
    | none => []

/-- The columns of the 64 data bits and of the 20 word-address bits O[22:3]; check bit `k` has the column 2^k (R148). -/
def dataCols : List Nat := draw (fun n => (Config.freeWord 0x79 n).toNat) 64 dataCands
def addrCols : List Nat := draw (fun n => (Config.freeWord 0x7A n).toNat) 20 addrCands

/-- The sum, without carry, of the columns of the bits set in a number. -/
def xorCols : List Nat → Nat → Nat
  | [], _ => 0
  | c :: t, v => (if v % 2 = 1 then c else 0) ^^^ xorCols t (v / 2)

/-- The eight check bits of 64 data bits at word address `w` (R148). -/
def checkBits (data w : Nat) : Nat := xorCols dataCols data ^^^ xorCols addrCols w

/-- The syndrome of a stored word of which the bits `flips` (data in 0 to 63, check bits in 64 to 71) are wrong, reached with the word-address
bits `addr` wrong. -/
def syndromeOf (flips addr : Nat) : Nat :=
  if flips = 0 ∧ addr = 0 then 0 else (flips / 2 ^ 64 % 256) ^^^ xorCols dataCols (flips % 2 ^ 64) ^^^ xorCols addrCols addr

/-- CLASS of a syndrome (R149); 6 is no matter of the syndrome. -/
def classOf (syn : Nat) : Nat :=
  if syn = 0 then 0
  else if dataCols.contains syn then 1
  else if weight 8 syn = 1 then 2
  else if addrCols.contains syn then 4
  else if weight 8 syn % 2 = 0 then 3
  else 5

/-- The bit, of the 72, that the correction of a syndrome inverts. -/
def fixOf (syn : Nat) : Nat :=
  if dataCols.contains syn then 2 ^ dataCols.idxOf syn else if weight 8 syn = 1 then 2 ^ 64 * syn else 0

end Sys2Proof.Machine
end

