-- ==== Sys2Proof/Machine/RegMap.lean ====
section
/-! DEFINITION. The register map of spec/24_register_map.md: every register's address, fields, types and reset value,
taken from the register tables of chapters 02 to 24. -/

namespace Sys2Proof.Machine

/-- A field of a register: its address and its bits. -/
structure Fld where
  addr : Nat
  hi : Nat
  lo : Nat
  deriving DecidableEq, Repr

/-- The field types of R6 (00_scope.md). -/
inductive FType
  | rw | ro | wo | w1c | w1s | rws | rov
  deriving DecidableEq, Repr

/-- One row of a register's table: its bits and type (reserved rows are left out: R462). -/
structure FieldDef where
  hi : Nat
  lo : Nat
  ty : FType
  deriving DecidableEq, Repr

/-- The registers of the set-up map, one name for every numbered family (R460, 24_register_map.md),
the doorbells (R88) and the field-engine windows (R168, R194). -/
inductive RegName
  | r_SYS_MODE
  | r_SYS_MODE_CAUSE
  | r_SYS_MODE_CFG
  | r_PWR_STATUS
  | r_SYS_RESET_CAUSE
  | r_SYS_STRAP
  | r_PWR_WAKE_CFG
  | r_PWR_WAKE_TIMER
  | r_PWR_WAKE_STATUS
  | r_DISC_STATUS
  | r_DISC_CFG
  | r_DISC_ITEM_n_CFG
  | r_DISC_ITEM_n_STAT
  | r_RING_m_SEL
  | r_RING_m_BASE_LO
  | r_RING_m_BASE_HI
  | r_RING_m_CFG
  | r_RING_m_IRQ
  | r_RING_m_STAT
  | r_RING_m_TLM
  | r_RING_m_LOST
  | r_RING_m_CTRL
  | r_OWN_STATUS
  | r_OWN_NONCE
  | r_OWN_CFG
  | r_OWN_m_HB
  | r_OWN_SVC_STAT
  | r_STORE_STATUS
  | r_STORE_BUSY
  | r_STORE_PWR_CFG
  | r_STORE_BANK_PWR_k
  | r_STORE_BANK_STATE_k
  | r_MKT_STATUS
  | r_MKT_CH_n_QUOTA
  | r_MKT_CH_n_STAT
  | r_MKT_CH_n_RELEASE
  | r_STORE_ECC_STATUS
  | r_STORE_ERR_ADDR
  | r_STORE_ERR_INFO
  | r_STORE_SCRUB_CFG
  | r_STORE_BGT_CFG
  | r_STORE_BGT_STATUS
  | r_STORE_SPARE_k
  | r_MRAM_STATUS
  | r_MRAM_WEAR
  | r_FE_n_CTRL
  | r_FE_n_TICK
  | r_FE_n_STATUS
  | r_FE_n_TICKNO
  | r_FE_n_LOAD
  | r_FE_n_FAULT
  | r_FE_n_PLAUS_SEV
  | r_FE_n_PLAUS_STAT
  | r_EDGE_STATUS
  | r_EDGE_CFG
  | r_EDGE_CH_n_CFG
  | r_EDGE_CH_n_DT
  | r_EDGE_CH_n_STAT
  | r_EDGE_TB_n_CFG
  | r_EDGE_TB_n_HALF_A
  | r_EDGE_TB_n_HALF_B
  | r_EDGE_TB_n_SAMP
  | r_EDGE_FC_k_CFG
  | r_EDGE_FC_k_STAT
  | r_GATE_CFG
  | r_GATE_n_CFG
  | r_GATE_n_CAP
  | r_GATE_n_DELAY
  | r_GATE_n_STAT
  | r_FE_PAIR_CFG
  | r_EDGE_BAND_n_CFG
  | r_EDGE_BAND_n_STAT
  | r_EDGE_BAND_n_PRED
  | r_SAFE_DCL_CFG
  | r_SAFE_DCL_THR_A
  | r_SAFE_DCL_THR_B
  | r_SAFE_DCL_STATUS
  | r_SAFE_DCL_CHOP
  | r_SAFE_SEL_CFG
  | r_SAFE_SEL_STATE
  | r_CONV_CFG
  | r_CONV_STATUS
  | r_CONV_CTRL
  | r_CONV_SYNC_CFG
  | r_CONV_SYNC_STAT
  | r_CONV_BURST_CFG
  | r_CONV_PROT_CFG
  | r_CHG_STATUS
  | r_CHG_PILOT
  | r_CHG_PILOT_CFG
  | r_CHG_OVP
  | r_CHG_TIMERS
  | r_CHG_TIMER_STAT
  | r_CHG_DERATE_CFG
  | r_MOT_PARK_CFG
  | r_MOT_PARK_TOL
  | r_MOT_ENC_k_CFG
  | r_MOT_ENC_k_LINES
  | r_MOT_ENC_k_COUNT
  | r_MOT_ENC_k_STAT
  | r_MOT_ENC_k_INDEX
  | r_MOT_HALL_k_CFG
  | r_MOT_HALL_k_MAP
  | r_MOT_SENT_k_CFG
  | r_MOT_SENT_k_STAT
  | r_MOT_RES_k_CFG
  | r_MOT_EMU_k_CFG
  | r_ACQ_REF
  | r_ACQ_DIAG_CFG
  | r_ACQ_FC_k_CFG
  | r_ACQ_FC_k_CAL
  | r_ACQ_CH_n_CAL
  | r_ACQ_FC_k_SCALE
  | r_ACQ_CH_n_SCALE
  | r_ACQ_CH_n_LAST
  | r_ACQ_SEQ_s_CTRL
  | r_ACQ_SEQ_s_ENTRY_e
  | r_ACQ_SEQ_s_DELAY_e
  | r_ACQ_GRP_g_STAT
  | r_PAIR_STATUS
  | r_PAIR_W_k_CFG
  | r_PAIR_W_k_STAT
  | r_PAIR_W_k_RETIRED
  | r_PAIR_W_k_STALL
  | r_PAIR_CANARY
  | r_PAIR_DIV_INFO
  | r_PAIR_DIV_SIG_q
  | r_PAIR_SUP_CFG
  | r_PAIR_CHECKIN_j
  | r_SAFE_SIN_STATUS
  | r_SAFE_SOUT_STATUS
  | r_SAFE_LATCH
  | r_SAFE_WD_CFG
  | r_SAFE_FAST_CLR
  | r_SAFE_SIN_n_CFG
  | r_SAFE_SIN_n_MAP
  | r_SAFE_SOUT_n_CFG
  | r_TALLY_STATUS
  | r_TALLY_CFG
  | r_TALLY_CONN_c_CFG
  | r_TALLY_CONN_c_TIME
  | r_TALLY_CONN_c_ID
  | r_TALLY_CONN_c_TAG
  | r_TALLY_CONN_c_STAT
  | r_TALLY_CONN_c_LOST
  | r_LEDGER_STATUS
  | r_LEDGER_SEQ
  | r_LEDGER_DEGR_CFG
  | r_LEDGER_COMM_STATUS
  | r_LEDGER_COMM_CHECK
  | r_LEDGER_COMM_CONF
  | r_LEDGER_COMM_AUTH
  | r_LINK_STATUS
  | r_LINK_TIME_CFG
  | r_LINK_TIME_STAT
  | r_LINK_ETH_CFG
  | r_LINK_ETH_m_STAT
  | r_LINK_CAN_k_STAT
  | r_LINK_GL_CFG
  | r_LINK_GL_p_STAT
  | r_LINK_GL_ROUTE_a
  | r_SYS_ID
  | r_SYS_STEP
  | r_DBG_CTRL
  | r_DBG_STATUS
  | r_DBG_ADDR
  | r_DBG_DATA
  | r_DBG_REG_INDEX
  | r_DBG_REG_DATA
  | r_MOT_SENT_k_SLOW
  | r_DB_m_CMD
  | r_DB_m_CPL
  | r_DB_m_EVT
  | r_DB_m_TLM
  | r_FE_n_PARAM
  | r_FE_n_LOOP
  deriving DecidableEq, Repr

/-- A family of registers: instance `i` stands at `base + stride * i`. `first` is added to `i` where a family has two indices. -/
structure RegFam where
  name : RegName
  base : Nat
  stride : Nat
  count : Nat
  first : Nat
  reset : Nat
  fields : List FieldDef
  deriving DecidableEq, Repr

/-- SYS_MODE (R31, 02_operating_modes.md). -/
def R.SYS_MODE : Nat := 0x20
def R.SYS_MODE_TRANS_SEQ : Fld := ⟨R.SYS_MODE, 31, 24⟩
def R.SYS_MODE_IN_TRANSITION : Fld := ⟨R.SYS_MODE, 16, 16⟩
def R.SYS_MODE_TARGET : Fld := ⟨R.SYS_MODE, 15, 12⟩
def R.SYS_MODE_SUPPLY_BLOCK : Fld := ⟨R.SYS_MODE, 8, 8⟩
def R.SYS_MODE_CHARGE_BLOCK : Fld := ⟨R.SYS_MODE, 7, 7⟩
def R.SYS_MODE_DRIVE_BLOCK : Fld := ⟨R.SYS_MODE, 6, 6⟩
def R.SYS_MODE_DEGRADE_MARK : Fld := ⟨R.SYS_MODE, 5, 5⟩
def R.SYS_MODE_PARK : Fld := ⟨R.SYS_MODE, 4, 4⟩
def R.SYS_MODE_MODE : Fld := ⟨R.SYS_MODE, 3, 0⟩
/-- SYS_MODE_CAUSE (R31, 02_operating_modes.md). -/
def R.SYS_MODE_CAUSE : Nat := 0x24
def R.SYS_MODE_CAUSE_KIND : Fld := ⟨R.SYS_MODE_CAUSE, 27, 24⟩
def R.SYS_MODE_CAUSE_TO : Fld := ⟨R.SYS_MODE_CAUSE, 23, 20⟩
def R.SYS_MODE_CAUSE_FROM : Fld := ⟨R.SYS_MODE_CAUSE, 19, 16⟩
def R.SYS_MODE_CAUSE_LEDGER_CODE : Fld := ⟨R.SYS_MODE_CAUSE, 15, 0⟩
/-- SYS_MODE_CFG (R31, 02_operating_modes.md). -/
def R.SYS_MODE_CFG : Nat := 0x28
def R.SYS_MODE_CFG_EXIT_RAMP : Fld := ⟨R.SYS_MODE_CFG, 23, 16⟩
def R.SYS_MODE_CFG_STBY_SPEED_MAX : Fld := ⟨R.SYS_MODE_CFG, 9, 0⟩
/-- PWR_STATUS (R58, 03_supplies_reset_hibernate.md). -/
def R.PWR_STATUS : Nat := 0x10000
def R.PWR_STATUS_VIO_GOOD : Fld := ⟨R.PWR_STATUS, 15, 8⟩
def R.PWR_STATUS_LINK_GOOD : Fld := ⟨R.PWR_STATUS, 4, 4⟩
def R.PWR_STATUS_A_GOOD : Fld := ⟨R.PWR_STATUS, 3, 3⟩
def R.PWR_STATUS_SRAM_GOOD : Fld := ⟨R.PWR_STATUS, 2, 2⟩
def R.PWR_STATUS_CORE_GOOD : Fld := ⟨R.PWR_STATUS, 1, 1⟩
def R.PWR_STATUS_VIO_USED_LOCK : Fld := ⟨R.PWR_STATUS, 0, 0⟩
/-- SYS_RESET_CAUSE (R62, 03_supplies_reset_hibernate.md). -/
def R.SYS_RESET_CAUSE : Nat := 0x30
def R.SYS_RESET_CAUSE_WAKE : Fld := ⟨R.SYS_RESET_CAUSE, 9, 9⟩
def R.SYS_RESET_CAUSE_CMD : Fld := ⟨R.SYS_RESET_CAUSE, 8, 8⟩
def R.SYS_RESET_CAUSE_LEDGER : Fld := ⟨R.SYS_RESET_CAUSE, 7, 7⟩
def R.SYS_RESET_CAUSE_PIN : Fld := ⟨R.SYS_RESET_CAUSE, 6, 6⟩
def R.SYS_RESET_CAUSE_BOR_LINK : Fld := ⟨R.SYS_RESET_CAUSE, 5, 5⟩
def R.SYS_RESET_CAUSE_BOR_A : Fld := ⟨R.SYS_RESET_CAUSE, 4, 4⟩
def R.SYS_RESET_CAUSE_BOR_SRAM : Fld := ⟨R.SYS_RESET_CAUSE, 3, 3⟩
def R.SYS_RESET_CAUSE_BOR_CORE : Fld := ⟨R.SYS_RESET_CAUSE, 2, 2⟩
def R.SYS_RESET_CAUSE_POR : Fld := ⟨R.SYS_RESET_CAUSE, 0, 0⟩
/-- SYS_STRAP (R64, 03_supplies_reset_hibernate.md). -/
def R.SYS_STRAP : Nat := 0x34
def R.SYS_STRAP_CHANGED : Fld := ⟨R.SYS_STRAP, 16, 16⟩
def R.SYS_STRAP_LIVE : Fld := ⟨R.SYS_STRAP, 15, 8⟩
def R.SYS_STRAP_LATCHED : Fld := ⟨R.SYS_STRAP, 7, 0⟩
/-- PWR_WAKE_CFG (R69, 03_supplies_reset_hibernate.md). -/
def R.PWR_WAKE_CFG : Nat := 0x10010
def R.PWR_WAKE_CFG_FILTER : Fld := ⟨R.PWR_WAKE_CFG, 31, 24⟩
def R.PWR_WAKE_CFG_RAIL_TIMEOUT : Fld := ⟨R.PWR_WAKE_CFG, 23, 16⟩
def R.PWR_WAKE_CFG_EDGE : Fld := ⟨R.PWR_WAKE_CFG, 11, 4⟩
def R.PWR_WAKE_CFG_EN : Fld := ⟨R.PWR_WAKE_CFG, 3, 0⟩
/-- PWR_WAKE_TIMER (R69, 03_supplies_reset_hibernate.md). -/
def R.PWR_WAKE_TIMER : Nat := 0x10018
def R.PWR_WAKE_TIMER_SECONDS : Fld := ⟨R.PWR_WAKE_TIMER, 23, 0⟩
/-- PWR_WAKE_STATUS (R69, 03_supplies_reset_hibernate.md). -/
def R.PWR_WAKE_STATUS : Nat := 0x10014
def R.PWR_WAKE_STATUS_RAIL_FAIL : Fld := ⟨R.PWR_WAKE_STATUS, 7, 7⟩
def R.PWR_WAKE_STATUS_PIN_RESET : Fld := ⟨R.PWR_WAKE_STATUS, 6, 6⟩
def R.PWR_WAKE_STATUS_TIMER : Fld := ⟨R.PWR_WAKE_STATUS, 5, 5⟩
def R.PWR_WAKE_STATUS_EARLY : Fld := ⟨R.PWR_WAKE_STATUS, 4, 4⟩
def R.PWR_WAKE_STATUS_WAKE : Fld := ⟨R.PWR_WAKE_STATUS, 3, 0⟩
/-- DISC_STATUS (R81, 04_discovery.md). -/
def R.DISC_STATUS : Nat := 0x150000
def R.DISC_STATUS_DEVIATIONS : Fld := ⟨R.DISC_STATUS, 31, 24⟩
def R.DISC_STATUS_UNMEASURED : Fld := ⟨R.DISC_STATUS, 23, 16⟩
def R.DISC_STATUS_REFERENCE : Fld := ⟨R.DISC_STATUS, 1, 1⟩
def R.DISC_STATUS_BUSY : Fld := ⟨R.DISC_STATUS, 0, 0⟩
/-- DISC_CFG (R81, 04_discovery.md). -/
def R.DISC_CFG : Nat := 0x150004
def R.DISC_CFG_LINK_WAIT : Fld := ⟨R.DISC_CFG, 31, 16⟩
def R.DISC_CFG_L_VOLT : Fld := ⟨R.DISC_CFG, 15, 8⟩
def R.DISC_CFG_R_CURRENT : Fld := ⟨R.DISC_CFG, 7, 0⟩
/-- DISC_ITEM_n_CFG (R81, 04_discovery.md). -/
def R.DISC_ITEM_CFG (n : Nat) : Nat := 0x150100 + 0x8 * n
def R.DISC_ITEM_CFG_EN (n : Nat) : Fld := ⟨R.DISC_ITEM_CFG n, 31, 31⟩
def R.DISC_ITEM_CFG_POLICY (n : Nat) : Fld := ⟨R.DISC_ITEM_CFG n, 19, 16⟩
def R.DISC_ITEM_CFG_TOL (n : Nat) : Fld := ⟨R.DISC_ITEM_CFG n, 7, 0⟩
/-- DISC_ITEM_n_STAT (R81, 04_discovery.md). -/
def R.DISC_ITEM_STAT (n : Nat) : Nat := 0x150104 + 0x8 * n
def R.DISC_ITEM_STAT_STATUS (n : Nat) : Fld := ⟨R.DISC_ITEM_STAT n, 31, 28⟩
def R.DISC_ITEM_STAT_VALUE (n : Nat) : Fld := ⟨R.DISC_ITEM_STAT n, 23, 0⟩
/-- RING_m_SEL (R86, 05_command_rings.md). -/
def R.RING_SEL (n : Nat) : Nat := 0x30000 + 0x100 * n
def R.RING_SEL_KIND (n : Nat) : Fld := ⟨R.RING_SEL n, 5, 4⟩
def R.RING_SEL_INDEX (n : Nat) : Fld := ⟨R.RING_SEL n, 3, 0⟩
/-- RING_m_BASE_LO (R86, 05_command_rings.md). -/
def R.RING_BASE_LO (n : Nat) : Nat := 0x30004 + 0x100 * n
def R.RING_BASE_LO_ADDR_LO (n : Nat) : Fld := ⟨R.RING_BASE_LO n, 31, 6⟩
/-- RING_m_BASE_HI (R86, 05_command_rings.md). -/
def R.RING_BASE_HI (n : Nat) : Nat := 0x30008 + 0x100 * n
def R.RING_BASE_HI_ADDR_HI (n : Nat) : Fld := ⟨R.RING_BASE_HI n, 31, 0⟩
/-- RING_m_CFG (R86, 05_command_rings.md). -/
def R.RING_CFG (n : Nat) : Nat := 0x3000C + 0x100 * n
def R.RING_CFG_EN (n : Nat) : Fld := ⟨R.RING_CFG n, 31, 31⟩
def R.RING_CFG_CPL (n : Nat) : Fld := ⟨R.RING_CFG n, 27, 24⟩
def R.RING_CFG_VEC (n : Nat) : Fld := ⟨R.RING_CFG n, 23, 18⟩
def R.RING_CFG_IRQ_EN (n : Nat) : Fld := ⟨R.RING_CFG n, 17, 17⟩
def R.RING_CFG_FMT (n : Nat) : Fld := ⟨R.RING_CFG n, 16, 16⟩
def R.RING_CFG_EV_MASK (n : Nat) : Fld := ⟨R.RING_CFG n, 15, 8⟩
def R.RING_CFG_SIZE_LOG2 (n : Nat) : Fld := ⟨R.RING_CFG n, 3, 0⟩
/-- RING_m_IRQ (R86, 05_command_rings.md). -/
def R.RING_IRQ (n : Nat) : Nat := 0x30010 + 0x100 * n
def R.RING_IRQ_COUNT (n : Nat) : Fld := ⟨R.RING_IRQ n, 23, 16⟩
def R.RING_IRQ_TIME (n : Nat) : Fld := ⟨R.RING_IRQ n, 15, 0⟩
/-- RING_m_STAT (R86, 05_command_rings.md). -/
def R.RING_STAT (n : Nat) : Nat := 0x30014 + 0x100 * n
def R.RING_STAT_COUNT_ELX (n : Nat) : Fld := ⟨R.RING_STAT n, 31, 16⟩
def R.RING_STAT_ERR (n : Nat) : Fld := ⟨R.RING_STAT n, 15, 12⟩
def R.RING_STAT_RUN (n : Nat) : Fld := ⟨R.RING_STAT n, 0, 0⟩
/-- RING_m_TLM (R86, 05_command_rings.md). -/
def R.RING_TLM (n : Nat) : Nat := 0x30018 + 0x100 * n
def R.RING_TLM_SOURCE (n : Nat) : Fld := ⟨R.RING_TLM n, 31, 24⟩
def R.RING_TLM_DECIM (n : Nat) : Fld := ⟨R.RING_TLM n, 15, 8⟩
def R.RING_TLM_FLUSH (n : Nat) : Fld := ⟨R.RING_TLM n, 7, 0⟩
/-- RING_m_LOST (R86, 05_command_rings.md). -/
def R.RING_LOST (n : Nat) : Nat := 0x3001C + 0x100 * n
def R.RING_LOST_LOST (n : Nat) : Fld := ⟨R.RING_LOST n, 15, 0⟩
/-- RING_m_CTRL (R86, 05_command_rings.md). -/
def R.RING_CTRL (n : Nat) : Nat := 0x30020 + 0x100 * n
def R.RING_CTRL_RESET (n : Nat) : Fld := ⟨R.RING_CTRL n, 0, 0⟩
/-- OWN_STATUS (R114, 06_ownership.md). -/
def R.OWN_STATUS : Nat := 0x20000
def R.OWN_STATUS_OWN_SEQ : Fld := ⟨R.OWN_STATUS, 31, 24⟩
def R.OWN_STATUS_SUCCESSOR : Fld := ⟨R.OWN_STATUS, 19, 18⟩
def R.OWN_STATUS_OWNER : Fld := ⟨R.OWN_STATUS, 17, 16⟩
def R.OWN_STATUS_PRIO : Fld := ⟨R.OWN_STATUS, 15, 12⟩
def R.OWN_STATUS_STATE : Fld := ⟨R.OWN_STATUS, 2, 0⟩
/-- OWN_NONCE (R114, 06_ownership.md). -/
def R.OWN_NONCE : Nat := 0x20004
def R.OWN_NONCE_NONCE : Fld := ⟨R.OWN_NONCE, 31, 0⟩
/-- OWN_CFG (R114, 06_ownership.md). -/
def R.OWN_CFG : Nat := 0x20008
def R.OWN_CFG_HB_TIMEOUT : Fld := ⟨R.OWN_CFG, 31, 16⟩
/-- OWN_m_HB (R114, 06_ownership.md). -/
def R.OWN_HB (n : Nat) : Nat := 0x20010 + 0x4 * n
def R.OWN_HB_COUNT (n : Nat) : Fld := ⟨R.OWN_HB n, 15, 0⟩
/-- OWN_SVC_STAT (R114, 06_ownership.md). -/
def R.OWN_SVC_STAT : Nat := 0x20020
def R.OWN_SVC_STAT_REFUSED : Fld := ⟨R.OWN_SVC_STAT, 31, 16⟩
def R.OWN_SVC_STAT_WRITABLE : Fld := ⟨R.OWN_SVC_STAT, 0, 0⟩
/-- STORE_STATUS (R140, 07_store_gallery.md). -/
def R.STORE_STATUS : Nat := 0x60000
def R.STORE_STATUS_RD_COLLIDE : Fld := ⟨R.STORE_STATUS, 31, 16⟩
def R.STORE_STATUS_REGION_ERR : Fld := ⟨R.STORE_STATUS, 3, 3⟩
def R.STORE_STATUS_BANK_OFF_ERR : Fld := ⟨R.STORE_STATUS, 2, 2⟩
def R.STORE_STATUS_PWR_REFUSED : Fld := ⟨R.STORE_STATUS, 1, 1⟩
/-- STORE_BUSY (R140, 07_store_gallery.md). -/
def R.STORE_BUSY : Nat := 0x60004
def R.STORE_BUSY_COUNT : Fld := ⟨R.STORE_BUSY, 31, 0⟩
/-- STORE_PWR_CFG (R140, 07_store_gallery.md). -/
def R.STORE_PWR_CFG : Nat := 0x60010
def R.STORE_PWR_CFG_IDLE : Fld := ⟨R.STORE_PWR_CFG, 15, 0⟩
/-- STORE_BANK_PWR_k (R140, 07_store_gallery.md). -/
def R.STORE_BANK_PWR (n : Nat) : Nat := 0x60020 + 0x4 * n
def R.STORE_BANK_PWR_REQ (n : Nat) (j : Nat) : Fld := ⟨R.STORE_BANK_PWR n, 2 * j + 1, 2 * j⟩
/-- STORE_BANK_STATE_k (R140, 07_store_gallery.md). -/
def R.STORE_BANK_STATE (n : Nat) : Nat := 0x60028 + 0x4 * n
def R.STORE_BANK_STATE_STATE (n : Nat) (j : Nat) : Fld := ⟨R.STORE_BANK_STATE n, 2 * j + 1, 2 * j⟩
/-- MKT_STATUS (R146, 07_store_gallery.md). -/
def R.MKT_STATUS : Nat := 0x50000
def R.MKT_STATUS_QUOTA_ERR : Fld := ⟨R.MKT_STATUS, 31, 31⟩
def R.MKT_STATUS_RELEASE_ERR : Fld := ⟨R.MKT_STATUS, 30, 30⟩
def R.MKT_STATUS_SHARED_FREE : Fld := ⟨R.MKT_STATUS, 28, 16⟩
def R.MKT_STATUS_FREE : Fld := ⟨R.MKT_STATUS, 12, 0⟩
/-- MKT_CH_n_QUOTA (R146, 07_store_gallery.md). -/
def R.MKT_CH_QUOTA (n : Nat) : Nat := 0x50100 + 0x4 * n
def R.MKT_CH_QUOTA_MIN (n : Nat) : Fld := ⟨R.MKT_CH_QUOTA n, 28, 16⟩
def R.MKT_CH_QUOTA_CEIL (n : Nat) : Fld := ⟨R.MKT_CH_QUOTA n, 12, 0⟩
/-- MKT_CH_n_STAT (R146, 07_store_gallery.md). -/
def R.MKT_CH_STAT (n : Nat) : Nat := 0x50200 + 0x4 * n
def R.MKT_CH_STAT_REFUSED (n : Nat) : Fld := ⟨R.MKT_CH_STAT n, 31, 16⟩
def R.MKT_CH_STAT_HELD (n : Nat) : Fld := ⟨R.MKT_CH_STAT n, 12, 0⟩
/-- MKT_CH_n_RELEASE (R146, 07_store_gallery.md). -/
def R.MKT_CH_RELEASE (n : Nat) : Nat := 0x50300 + 0x4 * n
def R.MKT_CH_RELEASE_STALL (n : Nat) : Fld := ⟨R.MKT_CH_RELEASE n, 11, 0⟩
/-- STORE_ECC_STATUS (R162, 08_stored_data_integrity.md). -/
def R.STORE_ECC_STATUS : Nat := 0x60040
def R.STORE_ECC_STATUS_CORRECTED : Fld := ⟨R.STORE_ECC_STATUS, 31, 16⟩
def R.STORE_ECC_STATUS_UNCORRECTED : Fld := ⟨R.STORE_ECC_STATUS, 15, 8⟩
def R.STORE_ECC_STATUS_QUEUE_DROP : Fld := ⟨R.STORE_ECC_STATUS, 7, 4⟩
def R.STORE_ECC_STATUS_BGT_SKIP : Fld := ⟨R.STORE_ECC_STATUS, 2, 2⟩
def R.STORE_ECC_STATUS_UE : Fld := ⟨R.STORE_ECC_STATUS, 1, 1⟩
def R.STORE_ECC_STATUS_CE : Fld := ⟨R.STORE_ECC_STATUS, 0, 0⟩
/-- STORE_ERR_ADDR (R162, 08_stored_data_integrity.md). -/
def R.STORE_ERR_ADDR : Nat := 0x60044
def R.STORE_ERR_ADDR_OFFSET : Fld := ⟨R.STORE_ERR_ADDR, 22, 0⟩
/-- STORE_ERR_INFO (R162, 08_stored_data_integrity.md). -/
def R.STORE_ERR_INFO : Nat := 0x60048
def R.STORE_ERR_INFO_SYNDROME : Fld := ⟨R.STORE_ERR_INFO, 15, 8⟩
def R.STORE_ERR_INFO_CLASS : Fld := ⟨R.STORE_ERR_INFO, 7, 4⟩
def R.STORE_ERR_INFO_SOURCE : Fld := ⟨R.STORE_ERR_INFO, 3, 0⟩
/-- STORE_SCRUB_CFG (R162, 08_stored_data_integrity.md). -/
def R.STORE_SCRUB_CFG : Nat := 0x60050
def R.STORE_SCRUB_CFG_PASS : Fld := ⟨R.STORE_SCRUB_CFG, 7, 0⟩
/-- STORE_BGT_CFG (R162, 08_stored_data_integrity.md). -/
def R.STORE_BGT_CFG : Nat := 0x60054
def R.STORE_BGT_CFG_INTERVAL : Fld := ⟨R.STORE_BGT_CFG, 9, 0⟩
/-- STORE_BGT_STATUS (R162, 08_stored_data_integrity.md). -/
def R.STORE_BGT_STATUS : Nat := 0x60058
def R.STORE_BGT_STATUS_SKIPPED : Fld := ⟨R.STORE_BGT_STATUS, 31, 20⟩
def R.STORE_BGT_STATUS_WINDOW : Fld := ⟨R.STORE_BGT_STATUS, 16, 0⟩
/-- STORE_SPARE_k (R162, 08_stored_data_integrity.md). -/
def R.STORE_SPARE (n : Nat) : Nat := 0x60060 + 0x4 * n
def R.STORE_SPARE_USED (n : Nat) (j : Nat) : Fld := ⟨R.STORE_SPARE n, 4 * j + 3, 4 * j⟩
/-- MRAM_STATUS (R165, 08_stored_data_integrity.md). -/
def R.MRAM_STATUS : Nat := 0x70000
def R.MRAM_STATUS_CORRECTED : Fld := ⟨R.MRAM_STATUS, 31, 16⟩
def R.MRAM_STATUS_UNCORRECTED : Fld := ⟨R.MRAM_STATUS, 15, 8⟩
def R.MRAM_STATUS_WEAR_WARN : Fld := ⟨R.MRAM_STATUS, 2, 2⟩
def R.MRAM_STATUS_CODE_WE : Fld := ⟨R.MRAM_STATUS, 1, 1⟩
def R.MRAM_STATUS_BUSY : Fld := ⟨R.MRAM_STATUS, 0, 0⟩
/-- MRAM_WEAR (R165, 08_stored_data_integrity.md). -/
def R.MRAM_WEAR : Nat := 0x70004
def R.MRAM_WEAR_SECTOR : Fld := ⟨R.MRAM_WEAR, 31, 19⟩
def R.MRAM_WEAR_WRITES_K : Fld := ⟨R.MRAM_WEAR, 18, 0⟩
/-- FE_n_CTRL (R195, 09_field_engines.md). -/
def R.FE_CTRL (n : Nat) : Nat := 0x80000 + 0x2000 * n
def R.FE_CTRL_RUN (n : Nat) : Fld := ⟨R.FE_CTRL n, 31, 31⟩
def R.FE_CTRL_ENTRY (n : Nat) : Fld := ⟨R.FE_CTRL n, 25, 16⟩
def R.FE_CTRL_BLEND (n : Nat) : Fld := ⟨R.FE_CTRL n, 15, 8⟩
def R.FE_CTRL_PSTAGE_HOLD (n : Nat) : Fld := ⟨R.FE_CTRL n, 0, 0⟩
/-- FE_n_TICK (R195, 09_field_engines.md). -/
def R.FE_TICK (n : Nat) : Nat := 0x80004 + 0x2000 * n
def R.FE_TICK_PERIOD (n : Nat) : Fld := ⟨R.FE_TICK n, 18, 0⟩
/-- FE_n_STATUS (R195, 09_field_engines.md). -/
def R.FE_STATUS (n : Nat) : Nat := 0x80008 + 0x2000 * n
def R.FE_STATUS_MISSED (n : Nat) : Fld := ⟨R.FE_STATUS n, 31, 24⟩
def R.FE_STATUS_EVT_DROP (n : Nat) : Fld := ⟨R.FE_STATUS n, 23, 20⟩
def R.FE_STATUS_REGION (n : Nat) : Fld := ⟨R.FE_STATUS n, 15, 12⟩
def R.FE_STATUS_BLEND_LEFT (n : Nat) : Fld := ⟨R.FE_STATUS n, 11, 4⟩
def R.FE_STATUS_RUNNING (n : Nat) : Fld := ⟨R.FE_STATUS n, 0, 0⟩
/-- FE_n_TICKNO (R195, 09_field_engines.md). -/
def R.FE_TICKNO (n : Nat) : Nat := 0x8000C + 0x2000 * n
def R.FE_TICKNO_COUNT (n : Nat) : Fld := ⟨R.FE_TICKNO n, 31, 0⟩
/-- FE_n_LOAD (R195, 09_field_engines.md). -/
def R.FE_LOAD (n : Nat) : Nat := 0x80010 + 0x2000 * n
def R.FE_LOAD_MAX (n : Nat) : Fld := ⟨R.FE_LOAD n, 31, 16⟩
def R.FE_LOAD_LAST (n : Nat) : Fld := ⟨R.FE_LOAD n, 15, 0⟩
/-- FE_n_FAULT (R195, 09_field_engines.md). -/
def R.FE_FAULT (n : Nat) : Nat := 0x80014 + 0x2000 * n
def R.FE_FAULT_PC (n : Nat) : Fld := ⟨R.FE_FAULT n, 25, 16⟩
def R.FE_FAULT_FPE (n : Nat) : Fld := ⟨R.FE_FAULT n, 10, 10⟩
def R.FE_FAULT_DESC (n : Nat) : Fld := ⟨R.FE_FAULT n, 9, 9⟩
def R.FE_FAULT_CHANNEL (n : Nat) : Fld := ⟨R.FE_FAULT n, 8, 8⟩
def R.FE_FAULT_RGN_CFG (n : Nat) : Fld := ⟨R.FE_FAULT n, 7, 7⟩
def R.FE_FAULT_PARAM_HOLD (n : Nat) : Fld := ⟨R.FE_FAULT n, 6, 6⟩
def R.FE_FAULT_MISSED2 (n : Nat) : Fld := ⟨R.FE_FAULT n, 5, 5⟩
def R.FE_FAULT_SAMPLE_ABSENT (n : Nat) : Fld := ⟨R.FE_FAULT n, 4, 4⟩
def R.FE_FAULT_NONFINITE (n : Nat) : Fld := ⟨R.FE_FAULT n, 3, 3⟩
def R.FE_FAULT_STATE_WRITE (n : Nat) : Fld := ⟨R.FE_FAULT n, 2, 2⟩
def R.FE_FAULT_ILLEGAL (n : Nat) : Fld := ⟨R.FE_FAULT n, 1, 1⟩
def R.FE_FAULT_OVERRUN (n : Nat) : Fld := ⟨R.FE_FAULT n, 0, 0⟩
/-- FE_n_PLAUS_SEV (R195, 09_field_engines.md). -/
def R.FE_PLAUS_SEV (n : Nat) : Nat := 0x80018 + 0x2000 * n
def R.FE_PLAUS_SEV_SEV (n : Nat) (j : Nat) : Fld := ⟨R.FE_PLAUS_SEV n, 2 * j + 1, 2 * j⟩
/-- FE_n_PLAUS_STAT (R195, 09_field_engines.md). -/
def R.FE_PLAUS_STAT (n : Nat) : Nat := 0x8001C + 0x2000 * n
def R.FE_PLAUS_STAT_TRIPPED (n : Nat) : Fld := ⟨R.FE_PLAUS_STAT n, 15, 8⟩
def R.FE_PLAUS_STAT_ABOVE (n : Nat) : Fld := ⟨R.FE_PLAUS_STAT n, 7, 0⟩
/-- EDGE_STATUS (R217, 10_edge_placer_sampling.md). -/
def R.EDGE_STATUS : Nat := 0xA0000
def R.EDGE_STATUS_INTERLOCK : Fld := ⟨R.EDGE_STATUS, 8, 8⟩
def R.EDGE_STATUS_TB_MISMATCH : Fld := ⟨R.EDGE_STATUS, 7, 0⟩
/-- EDGE_CFG (R217, 10_edge_placer_sampling.md). -/
def R.EDGE_CFG : Nat := 0xA0004
def R.EDGE_CFG_ASC_IL : Fld := ⟨R.EDGE_CFG, 1, 0⟩
/-- EDGE_CH_n_CFG (R217, 10_edge_placer_sampling.md). -/
def R.EDGE_CH_CFG (n : Nat) : Nat := 0xA0100 + 0x10 * n
def R.EDGE_CH_CFG_MODE (n : Nat) : Fld := ⟨R.EDGE_CH_CFG n, 30, 28⟩
def R.EDGE_CH_CFG_FUNC (n : Nat) : Fld := ⟨R.EDGE_CH_CFG n, 27, 24⟩
def R.EDGE_CH_CFG_UNIT (n : Nat) : Fld := ⟨R.EDGE_CH_CFG n, 23, 20⟩
def R.EDGE_CH_CFG_LEG (n : Nat) : Fld := ⟨R.EDGE_CH_CFG n, 19, 18⟩
def R.EDGE_CH_CFG_CAR (n : Nat) : Fld := ⟨R.EDGE_CH_CFG n, 17, 17⟩
def R.EDGE_CH_CFG_PH_OFF (n : Nat) : Fld := ⟨R.EDGE_CH_CFG n, 15, 0⟩
/-- EDGE_CH_n_DT (R217, 10_edge_placer_sampling.md). -/
def R.EDGE_CH_DT (n : Nat) : Nat := 0xA0104 + 0x10 * n
def R.EDGE_CH_DT_DT (n : Nat) : Fld := ⟨R.EDGE_CH_DT n, 31, 16⟩
def R.EDGE_CH_DT_MIN_PULSE (n : Nat) : Fld := ⟨R.EDGE_CH_DT n, 15, 0⟩
/-- EDGE_CH_n_STAT (R217, 10_edge_placer_sampling.md). -/
def R.EDGE_CH_STAT (n : Nat) : Nat := 0xA0108 + 0x10 * n
def R.EDGE_CH_STAT_SHIFTS (n : Nat) : Fld := ⟨R.EDGE_CH_STAT n, 31, 16⟩
def R.EDGE_CH_STAT_DROPPED (n : Nat) : Fld := ⟨R.EDGE_CH_STAT n, 15, 0⟩
/-- EDGE_TB_n_CFG (R217, 10_edge_placer_sampling.md). -/
def R.EDGE_TB_CFG (n : Nat) : Nat := 0xA1000 + 0x10 * n
def R.EDGE_TB_CFG_EN (n : Nat) : Fld := ⟨R.EDGE_TB_CFG n, 31, 31⟩
def R.EDGE_TB_CFG_KIND (n : Nat) : Fld := ⟨R.EDGE_TB_CFG n, 30, 30⟩
def R.EDGE_TB_CFG_M (n : Nat) : Fld := ⟨R.EDGE_TB_CFG n, 21, 16⟩
def R.EDGE_TB_CFG_SAMP_PEAK (n : Nat) : Fld := ⟨R.EDGE_TB_CFG n, 11, 11⟩
def R.EDGE_TB_CFG_SAMP_VALLEY (n : Nat) : Fld := ⟨R.EDGE_TB_CFG n, 10, 10⟩
def R.EDGE_TB_CFG_UPD_PEAK (n : Nat) : Fld := ⟨R.EDGE_TB_CFG n, 9, 9⟩
def R.EDGE_TB_CFG_UPD_VALLEY (n : Nat) : Fld := ⟨R.EDGE_TB_CFG n, 8, 8⟩
/-- EDGE_TB_n_HALF_A (R217, 10_edge_placer_sampling.md). -/
def R.EDGE_TB_HALF_A (n : Nat) : Nat := 0xA1004 + 0x10 * n
def R.EDGE_TB_HALF_A_HALF (n : Nat) : Fld := ⟨R.EDGE_TB_HALF_A n, 18, 0⟩
/-- EDGE_TB_n_HALF_B (R217, 10_edge_placer_sampling.md). -/
def R.EDGE_TB_HALF_B (n : Nat) : Nat := 0xA1008 + 0x10 * n
def R.EDGE_TB_HALF_B_HALF (n : Nat) : Fld := ⟨R.EDGE_TB_HALF_B n, 18, 0⟩
/-- EDGE_TB_n_SAMP (R217, 10_edge_placer_sampling.md). -/
def R.EDGE_TB_SAMP (n : Nat) : Nat := 0xA100C + 0x10 * n
def R.EDGE_TB_SAMP_T_SETTLE (n : Nat) : Fld := ⟨R.EDGE_TB_SAMP n, 31, 16⟩
def R.EDGE_TB_SAMP_SHIFT_EN (n : Nat) : Fld := ⟨R.EDGE_TB_SAMP n, 15, 15⟩
def R.EDGE_TB_SAMP_QUIET_PAIR (n : Nat) : Fld := ⟨R.EDGE_TB_SAMP n, 14, 14⟩
def R.EDGE_TB_SAMP_SHIFT_MAX (n : Nat) : Fld := ⟨R.EDGE_TB_SAMP n, 13, 0⟩
/-- EDGE_FC_k_CFG (R217, 10_edge_placer_sampling.md). -/
def R.EDGE_FC_CFG (n : Nat) : Nat := 0xA2000 + 0x8 * n
def R.EDGE_FC_CFG_EN (n : Nat) : Fld := ⟨R.EDGE_FC_CFG n, 31, 31⟩
def R.EDGE_FC_CFG_PRED_MAX (n : Nat) : Fld := ⟨R.EDGE_FC_CFG n, 27, 24⟩
def R.EDGE_FC_CFG_CH (n : Nat) : Fld := ⟨R.EDGE_FC_CFG n, 21, 16⟩
def R.EDGE_FC_CFG_PRED_WORD (n : Nat) : Fld := ⟨R.EDGE_FC_CFG n, 8, 0⟩
/-- EDGE_FC_k_STAT (R217, 10_edge_placer_sampling.md). -/
def R.EDGE_FC_STAT (n : Nat) : Nat := 0xA2004 + 0x8 * n
def R.EDGE_FC_STAT_PREDICTED (n : Nat) : Fld := ⟨R.EDGE_FC_STAT n, 31, 16⟩
def R.EDGE_FC_STAT_RUN (n : Nat) : Fld := ⟨R.EDGE_FC_STAT n, 15, 8⟩
/-- GATE_CFG (R217, 10_edge_placer_sampling.md). -/
def R.GATE_CFG : Nat := 0xB0000
def R.GATE_CFG_POLL : Fld := ⟨R.GATE_CFG, 31, 16⟩
def R.GATE_CFG_SCK : Fld := ⟨R.GATE_CFG, 1, 0⟩
/-- GATE_n_CFG (R217, 10_edge_placer_sampling.md). -/
def R.GATE_CH_CFG (n : Nat) : Nat := 0xB0100 + 0x10 * n
def R.GATE_CH_CFG_EN (n : Nat) : Fld := ⟨R.GATE_CH_CFG n, 31, 31⟩
def R.GATE_CH_CFG_FAULT_OFF (n : Nat) : Fld := ⟨R.GATE_CH_CFG n, 30, 30⟩
/-- GATE_n_CAP (R217, 10_edge_placer_sampling.md). -/
def R.GATE_CH_CAP (n : Nat) : Nat := 0xB0104 + 0x10 * n
def R.GATE_CH_CAP_CAP (n : Nat) : Fld := ⟨R.GATE_CH_CAP n, 31, 0⟩
/-- GATE_n_DELAY (R217, 10_edge_placer_sampling.md). -/
def R.GATE_CH_DELAY (n : Nat) : Nat := 0xB0108 + 0x10 * n
def R.GATE_CH_DELAY_T_OFF (n : Nat) : Fld := ⟨R.GATE_CH_DELAY n, 31, 16⟩
def R.GATE_CH_DELAY_T_ON (n : Nat) : Fld := ⟨R.GATE_CH_DELAY n, 15, 0⟩
/-- GATE_n_STAT (R217, 10_edge_placer_sampling.md). -/
def R.GATE_CH_STAT (n : Nat) : Nat := 0xB010C + 0x10 * n
def R.GATE_CH_STAT_CRC_ERR (n : Nat) : Fld := ⟨R.GATE_CH_STAT n, 31, 16⟩
def R.GATE_CH_STAT_EDGE_DIFF (n : Nat) : Fld := ⟨R.GATE_CH_STAT n, 15, 8⟩
def R.GATE_CH_STAT_NO_RESP (n : Nat) : Fld := ⟨R.GATE_CH_STAT n, 2, 2⟩
def R.GATE_CH_STAT_FAULT (n : Nat) : Fld := ⟨R.GATE_CH_STAT n, 1, 1⟩
def R.GATE_CH_STAT_FAULT_LATCH (n : Nat) : Fld := ⟨R.GATE_CH_STAT n, 0, 0⟩
/-- FE_PAIR_CFG (R231, 11_traction_modulated.md). -/
def R.FE_PAIR_CFG : Nat := 0x90000
def R.FE_PAIR_CFG_PAIR_23 : Fld := ⟨R.FE_PAIR_CFG, 1, 1⟩
def R.FE_PAIR_CFG_PAIR_01 : Fld := ⟨R.FE_PAIR_CFG, 0, 0⟩
/-- EDGE_BAND_n_CFG (R256, 12_traction_band.md). -/
def R.EDGE_BAND_CFG (n : Nat) : Nat := 0xA3000 + 0x10 * n
def R.EDGE_BAND_CFG_LIVE_SW (n : Nat) : Fld := ⟨R.EDGE_BAND_CFG n, 31, 31⟩
def R.EDGE_BAND_CFG_INTERP (n : Nat) : Fld := ⟨R.EDGE_BAND_CFG n, 30, 30⟩
def R.EDGE_BAND_CFG_T_BLANK (n : Nat) : Fld := ⟨R.EDGE_BAND_CFG n, 7, 0⟩
/-- EDGE_BAND_n_STAT (R256, 12_traction_band.md). -/
def R.EDGE_BAND_STAT (n : Nat) : Nat := 0xA3004 + 0x10 * n
def R.EDGE_BAND_STAT_EFF_BAND (n : Nat) : Fld := ⟨R.EDGE_BAND_STAT n, 31, 31⟩
def R.EDGE_BAND_STAT_MIXED (n : Nat) : Fld := ⟨R.EDGE_BAND_STAT n, 30, 16⟩
def R.EDGE_BAND_STAT_DWELL_HOLD (n : Nat) : Fld := ⟨R.EDGE_BAND_STAT n, 15, 0⟩
/-- EDGE_BAND_n_PRED (R256, 12_traction_band.md). -/
def R.EDGE_BAND_PRED (n : Nat) : Nat := 0xA3008 + 0x10 * n
def R.EDGE_BAND_PRED_PRED_CONV (n : Nat) : Fld := ⟨R.EDGE_BAND_PRED n, 31, 0⟩
/-- SAFE_DCL_CFG (R292, 14_dc_link_stopping.md). -/
def R.SAFE_DCL_CFG : Nat := 0x110400
def R.SAFE_DCL_CFG_LSB_MV : Fld := ⟨R.SAFE_DCL_CFG, 31, 16⟩
def R.SAFE_DCL_CFG_OV3_N : Fld := ⟨R.SAFE_DCL_CFG, 15, 12⟩
def R.SAFE_DCL_CFG_HYST : Fld := ⟨R.SAFE_DCL_CFG, 11, 0⟩
/-- SAFE_DCL_THR_A (R292, 14_dc_link_stopping.md). -/
def R.SAFE_DCL_THR_A : Nat := 0x110404
def R.SAFE_DCL_THR_A_OV2 : Fld := ⟨R.SAFE_DCL_THR_A, 27, 16⟩
def R.SAFE_DCL_THR_A_OV1 : Fld := ⟨R.SAFE_DCL_THR_A, 11, 0⟩
/-- SAFE_DCL_THR_B (R292, 14_dc_link_stopping.md). -/
def R.SAFE_DCL_THR_B : Nat := 0x110408
def R.SAFE_DCL_THR_B_UV : Fld := ⟨R.SAFE_DCL_THR_B, 27, 16⟩
def R.SAFE_DCL_THR_B_OV3 : Fld := ⟨R.SAFE_DCL_THR_B, 11, 0⟩
/-- SAFE_DCL_STATUS (R292, 14_dc_link_stopping.md). -/
def R.SAFE_DCL_STATUS : Nat := 0x11040C
def R.SAFE_DCL_STATUS_VALUE : Fld := ⟨R.SAFE_DCL_STATUS, 31, 20⟩
def R.SAFE_DCL_STATUS_CFG_ERR : Fld := ⟨R.SAFE_DCL_STATUS, 7, 7⟩
def R.SAFE_DCL_STATUS_CHOP_HELD : Fld := ⟨R.SAFE_DCL_STATUS, 6, 6⟩
def R.SAFE_DCL_STATUS_CHOP_FAULT : Fld := ⟨R.SAFE_DCL_STATUS, 5, 5⟩
def R.SAFE_DCL_STATUS_CHOP_ON : Fld := ⟨R.SAFE_DCL_STATUS, 4, 4⟩
def R.SAFE_DCL_STATUS_OV3_LATCH : Fld := ⟨R.SAFE_DCL_STATUS, 3, 3⟩
def R.SAFE_DCL_STATUS_OV2 : Fld := ⟨R.SAFE_DCL_STATUS, 2, 2⟩
def R.SAFE_DCL_STATUS_OV1 : Fld := ⟨R.SAFE_DCL_STATUS, 1, 1⟩
def R.SAFE_DCL_STATUS_UV : Fld := ⟨R.SAFE_DCL_STATUS, 0, 0⟩
/-- SAFE_DCL_CHOP (R292, 14_dc_link_stopping.md). -/
def R.SAFE_DCL_CHOP : Nat := 0x110410
def R.SAFE_DCL_CHOP_BUDGET : Fld := ⟨R.SAFE_DCL_CHOP, 31, 16⟩
def R.SAFE_DCL_CHOP_TEST_DV : Fld := ⟨R.SAFE_DCL_CHOP, 15, 8⟩
def R.SAFE_DCL_CHOP_EN : Fld := ⟨R.SAFE_DCL_CHOP, 0, 0⟩
/-- SAFE_SEL_CFG (R292, 14_dc_link_stopping.md). -/
def R.SAFE_SEL_CFG : Nat := 0x110420
def R.SAFE_SEL_CFG_K : Fld := ⟨R.SAFE_SEL_CFG, 31, 24⟩
def R.SAFE_SEL_CFG_HYST_K : Fld := ⟨R.SAFE_SEL_CFG, 23, 16⟩
def R.SAFE_SEL_CFG_N_MIN : Fld := ⟨R.SAFE_SEL_CFG, 15, 0⟩
/-- SAFE_SEL_STATE (R292, 14_dc_link_stopping.md). -/
def R.SAFE_SEL_STATE : Nat := 0x110424
def R.SAFE_SEL_STATE_ASC : Fld := ⟨R.SAFE_SEL_STATE, 3, 0⟩
/-- CONV_CFG (R312, 15_lv_converter.md). -/
def R.CONV_CFG : Nat := 0xD0000
def R.CONV_CFG_CS_GAIN : Fld := ⟨R.CONV_CFG, 31, 24⟩
def R.CONV_CFG_VO_GAIN : Fld := ⟨R.CONV_CFG, 23, 14⟩
def R.CONV_CFG_BURST_SERV : Fld := ⟨R.CONV_CFG, 1, 1⟩
def R.CONV_CFG_CLASS : Fld := ⟨R.CONV_CFG, 0, 0⟩
/-- CONV_STATUS (R312, 15_lv_converter.md). -/
def R.CONV_STATUS : Nat := 0xD0004
def R.CONV_STATUS_STATE : Fld := ⟨R.CONV_STATUS, 31, 28⟩
def R.CONV_STATUS_RETRIES : Fld := ⟨R.CONV_STATUS, 27, 26⟩
def R.CONV_STATUS_SHORT : Fld := ⟨R.CONV_STATUS, 7, 7⟩
def R.CONV_STATUS_OVP : Fld := ⟨R.CONV_STATUS, 6, 6⟩
def R.CONV_STATUS_BURST_OK : Fld := ⟨R.CONV_STATUS, 5, 5⟩
def R.CONV_STATUS_CBC : Fld := ⟨R.CONV_STATUS, 3, 0⟩
/-- CONV_CTRL (R312, 15_lv_converter.md). -/
def R.CONV_CTRL : Nat := 0xD0008
def R.CONV_CTRL_START : Fld := ⟨R.CONV_CTRL, 1, 1⟩
def R.CONV_CTRL_BURST_OK : Fld := ⟨R.CONV_CTRL, 0, 0⟩
/-- CONV_SYNC_CFG (R312, 15_lv_converter.md). -/
def R.CONV_SYNC_CFG : Nat := 0xD0010
def R.CONV_SYNC_CFG_DIR : Fld := ⟨R.CONV_SYNC_CFG, 31, 31⟩
def R.CONV_SYNC_CFG_FOLLOW : Fld := ⟨R.CONV_SYNC_CFG, 30, 30⟩
def R.CONV_SYNC_CFG_SLEW : Fld := ⟨R.CONV_SYNC_CFG, 27, 20⟩
def R.CONV_SYNC_CFG_INT_FREQ : Fld := ⟨R.CONV_SYNC_CFG, 18, 0⟩
/-- CONV_SYNC_STAT (R312, 15_lv_converter.md). -/
def R.CONV_SYNC_STAT : Nat := 0xD0014
def R.CONV_SYNC_STAT_STATE : Fld := ⟨R.CONV_SYNC_STAT, 31, 29⟩
def R.CONV_SYNC_STAT_REJECTED : Fld := ⟨R.CONV_SYNC_STAT, 27, 20⟩
def R.CONV_SYNC_STAT_PERIOD : Fld := ⟨R.CONV_SYNC_STAT, 19, 0⟩
/-- CONV_BURST_CFG (R312, 15_lv_converter.md). -/
def R.CONV_BURST_CFG : Nat := 0xD0020
def R.CONV_BURST_CFG_DV_MV : Fld := ⟨R.CONV_BURST_CFG, 31, 16⟩
def R.CONV_BURST_CFG_SLEEP_SAMPLE : Fld := ⟨R.CONV_BURST_CFG, 15, 0⟩
/-- CONV_PROT_CFG (R312, 15_lv_converter.md). -/
def R.CONV_PROT_CFG : Nat := 0xD0030
def R.CONV_PROT_CFG_OVP_MV : Fld := ⟨R.CONV_PROT_CFG, 31, 16⟩
def R.CONV_PROT_CFG_ILIM_CBC : Fld := ⟨R.CONV_PROT_CFG, 15, 0⟩
/-- CHG_STATUS (R336, 16_charger_supply.md). -/
def R.CHG_STATUS : Nat := 0xE0000
def R.CHG_STATUS_PILOT : Fld := ⟨R.CHG_STATUS, 31, 28⟩
def R.CHG_STATUS_PWM : Fld := ⟨R.CHG_STATUS, 27, 27⟩
def R.CHG_STATUS_PP : Fld := ⟨R.CHG_STATUS, 26, 24⟩
def R.CHG_STATUS_HV_PHASE : Fld := ⟨R.CHG_STATUS, 23, 20⟩
def R.CHG_STATUS_LV_PHASE : Fld := ⟨R.CHG_STATUS, 19, 16⟩
def R.CHG_STATUS_S2 : Fld := ⟨R.CHG_STATUS, 7, 7⟩
def R.CHG_STATUS_ROUTE_ERR : Fld := ⟨R.CHG_STATUS, 6, 6⟩
def R.CHG_STATUS_TIMER_LV : Fld := ⟨R.CHG_STATUS, 5, 5⟩
def R.CHG_STATUS_TIMER_HV : Fld := ⟨R.CHG_STATUS, 4, 4⟩
def R.CHG_STATUS_OVP : Fld := ⟨R.CHG_STATUS, 3, 3⟩
def R.CHG_STATUS_HELD : Fld := ⟨R.CHG_STATUS, 2, 2⟩
def R.CHG_STATUS_WD_LV : Fld := ⟨R.CHG_STATUS, 1, 1⟩
def R.CHG_STATUS_WD_HV : Fld := ⟨R.CHG_STATUS, 0, 0⟩
/-- CHG_PILOT (R336, 16_charger_supply.md). -/
def R.CHG_PILOT : Nat := 0xE0004
def R.CHG_PILOT_DUTY : Fld := ⟨R.CHG_PILOT, 31, 18⟩
def R.CHG_PILOT_V_H : Fld := ⟨R.CHG_PILOT, 15, 8⟩
def R.CHG_PILOT_V_L : Fld := ⟨R.CHG_PILOT, 7, 0⟩
/-- CHG_PILOT_CFG (R336, 16_charger_supply.md). -/
def R.CHG_PILOT_CFG : Nat := 0xE0008
def R.CHG_PILOT_CFG_FILT : Fld := ⟨R.CHG_PILOT_CFG, 31, 24⟩
def R.CHG_PILOT_CFG_CP_GAIN : Fld := ⟨R.CHG_PILOT_CFG, 23, 14⟩
def R.CHG_PILOT_CFG_PP_PU : Fld := ⟨R.CHG_PILOT_CFG, 13, 0⟩
/-- CHG_OVP (R336, 16_charger_supply.md). -/
def R.CHG_OVP : Nat := 0xE000C
def R.CHG_OVP_VMAX : Fld := ⟨R.CHG_OVP, 31, 16⟩
def R.CHG_OVP_CODE : Fld := ⟨R.CHG_OVP, 11, 0⟩
/-- CHG_TIMERS (R336, 16_charger_supply.md). -/
def R.CHG_TIMERS : Nat := 0xE0010
def R.CHG_TIMERS_WD_TIMEOUT : Fld := ⟨R.CHG_TIMERS, 31, 16⟩
def R.CHG_TIMERS_TIMER_MAX : Fld := ⟨R.CHG_TIMERS, 15, 0⟩
/-- CHG_TIMER_STAT (R336, 16_charger_supply.md). -/
def R.CHG_TIMER_STAT : Nat := 0xE0014
def R.CHG_TIMER_STAT_HV_MIN : Fld := ⟨R.CHG_TIMER_STAT, 31, 16⟩
def R.CHG_TIMER_STAT_LV_MIN : Fld := ⟨R.CHG_TIMER_STAT, 15, 0⟩
/-- CHG_DERATE_CFG (R336, 16_charger_supply.md). -/
def R.CHG_DERATE_CFG : Nat := 0xE0018
def R.CHG_DERATE_CFG_T_END : Fld := ⟨R.CHG_DERATE_CFG, 15, 8⟩
def R.CHG_DERATE_CFG_T_START : Fld := ⟨R.CHG_DERATE_CFG, 7, 0⟩
/-- MOT_PARK_CFG (R346, 17_motion_feedback.md). -/
def R.MOT_PARK_CFG : Nat := 0xF0010
def R.MOT_PARK_CFG_SETTLE : Fld := ⟨R.MOT_PARK_CFG, 23, 16⟩
def R.MOT_PARK_CFG_TIMEOUT : Fld := ⟨R.MOT_PARK_CFG, 15, 8⟩
/-- MOT_PARK_TOL (R346, 17_motion_feedback.md). -/
def R.MOT_PARK_TOL : Nat := 0xF0014
def R.MOT_PARK_TOL_TOL : Fld := ⟨R.MOT_PARK_TOL, 31, 0⟩
/-- MOT_ENC_k_CFG (R350, 17_motion_feedback.md). -/
def R.MOT_ENC_CFG (n : Nat) : Nat := 0xF0100 + 0x20 * n
def R.MOT_ENC_CFG_EN (n : Nat) : Fld := ⟨R.MOT_ENC_CFG n, 31, 31⟩
def R.MOT_ENC_CFG_INDEX_RESET (n : Nat) : Fld := ⟨R.MOT_ENC_CFG n, 30, 30⟩
def R.MOT_ENC_CFG_Z_GATE (n : Nat) : Fld := ⟨R.MOT_ENC_CFG n, 29, 29⟩
def R.MOT_ENC_CFG_FILT_N (n : Nat) : Fld := ⟨R.MOT_ENC_CFG n, 23, 16⟩
def R.MOT_ENC_CFG_STOP_TIME (n : Nat) : Fld := ⟨R.MOT_ENC_CFG n, 15, 8⟩
def R.MOT_ENC_CFG_INDEX_TOL (n : Nat) : Fld := ⟨R.MOT_ENC_CFG n, 7, 4⟩
/-- MOT_ENC_k_LINES (R350, 17_motion_feedback.md). -/
def R.MOT_ENC_LINES (n : Nat) : Nat := 0xF0104 + 0x20 * n
def R.MOT_ENC_LINES_LINES (n : Nat) : Fld := ⟨R.MOT_ENC_LINES n, 16, 0⟩
/-- MOT_ENC_k_COUNT (R350, 17_motion_feedback.md). -/
def R.MOT_ENC_COUNT (n : Nat) : Nat := 0xF0108 + 0x20 * n
def R.MOT_ENC_COUNT_COUNT (n : Nat) : Fld := ⟨R.MOT_ENC_COUNT n, 31, 0⟩
/-- MOT_ENC_k_STAT (R350, 17_motion_feedback.md). -/
def R.MOT_ENC_STAT (n : Nat) : Nat := 0xF010C + 0x20 * n
def R.MOT_ENC_STAT_QERR (n : Nat) : Fld := ⟨R.MOT_ENC_STAT n, 31, 24⟩
def R.MOT_ENC_STAT_IDX_ERR (n : Nat) : Fld := ⟨R.MOT_ENC_STAT n, 23, 16⟩
def R.MOT_ENC_STAT_STANDSTILL (n : Nat) : Fld := ⟨R.MOT_ENC_STAT n, 4, 4⟩
def R.MOT_ENC_STAT_SPEED_VALID (n : Nat) : Fld := ⟨R.MOT_ENC_STAT n, 3, 3⟩
def R.MOT_ENC_STAT_DIR_CHG (n : Nat) : Fld := ⟨R.MOT_ENC_STAT n, 2, 2⟩
def R.MOT_ENC_STAT_QERR_FLAG (n : Nat) : Fld := ⟨R.MOT_ENC_STAT n, 1, 1⟩
def R.MOT_ENC_STAT_DIR (n : Nat) : Fld := ⟨R.MOT_ENC_STAT n, 0, 0⟩
/-- MOT_ENC_k_INDEX (R350, 17_motion_feedback.md). -/
def R.MOT_ENC_INDEX (n : Nat) : Nat := 0xF0110 + 0x20 * n
def R.MOT_ENC_INDEX_INDEX (n : Nat) : Fld := ⟨R.MOT_ENC_INDEX n, 31, 0⟩
/-- MOT_HALL_k_CFG (R351, 17_motion_feedback.md). -/
def R.MOT_HALL_CFG (n : Nat) : Nat := 0xF0200 + 0x10 * n
def R.MOT_HALL_CFG_EN (n : Nat) : Fld := ⟨R.MOT_HALL_CFG n, 31, 31⟩
def R.MOT_HALL_CFG_FILT_N (n : Nat) : Fld := ⟨R.MOT_HALL_CFG n, 23, 16⟩
def R.MOT_HALL_CFG_STOP_TIME (n : Nat) : Fld := ⟨R.MOT_HALL_CFG n, 15, 8⟩
/-- MOT_HALL_k_MAP (R351, 17_motion_feedback.md). -/
def R.MOT_HALL_MAP (n : Nat) : Nat := 0xF0204 + 0x10 * n
def R.MOT_HALL_MAP_SECT (n : Nat) (j : Nat) : Fld := ⟨R.MOT_HALL_MAP n, 3 * j + 2, 3 * j⟩
/-- MOT_SENT_k_CFG (R352, 17_motion_feedback.md). -/
def R.MOT_SENT_CFG (n : Nat) : Nat := 0xF0300 + 0x10 * n
def R.MOT_SENT_CFG_EN (n : Nat) : Fld := ⟨R.MOT_SENT_CFG n, 31, 31⟩
def R.MOT_SENT_CFG_PAUSE (n : Nat) : Fld := ⟨R.MOT_SENT_CFG n, 30, 30⟩
def R.MOT_SENT_CFG_CRC (n : Nat) : Fld := ⟨R.MOT_SENT_CFG n, 29, 28⟩
def R.MOT_SENT_CFG_NIBBLES (n : Nat) : Fld := ⟨R.MOT_SENT_CFG n, 27, 24⟩
def R.MOT_SENT_CFG_TO (n : Nat) : Fld := ⟨R.MOT_SENT_CFG n, 23, 16⟩
def R.MOT_SENT_CFG_TICK (n : Nat) : Fld := ⟨R.MOT_SENT_CFG n, 15, 0⟩
/-- MOT_SENT_k_STAT (R352, 17_motion_feedback.md). -/
def R.MOT_SENT_STAT (n : Nat) : Nat := 0xF0304 + 0x10 * n
def R.MOT_SENT_STAT_ERRORS (n : Nat) : Fld := ⟨R.MOT_SENT_STAT n, 31, 16⟩
def R.MOT_SENT_STAT_SLOW_RDY (n : Nat) : Fld := ⟨R.MOT_SENT_STAT n, 2, 2⟩
def R.MOT_SENT_STAT_LOST (n : Nat) : Fld := ⟨R.MOT_SENT_STAT n, 1, 1⟩
def R.MOT_SENT_STAT_VALID (n : Nat) : Fld := ⟨R.MOT_SENT_STAT n, 0, 0⟩
/-- MOT_RES_k_CFG (R353, 17_motion_feedback.md). -/
def R.MOT_RES_CFG (n : Nat) : Nat := 0xF0400 + 0x10 * n
def R.MOT_RES_CFG_EN (n : Nat) : Fld := ⟨R.MOT_RES_CFG n, 31, 31⟩
def R.MOT_RES_CFG_CFG_ERR (n : Nat) : Fld := ⟨R.MOT_RES_CFG n, 30, 30⟩
def R.MOT_RES_CFG_FC_COS (n : Nat) : Fld := ⟨R.MOT_RES_CFG n, 27, 24⟩
def R.MOT_RES_CFG_FC_SIN (n : Nat) : Fld := ⟨R.MOT_RES_CFG n, 23, 20⟩
def R.MOT_RES_CFG_EXC_FREQ (n : Nat) : Fld := ⟨R.MOT_RES_CFG n, 15, 0⟩
/-- MOT_EMU_k_CFG (R354, 17_motion_feedback.md). -/
def R.MOT_EMU_CFG (n : Nat) : Nat := 0xF0500 + 0x10 * n
def R.MOT_EMU_CFG_EN (n : Nat) : Fld := ⟨R.MOT_EMU_CFG n, 31, 31⟩
def R.MOT_EMU_CFG_INVERT (n : Nat) : Fld := ⟨R.MOT_EMU_CFG n, 30, 30⟩
def R.MOT_EMU_CFG_LAG (n : Nat) : Fld := ⟨R.MOT_EMU_CFG n, 29, 29⟩
def R.MOT_EMU_CFG_SRC (n : Nat) : Fld := ⟨R.MOT_EMU_CFG n, 23, 16⟩
def R.MOT_EMU_CFG_LINES_M1 (n : Nat) : Fld := ⟨R.MOT_EMU_CFG n, 15, 0⟩
/-- ACQ_REF (R372, 18_analogue_acquisition.md). -/
def R.ACQ_REF : Nat := 0xC0000
def R.ACQ_REF_FAULT : Fld := ⟨R.ACQ_REF, 2, 2⟩
def R.ACQ_REF_REF_RDY : Fld := ⟨R.ACQ_REF, 1, 1⟩
def R.ACQ_REF_REF_BUF_EN : Fld := ⟨R.ACQ_REF, 0, 0⟩
/-- ACQ_DIAG_CFG (R372, 18_analogue_acquisition.md). -/
def R.ACQ_DIAG_CFG : Nat := 0xC0004
def R.ACQ_DIAG_CFG_DIAG_TOL : Fld := ⟨R.ACQ_DIAG_CFG, 7, 0⟩
/-- ACQ_FC_k_CFG (R372, 18_analogue_acquisition.md). -/
def R.ACQ_FC_CFG (n : Nat) : Nat := 0xC0100 + 0x10 * n
def R.ACQ_FC_CFG_RANGE (n : Nat) : Fld := ⟨R.ACQ_FC_CFG n, 0, 0⟩
/-- ACQ_FC_k_CAL (R372, 18_analogue_acquisition.md). -/
def R.ACQ_FC_CAL (n : Nat) : Nat := 0xC0104 + 0x10 * n
def R.ACQ_FC_CAL_GAIN (n : Nat) : Fld := ⟨R.ACQ_FC_CAL n, 31, 16⟩
def R.ACQ_FC_CAL_OFFSET (n : Nat) : Fld := ⟨R.ACQ_FC_CAL n, 15, 0⟩
/-- ACQ_CH_n_CAL (R372, 18_analogue_acquisition.md). -/
def R.ACQ_CH_CAL (n : Nat) : Nat := 0xC1000 + 0x10 * n
def R.ACQ_CH_CAL_GAIN (n : Nat) : Fld := ⟨R.ACQ_CH_CAL n, 31, 16⟩
def R.ACQ_CH_CAL_OFFSET (n : Nat) : Fld := ⟨R.ACQ_CH_CAL n, 15, 0⟩
/-- ACQ_FC_k_SCALE (R372, 18_analogue_acquisition.md). -/
def R.ACQ_FC_SCALE (n : Nat) : Nat := 0xC0108 + 0x10 * n
def R.ACQ_FC_SCALE_SCALE (n : Nat) : Fld := ⟨R.ACQ_FC_SCALE n, 31, 0⟩
/-- ACQ_CH_n_SCALE (R372, 18_analogue_acquisition.md). -/
def R.ACQ_CH_SCALE (n : Nat) : Nat := 0xC1004 + 0x10 * n
def R.ACQ_CH_SCALE_SCALE (n : Nat) : Fld := ⟨R.ACQ_CH_SCALE n, 31, 0⟩
/-- ACQ_CH_n_LAST (R372, 18_analogue_acquisition.md). -/
def R.ACQ_CH_LAST (n : Nat) : Nat := 0xC1008 + 0x10 * n
def R.ACQ_CH_LAST_CONV (n : Nat) : Fld := ⟨R.ACQ_CH_LAST n, 20, 20⟩
def R.ACQ_CH_LAST_FLAGS (n : Nat) : Fld := ⟨R.ACQ_CH_LAST n, 19, 16⟩
def R.ACQ_CH_LAST_CODE (n : Nat) : Fld := ⟨R.ACQ_CH_LAST n, 15, 0⟩
/-- ACQ_SEQ_s_CTRL (R372, 18_analogue_acquisition.md). -/
def R.ACQ_SEQ_CTRL (n : Nat) : Nat := 0xC2000 + 0x400 * n
def R.ACQ_SEQ_CTRL_RUN (n : Nat) : Fld := ⟨R.ACQ_SEQ_CTRL n, 31, 31⟩
def R.ACQ_SEQ_CTRL_SWAP (n : Nat) : Fld := ⟨R.ACQ_SEQ_CTRL n, 30, 30⟩
def R.ACQ_SEQ_CTRL_CFG_ERR (n : Nat) : Fld := ⟨R.ACQ_SEQ_CTRL n, 29, 29⟩
def R.ACQ_SEQ_CTRL_CUR (n : Nat) : Fld := ⟨R.ACQ_SEQ_CTRL n, 21, 16⟩
def R.ACQ_SEQ_CTRL_PASS (n : Nat) : Fld := ⟨R.ACQ_SEQ_CTRL n, 15, 0⟩
/-- ACQ_SEQ_s_ENTRY_e (R372, 18_analogue_acquisition.md). -/
def R.ACQ_SEQ_ENTRY (s e : Nat) : Nat := 0xC2100 + 0x400 * s + 8 * e
def R.ACQ_SEQ_ENTRY_REPEAT_M1 (s e : Nat) : Fld := ⟨R.ACQ_SEQ_ENTRY s e, 23, 16⟩
def R.ACQ_SEQ_ENTRY_GROUP (s e : Nat) : Fld := ⟨R.ACQ_SEQ_ENTRY s e, 15, 12⟩
def R.ACQ_SEQ_ENTRY_FLUSH (s e : Nat) : Fld := ⟨R.ACQ_SEQ_ENTRY s e, 8, 8⟩
def R.ACQ_SEQ_ENTRY_END (s e : Nat) : Fld := ⟨R.ACQ_SEQ_ENTRY s e, 7, 7⟩
def R.ACQ_SEQ_ENTRY_CHANNEL (s e : Nat) : Fld := ⟨R.ACQ_SEQ_ENTRY s e, 6, 0⟩
/-- ACQ_SEQ_s_DELAY_e (R372, 18_analogue_acquisition.md). -/
def R.ACQ_SEQ_DELAY (s e : Nat) : Nat := 0xC2104 + 0x400 * s + 8 * e
def R.ACQ_SEQ_DELAY_DELAY (s e : Nat) : Fld := ⟨R.ACQ_SEQ_DELAY s e, 15, 0⟩
/-- ACQ_GRP_g_STAT (R372, 18_analogue_acquisition.md). -/
def R.ACQ_GRP_STAT (n : Nat) : Nat := 0xC3000 + 0x4 * n
def R.ACQ_GRP_STAT_DROPPED (n : Nat) : Fld := ⟨R.ACQ_GRP_STAT n, 31, 0⟩
/-- PAIR_STATUS (R390, 19_paired_execution.md). -/
def R.PAIR_STATUS : Nat := 0x100000
def R.PAIR_STATUS_FE_IN_SERVICE : Fld := ⟨R.PAIR_STATUS, 31, 24⟩
def R.PAIR_STATUS_FE_DIVERGED : Fld := ⟨R.PAIR_STATUS, 23, 16⟩
def R.PAIR_STATUS_STRAP_SPLIT : Fld := ⟨R.PAIR_STATUS, 8, 8⟩
def R.PAIR_STATUS_B_STATE : Fld := ⟨R.PAIR_STATUS, 7, 4⟩
def R.PAIR_STATUS_A_STATE : Fld := ⟨R.PAIR_STATUS, 3, 0⟩
/-- PAIR_W_k_CFG (R390, 19_paired_execution.md). -/
def R.PAIR_W_CFG (n : Nat) : Nat := 0x100010 + 0x10 * n
def R.PAIR_W_CFG_WINDOW (n : Nat) : Fld := ⟨R.PAIR_W_CFG n, 12, 0⟩
/-- PAIR_W_k_STAT (R390, 19_paired_execution.md). -/
def R.PAIR_W_STAT (n : Nat) : Nat := 0x100014 + 0x10 * n
def R.PAIR_W_STAT_TS_MAX (n : Nat) : Fld := ⟨R.PAIR_W_STAT n, 31, 24⟩
def R.PAIR_W_STAT_TS_NOW (n : Nat) : Fld := ⟨R.PAIR_W_STAT n, 23, 16⟩
def R.PAIR_W_STAT_REPLAY (n : Nat) : Fld := ⟨R.PAIR_W_STAT n, 15, 8⟩
def R.PAIR_W_STAT_REPLAY_OVF (n : Nat) : Fld := ⟨R.PAIR_W_STAT n, 7, 7⟩
def R.PAIR_W_STAT_CANARY_BIT (n : Nat) : Fld := ⟨R.PAIR_W_STAT n, 5, 0⟩
/-- PAIR_W_k_RETIRED (R390, 19_paired_execution.md). -/
def R.PAIR_W_RETIRED (n : Nat) : Nat := 0x100018 + 0x10 * n
def R.PAIR_W_RETIRED_COUNT (n : Nat) : Fld := ⟨R.PAIR_W_RETIRED n, 31, 0⟩
/-- PAIR_W_k_STALL (R390, 19_paired_execution.md). -/
def R.PAIR_W_STALL (n : Nat) : Nat := 0x10001C + 0x10 * n
def R.PAIR_W_STALL_CYCLES (n : Nat) : Fld := ⟨R.PAIR_W_STALL n, 31, 0⟩
/-- PAIR_CANARY (R390, 19_paired_execution.md). -/
def R.PAIR_CANARY : Nat := 0x100040
def R.PAIR_CANARY_PASSED : Fld := ⟨R.PAIR_CANARY, 31, 8⟩
def R.PAIR_CANARY_FAILED : Fld := ⟨R.PAIR_CANARY, 7, 0⟩
/-- PAIR_DIV_INFO (R390, 19_paired_execution.md). -/
def R.PAIR_DIV_INFO : Nat := 0x100050
def R.PAIR_DIV_INFO_UNIT : Fld := ⟨R.PAIR_DIV_INFO, 31, 24⟩
def R.PAIR_DIV_INFO_CAUSE : Fld := ⟨R.PAIR_DIV_INFO, 23, 22⟩
def R.PAIR_DIV_INFO_WHEN : Fld := ⟨R.PAIR_DIV_INFO, 21, 0⟩
/-- PAIR_DIV_SIG_q (R390, 19_paired_execution.md). -/
def R.PAIR_DIV_SIG (n : Nat) : Nat := 0x100054 + 0x4 * n
def R.PAIR_DIV_SIG_SIG (n : Nat) : Fld := ⟨R.PAIR_DIV_SIG n, 31, 0⟩
/-- PAIR_SUP_CFG (R390, 19_paired_execution.md). -/
def R.PAIR_SUP_CFG : Nat := 0x100070
def R.PAIR_SUP_CFG_SUP_TIME : Fld := ⟨R.PAIR_SUP_CFG, 13, 0⟩
/-- PAIR_CHECKIN_j (R390, 19_paired_execution.md). -/
def R.PAIR_CHECKIN (n : Nat) : Nat := 0x100074 + 0x4 * n
def R.PAIR_CHECKIN_TOKEN (n : Nat) : Fld := ⟨R.PAIR_CHECKIN n, 15, 0⟩
/-- SAFE_SIN_STATUS (R409, 20_safety_io.md). -/
def R.SAFE_SIN_STATUS : Nat := 0x110000
def R.SAFE_SIN_STATUS_FAST_FIRED : Fld := ⟨R.SAFE_SIN_STATUS, 31, 24⟩
def R.SAFE_SIN_STATUS_DISC : Fld := ⟨R.SAFE_SIN_STATUS, 23, 16⟩
def R.SAFE_SIN_STATUS_DEMAND : Fld := ⟨R.SAFE_SIN_STATUS, 15, 8⟩
/-- SAFE_SOUT_STATUS (R409, 20_safety_io.md). -/
def R.SAFE_SOUT_STATUS : Nat := 0x110004
def R.SAFE_SOUT_STATUS_STUCK : Fld := ⟨R.SAFE_SOUT_STATUS, 29, 24⟩
def R.SAFE_SOUT_STATUS_TEST_FAIL : Fld := ⟨R.SAFE_SOUT_STATUS, 21, 16⟩
def R.SAFE_SOUT_STATUS_READBACK : Fld := ⟨R.SAFE_SOUT_STATUS, 13, 8⟩
def R.SAFE_SOUT_STATUS_ON : Fld := ⟨R.SAFE_SOUT_STATUS, 5, 0⟩
/-- SAFE_LATCH (R409, 20_safety_io.md). -/
def R.SAFE_LATCH : Nat := 0x110008
def R.SAFE_LATCH_FIRED : Fld := ⟨R.SAFE_LATCH, 31, 31⟩
def R.SAFE_LATCH_CAUSE : Fld := ⟨R.SAFE_LATCH, 30, 28⟩
/-- SAFE_WD_CFG (R409, 20_safety_io.md). -/
def R.SAFE_WD_CFG : Nat := 0x11000C
def R.SAFE_WD_CFG_WD_TIME : Fld := ⟨R.SAFE_WD_CFG, 10, 0⟩
/-- SAFE_FAST_CLR (R409, 20_safety_io.md). -/
def R.SAFE_FAST_CLR : Nat := 0x110010
def R.SAFE_FAST_CLR_CLR : Fld := ⟨R.SAFE_FAST_CLR, 7, 0⟩
/-- SAFE_SIN_n_CFG (R409, 20_safety_io.md). -/
def R.SAFE_SIN_CFG (n : Nat) : Nat := 0x110100 + 0x8 * n
def R.SAFE_SIN_CFG_EN (n : Nat) : Fld := ⟨R.SAFE_SIN_CFG n, 31, 31⟩
def R.SAFE_SIN_CFG_FAST (n : Nat) : Fld := ⟨R.SAFE_SIN_CFG n, 30, 30⟩
def R.SAFE_SIN_CFG_ANTI (n : Nat) : Fld := ⟨R.SAFE_SIN_CFG n, 29, 29⟩
def R.SAFE_SIN_CFG_DISC (n : Nat) : Fld := ⟨R.SAFE_SIN_CFG n, 24, 16⟩
def R.SAFE_SIN_CFG_FILT (n : Nat) : Fld := ⟨R.SAFE_SIN_CFG n, 6, 0⟩
/-- SAFE_SIN_n_MAP (R409, 20_safety_io.md). -/
def R.SAFE_SIN_MAP (n : Nat) : Nat := 0x110104 + 0x8 * n
def R.SAFE_SIN_MAP_SOUT (n : Nat) : Fld := ⟨R.SAFE_SIN_MAP n, 21, 16⟩
def R.SAFE_SIN_MAP_FUNC (n : Nat) : Fld := ⟨R.SAFE_SIN_MAP n, 9, 0⟩
/-- SAFE_SOUT_n_CFG (R409, 20_safety_io.md). -/
def R.SAFE_SOUT_CFG (n : Nat) : Nat := 0x110200 + 0x8 * n
def R.SAFE_SOUT_CFG_TEST_EN (n : Nat) : Fld := ⟨R.SAFE_SOUT_CFG n, 31, 31⟩
def R.SAFE_SOUT_CFG_TP_WIDTH (n : Nat) : Fld := ⟨R.SAFE_SOUT_CFG n, 25, 16⟩
def R.SAFE_SOUT_CFG_TP_PERIOD (n : Nat) : Fld := ⟨R.SAFE_SOUT_CFG n, 5, 0⟩
/-- TALLY_STATUS (R426, 21_tally.md). -/
def R.TALLY_STATUS : Nat := 0x120000
def R.TALLY_STATUS_SIGNAL : Fld := ⟨R.TALLY_STATUS, 31, 0⟩
/-- TALLY_CFG (R426, 21_tally.md). -/
def R.TALLY_CFG : Nat := 0x120004
def R.TALLY_CFG_ETYPE : Fld := ⟨R.TALLY_CFG, 31, 16⟩
def R.TALLY_CFG_CFG_ERR : Fld := ⟨R.TALLY_CFG, 8, 8⟩
def R.TALLY_CFG_CLK_TOL : Fld := ⟨R.TALLY_CFG, 7, 0⟩
/-- TALLY_CONN_c_CFG (R426, 21_tally.md). -/
def R.TALLY_CONN_CFG (n : Nat) : Nat := 0x120100 + 0x20 * n
def R.TALLY_CONN_CFG_EN (n : Nat) : Fld := ⟨R.TALLY_CONN_CFG n, 31, 31⟩
def R.TALLY_CONN_CFG_DIR (n : Nat) : Fld := ⟨R.TALLY_CONN_CFG n, 30, 30⟩
def R.TALLY_CONN_CFG_AUTO (n : Nat) : Fld := ⟨R.TALLY_CONN_CFG n, 29, 29⟩
def R.TALLY_CONN_CFG_REACT (n : Nat) : Fld := ⟨R.TALLY_CONN_CFG n, 28, 27⟩
def R.TALLY_CONN_CFG_WINDOW (n : Nat) : Fld := ⟨R.TALLY_CONN_CFG n, 26, 24⟩
def R.TALLY_CONN_CFG_SRC (n : Nat) : Fld := ⟨R.TALLY_CONN_CFG n, 23, 23⟩
def R.TALLY_CONN_CFG_PATH (n : Nat) : Fld := ⟨R.TALLY_CONN_CFG n, 22, 16⟩
def R.TALLY_CONN_CFG_AUTO_N (n : Nat) : Fld := ⟨R.TALLY_CONN_CFG n, 15, 8⟩
def R.TALLY_CONN_CFG_LEN (n : Nat) : Fld := ⟨R.TALLY_CONN_CFG n, 7, 0⟩
/-- TALLY_CONN_c_TIME (R426, 21_tally.md). -/
def R.TALLY_CONN_TIME (n : Nat) : Nat := 0x120104 + 0x20 * n
def R.TALLY_CONN_TIME_WD_TIME (n : Nat) : Fld := ⟨R.TALLY_CONN_TIME n, 31, 16⟩
def R.TALLY_CONN_TIME_T_MAX (n : Nat) : Fld := ⟨R.TALLY_CONN_TIME n, 15, 0⟩
/-- TALLY_CONN_c_ID (R426, 21_tally.md). -/
def R.TALLY_CONN_ID (n : Nat) : Nat := 0x120108 + 0x20 * n
def R.TALLY_CONN_ID_IDENTITY (n : Nat) : Fld := ⟨R.TALLY_CONN_ID n, 31, 0⟩
/-- TALLY_CONN_c_TAG (R426, 21_tally.md). -/
def R.TALLY_CONN_TAG (n : Nat) : Nat := 0x12010C + 0x20 * n
def R.TALLY_CONN_TAG_XTD (n : Nat) : Fld := ⟨R.TALLY_CONN_TAG n, 31, 31⟩
def R.TALLY_CONN_TAG_TAG (n : Nat) : Fld := ⟨R.TALLY_CONN_TAG n, 28, 0⟩
/-- TALLY_CONN_c_STAT (R426, 21_tally.md). -/
def R.TALLY_CONN_STAT (n : Nat) : Nat := 0x120110 + 0x20 * n
def R.TALLY_CONN_STAT_STATE (n : Nat) : Fld := ⟨R.TALLY_CONN_STAT n, 31, 28⟩
def R.TALLY_CONN_STAT_CAUSE (n : Nat) : Fld := ⟨R.TALLY_CONN_STAT n, 27, 24⟩
def R.TALLY_CONN_STAT_FAILS (n : Nat) : Fld := ⟨R.TALLY_CONN_STAT n, 23, 16⟩
def R.TALLY_CONN_STAT_SEQ (n : Nat) : Fld := ⟨R.TALLY_CONN_STAT n, 15, 0⟩
/-- TALLY_CONN_c_LOST (R426, 21_tally.md). -/
def R.TALLY_CONN_LOST (n : Nat) : Nat := 0x120114 + 0x20 * n
def R.TALLY_CONN_LOST_IGNORED (n : Nat) : Fld := ⟨R.TALLY_CONN_LOST n, 31, 16⟩
def R.TALLY_CONN_LOST_LOST (n : Nat) : Fld := ⟨R.TALLY_CONN_LOST n, 15, 0⟩
/-- LEDGER_STATUS (R443, 22_ledger_degraded_commissioning.md). -/
def R.LEDGER_STATUS : Nat := 0x130000
def R.LEDGER_STATUS_QUEUE : Fld := ⟨R.LEDGER_STATUS, 31, 24⟩
def R.LEDGER_STATUS_HIGH : Fld := ⟨R.LEDGER_STATUS, 23, 16⟩
def R.LEDGER_STATUS_IN_HAND : Fld := ⟨R.LEDGER_STATUS, 15, 14⟩
def R.LEDGER_STATUS_HANDLER : Fld := ⟨R.LEDGER_STATUS, 13, 13⟩
def R.LEDGER_STATUS_LOG_DROP : Fld := ⟨R.LEDGER_STATUS, 1, 1⟩
def R.LEDGER_STATUS_OVERFLOW : Fld := ⟨R.LEDGER_STATUS, 0, 0⟩
/-- LEDGER_SEQ (R443, 22_ledger_degraded_commissioning.md). -/
def R.LEDGER_SEQ : Nat := 0x130004
def R.LEDGER_SEQ_SEQ : Fld := ⟨R.LEDGER_SEQ, 31, 0⟩
/-- LEDGER_DEGR_CFG (R443, 22_ledger_degraded_commissioning.md). -/
def R.LEDGER_DEGR_CFG : Nat := 0x130010
def R.LEDGER_DEGR_CFG_TIME : Fld := ⟨R.LEDGER_DEGR_CFG, 25, 16⟩
def R.LEDGER_DEGR_CFG_TRQ_PCT : Fld := ⟨R.LEDGER_DEGR_CFG, 6, 0⟩
/-- LEDGER_COMM_STATUS (R443, 22_ledger_degraded_commissioning.md). -/
def R.LEDGER_COMM_STATUS : Nat := 0x130100
def R.LEDGER_COMM_STATUS_VALID : Fld := ⟨R.LEDGER_COMM_STATUS, 31, 31⟩
def R.LEDGER_COMM_STATUS_CONFIRMED : Fld := ⟨R.LEDGER_COMM_STATUS, 30, 30⟩
def R.LEDGER_COMM_STATUS_CHANGED : Fld := ⟨R.LEDGER_COMM_STATUS, 29, 29⟩
def R.LEDGER_COMM_STATUS_SEAL_REC : Fld := ⟨R.LEDGER_COMM_STATUS, 15, 8⟩
/-- LEDGER_COMM_CHECK (R443, 22_ledger_degraded_commissioning.md). -/
def R.LEDGER_COMM_CHECK : Nat := 0x130104
def R.LEDGER_COMM_CHECK_VALUE : Fld := ⟨R.LEDGER_COMM_CHECK, 31, 0⟩
/-- LEDGER_COMM_CONF (R443, 22_ledger_degraded_commissioning.md). -/
def R.LEDGER_COMM_CONF : Nat := 0x130108
def R.LEDGER_COMM_CONF_VALUE : Fld := ⟨R.LEDGER_COMM_CONF, 31, 0⟩
/-- LEDGER_COMM_AUTH (R443, 22_ledger_degraded_commissioning.md). -/
def R.LEDGER_COMM_AUTH : Nat := 0x13010C
def R.LEDGER_COMM_AUTH_AUTH_CODE : Fld := ⟨R.LEDGER_COMM_AUTH, 31, 0⟩
/-- LINK_STATUS (R459, 23_links.md). -/
def R.LINK_STATUS : Nat := 0x140000
def R.LINK_STATUS_GL_UP : Fld := ⟨R.LINK_STATUS, 14, 12⟩
def R.LINK_STATUS_ETH_UP : Fld := ⟨R.LINK_STATUS, 11, 9⟩
def R.LINK_STATUS_TIME_LOCK : Fld := ⟨R.LINK_STATUS, 8, 8⟩
def R.LINK_STATUS_PCIE_B_GEN : Fld := ⟨R.LINK_STATUS, 7, 5⟩
def R.LINK_STATUS_PCIE_B_X2 : Fld := ⟨R.LINK_STATUS, 4, 4⟩
def R.LINK_STATUS_PCIE_A_GEN : Fld := ⟨R.LINK_STATUS, 3, 1⟩
def R.LINK_STATUS_PCIE_A_X2 : Fld := ⟨R.LINK_STATUS, 0, 0⟩
/-- LINK_TIME_CFG (R459, 23_links.md). -/
def R.LINK_TIME_CFG : Nat := 0x140010
def R.LINK_TIME_CFG_GM : Fld := ⟨R.LINK_TIME_CFG, 10, 8⟩
def R.LINK_TIME_CFG_SRC : Fld := ⟨R.LINK_TIME_CFG, 5, 4⟩
def R.LINK_TIME_CFG_PORT : Fld := ⟨R.LINK_TIME_CFG, 1, 0⟩
/-- LINK_TIME_STAT (R459, 23_links.md). -/
def R.LINK_TIME_STAT : Nat := 0x140014
def R.LINK_TIME_STAT_LOCKED : Fld := ⟨R.LINK_TIME_STAT, 31, 31⟩
def R.LINK_TIME_STAT_OFFSET : Fld := ⟨R.LINK_TIME_STAT, 30, 0⟩
/-- LINK_ETH_CFG (R459, 23_links.md). -/
def R.LINK_ETH_CFG : Nat := 0x140200
def R.LINK_ETH_CFG_SVC_ETYPE : Fld := ⟨R.LINK_ETH_CFG, 31, 16⟩
def R.LINK_ETH_CFG_SVC_EN : Fld := ⟨R.LINK_ETH_CFG, 15, 13⟩
def R.LINK_ETH_CFG_PLCA_EN : Fld := ⟨R.LINK_ETH_CFG, 12, 12⟩
def R.LINK_ETH_CFG_PLCA_ID : Fld := ⟨R.LINK_ETH_CFG, 4, 0⟩
/-- LINK_ETH_m_STAT (R459, 23_links.md). -/
def R.LINK_ETH_STAT (n : Nat) : Nat := 0x140210 + 0x4 * n
def R.LINK_ETH_STAT_DROP (n : Nat) : Fld := ⟨R.LINK_ETH_STAT n, 31, 0⟩
/-- LINK_CAN_k_STAT (R459, 23_links.md). -/
def R.LINK_CAN_STAT (n : Nat) : Nat := 0x140300 + 0x10 * n
def R.LINK_CAN_STAT_BUS_OFF (n : Nat) : Fld := ⟨R.LINK_CAN_STAT n, 31, 31⟩
def R.LINK_CAN_STAT_AUTO_REC (n : Nat) : Fld := ⟨R.LINK_CAN_STAT n, 30, 30⟩
def R.LINK_CAN_STAT_RX_DROP (n : Nat) : Fld := ⟨R.LINK_CAN_STAT n, 29, 16⟩
def R.LINK_CAN_STAT_TEC (n : Nat) : Fld := ⟨R.LINK_CAN_STAT n, 15, 8⟩
def R.LINK_CAN_STAT_REC (n : Nat) : Fld := ⟨R.LINK_CAN_STAT n, 7, 0⟩
/-- LINK_GL_CFG (R459, 23_links.md). -/
def R.LINK_GL_CFG : Nat := 0x140100
def R.LINK_GL_CFG_ADDR : Fld := ⟨R.LINK_GL_CFG, 31, 24⟩
def R.LINK_GL_CFG_HOPS_MAX : Fld := ⟨R.LINK_GL_CFG, 23, 16⟩
def R.LINK_GL_CFG_TX_BUDGET : Fld := ⟨R.LINK_GL_CFG, 9, 0⟩
/-- LINK_GL_p_STAT (R459, 23_links.md). -/
def R.LINK_GL_STAT (n : Nat) : Nat := 0x140110 + 0x10 * n
def R.LINK_GL_STAT_FWD_DROP (n : Nat) : Fld := ⟨R.LINK_GL_STAT n, 31, 16⟩
def R.LINK_GL_STAT_CRC_ERR (n : Nat) : Fld := ⟨R.LINK_GL_STAT n, 15, 0⟩
/-- LINK_GL_ROUTE_a (R459, 23_links.md). -/
def R.LINK_GL_ROUTE (n : Nat) : Nat := 0x140400 + 0x4 * n
def R.LINK_GL_ROUTE_PORTS (n : Nat) : Fld := ⟨R.LINK_GL_ROUTE n, 2, 0⟩
/-- SYS_ID (R467, 24_register_map.md). -/
def R.SYS_ID : Nat := 0x0
def R.SYS_ID_PART : Fld := ⟨R.SYS_ID, 15, 0⟩
/-- SYS_STEP (R467, 24_register_map.md). -/
def R.SYS_STEP : Nat := 0x4
def R.SYS_STEP_LETTER : Fld := ⟨R.SYS_STEP, 15, 8⟩
def R.SYS_STEP_NUMBER : Fld := ⟨R.SYS_STEP, 7, 0⟩
/-- DBG_CTRL (R468, 24_register_map.md). -/
def R.DBG_CTRL : Nat := 0x160000
def R.DBG_CTRL_TARGET : Fld := ⟨R.DBG_CTRL, 9, 8⟩
def R.DBG_CTRL_STEP : Fld := ⟨R.DBG_CTRL, 2, 2⟩
def R.DBG_CTRL_RESUME : Fld := ⟨R.DBG_CTRL, 1, 1⟩
def R.DBG_CTRL_HALT : Fld := ⟨R.DBG_CTRL, 0, 0⟩
/-- DBG_STATUS (R468, 24_register_map.md). -/
def R.DBG_STATUS : Nat := 0x160004
def R.DBG_STATUS_REFUSED : Fld := ⟨R.DBG_STATUS, 3, 3⟩
def R.DBG_STATUS_BUSY : Fld := ⟨R.DBG_STATUS, 2, 2⟩
def R.DBG_STATUS_ERR : Fld := ⟨R.DBG_STATUS, 1, 1⟩
def R.DBG_STATUS_HALTED : Fld := ⟨R.DBG_STATUS, 0, 0⟩
/-- DBG_ADDR (R468, 24_register_map.md). -/
def R.DBG_ADDR : Nat := 0x160008
def R.DBG_ADDR_ADDR : Fld := ⟨R.DBG_ADDR, 31, 2⟩
/-- DBG_DATA (R468, 24_register_map.md). -/
def R.DBG_DATA : Nat := 0x16000C
def R.DBG_DATA_DATA : Fld := ⟨R.DBG_DATA, 31, 0⟩
/-- DBG_REG_INDEX (R468, 24_register_map.md). -/
def R.DBG_REG_INDEX : Nat := 0x160010
def R.DBG_REG_INDEX_INDEX : Fld := ⟨R.DBG_REG_INDEX, 11, 0⟩
/-- DBG_REG_DATA (R468, 24_register_map.md). -/
def R.DBG_REG_DATA : Nat := 0x160014
def R.DBG_REG_DATA_DATA : Fld := ⟨R.DBG_REG_DATA, 31, 0⟩
/-- MOT_SENT_k_SLOW (R352, 17_motion_feedback.md). -/
def R.MOT_SENT_SLOW (n : Nat) : Nat := 0xF0308 + 0x10 * n

/-- The registers of block 0x00 (R461). -/
def regBlock00 : List RegFam := [
  ⟨.r_SYS_MODE, 0x20, 0x0, 1, 0, 0x2, [⟨31, 24, .rov⟩, ⟨16, 16, .rov⟩, ⟨15, 12, .rov⟩, ⟨8, 8, .rov⟩, ⟨7, 7, .rov⟩, ⟨6, 6, .rov⟩, ⟨5, 5, .rov⟩, ⟨4, 4, .rov⟩, ⟨3, 0, .rov⟩]⟩,
  ⟨.r_SYS_MODE_CAUSE, 0x24, 0x0, 1, 0, 0x0, [⟨27, 24, .rov⟩, ⟨23, 20, .rov⟩, ⟨19, 16, .rov⟩, ⟨15, 0, .rov⟩]⟩,
  ⟨.r_SYS_MODE_CFG, 0x28, 0x0, 1, 0, 0x14001E, [⟨23, 16, .rws⟩, ⟨9, 0, .rws⟩]⟩,
  ⟨.r_SYS_RESET_CAUSE, 0x30, 0x0, 1, 0, 0x1, [⟨9, 9, .w1c⟩, ⟨8, 8, .w1c⟩, ⟨7, 7, .w1c⟩, ⟨6, 6, .w1c⟩, ⟨5, 5, .w1c⟩, ⟨4, 4, .w1c⟩, ⟨3, 3, .w1c⟩, ⟨2, 2, .w1c⟩, ⟨0, 0, .w1c⟩]⟩,
  ⟨.r_SYS_STRAP, 0x34, 0x0, 1, 0, 0x0, [⟨16, 16, .w1c⟩, ⟨15, 8, .rov⟩, ⟨7, 0, .ro⟩]⟩,
  ⟨.r_SYS_ID, 0x0, 0x0, 1, 0, 0x9460, [⟨15, 0, .ro⟩]⟩,
  ⟨.r_SYS_STEP, 0x4, 0x0, 1, 0, 0x4201, [⟨15, 8, .ro⟩, ⟨7, 0, .ro⟩]⟩]

/-- The registers of block 0x01 (R461). -/
def regBlock01 : List RegFam := [
  ⟨.r_PWR_STATUS, 0x10000, 0x0, 1, 0, 0x0, [⟨15, 8, .rov⟩, ⟨4, 4, .rov⟩, ⟨3, 3, .rov⟩, ⟨2, 2, .rov⟩, ⟨1, 1, .rov⟩, ⟨0, 0, .rov⟩]⟩,
  ⟨.r_PWR_WAKE_CFG, 0x10010, 0x0, 1, 0, 0x0, [⟨31, 24, .rw⟩, ⟨23, 16, .rw⟩, ⟨11, 4, .rw⟩, ⟨3, 0, .rw⟩]⟩,
  ⟨.r_PWR_WAKE_TIMER, 0x10018, 0x0, 1, 0, 0x0, [⟨23, 0, .rw⟩]⟩,
  ⟨.r_PWR_WAKE_STATUS, 0x10014, 0x0, 1, 0, 0x0, [⟨7, 7, .w1c⟩, ⟨6, 6, .w1c⟩, ⟨5, 5, .w1c⟩, ⟨4, 4, .w1c⟩, ⟨3, 0, .w1c⟩]⟩]

/-- The registers of block 0x02 (R461). -/
def regBlock02 : List RegFam := [
  ⟨.r_OWN_STATUS, 0x20000, 0x0, 1, 0, 0x20000, [⟨31, 24, .rov⟩, ⟨19, 18, .rov⟩, ⟨17, 16, .rov⟩, ⟨15, 12, .rov⟩, ⟨2, 0, .rov⟩]⟩,
  ⟨.r_OWN_NONCE, 0x20004, 0x0, 1, 0, 0x0, [⟨31, 0, .rov⟩]⟩,
  ⟨.r_OWN_CFG, 0x20008, 0x0, 1, 0, 0x640000, [⟨31, 16, .rws⟩]⟩,
  ⟨.r_OWN_m_HB, 0x20010, 0x4, 2, 0, 0x0, [⟨15, 0, .rw⟩]⟩,
  ⟨.r_OWN_SVC_STAT, 0x20020, 0x0, 1, 0, 0x0, [⟨31, 16, .rov⟩, ⟨0, 0, .rov⟩]⟩]

/-- The registers of block 0x03 (R461). -/
def regBlock03 : List RegFam := [
  ⟨.r_RING_m_SEL, 0x30000, 0x100, 3, 0, 0x0, [⟨5, 4, .rw⟩, ⟨3, 0, .rw⟩]⟩,
  ⟨.r_RING_m_BASE_LO, 0x30004, 0x100, 3, 0, 0x0, [⟨31, 6, .rw⟩]⟩,
  ⟨.r_RING_m_BASE_HI, 0x30008, 0x100, 3, 0, 0x0, [⟨31, 0, .rw⟩]⟩,
  ⟨.r_RING_m_CFG, 0x3000C, 0x100, 3, 0, 0x4, [⟨31, 31, .rw⟩, ⟨27, 24, .rw⟩, ⟨23, 18, .rw⟩, ⟨17, 17, .rw⟩, ⟨16, 16, .rw⟩, ⟨15, 8, .rw⟩, ⟨3, 0, .rw⟩]⟩,
  ⟨.r_RING_m_IRQ, 0x30010, 0x100, 3, 0, 0x10000, [⟨23, 16, .rw⟩, ⟨15, 0, .rw⟩]⟩,
  ⟨.r_RING_m_STAT, 0x30014, 0x100, 3, 0, 0x0, [⟨31, 16, .rov⟩, ⟨15, 12, .rov⟩, ⟨0, 0, .rov⟩]⟩,
  ⟨.r_RING_m_TLM, 0x30018, 0x100, 3, 0, 0x0, [⟨31, 24, .rw⟩, ⟨15, 8, .rw⟩, ⟨7, 0, .rw⟩]⟩,
  ⟨.r_RING_m_LOST, 0x3001C, 0x100, 3, 0, 0x0, [⟨15, 0, .rov⟩]⟩,
  ⟨.r_RING_m_CTRL, 0x30020, 0x100, 3, 0, 0x0, [⟨0, 0, .wo⟩]⟩]

/-- The registers of block 0x04 (R461). -/
def regBlock04 : List RegFam := [
  ⟨.r_DB_m_CMD, 0x40000, 0x4, 16, 0, 0x0, [⟨15, 0, .rw⟩]⟩,
  ⟨.r_DB_m_CPL, 0x40040, 0x4, 16, 0, 0x0, [⟨15, 0, .rw⟩]⟩,
  ⟨.r_DB_m_EVT, 0x40080, 0x4, 4, 0, 0x0, [⟨15, 0, .rw⟩]⟩,
  ⟨.r_DB_m_TLM, 0x40090, 0x4, 8, 0, 0x0, [⟨15, 0, .rw⟩]⟩,
  ⟨.r_DB_m_CMD, 0x41000, 0x4, 16, 16, 0x0, [⟨15, 0, .rw⟩]⟩,
  ⟨.r_DB_m_CPL, 0x41040, 0x4, 16, 16, 0x0, [⟨15, 0, .rw⟩]⟩,
  ⟨.r_DB_m_EVT, 0x41080, 0x4, 4, 16, 0x0, [⟨15, 0, .rw⟩]⟩,
  ⟨.r_DB_m_TLM, 0x41090, 0x4, 8, 16, 0x0, [⟨15, 0, .rw⟩]⟩,
  ⟨.r_DB_m_CMD, 0x42000, 0x4, 16, 32, 0x0, [⟨15, 0, .rw⟩]⟩,
  ⟨.r_DB_m_CPL, 0x42040, 0x4, 16, 32, 0x0, [⟨15, 0, .rw⟩]⟩,
  ⟨.r_DB_m_EVT, 0x42080, 0x4, 4, 32, 0x0, [⟨15, 0, .rw⟩]⟩,
  ⟨.r_DB_m_TLM, 0x42090, 0x4, 8, 32, 0x0, [⟨15, 0, .rw⟩]⟩]

/-- The registers of block 0x05 (R461). -/
def regBlock05 : List RegFam := [
  ⟨.r_MKT_STATUS, 0x50000, 0x0, 1, 0, 0x10001000, [⟨31, 31, .w1c⟩, ⟨30, 30, .w1c⟩, ⟨28, 16, .rov⟩, ⟨12, 0, .rov⟩]⟩,
  ⟨.r_MKT_CH_n_QUOTA, 0x50100, 0x4, 64, 0, 0x0, [⟨28, 16, .rw⟩, ⟨12, 0, .rw⟩]⟩,
  ⟨.r_MKT_CH_n_STAT, 0x50200, 0x4, 64, 0, 0x0, [⟨31, 16, .rov⟩, ⟨12, 0, .rov⟩]⟩,
  ⟨.r_MKT_CH_n_RELEASE, 0x50300, 0x4, 64, 0, 0x0, [⟨11, 0, .wo⟩]⟩]

/-- The registers of block 0x06 (R461). -/
def regBlock06 : List RegFam := [
  ⟨.r_STORE_STATUS, 0x60000, 0x0, 1, 0, 0x0, [⟨31, 16, .rov⟩, ⟨3, 3, .w1c⟩, ⟨2, 2, .w1c⟩, ⟨1, 1, .w1c⟩]⟩,
  ⟨.r_STORE_BUSY, 0x60004, 0x0, 1, 0, 0x0, [⟨31, 0, .rov⟩]⟩,
  ⟨.r_STORE_PWR_CFG, 0x60010, 0x0, 1, 0, 0x64, [⟨15, 0, .rw⟩]⟩,
  ⟨.r_STORE_BANK_PWR_k, 0x60020, 0x4, 2, 0, 0x0, [⟨1, 0, .rw⟩, ⟨3, 2, .rw⟩, ⟨5, 4, .rw⟩, ⟨7, 6, .rw⟩, ⟨9, 8, .rw⟩, ⟨11, 10, .rw⟩, ⟨13, 12, .rw⟩, ⟨15, 14, .rw⟩, ⟨17, 16, .rw⟩, ⟨19, 18, .rw⟩, ⟨21, 20, .rw⟩, ⟨23, 22, .rw⟩, ⟨25, 24, .rw⟩, ⟨27, 26, .rw⟩, ⟨29, 28, .rw⟩, ⟨31, 30, .rw⟩]⟩,
  ⟨.r_STORE_BANK_STATE_k, 0x60028, 0x4, 2, 0, 0x0, [⟨1, 0, .rov⟩, ⟨3, 2, .rov⟩, ⟨5, 4, .rov⟩, ⟨7, 6, .rov⟩, ⟨9, 8, .rov⟩, ⟨11, 10, .rov⟩, ⟨13, 12, .rov⟩, ⟨15, 14, .rov⟩, ⟨17, 16, .rov⟩, ⟨19, 18, .rov⟩, ⟨21, 20, .rov⟩, ⟨23, 22, .rov⟩, ⟨25, 24, .rov⟩, ⟨27, 26, .rov⟩, ⟨29, 28, .rov⟩, ⟨31, 30, .rov⟩]⟩,
  ⟨.r_STORE_ECC_STATUS, 0x60040, 0x0, 1, 0, 0x0, [⟨31, 16, .rov⟩, ⟨15, 8, .rov⟩, ⟨7, 4, .rov⟩, ⟨2, 2, .w1c⟩, ⟨1, 1, .w1c⟩, ⟨0, 0, .w1c⟩]⟩,
  ⟨.r_STORE_ERR_ADDR, 0x60044, 0x0, 1, 0, 0x0, [⟨22, 0, .rov⟩]⟩,
  ⟨.r_STORE_ERR_INFO, 0x60048, 0x0, 1, 0, 0x0, [⟨15, 8, .rov⟩, ⟨7, 4, .rov⟩, ⟨3, 0, .rov⟩]⟩,
  ⟨.r_STORE_SCRUB_CFG, 0x60050, 0x0, 1, 0, 0xA, [⟨7, 0, .rws⟩]⟩,
  ⟨.r_STORE_BGT_CFG, 0x60054, 0x0, 1, 0, 0xA, [⟨9, 0, .rws⟩]⟩,
  ⟨.r_STORE_BGT_STATUS, 0x60058, 0x0, 1, 0, 0x0, [⟨31, 20, .rov⟩, ⟨16, 0, .rov⟩]⟩,
  ⟨.r_STORE_SPARE_k, 0x60060, 0x4, 4, 0, 0x0, [⟨3, 0, .rov⟩, ⟨7, 4, .rov⟩, ⟨11, 8, .rov⟩, ⟨15, 12, .rov⟩, ⟨19, 16, .rov⟩, ⟨23, 20, .rov⟩, ⟨27, 24, .rov⟩, ⟨31, 28, .rov⟩]⟩]

/-- The registers of block 0x07 (R461). -/
def regBlock07 : List RegFam := [
  ⟨.r_MRAM_STATUS, 0x70000, 0x0, 1, 0, 0x0, [⟨31, 16, .rov⟩, ⟨15, 8, .rov⟩, ⟨2, 2, .rov⟩, ⟨1, 1, .rov⟩, ⟨0, 0, .rov⟩]⟩,
  ⟨.r_MRAM_WEAR, 0x70004, 0x0, 1, 0, 0x0, [⟨31, 19, .rov⟩, ⟨18, 0, .rov⟩]⟩]

/-- The registers of block 0x08 (R461). -/
def regBlock08 : List RegFam := [
  ⟨.r_FE_n_CTRL, 0x80000, 0x2000, 8, 0, 0x0, [⟨31, 31, .rw⟩, ⟨25, 16, .rw⟩, ⟨15, 8, .rw⟩, ⟨0, 0, .rw⟩]⟩,
  ⟨.r_FE_n_TICK, 0x80004, 0x2000, 8, 0, 0x4E20, [⟨18, 0, .rw⟩]⟩,
  ⟨.r_FE_n_STATUS, 0x80008, 0x2000, 8, 0, 0x0, [⟨31, 24, .rov⟩, ⟨23, 20, .rov⟩, ⟨15, 12, .rov⟩, ⟨11, 4, .rov⟩, ⟨0, 0, .rov⟩]⟩,
  ⟨.r_FE_n_TICKNO, 0x8000C, 0x2000, 8, 0, 0x0, [⟨31, 0, .rov⟩]⟩,
  ⟨.r_FE_n_LOAD, 0x80010, 0x2000, 8, 0, 0x0, [⟨31, 16, .rov⟩, ⟨15, 0, .rov⟩]⟩,
  ⟨.r_FE_n_FAULT, 0x80014, 0x2000, 8, 0, 0x0, [⟨25, 16, .rov⟩, ⟨10, 10, .w1c⟩, ⟨9, 9, .w1c⟩, ⟨8, 8, .w1c⟩, ⟨7, 7, .w1c⟩, ⟨6, 6, .w1c⟩, ⟨5, 5, .w1c⟩, ⟨4, 4, .w1c⟩, ⟨3, 3, .w1c⟩, ⟨2, 2, .w1c⟩, ⟨1, 1, .w1c⟩, ⟨0, 0, .w1c⟩]⟩,
  ⟨.r_FE_n_PLAUS_SEV, 0x80018, 0x2000, 8, 0, 0x0, [⟨1, 0, .rws⟩, ⟨3, 2, .rws⟩, ⟨5, 4, .rws⟩, ⟨7, 6, .rws⟩, ⟨9, 8, .rws⟩, ⟨11, 10, .rws⟩, ⟨13, 12, .rws⟩, ⟨15, 14, .rws⟩]⟩,
  ⟨.r_FE_n_PLAUS_STAT, 0x8001C, 0x2000, 8, 0, 0x0, [⟨15, 8, .rov⟩, ⟨7, 0, .rov⟩]⟩,
  ⟨.r_FE_n_PARAM, 0x80800, 0x4, 512, 0, 0x0, [⟨31, 0, .rw⟩]⟩,
  ⟨.r_FE_n_LOOP, 0x81000, 0x4, 1024, 0, 0x0, [⟨31, 0, .rw⟩]⟩,
  ⟨.r_FE_n_PARAM, 0x82800, 0x4, 512, 512, 0x0, [⟨31, 0, .rw⟩]⟩,
  ⟨.r_FE_n_LOOP, 0x83000, 0x4, 1024, 1024, 0x0, [⟨31, 0, .rw⟩]⟩,
  ⟨.r_FE_n_PARAM, 0x84800, 0x4, 512, 1024, 0x0, [⟨31, 0, .rw⟩]⟩,
  ⟨.r_FE_n_LOOP, 0x85000, 0x4, 1024, 2048, 0x0, [⟨31, 0, .rw⟩]⟩,
  ⟨.r_FE_n_PARAM, 0x86800, 0x4, 512, 1536, 0x0, [⟨31, 0, .rw⟩]⟩,
  ⟨.r_FE_n_LOOP, 0x87000, 0x4, 1024, 3072, 0x0, [⟨31, 0, .rw⟩]⟩,
  ⟨.r_FE_n_PARAM, 0x88800, 0x4, 512, 2048, 0x0, [⟨31, 0, .rw⟩]⟩,
  ⟨.r_FE_n_LOOP, 0x89000, 0x4, 1024, 4096, 0x0, [⟨31, 0, .rw⟩]⟩,
  ⟨.r_FE_n_PARAM, 0x8A800, 0x4, 512, 2560, 0x0, [⟨31, 0, .rw⟩]⟩,
  ⟨.r_FE_n_LOOP, 0x8B000, 0x4, 1024, 5120, 0x0, [⟨31, 0, .rw⟩]⟩,
  ⟨.r_FE_n_PARAM, 0x8C800, 0x4, 512, 3072, 0x0, [⟨31, 0, .rw⟩]⟩,
  ⟨.r_FE_n_LOOP, 0x8D000, 0x4, 1024, 6144, 0x0, [⟨31, 0, .rw⟩]⟩,
  ⟨.r_FE_n_PARAM, 0x8E800, 0x4, 512, 3584, 0x0, [⟨31, 0, .rw⟩]⟩,
  ⟨.r_FE_n_LOOP, 0x8F000, 0x4, 1024, 7168, 0x0, [⟨31, 0, .rw⟩]⟩]

/-- The registers of block 0x09 (R461). -/
def regBlock09 : List RegFam := [
  ⟨.r_FE_PAIR_CFG, 0x90000, 0x0, 1, 0, 0x0, [⟨1, 1, .rws⟩, ⟨0, 0, .rws⟩]⟩]

/-- The registers of block 0x0A (R461). -/
def regBlock0A : List RegFam := [
  ⟨.r_EDGE_STATUS, 0xA0000, 0x0, 1, 0, 0x0, [⟨8, 8, .w1c⟩, ⟨7, 0, .w1c⟩]⟩,
  ⟨.r_EDGE_CFG, 0xA0004, 0x0, 1, 0, 0x1, [⟨1, 0, .rws⟩]⟩,
  ⟨.r_EDGE_CH_n_CFG, 0xA0100, 0x10, 48, 0, 0x0, [⟨30, 28, .rw⟩, ⟨27, 24, .rws⟩, ⟨23, 20, .rws⟩, ⟨19, 18, .rws⟩, ⟨17, 17, .rw⟩, ⟨15, 0, .rw⟩]⟩,
  ⟨.r_EDGE_CH_n_DT, 0xA0104, 0x10, 48, 0, 0x14001000, [⟨31, 16, .rws⟩, ⟨15, 0, .rws⟩]⟩,
  ⟨.r_EDGE_CH_n_STAT, 0xA0108, 0x10, 48, 0, 0x0, [⟨31, 16, .rov⟩, ⟨15, 0, .rov⟩]⟩,
  ⟨.r_EDGE_TB_n_CFG, 0xA1000, 0x10, 8, 0, 0x20900, [⟨31, 31, .rw⟩, ⟨30, 30, .rw⟩, ⟨21, 16, .rw⟩, ⟨11, 11, .rw⟩, ⟨10, 10, .rw⟩, ⟨9, 9, .rw⟩, ⟨8, 8, .rw⟩]⟩,
  ⟨.r_EDGE_TB_n_HALF_A, 0xA1004, 0x10, 8, 0, 0x3E80, [⟨18, 0, .rw⟩]⟩,
  ⟨.r_EDGE_TB_n_HALF_B, 0xA1008, 0x10, 8, 0, 0x3E80, [⟨18, 0, .rw⟩]⟩,
  ⟨.r_EDGE_TB_n_SAMP, 0xA100C, 0x10, 8, 0, 0x80C140, [⟨31, 16, .rws⟩, ⟨15, 15, .rw⟩, ⟨14, 14, .rw⟩, ⟨13, 0, .rw⟩]⟩,
  ⟨.r_EDGE_FC_k_CFG, 0xA2000, 0x8, 16, 0, 0x0, [⟨31, 31, .rw⟩, ⟨27, 24, .rw⟩, ⟨21, 16, .rw⟩, ⟨8, 0, .rw⟩]⟩,
  ⟨.r_EDGE_FC_k_STAT, 0xA2004, 0x8, 16, 0, 0x0, [⟨31, 16, .rov⟩, ⟨15, 8, .rov⟩]⟩,
  ⟨.r_EDGE_BAND_n_CFG, 0xA3000, 0x10, 8, 0, 0x40000030, [⟨31, 31, .rws⟩, ⟨30, 30, .rw⟩, ⟨7, 0, .rws⟩]⟩,
  ⟨.r_EDGE_BAND_n_STAT, 0xA3004, 0x10, 8, 0, 0x0, [⟨31, 31, .rov⟩, ⟨30, 16, .rov⟩, ⟨15, 0, .rov⟩]⟩,
  ⟨.r_EDGE_BAND_n_PRED, 0xA3008, 0x10, 8, 0, 0x0, [⟨31, 0, .rov⟩]⟩]

/-- The registers of block 0x0B (R461). -/
def regBlock0B : List RegFam := [
  ⟨.r_GATE_CFG, 0xB0000, 0x0, 1, 0, 0x640001, [⟨31, 16, .rws⟩, ⟨1, 0, .rws⟩]⟩,
  ⟨.r_GATE_n_CFG, 0xB0100, 0x10, 48, 0, 0x40000000, [⟨31, 31, .rws⟩, ⟨30, 30, .rws⟩]⟩,
  ⟨.r_GATE_n_CAP, 0xB0104, 0x10, 48, 0, 0x0, [⟨31, 0, .ro⟩]⟩,
  ⟨.r_GATE_n_DELAY, 0xB0108, 0x10, 48, 0, 0x0, [⟨31, 16, .rov⟩, ⟨15, 0, .rov⟩]⟩,
  ⟨.r_GATE_n_STAT, 0xB010C, 0x10, 48, 0, 0x0, [⟨31, 16, .rov⟩, ⟨15, 8, .rov⟩, ⟨2, 2, .rov⟩, ⟨1, 1, .rov⟩, ⟨0, 0, .w1c⟩]⟩]

/-- The registers of block 0x0C (R461). -/
def regBlock0C : List RegFam := [
  ⟨.r_ACQ_REF, 0xC0000, 0x0, 1, 0, 0x0, [⟨2, 2, .w1c⟩, ⟨1, 1, .rov⟩, ⟨0, 0, .rw⟩]⟩,
  ⟨.r_ACQ_DIAG_CFG, 0xC0004, 0x0, 1, 0, 0xA, [⟨7, 0, .rws⟩]⟩,
  ⟨.r_ACQ_FC_k_CFG, 0xC0100, 0x10, 16, 0, 0x0, [⟨0, 0, .rws⟩]⟩,
  ⟨.r_ACQ_FC_k_CAL, 0xC0104, 0x10, 16, 0, 0x80000000, [⟨31, 16, .rov⟩, ⟨15, 0, .rov⟩]⟩,
  ⟨.r_ACQ_CH_n_CAL, 0xC1000, 0x10, 96, 0, 0x80000000, [⟨31, 16, .rov⟩, ⟨15, 0, .rov⟩]⟩,
  ⟨.r_ACQ_FC_k_SCALE, 0xC0108, 0x10, 16, 0, 0x3899999A, [⟨31, 0, .rws⟩]⟩,
  ⟨.r_ACQ_CH_n_SCALE, 0xC1004, 0x10, 96, 0, 0x3799999A, [⟨31, 0, .rws⟩]⟩,
  ⟨.r_ACQ_CH_n_LAST, 0xC1008, 0x10, 96, 0, 0x0, [⟨20, 20, .rov⟩, ⟨19, 16, .rov⟩, ⟨15, 0, .rov⟩]⟩,
  ⟨.r_ACQ_SEQ_s_CTRL, 0xC2000, 0x400, 2, 0, 0x0, [⟨31, 31, .rw⟩, ⟨30, 30, .w1s⟩, ⟨29, 29, .w1c⟩, ⟨21, 16, .rov⟩, ⟨15, 0, .rov⟩]⟩,
  ⟨.r_ACQ_SEQ_s_ENTRY_e, 0xC2100, 0x8, 64, 0, 0xF080, [⟨23, 16, .rw⟩, ⟨15, 12, .rw⟩, ⟨8, 8, .rw⟩, ⟨7, 7, .rw⟩, ⟨6, 0, .rw⟩]⟩,
  ⟨.r_ACQ_SEQ_s_ENTRY_e, 0xC2500, 0x8, 64, 64, 0xF080, [⟨23, 16, .rw⟩, ⟨15, 12, .rw⟩, ⟨8, 8, .rw⟩, ⟨7, 7, .rw⟩, ⟨6, 0, .rw⟩]⟩,
  ⟨.r_ACQ_SEQ_s_DELAY_e, 0xC2104, 0x8, 64, 0, 0x0, [⟨15, 0, .rw⟩]⟩,
  ⟨.r_ACQ_SEQ_s_DELAY_e, 0xC2504, 0x8, 64, 64, 0x0, [⟨15, 0, .rw⟩]⟩,
  ⟨.r_ACQ_GRP_g_STAT, 0xC3000, 0x4, 8, 0, 0x0, [⟨31, 0, .rov⟩]⟩]

/-- The registers of block 0x0D (R461). -/
def regBlock0D : List RegFam := [
  ⟨.r_CONV_CFG, 0xD0000, 0x0, 1, 0, 0x643C0000, [⟨31, 24, .rws⟩, ⟨23, 14, .rws⟩, ⟨1, 1, .rw⟩, ⟨0, 0, .rws⟩]⟩,
  ⟨.r_CONV_STATUS, 0xD0004, 0x0, 1, 0, 0x0, [⟨31, 28, .rov⟩, ⟨27, 26, .rov⟩, ⟨7, 7, .w1c⟩, ⟨6, 6, .w1c⟩, ⟨5, 5, .rov⟩, ⟨3, 0, .rov⟩]⟩,
  ⟨.r_CONV_CTRL, 0xD0008, 0x0, 1, 0, 0x0, [⟨1, 1, .wo⟩, ⟨0, 0, .rw⟩]⟩,
  ⟨.r_CONV_SYNC_CFG, 0xD0010, 0x0, 1, 0, 0x6430D40, [⟨31, 31, .rws⟩, ⟨30, 30, .rw⟩, ⟨27, 20, .rws⟩, ⟨18, 0, .rw⟩]⟩,
  ⟨.r_CONV_SYNC_STAT, 0xD0014, 0x0, 1, 0, 0x0, [⟨31, 29, .rov⟩, ⟨27, 20, .rov⟩, ⟨19, 0, .rov⟩]⟩,
  ⟨.r_CONV_BURST_CFG, 0xD0020, 0x0, 1, 0, 0xC80014, [⟨31, 16, .rw⟩, ⟨15, 0, .rw⟩]⟩,
  ⟨.r_CONV_PROT_CFG, 0xD0030, 0x0, 1, 0, 0x426803E8, [⟨31, 16, .rws⟩, ⟨15, 0, .rws⟩]⟩]

/-- The registers of block 0x0E (R461). -/
def regBlock0E : List RegFam := [
  ⟨.r_CHG_STATUS, 0xE0000, 0x0, 1, 0, 0x0, [⟨31, 28, .rov⟩, ⟨27, 27, .rov⟩, ⟨26, 24, .rov⟩, ⟨23, 20, .rov⟩, ⟨19, 16, .rov⟩, ⟨7, 7, .rov⟩, ⟨6, 6, .w1c⟩, ⟨5, 5, .rov⟩, ⟨4, 4, .rov⟩, ⟨3, 3, .w1c⟩, ⟨2, 2, .rov⟩, ⟨1, 1, .rov⟩, ⟨0, 0, .rov⟩]⟩,
  ⟨.r_CHG_PILOT, 0xE0004, 0x0, 1, 0, 0x0, [⟨31, 18, .rov⟩, ⟨15, 8, .rov⟩, ⟨7, 0, .rov⟩]⟩,
  ⟨.r_CHG_PILOT_CFG, 0xE0008, 0x0, 1, 0, 0x1450014A, [⟨31, 24, .rws⟩, ⟨23, 14, .rws⟩, ⟨13, 0, .rws⟩]⟩,
  ⟨.r_CHG_OVP, 0xE000C, 0x0, 1, 0, 0x0, [⟨31, 16, .rws⟩, ⟨11, 0, .rov⟩]⟩,
  ⟨.r_CHG_TIMERS, 0xE0010, 0x0, 1, 0, 0x640258, [⟨31, 16, .rws⟩, ⟨15, 0, .rws⟩]⟩,
  ⟨.r_CHG_TIMER_STAT, 0xE0014, 0x0, 1, 0, 0x0, [⟨31, 16, .rov⟩, ⟨15, 0, .rov⟩]⟩,
  ⟨.r_CHG_DERATE_CFG, 0xE0018, 0x0, 1, 0, 0x826E, [⟨15, 8, .rws⟩, ⟨7, 0, .rws⟩]⟩]

/-- The registers of block 0x0F (R461). -/
def regBlock0F : List RegFam := [
  ⟨.r_MOT_PARK_CFG, 0xF0010, 0x0, 1, 0, 0xA6400, [⟨23, 16, .rws⟩, ⟨15, 8, .rws⟩]⟩,
  ⟨.r_MOT_PARK_TOL, 0xF0014, 0x0, 1, 0, 0x0, [⟨31, 0, .rws⟩]⟩,
  ⟨.r_MOT_ENC_k_CFG, 0xF0100, 0x20, 4, 0, 0x83220, [⟨31, 31, .rws⟩, ⟨30, 30, .rws⟩, ⟨29, 29, .rws⟩, ⟨23, 16, .rws⟩, ⟨15, 8, .rws⟩, ⟨7, 4, .rws⟩]⟩,
  ⟨.r_MOT_ENC_k_LINES, 0xF0104, 0x20, 4, 0, 0x400, [⟨16, 0, .rws⟩]⟩,
  ⟨.r_MOT_ENC_k_COUNT, 0xF0108, 0x20, 4, 0, 0x0, [⟨31, 0, .rov⟩]⟩,
  ⟨.r_MOT_ENC_k_STAT, 0xF010C, 0x20, 4, 0, 0x10, [⟨31, 24, .rov⟩, ⟨23, 16, .rov⟩, ⟨4, 4, .rov⟩, ⟨3, 3, .rov⟩, ⟨2, 2, .w1c⟩, ⟨1, 1, .w1c⟩, ⟨0, 0, .rov⟩]⟩,
  ⟨.r_MOT_ENC_k_INDEX, 0xF0110, 0x20, 4, 0, 0x0, [⟨31, 0, .rov⟩]⟩,
  ⟨.r_MOT_HALL_k_CFG, 0xF0200, 0x10, 3, 0, 0x83200, [⟨31, 31, .rws⟩, ⟨23, 16, .rws⟩, ⟨15, 8, .rws⟩]⟩,
  ⟨.r_MOT_HALL_k_MAP, 0xF0204, 0x10, 3, 0, 0xEEC287, [⟨2, 0, .rws⟩, ⟨5, 3, .rws⟩, ⟨8, 6, .rws⟩, ⟨11, 9, .rws⟩, ⟨14, 12, .rws⟩, ⟨17, 15, .rws⟩, ⟨20, 18, .rws⟩, ⟨23, 21, .rws⟩]⟩,
  ⟨.r_MOT_SENT_k_CFG, 0xF0300, 0x10, 2, 0, 0x160A00F0, [⟨31, 31, .rws⟩, ⟨30, 30, .rws⟩, ⟨29, 28, .rws⟩, ⟨27, 24, .rws⟩, ⟨23, 16, .rws⟩, ⟨15, 0, .rws⟩]⟩,
  ⟨.r_MOT_SENT_k_STAT, 0xF0304, 0x10, 2, 0, 0x0, [⟨31, 16, .rov⟩, ⟨2, 2, .rov⟩, ⟨1, 1, .w1c⟩, ⟨0, 0, .rov⟩]⟩,
  ⟨.r_MOT_RES_k_CFG, 0xF0400, 0x10, 2, 0, 0x3E8, [⟨31, 31, .rws⟩, ⟨30, 30, .w1c⟩, ⟨27, 24, .rws⟩, ⟨23, 20, .rws⟩, ⟨15, 0, .rws⟩]⟩,
  ⟨.r_MOT_EMU_k_CFG, 0xF0500, 0x10, 2, 0, 0x0, [⟨31, 31, .rw⟩, ⟨30, 30, .rw⟩, ⟨29, 29, .w1c⟩, ⟨23, 16, .rw⟩, ⟨15, 0, .rw⟩]⟩,
  ⟨.r_MOT_SENT_k_SLOW, 0xF0308, 0x10, 2, 0, 0x0, [⟨31, 0, .rov⟩]⟩]

/-- The registers of block 0x10 (R461). -/
def regBlock10 : List RegFam := [
  ⟨.r_PAIR_STATUS, 0x100000, 0x0, 1, 0, 0x0, [⟨31, 24, .rov⟩, ⟨23, 16, .rov⟩, ⟨8, 8, .rov⟩, ⟨7, 4, .rov⟩, ⟨3, 0, .rov⟩]⟩,
  ⟨.r_PAIR_W_k_CFG, 0x100010, 0x10, 2, 0, 0x100, [⟨12, 0, .rws⟩]⟩,
  ⟨.r_PAIR_W_k_STAT, 0x100014, 0x10, 2, 0, 0x0, [⟨31, 24, .rov⟩, ⟨23, 16, .rov⟩, ⟨15, 8, .rov⟩, ⟨7, 7, .rov⟩, ⟨5, 0, .rov⟩]⟩,
  ⟨.r_PAIR_W_k_RETIRED, 0x100018, 0x10, 2, 0, 0x0, [⟨31, 0, .rov⟩]⟩,
  ⟨.r_PAIR_W_k_STALL, 0x10001C, 0x10, 2, 0, 0x0, [⟨31, 0, .rov⟩]⟩,
  ⟨.r_PAIR_CANARY, 0x100040, 0x0, 1, 0, 0x0, [⟨31, 8, .rov⟩, ⟨7, 0, .rov⟩]⟩,
  ⟨.r_PAIR_DIV_INFO, 0x100050, 0x0, 1, 0, 0x0, [⟨31, 24, .rov⟩, ⟨23, 22, .rov⟩, ⟨21, 0, .rov⟩]⟩,
  ⟨.r_PAIR_DIV_SIG_q, 0x100054, 0x4, 4, 0, 0x0, [⟨31, 0, .rov⟩]⟩,
  ⟨.r_PAIR_SUP_CFG, 0x100070, 0x0, 1, 0, 0x3E8, [⟨13, 0, .rws⟩]⟩,
  ⟨.r_PAIR_CHECKIN_j, 0x100074, 0x4, 2, 0, 0x0, [⟨15, 0, .rw⟩]⟩]

/-- The registers of block 0x11 (R461). -/
def regBlock11 : List RegFam := [
  ⟨.r_SAFE_DCL_CFG, 0x110400, 0x0, 1, 0, 0x1F43014, [⟨31, 16, .rws⟩, ⟨15, 12, .rws⟩, ⟨11, 0, .rws⟩]⟩,
  ⟨.r_SAFE_DCL_THR_A, 0x110404, 0x0, 1, 0, 0x6E006A4, [⟨27, 16, .rws⟩, ⟨11, 0, .rws⟩]⟩,
  ⟨.r_SAFE_DCL_THR_B, 0x110408, 0x0, 1, 0, 0x3840730, [⟨27, 16, .rws⟩, ⟨11, 0, .rws⟩]⟩,
  ⟨.r_SAFE_DCL_STATUS, 0x11040C, 0x0, 1, 0, 0x1, [⟨31, 20, .rov⟩, ⟨7, 7, .w1c⟩, ⟨6, 6, .rov⟩, ⟨5, 5, .rov⟩, ⟨4, 4, .rov⟩, ⟨3, 3, .w1c⟩, ⟨2, 2, .rov⟩, ⟨1, 1, .rov⟩, ⟨0, 0, .rov⟩]⟩,
  ⟨.r_SAFE_DCL_CHOP, 0x110410, 0x0, 1, 0, 0x3E80400, [⟨31, 16, .rws⟩, ⟨15, 8, .rws⟩, ⟨0, 0, .rws⟩]⟩,
  ⟨.r_SAFE_SEL_CFG, 0x110420, 0x0, 1, 0, 0xE60D0032, [⟨31, 24, .rws⟩, ⟨23, 16, .rws⟩, ⟨15, 0, .rws⟩]⟩,
  ⟨.r_SAFE_SEL_STATE, 0x110424, 0x0, 1, 0, 0x0, [⟨3, 0, .rov⟩]⟩,
  ⟨.r_SAFE_SIN_STATUS, 0x110000, 0x0, 1, 0, 0xFF00, [⟨31, 24, .rov⟩, ⟨23, 16, .rov⟩, ⟨15, 8, .rov⟩]⟩,
  ⟨.r_SAFE_SOUT_STATUS, 0x110004, 0x0, 1, 0, 0x0, [⟨29, 24, .w1c⟩, ⟨21, 16, .w1c⟩, ⟨13, 8, .rov⟩, ⟨5, 0, .rov⟩]⟩,
  ⟨.r_SAFE_LATCH, 0x110008, 0x0, 1, 0, 0x0, [⟨31, 31, .rov⟩, ⟨30, 28, .rov⟩]⟩,
  ⟨.r_SAFE_WD_CFG, 0x11000C, 0x0, 1, 0, 0x190, [⟨10, 0, .rws⟩]⟩,
  ⟨.r_SAFE_FAST_CLR, 0x110010, 0x0, 1, 0, 0x0, [⟨7, 0, .wo⟩]⟩,
  ⟨.r_SAFE_SIN_n_CFG, 0x110100, 0x8, 8, 0, 0x32000A, [⟨31, 31, .rws⟩, ⟨30, 30, .rws⟩, ⟨29, 29, .rws⟩, ⟨24, 16, .rws⟩, ⟨6, 0, .rws⟩]⟩,
  ⟨.r_SAFE_SIN_n_MAP, 0x110104, 0x8, 8, 0, 0x0, [⟨21, 16, .rws⟩, ⟨9, 0, .rws⟩]⟩,
  ⟨.r_SAFE_SOUT_n_CFG, 0x110200, 0x8, 6, 0, 0x81F4000A, [⟨31, 31, .rws⟩, ⟨25, 16, .rws⟩, ⟨5, 0, .rws⟩]⟩]

/-- The registers of block 0x12 (R461). -/
def regBlock12 : List RegFam := [
  ⟨.r_TALLY_STATUS, 0x120000, 0x0, 1, 0, 0xFFFFFFFF, [⟨31, 0, .rov⟩]⟩,
  ⟨.r_TALLY_CFG, 0x120004, 0x0, 1, 0, 0x88B50032, [⟨31, 16, .rws⟩, ⟨8, 8, .w1c⟩, ⟨7, 0, .rws⟩]⟩,
  ⟨.r_TALLY_CONN_c_CFG, 0x120100, 0x20, 32, 0, 0x7F0400, [⟨31, 31, .rws⟩, ⟨30, 30, .rws⟩, ⟨29, 29, .rws⟩, ⟨28, 27, .rws⟩, ⟨26, 24, .rws⟩, ⟨23, 23, .rws⟩, ⟨22, 16, .rws⟩, ⟨15, 8, .rws⟩, ⟨7, 0, .rws⟩]⟩,
  ⟨.r_TALLY_CONN_c_TIME, 0x120104, 0x20, 32, 0, 0xBB803E8, [⟨31, 16, .rws⟩, ⟨15, 0, .rws⟩]⟩,
  ⟨.r_TALLY_CONN_c_ID, 0x120108, 0x20, 32, 0, 0x0, [⟨31, 0, .rws⟩]⟩,
  ⟨.r_TALLY_CONN_c_TAG, 0x12010C, 0x20, 32, 0, 0x0, [⟨31, 31, .rws⟩, ⟨28, 0, .rws⟩]⟩,
  ⟨.r_TALLY_CONN_c_STAT, 0x120110, 0x20, 32, 0, 0x0, [⟨31, 28, .rov⟩, ⟨27, 24, .rov⟩, ⟨23, 16, .rov⟩, ⟨15, 0, .rov⟩]⟩,
  ⟨.r_TALLY_CONN_c_LOST, 0x120114, 0x20, 32, 0, 0x0, [⟨31, 16, .rov⟩, ⟨15, 0, .rov⟩]⟩]

/-- The registers of block 0x13 (R461). -/
def regBlock13 : List RegFam := [
  ⟨.r_LEDGER_STATUS, 0x130000, 0x0, 1, 0, 0x0, [⟨31, 24, .rov⟩, ⟨23, 16, .rov⟩, ⟨15, 14, .rov⟩, ⟨13, 13, .rov⟩, ⟨1, 1, .w1c⟩, ⟨0, 0, .w1c⟩]⟩,
  ⟨.r_LEDGER_SEQ, 0x130004, 0x0, 1, 0, 0x0, [⟨31, 0, .rov⟩]⟩,
  ⟨.r_LEDGER_DEGR_CFG, 0x130010, 0x0, 1, 0, 0x1E0028, [⟨25, 16, .rws⟩, ⟨6, 0, .rws⟩]⟩,
  ⟨.r_LEDGER_COMM_STATUS, 0x130100, 0x0, 1, 0, 0x0, [⟨31, 31, .rov⟩, ⟨30, 30, .rov⟩, ⟨29, 29, .rov⟩, ⟨15, 8, .rov⟩]⟩,
  ⟨.r_LEDGER_COMM_CHECK, 0x130104, 0x0, 1, 0, 0x0, [⟨31, 0, .rov⟩]⟩,
  ⟨.r_LEDGER_COMM_CONF, 0x130108, 0x0, 1, 0, 0x0, [⟨31, 0, .rov⟩]⟩,
  ⟨.r_LEDGER_COMM_AUTH, 0x13010C, 0x0, 1, 0, 0x0, [⟨31, 0, .rws⟩]⟩]

/-- The registers of block 0x14 (R461). -/
def regBlock14 : List RegFam := [
  ⟨.r_LINK_STATUS, 0x140000, 0x0, 1, 0, 0x0, [⟨14, 12, .rov⟩, ⟨11, 9, .rov⟩, ⟨8, 8, .rov⟩, ⟨7, 5, .rov⟩, ⟨4, 4, .rov⟩, ⟨3, 1, .rov⟩, ⟨0, 0, .rov⟩]⟩,
  ⟨.r_LINK_TIME_CFG, 0x140010, 0x0, 1, 0, 0x0, [⟨10, 8, .rws⟩, ⟨5, 4, .rws⟩, ⟨1, 0, .rws⟩]⟩,
  ⟨.r_LINK_TIME_STAT, 0x140014, 0x0, 1, 0, 0x0, [⟨31, 31, .rov⟩, ⟨30, 0, .rov⟩]⟩,
  ⟨.r_LINK_ETH_CFG, 0x140200, 0x0, 1, 0, 0x88B60000, [⟨31, 16, .rws⟩, ⟨15, 13, .rws⟩, ⟨12, 12, .rws⟩, ⟨4, 0, .rws⟩]⟩,
  ⟨.r_LINK_ETH_m_STAT, 0x140210, 0x4, 3, 0, 0x0, [⟨31, 0, .rov⟩]⟩,
  ⟨.r_LINK_CAN_k_STAT, 0x140300, 0x10, 6, 0, 0x0, [⟨31, 31, .rov⟩, ⟨30, 30, .rws⟩, ⟨29, 16, .rov⟩, ⟨15, 8, .rov⟩, ⟨7, 0, .rov⟩]⟩,
  ⟨.r_LINK_GL_CFG, 0x140100, 0x0, 1, 0, 0x5003C, [⟨31, 24, .rws⟩, ⟨23, 16, .rov⟩, ⟨9, 0, .rws⟩]⟩,
  ⟨.r_LINK_GL_p_STAT, 0x140110, 0x10, 3, 0, 0x0, [⟨31, 16, .rov⟩, ⟨15, 0, .rov⟩]⟩,
  ⟨.r_LINK_GL_ROUTE_a, 0x140400, 0x4, 256, 0, 0x0, [⟨2, 0, .rw⟩]⟩]

/-- The registers of block 0x15 (R461). -/
def regBlock15 : List RegFam := [
  ⟨.r_DISC_STATUS, 0x150000, 0x0, 1, 0, 0x0, [⟨31, 24, .rov⟩, ⟨23, 16, .rov⟩, ⟨1, 1, .rov⟩, ⟨0, 0, .rov⟩]⟩,
  ⟨.r_DISC_CFG, 0x150004, 0x0, 1, 0, 0x3E86414, [⟨31, 16, .rws⟩, ⟨15, 8, .rws⟩, ⟨7, 0, .rws⟩]⟩,
  ⟨.r_DISC_ITEM_n_CFG, 0x150100, 0x8, 96, 0, 0x0, [⟨31, 31, .rws⟩, ⟨19, 16, .rws⟩, ⟨7, 0, .rws⟩]⟩,
  ⟨.r_DISC_ITEM_n_STAT, 0x150104, 0x8, 96, 0, 0x0, [⟨31, 28, .rov⟩, ⟨23, 0, .rov⟩]⟩]

/-- The registers of block 0x16 (R461). -/
def regBlock16 : List RegFam := [
  ⟨.r_DBG_CTRL, 0x160000, 0x0, 1, 0, 0x0, [⟨9, 8, .rw⟩, ⟨2, 2, .w1s⟩, ⟨1, 1, .w1s⟩, ⟨0, 0, .w1s⟩]⟩,
  ⟨.r_DBG_STATUS, 0x160004, 0x0, 1, 0, 0x0, [⟨3, 3, .w1c⟩, ⟨2, 2, .rov⟩, ⟨1, 1, .w1c⟩, ⟨0, 0, .rov⟩]⟩,
  ⟨.r_DBG_ADDR, 0x160008, 0x0, 1, 0, 0x0, [⟨31, 2, .rw⟩]⟩,
  ⟨.r_DBG_DATA, 0x16000C, 0x0, 1, 0, 0x0, [⟨31, 0, .rw⟩]⟩,
  ⟨.r_DBG_REG_INDEX, 0x160010, 0x0, 1, 0, 0x0, [⟨11, 0, .rw⟩]⟩,
  ⟨.r_DBG_REG_DATA, 0x160014, 0x0, 1, 0, 0x0, [⟨31, 0, .rw⟩]⟩]

/-- The registers of a block, by its index (R461); an index with no block has none (R462). -/
def regBlock (b : Nat) : List RegFam :=
  match b with
  | 0x00 => regBlock00
  | 0x01 => regBlock01
  | 0x02 => regBlock02
  | 0x03 => regBlock03
  | 0x04 => regBlock04
  | 0x05 => regBlock05
  | 0x06 => regBlock06
  | 0x07 => regBlock07
  | 0x08 => regBlock08
  | 0x09 => regBlock09
  | 0x0A => regBlock0A
  | 0x0B => regBlock0B
  | 0x0C => regBlock0C
  | 0x0D => regBlock0D
  | 0x0E => regBlock0E
  | 0x0F => regBlock0F
  | 0x10 => regBlock10
  | 0x11 => regBlock11
  | 0x12 => regBlock12
  | 0x13 => regBlock13
  | 0x14 => regBlock14
  | 0x15 => regBlock15
  | 0x16 => regBlock16
  | _ => []

/-- The instance a family has at address `a`, with its index. -/
def RegFam.at? (f : RegFam) (a : Nat) : Option Nat :=
  if a < f.base then none
  else if f.stride = 0 then (if a = f.base then some f.first else none)
  else if (a - f.base) % f.stride = 0 && decide ((a - f.base) / f.stride < f.count) then some (f.first + (a - f.base) / f.stride)
  else none

/-- The first family of a list that has a register at `a`. -/
def findIn (a : Nat) : List RegFam → Option (RegFam × Nat)
  | [] => none
  | f :: t =>
    match f.at? a with
    | some i => some (f, i)
    | none => findIn a t

/-- The register at an address of the set-up map, or none where the address names none (R462). -/
def findReg (a : Nat) : Option (RegFam × Nat) := findIn a (regBlock (a / 0x10000))

end Sys2Proof.Machine
end

