-- ==== Sys2Proof/Machine/Sparse.lean ====
section
/-! DEFINITION. Sparse tables: the one form in which the model keeps memories, register files and numbered units. -/

namespace Sys2Proof.Machine

/-- A table from numbers to values that lists only the entries that differ from a default.
Canonical form: keys strictly rising, no listed value equal to the default at its key (`Sparse.wf`). -/
abbrev Sparse (α : Type) := List (Nat × α)

/-- The value at `k`: the listed one, else the default `d k`. -/
def Sparse.get {α : Type} (d : Nat → α) : Sparse α → Nat → α
  | [], k => d k
  | (j, v) :: t, k => if k = j then v else Sparse.get d t k

/-- Puts `(k, v)` in its place by key, replacing what stood at `k`. -/
def Sparse.insert {α : Type} (k : Nat) (v : α) : Sparse α → Sparse α
  | [] => [(k, v)]
  | (j, w) :: t =>
    if k < j then (k, v) :: (j, w) :: t
    else if k = j then (k, v) :: t
    else (j, w) :: Sparse.insert k v t

/-- Takes every entry at `k` away. -/
def Sparse.erase {α : Type} (k : Nat) : Sparse α → Sparse α
  | [] => []
  | (j, w) :: t => if k = j then Sparse.erase k t else (j, w) :: Sparse.erase k t

/-- Writes `v` at `k`; writing the default takes the entry away, so equal tables are equal lists. -/
def Sparse.set {α : Type} [DecidableEq α] (d : Nat → α) (m : Sparse α) (k : Nat) (v : α) : Sparse α :=
  if v = d k then Sparse.erase k m else Sparse.insert k v m

/-- Every listed key is above `b`. -/
def Sparse.above {α : Type} (b : Nat) (m : Sparse α) : Bool :=
  m.all fun e => decide (b < e.1)

/-- The canonical form of a table with default `d`. -/
def Sparse.wf {α : Type} [DecidableEq α] (d : Nat → α) : Sparse α → Bool
  | [] => true
  | (j, v) :: t => decide (v ≠ d j) && Sparse.above j t && Sparse.wf d t

/-- A default that is the same at every key. -/
def always {α : Type} (a : α) : Nat → α := fun _ => a

end Sys2Proof.Machine
end

