-- ==== Sys2Proof/Machine/ResetValues.lean ====
section
/-! DEFINITION. The two part numbers, which instances each has, and the reset value of every register of the map. -/

namespace Sys2Proof.Machine

/-- The two part numbers of R1 (00_scope.md). -/
inductive Part
  | elx9460
  | elx9430
  deriving DecidableEq, Repr

/-- The function, unit and leg that R196 (10_edge_placer_sampling.md) gives half-bridge `n` at reset:
functions 0 unassigned, 1 traction, 2 converter, 3 charger, 4 actuator, 5 chopper. -/
def chanReset (p : Part) (n : Nat) : Nat × Nat × Nat :=
  let tr := match p with | .elx9460 => 12 | .elx9430 => 3
  let mot := match p with | .elx9460 => 4 | .elx9430 => 2
  let a := n - tr
  if n < tr then (1, n / 3, n % 3)
  else if a < 12 then (2, a / 3, a % 3)
  else if a < 15 then (3, 0, a - 12)
  else if a < 17 then (3, 1, a - 15)
  else if a < 19 then (3, 2, a - 17)
  else if a = 19 then (5, 0, 0)
  else if a < 20 + 3 * mot then (4, (a - 20) / 3, (a - 20) % 3)
  else (0, 0, 0)

/-- The number of half-bridges of the part (R2). -/
def nChan : Part → Nat
  | .elx9460 => 48
  | .elx9430 => 32

/-- The number of fast converters of the part (R2). -/
def nFast : Part → Nat
  | .elx9460 => 16
  | .elx9430 => 8

/-- Field-engine pair `n` is present on the part (R2, R3). -/
def fePresent (p : Part) (n : Nat) : Bool :=
  match p with
  | .elx9460 => decide (n < 8)
  | .elx9430 => n = 0 || n = 4 || n = 5 || n = 6

/-- The number of traction sets of the part (R2). -/
def nSets : Part → Nat
  | .elx9460 => 4
  | .elx9430 => 1

/-- The number of actuator motors of the part (R2). -/
def nMotors : Part → Nat
  | .elx9460 => 4
  | .elx9430 => 2

/-- The number of Gallery Link ports of the part (R2). -/
def nGl : Part → Nat
  | .elx9460 => 3
  | .elx9430 => 1

/-- The bank `VIO_3` is a required bank on the ELX-9460 only (R54); the set of required banks as a mask. -/
def requiredBanks : Part → Nat
  | .elx9460 => 0xF
  | .elx9430 => 0x7

/-- A Market channel of the table of R142 (07_store_gallery.md) that the part has. -/
def mktPresent (p : Part) (n : Nat) : Bool :=
  decide (n ≤ 2) || (decide (8 ≤ n) && decide (n ≤ 37)) || (decide (40 ≤ n) && decide (n ≤ 42)) ||
  (decide (44 ≤ n) && decide (n < 44 + nGl p)) || (decide (48 ≤ n) && decide (n ≤ 56))

/-- Sequenced channel `n` is present on the part (R2). -/
def acqPresent (p : Part) (n : Nat) : Bool :=
  match p with
  | .elx9460 => decide (n < 96)
  | .elx9430 => decide (n < 56) || (decide (80 ≤ n) && decide (n < 96))

/-- Discovery item `n` of R75 (04_discovery.md) exists on the part. -/
def itemPresent (p : Part) (n : Nat) : Bool :=
  decide (n ≤ 12) || (decide (16 ≤ n) && decide (n < 16 + 3 * nSets p)) ||
  (decide (28 ≤ n) && decide (n < 28 + nMotors p)) || (decide (32 ≤ n) && decide (n < 32 + nChan p)) ||
  (decide (80 ≤ n) && decide (n ≤ 82)) || (decide (84 ≤ n) && decide (n < 84 + nGl p))

/-- The default EN, POLICY and TOL of discovery item `n` (R75): EN in bit 31, POLICY in bits 19-16, TOL in bits 7-0. -/
def itemReset (p : Part) (n : Nat) : Nat :=
  let word (en pol tol : Nat) := en * 2 ^ 31 + pol * 2 ^ 16 + tol
  if !itemPresent p n then 0
  else if n = 0 then word 1 0 50
  else if n ≤ 4 then word 1 0 20
  else if n ≤ 12 then word 1 0 50
  else if n ≤ 27 then word 1 1 (if n % 3 = 1 then 50 else 30)
  else if n ≤ 31 then word 1 1 50
  else if n ≤ 79 then
    match (chanReset p (n - 32)).1 with
    | 1 => word 1 1 20
    | 4 => word 1 1 20
    | 3 => word 1 6 20
    | 0 => word 0 0 20
    | _ => word 1 0 20
  else if n ≤ 82 then word 1 0 0
  else word 1 0 10

/-- The reset word of EDGE_CH_n_CFG (R196). -/
def chanCfgReset (p : Part) (n : Nat) : Nat :=
  let c := chanReset p n
  c.1 * 2 ^ 24 + c.2.1 * 2 ^ 20 + c.2.2 * 2 ^ 18

/-- The half-bridge and the prediction word that R209 gives fast converter `k` at reset.
Converters 6 and 7 of the ELX-9430 are unassigned: 0 and 0 (DESIGN CHOICE, log 11). -/
def fcReset (p : Part) (k : Nat) : Nat × Nat :=
  match p with
  | .elx9460 =>
    if k < 8 then (3 * (k / 2) + k % 2, 440 + k % 2)
    else (32 + 3 * ((k - 8) / 2) + k % 2, 440 + 2 * (((k - 8) / 2) % 2) + k % 2)
  | .elx9430 =>
    if k < 2 then (k, 440 + k)
    else if k < 6 then (23 + 3 * ((k - 2) / 2) + k % 2, 440 + 2 * (((k - 2) / 2) % 2) + k % 2)
    else (0, 0)

/-- Whether instance `i` of a register family exists on the part (R2, R3, R142, R460). -/
def regPresent (p : Part) (f : RegFam) (i : Nat) : Bool :=
  match f.name with
  | .r_FE_n_CTRL | .r_FE_n_TICK | .r_FE_n_STATUS | .r_FE_n_TICKNO | .r_FE_n_LOAD | .r_FE_n_FAULT
  | .r_FE_n_PLAUS_SEV | .r_FE_n_PLAUS_STAT | .r_EDGE_TB_n_CFG | .r_EDGE_TB_n_HALF_A | .r_EDGE_TB_n_HALF_B
  | .r_EDGE_TB_n_SAMP => fePresent p i
  | .r_FE_n_PARAM => fePresent p (i / 512)
  | .r_FE_n_LOOP => fePresent p (i / 1024)
  | .r_EDGE_CH_n_CFG | .r_EDGE_CH_n_DT | .r_EDGE_CH_n_STAT | .r_GATE_n_CFG | .r_GATE_n_CAP | .r_GATE_n_DELAY
  | .r_GATE_n_STAT => decide (i < nChan p)
  | .r_EDGE_FC_k_CFG | .r_EDGE_FC_k_STAT | .r_ACQ_FC_k_CFG | .r_ACQ_FC_k_CAL | .r_ACQ_FC_k_SCALE => decide (i < nFast p)
  | .r_EDGE_BAND_n_CFG | .r_EDGE_BAND_n_STAT | .r_EDGE_BAND_n_PRED => fePresent p i && i ≠ 4 && i ≠ 5
  | .r_ACQ_CH_n_CAL | .r_ACQ_CH_n_SCALE | .r_ACQ_CH_n_LAST => acqPresent p i
  | .r_MKT_CH_n_QUOTA | .r_MKT_CH_n_STAT | .r_MKT_CH_n_RELEASE => mktPresent p i
  | .r_LINK_GL_p_STAT => decide (i < nGl p)
  | .r_DISC_ITEM_n_CFG | .r_DISC_ITEM_n_STAT => itemPresent p i
  | _ => true

/-- The reset value of instance `i` of a register family (the Reset columns; R196, R209, R75 for the tables). -/
def famReset (p : Part) (f : RegFam) (i : Nat) : Nat :=
  match f.name with
  | .r_SYS_ID => match p with | .elx9460 => 0x9460 | .elx9430 => 0x9430
  | .r_DISC_ITEM_n_CFG => itemReset p i
  | .r_EDGE_CH_n_CFG => chanCfgReset p i
  | .r_EDGE_FC_k_CFG => 2 ^ 31 + 4 * 2 ^ 24 + (fcReset p i).1 * 2 ^ 16 + (fcReset p i).2
  | .r_GATE_n_CFG => if (chanReset p i).1 = 1 then 0 else 0x40000000
  | .r_EDGE_TB_n_SAMP => match p with | .elx9460 => 0x0080C140 | .elx9430 => 0x00800140
  | .r_MOT_RES_k_CFG => if p = .elx9430 ∧ i = 0 then 0x076003E8 else 0x3E8
  | _ => f.reset

/-- The value the register at address `a` takes at reset; an address that names no register of the part reads zero (R3, R462). -/
def resetValue (p : Part) (a : Nat) : Word :=
  match findReg a with
  | none => 0
  | some (f, i) => if regPresent p f i then w32 (famReset p f i) else 0

end Sys2Proof.Machine
end

