-- ==== Sys2Proof/Machine/State.lean ====
section
/-! DEFINITION. The state of the block: every register, memory, queue, timer and pin the spec gives the ELX, as plain data,
and the state after reset. -/

namespace Sys2Proof.Machine

/-- Why the machine stops with a fault. The spec gives every command of the table an effect, so no meaning raises one today;
the type is closed, and its one constructor is kept for an access that no rule of the spec can place. -/
inductive Fault
  /-- An access outside the internal memory map of R129. Raised by no meaning of this model: accesses outside the map are answered by the rules themselves. Safe. -/
  | outsideMap (addr : Nat)
  deriving DecidableEq, Repr

/-- Why the machine refuses a command. -/
inductive Refusal
  /-- The command has no meaning in the model yet. Raised by the arms of `exec` alone. Safe: nothing is claimed about it. -/
  | notModelled (mnemonic : String)
  deriving DecidableEq, Repr

/-- The major modes of R31 (02_operating_modes.md). -/
inductive Mode
  | off | hibernate | boot | discover | commission | standby | drive | charge | supply | service | degraded | safeStop
  deriving DecidableEq, Repr

/-- The statuses of R97 (05_command_rings.md). -/
inductive Status
  | ok | rejectedMode | notOwner | badParam | aborted | timeout | busyRetry | safetyBlocked | partialDone
  deriving DecidableEq, Repr

/-! ### Supplies and reset (chapter 03) -/

/-- Where the part stands between power-off and running (R31, R55, R59, R73). -/
inductive Power
  | off | railWait | hibernate | reset | run
  deriving DecidableEq, Repr

/-- The always-on domain, the reset logic and the pins it watches (03_supplies_reset_hibernate.md). -/
structure Supplies where
  power : Power
  /-- the rail wait follows a wake, not the power-on (R55, R73) -/
  afterWake : Bool
  /-- VSTBY is good (R58) -/
  vstby : Bool
  /-- banks supervised in this BOOT, one bit each (R54, R58) -/
  supervised : Nat
  /-- RAIL_EN is high (R57) -/
  railEn : Bool
  /-- level of the RESET_N pin (R60) -/
  resetN : Bool
  /-- reset sources active in this reset, as bits of SYS_RESET_CAUSE (R59, R62) -/
  sources : Nat
  /-- this reset is a cold one (R61) -/
  cold : Bool
  /-- levels of SEAL_0 to SEAL_7 (R64) -/
  straps : Nat
  /-- levels of WAKE_0 to WAKE_3 (R70) -/
  wakePins : Nat
  /-- HIBERNATE entry is past step 1, so a wake is latched as EARLY (R72) -/
  entering : Bool
  /-- RAIL_EN is held low for 20 ms after an early wake (R72) -/
  earlyDelay : Bool
  /-- the wake timer runs in this HIBERNATE (R70, R73) -/
  timerArmed : Bool
  /-- the pads are isolated (R55, R71) -/
  isolated : Bool
  /-- the pads of VIO_3 are isolated on their own (R55) -/
  isolatedVio3 : Bool
  /-- the safe-state latch, not Landing 0, holds the half-bridge outputs (R66, R407) -/
  latchDrives : Bool
  /-- sets for which the latch holds ASC rather than STO, one bit each (R66) -/
  latchAsc : Nat
  /-- CLK_HOST runs at 500 MHz (R23) -/
  clkHost500 : Bool
  /-- clock monitors that have tripped since BOOT: bit 0 CTRL, 1 SYS, 2 HOST, 3 WARD or reference, 4 SAFE (R29) -/
  clkLost : Nat
  /-- PERST_A_N, PERST_B_N low, one bit each (R62) -/
  perst : Nat
  /-- no Warden runtime took Landing 0 in this BOOT (R63) -/
  noRuntime : Bool
  deriving DecidableEq, Repr

/-! ### Operating modes (chapter 02) -/

/-- A trigger of a mode transition: where it leads, the KIND and precedence of R31 and R35, and its ledger code. -/
structure Trigger where
  dest : Mode
  kind : Nat
  prec : Nat
  code : Nat
  /-- TRANS_SEQ given to the transition when it started -/
  seq : Nat
  /-- mode left -/
  src : Mode
  /-- ATIME at acceptance, and the ticks of all engines until then, which tell whether two triggers fall into one tick (R37) -/
  started : Time
  ticks : Nat
  deriving DecidableEq, Repr

/-- The mode machine beside its registers (02_operating_modes.md). -/
structure ModeState where
  /-- the transition in progress (R32, R33) -/
  trans : Option Trigger
  /-- triggers held until the transition ends, in arrival order (R35) -/
  held : List Trigger
  /-- SUPPLY option: vehicle-to-vehicle (R48) -/
  v2v : Bool
  /-- SERVICE was entered from SAFE_STOP (R32, R46) -/
  servFromStop : Bool
  /-- firmware has been written in SERVICE (R32) -/
  fwWritten : Bool
  /-- ATIME at which the DEGRADED timer started (R43) -/
  degrStart : Option Time
  /-- the time it took, in seconds (R437) -/
  degrTime : Nat
  /-- it has expired (R44) -/
  degrExpired : Bool
  /-- DEGRADED has been entered since BOOT, and DEGRADED_TIMER told of it (R50) -/
  degrTold : Bool
  /-- the DEGRADED torque limits are in force until the next BOOT (R436) -/
  degrLimits : Bool
  /-- torque is held at zero for a plug (R40) -/
  plugHold : Bool
  /-- torque is held at zero for the park lock (R42) -/
  parkHold : Bool
  deriving DecidableEq, Repr

/-! ### Rings, doorbells and completions (chapter 05) -/

/-- One ring of a master (R85, R86, R87). -/
structure Ring where
  base : Nat
  cfg : Word
  irq : Word
  tlm : Word
  /-- COUNT_ELX: descriptors consumed, or entries produced, modulo 65,536 -/
  elx : Nat
  /-- the master's doorbell count, modulo 65,536 -/
  mst : Nat
  /-- ERR of RING_m_STAT -/
  err : Nat
  /-- entries lost, as RING_m_LOST shows them (R86) -/
  lost : Nat
  /-- SEQ of the next event, or of the next telemetry buffer -/
  seq : Nat
  /-- PHASE the ELX writes next -/
  phase : Bool
  /-- entries not yet signalled, and the ATIME of the first of them (R111) -/
  unsig : Nat
  unsigAt : Time
  /-- events dropped and not yet reported by EV_OVERFLOW, and the SEQ of the first (R109) -/
  drops : Nat
  dropSeq : Nat
  /-- CR_FULL has been raised for the present full spell, at this ATIME (R104) -/
  fullAt : Option Time
  deriving DecidableEq, Repr

/-- An operation in flight (R94, R95). -/
structure Op where
  master : Nat
  tag : Nat
  ring : Nat
  opcode : Nat
  cls : Nat
  target : Nat
  irq : Bool
  fence : Bool
  isRead : Bool
  /-- LEN and HOST_ADDR, the payload (inline, or read from HOST_ADDR), and the CMD_STAGE stalls that hold it (R91, R142) -/
  len : Nat
  hostAddr : Nat
  payload : List Byte
  stalls : List Nat
  /-- it has started at its unit, and waits for it (R105) -/
  started : Bool
  /-- ATIME at which its descriptor read completed, and of its last progress report (R98, R100) -/
  start : Time
  reported : Time
  /-- its result has been produced -/
  done : Bool
  deriving DecidableEq, Repr

/-- A result on its way to its completion ring (R101, R103). -/
structure Result where
  master : Nat
  tag : Nat
  status : Status
  superseded : Bool
  data : Bool
  value : Nat
  at_ : Time
  gallery : Nat
  deriving DecidableEq, Repr

/-- An event raised and not yet written to the rings (R107). -/
structure Event where
  code : Nat
  source : Nat
  at_ : Time
  c0 : Word
  c1 : Word
  c2 : Word
  c3 : Word
  /-- the master it is for; none for every master -/
  only : Option Nat
  deriving DecidableEq, Repr

/-- A descriptor read issued and not yet answered (R90). -/
structure Fetch where
  master : Nat
  ring : Nat
  first : Nat
  count : Nat
  deriving DecidableEq, Repr

/-- A telemetry stream beside its ring (R112, R113). -/
structure Stream where
  /-- parameter-memory word indices sampled -/
  signals : List Nat
  /-- ticks of the source since the last record -/
  ticks : Nat
  /-- the stall being filled, the bytes of records in it, and ATIME of the first record -/
  stall : Option Nat
  used : Nat
  firstAt : Time
  /-- ATIME of the first record of each filled stall, whose handles wait in the channel's queue, oldest first (R143) -/
  full : List Time
  /-- records dropped since the last TLM_DROP, and when that was raised -/
  dropped : Nat
  dropAt : Option Time
  deriving DecidableEq, Repr

/-- The host interface (05_command_rings.md). -/
structure HostState where
  /-- rings by master × 64 + kind × 16 + index -/
  rings : Sparse Ring
  /-- operations in flight, and descriptor reads in progress (R90, R94) -/
  ops : List Op
  reads : List Fetch
  /-- results produced and not yet taken in (R103) -/
  results : List Result
  /-- intake queues by Gallery number -/
  intake : Sparse (List Result)
  /-- results marked pending in their slots (R103) -/
  pendingSlots : List Result
  /-- results due for a completion ring that is full or not running (R104) -/
  held : List Result
  /-- events raised and not yet delivered (R107) -/
  events : List Event
  /-- streams by master × 8 + index -/
  streams : Sparse Stream
  /-- MSI-X mask bits cleared by the host, pending bits, and messages sent, by port × 64 + vector (R111) -/
  msixOpen : Sparse Bool
  msixPend : Sparse Bool
  msixSent : Sparse Nat
  /-- what hosts have written to the MSI-X tables (port × 1024 + doubleword) and to configuration space (port × 1024 + doubleword) (R62, R445, R446) -/
  msixTable : Sparse Word
  pcieCfg : Sparse Word
  /-- ring of a non-owner served last, ring index of the owner served last, and Gallery served last (R90, R103) -/
  lastRing : Nat
  lastOwn : Nat
  lastGallery : Nat
  deriving DecidableEq, Repr

/-! ### Masters and ownership (chapter 06) -/

/-- A claim in the window (R118). -/
structure Claim where
  master : Nat
  tag : Nat
  prio : Nat
  nonce : Nat
  replaced : Bool
  deriving DecidableEq, Repr

/-- The election and the hand-over (06_ownership.md). -/
structure OwnState where
  claims : List Claim
  /-- the host lost as owner, barred while the window its loss opened is open (R117, R126) -/
  barred : Option Nat
  /-- nonce named by OWN_HANDOVER, and whether the successor has confirmed (R121, R122) -/
  succNonce : Nat
  confirmed : Bool
  /-- ATIME at which OWN_HANDOVER was accepted -/
  handAt : Time
  /-- the setpoints of the last hand-over are still held: neither passed nor released after 2 ms (R123) -/
  holds : Bool
  /-- the old owner was lost during the hand-over (R127) -/
  oldLost : Bool
  /-- priority of each master's last winning claim (R122) -/
  lastPrio : Sparse Nat
  /-- ATIME of the last heartbeat or acceptance of ownership (R126) -/
  hbAt : Time
  /-- masters whose fetched non-READ descriptors get NOT_OWNER during the hand-over, one bit each (R121) -/
  locked : Nat
  deriving DecidableEq, Repr

/-! ### The Ledger (chapter 22) -/

/-- A ledger record (R427). -/
structure Rec where
  code : Nat
  sev : Nat
  scope : Nat
  func : Nat
  unit : Nat
  at_ : Time
  tick : Nat
  ctx0 : Word
  ctx1 : Word
  seq : Nat
  boot : Nat
  flags : Nat
  /-- the TARGET code of the function the record is about, or the raising unit's (R208, R429) -/
  own : Nat
  deriving DecidableEq, Repr

/-- The stored parameter set (R438, R439): words by the address or number of what they belong to. -/
structure ParamSet where
  /-- register words holding RWS fields, by address -/
  regs : Sparse Word
  /-- field-engine parameter words by engine × 512 + word where one is stored, loop-store words by engine × 1,024 + address -/
  feWords : Sparse (Option Word)
  feLoop : Sparse Word
  /-- rows of the safety logic table as 64-bit numbers -/
  table : List Nat
  /-- the commissioned surroundings record, by item -/
  disc : Sparse (Option DiscMeas)
  /-- calibration words by address -/
  cal : Sparse Word
  deriving DecidableEq, Repr

/-- The Ledger, its log and the commissioning state (22_ledger_degraded_commissioning.md). -/
structure LedgerState where
  /-- records raised and not yet received by Landing 0 -/
  arriving : List Rec
  /-- the queue of S1 and S2 records, in arrival order (R432) -/
  queue : List Rec
  /-- the record whose action is being carried out (R432) -/
  inHand : Option Rec
  /-- the write buffer, and the records waiting beside it (R433) -/
  buffer : List Rec
  waiting : List Rec
  /-- an S0 record was discarded since the last LOG_DROP -/
  dropped : Bool
  /-- the log in MRAM, oldest first -/
  log : List Rec
  /-- boots since the log was erased -/
  boots : Nat
  /-- FAULT_N is driven low for a record (R434) -/
  faultN : Bool
  /-- ATIME of the authorisation in force (R441) -/
  auth : Option Time
  /-- wrong codes that COMM_AUTH has been given (R441) -/
  wrongCodes : Nat
  /-- the parameter set in MRAM, and whether there is one -/
  stored : ParamSet
  present : Bool
  /-- the confirmed check value and the recorded strap pattern, if the set was ever confirmed -/
  confirmed : Option Word
  sealRec : Nat
  deriving DecidableEq, Repr

/-! ### Store Gallery (chapters 07 and 08) -/

/-- The memories. SRAM and MRAM are keyed by internal address (R129), the hosts' memories by address; what is not listed reads zero. -/
structure Memory where
  sram : Sparse Byte
  /-- valid bits that are set, by word index O[22:3] (R152) -/
  valid : Sparse Bool
  /-- bits of a stored word, data and check bits, that differ from those its last write built, by word index; and groups of eight valid bits
  whose parity is wrong, by word index / 8 (R148, R149) -/
  flips : Sparse Nat
  parityBad : Sparse Bool
  /-- bytes of the MRAM (R129) -/
  mram : Sparse Byte
  /-- bits of an MRAM word that differ from those its last write built, by address / 16 (R163) -/
  mramFlips : Sparse Nat
  /-- bytes the ELX has written into the memory of PCIe master 0 and of master 1 -/
  host0 : Sparse Byte
  host1 : Sparse Byte
  deriving DecidableEq, Repr

/-- A tracker entry: word offset, write-back corrections, ATIME of the first (R157). -/
structure Track where
  word : Nat
  count : Nat
  first : Time
  deriving DecidableEq, Repr

/-- The Store Gallery beside its registers (chapters 07, 08). -/
structure StoreState where
  /-- the response last given to an initiator (0 OK, 3 ALIGN, 4 REGION, 5 BANK_OFF, 6 DECODE, 7 DATA_ERR; R138, R150),
  and the data returned with it -/
  resp : Nat
  data : Nat
  /-- the priority queue of word offsets (R156) -/
  prio : List Nat
  /-- corrections of recent words (R157) -/
  tracker : List Track
  /-- hard errors whose row waits for its repair: word offset, and cause 0 repeated correction or 1 March failure (R157, R158) -/
  hard : List (Nat × Nat)
  /-- the repair map: bank, row, spare (R158) -/
  repairs : List (Nat × Nat × Nat)
  /-- banks that have needed a spare when none was free (R159) -/
  exhausted : Sparse Bool
  /-- the line that the scrubber visits next (R155) -/
  scrubLine : Nat
  /-- the window of the background test that is borrowed; its 8 words stand in the bank's shadow, and State keeps them at their place (R160, R161) -/
  borrowed : Option Nat
  /-- consecutive aborts of the window under test (R162) -/
  aborts : Nat
  /-- windows skipped in this pass and in the last one (R162) -/
  skippedNow : List Nat
  skippedLast : List Nat
  /-- writes per 4 KiB sector of the MRAM code partition (R165) -/
  sectorWrites : Sparse Nat
  /-- sectors whose wear has been reported -/
  worn : Sparse Bool
  deriving DecidableEq, Repr

/-- The Market (R18-R21, R141-R146). -/
structure MarketState where
  /-- the channel that holds each stall, by stall; unlisted stalls are free -/
  owner : Sparse (Option Nat)
  /-- valid length of each held stall -/
  lens : Sparse Nat
  /-- the free list: stalls released, in order, after the stalls from `fresh` up that were never taken -/
  fresh : Nat
  freed : List Nat
  /-- handles queued per channel for its consumer: MORE, LEN, STALL (R143) -/
  queues : Sparse (List (Bool × Nat × Nat))
  /-- the channel last judged (R144) -/
  lastCh : Nat
  deriving DecidableEq, Repr

/-! ### Field engines (chapter 09) -/

/-- The program resident in an engine (R194, R195). -/
inductive Prog
  | user | discovery | modulated | band | converter | charger | actuator
  deriving DecidableEq, Repr

/-- An EVT request of the tick in progress (R182): X field, fa, fb. -/
structure EvtReq where
  x : Nat
  fa : Word
  fb : Word
  deriving DecidableEq, Repr

/-- A command of the command stage (R181): half-bridge, kind (0 duty, 1 band reference, 2 band half-width), value. -/
structure StageCmd where
  hb : Nat
  kind : Nat
  val : Word
  deriving DecidableEq, Repr

/-- A Class I setpoint on its way to its tick (R98, R99): the operation, what it writes, and where it stands. -/
structure Setpoint where
  master : Nat
  tag : Nat
  opcode : Nat
  target : Nat
  /-- applied at the tick in progress -/
  applied : Bool
  /-- a later setpoint has replaced it (R98) -/
  superseded : Bool
  /-- its payload fails check 8 of R96, which its tick judges after the mode (R48) -/
  bad : Bool
  /-- parameter words it writes -/
  words : List (Nat × Word)
  deriving DecidableEq, Repr

/-- One field-engine pair. -/
structure Engine where
  f : Sparse Word
  i : Sparse Word
  loop : Sparse Word
  /-- parameter memory: active copy, staging words written since the last transfer, committed state words (R168, R169, R175) -/
  act : Sparse Word
  stg : List (Nat × Word)
  committed : Sparse Word
  /-- program counter; a tick is in progress (R182) -/
  pc : Nat
  inTick : Bool
  /-- SLD waits for its sample (R179): destination, flags register, source -/
  waiting : Option (Nat × Nat × Nat)
  /-- the command stage, and the EVT requests of the tick (R181, R182) -/
  stage : List StageCmd
  evts : List EvtReq
  /-- PLAUS records to leave at release: check (R191) -/
  plausRaised : List Nat
  /-- consecutive missed ticks, and a loop fault in this tick (R175, R176) -/
  missRun : Nat
  faulted : Bool
  /-- a read of this tick was answered DATA_ERR (R151) -/
  dataErr : Bool
  /-- a first REGION has run since RUN rose (R185) -/
  placed : Bool
  /-- the region in force (R185) -/
  region : Nat
  /-- blend: start words G_s, ticks done, length; the length is 0 when none runs (R186) -/
  blendFrom : Sparse Word
  blendJ : Nat
  blendLen : Nat
  /-- the invalid region configuration has been reported (R185) -/
  badRgnTold : Bool
  /-- KP_LAST of each PI instance (R187) -/
  kpLast : Sparse (Option Word)
  /-- profile channels: p, v, a at 3c, 3c + 1, 3c + 2, in units of 2⁻²⁵⁶ (R189) -/
  prof : Sparse Int
  /-- plausibility counters, checks executed in this tick, checks that have raised (R191) -/
  plausCount : Sparse Nat
  plausDone : List Nat
  plausTold : Sparse Bool
  /-- consecutive tick starts that found PSTAGE_HOLD set (R170) -/
  holdTicks : Nat
  /-- a RUN = 0 write has been taken and the engine stops at its next tick start (R193) -/
  stopping : Bool
  /-- what SLD loads, by source: value, and flags (R179); sources with a new value since the last strobe, and
  sources that had one at the last strobe -/
  samples : Sparse Word
  sampleFlags : Sparse Nat
  fresh : Sparse Bool
  tickFresh : Sparse Bool
  /-- pad edges of each half-bridge counted at the last strobe (R179) -/
  edgesSeen : Sparse Nat
  /-- the program that the loop store holds (R195); setpoints on their way to their tick (R98) -/
  prog : Prog
  setpoints : List Setpoint
  /-- returns to service since BOOT, and 2 after a divergence that follows the first one (R384) -/
  returns : Nat
  /-- ATIME of the last canary (R383) -/
  canaryAt : Time
  /-- the bit that the next canary inverts (R383) -/
  canaryBit : Nat
  /-- the signature register of both copies, before any disturbance (R375, R376) -/
  sig : BitVec 64
  deriving DecidableEq, Repr

/-! ### Banister, Edge Placer and gate links (chapters 01 and 10) -/

/-- The three Banister lines of one Warden pair for one unit (R12). -/
structure Lines where
  enable : Bool
  forceSto : Bool
  forceAsc : Bool
  deriving DecidableEq, Repr

/-- One half-bridge channel of the Edge Placer. -/
structure Chan where
  /-- the two pads -/
  high : Bool
  low : Bool
  /-- the high side is commanded on by the schedule or the band comparator -/
  cmdHigh : Bool
  /-- the channel has taken up its schedule since its grant (R205) -/
  taken : Bool
  /-- ASC_IL has passed since the high-side pad fell (R205) -/
  ilPassed : Bool
  /-- a committed duty or phase, band reference and band half-width in force (R199, R200) -/
  duty : Option Word
  ref : Option Word
  half : Option Word
  /-- commands waiting for their update point: those of the last release, and of earlier ones (R199) -/
  latest : List StageCmd
  arrived : List StageCmd
  /-- FAULT_OFF holds both pads low after a driver fault (R208) -/
  faultLow : Bool
  /-- pad edges counted modulo 65,536, and as latched at the last poll (R207) -/
  edges : Nat
  edgesAt : Nat
  /-- the effective mode is BAND (R245), and changes of state as a band leg (R248) -/
  band : Bool
  changes : Nat
  /-- an edge of its schedule lies in the quiet window of the coming peak, or valley, sample (R211, R213) -/
  spoilPeak : Bool
  spoilValley : Bool
  deriving DecidableEq, Repr

/-- One gate link (R206, R207). -/
structure Link where
  /-- failed frames in a row, polls in a row with a count difference above 2 -/
  fails : Nat
  diffs : Nat
  /-- the driver's edge count at the last poll, and that a lost link has been told (R206, R207) -/
  drvEdges : Nat
  told : Bool
  /-- the STATUS word last read: temperature in °C + 64 in bits 15-8 (R206) -/
  status : Nat
  /-- the frames sent last on SDO (R206) -/
  sent : List Word
  deriving DecidableEq, Repr

/-- One leg of a band comparator (R238-R246). -/
structure Leg where
  /-- the commanded state, once a first decision has been made (R240) -/
  decided : Bool
  high : Bool
  /-- it holds its state for the dwell (R239) -/
  dwelling : Bool
  /-- the apertures of its last changes of state, the latest first (R242) -/
  past : List Nat
  /-- a schedule level to take up when the hold ends (R253) -/
  pend : Option Bool
  /-- the reference ramp: from, to, conversions done and to do (R246), in A -/
  from_ : Word
  dest : Word
  step : Nat
  steps : Nat
  deriving DecidableEq, Repr

/-- A fast converter's last conversion: aperture on the 50 ns grid, calibrated count, SLD flags; and the last one not blanked (R241-R244). -/
structure Conv where
  t : Nat
  count : Int
  flags : Nat
  clean : Option (Nat × Int)
  deriving DecidableEq, Repr

/-- The slope table of a set, and what its prediction starts from (R243). -/
structure BandSet where
  /-- slopes in counts per aperture, by vector × 2 + sensor -/
  slopes : Sparse Word
  /-- the vector in force, and the first and last clean conversions of its interval: aperture, sensor a, sensor b -/
  vec : Nat
  first : Option (Nat × Int × Int)
  last : Option (Nat × Int × Int)
  /-- the last clean conversion, and the vectors in force since then with their first apertures -/
  base : Option (Nat × Int × Int)
  path : List (Nat × Nat)
  deriving DecidableEq, Repr

/-- The Edge Placer beside its registers. -/
structure EdgeState where
  chans : Sparse Chan
  /-- Banister lines by pair × 16 + unit; units are sets 0-3, actuator bridges 4-7, converter 8, charger 9 -/
  lines : Sparse Lines
  /-- units held by a Landing 0 decision of fault or safe state (R11) -/
  held : Sparse Bool
  /-- grants waiting in a Turnstile, and grants on their way through the synchroniser: pair, unit (R13, R14) -/
  grants : List (Nat × Nat)
  synced : List (Nat × Nat)
  /-- gate links, comparator legs and fast converters by their numbers (R206, R209, R238) -/
  links : Sparse Link
  legs : Sparse Leg
  convs : Sparse Conv
  /-- slope tables by unit -/
  bands : Sparse BandSet
  /-- fast converters whose run of predictions has been reported (R215) -/
  predTold : Sparse Bool
  /-- units forced by fast actions (R404): unit ↦ ASC rather than STO -/
  hwForce : Sparse (Option Bool)
  /-- sets whose FORCE_STO serves a freewheel recapture, which is no decision of fault (R11, R275) -/
  recap : Sparse Bool
  deriving DecidableEq, Repr

/-! ### Paired execution and debug (chapter 19) -/

/-- A replay-queue entry (R389): kind 0 register write, 1 memory write, 2 halt or step, 3 read; address or index; value; stamp N. -/
structure Replay where
  kind : Nat
  addr : Nat
  data : Word
  stamp : Nat
  deriving DecidableEq, Repr

/-- One Warden pair. -/
structure Warden where
  /-- number of its open window (R377) -/
  window : Nat
  /-- its replay queue (R389) -/
  replay : List Replay
  /-- divergences, and rejoins made, since BOOT (R384) -/
  divergences : Nat
  rejoins : Nat
  /-- ATIME of its last canary (R383) -/
  canaryAt : Time
  deriving DecidableEq, Repr

/-- A write of a Landing 0 word that waits in a Turnstile (R17, R378): the pair, the engine, the word, the value. -/
structure HallWrite where
  pair : Nat
  engine : Nat
  word : Nat
  val : Word
  deriving DecidableEq, Repr

/-- The pairs and the debugger (19_paired_execution.md). -/
structure PairState where
  wardens : Sparse Warden
  /-- the writes of Landing 0 words that wait in the Turnstiles, in retirement order (R378) -/
  turnstile : List HallWrite
  /-- pairs that have come back and whose first window has not compared yet: the Banister still ignores their lines (R386, R388) -/
  fresh : Sparse Bool
  /-- cores A0 and A1 halted by their supervision, and ATIME of their last check-in (R385) -/
  coreHalted : Sparse Bool
  checkAt : Sparse Time
  /-- targets halted by a debugger: 0 Warden A, 1 Warden B, 2 core A0, 3 core A1 (R388, R468) -/
  dbgHalted : Sparse Bool
  /-- registers that a debugger has written since the target was halted, by target × 4,096 + index (R468) -/
  dbgRegs : Sparse (Option Word)
  deriving DecidableEq, Repr
/-! ### DC link (chapter 14) -/

/-- The DC-link monitor, chopper and selector beside their registers (14_dc_link_stopping.md). -/
structure DclState where
  /-- consecutive monitor samples above OV3, and above V_BATT_MAX × 1.05 (R283, R331) -/
  ov3Run : Nat
  battRun : Nat
  /-- T_GEN_MAX is held at zero since OV2, and the ATIME of the last sample not below OV2 − HYST (R283) -/
  ov2Hold : Bool
  ov2At : Time
  /-- consecutive monitor comparisons that differ (R282), and 0x1116 told for this run -/
  mismatch : Nat
  /-- DCL_STATE per flag, UV, OV2, OV3_LATCH, CHOP_FAULT from key 0: ATIME of the last one and the value it told (R291) -/
  toldAt : Sparse (Option Time)
  told : Sparse Bool
  /-- the hysteresis of R286 asks for the chopper; monitor samples since it last switched; it is held off after a driver fault (R208) -/
  chopWant : Bool
  chopAge : Nat
  chopFault : Bool
  /-- ATIME at which it went on, and its finished on-times (R287) -/
  chopSince : Option Time
  chopTimes : List (Time × Time)
  /-- a discharge holds the chopper on: its master, tag, target voltage, start voltage and start (R292) -/
  discharge : Option (Nat × Nat × Word × Word × Time)
  /-- sets whose estimator has reached TRACK since BOOT (R289) -/
  tracked : Sparse Bool
  deriving DecidableEq, Repr

/-! ### Analogue acquisition (chapter 18) -/

/-- Conversions inserted for calibration or diagnosis (R364, R368, R370): kind 0 zero, 1 span, 2 diagnosis; the channel, or 0x100 + k
for fast converter k; the sequenced converter; the command that waits; Y. -/
structure Insert where
  kind : Nat
  chan : Nat
  conv : Nat
  master : Nat
  tag : Nat
  y : Word
  deriving DecidableEq, Repr

/-- The open stall of a group (R365): its number, ATIME and PASS of the first record, and its records of 8 bytes. -/
structure GroupStall where
  stall : Nat
  at_ : Time
  pass : Nat
  recs : List (List Byte)
  deriving DecidableEq, Repr

/-- Acquisition beside its registers. -/
structure AcqState where
  /-- shadow words of the tables where they differ from the active ones' reset value, by register address (R363) -/
  shadow : Sparse Word
  /-- conversions made in the entry in progress, by converter (R362) -/
  reps : Sparse Nat
  open_ : Sparse (Option GroupStall)
  /-- records dropped since the last ACQ_DROP of a group, and its ATIME (R366) -/
  drops : Sparse Nat
  dropAt : Sparse (Option Time)
  /-- conversions inserted and not yet done (R364, R368, R370) -/
  inserts : List Insert
  /-- provisional offsets of ACQ_CAL_ZERO in the present mode, with whether all its conversions were good (R368) -/
  zeros : Sparse (Option (Int × Bool))
  /-- ATIME at which REF_BUF_EN rose (R367) -/
  refAt : Time
  deriving DecidableEq, Repr

/-! ### Traction (chapters 11 to 13) -/

/-- A torque ramp line (R229): kind 0 setpoint watchdog, 1 mode exit, 2 DEGRADED expiry, 3 hand-over, 4 the rise after a recapture;
its present cap, its slope in N·m/s, and whether it rises. -/
structure Ramp where
  kind : Nat
  cap : Word
  rate : Word
  rising : Bool
  deriving DecidableEq, Repr

/-- The rotor-position estimator of one set (R258-R278). Angles in rad, speeds in rad/s el. -/
structure Est where
  /-- EST_STATE (R258) -/
  st : Nat
  /-- injection tracker and observer tracker: angle, speed, integrator (R260) -/
  thHf : Word
  omHf : Word
  intHf : Word
  thO : Word
  omO : Word
  intO : Word
  /-- observer: extended back-EMF and estimated currents (R268) -/
  eG : Word
  eD : Word
  iGh : Word
  iDh : Word
  /-- lock metrics (R264, R268), blend weight, angle and speed in force (R270) -/
  lockHf : Word
  lockO : Word
  w : Word
  theta : Word
  omega : Word
  /-- filtered speed, rad/s mech (R261) -/
  speed : Word
  /-- injection runs, and its tick count (R262) -/
  inj : Bool
  k : Nat
  /-- the last samples of i_d and i_q, newest first (R263) -/
  hd : List Word
  hq : List Word
  /-- terminal voltages of the previous tick, unwrapped angles of the last ticks, newest first, amplitude (R269) -/
  vtB : Word
  vtC : Word
  ang : List Word
  emf : Word
  /-- the back-EMF fixes polarity, so POLARITY is skipped (R266) -/
  polKnown : Bool
  /-- POLARITY (R265, R271): ticks done, a second round, the sums of rises and falls, the outcome m -/
  polTick : Nat
  polAgain : Bool
  sumP : Word
  sumM : Word
  polM : Word
  /-- ATIME at which ACQUIRE began, at which the loss was detected -/
  acqAt : Time
  lossAt : Time
  /-- consecutive ticks of ACQUIRE with LOCK below PTH_1 (R264) -/
  lockRun : Nat
  /-- RECAP_FW (R275): samples taken since the currents decayed, 0 before, and ω_e at the loss -/
  fwTicks : Nat
  omLoss : Word
  /-- recapture: method (0 freewheel, 1 short circuit, 3 re-acquire), angle before it, starts in the last second (R274-R277) -/
  method : Nat
  thLoss : Word
  recaps : List Time
  /-- RECAP_ASC (R275): ticks done, stationary currents at its first sample, their change since, and whether that change turns backwards -/
  ascTicks : Nat
  ascA : Word
  ascB : Word
  ascDa : Word
  ascDb : Word
  ascRev : Bool
  /-- the model prediction of i_d and i_q for the next tick, and the average voltage's previous command (R214) -/
  pD : Word
  pQ : Word
  /-- leg changes of the last 16 ticks, newest first (R271) -/
  chg : List (Nat × Nat × Nat)
  /-- RES_MISMATCH stands (R273) -/
  resBad : Bool
  deriving DecidableEq, Repr

/-- The standard traction program of one set (R219-R256) beside its parameter and state words. -/
structure Trac where
  est : Est
  /-- the parameters have been judged since RUN rose: true, they are in range (R227) -/
  judged : Option Bool
  /-- T*, the current reference, and Δi_d -/
  tRef : Word
  idRef : Word
  iqRef : Word
  dId : Word
  /-- the previous tick's solution of the MTPA pair, where its iteration starts (R222) -/
  idMt : Word
  /-- |v*| before LIMIT, and the voltage after LIMIT of the last tick -/
  vMag : Word
  vd : Word
  vq : Word
  /-- integrators of PI instances 0, 1 and 2 -/
  i0 : Word
  i1 : Word
  i2 : Word
  /-- SP_SEQ as last seen (R230) -/
  seq : Word
  /-- ATIME at which SP_SEQ last changed, or the watchdog last did not run (R230) -/
  seqAt : Time
  /-- the watchdog has expired, ramps in progress, speed mode in force (R230, R235) -/
  swd : Bool
  ramps : List Ramp
  speedMode : Bool
  /-- the profile speed of the tick (R234) -/
  prof : Word
  /-- DC-link value last used, consecutive ticks without it (R224), last duties -/
  vdc : Word
  vdcBad : Nat
  duties : List Word
  /-- band program: half-width and filtered frequency, its first tick is done, leg changes counted (R248) -/
  h : Word
  fbar : Word
  bandOn : Bool
  chgSeen : List Nat
  /-- law run in the last tick, FLAGS of the last tick, ATIME of the last LIMIT_CHANGE (R237) -/
  law : Nat
  flags : Nat
  limitAt : Option Time
  /-- BAND_SAT has told the present saturation (R251) -/
  bsatTold : Bool
  /-- consecutive ticks with BSAT (R251); ATIME since which HLIM stands with f̄ off its target, and that FSW_LIMIT told it (R256) -/
  bsatRun : Nat
  hlimAt : Option Time
  hlimTold : Bool
  /-- consecutive ticks above N_OVER, and that OVERSPEED told it (R236); that VDC_ABSENT told the missing samples (R224) -/
  overRun : Nat
  overTold : Bool
  vdcTold : Bool
  /-- legs saturated in the last tick, as a mask (R250); T* was cut by the limits of R229 step 4 -/
  bsat : Nat
  limited : Bool
  /-- events and records to leave at release: record or event, code, severity, three words -/
  out : List (Bool × Nat × Nat × Word × Word × Word)
  /-- law of the last release since RUN rose (R256) -/
  toldLaw : Option Nat
  /-- a LAW_SEL in flight: master, tag, old law, new law (R255) -/
  lawOp : Option (Nat × Nat × Nat × Nat)
  deriving DecidableEq, Repr

/-! ### Low-voltage converter (chapter 15) -/

/-- The converter beside its registers and the words of FE_4 (15_lv_converter.md). -/
structure ConvState where
  /-- parameters judged since RUN rose (R299) -/
  judged : Option Bool
  /-- START_SEQ as the program last saw it, and SS_DONE (R307) -/
  seqSeen : Word
  ssDone : Bool
  /-- the compensator's history, newest first, and the integrator of the current limit (R297) -/
  e1 : Word
  e2 : Word
  e3 : Word
  u1 : Word
  u2 : Word
  u3 : Word
  iLim : Word
  /-- ticks in a row without an output-voltage sample (R296), and with the output at the burst level (R305) -/
  voBad : Nat
  voHigh : Nat
  /-- CONV_VOUT_ABSENT has told the missing samples (R296) -/
  voTold : Bool
  /-- ATIME of the last short stop (R309) -/
  stopAt : Time
  /-- last phase duties, phase currents, input and output voltage: the base of the residual (R298) -/
  dk : List Word
  il : List Word
  vin : Word
  vout : Word
  /-- the CONV block withholds FE_4's strobes, and drives the converter channels' pads low (R305, R309, R310) -/
  withheld : Bool
  padsLow : Bool
  /-- phases limited since the last strobe (R310) -/
  cbc : Nat
  /-- the V_SET the owner last had accepted (R327) -/
  ownVset : Option Word
  /-- sync: consecutive valid edges, the last edge interval in FS, the valley's distance from the edge in FS, and
  consecutive periods with small errors (R302) -/
  edges : Nat
  interval : Nat
  phase : Int
  good : Nat
  /-- carrier-A valleys since the last valid edge (R303) -/
  quiet : Nat
  /-- events and records to leave at release -/
  out : List (Bool × Nat × Nat × Word × Word × Word)
  deriving DecidableEq, Repr

/-! ### Charger and supply (chapter 16) -/

/-- One charge target, the high-voltage or the low-voltage battery (R323, R327). -/
structure Charge where
  /-- HV_PHASE or LV_PHASE of R323 -/
  phase : Nat
  /-- a rest runs (R324); the on-time has been cut short, so that the next one starts anew (R328, R330) -/
  rest : Bool
  cut : Bool
  /-- on-times since the session began -/
  pulses : Nat
  /-- the program's own arm bit, and a watchdog expiry since (R328) -/
  armed : Bool
  wd : Bool
  /-- ATIME at which the safety timer started (R329) -/
  timer : Option Time
  /-- ticks with the condition that ends PREP (R323, R327) -/
  prep : Nat
  /-- ATIME at which PREP, the present on-time or the present rest began (R323), and since which I_BATT is below I_TERM in FINISH -/
  at_ : Time
  low : Option Time
  /-- CHG_SEQ or LV_SEQ as last seen, and the ATIME of its last change (R328) -/
  seqSeen : Word
  seqAt : Time
  /-- a first valid R_OHM exists (R326) -/
  known : Bool
  deriving DecidableEq, Repr

/-- The charger beside its registers and the words of FE_5 (16_charger_supply.md). -/
structure ChgState where
  judged : Option Bool
  hv : Charge
  lv : Charge
  /-- ARM_SEQ as the program last saw it -/
  armSeq : Nat
  /-- ramps of I_REF: kind (0 watchdog, 1 timer, 2 hold, 3 disarm) and present cap, and its fall per second (R325) -/
  ramps : List (Nat × Word × Word)
  iRef : Word
  /-- HOLD as the program last saw it -/
  hold : Word
  /-- the DAB compensator's history, newest first, and the integrator of the CV loop (R315, R323) -/
  e1 : Word
  e2 : Word
  e3 : Word
  u1 : Word
  u2 : Word
  u3 : Word
  cv : Word
  /-- the CV loop limits the current -/
  cvActive : Bool
  /-- anchor voltage and charge since the anchor (R326) -/
  anchor : Word
  charge : Word
  /-- supply (R333, R334): 0 off, 1 bus forming, 2 voltage ramp, 3 ready, 4 stopped, 5 held after a route error; ticks of the ramp -/
  sup : Nat
  supTicks : Nat
  /-- charger pads driven low by the CHG block: all, and those of the PFC legs (R319, R331, R333) -/
  padsLow : Bool
  pfcLow : Bool
  /-- CP_DRV is high in vehicle-to-vehicle supply, and its 1 kHz PWM runs (R322, R334) -/
  cpHigh : Bool
  pwm : Bool
  /-- ATIME at which CP_DRV went high (R322) -/
  cpAt : Time
  /-- events and records to leave at release: record or event, code, severity or source, context -/
  out : List (Bool × Nat × Nat × List Word)
  deriving DecidableEq, Repr

/-! ### Actuators and position feedback (chapter 17) -/

/-- An encoder interface beside its registers (R347-R350). -/
structure Enc where
  /-- accepted levels of A and B -/
  a : Bool
  b : Bool
  /-- the last edge intervals in CLK_FILT cycles, newest first; a full line period is awaited; the next edge starts a measurement -/
  ivals : List Nat
  need4 : Bool
  restart : Bool
  /-- speed in rev/s, and ATIME of the last edge (R349) -/
  speed : Word
  lastAt : Time
  /-- illegal transitions in this revolution, ATIMEs of those of the last second, and edges since this revolution began (R348) -/
  ill : Nat
  illAt : List Time
  moved : Nat
  /-- counts since the last index; whether there was one, and whether the interval held a reversal or an illegal transition (R350) -/
  since : Int
  indexed : Bool
  dirty : Bool
  deriving DecidableEq, Repr

/-- An emulated encoder output (R354): its position in counts, and LAG reported for this run. -/
structure Emu where
  pos : Int
  told : Bool
  deriving DecidableEq, Repr

/-- One actuator motor in the vendor program (R339-R343). -/
structure Act where
  pos : Word
  speed : Word
  /-- commutation angle; Hall sector last seen, and when it changed; signed count of sector changes -/
  theta : Word
  sector : Option Int
  secAt : Time
  count : Int
  /-- loop in force and its target, n*, the speed integrator, I* -/
  mode : Option Nat
  target : Word
  nRef : Word
  integ : Word
  iStar : Word
  /-- ticks within tolerance, and MOVE_DONE -/
  near : Nat
  done : Bool
  /-- half-width and filtered frequency (R248), its first band tick is done, and leg changes counted -/
  h : Word
  fbar : Word
  on : Bool
  seen : List Nat
  deriving DecidableEq, Repr

/-- The Motion Gallery beside its registers (17_motion_feedback.md). -/
structure MotState where
  encs : Sparse Enc
  /-- Hall sets whose last accepted code is illegal (R351) -/
  hallBad : Sparse Bool
  /-- the last sync pulse of a SENT receiver in CLK_FILT cycles (R352) -/
  sentSync : Sparse (Option Nat)
  /-- ATIME of the last accepted frame of a receiver, and that its loss has been told (R352) -/
  sentAt : Sparse Time
  sentTold : Sparse Bool
  /-- resolver channels whose amplitude is out of range (R353) -/
  resBad : Sparse Bool
  /-- encoder emulations, and actuator motors, by their numbers (R339, R354) -/
  emus : Sparse Emu
  acts : Sparse Act
  /-- parameters judged since RUN rose, by engine (R339) -/
  judged : Sparse (Option Bool)
  /-- events and records to leave at release, by engine: record or event, code, two context words -/
  out : Sparse (List (Bool × Nat × Word × Word))
  /-- a park request that waits for verification: engage or release, and when it was made (R345) -/
  park : Option (Bool × Time)
  /-- re-checks in a row that found an engaged lock outside PARK_TOL (R346) -/
  parkOut : Nat
  /-- ATIME since which the conditions of a pending verification hold (R345) -/
  parkSince : Option Time
  deriving DecidableEq, Repr


/-! ### Discovery (chapter 04) -/

/-- A discovery run beside its registers. -/
structure DiscState where
  /-- the surroundings record: measurements of the last run, by item -/
  meas : Sparse (Option DiscMeas)
  /-- the DISC_RUN that waits for the run in progress: master, tag -/
  op : Option (Nat × Nat)
  /-- a run has completed since entry to COMMISSION (R82) -/
  ran : Bool
  /-- LINK_WAIT has expired in this run with UV set, or UV has cleared before that (R78) -/
  noLink : Bool
  linkUp : Bool
  /-- ticks of the discovery program in its winding tests, by engine (R78, R79, R195) -/
  ticks : Sparse Nat
  deriving DecidableEq, Repr


/-! ### Safety inputs, outputs and the table (chapter 20) -/

/-- A safety input: the levels at its two contacts and those its filters have accepted (R392), the discrepancy timer with the contact that must
follow (false A, true B), and whether both have demanded together, in time, since DISC set (R394). -/
structure Sin where
  rawA : Bool
  rawB : Bool
  a : Bool
  b : Bool
  timer : Option Bool
  bothIn : Bool
  /-- the fast action in force: FUNC and SOUT of its map, and the sets it forces to ASC (R404) -/
  func : Nat
  sout : Nat
  asc : Nat
  /-- ATIMEs of the last change of each contact's level, at which its filter started, and of the discrepancy timer's start (R392, R394) -/
  atA : Time
  atB : Time
  timerAt : Time
  deriving DecidableEq, Repr

/-- A row of the table in one pair (R400): what its timer or latch holds, whether its timer runs, and since which ATIME. -/
structure RowState where
  on : Bool
  running : Bool
  at_ : Time
  deriving DecidableEq, Repr

/-- What one Warden pair keeps of its scans: markers by number from 0, rows, outputs asserted, assertions that wait in the Turnstile, and the
units its table forces, one bit each: sets 0-3, actuator bridges 4-7, converter 8, charger 9 (R396, R401, R402). -/
structure SafePair where
  marks : Sparse Bool
  rows : Sparse RowState
  sout : Nat
  rising : Nat
  forces : Nat
  /-- destination 0x21 in its last scan -/
  park : Bool
  deriving DecidableEq, Repr

/-- The test of one output (R398, R399): 0 none, 1 pulse, 2 pulse ended by a demand, 3 judgement awaited. -/
structure Sout where
  stage : Nat
  /-- readback was low in the pulse -/
  low : Bool
  /-- a deferred test is owed; deferrals in a row -/
  owed : Bool
  defers : Nat
  /-- the last test did not pass -/
  failed : Bool
  /-- ATIME at which the present stage began; with no test, from which TP_PERIOD runs -/
  at_ : Time
  deriving DecidableEq, Repr

/-- The SAFE block's inputs and outputs, and the table as the pairs hold it. -/
structure SafeState where
  sins : Sparse Sin
  pairs : Sparse SafePair
  souts : Sparse Sout
  /-- the working copy of the table: rows as 64-bit numbers -/
  table : List Nat
  /-- ATIME of the last KICK of an in-service pair (R406) -/
  kickAt : Time
  deriving DecidableEq, Repr


/-! ### Tally (chapter 21) -/

/-- One connection as one Warden pair judges it (R416-R421). -/
structure TallyRx where
  /-- STATE of R420, next expected number, CAUSE -/
  st : Nat
  seq : Nat
  cause : Nat
  /-- failures, lost and ignored PDUs, as counted (R420) -/
  fails : Nat
  lost : Nat
  ignored : Nat
  /-- PDUs accepted in a row in RESTART -/
  run : Nat
  /-- received data, or fail-safe values -/
  data : List Byte
  /-- arrival of the last acceptance (R419) -/
  last : Time
  deriving DecidableEq, Repr

/-- The transmitting side of a connection: SEQ of the next PDU, ATIME from which it is due, and the owner's image (R424). -/
structure TallyTx where
  seq : Nat
  due : Time
  image : List Byte
  deriving DecidableEq, Repr

/-- A Tally frame in its stall, waiting for the scans of the pairs (R412, R415, R416): connection, arrival, channel, stall, valid
length, and the pairs that have judged it. -/
structure TallyFrame where
  conn : Nat
  at_ : Time
  chan : Nat
  stall : Nat
  len : Nat
  doneA : Bool
  doneB : Bool
  deriving DecidableEq, Repr

/-- The connections: receivers by pair × 32 + connection. -/
structure TallyState where
  rx : Sparse TallyRx
  tx : Sparse TallyTx
  frames : List TallyFrame
  deriving DecidableEq, Repr


/-! ### Links (chapter 23) -/

/-- A frame that the ELX puts on a network, by the transport of R415 (0-5 CAN, 0x10-0x12 Ethernet, 0x20-0x22 Gallery Link): what it is
(0 Tally, 1 service reply, 2 time, 3 a forwarded Gallery Link frame), its tag or destination, and its bytes. -/
structure OutFrame where
  path : Nat
  what : Nat
  tag : Nat
  bytes : List Byte
  deriving DecidableEq, Repr

/-- The links beside their registers. -/
structure LinkState where
  /-- frames sent, oldest first -/
  sent : List OutFrame
  /-- Tally frames in the Turnstile of the pair that built them (R424) -/
  turnstile : List (Nat × OutFrame)
  /-- frames queued for transmit at a CAN controller in bus-off (R451) -/
  canQueue : Sparse (List OutFrame)
  /-- ATIME has locked to its source since BOOT; a connection has left WAIT since BOOT (R453) -/
  locked : Bool
  leftWait : Bool
  /-- the offset to the source that the slew still works off, and the fraction of a microsecond it has gained, both in fifths of a
  nanosecond (R453) -/
  slew : Int
  frac : Int
  /-- SEQ of the next Gallery Link frame of this source (R454); ATIME of each port's last time frame (R452); ATIME of the last sync
  message (R453) -/
  glSeq : Nat
  timeAt : Sparse Time
  syncAt : Time
  /-- the MAC by which each service request waiting in channel SVC came, oldest first (R449) -/
  svcMac : List Nat
  deriving DecidableEq, Repr


/-! ### The state -/

/-- The state of the block. -/
structure State where
  part : Part
  /-- the commands that wait, first in, first out -/
  pending : List Instr
  /-- ATIME, in microseconds (R5) -/
  atime : Time
  /-- the MODEL's own counter, from which values the spec leaves open are drawn -/
  free : Nat
  /-- the set-up map: registers by address, listed where they differ from their reset value (R460-R467); then the memories, and what each
  chapter's block holds beside its registers -/
  regs : Sparse Word
  mem : Memory
  pwr : Supplies
  mode : ModeState
  host : HostState
  own : OwnState
  store : StoreState
  mkt : MarketState
  led : LedgerState
  fe : Sparse Engine
  edge : EdgeState
  pair : PairState
  dcl : DclState
  acq : AcqState
  trac : Sparse Trac
  conv : ConvState
  chg : ChgState
  mot : MotState
  disc : DiscState
  safe : SafeState
  tally : TallyState
  net : LinkState
  deriving DecidableEq, Repr

/-! ### Defaults of numbered units, and the state after reset -/

/-- A ring after reset: 16 entries, expected phase 1, COUNT 1 (R86, R87). -/
def Ring.init : Ring :=
  { base := 0, cfg := w32 4, irq := w32 0x10000, tlm := 0, elx := 0, mst := 0, err := 0, lost := 0, seq := 0, phase := true,
    unsig := 0, unsigAt := 0, drops := 0, dropSeq := 0, fullAt := none }

/-- A telemetry stream with no signals. -/
def Stream.init : Stream :=
  { signals := [], ticks := 0, stall := none, used := 0, firstAt := 0, full := [], dropped := 0, dropAt := none }

/-- An engine with zero registers and memories (R167; memories DESIGN CHOICE, log 9). -/
def Engine.init : Engine :=
  { f := [], i := [], loop := [], act := [], stg := [], committed := [], pc := 0, inTick := false, waiting := none, stage := [],
    evts := [], plausRaised := [], missRun := 0, faulted := false, dataErr := false, placed := false, region := 0, blendFrom := [], blendJ := 0,
    blendLen := 0, badRgnTold := false, kpLast := [], prof := [], plausCount := [], plausDone := [], plausTold := [],
    holdTicks := 0, stopping := false, samples := [], sampleFlags := [], fresh := [], tickFresh := [], edgesSeen := [], prog := .user,
    setpoints := [], returns := 0, canaryAt := 0, canaryBit := 0, sig := 0 }

/-- Banister lines with the enable removed and no force. -/
def Lines.init : Lines := { enable := false, forceSto := false, forceAsc := false }

/-- A channel with both pads low and no command (R66: after POR the latch starts in STO). -/
def Chan.init : Chan :=
  { high := false, low := false, cmdHigh := false, taken := false, ilPassed := true, duty := none, ref := none, half := none,
    latest := [], arrived := [], faultLow := false, edges := 0, edgesAt := 0, band := false, changes := 0, spoilPeak := false, spoilValley := false }

/-- A gate link with no failed frame. -/
def Link.init : Link := { fails := 0, diffs := 0, drvEdges := 0, told := false, status := 0, sent := [] }

/-- A comparator leg with no decision yet. -/
def Leg.init : Leg :=
  { decided := false, high := false, dwelling := false, past := [], pend := none, from_ := 0, dest := 0, step := 0, steps := 0 }

/-- A fast converter with no conversion. -/
def Conv.init : Conv := { t := 0, count := 0, flags := 0, clean := none }

/-- A slope table with nothing written. -/
def BandSet.init : BandSet := { slopes := [], vec := 0, first := none, last := none, base := none, path := [] }

/-- A Warden pair before BOOT step 5. -/
def Warden.init : Warden :=
  { window := 0, replay := [], divergences := 0, rejoins := 0, canaryAt := 0 }

/-- The parameter set of a part as shipped: none (R486). -/
def ParamSet.empty : ParamSet := { regs := [], feWords := [], feLoop := [], table := [], disc := [], cal := [] }

/-- Memory with nothing listed. -/
def Memory.init : Memory := { sram := [], valid := [], flips := [], parityBad := [], mram := [], mramFlips := [], host0 := [], host1 := [] }

/-- The supplies before VSTBY rises: OFF, under POR (R31, R58, R59). Pin levels are DESIGN CHOICE (log 5). -/
def Supplies.init : Supplies :=
  { power := .off, afterWake := false, vstby := false, supervised := 0, railEn := false, resetN := true, sources := 1, cold := true,
    straps := 0, wakePins := 0, entering := false, earlyDelay := false, timerArmed := false, isolated := true, isolatedVio3 := true,
    latchDrives := true, latchAsc := 0, clkHost500 := false, clkLost := 0, perst := 0, noRuntime := false }

/-- No transition, no timer. -/
def ModeState.init : ModeState :=
  { trans := none, held := [], v2v := false, servFromStop := false, fwWritten := false, degrStart := none, degrTime := 0, degrExpired := false, degrTold := false, degrLimits := false,
    plugHold := false, parkHold := false }

/-- No ring set up, nothing in flight (R32, R61). Round-robin starts are DESIGN CHOICE (log 8). -/
def HostState.init : HostState :=
  { rings := [], ops := [], reads := [], results := [], intake := [], pendingSlots := [], held := [], events := [], streams := [],
    msixOpen := [], msixPend := [], msixSent := [], msixTable := [], pcieCfg := [], lastRing := 47, lastOwn := 15, lastGallery := 4 }

/-- No claim, no hand-over. -/
def OwnState.init : OwnState :=
  { claims := [], barred := none, succNonce := 0, confirmed := false, handAt := 0, holds := false, oldLost := false,
    lastPrio := [], hbAt := 0, locked := 0 }

/-- Nothing tracked; no repair (R157, R486). -/
def StoreState.init : StoreState :=
  { resp := 0, data := 0, prio := [], tracker := [], hard := [], borrowed := none, repairs := [], exhausted := [], scrubLine := 0, aborts := 0,
    skippedNow := [], skippedLast := [], sectorWrites := [], worn := [] }

/-- Every stall free, in number order (DESIGN CHOICE, log 8). -/
def MarketState.init : MarketState :=
  { owner := [], lens := [], fresh := 0, freed := [], queues := [], lastCh := 63 }

/-- An empty Ledger and no parameter set (R486). -/
def LedgerState.init : LedgerState :=
  { arriving := [], queue := [], inHand := none, buffer := [], waiting := [], dropped := false, log := [], boots := 0, faultN := false,
    auth := none, wrongCodes := 0, stored := ParamSet.empty, present := false, confirmed := none, sealRec := 0 }

/-- The Edge Placer with every enable removed. -/
def EdgeState.init : EdgeState :=
  { chans := [], lines := [], held := [], grants := [], synced := [], links := [], legs := [], convs := [], bands := [], predTold := [],
    hwForce := [], recap := [] }

/-- Both pairs off. -/
def PairState.init : PairState := { wardens := [], turnstile := [], fresh := [], coreHalted := [], checkAt := [], dbgHalted := [], dbgRegs := [] }

/-- The DC link with no sample taken (R283). -/
def DclState.init : DclState :=
  { ov3Run := 0, battRun := 0, ov2Hold := false, ov2At := 0, mismatch := 0, toldAt := [], told := [], chopWant := false, chopAge := 0, chopFault := false, chopSince := none,
    chopTimes := [], discharge := none, tracked := [] }

/-- Acquisition with nothing in progress. -/
def AcqState.init : AcqState :=
  { shadow := [], reps := [], open_ := [], drops := [], dropAt := [], inserts := [], zeros := [], refAt := 0 }

/-- The estimator in WATCH with nothing known. -/
def Est.init : Est :=
  { st := 0, thHf := 0, omHf := 0, intHf := 0, thO := 0, omO := 0, intO := 0, eG := 0, eD := 0, iGh := 0, iDh := 0, lockHf := 0,
    lockO := 0, w := 0, theta := 0, omega := 0, speed := 0, inj := false, k := 0, hd := [], hq := [], vtB := 0, vtC := 0, ang := [],
    emf := 0, polKnown := false, polTick := 0, polAgain := false, sumP := 0, sumM := 0, polM := 0, acqAt := 0, lossAt := 0, lockRun := 0, fwTicks := 0, omLoss := 0, method := 0,
    thLoss := 0, recaps := [], ascTicks := 0, ascA := 0, ascB := 0, ascDa := 0, ascDb := 0, ascRev := false, pD := 0, pQ := 0, chg := [],
    resBad := false }

/-- The traction program before its first tick. -/
def Trac.init : Trac :=
  { est := Est.init, judged := none, tRef := 0, idRef := 0, iqRef := 0, dId := 0, idMt := 0, vMag := 0, vd := 0, vq := 0, i0 := 0, i1 := 0, i2 := 0,
    seq := 0, seqAt := 0, swd := false, ramps := [], speedMode := false, prof := 0, vdc := 0, vdcBad := 0, duties := [], h := 0, fbar := 0,
    bandOn := false, chgSeen := [], law := 0, flags := 0, limitAt := none, bsatTold := false,
    bsatRun := 0, hlimAt := none, hlimTold := false, overRun := 0, overTold := false, vdcTold := false, bsat := 0, limited := false, out := [], toldLaw := none, lawOp := none }

/-- The converter before its first start. -/
def ConvState.init : ConvState :=
  { judged := none, seqSeen := 0, ssDone := false, e1 := 0, e2 := 0, e3 := 0, u1 := 0, u2 := 0, u3 := 0, iLim := 0, voBad := 0,
    voHigh := 0, voTold := false, stopAt := 0, quiet := 0, dk := [], il := [], vin := 0, vout := 0, withheld := false, padsLow := false, cbc := 0, ownVset := none, edges := 0,
    interval := 0, phase := 0, good := 0, out := [] }

/-- A charge target that is idle and not armed. -/
def Charge.init : Charge :=
  { phase := 0, rest := false, cut := false, pulses := 0, armed := false, wd := false, timer := none, prep := 0, at_ := 0, low := none,
    seqSeen := 0, seqAt := 0, known := false }

/-- The charger before its first session. -/
def ChgState.init : ChgState :=
  { judged := none, hv := Charge.init, lv := Charge.init, armSeq := 0, ramps := [], iRef := 0, hold := 0, e1 := 0, e2 := 0, e3 := 0,
    u1 := 0, u2 := 0, u3 := 0, cv := 0, cvActive := false, anchor := 0, charge := 0, sup := 0, supTicks := 0, padsLow := false,
    pfcLow := false, cpHigh := false, pwm := false, cpAt := 0, out := [] }

/-- An encoder interface at rest. -/
def Enc.init : Enc :=
  { a := false, b := false, ivals := [], need4 := false, restart := true, speed := 0, lastAt := 0, ill := 0, illAt := [], moved := 0,
    since := 0, indexed := false, dirty := false }

/-- An emulated output at zero. -/
def Emu.init : Emu := { pos := 0, told := false }

/-- A motor before its first tick. -/
def Act.init : Act :=
  { pos := 0, speed := 0, theta := 0, sector := none, secAt := 0, count := 0, mode := none, target := 0, nRef := 0, integ := 0,
    iStar := 0, near := 0, done := false, h := 0, fbar := 0, on := false, seen := [] }

/-- The Motion Gallery at rest. -/
def MotState.init : MotState :=
  { encs := [], hallBad := [], sentSync := [], sentAt := [], sentTold := [], resBad := [], emus := [], acts := [], judged := [], out := [], park := none, parkOut := 0, parkSince := none }

/-- No run. -/
def DiscState.init : DiscState := { meas := [], op := none, ran := false, noLink := false, linkUp := false, ticks := [] }

/-- A safety input with both contacts low, as its pull-downs hold them (R67). -/
def Sin.init : Sin :=
  { rawA := false, rawB := false, a := false, b := false, timer := none, bothIn := false, func := 0, sout := 0, asc := 0, atA := 0,
    atB := 0, timerAt := 0 }

/-- A row whose timer has not run. -/
def RowState.init : RowState := { on := false, running := false, at_ := 0 }

/-- A pair before its first scan: markers at 0 (R402). -/
def SafePair.init : SafePair := { marks := [], rows := [], sout := 0, rising := 0, forces := 0, park := false }

/-- An output with no test. -/
def Sout.init : Sout := { stage := 0, low := false, owed := false, defers := 0, failed := false, at_ := 0 }

/-- No table, no scan. -/
def SafeState.init : SafeState := { sins := [], pairs := [], souts := [], table := [], kickAt := 0 }

/-- A closed connection. -/
def TallyRx.init : TallyRx := { st := 0, seq := 0, cause := 0, fails := 0, lost := 0, ignored := 0, run := 0, data := [], last := 0 }

/-- Nothing sent yet. -/
def TallyTx.init : TallyTx := { seq := 0, due := 0, image := [] }

/-- Every connection closed (R411). -/
def TallyState.init : TallyState := { rx := [], tx := [], frames := [] }

/-- Nothing sent, no lock. -/
def LinkState.init : LinkState :=
  { sent := [], turnstile := [], canQueue := [], locked := false, leftWait := false, slew := 0, frac := 0, glSeq := 0, timeAt := [],
    syncAt := 0, svcMac := [] }

/-- The machine right after reset: OFF, under POR, every register at its reset value, the queue empty (DESIGN CHOICE, log 1 and 2). -/
def State.reset : State :=
  { part := .elx9460, pending := [], atime := 0, free := 0, regs := [], mem := Memory.init, pwr := Supplies.init, mode := ModeState.init,
    host := HostState.init, own := OwnState.init, store := StoreState.init, mkt := MarketState.init, led := LedgerState.init, fe := [],
    edge := EdgeState.init, pair := PairState.init,
    dcl := DclState.init,
    acq := AcqState.init,
    trac := [],
    conv := ConvState.init,
    chg := ChgState.init,
    mot := MotState.init,
    disc := DiscState.init,
    safe := SafeState.init,
    tally := TallyState.init,
    net := LinkState.init
  }

end Sys2Proof.Machine
end

