-- ==== Sys2Proof/Machine/Ops.lean ====
section
/-! DEFINITION. The named operations over the state that every family of commands shares: registers, ledger records, events,
results, memories, Warden pairs and the Banister, mode transitions. -/

namespace Sys2Proof.Machine

/-- What a meaning answers. -/
abbrev Out := Host.Outcome State Fault Refusal

/-! ### Registers -/

/-- The word the register at `a` holds (R463). -/
def State.rd (s : State) (a : Nat) : Word := Sparse.get (resetValue s.part) s.regs a

/-- The register file with `w` at `a`. -/
def State.wr (s : State) (a : Nat) (w : Word) : State :=
  { s with regs := Sparse.set (resetValue s.part) s.regs a w }

/-- A field of a register, as a number. -/
def State.get (s : State) (F : Fld) : Nat := bitsOf (s.rd F.addr) F.hi F.lo

/-- A field of a register written by the hardware or the runtime; bits above the field's width are lost. -/
def State.put (s : State) (F : Fld) (v : Nat) : State := s.wr F.addr (withBits (s.rd F.addr) F.hi F.lo v)

/-- A one-bit field, as a truth value. -/
def State.flag (s : State) (F : Fld) : Bool := s.get F != 0

/-- A one-bit field written. -/
def State.putB (s : State) (F : Fld) (b : Bool) : State := s.put F (bit b)

/-- A counter of the spec that saturates at its field's largest value. -/
def State.satInc (s : State) (F : Fld) : State := s.put F (satTo (F.hi + 1 - F.lo) (s.get F + 1))

/-- A counter of the spec that wraps at its field's width. -/
def State.wrapInc (s : State) (F : Fld) : State := s.put F (s.get F + 1)

/-- Bit `b` of a field written. -/
def State.putBit (s : State) (F : Fld) (b : Nat) (v : Bool) : State := s.put F (natSetBit (s.get F) b v)

/-- Bit `b` of a field. -/
def State.bitAt (s : State) (F : Fld) (b : Nat) : Bool := natBit (s.get F) b

/-- The next value of the free counter, for a value the spec leaves open. -/
def State.useFree (s : State) : State := { s with free := s.free + 1 }

/-- Microseconds of device time since `t`. -/
def State.since (s : State) (t : Time) : Nat := (s.atime - t).toNat

/-- An update made only where `b` holds. -/
def State.onlyIf (s : State) (b : Bool) (f : State → State) : State := if b then f s else s

/-- An update made for each member of a list, in order. -/
def State.each {α : Type} (s : State) (l : List α) (f : State → α → State) : State := l.foldl f s

/-! ### Modes -/

/-- The code of a mode in SYS_MODE (R31). -/
def Mode.code : Mode → Nat
  | .off => 0x0 | .hibernate => 0x1 | .boot => 0x2 | .discover => 0x3 | .commission => 0x4 | .standby => 0x5 | .drive => 0x6
  | .charge => 0x7 | .supply => 0x8 | .service => 0x9 | .degraded => 0xA | .safeStop => 0xB

/-- The mode of a code of SYS_MODE (R31). -/
def Mode.ofCode (n : Nat) : Mode :=
  match n with
  | 0x1 => .hibernate | 0x2 => .boot | 0x3 => .discover | 0x4 => .commission | 0x5 => .standby | 0x6 => .drive
  | 0x7 => .charge | 0x8 => .supply | 0x9 => .service | 0xA => .degraded | 0xB => .safeStop | _ => .off

/-- The mode in force (R31). -/
def State.md (s : State) : Mode :=
  match s.pwr.power with
  | .off => .off
  | .railWait => if s.pwr.afterWake then .hibernate else .off
  | .hibernate => .hibernate
  | .reset => .boot
  | .run => Mode.ofCode (s.get R.SYS_MODE_MODE)

/-- The part runs: it is neither off, hibernating nor held in reset. -/
def State.running (s : State) : Bool := s.pwr.power = .run

/-- The modes DISCOVER to DEGRADED of R32. -/
def Mode.discoverToDegraded (m : Mode) : Bool :=
  m = .discover || m = .commission || m = .standby || m = .drive || m = .charge || m = .supply || m = .service || m = .degraded

/-- The modes from DISCOVER onwards (R47). -/
def Mode.fromDiscover (m : Mode) : Bool := m.discoverToDegraded || m = .safeStop

/-- The ELX is in PARK (R41). -/
def State.inPark (s : State) : Bool := s.md = .standby && s.flag R.SYS_MODE_PARK

/-! ### Ledger records, events and results -/

/-- SCOPE and FUNC of a record (R427, R429): 1 degrading; 2 function only, with its function. -/
def scopeOf (code sev unit : Nat) : Nat × Nat :=
  if sev ≠ 1 then (0, 0)
  else if code = 0x0806 ∨ code = 0x1002 ∨ (0x0B01 ≤ code ∧ code ≤ 0x0B03) then
    (if unit = 0x84 then (2, 0) else if unit = 0x85 then (2, 1) else (1, 0))
  else if code = 0x0850 ∨ code = 0x0D02 ∨ code = 0x0D03 then (2, 0)
  else if code = 0x0E01 ∨ code = 0x0E04 then (2, 1)
  else if code = 0x0861 then (2, 2)
  else if code = 0x0702 then (2, 3)
  else if code = 0x0F11 then (2, 4)
  else if code = 0x0003 ∨ code = 0x0102 ∨ code = 0x0604 ∨ code = 0x0842 ∨ code = 0x0847 ∨ code = 0x0848 ∨ code = 0x0849 ∨
      code = 0x0F01 ∨ code = 0x1001 ∨ code = 0x1007 ∨ code = 0x1008 ∨ code = 0x1103 ∨ code = 0x1202 then (1, 0)
  else (0, 0)

/-- A context word: the given one, or, where the spec defines none for the code, a free value (log 20). -/
def State.ctxWord (s : State) (o : Option Word) (i : Nat) : Word := o.getD (Config.freeWord (0x100 + i) s.free)

/-- A unit raises a ledger record: it takes the next SEQ and goes to Landing 0 (R16, R427).
`own` is the TARGET code whose function decides the scope, where it is not the raising unit's. -/
def State.raiseFor (s : State) (code sev unit own : Nat) (c0 c1 : Option Word) : State :=
  let n := s.rd R.LEDGER_SEQ + 1
  let sc := scopeOf code sev own
  let tick := if 0x80 ≤ unit ∧ unit ≤ 0x87 then (s.rd (R.FE_TICKNO (unit - 0x80))).toNat else 0
  let r : Rec := { code := code, sev := sev, scope := sc.1, func := sc.2, unit := unit, at_ := s.atime, tick := tick,
                   ctx0 := s.ctxWord c0 0, ctx1 := s.ctxWord c1 1, seq := n.toNat, boot := s.led.boots % 65536, flags := 0, own := own }
  let s1 := s.wr R.LEDGER_SEQ n
  { s1 with led.arriving := s1.led.arriving ++ [r], free := s1.free + 1 }

/-- A unit raises a ledger record; context words that its code does not define are left open. -/
def State.raise (s : State) (code sev unit : Nat) (c0 c1 : Option Word := none) : State :=
  s.raiseFor code sev unit unit c0 c1

/-- An event for the rings of one master, or of every master (R107); EVENT_DELIVERY writes it to the rings. -/
def State.eventTo (s : State) (only : Option Nat) (code source : Nat) (c0 c1 c2 c3 : Option Word) : State :=
  { s with
      host.events := s.host.events ++
        [{ code := code, source := source, at_ := s.atime, c0 := s.ctxWord c0 2, c1 := s.ctxWord c1 3, c2 := s.ctxWord c2 4,
           c3 := s.ctxWord c3 5, only := only }]
      free := s.free + 1 }

/-- An event arises (R107); context words that its code does not define are left open. -/
def State.event (s : State) (code source : Nat) (c0 c1 c2 c3 : Option Word := none) : State :=
  s.eventTo none code source c0 c1 c2 c3

/-- An event for the rings of one master alone (R104, R110, R113). -/
def State.eventFor (s : State) (m code source : Nat) (c0 c1 c2 c3 : Option Word := none) : State :=
  s.eventTo (some m) code source c0 c1 c2 c3

/-- A result enters the collector (R101, R103) from Gallery `g`. -/
def State.result (s : State) (m tag g : Nat) (st : Status) (value : Nat) (data superseded : Bool) : State :=
  { s with
      host.results := s.host.results ++
        [{ master := m, tag := tag, status := st, superseded := superseded, data := data, value := value % 2 ^ 64, at_ := s.atime, gallery := g }]
      host.ops := s.host.ops.map fun o => if o.master = m && o.tag = tag then { o with done := true } else o }

/-- The operation is the one that a command row starts: the descriptor that was fetched and checked (R91, R94). -/
def Op.isFor (o : Op) (c : Cmd) (opcode : Nat) : Bool :=
  o.master = c.master && o.tag = c.tag && o.opcode = opcode && o.target = c.target && o.len = c.len && o.hostAddr = c.hostAddr &&
  o.payload == c.payload

/-- It has started, or has its result already. -/
def Op.begun (o : Op) : Bool := o.started || o.done

/-- Operations in flight of the same ring that were fetched before `o`. -/
def State.earlier (s : State) (o : Op) : List Op :=
  (s.host.ops.takeWhile (· != o)).filter fun p => p.master = o.master && p.ring = o.ring

/-- The promised order lets `o` start (R105): behind a FENCE every earlier descriptor of its ring has had its completion issued; Class I
setpoints, and Class R and B commands, of one ring to one target go in ring order. -/
def State.mayStart (s : State) (o : Op) : Bool :=
  (!o.fence || (s.earlier o).isEmpty) &&
  (s.earlier o).all fun p => p.target != o.target || (p.cls == 0) != (o.cls == 0) || p.begun

/-- A descriptor of this opcode, with the command's operands, has been fetched and has passed checks 1 to 6 of R96, has not yet started,
and may start now (R96, R105). -/
def State.startable (s : State) (c : Cmd) (opcode : Nat) : Bool :=
  s.host.ops.any fun o => o.isFor c opcode && !o.begun && s.mayStart o

/-- A command row: the effect `f` of an operation in flight that starts now; without such an operation nothing happens (R96, log 14). -/
def State.command (s : State) (c : Cmd) (opcode : Nat) (f : State → Out) : Out := if s.startable c opcode then f s else .next s

/-- The command has started, and completes later (R98, R100). -/
def State.begin (s : State) (c : Cmd) : State :=
  { s with host.ops := s.host.ops.map fun o => if o.master = c.master && o.tag = c.tag then { o with started := true } else o }

/-- The runtime finishes a command: its result enters the Host Gallery's queue (R103). -/
def State.finish (s : State) (c : Cmd) (st : Status) (value : Nat := 0) (data : Bool := false) : State :=
  s.result c.master c.tag 3 st value data false

/-- A command refused with a status, and no other effect. -/
def refuse (s : State) (c : Cmd) (st : Status) : Out := .next (s.finish c st)

/-- The opcode groups of R47 and the modes that accept them. -/
def groupAccepts (s : State) (opcode : Nat) : Bool :=
  let m := s.md
  match opcode / 256 with
  | 0x01 => m.fromDiscover
  | 0x02 => m.fromDiscover
  | 0x10 => m = .drive || m = .degraded || (m = .service && !s.mode.servFromStop)
  | 0x11 => m = .standby || m = .service || m = .commission
  | 0x20 => m = .standby || m = .drive || m = .charge || m = .supply || m = .service || m = .degraded
  | 0x30 => m = .charge || m = .supply
  | 0x40 => m = .standby || m = .drive || m = .charge || m = .supply || m = .service || m = .degraded
  | 0x50 => m.fromDiscover
  | 0x60 => m = .commission
  | 0x70 => m.fromDiscover
  | 0x7F => m = .service
  | _ => false

/-! ### Memories -/

/-- First address after the SRAM, the MRAM code partition and the MRAM log partition (R129). -/
def sramBase : Nat := 0x20000000
def sramEnd : Nat := 0x20800000
def mramBase : Nat := 0x40000000
def mramLog : Nat := 0x42000000
def mramEnd : Nat := 0x42100000

/-- An address of the SRAM (R129). -/
def inSram (a : Nat) : Bool := decide (sramBase ≤ a) && decide (a < sramEnd)

/-- An address of the MRAM (R129). -/
def inMram (a : Nat) : Bool := decide (mramBase ≤ a) && decide (a < mramEnd)

/-- One byte of the internal memory map; outside it a read answers zero (R129, R138, R152). -/
def State.readByte (s : State) (a : Nat) : Byte :=
  if inSram a then Sparse.get (always 0) s.mem.sram a
  else if inMram a then Sparse.get (always 0) s.mem.mram a
  else 0

/-- One byte of the internal memory map stored, with the valid bit of its SRAM word (R152); no effect outside the map. -/
def State.setByte (s : State) (a : Nat) (b : Byte) : State :=
  if inSram a then
    { s with mem.sram := Sparse.set (always 0) s.mem.sram a b
             mem.valid := Sparse.set (always false) s.mem.valid ((a - sramBase) / 8) true }
  else if inMram a then { s with mem.mram := Sparse.set (always 0) s.mem.mram a b }
  else s

/-- Bytes stored from address `a` upwards. -/
def State.setBytes (s : State) (a : Nat) : List Byte → State
  | [] => s
  | b :: t => (s.setByte a b).setBytes (a + 1) t

/-- `n` bytes from address `a`. -/
def State.readBytes (s : State) (a : Nat) : Nat → List Byte
  | 0 => []
  | n + 1 => s.readByte a :: s.readBytes (a + 1) n

/-- `n` bytes from address `a` as a number, as they were last written. -/
def State.readNat (s : State) (a n : Nat) : Nat := leNat (s.readBytes a n)

/-! ### Damage of stored words (R148-R153) -/

/-- The word at offset `o` has been written since its bank was last OFF (R152). -/
def State.wordValid (s : State) (o : Nat) : Bool := Sparse.get (always false) s.mem.valid (o / 8)

/-- The bits of the word at offset `o` that are wrong, and whether the parity of its eight valid bits fails. R149 does not say which eight
valid bits share a parity bit: those of an aligned 64 bytes (DESIGN CHOICE, log 65). -/
def State.flipsAt (s : State) (o : Nat) : Nat := Sparse.get (always 0) s.mem.flips (o / 8)
def State.parityAt (s : State) (o : Nat) : Bool := Sparse.get (always false) s.mem.parityBad (o / 64)

/-- The syndrome and CLASS of a checked read of the word at offset `o`, reached with address bits `addr` wrong: the valid array's parity
comes first, and a never-written word is not checked (R149, R152). -/
def State.synAt (s : State) (o addr : Nat) : Nat := syndromeOf (s.flipsAt o) addr
def State.classAt (s : State) (o addr : Nat) : Nat :=
  if s.parityAt o then 6 else if s.wordValid o then classOf (s.synAt o addr) else 0

/-- The data of the word at offset `o` as a check corrects them: what was written, but for the wrong bits that the correction leaves. A word
never written is not checked, and reads as it is (R152). -/
def State.checkedWord (s : State) (o : Nat) : Nat :=
  let w := s.readNat (sramBase + (o - o % 8)) 8
  if s.flipsAt o = 0 || !s.wordValid o then w else w ^^^ ((s.flipsAt o ^^^ fixOf (s.synAt o 0)) % 2 ^ 64)

/-- A word is stored anew with its own check bits: corrected where a check corrects it (R153, R155, R156). -/
def State.settle (s : State) (o : Nat) : State :=
  if s.flipsAt o = 0 then s
  else { (s.setBytes (sramBase + (o - o % 8)) (leBytes 8 (s.checkedWord o))) with mem.flips := Sparse.set (always 0) s.mem.flips (o / 8) 0 }

/-- Every word that a write of `n` bytes from address `a` covers whole loses its damage (R150). -/
def State.renew (s : State) (a n : Nat) : State :=
  let whole (w : Nat) : Bool := decide (a ≤ sramBase + 8 * w) && decide (sramBase + 8 * w + 8 ≤ a + n)
  { s with mem.flips := s.mem.flips.filter fun e => !whole e.1
           mem.parityBad := s.mem.parityBad.filter fun e => !(List.range 8).any fun k => whole (8 * e.1 + k) }

/-- One byte written as a part of its SRAM word (R153): the rest of a word that can be corrected is corrected, and an uncorrectable word takes
nothing (R150). -/
def State.writeByte (s : State) (a : Nat) (b : Byte) : State :=
  if !inSram a then s.setByte a b
  else
    let o := a - sramBase
    if 3 ≤ s.classAt o 0 then s else (s.settle o).setByte a b

/-- Bytes written one by one from address `a` upwards. -/
def State.writeEach (s : State) (a : Nat) : List Byte → State
  | [] => s
  | b :: t => (s.writeByte a b).writeEach (a + 1) t

/-- Bytes written from address `a` upwards: words covered whole first lose what damage they have. -/
def State.writeBytes (s : State) (a : Nat) (bs : List Byte) : State := (s.renew a bs.length).writeEach a bs

/-- `n` bytes of a number written. -/
def State.writeNat (s : State) (a n v : Nat) : State := s.writeBytes a (leBytes n v)

/-- An address of Warden private memory (R129). -/
def inWarden (a : Nat) : Bool := decide (sramBase ≤ a) && decide (a < sramBase + 0x100000)

/-- A write that R130 refuses: REGION_ERR, and 0x0601 with the address and the initiator; how the record numbers initiators the spec does
not say (log 20). `who` is the model's own number of the initiator. -/
def State.regionErr (s : State) (a who : Nat) : State :=
  (s.putB R.STORE_STATUS_REGION_ERR true).raise 0x0601 0 0x06 (w32 a) (Config.freeWord 0x7B who)

/-- Bytes entered in a sparse memory. -/
def putBytes (m : Sparse Byte) (a : Nat) : List Byte → Sparse Byte
  | [] => m
  | b :: t => putBytes (Sparse.set (always 0) m a b) (a + 1) t

/-- Bytes written into the memory of master `m`: a PCIe host's own memory, or the SRAM for the Steward cluster (R85), where the Host
Gallery's ring engine may not write Warden private memory (R130). -/
def State.putHost (s : State) (m a : Nat) (bs : List Byte) : State :=
  match m with
  | 0 => { s with mem.host0 := putBytes s.mem.host0 a bs }
  | 1 => { s with mem.host1 := putBytes s.mem.host1 a bs }
  | _ => if inWarden a && !bs.isEmpty then s.regionErr a 3 else s.writeBytes a bs

/-- The bytes of words. -/
def bytesOfWords : List Word → List Byte
  | [] => []
  | w :: t => wordBytes w ++ bytesOfWords t

/-- Result data at HOST_ADDR, cut at the buffer's size (R91), and the completion with DATA. -/
def State.finishData (s : State) (c : Cmd) (st : Status) (bs : List Byte) (value : Nat := 0) : State :=
  (s.putHost c.master c.hostAddr (bs.take c.len)).finish c st value true

/-! ### Payload of a command (descriptor byte numbers, R91) -/

/-- `n` bytes of the payload from descriptor byte `i`, as a number. -/
def arg (c : Cmd) (i n : Nat) : Nat := fieldAt c.payload (i - 16) n

/-- A 32-bit payload word from descriptor byte `i`. -/
def argW (c : Cmd) (i : Nat) : Word := w32 (arg c i 4)

/-! ### Warden pairs -/

/-- State of Warden pair `k` (0 A, 1 B) in PAIR_STATUS: 1 in service, 2 diverged, 3 split, 6 halted … -/
def State.pairSt (s : State) (k : Nat) : Nat := if k = 0 then s.get R.PAIR_STATUS_A_STATE else s.get R.PAIR_STATUS_B_STATE

/-- The state of a Warden pair written. -/
def State.setPairSt (s : State) (k v : Nat) : State :=
  if k = 0 then s.put R.PAIR_STATUS_A_STATE v else s.put R.PAIR_STATUS_B_STATE v

/-- Pair `k` is in service: paired and compared (R12, R380). -/
def State.inService (s : State) (k : Nat) : Bool := s.pairSt k = 1

/-- A split Warden A counts as in service while both its cores meet their supervision (R385). -/
def State.countsInService (s : State) (k : Nat) : Bool :=
  s.inService k || (k = 0 && s.pairSt 0 = 3 && !Sparse.get (always false) s.pair.coreHalted 0 && !Sparse.get (always false) s.pair.coreHalted 1)

/-- The lines of pair `k` act in removals and forces: it is in service, or it is split Warden A (R12, R385). -/
def State.pairForces (s : State) (k : Nat) : Bool := s.inService k || (k = 0 && s.pairSt 0 = 3)

/-- The handler of ledger records: Warden A while in service and paired, Warden B otherwise (R430). -/
def State.handler (s : State) : Nat := if s.inService 0 then 0 else 1

/-- No pair that may grant is left (R380, R385, R406). -/
def State.pairsLost (s : State) : Bool := !s.inService 0 && !s.inService 1

/-- What pair `k` keeps of its scans, and written (R400-R402). -/
def State.safePair (s : State) (k : Nat) : SafePair := Sparse.get (always SafePair.init) s.safe.pairs k
def State.setSafePair (s : State) (k : Nat) (p : SafePair) : State :=
  { s with safe.pairs := Sparse.set (always SafePair.init) s.safe.pairs k p }

/-- The table of pair `k`, in service, forces unit `u` (R401). -/
def State.tableForces (s : State) (k u : Nat) : Bool := s.inService k && natBit (s.safePair k).forces u

/-! ### The Banister and the pads -/

/-- Units of the Banister: sets 0-3, actuator bridges 4-7, converter 8, charger 9. -/
def unitConv : Nat := 8
def unitCharger : Nat := 9

/-- Function and unit fields of channel `n` (EDGE_CH_n_CFG). -/
def State.chanFunc (s : State) (n : Nat) : Nat := s.get (R.EDGE_CH_CFG_FUNC n)
def State.chanUnit (s : State) (n : Nat) : Nat := s.get (R.EDGE_CH_CFG_UNIT n)
def State.chanLeg (s : State) (n : Nat) : Nat := s.get (R.EDGE_CH_CFG_LEG n)

/-- The Banister unit whose lines channel `n` follows; a chopper follows the converter's, an unassigned channel none (R196, R197). -/
def State.banUnit (s : State) (n : Nat) : Option Nat :=
  match s.chanFunc n with
  | 1 => some (s.chanUnit n)
  | 2 => some unitConv
  | 3 => some unitCharger
  | 4 => some (4 + s.chanUnit n)
  | 5 => some unitConv
  | _ => none

/-- The engine that drives channel `n` (R196). -/
def State.chanEngine (s : State) (n : Nat) : Option Nat :=
  match s.chanFunc n with
  | 1 => some (s.chanUnit n)
  | 2 => some 4
  | 3 => some 5
  | 4 => some (6 + s.chanUnit n / 2)
  | _ => none

/-- The half-bridge channels of the part. -/
def State.allChans (s : State) : List Nat := List.range (nChan s.part)

/-- The channels that follow the lines of unit `u`. -/
def State.unitChans (s : State) (u : Nat) : List Nat := s.allChans.filter fun n => s.banUnit n = some u

/-- The channels assigned to engine `n`. -/
def State.engineChans (s : State) (n : Nat) : List Nat := s.allChans.filter fun h => s.chanEngine h = some n

/-- The Banister lines of pair `k` for unit `u`. -/
def State.lines (s : State) (k u : Nat) : Lines := Sparse.get (always Lines.init) s.edge.lines (16 * k + u)

/-- The lines of pair `k` for unit `u` written. -/
def State.setLines (s : State) (k u : Nat) (l : Lines) : State :=
  { s with edge.lines := Sparse.set (always Lines.init) s.edge.lines (16 * k + u) l }

/-- The Banister takes the lines of pair `k`: it is in service, and, after a return, its first window has compared (R12, R386, R388). -/
def State.counts (s : State) (k : Nat) : Bool := s.inService k && !Sparse.get (always false) s.pair.fresh k

/-- The output enable of unit `u`: asserted only while every in-service pair asserts ENABLE, and some pair is in service (R12). -/
def State.enabled (s : State) (u : Nat) : Bool :=
  (s.counts 0 || s.counts 1) && (!s.counts 0 || (s.lines 0 u).enable) && (!s.counts 1 || (s.lines 1 u).enable)

/-- A pair whose forces act asserts FORCE_ASC, or FORCE_STO, on unit `u` (R12, R385). -/
def State.ascForced (s : State) (u : Nat) : Bool :=
  (s.pairForces 0 && (s.lines 0 u).forceAsc) || (s.pairForces 1 && (s.lines 1 u).forceAsc)
def State.stoForced (s : State) (u : Nat) : Bool :=
  (s.pairForces 0 && (s.lines 0 u).forceSto) || (s.pairForces 1 && (s.lines 1 u).forceSto)

/-- The force on unit `u`: ASC (true), STO (false) or none. The hardware paths are the OV3 latch, which forces ASC on traction and
actuator channels and STO on the charger's, and the fast actions (R283, R404). On traction and actuator channels an ASC demand
wins over FORCE_STO (R285). -/
def State.forceOn (s : State) (u : Nat) : Option Bool :=
  let hw := Sparse.get (always none) s.edge.hwForce u
  let ov3 := s.flag R.SAFE_DCL_STATUS_OV3_LATCH
  if decide (u < 8) && (ov3 || hw = some true || s.ascForced u) then some true
  else if (ov3 && u == unitCharger) || hw.isSome || s.stoForced u || s.ascForced u then some false
  else none

/-- What decides the pads of unit `u` (R66, R205): the latch, a force, a removed enable (STO), or the schedule (none). -/
def State.padForce (s : State) (u : Nat) : Option Bool :=
  if s.pwr.latchDrives then some (natBit s.pwr.latchAsc u)
  else
    match s.forceOn u with
    | some b => some b
    | none => if s.enabled u then none else some false

/-- Channel `n` of the Edge Placer. -/
def State.chan (s : State) (n : Nat) : Chan := Sparse.get (always Chan.init) s.edge.chans n

/-- Channel `n` written. -/
def State.setChan (s : State) (n : Nat) (c : Chan) : State :=
  { s with edge.chans := Sparse.set (always Chan.init) s.edge.chans n c }

/-- The pads that R205 gives a channel of function `func` in mode `mode` (R200) under force `f`. -/
def padsOf (func mode : Nat) (f : Option Bool) (c : Chan) : Bool × Bool :=
  if c.faultLow then (false, false)
  else
    match f with
    | some true => if func = 1 || func = 4 then (false, c.low || (c.ilPassed && !c.high)) else (false, false)
    | some false => (false, false)
    | none => if c.taken && (mode != 0 || func = 5) then (c.cmdHigh, !c.cmdHigh && mode != 4 && func != 5) else (false, false)

/-- The channel with its pads set: edges are counted (R207), and every fall of the high-side pad starts ASC_IL (R205). -/
def Chan.drive (c : Chan) (p : Bool × Bool) : Chan :=
  { c with high := p.1, low := p.2, ilPassed := if c.high && !p.1 then false else c.ilPassed,
           edges := (c.edges + bit (c.high != p.1) + bit (c.low != p.2)) % 65536 }

/-- The pins of bank VIO_n carry signals: not isolated (R55, R71), and the bank good (R53, R54, R58, R66, R68). -/
def State.bankLive (s : State) (n : Nat) : Bool :=
  !s.pwr.isolated && s.bitAt R.PWR_STATUS_VIO_GOOD n && (n != 3 || !s.pwr.isolatedVio3)

/-- The bank of half-bridge channel `n` and of its gate link (R53). -/
def hbBank (n : Nat) : Nat := if n < 24 then 2 else 3

/-- The pads of channel `n` are driven. -/
def State.padDriven (s : State) (n : Nat) : Bool := s.bankLive (hbBank n)

/-- Leg `n` of a band comparator. -/
def State.leg (s : State) (n : Nat) : Leg := Sparse.get (always Leg.init) s.edge.legs n

/-- Leg `n` written. -/
def State.setLeg (s : State) (n : Nat) (l : Leg) : State := { s with edge.legs := Sparse.set (always Leg.init) s.edge.legs n l }

/-- The slope table of unit `u`, and the table written (R243). -/
def State.band (s : State) (u : Nat) : BandSet := Sparse.get (always BandSet.init) s.edge.bands u
def State.setBand (s : State) (u : Nat) (b : BandSet) : State := { s with edge.bands := Sparse.set (always BandSet.init) s.edge.bands u b }

/-- The slope table cleared with vector `v` in force (R243); the last clean conversion stays. -/
def BandSet.clear (b : BandSet) (v : Nat) : BandSet :=
  { b with slopes := [], vec := v, first := none, last := none, path := match b.base with | some x => [(v, x.1)] | none => [] }

/-- An enable removal or a force clears the leg's state, the set's slope table, and the effective mode (R240, R243, R245). -/
def State.clearLeg (s : State) (n u : Nat) : State :=
  let m : Bool := s.get (R.EDGE_CH_CFG_MODE n) = 3
  ((s.setLeg n { s.leg n with decided := false, high := false, dwelling := false, pend := none }).setBand u ((s.band u).clear 0)).setChan n
    { s.chan n with band := m, taken := false, cmdHigh := false }

/-- Pads that a block of the Power Gallery drives low, beside the Banister: the CONV block's (R305, R309, R310) and the CHG block's
(R319, R331, R333); units 0 of the charger are its PFC legs (R196). -/
def State.blockLow (s : State) (n : Nat) : Bool :=
  match s.chanFunc n with
  | 2 => s.conv.padsLow
  | 3 => s.chg.padsLow || (s.chg.pfcLow && s.chanUnit n == 0)
  | _ => false

/-- Channel `n` takes the pads its lines, forces and schedule give it now (R205); a pad that is not driven counts as low (R68). -/
def State.refreshChan (s : State) (n : Nat) : State :=
  if !s.padDriven n then s.setChan n ((s.chan n).drive (false, false))
  else match s.banUnit n with
  | none => s.setChan n ((s.chan n).drive (false, false))
  | some u =>
    let f := if s.blockLow n then some false else s.padForce u
    let t := if f.isSome && (s.chan n).taken then s.clearLeg n u else s
    t.setChan n ((t.chan n).drive (padsOf (s.chanFunc n) (s.get (R.EDGE_CH_CFG_MODE n)) f (t.chan n)))

/-- STATE of the converter changes, with the event CONV_STATE (R312). -/
def State.convState (s : State) (v : Nat) : State :=
  let old := s.get R.CONV_STATUS_STATE
  if v = old then s
  else (s.put R.CONV_STATUS_STATE v).event 0x20F0 0x0D (w32 old) (w32 v) (w32 (s.get R.CONV_STATUS_RETRIES))

/-- A removal of the converter's ENABLE, or a force, stops a converter that is not latched (R307, R309). -/
def State.convFollow (s : State) : State :=
  let st := s.get R.CONV_STATUS_STATE
  if ((s.forceOn unitConv).isSome || !s.enabled unitConv) && decide (1 ≤ st) && decide (st ≤ 4) then
    { s.convState 0 with conv.withheld := false, conv.padsLow := false }
  else s

/-- A force on unit `u` ends its enable: when it ends, the channels hold both pads low until the next grant (R205; log 67). -/
def State.dropForced (s : State) (u : Nat) : State :=
  if (s.forceOn u).isSome && ((s.lines 0 u).enable || (s.lines 1 u).enable) then
    (s.setLines 0 u { s.lines 0 u with enable := false }).setLines 1 u { s.lines 1 u with enable := false }
  else s

/-- Every channel of unit `u` takes its pads; the converter follows its lines. -/
def State.refreshUnit (s : State) (u : Nat) : State :=
  let t := (if u = unitConv then s.convFollow else s).dropForced u
  t.each (t.unitChans u) State.refreshChan

/-- Every channel takes its pads. -/
def State.refreshAll (s : State) : State :=
  let t := s.convFollow.each (List.range 10) State.dropForced
  t.each t.allChans State.refreshChan

/-- Both pairs remove the enable of unit `u` (R13); grants of it that wait are void. -/
def State.removeEnable (s : State) (u : Nat) : State :=
  let s1 := (s.setLines 0 u { s.lines 0 u with enable := false })
  let s2 := (s1.setLines 1 u { s1.lines 1 u with enable := false })
  ({ s2 with edge.grants := s2.edge.grants.filter fun g => g.2 ≠ u, edge.synced := s2.edge.synced.filter fun g => g.2 ≠ u }).refreshUnit u

/-- Both pairs assert a force on unit `u`: ASC or STO (R13). -/
def State.forceUnit (s : State) (u : Nat) (asc : Bool) : State :=
  let f (l : Lines) : Lines := { l with forceAsc := asc, forceSto := !asc }
  let s1 := s.setLines 0 u (f (s.lines 0 u))
  (s1.setLines 1 u (f (s1.lines 1 u))).refreshUnit u

/-- Both pairs end their forces on unit `u`; the channel holds both pads low until the next grant (R205). -/
def State.unforceUnit (s : State) (u : Nat) : State :=
  let f (l : Lines) : Lines := { l with forceAsc := false, forceSto := false, enable := false }
  let s1 := s.setLines 0 u (f (s.lines 0 u))
  (s1.setLines 1 u (f (s1.lines 1 u))).refreshUnit u

/-- Unit `u` is held by a Landing 0 decision of fault or safe state (R11). -/
def State.hold (s : State) (u : Nat) : State := { s with edge.held := Sparse.set (always false) s.edge.held u true }

/-- The hold of unit `u` ends. -/
def State.unhold (s : State) (u : Nat) : State := { s with edge.held := Sparse.set (always false) s.edge.held u false }

/-- Unit `u` is held by a Landing 0 decision that is not SAFE_STOP itself: it is out of operation. -/
def State.isOut (s : State) (u : Nat) : Bool := Sparse.get (always false) s.edge.held u

/-- Set `u` is forced to STO for a freewheel recapture alone, which is none of the decisions R11 lists (R275). -/
def State.recapturing (s : State) (u : Nat) : Bool :=
  Sparse.get (always false) s.edge.recap u && !s.flag R.SAFE_DCL_STATUS_OV3_LATCH && (Sparse.get (always none) s.edge.hwForce u).isNone &&
    !s.ascForced u && !s.tableForces 0 u && !s.tableForces 1 u

/-- Unit `u` is held (R11): by a fault decision, by a force of the selector, a fast action, the OV3 latch or the safety table, or as every
output in SAFE_STOP. -/
def State.unitHeld (s : State) (u : Nat) : Bool :=
  s.isOut u || s.md = .safeStop || ((s.forceOn u).isSome && !s.recapturing u)

/-- A unit raises a record about the function of TARGET code `own` (R208). -/
def State.raiseOwn (s : State) (code sev unit own : Nat) (c0 c1 : Option Word := none) : State := s.raiseFor code sev unit own c0 c1

/-- Landing 0 grants unit `u`, unless a decision of fault holds it (R10): both pairs' grants wait in their Turnstiles for their
window (R14, R378). -/
def State.askGrant (s : State) (u : Nat) : State :=
  if s.isOut u then s
  else
    let ks := (List.range 2).filter fun k => s.inService k
    { s with edge.grants := (s.edge.grants.filter fun g => g.2 ≠ u) ++ ks.map fun k => (k, u) }

/-- The units a TARGET code stands for (R11, R92, R196). -/
def targetUnits (t : Nat) : List Nat :=
  if t = 0x80 ∨ t = 0x81 ∨ t = 0x82 ∨ t = 0x83 then [t - 0x80]
  else if t = 0x84 ∨ t = 0x0D then [unitConv]
  else if t = 0x85 ∨ t = 0x0E then [unitCharger]
  else if t = 0x86 then [4, 5]
  else if t = 0x87 then [6, 7]
  else []

/-- The traction sets of the part. -/
def State.sets (s : State) : List Nat := List.range (nSets s.part)

/-- The actuator motors of the part. -/
def State.motors (s : State) : List Nat := List.range (nMotors s.part)

/-! ### Field engines -/

/-- Engine `n`. -/
def State.eng (s : State) (n : Nat) : Engine := Sparse.get (always Engine.init) s.fe n

/-- Engine `n` written. -/
def State.setEng (s : State) (n : Nat) (e : Engine) : State := { s with fe := Sparse.set (always Engine.init) s.fe n e }

/-- Engine `n` changed by a function. -/
def State.modEng (s : State) (n : Nat) (f : Engine → Engine) : State := s.setEng n (f (s.eng n))

/-- Active parameter word `p`. -/
def Engine.word (e : Engine) (p : Nat) : Word := Sparse.get (always 0) e.act p

/-- Committed state word `p` (R175). -/
def Engine.seen (e : Engine) (p : Nat) : Word := Sparse.get (always 0) e.committed p

/-- A staging word written (R168, R169); a later write of the same word replaces the earlier one. -/
def Engine.staged (e : Engine) (p : Nat) (w : Word) : Engine := { e with stg := (e.stg.filter fun x => x.1 ≠ p) ++ [(p, w)] }

/-- Parameter word `p` of engine `n` as it will stand after the next transfer. -/
def Engine.nextWord (e : Engine) (p : Nat) : Word :=
  match e.stg.find? (fun x => x.1 == p) with
  | some x => x.2
  | none => e.word p

/-- A staged write to engine `n` by the runtime (R168, R436). -/
def State.stage (s : State) (n p : Nat) (w : Word) : State := s.modEng n fun e => e.staged p w

/-- The Wardens write Landing 0 word `p` of engine `n`: the write waits in the Turnstile of the pair that makes it (R17, R378); with both
pairs lost there is none to make it. -/
def State.wardenStage (s : State) (n p : Nat) (w : Word) : State :=
  if s.pairsLost then s
  else { s with pair.turnstile := s.pair.turnstile ++ [{ pair := s.handler, engine := n, word := p, val := w }] }

/-- Word `p` of engine `n` as it will stand once the Turnstiles have released what they hold and the engine has made its next transfer. -/
def State.wardenWord (s : State) (n p : Nat) : Word :=
  match (s.pair.turnstile.filter fun x => x.engine = n && x.word = p).getLast? with
  | some x => x.val
  | none => (s.eng n).nextWord p

/-- The writes that the Turnstile of pair `k` holds reach their engines, in retirement order (R378). -/
def State.flushTurnstile (s : State) (k : Nat) : State :=
  let s1 := s.each (s.pair.turnstile.filter fun x => x.pair = k) fun (t : State) x => t.stage x.engine x.word x.val
  { s1 with pair.turnstile := s1.pair.turnstile.filter fun x => x.pair ≠ k }

/-- The engines of the part. -/
def State.engines (s : State) : List Nat := (List.range 8).filter fun n => fePresent s.part n

end Sys2Proof.Machine
end

