-- ==== Sys2Proof/Machine/ModeOps.lean ====
section
/-! DEFINITION. The mode machine's shared operations (chapters 02 and 03): standstill, Landing 0 limits, taking a set out of
operation, triggers, transitions, and entry to a reset. -/

namespace Sys2Proof.Machine

/-! ### Standstill and Landing 0 limits -/

/-- STBY_SPEED_MAX in rad/s mechanical. -/
def State.stbySpeed (s : State) : F32 := fDiv (fMul (fOfNat (s.get R.SYS_MODE_CFG_STBY_SPEED_MAX)) fPi) (fOfNat 30)

/-- Standstill (chapter 02): |SPEED| of every traction set, state word 385, at or below STBY_SPEED_MAX. -/
def State.standstill (s : State) : Bool := s.sets.all fun n => fLe (fAbs ((s.eng n).seen 385)) s.stbySpeed

/-- The set paired with set `n` in a dual three-phase motor (R232). -/
def State.partner (s : State) (n : Nat) : Option Nat :=
  if s.part = .elx9430 then none
  else match n with
  | 0 => if s.flag R.FE_PAIR_CFG_PAIR_01 then some 1 else none
  | 1 => if s.flag R.FE_PAIR_CFG_PAIR_01 then some 0 else none
  | 2 => if s.flag R.FE_PAIR_CFG_PAIR_23 then some 3 else none
  | 3 => if s.flag R.FE_PAIR_CFG_PAIR_23 then some 2 else none
  | _ => none

/-- The set that acts for set `u`: the survivor of a pair whose other set Landing 0 has removed (R233). -/
def State.actsFor (s : State) (u : Nat) : Nat :=
  match s.partner u with
  | some m => if s.isOut u && !s.isOut m then m else u
  | none => u

/-- The units that a command to a TARGET code drives (R11, R233). -/
def State.actingUnits (s : State) (t : Nat) : List Nat := (targetUnits t).map s.actsFor

/-- Word `w` of engine `n` in the confirmed parameter set: a commissioned limit (R436). -/
def State.commissioned (s : State) (n w : Nat) : F32 := (Sparse.get (always none) s.led.stored.feWords (512 * n + w)).getD 0

/-- The DEGRADED fraction of a limit (R436, R437). -/
def State.fraction (s : State) (x : F32) : F32 := fDiv (fMul x (fOfNat (s.get R.LEDGER_DEGR_CFG_TRQ_PCT))) (fOfNat 100)

/-- T_MOT_MAX (`w` = 449) or T_GEN_MAX (450) as the Wardens hold it for set `n` (R233, R283, R436). -/
def State.torqueLimit (s : State) (n w : Nat) : F32 :=
  let own := s.commissioned n w
  let motor := match s.partner n with | some m => fAdd own (s.commissioned m w) | none => own
  if w = 450 ∧ s.dcl.ov2Hold = true then fZero false
  else if w = 449 ∧ s.flag R.SAFE_DCL_STATUS_UV = true ∧ (s.md = .drive ∨ s.md = .degraded) then fZero false
  else if bitOf (s.wardenWord n 452) 1 then fMin own (s.fraction motor)
  else if s.mode.degrLimits then s.fraction own
  else own

/-- The Wardens write both torque limits of set `n` (R228). -/
def State.writeLimits (s : State) (n : Nat) : State :=
  (s.wardenStage n 449 (s.torqueLimit n 449)).wardenStage n 450 (s.torqueLimit n 450)

/-- The Wardens renew the torque limits of every set. -/
def State.refreshLimits (s : State) : State := s.each s.sets State.writeLimits

/-- The Wardens write HOLD bit 0 of every set (R40, R42). -/
def State.refreshHold (s : State) : State :=
  s.each s.sets fun t n => t.wardenStage n 452 (w32 (natSetBit (t.wardenWord n 452).toNat 0 (t.mode.plugHold || t.mode.parkHold)))

/-! ### Sets out of operation -/

/-- The selector's present choice for traction set `u`: ASC (R289). -/
def State.selAsc (s : State) (u : Nat) : Bool := s.bitAt R.SAFE_SEL_STATE_ASC u

/-- Landing 0 takes traction set `u` out of operation: enable removed, the selector's choice asserted, and the set held (R11, R290). -/
def State.takeOut (s : State) (u : Nat) : State :=
  ((s.removeEnable u).forceUnit u (s.selAsc u)).hold u

/-- Landing 0 removes one set: the survivor of a pair takes PARTNER_OUT, T_SHARE 1.0 and its limits (R233). -/
def State.loseSet (s : State) (u : Nat) : State :=
  let s1 := s.takeOut u
  match s1.partner u with
  | some m =>
    if s1.isOut m then s1
    else ((s1.wardenStage m 452 (w32 (natSetBit (s1.wardenWord m 452).toNat 1 true))).wardenStage m 358 fOne).writeLimits m
  | none => s1

/-- The severity of missed ticks or a divergence of engine `n` (R176): S1, but S2 for a set with no partner in service. A partner is in
service while its engine is and Landing 0 has not removed its set (R233). -/
def State.missSeverity (s : State) (n : Nat) : Nat :=
  if 4 ≤ n then 1
  else match s.partner n with
  | some m => if s.isOut m || !s.bitAt R.PAIR_STATUS_FE_IN_SERVICE m then 2 else 1
  | none => 2

/-- A function unit disabled by Landing 0 with its enable removed and held (R11, R176). -/
def State.disable (s : State) (u : Nat) : State := (s.removeEnable u).hold u

/-- The outputs take the safe state of SAFE_STOP (R46, R290): sets by the selector, actuator bridges and charger off,
the converter off where the S2 cause lies in block 0x0D. -/
def State.safeOutputs (s : State) (code : Nat) : State :=
  let s1 := s.each s.sets State.takeOut
  let s2 := s1.each s.motors fun t m => t.removeEnable (4 + m)
  let s3 := s2.removeEnable unitCharger
  if code / 256 = 0x0D then s3.disable unitConv else s3

/-- The mode in force gives unit `u` its enable (R39, R46): sets in DRIVE, DEGRADED and SERVICE entered from STANDBY; actuator bridges and
the converter from STANDBY on; the charger in CHARGE and SUPPLY; in SAFE_STOP the converter alone, and in SERVICE entered from there none. -/
def State.modeGrants (s : State) (u : Nat) : Bool :=
  let m := s.md
  let serv : Bool := m = .service && !s.mode.servFromStop
  if u < 4 then (m = .drive || m = .degraded || serv) && decide (u < nSets s.part)
  else if u < 8 then (m = .standby || m = .drive || m = .charge || m = .supply || m = .degraded || serv) && decide (u - 4 < nMotors s.part)
  else if u = unitConv then m = .standby || m = .drive || m = .charge || m = .supply || m = .degraded || m = .safeStop || serv
  else m = .charge || m = .supply

/-- Pair `k` asks its Turnstile for a grant of unit `u`, where the mode gives one and no Landing 0 decision holds the unit (R14, R402). -/
def State.regrant (s : State) (k u : Nat) : State :=
  if s.inService k && s.modeGrants u && !s.isOut u && !s.edge.grants.contains (k, u) then { s with edge.grants := s.edge.grants ++ [(k, u)] } else s

/-! ### The DEGRADED timer -/

/-- DEGRADED time remaining in ms; `none` before the timer starts (R43, R48). -/
def State.degrLeft (s : State) : Option Nat :=
  match s.mode.degrStart with
  | none => none
  | some t => some (s.mode.degrTime * 1000 - s.since t / 1000)

/-- The DEGRADED_TIMER event with the time remaining in ms (R50). -/
def State.degrEvent (s : State) : State := s.event 0x0104 0 (w32 (s.degrLeft.getD 0))

/-- A transition into DEGRADED is accepted (R43, R436): the mark, the timer at its first start, and the torque limits. DEGRADED_TIMER is
told at the first entry itself (R50). -/
def State.degradedEntry (s : State) : State :=
  let s1 := s.putB R.SYS_MODE_DEGRADE_MARK true
  let s2 :=
    match s1.mode.degrStart with
    | some _ => s1
    | none => { s1 with mode.degrStart := some s1.atime, mode.degrTime := s1.get R.LEDGER_DEGR_CFG_TIME }
  let s3 := { s2 with mode.degrLimits := true }
  s3.each (s3.sets.filter fun n => !s3.isOut n) State.writeLimits

/-! ### Triggers and transitions -/

/-- Precedence of triggers (R35): 1 resets and S3 records, which `enterReset` takes at once; 2 S2, SAFE_STOP_REQUEST and DEGRADED expiry;
3 degrading S1; 4 pilot; 5 owner. R35 has no place for the ELX's own completion, the end of discovery: the model gives it a sixth, lowest one
(DESIGN CHOICE, log 54). -/
def precStop : Nat := 2
def precS1 : Nat := 3
def precPilot : Nat := 4
def precOwner : Nat := 5
def precOwn : Nat := 6

/-- Where a trigger of the given KIND and precedence leads from mode `m` (R32, R44, R45); owner requests name their own target. -/
def causeTarget (m : Mode) (kind prec : Nat) : Option Mode :=
  if prec = precStop then
    if kind = 3 then (if m = .degraded || m = .standby then some .safeStop else none)
    else if m.discoverToDegraded || (kind = 1 && m = .boot) then some .safeStop else none
  else if prec = precS1 then
    (if m = .drive then some .degraded else if m = .charge || m = .supply then some .standby else none)
  else if prec = precPilot then (if m = .charge || m = .supply then some .standby else none)
  else none

/-- An engine stops (R193): its tick is over and it leaves service. -/
def State.stopEngine (s : State) (n : Nat) : State :=
  ((s.putB (R.FE_STATUS_RUNNING n) false).putBit R.PAIR_STATUS_FE_IN_SERVICE n false).modEng n fun e =>
    { e with stopping := false, inTick := false, waiting := none }

/-- The runtime stops engine `n`: RUN = 0 and the engine at rest. -/
def State.haltEngine (s : State) (n : Nat) : State := (s.putB (R.FE_CTRL_RUN n) false).stopEngine n

/-- The engines that run the discovery program stop (R79, R195; log 66). -/
def State.stopDiscovery (s : State) : State :=
  s.each (s.engines.filter fun n => (s.eng n).prog = .discovery && s.flag (R.FE_CTRL_RUN n)) State.haltEngine

/-- Discovery is abandoned: no surroundings record is kept (R80). -/
def State.endDiscovery (s : State) : State := { (s.putB R.DISC_STATUS_BUSY false).stopDiscovery with disc := DiscState.init }

/-- The mode-exit and DEGRADED-expiry ramps end (R35, R44, R229). -/
def State.dropRamps (s : State) : State :=
  s.each s.sets fun u n =>
    let t := Sparse.get (always Trac.init) u.trac n
    { u with trac := Sparse.set (always Trac.init) u.trac n { t with ramps := t.ramps.filter fun (r : Ramp) => r.kind ≠ 1 && r.kind ≠ 2 } }

/-- What the acceptance of a transition to `dest` does: CHARGE or SUPPLY left for STANDBY sets HOLD bit 4 of FE_5 (R325, R330); entry to
HIBERNATE arms the wake sources (R71, R72). -/
def State.accepted (s : State) (dest : Mode) : State :=
  if dest = .standby && (s.md = .charge || s.md = .supply) then
    s.wardenStage 5 450 (w32 (natSetBit (s.wardenWord 5 450).toNat 4 true))
  else if dest = .hibernate then { s with pwr.entering := true }
  else s

/-- Ticks of all engines so far: it moves with every tick of any of them. -/
def State.tickMark (s : State) : Nat := s.engines.foldl (fun n k => n + s.get (R.FE_TICKNO_COUNT k)) 0

/-- A transition is accepted: TRANS_SEQ, IN_TRANSITION and TARGET in one update (R33), and what acceptance itself does. -/
def State.startTrans (s : State) (dest : Mode) (kind prec code : Nat) : State :=
  let s1 := ((s.wrapInc R.SYS_MODE_TRANS_SEQ).putB R.SYS_MODE_IN_TRANSITION true).put R.SYS_MODE_TARGET dest.code
  let tr : Trigger := { dest := dest, kind := kind, prec := prec, code := code, seq := s1.get R.SYS_MODE_TRANS_SEQ, src := s.md,
                        started := s.atime, ticks := s.tickMark }
  let s2 := (({ s1 with mode.trans := some tr }).accepted dest).onlyIf (dest = Mode.safeStop && s1.flag R.DISC_STATUS_BUSY) State.endDiscovery
  if dest = .degraded then s2.degradedEntry
  else if dest = .safeStop && !(kind == 3 && s.md == .degraded) then s2.safeOutputs code
  else s2

/-- The running transition is abandoned for a new one to `dest` (R35): MODE_ABANDONED with both targets and both TRANS_SEQ; its ramp ends. -/
def State.abandon (s : State) (cur : Trigger) (dest : Mode) : State :=
  { (s.event 0x0102 0 (w32 cur.dest.code) (w32 dest.code) (w32 cur.seq) (w32 ((cur.seq + 1) % 256))).dropRamps with
      mode.trans := none, pwr.entering := false, pwr.earlyDelay := false }

/-- A trigger that is held until the running transition ends (R35). -/
def State.holdTrigger (s : State) (kind prec code : Nat) : State :=
  { s with mode.held := s.mode.held ++ [{ dest := s.md, kind := kind, prec := prec, code := code, seq := 0, src := s.md, started := s.atime, ticks := s.tickMark }] }

/-- A trigger of the same precedence and the same target leaves the transition as it is; one that falls into the tick of the first and has the
lower KIND takes its place in SYS_MODE_CAUSE (R37). In one tick: no engine has begun a tick since, and less than 50 µs, the reset period of a
tick, have passed. -/
def State.sameTrigger (s : State) (cur : Trigger) (kind code : Nat) : State :=
  if kind < cur.kind ∧ s.tickMark = cur.ticks ∧ s.since cur.started < 50 then
    { s with mode.trans := some { cur with kind := kind, code := code } }
  else s

/-- A trigger other than an owner request reaches the mode machine (R35, R37); an S2 record during the ramp of DEGRADED expiry ends the
ramp (R44). R35 speaks of holding triggers of the same precedence; one of higher precedence that leads nowhere from the mode in force is held
and judged at the transition's end in the same way (DESIGN CHOICE, log 54). -/
def State.trigger (s : State) (kind prec code : Nat) : State :=
  match s.mode.trans with
  | none =>
    match causeTarget s.md kind prec with
    | some dest => s.startTrans dest kind prec code
    | none => s
  | some cur =>
    if prec = precS1 ∧ cur.prec = precOwner ∧ cur.dest = .drive then
      let dest : Mode := if s.flag R.SYS_MODE_DRIVE_BLOCK then .standby else .degraded
      (s.abandon cur dest).startTrans dest kind prec code
    else
      match causeTarget s.md kind prec with
      | none => s.holdTrigger kind prec code
      | some dest =>
        if prec < cur.prec then (s.abandon cur dest).startTrans dest kind prec code
        else if prec = cur.prec ∧ dest = cur.dest then 
          (if kind = 1 ∧ cur.kind = 3 then (s.sameTrigger cur kind code).dropRamps.safeOutputs code else s.sameTrigger cur kind code)
        else s.holdTrigger kind prec code

/-! ### Resets -/

/-- A reset source or S3 record pre-empts a running transition, which is abandoned with MODE_ABANDONED (R35); BOOT is the new target. -/
def State.abandonForReset (s : State) : State :=
  match s.mode.trans with
  | some cur => s.event 0x0102 0 (w32 cur.dest.code) (w32 Mode.boot.code) (w32 cur.seq) (w32 ((cur.seq + 1) % 256))
  | none => s

/-- Registers that survive every reset but POR: the always-on domain (R466), the supply-good bits, and SAFE_LATCH. -/
def keptAtReset (a : Nat) : Bool :=
  a = R.SYS_RESET_CAUSE || a = R.SYS_STRAP || a = R.PWR_WAKE_CFG || a = R.PWR_WAKE_STATUS || a = R.PWR_WAKE_TIMER ||
  a = R.PWR_STATUS || a = R.SAFE_LATCH

/-- The levels at the safety inputs' contacts, which no reset of the part changes. -/
def contacts (l : Sparse Sin) : Sparse Sin :=
  (l.map fun e => (e.1, { Sin.init with rawA := e.2.rawA, rawB := e.2.rawB })).filter fun e => e.2 ≠ Sin.init

/-- The state with every domain but the always-on one cleared (R61, R466). What MRAM holds stays: the log, the parameter set,
the repair map. SRAM holds no valid word. -/
def State.cleared (s : State) : State :=
  let r := State.reset
  { r with
      part := s.part, pending := s.pending, free := s.free
      regs := s.regs.filter fun e => keptAtReset e.1
      mem := { sram := [], valid := [], flips := [], parityBad := [], mram := s.mem.mram, mramFlips := s.mem.mramFlips, host0 := s.mem.host0, host1 := s.mem.host1 }
      pwr := { s.pwr with latchDrives := true, entering := false, clkHost500 := false, clkLost := 0, noRuntime := false }
      led.log := s.led.log, led.boots := s.led.boots, led.stored := s.led.stored, led.present := s.led.present
      led.confirmed := s.led.confirmed, led.sealRec := s.led.sealRec
      safe.sins := contacts s.safe.sins
      store.repairs := s.store.repairs, store.sectorWrites := s.store.sectorWrites, store.worn := s.store.worn }

/-- A reset source asserts (R59, R61, R62): bit `src` of SYS_RESET_CAUSE sets, the part is in reset, and the half-bridge outputs
follow the safe-state latch (R66). -/
def State.enterReset (s : State) (src : Nat) (cold : Bool) : State :=
  let again := s.pwr.power = .reset
  let s1 := if again then s else s.cleared
  let s2 := s1.putB ⟨R.SYS_RESET_CAUSE, src, src⟩ true
  let s3 := { s2.putB R.PWR_STATUS_VIO_USED_LOCK false with
                pwr.power := .reset, pwr.cold := cold || (again && s.pwr.cold), pwr.sources := natSetBit s2.pwr.sources src true }
  s3.refreshAll

/-- Bits of SYS_RESET_CAUSE (R62). -/
def srcPor : Nat := 0
def srcPin : Nat := 6
def srcLedger : Nat := 7
def srcCmd : Nat := 8
def srcWake : Nat := 9

end Sys2Proof.Machine
end

