-- ==== Sys2Proof/Machine/Profile.lean ====
section
/-! DEFINITION. The motion of a profile channel (R189, R190, 09_field_engines.md): exact numbers in units of 2⁻²⁵⁶, over one Ts at a time, and
the jerk of the time-optimal third-order profile. The spec gives the profile and not its digits (log 28). -/

namespace Sys2Proof.Machine

/-! ### Numbers -/

/-- A finite float, and the product, quotient and root of two such numbers. -/
def fxOf (a : F32) : Int := fInt a * 2 ^ (fPow a + 256).toNat
def fxMul (a b : Int) : Int := a * b / 2 ^ 256
def fxDiv (a b : Int) : Int := a * 2 ^ 256 / b
def fxSqrt (a : Int) : Int :=
  let n := a.toNat * 2 ^ 256
  Int.ofNat (natSqrt n (Nat.log2 n / 2 + 1) 0)

/-- The float nearest to a number. -/
def fxTo (a : Int) : F32 := fOfScaled false a (-256)

/-! ### Motion: slope per tick, curvature per tick squared, jerk per tick cubed -/

/-- The limits of a channel over one tick: VMAX·Ts, AMAX·Ts², JMAX·Ts³. -/
structure ProfLim where
  v : Int
  a : Int
  j : Int
  deriving DecidableEq, Repr

/-- p, v and a after one tick of jerk `j`. -/
def profMove (p v a j : Int) : Int × Int × Int := (p + v + a / 2 + j / 6, v + a + j / 2, a + j)

/-- The greatest slope that a curvature brings before it can be run down at JMAX. -/
def profPeak (l : ProfLim) (v a : Int) : Int := v + fxDiv (fxMul (max a 0) (max a 0)) (2 * l.j)

/-- The distance that a channel needs to stop where its slope, once the curvature is run down, is not negative: the curvature falls to −ap,
stays there and returns to 0. -/
def profStopUp (l : ProfLim) (v a : Int) : Int :=
  let want := fxSqrt (fxMul l.j v + fxMul a a / 2)
  let ap := min want l.a
  let hold := if want ≤ l.a then 0 else fxDiv (v + fxDiv (fxMul a a) (2 * l.j) - fxDiv (fxMul ap ap) l.j) ap
  let t1 := fxDiv (a + ap) l.j
  let d1 := fxMul v t1 + fxMul (fxMul a t1) t1 / 2 - fxMul (fxMul (fxMul l.j t1) t1) t1 / 6
  let v1 := v + fxDiv (fxMul a a - fxMul ap ap) (2 * l.j)
  let d2 := fxMul v1 hold - fxMul (fxMul ap hold) hold / 2
  d1 + d2 + fxDiv (fxMul (fxMul ap ap) ap) (6 * fxMul l.j l.j)

/-- The distance that a channel needs to stop, with its sign. -/
def profStop (l : ProfLim) (v a : Int) : Int :=
  if 0 ≤ v + fxDiv (fxMul a (Int.ofNat a.natAbs)) (2 * l.j) then profStopUp l v a else - profStopUp l (-v) (-a)

/-- A jerk may be taken with the target `d` ahead: the curvature stays within AMAX or comes down towards it at JMAX, the slope can still be held
within VMAX, and the channel can still stop before the target. -/
def profFits (l : ProfLim) (d v a j : Int) : Bool :=
  let m := profMove 0 v a j
  decide (m.2.2 ≤ max l.a (a - l.j)) && decide (profPeak l m.2.1 m.2.2 ≤ l.v) && decide (m.1 + profStop l m.2.1 m.2.2 ≤ d)

/-- The greatest jerk that fits, between `lo`, which is taken where none does, and `hi`, which does not fit. -/
def profBisect (l : ProfLim) (d v a : Int) : Nat → Int → Int → Int
  | 0, lo, _ => lo
  | n + 1, lo, hi =>
    let m := (lo + hi) / 2
    if profFits l d v a m then profBisect l d v a n m hi else profBisect l d v a n lo m

/-- The jerk of the time-optimal profile where the target is not short of the stopping distance: the greatest that fits, at least what brings
the curvature back to −AMAX. -/
def profJerkUp (l : ProfLim) (d v a : Int) : Int :=
  let j := if profFits l d v a l.j then l.j else if profFits l d v a (-l.j) then profBisect l d v a 48 (-l.j) l.j else -l.j
  max j (min l.j (-l.a - a))

/-- The jerk of the time-optimal profile (R189); a target inside the stopping distance is passed, and the motion is the mirror image (R190). -/
def profJerk (l : ProfLim) (d v a : Int) : Int := if profStop l v a ≤ d then profJerkUp l d v a else - profJerkUp l (-d) (-v) (-a)

/-- One tick lands on the target: what is left lies within one tick of jerk. -/
def profLands (l : ProfLim) (d v a : Int) : Bool :=
  let box := l.j + l.j / 2 ^ 20
  decide (Int.ofNat d.natAbs ≤ box) && decide (Int.ofNat v.natAbs ≤ box) && decide (Int.ofNat a.natAbs ≤ box)

/-- One tick, of `tick` CLK_FE cycles, of a channel at p, v, a towards a target under its limits (R187, R189, R190). -/
def profNext (x : Int × Int × Int) (target vmax amax jmax : Int) (tick : Nat) : Int × Int × Int :=
  let k : Int := Int.ofNat tick
  let c : Int := 400000000
  let l : ProfLim := { v := vmax * k / c, a := amax * k ^ 2 / c ^ 2, j := jmax * k ^ 3 / c ^ 3 }
  let v := x.2.1 * k / c
  let a := x.2.2 * k ^ 2 / c ^ 2
  let d := target - x.1
  if profLands l d v a then (target, 0, 0)
  else
    let m := profMove x.1 v a (profJerk l d v a)
    (m.1, m.2.1 * c / k, m.2.2 * c ^ 2 / k ^ 2)

end Sys2Proof.Machine
end

