-- ==== Sys2Proof/Machine/FeOps.lean ====
section
/-! DEFINITION. Shared operations of the field engines: registers, parameter memory, faults, missed ticks, gains, samples and the
command stage (09_field_engines.md). -/

namespace Sys2Proof.Machine

/-! ### Registers and memory of an engine -/

/-- Float register `k` (R166); a field of five bits. -/
def Engine.fr (e : Engine) (k : Nat) : F32 := Sparse.get (always 0) e.f (k % 32)

/-- Integer register `k`; i0 reads 0 (R166). -/
def Engine.ir (e : Engine) (k : Nat) : Word := if k = 0 then 0 else Sparse.get (always 0) e.i k

/-- One word folded into a signature register of feedback polynomial x⁶⁴ + x⁴ + x³ + x + 1 (R375); the way it shifts is DEDUCED, log 57. -/
def misr (g w : BitVec 64) : BitVec 64 := (g <<< 1) ^^^ (if g.msb then 0x1B else 0) ^^^ w

/-- A word with its tag in [63:56] is folded (R375). -/
def Engine.fold (e : Engine) (tag body : Nat) : Engine := { e with sig := misr e.sig (BitVec.ofNat 64 (tag * 2 ^ 56 + body)) }

/-- A retired write is folded: its tagged address, then its data (R375). -/
def Engine.foldWrite (e : Engine) (tag body data : Nat) : Engine := (e.fold tag body).fold 0 data

/-- Float register `k` written, and folded; the index a register has in the fold is not given (log 57). -/
def Engine.setF (e : Engine) (k : Nat) (v : F32) : Engine :=
  { e with f := Sparse.set (always 0) e.f (k % 32) v }.foldWrite 1 ((Config.freeWord 0x70 (k % 32)).toNat % 256) v.toNat

/-- Integer register `k` written, and folded; i0 ignores writes (R166). -/
def Engine.setI (e : Engine) (k : Nat) (v : Word) : Engine :=
  if k = 0 then e else { e with i := Sparse.set (always 0) e.i k v }.foldWrite 1 ((Config.freeWord 0x71 k).toNat % 256) v.toNat

/-- Word `p` of the active copy written. -/
def Engine.setWord (e : Engine) (p : Nat) (v : Word) : Engine := { e with act := Sparse.set (always 0) e.act p v }

/-- The tick of engine `n` in seconds: Ts is P / 400 MHz (R187). -/
def State.ts (s : State) (n : Nat) : F32 := fOfRatio (s.get (R.FE_TICK_PERIOD n)) 400000000

/-- The primary of a dual three-phase pairing that engine `n` is the secondary of (R232). -/
def State.primary (s : State) (n : Nat) : Option Nat :=
  if s.part = .elx9430 then none
  else if n = 1 && s.flag R.FE_PAIR_CFG_PAIR_01 then some 0
  else if n = 3 && s.flag R.FE_PAIR_CFG_PAIR_23 then some 2
  else none

/-- The secondary of engine `n` (R232). -/
def State.secondary (s : State) (n : Nat) : Option Nat :=
  if n % 2 = 0 then s.partner n else none

/-- The engine whose registers time engine `n`: the primary of its pairing, or itself (R232). -/
def State.timer (s : State) (n : Nat) : Nat := (s.primary n).getD n

/-- The tick of engine `n` in CLK_FE cycles. -/
def State.tickLen (s : State) (n : Nat) : Nat := s.get (R.FE_TICK_PERIOD (s.timer n))

/-- Engine `n` is running and in service (PAIR_STATUS). -/
def State.engineUp (s : State) (n : Nat) : Bool := s.flag (R.FE_STATUS_RUNNING n) && s.bitAt R.PAIR_STATUS_FE_IN_SERVICE n

/-! ### Missed ticks and loop faults -/

/-- A tick of engine `n` is not released (R176): counted; a second one in a row raises 0x0806. -/
def State.missTick (s : State) (n : Nat) : State :=
  let s1 := (s.satInc (R.FE_STATUS_MISSED n)).modEng n fun e => { e with missRun := e.missRun + 1 }
  if (s1.eng n).missRun = 2 then
    (s1.putB (R.FE_FAULT_MISSED2 n) true).raise 0x0806 (s1.missSeverity n) (0x80 + n)
  else s1

/-- The bit of FE_n_FAULT for a loop fault's code (R192). -/
def faultBit (code : Nat) : Nat :=
  match code with
  | 0x0802 => 0 | 0x0803 => 1 | 0x0804 => 2 | 0x0805 => 3 | 0x0809 => 4 | 0x080A => 8 | 0x080B => 9 | _ => 1

/-- A loop fault (R192): its FE_n_FAULT bit, the program counter and its record; the tick misses, once.
The spec gives no stop but the abort of R173, so the program goes on to its COMMIT, which does not release (log 27). -/
def State.loopFault (s : State) (n code : Nat) : State :=
  let b := faultBit code
  let e := s.eng n
  let s1 := ((s.putB ⟨R.FE_FAULT n, b, b⟩ true).put (R.FE_FAULT_PC n) (e.pc % 1024)).raise code 0 (0x80 + n)
  if e.faulted then s1 else (s1.modEng n fun e => { e with faulted := true }).missTick n

/-- The loop faults of R192. -/
def faultOverrun : Nat := 0x0802
def faultIllegal : Nat := 0x0803
def faultState : Nat := 0x0804
def faultNonfinite : Nat := 0x0805
def faultAbsent : Nat := 0x0809
def faultChannel : Nat := 0x080A
def faultDesc : Nat := 0x080B

/-! ### Issuing an instruction -/

/-- What an instruction does: a loop fault, or a new state, with a branch target where it branches. -/
inductive Isa
  | fault (code : Nat)
  | done (s : State)
  | jump (s : State) (target : Nat)

/-- Engine `n` can issue an instruction: it is in a tick and does not wait for a sample. -/
def State.canIssue (s : State) (n : Nat) : Bool := (s.eng n).inTick && (s.eng n).waiting.isNone

/-- The program counter of engine `n` moved. -/
def State.setPc (s : State) (n p : Nat) : State := s.modEng n fun e => { e with pc := p }

/-- A branch of engine `n` is taken, and its target folded (R375). -/
def State.branch (s : State) (n p : Nat) : State := s.modEng n fun e => { e with pc := p }.fold 6 p

/-- The number of a vendor program, which traction engines share, and its words (R195). -/
def Prog.image (p : Prog) : Option (Nat × Nat) :=
  match p with
  | .user => none
  | .modulated | .band => some (0, 580)
  | .converter => some (1, 260)
  | .charger => some (2, 610)
  | .actuator => some (3, 520)
  | .discovery => some (4, 700)

/-- Word `a` of the loop store as its window shows it (R194): the program that is loaded. -/
def Engine.loopWord (e : Engine) (a : Nat) : Word :=
  match e.prog.image with
  | some (p, n) => if a < n then Config.vendorWord p a else Sparse.get (always 0) e.loop a
  | none => Sparse.get (always 0) e.loop a

/-- The loop store with some words written over the program that is loaded; the program is the user's from then on. -/
def Engine.patch (e : Engine) (ws : List (Nat × Word)) : Engine :=
  let n := match e.prog.image with | some (_, k) => k | none => 0
  let base := (List.range n).foldl (fun m a => Sparse.set (always 0) m a (e.loopWord a)) e.loop
  { e with loop := ws.foldl (fun m w => Sparse.set (always 0) m w.1 w.2) base, prog := .user }

/-- The word of the loop store at the program counter of engine `n`; none past word 1,023, and none for a vendor program, whose words the
spec does not give (R178, R195; log 29). -/
def State.loopAt (s : State) (n : Nat) : Option Word :=
  let e := s.eng n
  if e.prog = .user && decide (e.pc < 1024) then some (Sparse.get (always 0) e.loop e.pc) else none

/-- The word at the program counter of engine `n` is the instruction with opcode `op` and these fields (R177). -/
def State.issues (s : State) (n op d a b x : Nat) : Bool :=
  match s.loopAt n with
  | some w => bitsOf w 31 26 = op && bitsOf w 25 21 = d && bitsOf w 20 16 = a && bitsOf w 15 11 = b && bitsOf w 10 0 = x
  | none => false

/-- An instruction at the program counter of engine `n` issues and retires (R178); elsewhere the row does not occur. -/
def isaRun (n : Nat) (here : Bool) (s : State) (body : Engine → Isa) : Out :=
  let e := s.eng n
  if !s.canIssue n || !here then .next s
  else
    match body e with
    | .fault c => .next ((s.loopFault n c).setPc n (e.pc + 1))
    | .done t => .next (t.setPc n (e.pc + 1))
    | .jump t p => .next (t.branch n p)

/-- The instruction with opcode `op` and these fields. -/
def isaStep (n op d a b x : Nat) (s : State) (body : Engine → Isa) : Out := isaRun n (s.issues n op d a b x) s body

/-- FPE sets when a float result is a NaN or infinite (R167). -/
def State.noteFloat (s : State) (n : Nat) (v : F32) : State := if fFinite v then s else s.putB (R.FE_FAULT_FPE n) true

/-- A float result enters register `d` of engine `n`. -/
def State.floatOut (s : State) (n d : Nat) (v : F32) : State := (s.noteFloat n v).modEng n fun e => e.setF d v

/-- Float results enter consecutive registers from `d`. -/
def State.floatsOut (s : State) (n d : Nat) : List F32 → State
  | [] => s
  | v :: t => (s.floatOut n d v).floatsOut n (d + 1) t

/-- An integer result enters register `d`; a register field of 16 or more is illegal (R177). -/
def State.intOut (s : State) (n d : Nat) (v : Word) : Isa :=
  if 16 ≤ d then .fault faultIllegal else .done (s.modEng n fun e => e.setI d v)

/-- An instruction of one float result. -/
def floatOp (n op d a b x : Nat) (s : State) (f : Engine → F32) : Out := isaStep n op d a b x s fun e => .done (s.floatOut n d (f e))

/-- An instruction of consecutive float results, illegal where a register would be above f31 (R178): `top` is the highest one it names. -/
def floatsOp (n op d a b x top : Nat) (s : State) (f : Engine → List F32) : Out :=
  isaStep n op d a b x s fun e => if 31 < top then .fault faultIllegal else .done (s.floatsOut n d (f e))

/-- An instruction on the integer registers `a` and `rb`; a field of 16 or more is illegal (R177). -/
def intOp (n op d a b x rb : Nat) (s : State) (f : Word → Word → Word) : Out :=
  isaStep n op d a b x s fun e => if 16 ≤ a || 16 ≤ rb then .fault faultIllegal else s.intOut n d (f (e.ir a) (e.ir rb))

/-! ### Gain scheduling -/

/-- Word `j` of the record of the engine's present region, in the active copy (R184). -/
def Engine.regionWord (e : Engine) (j : Nat) : F32 := e.word (16 * e.region + j)

/-- The blended gain word `j` (R186). -/
def Engine.gain (e : Engine) (j : Nat) : F32 :=
  let gb := e.regionWord j
  if e.blendLen = 0 ∨ e.blendLen ≤ e.blendJ then gb
  else
    let gs := Sparse.get (always 0) e.blendFrom j
    fAdd gs (fMul (fSub gb gs) (fOfRatio e.blendJ e.blendLen))

/-- The blended words in force, by index. -/
def Engine.gains (e : Engine) : Sparse Word :=
  (List.range 16).foldl (fun m j => Sparse.set (always 0) m j (e.gain j)) []

/-- The blend moves to region `r` (R186); with BLEND = 0 the gains switch at once. -/
def Engine.startBlend (e : Engine) (r len : Nat) : Engine :=
  if len = 0 then { e with region := r, blendFrom := [], blendJ := 0, blendLen := 0 }
  else { e with region := r, blendFrom := e.gains, blendJ := 1, blendLen := len }

/-- The blend advances at a strobe (R172, R186); after its last tick it is over. -/
def Engine.blendStep (e : Engine) : Engine :=
  if e.blendLen = 0 then e
  else if e.blendLen ≤ e.blendJ then { e with blendFrom := [], blendJ := 0, blendLen := 0 }
  else { e with blendJ := e.blendJ + 1 }

/-- The region configuration is valid (R183): each gap exceeds twice the hysteresis, which is not negative. -/
def Engine.regionOk (e : Engine) : Bool :=
  let ok (b : Nat) : Bool :=
    let h := e.word (b + 3)
    fLe (fZero false) h && fLt (fMul fTwo h) (fSub (e.word (b + 1)) (e.word b)) && fLt (fMul fTwo h) (fSub (e.word (b + 2)) (e.word (b + 1)))
  ok 320 && ok 324

/-- The column of a variable by comparison alone (R185). -/
def Engine.placeCol (e : Engine) (b : Nat) (v : F32) : Nat :=
  bit (fLt (e.word b) v) + bit (fLt (e.word (b + 1)) v) + bit (fLt (e.word (b + 2)) v)

/-- One rise of the column index past its next breakpoint, and one fall (R185). -/
def Engine.colUp (e : Engine) (b i : Nat) (v : F32) : Nat :=
  if i < 3 && fLt (fAdd (e.word (b + i)) (e.word (b + 3))) v then i + 1 else i
def Engine.colDown (e : Engine) (b i : Nat) (v : F32) : Nat :=
  if 0 < i && fLt v (fSub (e.word (b + i - 1)) (e.word (b + 3))) then i - 1 else i

/-- The column of a variable with hysteresis, from column `i` (R185). -/
def Engine.moveCol (e : Engine) (b i : Nat) (v : F32) : Nat :=
  let u := e.colUp b (e.colUp b (e.colUp b i v) v) v
  e.colDown b (e.colDown b (e.colDown b u v) v) v

/-- REGION_n fields of FE_n_STATUS follow the engine. -/
def State.showRegion (s : State) (n : Nat) : State :=
  let e := s.eng n
  (s.put (R.FE_STATUS_REGION n) e.region).put (R.FE_STATUS_BLEND_LEFT n) (e.blendLen - e.blendJ)

/-- A region lookup of engine `n` with x and y (R185): the state after, and the integer result. -/
def State.regionLookup (s : State) (n : Nat) (x y : F32) : State × Word :=
  let e := s.eng n
  if !e.regionOk then
    let s1 := s.putB (R.FE_FAULT_RGN_CFG n) true
    let s2 := if e.badRgnTold then s1 else (s1.modEng n fun e => { e with badRgnTold := true }).raise 0x0807 0 (0x80 + n)
    (s2, w32 (e.region + bit (decide (0 < e.blendLen)) * 16))
  else
    let e1 :=
      if !e.placed then { e with placed := true, region := 4 * e.placeCol 324 y + e.placeCol 320 x }
      else
        let r := 4 * e.moveCol 324 (e.region / 4) y + e.moveCol 320 (e.region % 4) x
        if r = e.region then e else e.startBlend r (s.get (R.FE_CTRL_BLEND n))
    ((s.setEng n e1).showRegion n, w32 (e1.region + bit (decide (0 < e1.blendLen)) * 16))

/-! ### The PI step -/

/-- A PI descriptor is valid (R187). -/
def Engine.piOk (e : Engine) (k : Nat) : Bool :=
  let d := 256 + 8 * k
  !fIsNaN (e.word d) && !fIsNaN (e.word (d + 1)) && !fIsNaN (e.word (d + 2)) && !fIsNaN (e.word (d + 3)) &&
  fLe (e.word d) (e.word (d + 1)) && fLe (e.word (d + 2)) (e.word (d + 3)) && decide ((e.word (d + 4)).toNat ≤ 14)

/-- The PI step of R187 on instance `k`: error `x`, integrator `i`; the engine with KP_LAST, the new integrator and the output. -/
def Engine.piStep (e : Engine) (k : Nat) (ts x i : F32) : Engine × F32 × F32 :=
  let d := 256 + 8 * k
  let gi := (e.word (d + 4)).toNat
  let kp := e.gain gi
  let ki := e.gain (gi + 1)
  let last := (Sparse.get (always none) e.kpLast k).getD kp
  let e1 := { e with kpLast := Sparse.set (always none) e.kpLast k (some kp) }
  if !fFinite x then (e1, i, fNaN 36 x i)
  else
    let i1 := fAdd i (fMul (fSub last kp) x)
    let i2 := fAdd i1 (fMul (fMul ki ts) x)
    let i3 := fClamp i2 (e.word d) (e.word (d + 1))
    (e1, i3, fClamp (fAdd (fMul kp x) i3) (e.word (d + 2)) (e.word (d + 3)))

/-! ### Profiles -/

/-- A profile limit is finite and positive (R189). -/
def limOk (v : F32) : Bool := fFinite v && fLt (fZero false) v

/-- The state of profile channel `c`: p, v, a. -/
def Engine.profState (e : Engine) (c : Nat) : Int × Int × Int :=
  (Sparse.get (always 0) e.prof (3 * c), Sparse.get (always 0) e.prof (3 * c + 1), Sparse.get (always 0) e.prof (3 * c + 2))

/-- Profile channel `c` takes p, v and a. -/
def Engine.setProf (e : Engine) (c : Nat) (x : Int × Int × Int) : Engine :=
  { e with prof := Sparse.set (always 0) (Sparse.set (always 0) (Sparse.set (always 0) e.prof (3 * c) x.1) (3 * c + 1) x.2.1) (3 * c + 2) x.2.2 }

/-- One Ts, of `tick` cycles, of profile channel `c` towards `target` under limits (R189, R190). -/
def Engine.profWith (e : Engine) (c : Nat) (vmax amax jmax target : F32) (tick : Nat) : Engine :=
  e.setProf c (profNext (e.profState c) (fxOf target) (fxOf vmax) (fxOf amax) (fxOf jmax) tick)

/-- One Ts of profile channel `c` towards `target` under its limits, words 328 + 4c to 330 + 4c (R189, R190). -/
def Engine.profStep (e : Engine) (c : Nat) (target : F32) (tick : Nat) : Engine :=
  e.profWith c (e.word (328 + 4 * c)) (e.word (329 + 4 * c)) (e.word (330 + 4 * c)) target tick

/-- A profile channel seeded (R189). -/
def Engine.profSeed (e : Engine) (c : Nat) (p : F32) : Engine := e.setProf c (fxOf p, 0, 0)

/-- The values of a profile channel as floats: p, v, a. -/
def Engine.profOut (e : Engine) (c : Nat) : List F32 :=
  [fxTo (e.profState c).1, fxTo (e.profState c).2.1, fxTo (e.profState c).2.2]

/-! ### Plausibility -/

/-- One execution of check `k` with value, threshold and count N (R191): the state after, and what ib takes. -/
def State.plausCheck (s : State) (n k : Nat) (v thr : F32) (cnt : Nat) : State × Nat :=
  let e := s.eng n
  let c := Sparse.get (always 0) e.plausCount k
  let above := !fLe (fAbs v) thr
  if e.plausDone.contains k then (s, if !s.bitAt (R.FE_PLAUS_STAT_ABOVE n) k then 0 else if cnt ≤ c then 2 else 1)
  else if above then
    let c1 := min 255 (c + 1)
    let hit := decide (cnt ≤ c1)
    let tell := hit && !Sparse.get (always false) e.plausTold k
    let e1 := { e with plausCount := Sparse.set (always 0) e.plausCount k c1, plausDone := e.plausDone ++ [k]
                       plausTold := if tell then Sparse.set (always false) e.plausTold k true else e.plausTold
                       plausRaised := if tell then e.plausRaised ++ [k] else e.plausRaised }
    let s1 := (s.setEng n e1).putBit (R.FE_PLAUS_STAT_ABOVE n) k true
    (if hit then s1.putBit (R.FE_PLAUS_STAT_TRIPPED n) k true else s1, if hit then 2 else 1)
  else
    let e1 := { e with plausCount := Sparse.set (always 0) e.plausCount k 0, plausDone := e.plausDone ++ [k]
                       plausTold := Sparse.set (always false) e.plausTold k false }
    (((s.setEng n e1).putBit (R.FE_PLAUS_STAT_ABOVE n) k false).putBit (R.FE_PLAUS_STAT_TRIPPED n) k false, 0)

/-! ### Command stage, events and samples -/

/-- A command of the stage; a later one of the same half-bridge and kind replaces the earlier (R181). The stage has 64 entries (R166); what
becomes of a 65th command the spec does not say: it finds no entry (DESIGN CHOICE, log 66). -/
def Engine.stageCmd (e : Engine) (hb kind : Nat) (v : F32) : Engine :=
  let rest := e.stage.filter fun c => !(c.hb = hb && c.kind = kind)
  if 64 ≤ rest.length then e else { e with stage := rest ++ [{ hb := hb, kind := kind, val := v }] }

/-- A store to the stage (R181): a half-bridge not assigned to the engine, and a non-finite value, are loop faults. -/
def State.stageStore (s : State) (n hb kind : Nat) (v : F32) : Isa :=
  if s.chanEngine hb ≠ some n ∨ nChan s.part ≤ hb then .fault faultChannel
  else if !fFinite v then .fault faultNonfinite
  else
    let w := if kind = 0 then fClamp v (fZero false) fOne else v
    let code := if kind = 2 then (Config.freeWord 0x72 0).toNat % 4 else kind
    .done (s.modEng n fun e => (e.stageCmd hb kind w).foldWrite 4 (256 * code + hb) w.toNat)

/-- An EVT (R182): queued for release; a fifth and later one in a tick is dropped and counted. -/
def State.queueEvt (s : State) (n x : Nat) (fa fb : F32) : State :=
  let t := s.modEng n fun e => e.foldWrite 5 x (fa.toNat * 2 ^ 32 + fb.toNat)
  if (s.eng n).evts.length < 4 then t.modEng n fun e => { e with evts := e.evts ++ [{ x := x, fa := fa, fb := fb }] }
  else t.satInc (R.FE_STATUS_EVT_DROP n)

/-- A new value of an SLD source reaches every engine (R179). -/
def State.pushSample (s : State) (src : Nat) (v : Word) (flags : Nat) : State :=
  s.each s.engines fun t n =>
    t.modEng n fun e => { e with samples := Sparse.set (always 0) e.samples src v
                                 sampleFlags := Sparse.set (always 0) e.sampleFlags src flags
                                 fresh := Sparse.set (always false) e.fresh src true }

/-- Sources that SLD cannot load (R179): reserved ones, and on the ELX-9430 the absent converters, channels and half-bridges. -/
def sldAbsent (p : Part) (src : Nat) : Bool :=
  decide (0xB1 < src) || src = 0x7F || (decide (src < 0x10) && decide (nFast p ≤ src)) ||
  (decide (0x10 ≤ src) && decide (src < 0x70) && !acqPresent p (src - 0x10)) ||
  (decide (0x80 + nChan p ≤ src) && decide (src < 0xB0))

/-- The source has a new value for this tick (R179); position interfaces, which report STALE themselves, and the engine's own sources always have. -/
def Engine.hasSample (e : Engine) (src : Nat) : Bool :=
  decide (0x70 ≤ src) || Sparse.get (always false) e.tickFresh src || Sparse.get (always false) e.fresh src

/-- A value that arrived since the strobe has been loaded: it belongs to this tick and is not new at the next one (R179). -/
def Engine.took (e : Engine) (src : Nat) : Engine :=
  if Sparse.get (always false) e.fresh src then
    { e with fresh := Sparse.set (always false) e.fresh src false, tickFresh := Sparse.set (always false) e.tickFresh src true }
  else e

/-- SLD takes the sample of a source with its flags, STALE where it has no new value (R179). -/
def State.loadSample (s : State) (n d b src : Nat) : State :=
  let e := s.eng n
  let v := Sparse.get (always 0) e.samples src
  let fl := Sparse.get (always 0) e.sampleFlags src ||| (if e.hasSample src then 0 else 4)
  let s1 := if 0xB0 ≤ src then s else s.noteFloat n v
  s1.modEng n fun e => ((e.setF d v).setI b (e.ir b ||| w32 fl)).took src

/-- A sample that an SLD waits for has arrived: the SLD retires (R179). -/
def State.wakeSld (s : State) (n : Nat) : State :=
  let e := s.eng n
  match e.waiting with
  | some (d, b, src) =>
    if Sparse.get (always false) e.fresh src then
      (s.loadSample n d b src).modEng n fun e => { e with waiting := none, pc := e.pc + 1 }
    else s
  | none => s

end Sys2Proof.Machine
end

