-- ==== Sys2Proof/Machine/TallyConn.lean ====
section
/-! DEFINITION. Tally connections: their registers' view, and how they open and close (R411, R412, R420, R422, 21_tally.md).
States of R420: 0 CLOSED, 1 WAIT, 2 RUN, 3 SAFE, 4 RESTART. -/

namespace Sys2Proof.Machine

def tallyClosed : Nat := 0
def tallyWait : Nat := 1
def tallyRun : Nat := 2
def tallySafe : Nat := 3
def tallyRestart : Nat := 4

/-- The connections of R411. -/
def tallyConns : List Nat := List.range 32

/-- Connection `c` as pair `k` judges it. -/
def State.rx (s : State) (k c : Nat) : TallyRx := Sparse.get (always TallyRx.init) s.tally.rx (32 * k + c)
def State.setRx (s : State) (k c : Nat) (r : TallyRx) : State :=
  { s with tally.rx := Sparse.set (always TallyRx.init) s.tally.rx (32 * k + c) r }

/-- The transmitting side of connection `c`. -/
def State.tx (s : State) (c : Nat) : TallyTx := Sparse.get (always TallyTx.init) s.tally.tx c
def State.setTx (s : State) (c : Nat) (t : TallyTx) : State := { s with tally.tx := Sparse.set (always TallyTx.init) s.tally.tx c t }

/-- Connection `c` transmits (DIR = 1). -/
def State.transmits (s : State) (c : Nat) : Bool := s.flag (R.TALLY_CONN_CFG_DIR c)

/-- The pair whose judgement the registers show (R412): A while it is in service and paired. -/
def State.tallyPair (s : State) : Nat := if s.inService 0 then 0 else 1

/-- The registers of connection `c` show the judgement of R412. -/
def State.tallyShow (s : State) (c : Nat) : State :=
  let r := s.rx s.tallyPair c
  let sq := if s.transmits c then (s.tx c).seq else r.seq
  ((s.wr (R.TALLY_CONN_STAT c) (w32 (r.st * 2 ^ 28 + r.cause * 2 ^ 24 + r.fails * 2 ^ 16 + sq))).wr (R.TALLY_CONN_LOST c)
    (w32 (r.ignored * 65536 + r.lost))).putBit R.TALLY_STATUS_SIGNAL c (r.st ≠ tallyRun)

/-- Every connection's registers are renewed: another pair's judgement is shown. -/
def State.tallyShowAll (s : State) : State := s.each tallyConns State.tallyShow

/-- The judgement of pair `k` on connection `c` changes; the shown pair's change of state raises TALLY_STATE (R426). -/
def State.tallySet (s : State) (k c : Nat) (r : TallyRx) : State :=
  let old := (s.rx k c).st
  let s1 := (s.setRx k c r).tallyShow c
  let s2 := if old = tallyWait ∧ tallyRun ≤ r.st then { s1 with net.leftWait := true } else s1
  if old ≠ r.st ∧ k = s.tallyPair then s2.event 0x6031 0x12 (w32 c) (w32 old) (w32 r.st) (w32 r.cause) else s2

/-- Connection `c` opens in both pairs: a receiver at WAIT, a transmitter at RUN with SEQ 0 next, due at the next scan (R420, R424; that
its first PDU does not wait a PERIOD, and that a reopening starts SEQ afresh like EN, is a DESIGN CHOICE, log 70). -/
def State.tallyOpen (s : State) (c : Nat) : State :=
  let st := if s.transmits c then tallyRun else tallyWait
  let s1 := if s.transmits c then s.setTx c { s.tx c with seq := 0, due := s.atime } else s
  s1.each [0, 1] fun t k => if (t.rx k c).st = tallyClosed then t.tallySet k c { t.rx k c with st := st, seq := 0, run := 0, data := [] } else t

/-- Connection `c` closes in both pairs. -/
def State.tallyClose (s : State) (c : Nat) : State :=
  s.each [0, 1] fun t k => if (t.rx k c).st = tallyClosed then t else t.tallySet k c { t.rx k c with st := tallyClosed, data := [] }

/-- Connection `c` follows EN. -/
def State.tallyFollow (s : State) (c : Nat) : State := if s.flag (R.TALLY_CONN_CFG_EN c) then s.tallyOpen c else s.tallyClose c

/-- The parameter set has changed in COMMISSION: every connection returns to CLOSED and reopens with the new settings (R422). -/
def State.tallyReopen (s : State) : State :=
  if s.md = .commission then s.each tallyConns fun t c => (t.tallyClose c).tallyFollow c else s

end Sys2Proof.Machine
end

