-- ==== Sys2Proof/Machine/RegOps.lean ====
section
/-! DEFINITION. Rights, types and the field-by-field application of a register write (R6, R462-R465, 24_register_map.md). -/

namespace Sys2Proof

/-- The master number of a writer (R85); the other writers are no masters. -/
def Writer.master : Writer → Option Nat
  | .hostA => some 0
  | .hostB => some 1
  | .steward => some 2
  | _ => none

/-- A Warden pair, or a core of a split Warden A. -/
def Writer.isWarden : Writer → Bool
  | .wardenA | .wardenB | .coreA0 | .coreA1 => true
  | _ => false

/-- A core of a split Warden A. -/
def Writer.splitCore (w : Writer) : Bool := w = .coreA0 || w = .coreA1

/-- Writers whose writes change the stored parameter set in COMMISSION (R439). -/
def Writer.stores (w : Writer) : Bool := w = .hostA || w = .hostB || w = .steward || w = .service

end Sys2Proof

namespace Sys2Proof.Machine

/-- The owning master (OWN_STATUS). -/
def State.owner (s : State) : Nat := s.get R.OWN_STATUS_OWNER

/-- The writer is the owner. -/
def State.isOwner (s : State) (w : Writer) : Bool := w.master = some s.owner

/-- The general right of R464 to write a block, before types and chapter conditions; the service path follows R128. -/
def State.mayWrite (s : State) (w : Writer) (block : Nat) : Bool :=
  match w with
  | .wardenA | .wardenB | .coreA0 | .coreA1 => true
  | .steward => true
  | .hostA | .hostB => s.isOwner w
  | .service => (s.md = .commission || s.md = .service) && block ≠ 0x02 && block ≠ 0x03 && block ≠ 0x04
  | .tap => block = 0x16

/-- Core `j` of split Warden A runs. -/
def State.coreRuns (s : State) (j : Nat) : Bool := decide (j < 2) && s.pairSt 0 = 3 && !Sparse.get (always false) s.pair.coreHalted j

/-- A write that reaches the block: a Warden pair must be in service, or the writer a running core of a split Warden A. -/
def State.writerLive (s : State) (w : Writer) : Bool :=
  match w with
  | .wardenA => s.inService 0
  | .wardenB => s.inService 1
  | .coreA0 => s.coreRuns 0
  | .coreA1 => s.coreRuns 1
  | _ => true

/-- A write through a window that has a row of its own, to a register of `block`: the part must run and the writer reach it, and a service
write that R128 refuses has no effect and is counted. -/
def State.windowWrite (s : State) (w : Writer) (block : Nat) (f : State → Out) : Out :=
  if !s.running || !s.writerLive w then .next s
  else if w = .service && !s.mayWrite w block then .next (s.satInc R.OWN_SVC_STAT_REFUSED)
  else f s

/-- What a write of `v` makes of one field, by its type (R6); fields of other types keep their value. -/
def fieldValue (ty : FType) (old new : Nat) : Nat :=
  match ty with
  | .rw => new
  | .rws => new
  | .w1c => old - (old &&& new)
  | .w1s => old ||| new
  | _ => old

/-- One field of the register at `a` takes its part of a write. -/
def State.writeField (s : State) (a : Nat) (v : Word) (fd : FieldDef) : State :=
  let F : Fld := ⟨a, fd.hi, fd.lo⟩
  s.put F (fieldValue fd.ty (s.get F) (bitsOf v fd.hi fd.lo))

/-- RWS fields accept a write in COMMISSION only (R6); the other types leave the mode aside. -/
def State.typeOk (s : State) (fd : FieldDef) : Bool := fd.ty ≠ .rws || s.md = .commission

/-- The parameter set has changed: CHANGED sets and CONFIRMED clears (R439); the Tally connections reopen (R422). -/
def State.setChanged (s : State) : State :=
  ((s.putB R.LEDGER_COMM_STATUS_CHANGED true).putB R.LEDGER_COMM_STATUS_CONFIRMED false).tallyReopen

/-- A 0x60xx command needs a sector of the MRAM code partition that has taken its 10⁶ writes, and the runtime refuses it (R165).
Which sectors hold which object the spec leaves open (log 58). -/
def State.mramWorn (s : State) (opcode : Nat) : Bool :=
  s.store.sectorWrites.any fun w => decide (1000000 ≤ w.2) && (Config.freeWord 0x77 (65536 * w.1 + opcode)).toNat % 2 = 1

/-- A write applied field by field: each field of the register that `ok` and its type pass takes its new value (R464). -/
def State.applyWrite (s : State) (a : Nat) (v : Word) (fields : List FieldDef) (ok : FieldDef → Bool) : State :=
  (fields.filter fun fd => ok fd && s.typeOk fd).foldl (fun t fd => t.writeField a v fd) s

/-- The fields of the register at `a`, on this part; none where the address names no present register (R3, R462). -/
def State.fieldsAt (s : State) (a : Nat) : List FieldDef :=
  match findReg a with
  | some (f, i) => if regPresent s.part f i then f.fields else []
  | none => []

/-- After a write by `w` the stored set takes the register's present word, where the write changed one of its RWS fields: in COMMISSION,
from the owner, the Steward cluster or the service path (R439, R464). `before` is the state before the write. -/
def State.keepReg (s before : State) (w : Writer) (a : Nat) : State :=
  let moved (fd : FieldDef) : Bool := fd.ty = .rws && decide (before.get ⟨a, fd.hi, fd.lo⟩ ≠ s.get ⟨a, fd.hi, fd.lo⟩)
  if w.stores && before.md = .commission && (before.fieldsAt a).any moved then
    State.setChanged { s with led.stored.regs := Sparse.set (resetValue s.part) s.led.stored.regs a (s.rd a), led.present := true }
  else s

/-- The field of a write, by its top bit. -/
def FieldDef.is (fd : FieldDef) (F : Fld) : Bool := fd.hi = F.hi && fd.lo = F.lo

/-- The value a write of `v` carries for a field. -/
def FieldDef.val (fd : FieldDef) (v : Word) : Nat := bitsOf v fd.hi fd.lo

end Sys2Proof.Machine
end

