-- ==== Sys2Proof/Machine/Checked.lean ====
section
/-! DEFINITION. Checked access to stored words: bank power, the error registers and records, and the words and stalls that hardware reads
(07_store_gallery.md, 08_stored_data_integrity.md). Word offsets are O of R131. -/

namespace Sys2Proof.Machine

/-- Bank of an SRAM offset, and its row (R131, R158). -/
def bankOf (o : Nat) : Nat := o / 8 % 32
def rowOf (o : Nat) : Nat := o / 2 ^ 14 % 512

/-- STATE of a bank: 0 ON, 1 RET, 2 OFF, 3 waking. -/
def State.bankState (s : State) (b : Nat) : Nat := s.get (R.STORE_BANK_STATE_STATE (b / 16) (b % 16))
def State.setBankState (s : State) (b v : Nat) : State := s.put (R.STORE_BANK_STATE_STATE (b / 16) (b % 16)) v

/-- An access wakes a bank from retention (R139). -/
def State.wakeBank (s : State) (b : Nat) : State := if s.bankState b = 1 then s.setBankState b 0 else s

/-- An access to `n` bytes of SRAM from address `a` wakes the banks of its words (R131, R139). -/
def State.wakeFor (s : State) (a n : Nat) : State :=
  if n = 0 || !inSram a then s
  else s.each (List.range (min 32 ((a % 8 + n + 7) / 8))) fun t k => t.wakeBank (bankOf (a - sramBase + 8 * k))

/-- The severity of an uncorrectable error found at offset `o` (R151); a field engine's read counts as a divergence of the pair. -/
def State.ueSeverity (s : State) (o : Nat) (engine : Option Nat) : Nat :=
  if o < 0x400000 then 2
  else if o < 0x600000 then (match engine with | some n => s.missSeverity n | none => 2)
  else 0

/-- The error registers take the last corrected or uncorrectable word. -/
def State.errInfo (s : State) (o cls syn src : Nat) : State :=
  (s.put R.STORE_ERR_ADDR_OFFSET o).wr R.STORE_ERR_INFO (w32 (syn % 256 * 256 + cls % 16 * 16 + src % 16))

/-- A correction: counted, CE set (R149, STORE_ECC_STATUS). -/
def State.corrected (s : State) (o cls syn src : Nat) : State :=
  ((s.satInc R.STORE_ECC_STATUS_CORRECTED).putB R.STORE_ECC_STATUS_CE true).errInfo o cls syn src

/-- The record of R151 for an uncorrectable word. -/
def State.ueRecord (s : State) (o cls syn src : Nat) (engine : Option Nat) : State :=
  let s1 := (s.putB R.STORE_ECC_STATUS_UE true).errInfo o cls syn src
  s1.raise (if cls = 4 then 0x0606 else 0x0605) (s.ueSeverity o engine) 0x06 (w32 o) (w32 (cls % 16 * 16 + syn % 256 * 256))

/-- A word joins the priority queue, unless it is there already or the queue is full (R156). -/
def State.queueWord (s : State) (o : Nat) : State :=
  let w := o - o % 8
  if s.store.prio.contains w then s
  else if s.store.prio.length < 16 then { s with store.prio := s.store.prio ++ [w] }
  else s.satInc R.STORE_ECC_STATUS_QUEUE_DROP

/-- A checked read of the word at offset `o`, with address bits `addr` wrong (R149-R151, R156): the state after, and whether the word can be
used. An engine whose read fails does not release the tick (R151). -/
def State.checkWord (s : State) (o addr src : Nat) (engine : Option Nat) : State × Bool :=
  let c := s.classAt o addr
  let syn := s.synAt o addr
  if c = 0 then (s, true)
  else if c ≤ 2 then ((s.corrected o c syn src).queueWord o, true)
  else
    let s1 := (s.satInc R.STORE_ECC_STATUS_UNCORRECTED).ueRecord o c syn src engine
    (match engine with | some n => s1.modEng n fun e => { e with dataErr := true } | none => s1, false)

/-- `n` bytes at address `a` within one word, as a check gives them. -/
def State.checkedNat (s : State) (a n : Nat) : Nat :=
  if s.flipsAt (a - sramBase) = 0 then s.readNat a n else s.checkedWord (a - sramBase) / 2 ^ (8 * (a % 8)) % 2 ^ (8 * n)

/-- Hardware reads `n` words of SRAM from the aligned address `a` through port H: the state after, and the bytes, or none where a word is
uncorrectable. -/
def State.readWords (s : State) (a : Nat) : Nat → State × Option (List Byte)
  | 0 => (s, some [])
  | n + 1 =>
    match s.checkWord (a - sramBase) 0 0 none with
    | (t, false) => (t, none)
    | (t, true) =>
      match t.readWords (a + 8) n with
      | (u, some bs) => (u, some (leBytes 8 (t.checkedNat a 8) ++ bs))
      | (u, none) => (u, none)

end Sys2Proof.Machine
end

