-- ==== Sys2Proof/Machine/Market.lean ====
section
/-! DEFINITION. The Market: stalls, quotas, requests and releases (R18-R21, 01_halls_galleries_stair.md; R141-R146, 07_store_gallery.md). -/

namespace Sys2Proof.Machine

/-- The channels of R142 that the part has. -/
def State.channels (s : State) : List Nat := (List.range 64).filter (mktPresent s.part)

def State.held (s : State) (ch : Nat) : Nat := s.get (R.MKT_CH_STAT_HELD ch)
def State.minOf (s : State) (ch : Nat) : Nat := s.get (R.MKT_CH_QUOTA_MIN ch)
def State.ceilOf (s : State) (ch : Nat) : Nat := s.get (R.MKT_CH_QUOTA_CEIL ch)

/-- The sum over all channels of max(HELD, MIN) (R145). -/
def State.reserved (s : State) : Nat := s.channels.foldl (fun n ch => n + max (s.held ch) (s.minOf ch)) 0

/-- The stalls held by all channels. -/
def State.heldSum (s : State) : Nat := s.channels.foldl (fun n ch => n + s.held ch) 0

/-- FREE and SHARED_FREE renewed (MKT_STATUS). -/
def State.mktStatus (s : State) : State :=
  (s.put R.MKT_STATUS_FREE (4096 - s.heldSum)).put R.MKT_STATUS_SHARED_FREE (4096 - s.reserved)

/-- The stall handed out next: free stalls go in the order they were released (R144). -/
def State.nextStall (s : State) : Option Nat :=
  if s.mkt.fresh < 4096 then some s.mkt.fresh else s.mkt.freed.head?

/-- A request of channel `ch` is refused as the pool stands (R20). -/
def State.refused (s : State) (ch : Nat) : Bool :=
  decide (s.ceilOf ch ≤ s.held ch) || (decide (s.minOf ch ≤ s.held ch) && s.get R.MKT_STATUS_SHARED_FREE == 0)

/-- Channel `ch` asks for a stall (R20, R144): the state after, and the stall granted, or none. -/
def State.takeStall (s0 : State) (ch : Nat) : State × Option Nat :=
  let s := { s0 with mkt.lastCh := ch }
  if s.refused ch then (s.satInc (R.MKT_CH_STAT_REFUSED ch), none)
  else
    match s.nextStall with
    | none => (s.satInc (R.MKT_CH_STAT_REFUSED ch), none)
    | some n =>
      let s1 := { s with
        mkt.fresh := if s.mkt.fresh < 4096 then s.mkt.fresh + 1 else s.mkt.fresh
        mkt.freed := if s.mkt.fresh < 4096 then s.mkt.freed else s.mkt.freed.tail
        mkt.owner := Sparse.set (always none) s.mkt.owner n (some ch)
        mkt.lens := Sparse.set (always 0) s.mkt.lens n 0 }
      ((s1.put (R.MKT_CH_STAT_HELD ch) (s.held ch + 1)).mktStatus, some n)

/-- Channel `ch` releases a stall: back to the end of the free list; a stall it does not hold is an invalid release (R144). -/
def State.freeStall (s : State) (ch n : Nat) : State :=
  if Sparse.get (always none) s.mkt.owner n = some ch then
    let s1 := { s with
      mkt.freed := s.mkt.freed ++ [n]
      mkt.owner := Sparse.set (always none) s.mkt.owner n none
      mkt.lens := Sparse.set (always 0) s.mkt.lens n 0 }
    (s1.put (R.MKT_CH_STAT_HELD ch) (s.held ch - 1)).mktStatus
  else (s.putB R.MKT_STATUS_RELEASE_ERR true).raise 0x0502 0 0x05 (w32 n) (w32 ch)

/-- The address of stall `n` (R141). -/
def stallBase (n : Nat) : Nat := 0x20600000 + 512 * n

/-- Bytes written at the start of stall `n`, with its valid length; the rest of the stall keeps what it held (R21). -/
def State.fillStall (s : State) (n : Nat) (bs : List Byte) : State :=
  { (s.wakeFor (stallBase n) (min bs.length 512)).writeBytes (stallBase n) (bs.take 512) with mkt.lens := Sparse.set (always 0) s.mkt.lens n (min bs.length 512) }

/-- A consumer reads the `len` valid bytes of stall `n` (R21, R151): none where one of its words is uncorrectable. -/
def State.readStall (s : State) (n len : Nat) : State × Option (List Byte) :=
  match (s.wakeFor (stallBase n) len).readWords (stallBase n) ((len + 7) / 8) with
  | (t, some bs) => (t, some (bs.take len))
  | (t, none) => (t, none)

/-- The stalls of handles, read one after the other; none where one of them fails (R143, R151). -/
def State.readHandles (s : State) : List (Bool × Nat × Nat) → State × Option (List Byte)
  | [] => (s, some [])
  | h :: t =>
    match s.readStall h.2.2 h.2.1 with
    | (u, none) => (u, none)
    | (u, some bs) =>
      match u.readHandles t with
      | (v, some cs) => (v, some (bs ++ cs))
      | (v, none) => (v, none)

/-- A handle enters the queue of channel `ch` (R143). -/
def State.pushHandle (s : State) (ch : Nat) (more : Bool) (len n : Nat) : State :=
  { s with mkt.queues := Sparse.set (always []) s.mkt.queues ch (Sparse.get (always []) s.mkt.queues ch ++ [(more, len, n)]) }

/-- The chunks of 512 bytes of a frame. -/
def chunks : Nat → List Byte → List (List Byte)
  | 0, _ => []
  | k + 1, bs => bs.take 512 :: chunks k (bs.drop 512)

/-- Stalls for each chunk, all or none: the state after, and the stalls (a refusal gives back what was granted). -/
def State.takeStalls (s : State) (ch : Nat) : Nat → List Nat → State × Option (List Nat)
  | 0, got => (s, some got)
  | k + 1, got =>
    match s.takeStall ch with
    | (t, some n) => t.takeStalls ch k (got ++ [n])
    | (t, none) => (t.each got fun u n => u.freeStall ch n, none)

/-- A frame enters channel `ch` in as many stalls as it needs, its handles chained by MORE (R143); false where the Market refuses. -/
def State.storeFrame (s : State) (ch : Nat) (bs : List Byte) : State × Bool :=
  let k := (bs.length + 511) / 512
  match s.takeStalls ch k [] with
  | (t, none) => (t, false)
  | (t, some ns) =>
    let parts := (ns.zip (chunks k bs)).zipIdx
    (t.each parts fun u p => (u.fillStall p.1.1 p.1.2).pushHandle ch (decide (p.2 + 1 < k)) (min p.1.2.length 512) p.1.1, true)

/-- The place of a ring: master, KIND (0 command, 1 completion, 2 event, 3 telemetry) and INDEX (R85, R86). -/
def ringKey (m kind i : Nat) : Nat := m * 64 + kind * 16 + i

def State.ring (s : State) (m kind i : Nat) : Ring := Sparse.get (always Ring.init) s.host.rings (ringKey m kind i)

def State.setRing (s : State) (m kind i : Nat) (r : Ring) : State :=
  { s with host.rings := Sparse.set (always Ring.init) s.host.rings (ringKey m kind i) r }

def State.stream (s : State) (m k : Nat) : Stream := Sparse.get (always Stream.init) s.host.streams (8 * m + k)

def State.setStream (s : State) (m k : Nat) (t : Stream) : State :=
  { s with host.streams := Sparse.set (always Stream.init) s.host.streams (8 * m + k) t }

/-- A telemetry record of stream `k` of master `m` is dropped: counted, and TLM_DROP at most once every 10 ms (R113). -/
def State.tlmDrop (s : State) (m k : Nat) : State :=
  let r := s.ring m 3 k
  let t := s.stream m k
  let s1 := s.setRing m 3 k { r with lost := min (r.lost + 1) 0xFFFF }
  let due := match t.dropAt with | none => true | some a => decide (10000 ≤ s.since a)
  if due then
    (s1.setStream m k { t with dropped := 0, dropAt := some s.atime }).eventFor m 0x0124 0x03 (w32 k) (w32 (t.dropped + 1)) (0 : Word) (0 : Word)
  else s1.setStream m k { t with dropped := t.dropped + 1 }

/-- One request of channel `ch` at its turn: granted a stall, or refused and counted; a refused telemetry channel drops a record (R113). -/
def State.judgeRequest (s : State) (ch : Nat) : State :=
  match s.takeStall ch with
  | (t, some _) => t
  | (t, none) => if 8 ≤ ch ∧ ch ≤ 31 then t.tlmDrop ((ch - 8) / 8) ((ch - 8) % 8) else t

/-- Channel numbers in the order of turns after the channel last judged (R144). -/
def State.marketTurns (s : State) : List Nat := (List.range 64).map fun j => (s.mkt.lastCh + 1 + j) % 64

/-- The waiting requests `chs`, one entry for each, are judged, at most `n` of them: round-robin by channel, one at each turn (R144). -/
def State.judgeRequests (s : State) : Nat → List Nat → State
  | 0, _ => s
  | n + 1, chs =>
    match s.marketTurns.find? chs.contains with
    | none => s
    | some ch => (s.judgeRequest ch).judgeRequests n (chs.erase ch)

/-- MARKET_REQUEST (R20, R144): the requests that wait, of one channel or of several, are judged in the order of their turns. -/
def execMarketRequest (chs : List Nat) (s : State) : Out :=
  if !s.running then .next s
  else
    let l := chs.filter (mktPresent s.part)
    .next (s.judgeRequests l.length l)

/-- MARKET_RELEASE (R144, R146): by a hardware consumer, or by a register write, which only the Steward cluster and the Wardens may make. -/
def execMarketRelease (w : Option Writer) (ch stall : Nat) (s0 : State) : Out :=
  let free (s : State) : State := if mktPresent s.part ch then s.freeStall ch (stall % 4096) else s
  match w with
  | none => .next (s0.onlyIf s0.running free)
  | some x => s0.windowWrite x 0x05 fun s => .next (s.onlyIf (x.isWarden || x = .steward) free)

/-- MARKET_QUOTA_WRITE (R19, R142, R145): the owner may write any channel, master m CMD_STAGE_m and TLM_m_k;
a setting that the pool cannot honour is rejected whole. -/
def execMarketQuotaWrite (w : Writer) (ch : Nat) (v : Word) (s0 : State) : Out :=
  s0.windowWrite w 0x05 fun s =>
  let own := match w.master with | some m => ch = m || (decide (8 + 8 * m ≤ ch) && decide (ch < 16 + 8 * m)) | none => false
  if !(s.isOwner w || own) || !mktPresent s.part ch then .next s
  else
    let mn := bitsOf v 28 16
    let ce := bitsOf v 12 0
    let after := s.reserved - max (s.held ch) (s.minOf ch) + max (s.held ch) mn
    if 4096 < mn ∨ 4096 < ce ∨ ce < mn ∨ 4096 < after then
      .next ((s.putB R.MKT_STATUS_QUOTA_ERR true).raise 0x0501 0 0x05)
    else .next ((s.put (R.MKT_CH_QUOTA_MIN ch) mn).put (R.MKT_CH_QUOTA_CEIL ch) ce).mktStatus

end Sys2Proof.Machine
end

