-- ==== Sys2Proof/Machine/Rings.lean ====
section
/-! DEFINITION. Command rings, doorbells, completions, events, interrupts and telemetry (05_command_rings.md). -/

namespace Sys2Proof.Machine

/-! ### Rings -/

/-- The number of rings of a KIND (R85). -/
def ringCount (kind : Nat) : Nat := match kind with | 0 => 16 | 1 => 16 | 2 => 4 | 3 => 8 | _ => 0

/-- Fields of RING_m_CFG (R86). -/
def Ring.en (r : Ring) : Bool := bitOf r.cfg 31
def Ring.cpl (r : Ring) : Nat := bitsOf r.cfg 27 24
def Ring.vec (r : Ring) : Nat := bitsOf r.cfg 23 18
def Ring.irqEn (r : Ring) : Bool := bitOf r.cfg 17
def Ring.v1 (r : Ring) : Bool := bitOf r.cfg 16
def Ring.mask (r : Ring) : Nat := bitsOf r.cfg 15 8
def Ring.sizeLog2 (r : Ring) : Nat := bitsOf r.cfg 3 0
def Ring.size (r : Ring) : Nat := 2 ^ r.sizeLog2

/-- RUN: EN = 1 and no ring error (R86). -/
def Ring.run (r : Ring) : Bool := r.en && r.err == 0

/-- Entries the ELX has written that the master has not consumed. -/
def Ring.used (r : Ring) : Nat := (r.elx + 65536 - r.mst) % 65536

/-- No slot is free (R102). -/
def Ring.full (r : Ring) : Bool := decide (r.size ≤ r.used)

/-- The ring that the window of master `m` acts on, as KIND and INDEX; none under a BAD_SELECT selection (R86). -/
def State.selected (s : State) (m : Nat) : Option (Nat × Nat) :=
  let kind := s.get (R.RING_SEL_KIND m)
  let i := s.get (R.RING_SEL_INDEX m)
  if i < ringCount kind then some (kind, i) else none

/-- The PCIe link of master `m` is up; the Steward cluster has none to lose (LINK_STATUS). -/
def State.linkUp (s : State) (m : Nat) : Bool :=
  match m with
  | 0 => s.get R.LINK_STATUS_PCIE_A_GEN != 0
  | 1 => s.get R.LINK_STATUS_PCIE_B_GEN != 0
  | _ => true

/-- A ring stops with an error: ERR, and the RING_ERROR event to its master (R87, R110).
`slot` is the slot of the offending descriptor, where there is one. -/
def State.ringError (s : State) (m kind i e : Nat) (slot : Option Nat := none) : State :=
  let r := s.ring m kind i
  (s.setRing m kind i { r with err := e }).eventFor m 0x0120 0x03 (w32 (kind * 16 + i)) (w32 e) (w32 r.elx) (slot.map w32)

/-- The ring errors of R86. -/
def errTagRange : Nat := 1
def errTagDup : Nat := 2
def errReserved : Nat := 3
def errDoorbell : Nat := 4
def errFetch : Nat := 5
def errLocked : Nat := 6
def errReset : Nat := 7
def errSize : Nat := 9

/-! ### Interrupts -/

/-- The message of a vector is sent: port × 64 + vector. -/
def State.sendMsix (s : State) (k : Nat) : State :=
  { s with host.msixSent := Sparse.set (always 0) s.host.msixSent k (Sparse.get (always 0) s.host.msixSent k + 1) }

/-- The ring signals its vector (R111): a message, or a pending bit while the vector is masked; the Steward cluster gets
the same signal as an internal interrupt. -/
def State.signal (s : State) (m kind i : Nat) : State :=
  let r := s.ring m kind i
  let s1 := s.setRing m kind i { r with unsig := 0 }
  let k := 64 * m + r.vec
  if m < 2 ∧ Sparse.get (always false) s1.host.msixOpen k = false then
    { s1 with host.msixPend := Sparse.set (always false) s1.host.msixPend k true }
  else s1.sendMsix k

/-- A host writes doubleword `i` of the MSI-X table of its port (R111, R446): four to an entry, the last with the mask bit. A vector whose
mask bit falls sends the message that is pending. -/
def State.msixWrite (s : State) (p i : Nat) (v : Word) : State :=
  let k := 64 * p + i / 4
  let s1 := { s with host.msixTable := Sparse.set (always 0) s.host.msixTable (1024 * p + i) v }
  if i % 4 ≠ 3 then s1
  else
    let s2 := { s1 with host.msixOpen := Sparse.set (always false) s1.host.msixOpen k (!bitOf v 0) }
    if !bitOf v 0 && Sparse.get (always false) s2.host.msixPend k then
      { s2 with host.msixPend := Sparse.set (always false) s2.host.msixPend k false }.sendMsix k
    else s2

/-- COUNT of RING_m_IRQ; 0 acts as 1. -/
def Ring.irqCount (r : Ring) : Nat := max 1 (bitsOf r.irq 23 16)

/-- An entry has been written: it is counted as unsignalled, and the ring signals where COUNT is reached or the entry asks (R111). -/
def State.wrote (s : State) (m kind i : Nat) (now : Bool) : State :=
  let r := s.ring m kind i
  let r1 := { r with unsig := r.unsig + 1, unsigAt := if r.unsig = 0 then s.atime else r.unsigAt }
  let s1 := s.setRing m kind i r1
  if r1.irqEn && (now || decide (r1.irqCount ≤ r1.unsig)) then s1.signal m kind i else s1

/-- The next entry of a ring is written: `f` makes its bytes from the PHASE of this pass (R102). Entry size is `w` bytes. -/
def State.writeEntry (s : State) (m kind i w : Nat) (now : Bool) (f : Bool → List Byte) : State :=
  let r := s.ring m kind i
  let slot := r.elx % r.size
  let s1 := s.putHost m (r.base + w * slot) (f r.phase)
  let r1 := { r with elx := (r.elx + 1) % 65536, phase := if slot + 1 = r.size then !r.phase else r.phase }
  (s1.setRing m kind i r1).wrote m kind i now

/-! ### Completions -/

/-- The code of a status (R97). -/
def Status.code : Status → Nat
  | .ok => 0 | .rejectedMode => 1 | .notOwner => 2 | .badParam => 3 | .aborted => 4 | .timeout => 5 | .busyRetry => 6
  | .safetyBlocked => 7 | .partialDone => 8

/-- A completion entry (R101). -/
def cplBytes (r : Result) (cmdRing : Nat) (phase : Bool) : List Byte :=
  leBytes 2 (r.tag % 512 + bit r.superseded * 512 + bit r.data * 1024) ++ leBytes 1 r.status.code ++
  leBytes 1 (bit phase * 128 + cmdRing % 16) ++ leBytes 4 (r.at_.toNat % 2 ^ 32) ++ leBytes 8 r.value

/-- The operation in flight with a tag (R94). -/
def State.opOf (s : State) (m tag : Nat) : Option Op := s.host.ops.find? fun o => o.master = m && o.tag = tag

/-- The operation's slot and tag become free. -/
def State.dropOp (s : State) (m tag : Nat) : State :=
  { s with host.ops := s.host.ops.filter fun o => !(o.master = m && o.tag = tag) }

/-- The completion ring an operation completes into: the CPL of its command ring (R86). -/
def State.cplOf (s : State) (o : Op) : Nat := (s.ring o.master 0 o.ring).cpl

/-- Results held for completion ring `k` of master `m` (R104). -/
def State.heldFor (s : State) (m k : Nat) : List Result :=
  s.host.held.filter fun r => match s.opOf r.master r.tag with | some o => o.master = m && s.cplOf o = k | none => false

/-- CR_FULL to the master of a full completion ring (R104, R110). -/
def State.crFull (s : State) (m k : Nat) : State :=
  let r := s.ring m 1 k
  (s.setRing m 1 k { r with fullAt := some s.atime }).eventFor m 0x0121 0x03 (w32 k) (w32 (s.heldFor m k).length) (0 : Word) (0 : Word)

/-- A result is issued (R103, R104, R126): discarded where its master's link is down, held where the ring does not run or is
full, else written as an entry, which frees its tag. -/
def State.issue (s : State) (r : Result) : State :=
  match s.opOf r.master r.tag with
  | none => s
  | some o =>
    if !s.linkUp r.master then s.dropOp r.master r.tag
    else
      let k := s.cplOf o
      let c := s.ring r.master 1 k
      if !c.run then { s with host.held := s.host.held ++ [r] }
      else if c.full then
        let s1 := { s with host.held := s.host.held ++ [r] }
        if c.fullAt.isNone then s1.crFull r.master k else s1
      else (s.writeEntry r.master 1 k 16 o.irq (cplBytes r o.ring)).dropOp r.master r.tag

/-- The results held for a ring are written as far as it runs and has free slots (R104). -/
def State.drainHeld (s : State) (m k : Nat) : State :=
  let mine := s.heldFor m k
  let c := s.ring m 1 k
  let s1 := if c.full then s else s.setRing m 1 k { c with fullAt := none }
  let s2 := { s1 with host.held := s1.host.held.filter fun r => !mine.contains r }
  if mine.isEmpty then s1 else s2.each mine State.issue

/-! ### Ring set-up -/

/-- The writer is master `m`, whose window and page accept no other (R86, R88), and set-up is possible (R86). -/
def State.ownWindow (s : State) (w : Writer) (m : Nat) : Bool := w.master = some m && s.md.fromDiscover

/-- RING_SELECT (R86): the selection window of master `m` moves to KIND and INDEX. -/
def execRingSelect (w : Writer) (m : Nat) (v : Word) (s0 : State) : Out :=
  s0.windowWrite w 0x03 fun s =>
  if s.ownWindow w m then
    .next ((s.put (R.RING_SEL_KIND m) (bitsOf v 5 4)).put (R.RING_SEL_INDEX m) (bitsOf v 3 0))
  else .next s

/-- The bits of RING_m_CFG that are locked while EN = 1 (CPL, FMT, SIZE_LOG2), and the others that are fields (R86, R87). -/
def cfgLocked : Word := 0x0F01000F#32
def cfgFree : Word := 0x80FEFF00#32

/-- RING_CONFIG_WRITE (R86, R87): the free fields take effect; the locked ones too while EN = 0, and otherwise a change of them
sets CFG_LOCKED. EN rising clears LOST and SEQ, and with SIZE_LOG2 outside 4-12 sets BAD_SIZE. A completion ring that runs again
takes the entries held for it (R104). -/
def execRingConfigWrite (w : Writer) (m : Nat) (v : Word) (s0 : State) : Out :=
  s0.windowWrite w 0x03 fun s =>
  if !s.ownWindow w m then .next s
  else
    match s.selected m with
    | none => .next s
    | some (kind, i) =>
      let r := s.ring m kind i
      let keep := r.en && (v &&& cfgLocked) != (r.cfg &&& cfgLocked)
      let cfg := (v &&& cfgFree) ||| ((if keep then r.cfg else v) &&& cfgLocked)
      let rises := !r.en && bitOf v 31
      let r1 := { r with cfg := cfg, seq := if rises then 0 else r.seq, lost := if rises then 0 else r.lost }
      let s1 := s.setRing m kind i r1
      let s2 := if keep then s1.ringError m kind i errLocked
                else if rises && !(decide (4 ≤ r1.sizeLog2) && decide (r1.sizeLog2 ≤ 12)) then s1.ringError m kind i errSize
                else s1
      .next (if kind = 1 then s2.drainHeld m i else s2)

/-- A completion ring cannot be reset while an enabled command ring names it, or an operation will complete into it (R87). -/
def State.cplBusy (s : State) (m k : Nat) : Bool :=
  ((List.range 16).any fun c => (s.ring m 0 c).en && (s.ring m 0 c).cpl = k) ||
  s.host.ops.any fun o => o.master = m && s.cplOf o = k

/-- RING_RESET (R87): RESET clears the counts, the error and the phase of the selected ring, or is refused. -/
def execRingReset (w : Writer) (m : Nat) (v : Word) (s0 : State) : Out :=
  s0.windowWrite w 0x03 fun s =>
  if !s.ownWindow w m || !bitOf v 0 then .next s
  else
    match s.selected m with
    | none => .next s
    | some (kind, i) =>
      if kind = 1 && s.cplBusy m i then .next (s.ringError m kind i errReset)
      else
        let s1 := s.setRing m kind i { s.ring m kind i with elx := 0, mst := 0, err := 0, phase := true }
        .next (if kind = 1 then s1.drainHeld m i else s1)

/-! ### Doorbells -/

/-- A doorbell of a ring that the ELX fills is legal when it leaves at most the ring size outstanding (R89). -/
def Ring.legalOut (r : Ring) (v : Nat) : Bool := decide ((r.elx + 65536 - v % 65536) % 65536 ≤ r.size)

/-- A command doorbell is legal when it announces at most the ring size (R89). -/
def Ring.legalIn (r : Ring) (v : Nat) : Bool := decide ((v % 65536 + 65536 - r.elx) % 65536 ≤ r.size)

/-- The master's count is taken, or the ring stops with DOORBELL (R89). -/
def State.ringDoorbell (s : State) (m kind k : Nat) (v : Word) : State :=
  let r := s.ring m kind k
  let n := bitsOf v 15 0
  if (if kind = 0 then r.legalIn n else r.legalOut n) then s.setRing m kind k { r with mst := n }
  else s.ringError m kind k errDoorbell

/-- A write to a doorbell of master `m` counts only from master `m`, and only for a doorbell that exists (R88). -/
def State.doorbellOk (s : State) (w : Writer) (m kind k : Nat) : Bool := s.running && w.master = some m && decide (k < ringCount kind)

/-- DOORBELL_CMD (R88, R89). -/
def execDoorbellCmd (w : Writer) (m k : Nat) (v : Word) (s0 : State) : Out :=
  s0.windowWrite w 0x04 fun s =>
  if s.doorbellOk w m 0 k then .next (s.ringDoorbell m 0 k v) else .next s

/-- DOORBELL_CPL (R88, R89, R104): released slots take the entries that wait. -/
def execDoorbellCpl (w : Writer) (m k : Nat) (v : Word) (s0 : State) : Out :=
  s0.windowWrite w 0x04 fun s =>
  if s.doorbellOk w m 1 k then .next ((s.ringDoorbell m 1 k v).drainHeld m k) else .next s

/-- An event entry (R107). -/
def evtBytes (code source : Nat) (at_ : Time) (seq : Nat) (c : List Word) (phase : Bool) : List Byte :=
  leBytes 2 code ++ leBytes 1 source ++ leBytes 1 (bit phase * 128) ++ leBytes 8 at_.toNat ++ leBytes 4 seq ++ bytesOfWords c

/-- EV_OVERFLOW is written first into a released slot when events were dropped (R109, R110). -/
def State.overflowEntry (s : State) (m k : Nat) : State :=
  let r := s.ring m 2 k
  if r.drops = 0 || r.full || !r.run then s
  else
    let s1 := s.writeEntry m 2 k 32 false (evtBytes 0x0122 0x03 s.atime r.dropSeq [w32 r.drops, w32 r.dropSeq, 0, 0])
    s1.setRing m 2 k { s1.ring m 2 k with drops := 0, dropSeq := 0 }

/-- DOORBELL_EVT (R88, R89, R109). -/
def execDoorbellEvt (w : Writer) (m k : Nat) (v : Word) (s0 : State) : Out :=
  s0.windowWrite w 0x04 fun s =>
  if s.doorbellOk w m 2 k then .next ((s.ringDoorbell m 2 k v).overflowEntry m k) else .next s

/-- DOORBELL_TLM (R88, R89). -/
def execDoorbellTlm (w : Writer) (m k : Nat) (v : Word) (s0 : State) : Out :=
  s0.windowWrite w 0x04 fun s =>
  if s.doorbellOk w m 3 k then .next (s.ringDoorbell m 3 k v) else .next s

/-! ### Fetching and checking descriptors -/

/-- Descriptors of a command ring announced and neither consumed nor being read. -/
def State.unread (s : State) (m k : Nat) : Nat :=
  let r := s.ring m 0 k
  let reading := (s.host.reads.filter fun f => f.master = m && f.ring = k).foldl (fun n f => n + f.count) 0
  (r.mst + 65536 - r.elx) % 65536 - reading

/-- Operations in flight of master `m`, those being fetched included; and of all masters (R95). -/
def State.inFlight (s : State) (m : Nat) : Nat :=
  (s.host.ops.filter fun o => o.master = m).length + (s.host.reads.filter fun f => f.master = m).foldl (fun n f => n + f.count) 0
def State.allInFlight (s : State) : Nat := s.inFlight 0 + s.inFlight 1 + s.inFlight 2

/-- How many descriptors the next read of a ring takes: at most eight, within R95's limits (R90). A read stops at the ring's end, and the
next one goes on at its base: R90 does not say how a read meets the end (DESIGN CHOICE, log 64). -/
def State.fetchCount (s : State) (m k : Nat) : Nat :=
  let r := s.ring m 0 k
  let reading := (s.host.reads.filter fun f => f.master = m && f.ring = k).foldl (fun n f => n + f.count) 0
  let slot := (r.elx + reading) % r.size
  let room := 512 - s.allInFlight
  let room1 := if m = s.owner then room else min room (64 - s.inFlight m)
  if r.run && s.linkUp m then min (min 8 (s.unread m k)) (min room1 (r.size - slot)) else 0

/-- Ring numbers 16 m + k of the masters that do not own, in round-robin order after the one served last. -/
def State.ringOrder (s : State) : List Nat :=
  ((List.range 48).map fun j => (s.host.lastRing + 1 + j) % 48).filter fun g => g / 16 ≠ s.owner

/-- The owner's ring numbers, in round-robin order after the one served last. -/
def State.ownOrder (s : State) : List Nat :=
  if s.owner < 3 then (List.range 16).map fun j => 16 * s.owner + (s.host.lastOwn + 1 + j) % 16 else []

/-- A descriptor waits in ring `g`, and R95 lets it be fetched. -/
def State.fetchable (s : State) (g : Nat) : Bool := decide (0 < s.fetchCount (g / 16) (g % 16))

/-- DESCRIPTOR_FETCH (R90, R95): one read of descriptors in ring order; the owner's rings first, and round-robin within each rank. -/
def execDescriptorFetch (s : State) : Out :=
  match (s.ownOrder ++ s.ringOrder).find? s.fetchable with
  | none => .next s
  | some g =>
    let m := g / 16
    let k := g % 16
    let r := s.ring m 0 k
    let reading := (s.host.reads.filter fun f => f.master = m && f.ring = k).foldl (fun n f => n + f.count) 0
    .next { s with host.reads := s.host.reads ++ [{ master := m, ring := k, first := (r.elx + reading) % 65536, count := s.fetchCount m k }]
                   host.lastRing := if m = s.owner then s.host.lastRing else g
                   host.lastOwn := if m = s.owner then k else s.host.lastOwn }

/-- What the spec's opcode tables say of an opcode: class (0 I, 1 R, 2 B), READ, result command (R91), and the TARGETs it accepts. -/
structure OpDef where
  code : Nat
  cls : Nat
  read : Bool
  toHost : Bool
  targets : List Nat
  deriving DecidableEq, Repr

/-- The traction engines as targets (R231). -/
def tractionTargets : List Nat := [0x80, 0x81, 0x82, 0x83]

/-- The opcodes (R48, R82, R112, R116, R231, R255, R292, R311, R335, R355, R371, R387, R408, R425, R435, R443). -/
def opTable : List OpDef := [
  ⟨0x0100, 1, true, false, [0x00]⟩, ⟨0x0101, 1, false, false, [0x00]⟩, ⟨0x0102, 1, false, false, [0x00]⟩,
  ⟨0x0103, 1, false, false, [0x00]⟩, ⟨0x0104, 0, false, false, [0x00]⟩, ⟨0x0105, 1, false, false, [0x00]⟩,
  ⟨0x0110, 1, false, false, [0x03]⟩, ⟨0x0130, 1, true, false, [0x11]⟩, ⟨0x0131, 2, false, false, [0x11]⟩,
  ⟨0x0132, 1, false, false, [0x11]⟩, ⟨0x0140, 1, false, false, [0x10]⟩, ⟨0x0141, 1, true, false, [0x10]⟩,
  ⟨0x0150, 1, false, false, [0x12]⟩, ⟨0x0151, 1, false, false, [0x12]⟩, ⟨0x0160, 1, false, false, [0x13]⟩,
  ⟨0x0200, 1, true, false, [0x00]⟩, ⟨0x0201, 2, true, false, [0x00]⟩, ⟨0x0202, 1, false, false, [0x00]⟩,
  ⟨0x0203, 1, true, false, [0x00]⟩] ++ [
  ⟨0x1000, 0, false, false, tractionTargets⟩, ⟨0x1001, 0, false, false, tractionTargets⟩,
  ⟨0x1002, 0, false, false, tractionTargets⟩, ⟨0x1003, 1, true, false, tractionTargets⟩,
  ⟨0x1004, 1, false, false, tractionTargets⟩, ⟨0x1100, 1, false, false, tractionTargets⟩,
  ⟨0x1101, 1, true, true, tractionTargets⟩,
  ⟨0x2000, 0, false, false, [0x0D]⟩, ⟨0x2001, 1, true, false, [0x0D]⟩, ⟨0x2002, 1, false, false, [0x0D]⟩,
  ⟨0x2003, 1, false, false, [0x0D]⟩, ⟨0x2004, 1, false, false, [0x0D]⟩, ⟨0x2010, 1, false, false, [0x0D]⟩,
  ⟨0x2011, 1, false, false, [0x0D]⟩, ⟨0x2012, 0, false, false, [0x0D]⟩] ++ [
  ⟨0x3000, 1, false, false, [0x0E]⟩, ⟨0x3001, 1, false, false, [0x0E]⟩, ⟨0x3002, 0, false, false, [0x0E]⟩,
  ⟨0x3003, 1, true, false, [0x0E]⟩, ⟨0x3004, 1, false, false, [0x0E]⟩, ⟨0x3005, 0, false, false, [0x0E]⟩,
  ⟨0x4000, 0, false, false, [0x0F]⟩, ⟨0x4001, 0, false, false, [0x0F]⟩, ⟨0x4002, 0, false, false, [0x0F]⟩,
  ⟨0x4003, 1, true, false, [0x0F]⟩, ⟨0x4010, 1, true, false, [0x0F]⟩,
  ⟨0x5000, 1, false, false, [0x0C]⟩, ⟨0x5001, 1, false, false, [0x0C]⟩, ⟨0x5002, 1, true, true, [0x0C]⟩,
  ⟨0x5003, 1, false, false, [0x0C]⟩, ⟨0x5004, 1, false, false, [0x0C]⟩, ⟨0x5005, 1, false, false, [0x0C]⟩,
  ⟨0x5006, 1, false, false, [0x0C]⟩] ++ [
  ⟨0x6000, 1, false, false, [0x13]⟩, ⟨0x6001, 1, false, false, [0x13]⟩, ⟨0x6010, 2, false, false, [0x15]⟩,
  ⟨0x6011, 1, false, false, [0x15]⟩, ⟨0x6012, 2, true, true, [0x15]⟩, ⟨0x6020, 1, false, false, [0x11]⟩,
  ⟨0x6021, 1, true, false, [0x11]⟩, ⟨0x6030, 1, true, true, [0x12]⟩, ⟨0x7000, 2, true, true, [0x13]⟩,
  ⟨0x7001, 2, false, false, [0x13]⟩, ⟨0x7002, 1, false, false, [0x13]⟩]

/-- A fetched descriptor (R91, R93). -/
structure Desc where
  opcode : Nat
  tagWord : Nat
  flags : Nat
  target : Nat
  len : Nat
  hostAddr : Nat
  inline : List Byte
  deriving DecidableEq, Repr

/-- The fields of a descriptor's bytes; a v1 descriptor is 32 of them, with 16 inline. -/
def Desc.ofBytes (b : List Byte) : Desc :=
  { opcode := fieldAt b 0 2, tagWord := fieldAt b 2 2, flags := fieldAt b 4 1, target := fieldAt b 5 1, len := fieldAt b 6 2,
    hostAddr := fieldAt b 8 8, inline := b.drop 16 }

def Desc.tag (d : Desc) : Nat := d.tagWord % 512
def Desc.ind (d : Desc) : Bool := natBit d.flags 3
def Desc.read (d : Desc) : Bool := natBit d.flags 2

/-- A result command, whose LEN is its buffer's size and whose payload is always inline (R91). -/
def Desc.toHost (d : Desc) : Bool := opTable.any fun o => o.code = d.opcode && o.toHost

/-- The payload of a descriptor that has passed its checks (R91): LEN bytes, from HOST_ADDR where IND = 1, else inline. -/
def Desc.payload (d : Desc) (p : Option (List Byte)) : List Byte :=
  if d.ind then (p.getD []).take d.len else if d.toHost then d.inline else d.inline.take d.len

/-- Check 1 of R96: the ring error it finds. -/
def State.check1 (s : State) (m : Nat) (v1 : Bool) (d : Desc) : Option Nat :=
  if 512 ≤ d.tagWord then some errTagRange
  else if (if v1 then 16 ≤ d.flags else 64 ≤ d.flags) then some errReserved
  else if (s.opOf m d.tag).isSome then some errTagDup
  else none

/-- Check 2 of R96: opcode, CLASS, READ, TARGET, LEN and the alignment of HOST_ADDR. -/
def check2 (v1 : Bool) (d : Desc) : Bool :=
  match opTable.find? (fun o => o.code = d.opcode) with
  | none => false
  | some o =>
    d.flags % 4 = o.cls && d.read = o.read && o.targets.contains d.target && d.hostAddr % 8 = 0 &&
    (if o.toHost then !d.ind && decide (1 ≤ d.len)
     else if d.ind then decide (1 ≤ d.len)
     else decide (d.len ≤ (if v1 then 16 else 48)))

/-- Check 3 of R96: the master is owner, or READ = 1; during a hand-over old owner and successor count as non-owners (R121). -/
def State.check3 (s : State) (m : Nat) (d : Desc) : Bool := d.read || (decide (m = s.owner) && !natBit s.own.locked m)

/-- Check 4 of R96: the TARGET instance is present (R3). -/
def State.check4 (s : State) (d : Desc) : Bool := d.target < 0x80 || fePresent s.part (d.target - 0x80)

/-- Check 6 of R96: the target is not held by Landing 0, for a command that is no READ (R11). -/
def State.check6 (s : State) (d : Desc) : Bool := d.read || !(s.actingUnits d.target).any s.unitHeld

/-- Handles of CMD_STAGE_m are consumed, and their stalls go back (R142, R143). -/
def State.unstage (s : State) (m : Nat) (ns : List Nat) : State :=
  let q := (Sparse.get (always []) s.mkt.queues m).filter fun h => !ns.contains h.2.2
  ({ s with mkt.queues := Sparse.set (always []) s.mkt.queues m q }).each ns fun u n => u.freeStall m n

/-- Check 5 of R96 for an indirect payload: stalls of CMD_STAGE_m take it, their handles are queued, and they hold it until the manager has used
it (R142, R143); the stalls held, or the status of a refusal. -/
def State.check5 (s : State) (m : Nat) (d : Desc) (p : Option (List Byte)) : State × Except Status (List Nat) :=
  if !d.ind then (s, .ok [])
  else
    let k := (d.len + 511) / 512
    match s.takeStalls m k [] with
    | (t, none) => (t, .error .busyRetry)
    | (t, some ns) =>
      match p with
      | none => (t.unstage m ns, .error .badParam)
      | some bs =>
        let parts := (ns.zip (chunks k (bs.take d.len))).zipIdx
        (t.each parts fun u x => (u.fillStall x.1.1 x.1.2).pushHandle m (decide (x.2 + 1 < k)) (min x.1.2.length 512) x.1.1, .ok ns)

/-- The stalls of an operation in flight are noted in it. -/
def State.holdStalls (s : State) (m tag : Nat) (ns : List Nat) : State :=
  { s with host.ops := s.host.ops.map fun o => if o.master = m && o.tag = tag then { o with stalls := ns } else o }

/-- One fetched descriptor, checked in order (R96): a ring error, a refusal, or an operation in flight that waits for its own row. -/
def State.takeDesc (s : State) (m k : Nat) (b : List Byte) (p : Option (List Byte)) : State :=
  let r := s.ring m 0 k
  if !r.run then s
  else
    let d := Desc.ofBytes b
    match s.check1 m r.v1 d with
    | some e => s.ringError m 0 k e (some (r.elx % r.size))
    | none =>
      let o : Op := { master := m, tag := d.tag, ring := k, opcode := d.opcode, cls := d.flags % 4, target := d.target,
                      irq := natBit d.flags 5, fence := natBit d.flags 4, isRead := d.read, len := d.len, hostAddr := d.hostAddr,
                      payload := d.payload p, stalls := [], started := false, start := s.atime, reported := s.atime, done := false }
      let s1 := { s.setRing m 0 k { r with elx := (r.elx + 1) % 65536 } with host.ops := s.host.ops ++ [o] }
      let no (t : State) (st : Status) : State := t.result m d.tag 3 st 0 false false
      if !check2 r.v1 d then no s1 .badParam
      else if !s1.check3 m d then no s1 .notOwner
      else if !s1.check4 d then no s1 .badParam
      else
        match s1.check5 m d p with
        | (t, .error st) => no t st
        | (t, .ok ns) => if t.check6 d then t.holdStalls m d.tag ns else no (t.unstage m ns) .safetyBlocked

/-- Descriptors of a read, one after the other. -/
def State.takeDescs (s : State) (m k w : Nat) : Nat → List Byte → List (Option (List Byte)) → State
  | 0, _, _ => s
  | n + 1, bs, ps => (s.takeDesc m k (bs.take w) (ps.head?.getD none)).takeDescs m k w n (bs.drop w) ps.tail

/-- DESCRIPTOR_READ_DONE (R90, R93, R96): the oldest read is answered with its bytes, or fails, which stops the ring. -/
def execDescriptorReadDone (data : Option (List Byte)) (payloads : List (Option (List Byte))) (s : State) : Out :=
  match s.host.reads with
  | [] => .next s
  | f :: rest =>
    let s1 := { s with host.reads := rest }
    let r := s1.ring f.master 0 f.ring
    if !r.run then .next s1
    else
      match data with
      | none => .next (s1.ringError f.master 0 f.ring errFetch (some (r.elx % r.size)))
      | some bs => .next (s1.takeDescs f.master f.ring (if r.v1 then 32 else 64) f.count bs payloads)

/-! ### Events -/

/-- The EV_MASK bit of an event group (R108); none for the mode events, which pass whatever the mask. -/
def eventGroup (code : Nat) : Option Nat :=
  let h := code / 256
  if 0x0101 ≤ code ∧ code ≤ 0x0104 then none
  else if code = 0x0123 then some 11
  else if h = 0x01 then some 12
  else if h = 0x02 then some 13
  else if h = 0x60 then some 9
  else if h = 0x70 ∨ h = 0x7F then some 10
  else some 8

/-- An event ring takes the event's group (R108). -/
def Ring.takes (r : Ring) (code : Nat) : Bool :=
  match eventGroup code with
  | none => true
  | some b => natBit r.mask (b - 8)

/-- An event reaches one event ring (R107-R109): written, or dropped and counted. -/
def State.toRing (s : State) (e : Event) (m k : Nat) : State :=
  if !(s.ring m 2 k).run || !(s.ring m 2 k).takes e.code || !s.linkUp m then s
  else
    let s1 := s.overflowEntry m k
    let r := s1.ring m 2 k
    let r1 := { r with seq := (r.seq + 1) % 2 ^ 32 }
    if r.full then
      s1.setRing m 2 k { r1 with lost := min (r.lost + 1) 0xFFFF, drops := r.drops + 1, dropSeq := if r.drops = 0 then r.seq else r.dropSeq }
    else (s1.setRing m 2 k r1).writeEntry m 2 k 32 false (evtBytes e.code e.source e.at_ r.seq [e.c0, e.c1, e.c2, e.c3])

/-- An event is written to each event ring it is for (R107, R108). -/
def State.deliver (s : State) (e : Event) : State :=
  s.each (List.range 12) fun t g =>
    let m := g / 4
    if e.only = none ∨ e.only = some m then t.toRing e m (g % 4) else t

/-- EVENT_DELIVERY (R107-R110): the oldest event is delivered. -/
def execEventDelivery (s : State) : Out :=
  match s.host.events with
  | [] => .next s
  | e :: rest => .next (({ s with host.events := rest }).deliver e)

/-- Every waiting event is delivered, before the part stops (R71). -/
def State.deliverAll (s : State) : State := ({ s with host.events := [] }).each s.host.events State.deliver

/-- A list up to and with the last element that `p` holds of, and the rest. -/
def uptoLast {α : Type} (p : α → Bool) : List α → List α × List α
  | [] => ([], [])
  | e :: t =>
    let r := uptoLast p t
    if p e || !r.1.isEmpty then (e :: r.1, r.2) else ([], e :: t)

/-- The CMD_PROGRESS events of an operation that still wait are written before its completion entry, and the events before them (R100,
R105). -/
def State.progressFirst (s : State) (r : Result) : State :=
  match s.opOf r.master r.tag with
  | none => s
  | some o =>
    let mine (e : Event) : Bool := e.code = 0x0123 && e.only = some r.master && e.c0 = w32 (r.tag % 512 + o.ring * 2 ^ 16)
    let q := uptoLast mine s.host.events
    ({ s with host.events := q.2 }).each q.1 State.deliver

/-! ### The collector -/

/-- The staged payload of an operation that has its result is used: its stalls go back (R142). -/
def State.useStage (s : State) (m tag : Nat) : State :=
  match s.opOf m tag with
  | some o => (s.holdStalls m tag []).unstage m o.stalls
  | none => s

/-- RESULT_INTAKE (R103): the next result enters its Gallery's intake queue, or is marked pending in its slot. -/
def execResultIntake (s : State) : Out :=
  match s.host.results with
  | [] => .next s
  | r :: rest =>
    let q := Sparse.get (always []) s.host.intake r.gallery
    let s1 := s.useStage r.master r.tag
    if q.length < 32 then
      .next { s1 with host.results := rest, host.intake := Sparse.set (always []) s.host.intake r.gallery (q ++ [r]) }
    else .next { s1 with host.results := rest, host.pendingSlots := s.host.pendingSlots ++ [r] }

/-- The Galleries in round-robin order after the one served last. -/
def State.galleryOrder (s : State) : List Nat := (List.range 5).map fun j => (s.host.lastGallery + 1 + j) % 5

/-- The pending result that goes first: lowest master number, then lowest tag (R103). -/
def firstPending : List Result → Option Result
  | [] => none
  | r :: t =>
    match firstPending t with
    | none => some r
    | some b => if b.master < r.master ∨ (b.master = r.master ∧ b.tag < r.tag) then some b else some r

/-- COMPLETION_ISSUE (R103, R104): the collector serves the intake queues round-robin, then the pending slots. -/
def execCompletionIssue (s : State) : Out :=
  match s.galleryOrder.find? (fun g => !(Sparse.get (always []) s.host.intake g).isEmpty) with
  | some g =>
    match Sparse.get (always []) s.host.intake g with
    | [] => .next s
    | r :: rest =>
      .next (({ s with host.intake := Sparse.set (always []) s.host.intake g rest, host.lastGallery := g }).progressFirst r |>.issue r)
  | none =>
    match firstPending s.host.pendingSlots with
    | none => .next s
    | some r => .next (({ s with host.pendingSlots := s.host.pendingSlots.erase r }).progressFirst r |>.issue r)

/-- CR_FULL_REPEAT (R104): the ring is still full 100 ms after CR_FULL. -/
def execCrFullRepeat (m k : Nat) (s : State) : Out :=
  let r := s.ring m 1 k
  if (match r.fullAt with | some t => decide (100000 ≤ s.since t) | none => false) && r.full && r.run && !(s.heldFor m k).isEmpty then .next (s.crFull m k) else .next s

/-- No unit waits for the command any more: what it has started goes on, and completes nothing (R97, R255, R371). Master 3 is no master. -/
def State.cancelWaits (s : State) (m tag : Nat) : State :=
  { s with
      trac := s.trac.map fun p =>
        (p.1, { p.2 with lawOp := p.2.lawOp.map fun o => if o.1 = m ∧ o.2.1 = tag then (3, 0, o.2.2) else o })
      acq.inserts := s.acq.inserts.map fun i => if i.master = m ∧ i.tag = tag then { i with master := 3 } else i }

/-- CLASS_R_TIMEOUT (R100): a Class R command that has not finished in 2 ms completes with TIMEOUT. -/
def execClassRTimeout (m tag : Nat) (s : State) : Out :=
  match s.opOf m tag with
  | some o => if o.cls = 1 && !o.done && decide (2000 ≤ s.since o.start) then .next ((s.cancelWaits m tag).result m tag 3 .timeout 0 false false) else .next s
  | none => .next s

/-- CMD_PROGRESS (R100, R110): a Class B command still runs 10 ms after its start or its last report. -/
def execCmdProgress (m tag perMille bytes : Nat) (s : State) : Out :=
  match s.opOf m tag with
  | some o =>
    if o.cls = 2 && !o.done && decide (10000 ≤ s.since o.reported) then
      let w2 := if o.opcode = 0x6012 ∨ o.opcode = 0x7000 ∨ o.opcode = 0x7001 then perMille else 0
      let w3 := if o.opcode = 0x6012 ∨ o.opcode = 0x7000 then bytes else 0
      let s1 := { s with host.ops := s.host.ops.map fun p => if p = o then { p with reported := s.atime } else p }
      .next (s1.eventFor m 0x0123 0x03 (w32 (tag % 512 + o.ring * 2 ^ 16)) (w32 o.opcode) (w32 w2) (w32 w3))
    else .next s
  | none => .next s

/-! ### Interrupts by time -/

/-- IRQ_TIME_EXPIRY (R111): TIME has passed since the first unsignalled entry. -/
def execIrqTimeExpiry (m kind k : Nat) (s : State) : Out :=
  let r := s.ring m kind k
  if r.irqEn && decide (0 < r.unsig) && bitsOf r.irq 15 0 != 0 && decide (bitsOf r.irq 15 0 ≤ s.since r.unsigAt) then
    .next (s.signal m kind k) else .next s

/-! ### Telemetry -/

/-- A payload shorter than the opcode needs fails check 8 (log 26). -/
def short (c : Cmd) (n : Nat) : Bool := decide (c.payload.length < n)

/-- The mode accepts the opcode's group, or the command carries READ (check 7 of R96, R47). -/
def State.modeOk (s : State) (opcode : Nat) (read : Bool) : Bool := (read && s.md.fromDiscover) || groupAccepts s opcode

/-- The signal indices of a TLM_SELECT payload. -/
def tlmSignals (c : Cmd) (n : Nat) : List Nat := (List.range n).map fun i => arg c (18 + 2 * i) 2

/-- TLM_SELECT (R112 and its table): sets the signals of a stream of the sending master. -/
def execTlmSelect (c : Cmd) (s0 : State) : Out :=
  s0.command c 0x0110 fun s =>
  let k := arg c 16 1
  let n := arg c 17 1
  if !s.modeOk 0x0110 false then refuse s c .rejectedMode
  else if short c 2 || short c (2 + 2 * n) || decide (8 ≤ k) || n = 0 || decide (16 < n) || (s.ring c.master 3 k).en ||
      (tlmSignals c n).any (fun p => decide (511 < p)) then refuse s c .badParam
  else .next ((s.setStream c.master k { s.stream c.master k with signals := tlmSignals c n }).finish c .ok)

/-- Fields of RING_m_TLM (R86). -/
def Ring.tlmSource (r : Ring) : Nat := bitsOf r.tlm 31 24
def Ring.tlmDecim (r : Ring) : Nat := max 1 (bitsOf r.tlm 15 8)
def Ring.tlmFlush (r : Ring) : Nat := bitsOf r.tlm 7 0

/-- The word a telemetry signal reads at COMMIT (R112): the committed copy for a state word (R175). -/
def Engine.sampled (e : Engine) (p : Nat) : Word := if 384 ≤ p ∧ p ≤ 447 then e.seen p else e.word p

/-- The Market channel of stream `k` of master `m` (R142). -/
def tlmChan (m k : Nat) : Nat := 8 + 8 * m + k

/-- The stall being filled goes to the filled ones: its handle is queued with its valid length (R112, R143). -/
def State.tlmClose (s : State) (m k : Nat) : State :=
  let t := s.stream m k
  match t.stall with
  | none => s
  | some n => (s.pushHandle (tlmChan m k) false t.used n).setStream m k { t with stall := none, used := 0, full := t.full ++ [t.firstAt] }

/-- The header and records of a telemetry buffer (R112). -/
def tlmBytes (k seq : Nat) (bs : List Byte) (at_ : Time) (phase : Bool) : List Byte :=
  leBytes 2 (16 + bs.length) ++ leBytes 1 (bit phase * 128 + k % 8) ++ leBytes 1 0 ++ leBytes 4 seq ++ leBytes 8 at_.toNat ++ bs

/-- A record's bytes go into the stall being filled, behind those it has. -/
def State.tlmPut (s : State) (m k n : Nat) (bs : List Byte) : State :=
  let t := s.stream m k
  let a := stallBase n + t.used
  let s1 := { (s.wakeFor a bs.length).writeBytes a bs with mkt.lens := Sparse.set (always 0) s.mkt.lens n (t.used + bs.length) }
  s1.setStream m k { t with used := t.used + bs.length }

/-- A record of stream `k` of master `m` (R112, R113): into the stall being filled, or a fresh one; dropped where the Market refuses. -/
def State.tlmRecord (s : State) (m k : Nat) (ws : List Word) : State :=
  let s1 := if 496 < (s.stream m k).used + 4 * ws.length then s.tlmClose m k else s
  match (s1.stream m k).stall with
  | some n => s1.tlmPut m k n (bytesOfWords ws)
  | none =>
    match s1.takeStall (tlmChan m k) with
    | (u, some n) => (u.setStream m k { u.stream m k with stall := some n, used := 0, firstAt := s.atime }).tlmPut m k n (bytesOfWords ws)
    | (u, none) => u.tlmDrop m k

/-- Engine `n` reaches COMMIT: every enabled stream that samples it counts the tick, and takes a record every DECIM ticks (R112). -/
def State.tlmSample (s : State) (n : Nat) : State :=
  s.each (List.range 24) fun u g =>
    let m := g / 8
    let k := g % 8
    let r := u.ring m 3 k
    let t := u.stream m k
    if !r.run || r.tlmSource ≠ 0x80 + n || t.signals.isEmpty then u
    else if t.ticks + 1 < r.tlmDecim then u.setStream m k { t with ticks := t.ticks + 1 }
    else
      let e := u.eng n
      let ws := [w32 u.atime.toNat, u.rd (R.FE_TICKNO n)] ++ t.signals.map e.sampled
      (u.setStream m k { t with ticks := 0 }).tlmRecord m k ws

/-- TLM_BUFFER_COPY (R112, R113, R151): the oldest filled stall is copied with its header into the next buffer of the host ring, and released;
where a word of it is uncorrectable its records are dropped and counted. -/
def execTlmBufferCopy (m k : Nat) (s : State) : Out :=
  let t := s.stream m k
  let r := s.ring m 3 k
  match t.full, Sparse.get (always []) s.mkt.queues (tlmChan m k) with
  | at_ :: rest, h :: left =>
    if !r.run || r.full || !s.linkUp m then .next s
    else
      let s1 := { s.setStream m k { t with full := rest } with mkt.queues := Sparse.set (always []) s.mkt.queues (tlmChan m k) left }
      match s1.readStall h.2.2 h.2.1 with
      | (u, some bs) =>
        let u1 := u.setRing m 3 k { r with seq := (r.seq + 1) % 2 ^ 32 }
        .next ((u1.writeEntry m 3 k 512 false (tlmBytes k r.seq bs at_)).freeStall (tlmChan m k) h.2.2)
      | (u, none) =>
        let n := if (s.stream m k).signals.isEmpty then 0 else h.2.1 / (8 + 4 * (s.stream m k).signals.length)
        .next (((List.range n).foldl (fun (x : State) _ => x.tlmDrop m k) u).freeStall (tlmChan m k) h.2.2)
  | _, _ => .next s

/-- TLM_FLUSH_EXPIRY (R112): FLUSH has passed and a partly filled stall is delivered. -/
def execTlmFlushExpiry (m k : Nat) (s : State) : Out :=
  let t := s.stream m k
  if (s.ring m 3 k).tlmFlush = 0 || t.used = 0 || decide (s.since t.firstAt < 100 * (s.ring m 3 k).tlmFlush) then .next s
  else .next (s.tlmClose m k)

end Sys2Proof.Machine
end

