-- ==== Sys2Proof/Machine/Setpoints.lean ====
section
/-! DEFINITION. What the commands to engines share: Class I setpoints on their way to their tick (R48, R98, R99), and words of the stored
parameter set written in COMMISSION (R439). -/

namespace Sys2Proof.Machine

/-- A Class I setpoint is handed to engine `n` (R98): its next tick judges and applies it. `u` tells apart what the opcode addresses. -/
def State.queueSetpoint (s : State) (c : Cmd) (n opcode u : Nat) (bad : Bool) (words : List (Nat × Word)) : State :=
  (s.begin c).modEng n fun e =>
    { e with setpoints := e.setpoints ++
        [{ master := c.master, tag := c.tag, opcode := opcode, target := 256 * u + c.target % 256, applied := false, superseded := false,
           bad := bad, words := words }] }

/-- The engine that takes the setpoints of the motor of engine `n`: its partner where Landing 0 has removed it (R233). -/
def State.addressed (s : State) (n : Nat) : Nat := s.actsFor n

/-- Word `p` of engine `n` is written on the owner's behalf: in COMMISSION the stored set takes it (R439). -/
def State.storeWord (s : State) (n p : Nat) (v : Word) : State :=
  if s.md = .commission ∧ Sparse.get (always none) s.led.stored.feWords (512 * n + p) ≠ some v then
    State.setChanged { s with led.stored.feWords := Sparse.set (always none) s.led.stored.feWords (512 * n + p) (some v), led.present := true }
  else s

/-- A group of parameter words written by a command: staged for one transfer, and stored (R170, R231, R439). -/
def State.writeGroup (s : State) (n p : Nat) : List Word → State
  | [] => s
  | v :: t => ((s.stage n p v).storeWord n p v).writeGroup n (p + 1) t

/-- Payload words from descriptor byte `i`. -/
def argWords (c : Cmd) (i n : Nat) : List Word := (List.range n).map fun k => argW c (i + 4 * k)

/-- A command addresses a present engine of a list of TARGETs. -/
def State.targets (s : State) (c : Cmd) (l : List Nat) : Bool := l.contains c.target && (decide (c.target < 0x80) || fePresent s.part (c.target - 0x80))

/-- An operation that a command still waits for: it has not completed (R100). -/
def State.live (s : State) (m tag : Nat) : Bool :=
  match s.opOf m tag with
  | some o => !o.done
  | none => true

end Sys2Proof.Machine
end

