-- ==== Sys2Proof/Machine/Acquisition.lean ====
section
/-! DEFINITION. Sequenced converters, their tables and stall groups, the reference buffer, calibration and diagnosis
(18_analogue_acquisition.md). Apertures are counted in 25 ns. -/

namespace Sys2Proof.Machine

/-! ### Stall groups (R365, R366) -/

/-- The Market channel of group `g` (R142). -/
def grpChan (g : Nat) : Nat := 48 + g

/-- The bytes of a group's stall (R365). -/
def GroupStall.bytes (x : GroupStall) : List Byte :=
  leBytes 8 x.at_.toNat ++ leBytes 4 x.pass ++ leBytes 2 0 ++ leBytes 2 x.recs.length ++ x.recs.flatten

/-- The open stall of a group. -/
def State.grpOpen (s : State) (g : Nat) : Option GroupStall := Sparse.get (always none) s.acq.open_ g
def State.setGrp (s : State) (g : Nat) (x : Option GroupStall) : State :=
  { s with acq.open_ := Sparse.set (always none) s.acq.open_ g x }

/-- The open stall of a group is delivered to its reader (R143, R365). -/
def State.grpDeliver (s : State) (g : Nat) : State :=
  match s.grpOpen g with
  | none => s
  | some x => ((s.fillStall x.stall x.bytes).pushHandle (grpChan g) false (16 + 8 * x.recs.length) x.stall).setGrp g none

/-- A record of a group is dropped (R366). -/
def State.grpDrop (s : State) (g : Nat) : State :=
  let n := Sparse.get (always 0) s.acq.drops g + 1
  let s1 := s.satInc (R.ACQ_GRP_STAT_DROPPED g)
  let due := match Sparse.get (always none) s.acq.dropAt g with | none => true | some a => decide (10000 ≤ s.since a)
  if due then
    ({ s1 with acq.drops := Sparse.set (always 0) s1.acq.drops g 0
               acq.dropAt := Sparse.set (always none) s1.acq.dropAt g (some s.atime) }).event 0x50F0 0x0C (w32 g) (w32 n)
  else { s1 with acq.drops := Sparse.set (always 0) s1.acq.drops g n }

/-- A conversion of group `g` is appended to its open stall, or to a fresh one; `t` is its aperture in 25 ns of device time (R365). -/
def State.grpRecord (s : State) (k g ch code flags t : Nat) : State :=
  let r (x : GroupStall) : List Byte :=
    leBytes 2 code ++ leBytes 1 ch ++ leBytes 1 (128 * k + flags) ++ leBytes 4 (t - 40 * x.at_.toNat)
  let late := match s.grpOpen g with | some x => decide (2 ^ 32 ≤ t - 40 * x.at_.toNat) | none => false
  let s0 := if late then s.grpDeliver g else s
  let s1 := match s0.grpOpen g with
    | some x => s0.setGrp g (some { x with recs := x.recs ++ [r x] })
    | none =>
      match s0.takeStall (grpChan g) with
      | (u, some n) =>
        let x : GroupStall := { stall := n, at_ := BitVec.ofNat 64 (t / 40), pass := s0.get (R.ACQ_SEQ_CTRL_PASS k), recs := [] }
        u.setGrp g (some { x with recs := [r x] })
      | (u, none) => u.grpDrop g
  match s1.grpOpen g with
  | some x => if 62 ≤ x.recs.length then s1.grpDeliver g else s1
  | none => s1

/-! ### Tables (R361-R363) -/

/-- A shadow word of a table (R363). -/
def State.shadow (s : State) (a : Nat) : Word := Sparse.get (resetValue s.part) s.acq.shadow a

/-- A word of the shadow written. -/
def State.setShadow (s : State) (a : Nat) (v : Word) : State := { s with acq.shadow := Sparse.set (resetValue s.part) s.acq.shadow a v }

/-- The shadow of table `k` becomes active; the shadow is then a copy of it (R363). -/
def State.swapTable (s : State) (k : Nat) : State :=
  let s1 := s.each (List.range 64) fun t e =>
    (t.wr (R.ACQ_SEQ_ENTRY k e) (t.shadow (R.ACQ_SEQ_ENTRY k e))).wr (R.ACQ_SEQ_DELAY k e) (t.shadow (R.ACQ_SEQ_DELAY k e))
  (s1.putB (R.ACQ_SEQ_CTRL_SWAP k) false).event 0x50F1 0x0C (w32 k) (w32 (s1.get (R.ACQ_SEQ_CTRL_PASS k)))

/-- SWAP = 1 is written: armed, and done at once on a stopped table (R363). -/
def State.armSwap (s : State) (k : Nat) : State :=
  let s1 := s.putB (R.ACQ_SEQ_CTRL_SWAP k) true
  if s1.flag (R.ACQ_SEQ_CTRL_RUN k) then s1 else s1.swapTable k

/-- The entry image is valid (R361): a present channel, and group 0 to 7 or 15. -/
def State.entryOk (s : State) (v : Word) : Bool :=
  acqPresent s.part (bitsOf v 6 0) && (decide (bitsOf v 15 12 ≤ 7) || bitsOf v 15 12 == 15)

/-- The fields of an entry and of a delay register. -/
def entryMask (v : Word) : Word := v &&& 0x00FFF1FF#32
def delayMask (v : Word) : Word := v &&& 0x0000FFFF#32

/-- The word at `a` of the stored parameter set. -/
def State.storedReg (s : State) (a : Nat) : Word := Sparse.get (resetValue s.part) s.led.stored.regs a

/-- A shadow word is written; in COMMISSION a write that `stores` enters the parameter set, to which the tables belong (R362, R439; log 52). -/
def State.tableWord (s : State) (stores : Bool) (a : Nat) (v : Word) : State :=
  let s1 := s.setShadow a v
  if stores && s.md = .commission && s.storedReg a ≠ v then
    State.setChanged { s1 with led.stored.regs := Sparse.set (resetValue s.part) s1.led.stored.regs a v, led.present := true }
  else s1

/-- A write of an entry or delay register of table `k`: into the shadow, or CFG_ERR (R361, R363). -/
def State.entryWrite (s : State) (stores : Bool) (k e : Nat) (delay : Bool) (v : Word) : State :=
  if delay then s.tableWord stores (R.ACQ_SEQ_DELAY k e) (delayMask v)
  else if s.entryOk v then s.tableWord stores (R.ACQ_SEQ_ENTRY k e) (entryMask v)
  else s.putB (R.ACQ_SEQ_CTRL_CFG_ERR k) true

/-- The shadow of table `k` takes the words of the parameter set (R362). -/
def State.storedTable (s : State) (k : Nat) : State :=
  s.each (List.range 64) fun t e =>
    (t.setShadow (R.ACQ_SEQ_ENTRY k e) (t.storedReg (R.ACQ_SEQ_ENTRY k e))).setShadow (R.ACQ_SEQ_DELAY k e) (t.storedReg (R.ACQ_SEQ_DELAY k e))

/-- The discovery table is swapped into SEQ_1 (R362); its entries are not given. -/
def State.discTable (s : State) : State :=
  let put (t : State) (e : Nat) : State :=
    (t.setShadow (R.ACQ_SEQ_ENTRY 1 e) (entryMask (Config.freeWord 0x5B (2 * e)))).setShadow (R.ACQ_SEQ_DELAY 1 e)
      (delayMask (Config.freeWord 0x5B (2 * e + 1)))
  (s.each (List.range 64) put).armSwap 1

/-- The commissioned table is swapped back into SEQ_1 (R362). -/
def State.commTable (s : State) : State := (s.storedTable 1).armSwap 1

/-- Without commissioning SEQ_0 runs channels 80 to 95, once each in a pass and into no group (R362; log 52). -/
def State.defaultTable (s : State) : State :=
  (s.each (List.range 16) fun t e =>
    t.setShadow (R.ACQ_SEQ_ENTRY 0 e) (w32 (0xF000 + (80 + e) + 128 * bit (e = 15)))).armSwap 0

/-- The groups that the entries of table `k` name. -/
def State.tableGroups (s : State) (k : Nat) : List Nat :=
  (List.range 8).filter fun g => (List.range 64).any fun e => s.get (R.ACQ_SEQ_ENTRY_GROUP k e) == g

/-- RUN of table `k` is written (R362): it starts at entry 0, or stops after its conversion and delivers what is partly filled. -/
def State.seqRun (s : State) (k : Nat) (on : Bool) : State :=
  if on = s.flag (R.ACQ_SEQ_CTRL_RUN k) then s
  else if on then
    { ((s.putB (R.ACQ_SEQ_CTRL_RUN k) true).put (R.ACQ_SEQ_CTRL_CUR k) 0).put (R.ACQ_SEQ_CTRL_PASS k) 0 with
        acq.reps := Sparse.set (always 0) s.acq.reps k 0 }
  else
    let s1 := s.each (s.tableGroups k) State.grpDeliver
    let s2 := s1.putB (R.ACQ_SEQ_CTRL_RUN k) false
    if s2.flag (R.ACQ_SEQ_CTRL_SWAP k) then s2.swapTable k else s2

/-- A channel, or 0x100 + k for fast converter k, is under diagnosis (R370). -/
def State.diagnosed (s : State) (chan : Nat) : Bool := s.acq.inserts.any fun i => i.kind = 2 && i.chan = chan

/-- The calibrated code of a sequenced channel (R359, R360): GAIN × (raw − OFFSET), to the nearest code, saturated. -/
def State.seqCode (s : State) (ch raw : Nat) : Nat :=
  let x := (Int.ofNat (raw % 65536) - signedOf 16 (s.get (R.ACQ_CH_CAL_OFFSET ch))) * Int.ofNat (s.get (R.ACQ_CH_CAL_GAIN ch))
  if x < 0 then 0 else min 65535 (divNearest x.toNat 32768)

/-- The table of converter `k` goes on after a conversion (R362, R363): repeats, then the next entry, or a new pass. -/
def State.seqAdvance (s : State) (k : Nat) : State :=
  let e := s.get (R.ACQ_SEQ_CTRL_CUR k)
  let n := Sparse.get (always 0) s.acq.reps k + 1
  if n ≤ s.get (R.ACQ_SEQ_ENTRY_REPEAT_M1 k e) then { s with acq.reps := Sparse.set (always 0) s.acq.reps k n }
  else
    let g := s.get (R.ACQ_SEQ_ENTRY_GROUP k e)
    let s0 := { s with acq.reps := Sparse.set (always 0) s.acq.reps k 0 }
    let s1 := if s0.flag (R.ACQ_SEQ_ENTRY_FLUSH k e) && decide (g < 8) then s0.grpDeliver g else s0
    if s1.flag (R.ACQ_SEQ_ENTRY_END k e) || e = 63 then
      let s2 := (s1.put (R.ACQ_SEQ_CTRL_CUR k) 0).wrapInc (R.ACQ_SEQ_CTRL_PASS k)
      if s2.flag (R.ACQ_SEQ_CTRL_SWAP k) then s2.swapTable k else s2
    else s1.put (R.ACQ_SEQ_CTRL_CUR k) (e + 1)

/-- The table of converter `k` waits for inserted conversions (R364): between entries, where one stands at that converter. -/
def State.seqWaits (s : State) (k : Nat) : Bool :=
  Sparse.get (always 0) s.acq.reps k = 0 && s.acq.inserts.any fun i => decide (i.chan < 0x100) && i.conv = k

/-- SEQ_CONVERSION (R360-R365): converter `k` finishes a conversion of its present entry with a 16-bit code; `sub` is the aperture's place
in the present microsecond. -/
def execSeqConversion (k raw sub : Nat) (s : State) : Out :=
  if 2 ≤ k ∨ !s.running ∨ !s.flag (R.ACQ_SEQ_CTRL_RUN k) ∨ s.seqWaits k then .next s
  else
    let e := s.get (R.ACQ_SEQ_CTRL_CUR k)
    let ch := s.get (R.ACQ_SEQ_ENTRY_CHANNEL k e)
    if s.diagnosed ch then .next (s.seqAdvance k)
    else
      let code := s.seqCode ch raw
      let fl := bit (!s.flag R.ACQ_REF_REF_RDY) + 8 * bit (raw % 65536 = 0 || raw % 65536 = 65535)
      let s1 := ((s.put (R.ACQ_CH_LAST_CONV ch) k).put (R.ACQ_CH_LAST_FLAGS ch) fl).put (R.ACQ_CH_LAST_CODE ch) code
      let s2 := s1.pushSample (0x10 + ch) (fMul (s.rd (R.ACQ_CH_SCALE ch)) (fOfNat code)) fl
      let g := s.get (R.ACQ_SEQ_ENTRY_GROUP k e)
      let s3 := if g < 8 then s2.grpRecord k g ch code fl (40 * s.atime.toNat + sub % 40) else s2
      .next (s3.seqAdvance k)

/-- SEQ_ENTRY_WRITE (R361, R363, R464). -/
def execSeqEntryWrite (w : Writer) (k e : Nat) (delay : Bool) (v : Word) (s0 : State) : Out :=
  s0.windowWrite w 0x0C fun s =>
  if decide (k < 2) && decide (e < 64) && s.mayWrite w 0x0C then .next (s.entryWrite w.stores k e delay v) else .next s

/-- SEQ_SWAP (R363, R464). -/
def execSeqSwap (w : Writer) (k : Nat) (s0 : State) : Out :=
  s0.windowWrite w 0x0C fun s =>
  if decide (k < 2) && s.mayWrite w 0x0C then .next (s.armSwap k) else .next s

/-! ### Reference buffer (R367) -/

/-- REF_READY: 2 ms after REF_BUF_EN rose; REF_RDY rises where channel 94 lies within ±0.5 %. -/
def execRefReady (ok : Bool) (s : State) : Out :=
  if s.running && s.flag R.ACQ_REF_REF_BUF_EN && ok && decide (2000 ≤ s.since s.acq.refAt) then .next (s.putB R.ACQ_REF_REF_RDY true) else .next s

/-- REF_FAULT: REF_RDY falls while the buffer is enabled. -/
def execRefFault (s : State) : Out :=
  if s.running && s.flag R.ACQ_REF_REF_BUF_EN && s.flag R.ACQ_REF_REF_RDY then
    .next (((s.putB R.ACQ_REF_REF_RDY false).putB R.ACQ_REF_FAULT true).raise 0x0C01 2 0x0C)
  else .next s

/-- REF_BUF_EN is set; a rise starts the 2 ms of R367. -/
def State.refOn (s : State) : State :=
  if s.flag R.ACQ_REF_REF_BUF_EN then s else { s.putB R.ACQ_REF_REF_BUF_EN true with acq.refAt := s.atime }

/-- A write of ACQ_REF: REF_BUF_EN = 0 acts only in SERVICE; FAULT clears by 1. -/
def State.refWrite (s : State) (v : Word) : State :=
  let s1 := if bitOf v 2 then s.putB R.ACQ_REF_FAULT false else s
  if bitOf v 0 then s1.refOn
  else if s.md = .service then (s1.putB R.ACQ_REF_REF_BUF_EN false).putB R.ACQ_REF_REF_RDY false
  else s1

/-- REF_BUFFER_WRITE (R367, R464). -/
def execRefBufferWrite (w : Writer) (v : Word) (s0 : State) : Out :=
  s0.windowWrite w 0x0C fun s =>
  if s.mayWrite w 0x0C then .next (s.refWrite v) else .next s

/-! ### Commands (R371) -/

/-- The ACQ block as target. -/
def acqTargets : List Nat := [0x0C]

/-- ACQ_SEQ_WRITE: entry and delay images from byte 20 into the shadow, all or none (log 42). -/
def execAcqSeqWrite (c : Cmd) (s0 : State) : Out :=
  s0.command c 0x5000 fun s =>
  let k := arg c 16 1
  let first := arg c 17 1
  let n := arg c 18 1
  if !s.targets c acqTargets then refuse s c .badParam
  else if !s.modeOk 0x5000 false then refuse s c .rejectedMode
  else if short c 4 || decide (1 < k) || n = 0 || decide (64 < n) || decide (64 < first + n) || short c (4 + 8 * n) ||
      (List.range n).any (fun i => !s.entryOk (argW c (20 + 8 * i))) then refuse s c .badParam
  else
    let s1 := s.each (List.range n) fun t i => (t.entryWrite true k (first + i) false (argW c (20 + 8 * i))).entryWrite true k (first + i) true (argW c (24 + 8 * i))
    .next ((if arg c 19 1 % 2 = 1 then s1.armSwap k else s1).finish c .ok)

/-- ACQ_SEQ_RUN. -/
def execAcqSeqRun (c : Cmd) (s0 : State) : Out :=
  s0.command c 0x5001 fun s =>
  if !s.targets c acqTargets then refuse s c .badParam
  else if !s.modeOk 0x5001 false then refuse s c .rejectedMode
  else if short c 2 || decide (1 < arg c 16 1) || decide (1 < arg c 17 1) then refuse s c .badParam
  else .next ((s.seqRun (arg c 16 1) (arg c 17 1 == 1)).finish c .ok)

/-- The delivered stalls that fit into `room` bytes, oldest first. -/
def takeHandles : List (Bool × Nat × Nat) → Nat → List (Bool × Nat × Nat)
  | [], _ => []
  | h :: t, room => if h.2.1 ≤ room then h :: takeHandles t (room - h.2.1) else []

/-- The bytes of stalls in order; a stall with an uncorrectable word is discarded (R151). -/
def State.readGood (s : State) : List (Bool × Nat × Nat) → State × List Byte
  | [] => (s, [])
  | h :: t =>
    match s.readStall h.2.2 h.2.1 with
    | (u, some bs) => let r := u.readGood t; (r.1, bs ++ r.2)
    | (u, none) => u.readGood t

/-- ACQ_GRP_FETCH: whole delivered stalls into host memory, then released. -/
def execAcqGrpFetch (c : Cmd) (s0 : State) : Out :=
  s0.command c 0x5002 fun s =>
  let g := arg c 16 1
  if !s.targets c acqTargets then refuse s c .badParam
  else if !s.modeOk 0x5002 true then refuse s c .rejectedMode
  else if short c 1 || decide (7 < g) then refuse s c .badParam
  else
    let q := Sparse.get (always []) s.mkt.queues (grpChan g)
    let hs := takeHandles q c.len
    let r := s.readGood hs
    let bs := r.2
    let s0 := r.1
    let s1 := { s0 with mkt.queues := Sparse.set (always []) s.mkt.queues (grpChan g) (q.drop hs.length) }
    let s2 := s1.each hs fun t h => t.freeStall (grpChan g) h.2.2
    .next (s2.finishData c .ok bs (pair64 hs.length bs.length))

/-- The channel of a calibration or diagnosis command is a present fast converter. -/
def fastChan (p : Part) (ch : Nat) : Bool := decide (0x100 ≤ ch) && decide (ch < 0x100 + nFast p)

/-- It is a user-calibrated sequenced channel (R359). -/
def userChan (p : Part) (ch : Nat) : Bool := acqPresent p ch && (decide (ch < 80) || ch == 95)

/-- The enable of the half-bridge that a fast converter measures is asserted. -/
def State.fastInUse (s : State) (ch : Nat) : Bool :=
  decide (0x100 ≤ ch) &&
    (match s.banUnit (s.get (R.EDGE_FC_CFG_CH (ch - 0x100))) with | some u => s.enabled u | none => false)

/-- The converter takes no insertion now (R364). -/
def State.insertBusy (s : State) (ch conv : Nat) : Bool :=
  s.acq.inserts.any fun i => if 0x100 ≤ ch then i.chan = ch else decide (i.chan < 0x100) && i.conv = conv

/-- An insertion begins (R364): its command waits for ACQ_INSERTION_DONE. -/
def State.insertFor (s : State) (c : Cmd) (kind : Nat) (y : Word) : State :=
  { s.begin c with acq.inserts := s.acq.inserts ++
      [{ kind := kind, chan := arg c 16 2, conv := arg c 18 1, master := c.master, tag := c.tag, y := y }] }

/-- The payload names a channel that can be calibrated, and a converter. -/
def State.calPayload (s : State) (c : Cmd) : Bool :=
  !short c 3 && (fastChan s.part (arg c 16 2) || (userChan s.part (arg c 16 2) && decide (arg c 18 1 ≤ 1)))

/-- ACQ_CAL_ZERO (R368). -/
def execAcqCalZero (c : Cmd) (s0 : State) : Out :=
  s0.command c 0x5003 fun s =>
  if !s.targets c acqTargets then refuse s c .badParam
  else if !(s.md = .commission || s.md = .service) then refuse s c .rejectedMode
  else if !s.calPayload c then refuse s c .badParam
  else if s.fastInUse (arg c 16 2) then refuse s c .safetyBlocked
  else if !s.flag R.ACQ_REF_REF_RDY || s.insertBusy (arg c 16 2) (arg c 18 1) then refuse s c .busyRetry
  else .next (s.insertFor c 0 0)

/-- ACQ_CAL_SPAN (R368). -/
def execAcqCalSpan (c : Cmd) (s0 : State) : Out :=
  s0.command c 0x5004 fun s =>
  if !s.targets c acqTargets then refuse s c .badParam
  else if !(s.md = .commission || s.md = .service) then refuse s c .rejectedMode
  else if !s.calPayload c || short c 8 || !fFinite (argW c 20) || (Sparse.get (always none) s.acq.zeros (arg c 16 2)).isNone then refuse s c .badParam
  else if s.fastInUse (arg c 16 2) then refuse s c .safetyBlocked
  else if !s.flag R.ACQ_REF_REF_RDY || s.insertBusy (arg c 16 2) (arg c 18 1) then refuse s c .busyRetry
  else .next (s.insertFor c 1 (argW c 20))

/-- The registers that calibration writes. -/
def State.calRegs (s : State) : List Nat :=
  ((List.range (nFast s.part)).map R.ACQ_FC_CAL) ++ (((List.range 96).filter (userChan s.part)).map R.ACQ_CH_CAL)

/-- ACQ_CAL_STORE (R369): all coefficients enter the parameter set, in COMMISSION. -/
def execAcqCalStore (c : Cmd) (s0 : State) : Out :=
  s0.command c 0x5005 fun s =>
  if !s.targets c acqTargets then refuse s c .badParam
  else if s.md ≠ .commission then refuse s c .rejectedMode
  else
    let cal := s.calRegs.foldl (fun m a => Sparse.set (resetValue s.part) m a (s.rd a)) s.led.stored.cal
    .next ((State.setChanged { s with led.stored.cal := cal, led.present := true }).finish c .ok)

/-- ACQ_DIAG (R370). -/
def execAcqDiag (c : Cmd) (s0 : State) : Out :=
  s0.command c 0x5006 fun s =>
  let m := s.md
  if !s.targets c acqTargets then refuse s c .badParam
  else if !(m = .discover || m = .commission || m = .standby || m = .service || m = .safeStop) then refuse s c .rejectedMode
  else if !s.calPayload c then refuse s c .badParam
  else if s.fastInUse (arg c 16 2) then refuse s c .safetyBlocked
  else if !s.flag R.ACQ_REF_REF_RDY || decide (2 ≤ (s.acq.inserts.filter fun i => i.kind = 2).length) || s.insertBusy (arg c 16 2) (arg c 18 1) then
    refuse s c .busyRetry
  else .next (s.insertFor c 2 0)

/-! ### Insertions end (R364, R368, R370) -/

/-- The nearest integer of a sum over `n`, halves to even. -/
def meanOf (sum : Int) (n : Nat) : Int := if sum < 0 then -Int.ofNat (divNearest sum.natAbs n) else Int.ofNat (divNearest sum.natAbs n)

/-- A result of the ACQ block (R103) for a command that waited. -/
def State.acqResult (s : State) (i : Insert) (st : Status) (v : Nat) : State :=
  if i.master < 3 then s.result i.master i.tag 3 st v false false else s

/-- The zero step ends (R368). -/
def State.zeroDone (s : State) (i : Insert) (sum : Int) (good : Bool) : State :=
  { s with acq.zeros := Sparse.set (always none) s.acq.zeros i.chan (some (sum, good)) }.acqResult i .ok (fDiv (fOfInt sum) (fOfNat 256)).toNat

/-- The span step ends (R368): the gain is computed, and accepted or refused. -/
def State.spanDone (s : State) (i : Insert) (sum : Int) (good : Bool) : State :=
  let fast := decide (0x100 ≤ i.chan)
  match Sparse.get (always none) s.acq.zeros i.chan with
  | none => s.acqResult i .badParam 0
  | some z =>
    let off := meanOf z.1 256
    let a := if fast then R.ACQ_FC_CAL (i.chan - 0x100) else R.ACQ_CH_CAL i.chan
    let scale := s.rd (if fast then R.ACQ_FC_SCALE (i.chan - 0x100) else R.ACQ_CH_SCALE i.chan)
    let n := fDiv i.y scale
    let g := fDiv n (fSub (fDiv (fOfInt sum) (fOfNat 256)) (fOfInt off))
    let ok := good && z.2 && fLe (fOfRatio 8 10) g && fLe g (fOfRatio 12 10) && decide (off.natAbs ≤ if fast then 819 else 3276) &&
      fLe (fOfNat (if fast then 2048 else 16384)) (fAbs n)
    if ok then
      let w := w32 (toBits 16 off + 65536 * (fToInt (fMul g (fOfNat 32768))).toNat)
      ((s.wr a w).raise 0x0C03 0 0x0C).acqResult i .ok w.toNat
    else s.acqResult i .badParam 0

/-- A diagnosis ends (R370): both means against the expected codes. -/
def State.diagDone (s : State) (i : Insert) (sum1 sum2 : Int) : State :=
  let fast := decide (0x100 ≤ i.chan)
  let n := if fast then 256 else 16
  let range := if fast then 16384 else 65536
  let pass (sum e : Int) : Bool := decide (1000 * (sum - e * Int.ofNat n).natAbs ≤ s.get R.ACQ_DIAG_CFG_DIAG_TOL * range * n)
  let p1 := pass sum1 (if fast then -4096 else 16384)
  let p2 := pass sum2 (if fast then 4096 else 49152)
  let v := toBits 16 (meanOf sum1 n) + 65536 * toBits 16 (meanOf sum2 n) + 2 ^ 32 * (bit p1 + 2 * bit p2)
  (if p1 && p2 then s else s.raise 0x0C02 0 0x0C).acqResult i .ok v

/-- ACQ_INSERTION_DONE (R364, R368, R370): the inserted conversions of a channel are over, with the sums of their raw codes at each level,
and whether none was SATURATED or INVALID. -/
def execAcqInsertionDone (chan : Nat) (sum1 sum2 : Int) (good : Bool) (s : State) : Out :=
  match s.acq.inserts.find? (fun i => i.chan = chan) with
  | none => .next s
  | some i =>
    let s1 := { s with acq.inserts := s.acq.inserts.erase i }
    match i.kind with
    | 0 => .next (s1.zeroDone i sum1 good)
    | 1 => .next (s1.spanDone i sum1 good)
    | _ => .next (s1.diagDone i sum1 sum2)

end Sys2Proof.Machine
end

