-- ==== Sys2Proof/Machine/Position.lean ====
section
/-! DEFINITION. The position interfaces of the Motion Gallery: encoders, Hall sets, SENT receivers, resolvers and the emulated encoder
outputs (R347-R354, 17_motion_feedback.md). Intervals are counted in CLK_FILT cycles of 12.5 ns. -/

namespace Sys2Proof.Machine

/-- The MOT block works from DISCOVER on (R337), and its inputs reach it while their bank is live (R53). -/
def State.motLive (s : State) : Bool := s.running && s.md ≠ .boot && s.bankLive 4

/-! ### Encoder emulation (R354) -/

/-- Emulated output `k`. -/
def State.emu (s : State) (k : Nat) : Emu := Sparse.get (always Emu.init) s.mot.emus k
def State.setEmu (s : State) (k : Nat) (e : Emu) : State := { s with mot.emus := Sparse.set (always Emu.init) s.mot.emus k e }

/-- The outputs that follow a source. -/
def State.emusOf (s : State) (src : Nat) : List Nat :=
  (List.range 2).filter fun k => s.flag (R.MOT_EMU_CFG_EN k) && s.get (R.MOT_EMU_CFG_SRC k) == src

/-- Output `k` moves to a position in its counts, at most `budget` edges in the time there is; what it cannot follow is LAG. -/
def State.emuMove (s : State) (k : Nat) (target : Int) (budget : Nat) : State :=
  let e := s.emu k
  let d := target - e.pos
  if d.natAbs ≤ budget then s.setEmu k { pos := target, told := false }
  else
    let p := if 0 ≤ d then e.pos + Int.ofNat budget else e.pos - Int.ofNat budget
    let s1 := (s.putB (R.MOT_EMU_CFG_LAG k) true).setEmu k { pos := p, told := true }
    if e.told then s1 else s1.raise 0x0F06 0 0x0F

/-- Counts of a source revolution on output `k`. -/
def State.emuCounts (s : State) (k : Nat) : Nat := 4 * (s.get (R.MOT_EMU_CFG_LINES_M1 k) + 1)

/-- The outputs that follow source `src` take a position of `num` parts in `den` of a source revolution, within `cycles` of CLK_FILT:
10 MHz is one edge in eight cycles. -/
def State.emuFollow (s : State) (src : Nat) (num : Int) (den cycles : Nat) : State :=
  s.each (s.emusOf src) fun t k => t.emuMove k (num * Int.ofNat (t.emuCounts k) / Int.ofNat (max 1 den)) (cycles / 8)

/-- The pins A, B and Z of output `k` (R354): quadrature of its position, Z at position 0 of a revolution; low while EN = 0. -/
def State.emuPins (s : State) (k : Nat) : Bool × Bool × Bool :=
  if !s.flag (R.MOT_EMU_CFG_EN k) then (false, false, false)
  else
    let p := (s.emu k).pos
    let q := (p % 4).toNat
    let a := q = 1 || q = 2
    let b := decide (2 ≤ q)
    let z := p % Int.ofNat (s.emuCounts k) = 0
    if s.flag (R.MOT_EMU_CFG_INVERT k) then (b, a, z) else (a, b, z)

/-! ### Encoders (R347-R350) -/

/-- Encoder interface `k`. -/
def State.enc (s : State) (k : Nat) : Enc := Sparse.get (always Enc.init) s.mot.encs k
def State.setEnc (s : State) (k : Nat) (e : Enc) : State := { s with mot.encs := Sparse.set (always Enc.init) s.mot.encs k e }

/-- The motors whose POS_SRC is `src` (R339). -/
def State.motorsOn (s : State) (src : Nat) : List Nat :=
  s.motors.filter fun m => ((s.eng (6 + m / 2)).word (336 + 16 * (m % 2) + 5)).toNat = src

/-- The interface shows COUNT and SPEED to the engines (R179). -/
def State.encShow (s : State) (k : Nat) : State :=
  let n := signedOf 32 (s.rd (R.MOT_ENC_COUNT k)).toNat
  let s1 := (s.pushSample (0x70 + k) (fOfInt n) 0).pushSample (0x74 + k) (s.enc k).speed 0
  s1.putB (R.MOT_ENC_STAT_SPEED_VALID k) (!fIsZero (s.enc k).speed)

/-- LINES × 4 of interface `k`. -/
def State.encRev (s : State) (k : Nat) : Nat := 4 * s.get (R.MOT_ENC_LINES_LINES k)

/-- Too many illegal transitions (R348): 0x0F01, and the bridges of the motors that follow the interface. -/
def State.encQerr (s : State) (k : Nat) : State :=
  let s1 := s.raise 0x0F01 1 0x0F
  s1.each (s1.motorsOn (0x70 + k)) fun t m => t.disable (4 + m)

/-- An illegal transition (R348). -/
def State.encIllegal (s : State) (k : Nat) (a b : Bool) : State :=
  let e := s.enc k
  let at_ := (e.illAt.filter fun t => decide (s.since t < 1000000)) ++ [s.atime]
  let s1 := ((s.satInc (R.MOT_ENC_STAT_QERR k)).putB (R.MOT_ENC_STAT_QERR_FLAG k) true).setEnc k
    { e with a := a, b := b, ill := e.ill + 1, illAt := at_, ivals := [], need4 := true, restart := true, dirty := true }
  if e.ill + 1 = 4 ∨ at_.length = 16 then s1.encQerr k else s1

/-- The speed of the last intervals (R349): n counts over their sum. -/
def encSpeed (rev : Nat) (ivals : List Nat) (neg : Bool) : F32 :=
  let l := ivals.take 4
  let t := l.foldl (· + ·) 0
  let v := fMul (fDiv fTwoPi (fOfNat (max 1 rev))) (fOfRatio (l.length * 80000000) (max 1 t))
  if neg then fNeg v else v

/-- A legal edge in a direction, `dt` after the last one (R347, R349). -/
def State.encMove (s : State) (k : Nat) (a b rev : Bool) (dt : Nat) : State :=
  let e := s.enc k
  let still := s.flag (R.MOT_ENC_STAT_STANDSTILL k)
  let turn := !still && rev != s.flag (R.MOT_ENC_STAT_DIR k)
  let n := s.encRev k
  let step : Int := if rev then -1 else 1
  let s1 := ((s.wr (R.MOT_ENC_COUNT k) (s.rd (R.MOT_ENC_COUNT k) + BitVec.ofInt 32 step)).putB (R.MOT_ENC_STAT_STANDSTILL k) false).putB
    (R.MOT_ENC_STAT_DIR k) rev
  let whole := decide (n ≤ e.moved + 1)
  let e1 := { e with a := a, b := b, lastAt := s.atime, moved := if whole then 0 else e.moved + 1, ill := if whole then 0 else e.ill
                     since := e.since + step, dirty := e.dirty || turn, restart := false }
  let e2 :=
    if turn then { e1 with ivals := [], need4 := true, speed := fZero false }
    else if still then { e1 with ivals := [], need4 := false, speed := fZero false }
    else if e.restart then { e1 with ivals := [] }
    else
      let iv := (dt :: e.ivals).take 4
      if e.need4 && decide (iv.length < 4) then { e1 with ivals := iv }
      else { e1 with ivals := iv, need4 := false, speed := encSpeed n iv rev }
  let s2 := s1.setEnc k e2
  let s3 := if turn then (s2.putB (R.MOT_ENC_STAT_DIR_CHG k) true).event 0x40F0 0x0F (w32 k) (w32 (bit rev)) (s2.rd (R.MOT_ENC_COUNT k)) else s2
  (s3.encShow k).emuFollow k (signedOf 32 (s3.rd (R.MOT_ENC_COUNT k)).toNat) n (max 8 dt)

/-- The position of accepted levels in the forward sequence 00, 10, 11, 01 of A and B. -/
def quadPos (a b : Bool) : Nat := if a then (if b then 2 else 1) else (if b then 3 else 0)

/-- ENCODER_EDGE (R347-R349): new accepted levels of A and B, `dt` CLK_FILT cycles after the last edge; both changed is illegal. -/
def execEncoderEdge (k : Nat) (a b : Bool) (dt : Nat) (s : State) : Out :=
  let e := s.enc k
  if 4 ≤ k ∨ !s.motLive ∨ !s.flag (R.MOT_ENC_CFG_EN k) then .next s
  else if a != e.a && b != e.b then .next (s.encIllegal k a b)
  else if a == e.a && b == e.b then .next s
  else .next (s.encMove k a b ((quadPos a b + 4 - quadPos e.a e.b) % 4 = 3) dt)

/-- ENCODER_INDEX (R350): an accepted rise of Z latches COUNT and judges the counts since the last one. -/
def execEncoderIndex (k : Nat) (s : State) : Out :=
  let e := s.enc k
  if 4 ≤ k ∨ !s.motLive ∨ !s.flag (R.MOT_ENC_CFG_EN k) ∨ (s.flag (R.MOT_ENC_CFG_Z_GATE k) && !(e.a && e.b)) then .next s
  else
    let s1 := s.wr (R.MOT_ENC_INDEX k) (s.rd (R.MOT_ENC_COUNT k))
    let bad := e.indexed && !e.dirty && decide (s.get (R.MOT_ENC_CFG_INDEX_TOL k) < natDist e.since.natAbs (s.encRev k))
    let s2 := if bad then (s1.satInc (R.MOT_ENC_STAT_IDX_ERR k)).raise 0x0F02 0 0x0F else s1
    let s3 := s2.setEnc k { e with since := 0, indexed := true, dirty := false, ill := 0, moved := 0 }
    .next (if s.flag (R.MOT_ENC_CFG_INDEX_RESET k) then (s3.wr (R.MOT_ENC_COUNT k) 0).encShow k else s3)

/-- No accepted edge for STOP_TIME, of which 0 acts as 1 ms (R349). -/
def State.encStill (s : State) (k : Nat) : State :=
  if 1000 * max 1 (s.get (R.MOT_ENC_CFG_STOP_TIME k)) ≤ s.since (s.enc k).lastAt then
    ((s.putB (R.MOT_ENC_STAT_STANDSTILL k) true).setEnc k { s.enc k with speed := fZero false, ivals := [], need4 := false }).encShow k
  else s

/-- ENCODER_STANDSTILL (R349). -/
def execEncoderStandstill (k : Nat) (s : State) : Out :=
  if 4 ≤ k ∨ !s.running ∨ !s.flag (R.MOT_ENC_CFG_EN k) then .next s else .next (s.encStill k)

/-- Between edges |SPEED| is capped at one count over the time since the last edge, and it is 0 after STOP_TIME (R349); an engine's strobe
sees the capped value. -/
def State.encCap (s0 : State) (k : Nat) : State :=
  let s := s0.onlyIf (s0.flag (R.MOT_ENC_CFG_EN k) && !s0.flag (R.MOT_ENC_STAT_STANDSTILL k)) fun t => t.encStill k
  let e := s.enc k
  let us := s.since e.lastAt
  if us = 0 || fIsZero e.speed then s
  else
    let c := fMul (fDiv fTwoPi (fOfNat (max 1 (s.encRev k)))) (fOfRatio 1000000 us)
    s.pushSample (0x74 + k) (if fLt c (fAbs e.speed) then (if fSign e.speed then fNeg c else c) else e.speed) 0

/-- A write of MOT_ENC_k_CFG: a rising EN clears COUNT and the error counts and sets STANDSTILL (R347, R349). -/
def State.encWrite (s : State) (k : Nat) (v : Word) : State :=
  let was := s.flag (R.MOT_ENC_CFG_EN k)
  let s1 := s.applyWrite (R.MOT_ENC_CFG k) v (s.fieldsAt (R.MOT_ENC_CFG k)) fun _ => true
  if !was && s1.flag (R.MOT_ENC_CFG_EN k) then
    (((((s1.wr (R.MOT_ENC_COUNT k) 0).put (R.MOT_ENC_STAT_QERR k) 0).put (R.MOT_ENC_STAT_IDX_ERR k) 0).putB (R.MOT_ENC_STAT_STANDSTILL k) true).setEnc k
      { Enc.init with a := (s.enc k).a, b := (s.enc k).b }).encShow k
  else s1

/-- ENCODER_ENABLE (R347, R464). -/
def execEncoderEnable (w : Writer) (k : Nat) (v : Word) (s0 : State) : Out :=
  s0.windowWrite w 0x0F fun s =>
  if decide (k < 4) && s.running && s.mayWrite w 0x0F then .next ((s.encWrite k v).keepReg s w (R.MOT_ENC_CFG k)) else .next s

/-! ### Hall sets (R351) -/

/-- HALL_CODE_CHANGE: an accepted code maps to a sector; the first illegal one after a legal one raises 0x0F03. -/
def execHallCodeChange (k code : Nat) (s : State) : Out :=
  if 3 ≤ k ∨ !s.motLive ∨ !s.flag (R.MOT_HALL_CFG_EN k) then .next s
  else
    let x := s.get (R.MOT_HALL_MAP_SECT k (code % 8))
    let was := Sparse.get (always false) s.mot.hallBad k
    let s1 := { s with mot.hallBad := Sparse.set (always false) s.mot.hallBad k (x = 7) }
    let s2 := s1.pushSample (0x7A + k) (if x = 7 then fNeg fOne else fOfNat x) 0
    .next (if x = 7 && !was then s2.raise 0x0F03 0 0x0F else s2)

/-! ### SENT receivers (R352) -/

/-- A source reports STALE until its next value. -/
def State.staleSource (s : State) (src : Nat) : State :=
  s.each s.engines fun t n => t.modEng n fun e => { e with sampleFlags := Sparse.set (always 0) e.sampleFlags src 4 }

/-- The frame's sync pulse fits: within ±20 % of 56 × TICK and 1/64 of the previous sync. -/
def State.syncFits (s : State) (k sync : Nat) : Bool :=
  let n := 56 * s.get (R.MOT_SENT_CFG_TICK k)
  let near := match Sparse.get (always none) s.mot.sentSync k with | some p => decide (64 * natDist sync p ≤ p) | none => true
  decide (5 * natDist sync n ≤ n) && near

/-- SENT_FRAME: a frame with its sync pulse, data nibbles, CRC check and a serial message it completes ([31:24] ID, [15:0] data). -/
def execSentFrame (k sync : Nat) (nibbles : List Nat) (crcOk : Bool) (slow : Option Nat) (s : State) : Out :=
  if 2 ≤ k ∨ !s.motLive ∨ !s.flag (R.MOT_SENT_CFG_EN k) then .next s
  else
    let n := s.get (R.MOT_SENT_CFG_NIBBLES k)
    let ok := s.syncFits k sync && nibbles.all (fun x => decide (x < 16)) && nibbles.length == n && crcOk
    let s1 := { s with mot.sentSync := Sparse.set (always none) s.mot.sentSync k (some sync) }.putB (R.MOT_SENT_STAT_VALID k) ok
    if !ok then .next (s1.satInc (R.MOT_SENT_STAT_ERRORS k))
    else
      let v := nibbles.foldl (fun a x => 16 * a + x) 0
      let s0 := { s1 with mot.sentAt := Sparse.set (always 0) s1.mot.sentAt k s1.atime, mot.sentTold := Sparse.set (always false) s1.mot.sentTold k false }
      let s2 := (s0.pushSample (0x7D + k) (fOfNat v) 0).emuFollow (0x0C + k) (Int.ofNat v) (16 ^ n) (sync + sync)
      match slow with
      | some m => .next ((s2.putB (R.MOT_SENT_STAT_SLOW_RDY k) true).wr (R.MOT_SENT_SLOW k) (w32 m))
      | none => .next s2

/-- SENT_LOST: no accepted frame for TO, told once. -/
def execSentLost (k : Nat) (s : State) : Out :=
  let told := Sparse.get (always false) s.mot.sentTold k
  let late := decide (1000 * s.get (R.MOT_SENT_CFG_TO k) ≤ s.since (Sparse.get (always 0) s.mot.sentAt k))
  if 2 ≤ k ∨ !s.running ∨ !s.flag (R.MOT_SENT_CFG_EN k) ∨ told ∨ !late then .next s
  else
    let s1 := { s with mot.sentTold := Sparse.set (always false) s.mot.sentTold k true }
    .next (((s1.putB (R.MOT_SENT_STAT_LOST k) true).staleSource (0x7D + k)).raise 0x0F04 0 0x0F)

/-! ### Resolvers (R353) -/

/-- A write of MOT_RES_k_CFG: EN = 1 on a converter still in use, or one converter for both windings, is refused with CFG_ERR. -/
def State.resWrite (s : State) (k : Nat) (v : Word) : State :=
  let used (i : Nat) : Bool := s.flag (R.EDGE_FC_CFG_EN i) || decide (nFast s.part ≤ i)
  let refused := bitOf v 31 && (used (bitsOf v 27 24) || used (bitsOf v 23 20) || bitsOf v 27 24 == bitsOf v 23 20)
  if refused then s.putB (R.MOT_RES_CFG_CFG_ERR k) true
  else s.applyWrite (R.MOT_RES_CFG k) v (s.fieldsAt (R.MOT_RES_CFG k)) fun _ => true

/-- RESOLVER_ENABLE (R353, R464). -/
def execResolverEnable (w : Writer) (k : Nat) (v : Word) (s0 : State) : Out :=
  s0.windowWrite w 0x0F fun s =>
  if decide (k < 2) && s.running && s.mayWrite w 0x0F then .next ((s.resWrite k v).keepReg s w (R.MOT_RES_CFG k)) else .next s

/-- RES_SIGNAL (R353): the amplitude outside 25–95 % for 1 ms; the angle is STALE. -/
def execResSignal (k : Nat) (s : State) : Out :=
  if 2 ≤ k ∨ !s.running ∨ !s.flag (R.MOT_RES_CFG_EN k) then .next s
  else .next (({ s with mot.resBad := Sparse.set (always false) s.mot.resBad k true }.staleSource (0x78 + k)).raise 0x0F05 0 0x0F)

/-- A conversion of a resolver's winding (R353): the tracking loop's angle, whose digits the spec does not give, and the return of its
amplitude, are free (log 41). -/
def State.resConversion (s : State) (c : Nat) : State :=
  s.each (List.range 2) fun t k =>
    if !t.flag (R.MOT_RES_CFG_EN k) || !(t.get (R.MOT_RES_CFG_FC_SIN k) == c || t.get (R.MOT_RES_CFG_FC_COS k) == c) then t
    else
      let w := Config.freeWord 0x61 t.free
      let a := if fIsNaN w then fZero false else fClamp w (fNeg fPi) fPi
      let bad := Sparse.get (always false) t.mot.resBad k && bitOf (Config.freeWord 0x62 t.free) 0
      let t1 := { t.useFree with mot.resBad := Sparse.set (always false) t.mot.resBad k bad }
      let turns := fToInt (fMul (fDiv a fTwoPi) (fOfNat 16777216))
      if bad then t1.staleSource (0x78 + k) else (t1.pushSample (0x78 + k) a 0).emuFollow (0x08 + k) turns 16777216 8

end Sys2Proof.Machine
end

