-- ==== Sys2Proof/Machine/Sync.lean ====
section
/-! DEFINITION. The converter's carrier and its synchronisation (R301-R303, 15_lv_converter.md). Times in FS: 20.48 of them in a nanosecond. -/

namespace Sys2Proof.Machine

/-- The carrier period of a frequency in Hz, in FS. -/
def periodOf (freq : Nat) : Nat := divNearest 20480000000 (max 1 freq)

/-- The carrier period in force; EDGE_TB_4_HALF_A reads its half, rounded to whole CLK_EDGE cycles of 32 FS (R301). -/
def State.carrier (s : State) (p : Nat) : State :=
  (s.put R.CONV_SYNC_STAT_PERIOD p).put (R.EDGE_TB_HALF_A_HALF 4) (divNearest p 64)

/-- STATE of the sync logic changes, with the event SYNC_STATE (R312). -/
def State.syncState (s : State) (v : Nat) : State :=
  if v = s.get R.CONV_SYNC_STAT_STATE then s
  else (s.put R.CONV_SYNC_STAT_STATE v).event 0x20F1 0x0D (w32 v) (w32 (s.get R.CONV_SYNC_STAT_PERIOD))

/-- The carrier of TB_4 starts at INT_FREQ (R302). -/
def State.carrierStart (s : State) : State :=
  ({ s with conv.edges := 0, conv.good := 0 }.carrier (periodOf (s.get R.CONV_SYNC_CFG_INT_FREQ))).syncState 0

/-- A period moved towards `q` by at most `lim`. -/
def towards (p q lim : Nat) : Nat := if p ≤ q then min q (p + lim) else max q (p - lim)

/-- The largest change of the period per period (R302). -/
def State.syncSlew (s : State) (p : Nat) : Nat := divNearest (p * s.get R.CONV_SYNC_CFG_SLEW) 10000

/-- The carrier leaves the external clock, or its own frequency has changed: it glides to INT_FREQ (R301, R302). -/
def State.glide (s : State) : State := { s with conv.edges := 0, conv.good := 0 }.syncState 3

/-- Sync is lost where two valleys have passed since the last valid edge (R303): 0x0D04, and the glide. -/
def State.syncLoss (s : State) : State :=
  let st := s.get R.CONV_SYNC_STAT_STATE
  if (st = 1 ∨ st = 2) ∧ 2 ≤ s.conv.quiet then s.glide.raise 0x0D04 0 0x0D else s

/-- One carrier period passes at a valley of carrier A (R301-R303). A loss that no row has told is found at the next valley. -/
def State.syncStep (s0 : State) : State :=
  let s := { s0.syncLoss with conv.quiet := s0.conv.quiet + 1 }
  let p := s.get R.CONV_SYNC_STAT_PERIOD
  let lim := s.syncSlew p
  let st := s.get R.CONV_SYNC_STAT_STATE
  if st = 3 then
    let q := periodOf (s.get R.CONV_SYNC_CFG_INT_FREQ)
    let s1 := s.carrier (towards p q lim)
    if towards p q lim = q then s1.syncState 0 else s1
  else if st = 1 ∨ st = 2 then
    let p1 := towards p s.conv.interval lim
    let h : Int := max (-(Int.ofNat lim)) (min (Int.ofNat lim) s.conv.phase)
    let small := decide (200 * natDist p1 s.conv.interval < p1) && decide (200 * (s.conv.phase - h).natAbs < p1)
    let g := if small then s.conv.good + 1 else 0
    let s1 := { s with conv.phase := s.conv.phase - h, conv.good := g }.carrier p1
    if st = 1 ∧ 16 ≤ g then s1.syncState 2 else s1
  else s

/-- FOLLOW and INT_FREQ are written (R301, R302, R311): values of INT_FREQ outside 50-500 kHz leave the field unchanged. -/
def State.syncWrite (s : State) (follow : Bool) (freq : Nat) : State :=
  let st := s.get R.CONV_SYNC_STAT_STATE
  let ok := decide (50000 ≤ freq) && decide (freq ≤ 500000)
  let moved := ok && freq != s.get R.CONV_SYNC_CFG_INT_FREQ
  let s1 := s.putB R.CONV_SYNC_CFG_FOLLOW follow
  let s2 := if ok then s1.put R.CONV_SYNC_CFG_INT_FREQ freq else s1
  if s.flag (R.EDGE_TB_CFG_EN 4) && (moved || (!follow && (st = 1 || st = 2))) then s2.glide else s2

/-- The sync logic follows edges: FOLLOW is set and the pin is an input (R302). -/
def State.following (s : State) : Bool := s.flag R.CONV_SYNC_CFG_FOLLOW && !s.flag R.CONV_SYNC_CFG_DIR

end Sys2Proof.Machine
end

