-- ==== Sys2Proof/Machine/Edge.lean ====
section
/-! DEFINITION. The Edge Placer, the band comparators, the gate links and the fast converters
(10_edge_placer_sampling.md, 12_traction_band.md, R358 of 18_analogue_acquisition.md). Times in FS (R202); apertures count the 50 ns grid. -/

namespace Sys2Proof.Machine

/-! ### The Banister -/

/-- BANISTER_REMOVE (R12, R13, R15): a pair removes ENABLE (line 0), or asserts FORCE_STO (1) or FORCE_ASC (2), for a unit; it acts at
the pads at once, and grants of that pair on their way are void. -/
def execBanisterRemove (pair unit line : Nat) (s : State) : Out :=
  if 2 ≤ pair ∨ 10 ≤ unit ∨ s.running = false then .next s
  else
    let l := s.lines pair unit
    let l1 : Lines :=
      match line with
      | 0 => { l with enable := false }
      | 1 => { l with forceSto := true }
      | _ => { l with forceAsc := true }
    let s1 := s.setLines pair unit l1
    let s2 := if line = 0 then { s1 with edge.grants := s1.edge.grants.filter (fun g => g ≠ (pair, unit))
                                         edge.synced := s1.edge.synced.filter (fun g => g ≠ (pair, unit)) } else s1
    .next (s2.refreshUnit unit)

/-- BANISTER_GRANT (R13, R14, R205): a grant that left its Turnstile passes the synchroniser; the channels restart with both pads low. -/
def execBanisterGrant (pair unit : Nat) (s : State) : Out :=
  if s.edge.synced.contains (pair, unit) then
    let s1 := { s with edge.synced := s.edge.synced.erase (pair, unit) }
    .next ((s1.setLines pair unit { s1.lines pair unit with enable := true }).refreshUnit unit)
  else .next s

/-- ASC_INTERLOCK_EXPIRY (R205): ASC_IL has passed since the high-side pad fell; under ASC the low-side pad goes high. -/
def execAscInterlockExpiry (ch : Nat) (s : State) : Out :=
  if decide (ch < nChan s.part) && !(s.chan ch).high then .next ((s.setChan ch { s.chan ch with ilPassed := true }).refreshChan ch)
  else .next s

/-! ### Timebases -/

/-- HALF of the carrier that a channel follows, in CLK_EDGE cycles. -/
def State.carrierHalf (s : State) (m ch : Nat) : Nat :=
  if s.get (R.EDGE_CH_CFG_CAR ch) = 1 then s.get (R.EDGE_TB_HALF_B_HALF m) else s.get (R.EDGE_TB_HALF_A_HALF m)

/-- M of a timebase; 0 acts as 1. -/
def State.tbM (s : State) (n : Nat) : Nat := max 1 (s.get (R.EDGE_TB_CFG_M n))

/-- A LOCKED timebase fits the tick: PERIOD = HALF_A × M × 5/8 (R198). -/
def State.tbFits (s : State) (n : Nat) : Bool :=
  8 * s.get (R.FE_TICK_PERIOD n) = 5 * s.get (R.EDGE_TB_HALF_A_HALF n) * s.tbM n

/-- EN of a timebase is to rise (R198): a LOCKED one that does not fit its tick refuses with TB_MISMATCH; the registers of a pair's second engine
are ignored. -/
def State.tbEnable (s : State) (n : Nat) : State :=
  if s.flag (R.EDGE_TB_CFG_EN n) then s
  else if s.get (R.EDGE_TB_CFG_KIND n) = 0 && (s.primary n).isNone && !s.tbFits n then
    (s.putBit R.EDGE_STATUS_TB_MISMATCH n true).raise 0x0A01 0 0x0A
  else
    let s1 := s.putB (R.EDGE_TB_CFG_EN n) true
    if n = 4 then s1.carrierStart else s1

/-- A write of EDGE_TB_n_CFG (R198, R252): KIND keeps its value while EN = 1. -/
def State.tbWrite (s : State) (n : Nat) (v : Word) : State :=
  let was := s.flag (R.EDGE_TB_CFG_EN n)
  let s1 := s.each (s.fieldsAt (R.EDGE_TB_CFG n)) fun t fd =>
    if fd.is (R.EDGE_TB_CFG_EN n) || (was && fd.is (R.EDGE_TB_CFG_KIND n)) then t else t.writeField (R.EDGE_TB_CFG n) v fd
  if bitOf v 31 then s1.tbEnable n else s1.putB (R.EDGE_TB_CFG_EN n) false

/-- TIMEBASE_START (R198, R464): a write of EDGE_TB_n_CFG. -/
def execTimebaseStart (w : Writer) (n : Nat) (v : Word) (s0 : State) : Out :=
  s0.windowWrite w 0x0A fun s =>
  if s.mayWrite w 0x0A && fePresent s.part n then .next (s.tbWrite n v) else .next s

/-! ### Schedules -/

/-- A fraction of `t` steps, to the nearest step: `x` lies in 0 to 1 (R202). On the ELX-9430 an edge lies on every fourth step. -/
def State.steps (s : State) (x : F32) (t : Nat) : Nat :=
  let k := if fPow x < 0 then divNearest (fSig x * t) (2 ^ (-fPow x).toNat) else fSig x * t * 2 ^ (fPow x).toNat
  if s.part = .elx9430 then 4 * divNearest k 4 else k

/-- DT and MIN_PULSE of a channel in FS; a MIN_PULSE below 4,096 acts as 4,096. -/
def State.deadTime (s : State) (ch : Nat) : Nat := s.get (R.EDGE_CH_DT_DT ch)
def State.minPulse (s : State) (ch : Nat) : Nat := max 4096 (s.get (R.EDGE_CH_DT_MIN_PULSE ch))

/-- A time of `n / d` FS to the nearest edge step (R202). -/
def State.edgeStep (s : State) (n d : Nat) : Nat :=
  let k := divNearest n d
  if s.part = .elx9430 then 4 * divNearest k 4 else k

/-- The on-time of a duty in a period of `t` FS after R201, and the dropped interval: on (true) or off (false). -/
def State.onTime (s : State) (ch : Nat) (d : F32) (t : Nat) : Nat × Option Bool :=
  let on := s.steps d t
  if 0 < on ∧ on < s.minPulse ch then (0, some true)
  else if on < t ∧ t - on < s.minPulse ch then (t, some false)
  else (on, none)

/-- The schedule of a channel in a carrier period: where the high side is switched on and off, in FS from the valley; its level where nothing
switches, none where it stays as it is; and the middles of the intervals that R201 drops. -/
structure Sched where
  edges : Option (Nat × Nat)
  level : Option Bool
  drops : List Nat
  deriving DecidableEq, Repr

/-- The schedule that a duty or phase gives a channel in a period of `t` FS (R200-R202). -/
def State.sched (s : State) (ch t : Nat) (d : F32) : Sched :=
  let off := s.get (R.EDGE_CH_CFG_PH_OFF ch)
  if s.get (R.EDGE_CH_CFG_MODE ch) = 2 then
    let st := s.edgeStep ((fSig d * 2 ^ (fPow d + 150).toNat + off * 2 ^ 134) * t) (2 ^ 150) % t
    if t / 2 < s.minPulse ch then { edges := none, level := none, drops := [(st + t / 4) % t, (st + 3 * t / 4) % t] }
    else { edges := some (st, (st + t / 2) % t), level := none, drops := [] }
  else
    let o := s.edgeStep (off * t) 65536
    let r := s.onTime ch d t
    let drops : List Nat := match r.2 with | some true => [o % t] | some false => [(o + t / 2) % t] | none => []
    if r.1 = 0 ∨ r.1 = t then { edges := none, level := some (decide (r.1 ≠ 0)), drops := drops }
    else
      let half := if s.part = .elx9430 then 4 * (r.1 / 8) else r.1 / 2
      { edges := some ((t - (r.1 - half) + o) % t, (half + o) % t), level := none, drops := drops }

/-- How often the carrier of period `t` passes position `x` in the `len` FS that end at position `at_`. -/
def passes (x at_ len t : Nat) : Nat :=
  (((Int.ofNat at_ - Int.ofNat x) / Int.ofNat t) - ((Int.ofNat at_ - Int.ofNat len - Int.ofNat x) / Int.ofNat t)).toNat

/-- The level of the high side at position `x` (R200). -/
def Sched.at_ (c : Sched) (x t : Nat) : Option Bool :=
  match c.edges with
  | some (r, f) => some (decide ((x + t - r) % t < (f + t - r) % t))
  | none => c.level

/-- Where an update point finds the carriers: at a peak or a valley of carrier A, carrier B at `posB` / 65,536 of its period, and the time since
the last update point, in FS. -/
structure CarrierPt where
  peak : Bool
  posB : Nat
  len : Nat
  deriving DecidableEq, Repr

/-- The position of the carrier that a channel follows at an update point, in a period of `t` FS. -/
def State.carrierAt (s : State) (ch t : Nat) (p : CarrierPt) : Nat :=
  if s.get (R.EDGE_CH_CFG_CAR ch) = 1 then p.posB % 65536 * t / 65536 else if p.peak then t / 2 else 0

/-- A channel follows its schedule: granted, unforced, driven, in a carrier mode (R200, R205). -/
def State.scheduled (s : State) (ch : Nat) : Bool :=
  match s.banUnit ch with
  | some u => (s.padForce u).isNone && !(s.chan ch).band && s.padDriven ch && s.get (R.EDGE_CH_CFG_MODE ch) != 0
  | none => false

/-- The high side of a channel switches. -/
def State.toggle (s : State) (ch : Nat) : State := (s.setChan ch { s.chan ch with cmdHigh := !(s.chan ch).cmdHigh }).refreshChan ch

/-- What the schedule in force has done since the last update point: its edges, and the intervals dropped (R200, R201; log 31). -/
def State.schedRun (s : State) (m ch : Nat) (p : CarrierPt) : State :=
  match (s.chan ch).duty with
  | none => s
  | some d =>
    if !s.scheduled ch || !(s.chan ch).taken then s
    else
      let t := 64 * s.carrierHalf m ch
      let c := s.sched ch t d
      let at_ := s.carrierAt ch t p
      let n := match c.edges with | some (r, f) => passes r at_ p.len t + passes f at_ p.len t | none => 0
      let k := (c.drops.map fun x => passes x at_ p.len t).foldl (· + ·) 0
      ((List.range k).foldl (fun u _ => u.satInc (R.EDGE_CH_STAT_DROPPED ch)) ((List.range n).foldl (fun u _ => u.toggle ch) s))

/-- The channel takes up its schedule at an update point (R200, R205, R253). -/
def State.schedPoint (s : State) (m ch : Nat) (p : CarrierPt) : State :=
  let c := s.chan ch
  match c.duty with
  | none => s
  | some d =>
    if !s.scheduled ch then s
    else
      let t := 64 * s.carrierHalf m ch
      let lv := ((s.sched ch t d).at_ (s.carrierAt ch t p) t).getD c.cmdHigh
      if (s.leg ch).dwelling && lv != c.cmdHigh then s.setLeg ch { s.leg ch with pend := some lv }
      else (s.setChan ch { c with cmdHigh := lv, taken := true }).refreshChan ch

/-! ### The quiet window (R211-R213) -/

/-- The channels of the quiet group of channel `ch`: the legs of its set or motor, and with QUIET_PAIR those of the paired set. -/
def State.quietGroup (s : State) (m ch : Nat) : List Nat :=
  match s.banUnit ch with
  | none => [ch]
  | some u =>
    match s.partner u with
    | some v => if decide (u < 4) && s.flag (R.EDGE_TB_SAMP_QUIET_PAIR m) then s.unitChans u ++ s.unitChans v else s.unitChans u
    | none => s.unitChans u

/-- An edge at `x` lies in the window of the sample at `at_`: from `settle` before it to 50 ns after it (R211). -/
def inWindow (t settle at_ x : Int) : Bool :=
  let y := (x - at_ + settle) % t
  decide (0 < y) && decide (y < settle + 1024)

/-- A channel's part in the quiet window: its edges at gate level, and the interval round a sample point: the FS since its first crossing and to
its second. -/
def State.gateEdges (s : State) (ch : Nat) (r f : Int) : List Int :=
  let dt := Int.ofNat (s.deadTime ch)
  if s.get (R.EDGE_CH_CFG_MODE ch) = 4 then [f, r + dt] else [r, r + dt, f, f + dt]

/-- The schedule whose edges can spoil a sample of the group of `ch`: none of a channel that is held low, has no command, or does not switch. -/
def State.quietSched (s : State) (m ch : Nat) : Option (Nat × Nat) :=
  match (s.chan ch).duty with
  | some d => if s.scheduled ch && !(s.chan ch).faultLow then (s.sched ch (64 * s.carrierHalf m ch) d).edges else none
  | none => none

/-- The window of a sample at `at_` has an edge of channel `ch` in it. -/
def State.spoils (s : State) (m ch : Nat) (at_ : Int) : Bool :=
  match s.quietSched m ch with
  | some (r, f) => (s.gateEdges ch r f).any (inWindow (64 * s.carrierHalf m ch) (128 * s.get (R.EDGE_TB_SAMP_T_SETTLE m)) at_)
  | none => false

/-- The smallest shift that places the window inside the quiet part of the interval round a sample point (R213): the interval began `a` FS ago
and ends in `b`. -/
def quietShift (settle dt a b : Int) : Option Int :=
  let hi := a - dt - settle
  let lo := 1024 - b
  if hi < lo then none else some (if hi < 0 then hi else if 0 < lo then lo else 0)

/-- The shift that the scheduler makes for a channel that spoils the sample at `at_` (R213); none where it is rejected. `other` is the other
sample point of the period, where it is one and its window is clean. -/
def State.shiftFor (s : State) (m ch : Nat) (at_ : Int) (other : Option Int) : Option Int :=
  match s.quietSched m ch with
  | none => none
  | some (r, f) =>
    let t : Int := 64 * s.carrierHalf m ch
    let settle : Int := 128 * s.get (R.EDGE_TB_SAMP_T_SETTLE m)
    let dt := Int.ofNat (s.deadTime ch)
    let on := decide ((at_ - r) % t < (Int.ofNat f - r) % t)
    let a := if on then (at_ - r) % t else (at_ - f) % t
    let b := if on then (f - at_) % t else (r - at_) % t
    match quietShift settle dt a b with
    | none => none
    | some x =>
      let hits := match other with
        | some o => (s.gateEdges ch (r + x) (f + x)).any (inWindow t settle o)
        | none => false
      if x = 0 || decide (128 * s.get (R.EDGE_TB_SAMP_SHIFT_MAX m) < x.natAbs) || decide (t / 2 < a - x) || decide (t / 2 < b + x) ||
          decide (a + b < s.minPulse ch) || hits then none
      else some x

/-- The clean test and the shift scheduler for one channel and one sample point (R211-R213): whether it still spoils the sample, and whether a
shift was made. -/
def State.quietPoint (s : State) (m ch : Nat) (peak : Bool) : Bool × Bool :=
  let half : Int := 32 * s.carrierHalf m ch
  let at_ : Int := if peak then half else 0
  let opp : Int := if peak then 0 else half
  if !s.spoils m ch at_ then (false, false)
  else
    let group := s.quietGroup m ch
    let shiftOn := s.part = .elx9460 && s.flag (R.EDGE_TB_SAMP_SHIFT_EN m) && !group.any (fun g => (s.chan g).band)
    let sampled := s.flag (if peak then R.EDGE_TB_CFG_SAMP_VALLEY m else R.EDGE_TB_CFG_SAMP_PEAK m)
    let other := if sampled && !group.any (fun g => s.spoils m g opp) then some opp else none
    if shiftOn && (s.shiftFor m ch at_ other).isSome then (false, true) else (true, false)

/-- The scheduler at an update point, for one channel and the sample points up to the next update point (R213); a FREE timebase has none (R210). -/
def State.quietChan (s : State) (m ch : Nat) (p : CarrierPt) (both : Bool) : State :=
  let func := s.chanFunc ch
  if !(func = 1 || func = 4) || (s.chan ch).band || s.get (R.EDGE_TB_CFG_KIND m) = 1 then
    s.setChan ch { s.chan ch with spoilPeak := false, spoilValley := false }
  else
    let one (t : State) (peak : Bool) : State :=
      if both && peak = p.peak then t
      else
        let q := if t.flag (if peak then R.EDGE_TB_CFG_SAMP_PEAK m else R.EDGE_TB_CFG_SAMP_VALLEY m) then t.quietPoint m ch peak else (false, false)
        let c := t.chan ch
        let t1 := t.setChan ch (if peak then { c with spoilPeak := q.1 } else { c with spoilValley := q.1 })
        if q.2 then t1.satInc (R.EDGE_CH_STAT_SHIFTS ch) else t1
    one (one s true) false

/-! ### Releases at an update point (R199, R245, R246) -/

/-- An engine has a band comparator (EDGE_BAND_n exists). -/
def hasBand (m : Nat) : Bool := m ≠ 4 && m ≠ 5

/-- The commands of the last release join those of earlier ones, which they replace kind by kind (R199). -/
def State.settleCmds (s : State) (ch : Nat) : State :=
  let c := s.chan ch
  if c.latest.isEmpty then s
  else s.setChan ch { c with arrived := (c.arrived.filter fun y => !c.latest.any fun z => z.kind == y.kind) ++ c.latest, latest := [] }

/-- The value of a kind among a channel's arrived commands. -/
def Chan.cmd (c : Chan) (kind : Nat) : Option Word := (c.arrived.find? fun x => x.kind == kind).map (·.val)

/-- The reference a leg has reached on its ramp (R246). -/
def Leg.now (l : Leg) : F32 :=
  if l.steps ≤ l.step then l.dest else fAdd l.from_ (fMul (fSub l.dest l.from_) (fOfRatio l.step l.steps))

/-- A new reference of a leg of engine `k`: a step, or a ramp over one tick period from the value reached (R246). -/
def State.newRef (s : State) (k ch : Nat) (r : F32) (asStep : Bool) : State :=
  let l := s.leg ch
  let n := if asStep || !s.flag (R.EDGE_BAND_CFG_INTERP k) then 0 else s.tickLen k / 20
  (s.setLeg ch { l with from_ := l.now, dest := r, step := 0, steps := n }).setChan ch { s.chan ch with ref := some r }

/-- The commands that one channel of engine `k` has waiting take effect under an effective mode (R199, R245, R246). -/
def State.applyChan (s : State) (k ch : Nat) (band switched : Bool) : State :=
  let c := s.chan ch
  let s1 :=
    if band then
      let t := match c.cmd 1 with | some r => s.newRef k ch r switched | none => s
      match c.cmd 2 with | some h => t.setChan ch { t.chan ch with half := some h } | none => t
    else match c.cmd 0 with | some d => s.setChan ch { c with duty := some d } | none => s
  let s2 := s1.setChan ch { s1.chan ch with arrived := [], band := band }
  if switched && band then s2.setLeg ch { s2.leg ch with decided := c.taken, high := c.cmdHigh } else s2

/-- The vector of a unit's leg states (R243). -/
def State.vector (s : State) (u : Nat) : Nat := packBits ((s.unitChans u).map fun h => (s.leg h).high)

/-- The commands of one unit of engine `k` take effect (R199, R245): the effective mode, and what is discarded. -/
def State.applyUnit (s : State) (k u : Nat) : State :=
  let chs := s.unitChans u
  let has (x : Nat) : Bool := chs.all fun h => ((s.chan h).cmd x).isSome
  let any (x : Nat) : Bool := chs.any fun h => ((s.chan h).cmd x).isSome
  let eff := chs.any fun h => (s.chan h).band
  let live := decide (u < 4) && s.flag (R.EDGE_BAND_CFG_LIVE_SW k)
  let cfg : Bool := chs.any fun h => s.get (R.EDGE_CH_CFG_MODE h) = 3
  let band :=
    if !(decide (u < 8)) then false
    else if !live then cfg
    else if has 1 && !any 0 && (eff || has 2) then true
    else if has 0 && !any 1 && !any 2 then false
    else eff
  let mixed := if band then any 0 else any 1 || any 2
  let s1 := s.each chs fun t h => t.applyChan k h band (band && !eff)
  let s2 := if band && !eff then s1.setBand u ((s1.band u).clear (s1.vector u)) else s1
  let s3 := if hasBand k then s2.putB (R.EDGE_BAND_STAT_EFF_BAND k) band else s2
  if mixed && hasBand k then s3.satInc (R.EDGE_BAND_STAT_MIXED k) else s3

/-- The units that engine `m` drives. -/
def State.unitsOf (s : State) (m : Nat) : List Nat :=
  match m with
  | 4 => [unitConv]
  | 5 => [unitCharger]
  | 6 => [4, 5]
  | 7 => [6, 7]
  | _ => if decide (m < nSets s.part) then [m] else []

/-- An update point of the timebase of engine `m`, for the channels of engine `k` (R199): what the schedule in force has done, the commands that
apply, and the schedule and samples ahead. The commands of the last release wait where they are not `settled`. -/
def State.updateEngine (s : State) (m k : Nat) (p : CarrierPt) (settled : Bool) : State :=
  let both := s.flag (R.EDGE_TB_CFG_UPD_PEAK m) && s.flag (R.EDGE_TB_CFG_UPD_VALLEY m)
  let chs := s.engineChans k
  let s1 := s.each chs fun t h => t.schedRun m h p
  let s2 := if settled then s1.each chs State.settleCmds else s1
  let s3 := if settled || chs.any (fun h => !(s.chan h).arrived.isEmpty) then s2.each (s2.unitsOf k) fun t u => t.applyUnit k u else s2
  (s3.each chs fun t h => t.schedPoint m h p).each chs fun t h => t.quietChan m h p both

/-- Timebase `n` is FREE and every channel on it in BAND: its commands apply 25 ns after they arrive (R199). -/
def State.allBand (s : State) (n : Nat) : Bool :=
  s.get (R.EDGE_TB_CFG_KIND n) = 1 &&
    (s.engineChans n ++ (match s.secondary n with | some k => s.engineChans k | none => [])).all fun h => s.get (R.EDGE_CH_CFG_MODE h) = 3

/-- The time between two update points of timebase `n` in FS: a carrier-A period, or half of it (R199). -/
def State.updateGap (s : State) (n : Nat) : Nat :=
  let h := 32 * s.get (R.EDGE_TB_HALF_A_HALF n)
  if s.flag (R.EDGE_TB_CFG_UPD_PEAK n) && s.flag (R.EDGE_TB_CFG_UPD_VALLEY n) then h else 2 * h

/-- UPDATE_POINT (R199, R200, R212, R213): timebase `n` is at a valley or a peak of carrier A, with carrier B where `at_` says; or,
on a FREE timebase whose channels are all in BAND, 25 ns have passed since a release arrived. `settled`: the last release arrived at least 1.2 µs
before. A valley of TB_4's carrier moves its period (R301). -/
def execUpdatePoint (n : Nat) (at_ : CarrierAt) (settled : Bool) (s : State) : Out :=
  if !fePresent s.part n || !s.flag (R.EDGE_TB_CFG_EN n) || (s.primary n).isSome then .next s
  else
    let s0 := if n = 4 ∧ at_.peak = false then s.syncStep else s
    let all := s.allBand n
    if !all && !(s.flag (if at_.peak then R.EDGE_TB_CFG_UPD_PEAK n else R.EDGE_TB_CFG_UPD_VALLEY n)) then .next s0
    else
      let p : CarrierPt := { peak := at_.peak, posB := at_.posB, len := s.updateGap n }
      let s1 := s0.updateEngine n n p (settled || all)
      match s1.secondary n with
      | some k => .next (s1.updateEngine n k p (settled || all))
      | none => .next s1

/-! ### Band comparators -/

/-- The interval of the vector in force ends (R243): its slopes are written where every leg had a state in it (`known`) and it held two clean
conversions 100 ns apart. -/
def BandSet.close (b : BandSet) (known : Bool) (v t : Nat) : BandSet :=
  let slope (d0 d1 : Int) (n : Nat) : Word := fDiv (fOfInt (d1 - d0)) (fOfNat n)
  let sl :=
    match b.first, b.last with
    | some (t0, a0, c0), some (t1, a1, c1) =>
      if known && decide (t0 + 2 ≤ t1) then
        Sparse.set (always 0) (Sparse.set (always 0) b.slopes (2 * b.vec) (slope a0 a1 (t1 - t0))) (2 * b.vec + 1) (slope c0 c1 (t1 - t0))
      else b.slopes
    | _, _ => b.slopes
  { b with slopes := sl, vec := v, first := none, last := none, path := b.path ++ [(v, t)] }

/-- The sum of slope times time over the vectors in force up to aperture `t` (R243). -/
def pathSum (slopes : Sparse Word) (sensor t : Nat) : List (Nat × Nat) → F32
  | [] => fZero false
  | (v, t0) :: rest =>
    let t1 := match rest with | [] => t | (_, x) :: _ => x
    fAdd (fMul (Sparse.get (always 0) slopes (2 * v + sensor)) (fOfNat (t1 - t0))) (pathSum slopes sensor t rest)

/-- The predicted current of a sensor at aperture `t` in counts; none before any clean conversion (R243). -/
def State.predicted (s : State) (u sensor t : Nat) : Option F32 :=
  let b := s.band u
  match b.base with
  | none => none
  | some (_, a, c) =>
    let i0 := fOfInt (if sensor = 0 then a else c)
    if (s.unitChans u).any (fun h => !(s.leg h).decided) then some i0 else some (fAdd i0 (pathSum b.slopes sensor t b.path))

/-- The engine whose EDGE_BAND registers govern a leg (R238-R242): its own, that of a pair's secondary too. -/
def State.bandReg (s : State) (h : Nat) : Nat := (s.chanEngine h).getD 0

/-- Aperture `t` lies within the blanking that a change of state of leg `h` brings set `k` (R217, R242), in fifths of FS: pad 170 ns after the
aperture, gate level T_OFF later, the second edge DT later, then T_BLANK. -/
def State.blankedBy (s : State) (k h t : Nat) : Bool :=
  let a := 17408 + 5 * s.get (R.GATE_CH_DELAY_T_OFF h)
  let b := a + 5 * s.deadTime h + 640 * s.get (R.EDGE_BAND_CFG_T_BLANK k)
  (s.leg h).decided && (s.leg h).past.any fun c => decide (c ≤ t) && decide (a ≤ 5120 * (t - c)) && decide (5120 * (t - c) ≤ b)

/-- A leg of the quiet group switches on a carrier, and `edge` says that the aperture lies within T_BLANK of such an edge (R242). -/
def State.blankedEdge (s : State) (m h : Nat) (edge : Bool) : Bool := edge && (s.quietSched m h).isSome

/-- An aperture of a conversion of channel `ch` is blanked (R241, R242). -/
def State.blanked (s : State) (m ch t : Nat) (edge invalid : Bool) : Bool :=
  invalid || (s.quietGroup m ch).any fun h => s.blankedBy (s.bandReg ch) h t || s.blankedEdge m h edge

/-- The commanded state of a band leg changes at aperture `t` (R238, R239, R242). -/
def State.legChange (s : State) (u h t : Nat) (hi : Bool) : State :=
  let l := s.leg h
  let known := (s.unitChans u).all fun x => (s.leg x).decided
  let s1 := s.setLeg h { l with decided := true, high := hi, dwelling := true, past := t :: l.past.filter fun c => decide (t < c + 256) }
  let s2 := (s1.setChan h { s1.chan h with cmdHigh := hi, taken := true, changes := (s1.chan h).changes + 1 }).refreshChan h
  s2.setBand u ((s2.band u).close known (s2.vector u) t)

/-- A band leg judges a current in counts at aperture `t` (R238-R240). `scale` is SCALE of the converter. -/
def State.judgeLeg (s : State) (u h t : Nat) (scale i : F32) : State :=
  let c := s.chan h
  match c.half with
  | none => s
  | some hw =>
    if !c.band || (s.padForce u).isSome || c.ref.isNone then s
    else
      let l := { s.leg h with step := (s.leg h).step + 1 }
      let s0 := s.setLeg h l
      let hc := max 1 (fToInt (fDiv hw scale))
      let e := fSub (fDiv l.now scale) i
      let want : Option Bool := if fLt (fOfInt hc) e then some true else if fLt e (fOfInt (-hc)) then some false else none
      match want with
      | none => s0
      | some x =>
        if l.decided && l.high == x then s0
        else if l.dwelling then (if hasBand (s.bandReg h) then s0.satInc (R.EDGE_BAND_STAT_DWELL_HOLD (s.bandReg h)) else s0)
        else s0.legChange u h t x

/-- Both conversions of an aperture are there and neither is blanked: the slope table's clean conversion (R243). -/
def State.cleanPair (s : State) (u t : Nat) (a b : Int) : State :=
  let x := s.band u
  s.setBand u { x with first := some (x.first.getD (t, a, b)), last := some (t, a, b), base := some (t, a, b), path := [(x.vec, t)] }

/-- The fast converter that measures the other phase of the unit, at the same aperture. -/
def State.otherConv (s : State) (k u t : Nat) : Option Nat :=
  (List.range (nFast s.part)).find? fun j =>
    decide (j ≠ k) && decide (s.banUnit (s.get (R.EDGE_FC_CFG_CH j)) = some u) && decide ((Sparse.get (always Conv.init) s.edge.convs j).t = t)

/-- The current of leg c in counts of sensor a, from both sensors' currents and scales (R238). -/
def thirdCurrent (ca cb sa sb : F32) : F32 :=
  if sa = sb then fNeg (fAdd ca cb) else fDiv (fNeg (fAdd (fMul sa ca) (fMul sb cb))) sa

/-- A conversion of the phase current of channel `ch` reaches the band comparators (R238-R243). `edge`: see `blankedEdge`. An aperture is
counted as predicted once, with the first of its conversions that is blanked. -/
def State.compare (s : State) (k ch m u t : Nat) (count : Int) (edge invalid : Bool) : State :=
  let blank := s.blanked m ch t edge invalid
  let sensor := if s.chanLeg ch = 0 then 0 else 1
  let scale := s.rd (R.ACQ_FC_SCALE k)
  let cur (x : Nat) (b : Bool) (c : Int) : Option F32 := if b then s.predicted u x t else some (fOfInt c)
  let mate := s.otherConv k u t
  let other := mate.map fun j => Sparse.get (always Conv.init) s.edge.convs j
  let otherBlank := match other with | some o => (match o.clean with | some (x, _) => decide (x ≠ t) | none => true) | none => false
  let n := s.bandReg ch
  let s0 := if blank && !otherBlank && (s.chan ch).band && hasBand n then s.satInc (R.EDGE_BAND_PRED_PRED_CONV n) else s
  let s1 := match cur sensor blank count with | some i => s0.judgeLeg u ch t scale i | none => s0
  match mate, other with
  | some j, some o =>
    let third := (s1.unitChans u).filter fun h => s1.chanLeg h = 2
    let mine := cur sensor blank count
    let his := cur (1 - sensor) otherBlank o.count
    let hisScale := s.rd (R.ACQ_FC_SCALE j)
    let s2 :=
      match mine, his with
      | some i, some i2 =>
        let sa := if sensor = 0 then scale else hisScale
        let c := if sensor = 0 then thirdCurrent i i2 scale hisScale else thirdCurrent i2 i hisScale scale
        s1.each third fun y h => y.judgeLeg u h t sa c
      | _, _ => s1
    if blank || otherBlank then s2 else if sensor = 0 then s2.cleanPair u t count o.count else s2.cleanPair u t o.count count
  | _, _ => s1

/-! ### Fast converters -/

/-- The calibrated count of a fast converter (R358): GAIN × (raw − OFFSET), to the nearest count, saturated. -/
def State.fastCount (s : State) (k raw : Nat) : Int :=
  let x := (signedOf 14 raw - signedOf 16 (s.get (R.ACQ_FC_CAL_OFFSET k))) * Int.ofNat (s.get (R.ACQ_FC_CAL_GAIN k))
  let m : Int := Int.ofNat (divNearest x.natAbs 32768)
  max (-8192) (min 8191 (if x < 0 then -m else m))

/-- The sample of a tick is taken from converter `k` (R179, R210, R214, R215, R244). `inst` is 1 at a peak, 2 at a valley, 3 on a FREE timebase. -/
def State.tickSample (s : State) (k ch m t inst : Nat) (count : Int) (flags : Nat) : State :=
  let cv := Sparse.get (always Conv.init) s.edge.convs k
  let group := s.quietGroup m ch
  let band := (s.chan ch).band
  let old : Option Int :=
    match cv.clean with
    | some (t0, c) => if 8 * (t - t0) ≤ s.get (R.EDGE_TB_SAMP_T_SETTLE m) then some c else none
    | none => none
  let spoiled := if inst = 1 then group.any (fun h => (s.chan h).spoilPeak) else if inst = 2 then group.any (fun h => (s.chan h).spoilValley) else false
  let good : Option Int := if band then old else if spoiled then none else some count
  match good with
  | some c =>
    let s1 := { s.put (R.EDGE_FC_STAT_RUN k) 0 with edge.predTold := Sparse.set (always false) s.edge.predTold k false }
    s1.pushSample k (fMul (s.rd (R.ACQ_FC_SCALE k)) (fOfInt c)) flags
  | none =>
    let v := match s.chanEngine ch with | some n => (s.eng n).seen (s.get (R.EDGE_FC_CFG_PRED_WORD k)) | none => 0
    let s1 := (s.satInc (R.EDGE_FC_STAT_PREDICTED k)).satInc (R.EDGE_FC_STAT_RUN k)
    let s2 := s1.pushSample k v (flags ||| 2)
    if s.get (R.EDGE_FC_CFG_PRED_MAX k) < s1.get (R.EDGE_FC_STAT_RUN k) ∧ Sparse.get (always false) s.edge.predTold k = false then
      ({ s2 with edge.predTold := Sparse.set (always false) s2.edge.predTold k true }).raise 0x0A03 0 0x0A
    else s2

/-- The sample instant `inst` is one of timebase `m` (R210): a peak or a valley that is a sample point of a LOCKED one, or the instant of a FREE
one; a timebase that does not run has none. -/
def State.instOk (s : State) (m inst : Nat) : Bool :=
  s.flag (R.EDGE_TB_CFG_EN m) &&
  match inst with
  | 1 => s.get (R.EDGE_TB_CFG_KIND m) = 0 && s.flag (R.EDGE_TB_CFG_SAMP_PEAK m)
  | 2 => s.get (R.EDGE_TB_CFG_KIND m) = 0 && s.flag (R.EDGE_TB_CFG_SAMP_VALLEY m)
  | 3 => s.get (R.EDGE_TB_CFG_KIND m) = 1
  | _ => false

/-- FAST_CONVERSION (R209-R215, R238-R244, R358): converter `k` finishes the conversion of aperture `t`, which stands to a tick's
sample instant and to the gate-level edges of its quiet group as `inst` says, with a 14-bit code. -/
def execFastConversion (k t raw : Nat) (inst : Instant) (s : State) : Out :=
  if nFast s.part ≤ k ∨ !s.running then .next s
  else if s.acq.inserts.any (fun i => i.kind = 2 && i.chan = 0x100 + k) then .next s
  else
    let ch := s.get (R.EDGE_FC_CFG_CH k)
    let c := s.fastCount k raw
    let inv := !s.flag R.ACQ_REF_REF_RDY
    let sat := raw % 16384 = 8192 || raw % 16384 = 8191
    let fl := bit inv + 8 * bit sat
    let m := s.timer ((s.chanEngine ch).getD 0)
    let blank := s.blanked m ch t inst.edge inv
    let cv := Sparse.get (always Conv.init) s.edge.convs k
    let s1 := { s with edge.convs := Sparse.set (always Conv.init) s.edge.convs k
                         { t := t, count := c, flags := fl, clean := if blank then cv.clean else some (t, c) } }
    let s2 := (match s1.banUnit ch with | some u => s1.compare k ch m u t c inst.edge inv | none => s1).resConversion k
    if !s.instOk m inst.kind || !s.flag (R.EDGE_FC_CFG_EN k) then .next s2
    else .next ((s2.tickSample k ch m t inst.kind c fl).each s2.engines State.wakeSld)

/-- BAND_DWELL_END (R239, R253): the hold of a leg ends; a schedule level that waited is taken up. -/
def execBandDwellEnd (ch : Nat) (s : State) : Out :=
  let l := s.leg ch
  let s1 := s.setLeg ch { l with dwelling := false, pend := none }
  match l.pend with
  | some x => .next ((s1.setChan ch { s1.chan ch with cmdHigh := x, taken := true }).refreshChan ch)
  | none => .next s1

/-! ### Gate links -/

/-- The TARGET code of the function a channel belongs to (R176, R208). -/
def State.ownerOf (s : State) (n : Nat) : Nat := match s.chanEngine n with | some e => 0x80 + e | none => 0x0B

/-- A driver or link fault of channel `n` (R176, R208): the record with the severity of its function; a chopper is held off. -/
def State.gateFault (s : State) (code n : Nat) : State :=
  match s.chanEngine n with
  | some e => s.raiseOwn code (s.missSeverity e) 0x0B (0x80 + e)
  | none =>
    let s1 := if s.chanFunc n = 5 then { (s.putB R.SAFE_DCL_STATUS_CHOP_HELD true).putB R.SAFE_DCL_STATUS_CHOP_FAULT true with dcl.chopFault := true } else s
    s1.raise code 0 0x0B

/-- The link of a half-bridge. -/
def State.link (s : State) (n : Nat) : Link := Sparse.get (always Link.init) s.edge.links n
def State.setLink (s : State) (n : Nat) (l : Link) : State := { s with edge.links := Sparse.set (always Link.init) s.edge.links n l }

/-- The CRC-8 of a frame (R206): polynomial 0x2F from 0xFF over bits [31:8]. -/
def gateCrc (body : Nat) : Nat :=
  (List.range 24).foldl (fun c k =>
    let top := (c / 128 % 2 + body / 2 ^ (23 - k) % 2) % 2
    Nat.xor (c * 2 % 256) (if top = 1 then 0x2F else 0)) 0xFF

/-- A request frame (R206): CMD 0 read, 1 write, 2 poll; the driver's register address; data. -/
def gateFrame (cmd addr data : Nat) : Word :=
  let b := cmd * 2 ^ 22 + addr % 64 * 2 ^ 16 + data % 65536
  w32 (b * 256 + gateCrc b)

/-- The frames of a poll: STATUS and EDGE_CNT are read, and a poll frame brings the last answer (R206, R207; log 67). -/
def pollFrames : List Word := [gateFrame 0 2 0, gateFrame 0 4 0, gateFrame 2 0 0]

/-- The frames sent on a link. -/
def State.sendFrames (s : State) (n : Nat) (l : List Word) : State := s.setLink n { s.link n with sent := l }

/-- One response frame of a link (R206, R207): a CRC error, its own or one that the driver answers, is counted; three failed frames in a row are a
lost link. -/
def State.linkFrame (s : State) (n : Nat) (w : Word) : State :=
  let l := s.link n
  let good := bitsOf w 7 0 = gateCrc (bitsOf w 31 8) && bitsOf w 31 30 ≠ 2
  if good then (s.setLink n { l with fails := 0, told := false }).putB (R.GATE_CH_STAT_NO_RESP n) false
  else
    let s1 := (s.satInc (R.GATE_CH_STAT_CRC_ERR n)).setLink n { l with fails := l.fails + 1 }
    if l.fails + 1 = 3 then (s1.putB (R.GATE_CH_STAT_NO_RESP n) true).gateFault 0x0B02 n else s1

/-- The value of driver register `addr` in the last good response with that address and status OK. -/
def frameValue (l : List Word) (addr : Nat) : Option Nat :=
  ((l.filter fun w => bitsOf w 7 0 = gateCrc (bitsOf w 31 8) && bitsOf w 31 30 = 0 && bitsOf w 29 24 = addr).getLast?).map fun w => bitsOf w 23 8

/-- The hottest gate driver of the charger in °C; none while no link has read one (R318). -/
def State.hottest (s : State) : Option Int :=
  (s.engineChans 5).foldl (fun m h =>
    if (s.link h).status = 0 then m
    else
      let t : Int := Int.ofNat ((s.link h).status / 256) - 64
      match m with | none => some t | some x => some (max x t)) none

/-- The Wardens renew DERATE, word 449 of FE_5: clamp((T_END − T) / (T_END − T_START), 0, 1) (R318). -/
def State.derate (s : State) : State :=
  match s.hottest with
  | none => s
  | some t =>
    let e : Int := Int.ofNat (s.get R.CHG_DERATE_CFG_T_END)
    let b : Int := Int.ofNat (s.get R.CHG_DERATE_CFG_T_START)
    s.wardenStage 5 449 (fClamp (fDiv (fOfInt (e - t)) (fOfInt (e - b))) (fZero false) fOne)

/-- The driver's count of input edges is compared with the pads' (R207). -/
def State.edgeCompare (s : State) (n edges : Nat) : State :=
  let l := s.link n
  let c := s.chan n
  let own := (c.edges + 65536 - c.edgesAt) % 65536
  let drv := (edges + 65536 - l.drvEdges) % 65536
  let d := natDist own drv
  let n2 := if 2 < d then l.diffs + 1 else 0
  let s1 := ((s.setLink n { l with diffs := n2, drvEdges := edges }).setChan n { c with edgesAt := c.edges }).put (R.GATE_CH_STAT_EDGE_DIFF n) (min d 255)
  if n2 = 2 then s1.gateFault 0x0B03 n else s1

/-- STATUS of a driver has been read: the Wardens use its temperature for the charger's DERATE (R318), and a STATUS without its fault bit says that
the driver no longer holds SDI low (DEDUCED, log 59). -/
def State.statusRead (s : State) (n status : Nat) : State :=
  let s1 := s.setLink n { s.link n with status := status }
  let s2 := if s.chanFunc n = 3 then s1.derate else s1
  if status % 2 = 0 then s2.putB (R.GATE_CH_STAT_FAULT n) false else s2

/-- GATE_LINK_POLL (R206, R207): link `n` reads STATUS and EDGE_CNT; the driver's responses to the
three frames, a retried one again. -/
def execGateLinkPoll (n : Nat) (status count poll : List Word) (s : State) : Out :=
  let resp := status ++ count ++ poll
  if nChan s.part ≤ n ∨ !s.flag (R.GATE_CH_CFG_EN n) ∨ !s.bankLive (hbBank n) then .next s
  else
    let s1 := (s.sendFrames n pollFrames).each resp fun t w => t.linkFrame n w
    let s2 := match frameValue resp 2 with | some v => s1.statusRead n v | none => s1
    match frameValue resp 4 with
    | some v => .next (s2.edgeCompare n v)
    | none => .next s2

/-- DRIVER_FAULT (R208): FAULT_LATCH sets; with FAULT_OFF both pads go low; Landing 0 gets 0x0B01. -/
def execDriverFault (n : Nat) (s : State) : Out :=
  if nChan s.part ≤ n ∨ !s.running ∨ !s.bankLive (hbBank n) then .next s
  else
    let s1 := (s.putB (R.GATE_CH_STAT_FAULT n) true).putB (R.GATE_CH_STAT_FAULT_LATCH n) true
    let s2 := if s.flag (R.GATE_CH_CFG_FAULT_OFF n) then (s1.setChan n { s1.chan n with faultLow := true }).refreshChan n else s1
    .next (s2.gateFault 0x0B01 n)

end Sys2Proof.Machine
end

