-- ==== Sys2Proof/Machine/FeIsa.lean ====
section
/-! DEFINITION. The instructions of a field engine (R177-R191, 09_field_engines.md), but for COMMIT. Fields: n the engine, d, a, b the
register fields, x the extension field. -/

namespace Sys2Proof.Machine

/-- NOP (R178): nothing but the next instruction. -/
def execNop (n d a b x : Nat) (s : State) : Out := isaStep n 0x00 d a b x s fun _ => .done s

/-- MOV (R178): fd ← fa, bit for bit. -/
def execMov (n d a b x : Nat) (s : State) : Out := floatOp n 0x01 d a b x s fun e => e.fr a

/-- FADD (R167, R178): fd ← fa + fb. -/
def execFadd (n d a b x : Nat) (s : State) : Out := floatOp n 0x02 d a b x s fun e => fAdd (e.fr a) (e.fr b)

/-- FSUB (R167, R178): fd ← fa − fb. -/
def execFsub (n d a b x : Nat) (s : State) : Out := floatOp n 0x03 d a b x s fun e => fSub (e.fr a) (e.fr b)

/-- FMUL (R167, R178): fd ← fa × fb. -/
def execFmul (n d a b x : Nat) (s : State) : Out := floatOp n 0x04 d a b x s fun e => fMul (e.fr a) (e.fr b)

/-- FMAC (R178): fd ← fd + fa × fb with a single rounding. -/
def execFmac (n d a b x : Nat) (s : State) : Out := floatOp n 0x05 d a b x s fun e => fMac (e.fr d) (e.fr a) (e.fr b)

/-- FMIN (R178): the smaller; a NaN operand gives a NaN. -/
def execFmin (n d a b x : Nat) (s : State) : Out := floatOp n 0x06 d a b x s fun e => fMin (e.fr a) (e.fr b)

/-- FMAX (R178): the larger; a NaN operand gives a NaN. -/
def execFmax (n d a b x : Nat) (s : State) : Out := floatOp n 0x07 d a b x s fun e => fMax (e.fr a) (e.fr b)

/-- FABS (R178): fd ← |fa|. -/
def execFabs (n d a b x : Nat) (s : State) : Out := floatOp n 0x08 d a b x s fun e => fAbs (e.fr a)

/-- FNEG (R178): fd ← −fa. -/
def execFneg (n d a b x : Nat) (s : State) : Out := floatOp n 0x09 d a b x s fun e => fNeg (e.fr a)

/-- SQRT (R178): fd ← √fa, correctly rounded. -/
def execSqrt (n d a b x : Nat) (s : State) : Out := floatOp n 0x0E d a b x s fun e => fSqrt (e.fr a)

/-- DIV (R178): fd ← fa / fb, correctly rounded. -/
def execDiv (n d a b x : Nat) (s : State) : Out := floatOp n 0x0F d a b x s fun e => fDiv (e.fr a) (e.fr b)

/-- FCMP (R178): id ← −1, 0, +1; 2 and FPE when unordered. -/
def execFcmp (n d a b x : Nat) (s : State) : Out :=
  isaStep n 0x0A d a b x s fun e =>
    let c := fCmp (e.fr a) (e.fr b)
    (if c = 2 then s.putB (R.FE_FAULT_FPE n) true else s).intOut n d (w32 (toBits 32 c))

/-- FTOI (R178): id ← fa rounded to nearest, saturated; a NaN gives 0 and FPE. -/
def execFtoi (n d a b x : Nat) (s : State) : Out :=
  isaStep n 0x0B d a b x s fun e =>
    (if fIsNaN (e.fr a) then s.putB (R.FE_FAULT_FPE n) true else s).intOut n d (w32 (toBits 32 (fToInt (e.fr a))))

/-- ITOF (R178): fd ← float(ia). -/
def execItof (n d a b x : Nat) (s : State) : Out :=
  isaStep n 0x0C d a b x s fun e => if 16 ≤ a then .fault faultIllegal else .done (s.floatOut n d (fOfInt (signedOf 32 (e.ir a).toNat)))

/-- SINCOS (R178, R180): fd ← sin fa, fd+1 ← cos fa. -/
def execSincos (n d a b x : Nat) (s : State) : Out := floatsOp n 0x0D d a b x (d + 1) s fun e => [fSin (e.fr a), fCos (e.fr a)]

/-- IADD (R178): the integer operation, modulo 2³². -/
def execIadd (n d a b x : Nat) (s : State) : Out := intOp n 0x10 d a b x b s fun x y => x + y

/-- ISUB (R178): the integer operation, modulo 2³². -/
def execIsub (n d a b x : Nat) (s : State) : Out := intOp n 0x11 d a b x b s fun x y => x - y

/-- IAND (R178): the integer operation, modulo 2³². -/
def execIand (n d a b x : Nat) (s : State) : Out := intOp n 0x12 d a b x b s fun x y => x &&& y

/-- IOR (R178): the integer operation, modulo 2³². -/
def execIor (n d a b x : Nat) (s : State) : Out := intOp n 0x13 d a b x b s fun x y => x ||| y

/-- IXOR (R178): the integer operation, modulo 2³². -/
def execIxor (n d a b x : Nat) (s : State) : Out := intOp n 0x14 d a b x b s fun x y => x ^^^ y

/-- ISHL (R178): id ← ia shifted left by X[4:0]. -/
def execIshl (n d a b x : Nat) (s : State) : Out := intOp n 0x15 d a b x 0 s fun v _ => v <<< (x % 32)

/-- ISHR (R178): id ← ia shifted right arithmetically by X[4:0]. -/
def execIshr (n d a b x : Nat) (s : State) : Out := intOp n 0x16 d a b x 0 s fun v _ => v.sshiftRight (x % 32)

/-- ILI (R178): id ← IMM16, sign-extended. -/
def execIli (n d imm : Nat) (s : State) : Out :=
  let here := match s.loopAt n with
    | some w => bitsOf w 31 26 = 0x17 && bitsOf w 25 21 = d && bitsOf w 15 0 = imm
    | none => false
  isaRun n here s fun _ => s.intOut n d (w32 (toBits 32 (signedOf 16 imm)))

/-- The word index X[8:0], with an index register where X[9] = 1 (R178). -/
def Engine.wordIndex (e : Engine) (x i : Nat) : Nat := if natBit x 9 then (x % 512 + (e.ir i).toNat) % 512 else x % 512

/-- LDP (R178): loads a word of the active copy into fd, or its raw bits into id. -/
def execLdp (n d a b x : Nat) (s : State) : Out :=
  isaStep n 0x18 d a b x s fun e =>
    if natBit x 9 && decide (16 ≤ a) then .fault faultIllegal
    else
      let w := e.word (e.wordIndex x a)
      if natBit x 10 then s.intOut n d w else .done (s.floatOut n d w)

/-- STP (R168, R178, R192): stores fa or ia to a state word; any other word is a STATE_WRITE fault. -/
def execStp (n d a b x : Nat) (s : State) : Out :=
  isaStep n 0x19 d a b x s fun e =>
    if (natBit x 10 && decide (16 ≤ a)) || (natBit x 9 && decide (16 ≤ b)) then .fault faultIllegal
    else
      let p := e.wordIndex x b
      if p < 384 ∨ 447 < p then .fault faultState
      else
        let v := if natBit x 10 then e.ir a else e.fr a
        .done (s.modEng n fun e => (e.setWord p v).foldWrite 3 p v.toNat)

/-- LDG (R178, R186): fd ← the blended gain word X[3:0]. -/
def execLdg (n d a b x : Nat) (s : State) : Out := floatOp n 0x1A d a b x s fun e => e.gain (x % 16)

/-- CLARKE (R180): α = ia, β = (ia + 2 ib) / √3. -/
def execClarke (n d a b x : Nat) (s : State) : Out :=
  floatsOp n 0x20 d a b x (d + 1) s fun e => [fFlush (e.fr a), fDiv (fAdd (e.fr a) (fMul fTwo (e.fr b))) fRoot3]

/-- ICLARKE (R180): a = α, b = −α/2 + (√3/2)β, c = −α/2 − (√3/2)β. -/
def execIclarke (n d a b x : Nat) (s : State) : Out :=
  floatsOp n 0x21 d a b x (max (d + 2) (a + 1)) s fun e =>
    let h := fNeg (fMul (e.fr a) fHalf)
    let k := fMul fRoot3Half (e.fr (a + 1))
    [fFlush (e.fr a), fAdd h k, fSub h k]

/-- PARK (R180): d = α cos θ + β sin θ, q = −α sin θ + β cos θ; fb is sin θ and fb+1 cos θ. -/
def execPark (n d a b x : Nat) (s : State) : Out :=
  floatsOp n 0x22 d a b x (max (d + 1) (max (a + 1) (b + 1))) s fun e =>
    let al := e.fr a
    let be := e.fr (a + 1)
    let sn := e.fr b
    let cs := e.fr (b + 1)
    [fAdd (fMul al cs) (fMul be sn), fAdd (fMul (fNeg al) sn) (fMul be cs)]

/-- IPARK (R180): α = d cos θ − q sin θ, β = d sin θ + q cos θ. -/
def execIpark (n d a b x : Nat) (s : State) : Out :=
  floatsOp n 0x23 d a b x (max (d + 1) (max (a + 1) (b + 1))) s fun e =>
    let dd := e.fr a
    let qq := e.fr (a + 1)
    let sn := e.fr b
    let cs := e.fr (b + 1)
    [fSub (fMul dd cs) (fMul qq sn), fAdd (fMul dd sn) (fMul qq cs)]

/-- PISTEP (R187): a PI step on instance X[10:8]; an invalid descriptor is a DESC_INVALID fault. -/
def execPistep (n d a b x : Nat) (s : State) : Out :=
  isaStep n 0x24 d a b x s fun e =>
    let k := x / 256 % 8
    if !e.piOk k then .fault faultDesc
    else
      let r := e.piStep k (s.ts (s.timer n)) (e.fr a) (e.fr b)
      .done (((s.setEng n r.1).floatOut n b r.2.1).floatOut n d r.2.2)

/-- The vector form of LIMIT (R188): the direction is kept, a zero vector passes unchanged. -/
def vecLimit (x y m : F32) : F32 × F32 :=
  if fIsZero x && fIsZero y then (fFlush x, fFlush y)
  else
    let k := fMin fOne (fOverNorm m x y)
    (fMul x k, fMul y k)

/-- LIMIT (R188): the scalar clamp between two words, or the vector limit. -/
def execLimit (n d a b x : Nat) (s : State) : Out :=
  isaStep n 0x25 d a b x s fun e =>
    if natBit x 10 then
      (if 31 < d + 1 ∨ 31 < a + 1 then .fault faultIllegal
       else
         let v := vecLimit (e.fr a) (e.fr (a + 1)) (e.fr b)
         .done (s.floatsOut n d [v.1, v.2]))
    else if x % 512 = 511 then .fault faultIllegal
    else .done (s.floatOut n d (fClamp (fFlush (e.fr a)) (e.word (x % 512)) (e.word (x % 512 + 1))))

/-- REGION (R185): the region of x = fa and y = fb. -/
def execRegion (n d a b x : Nat) (s : State) : Out :=
  isaStep n 0x26 d a b x s fun e =>
    let r := s.regionLookup n (e.fr a) (e.fr b)
    r.1.intOut n d r.2

/-- PROF (R189, R190): profile channel X[10] advances by one Ts towards fa, or is seeded where X[9] = 1. -/
def execProf (n d a b x : Nat) (s : State) : Out :=
  isaStep n 0x27 d a b x s fun e =>
    let c := bit (natBit x 10)
    if 31 < d + 2 then .fault faultIllegal
    else if !fFinite (e.fr a) then .fault faultNonfinite
    else if natBit x 9 then
      let e1 := e.profSeed c (fFlush (e.fr a))
      .done ((s.setEng n e1).floatsOut n d (e1.profOut c))
    else if !(limOk (e.word (328 + 4 * c)) && limOk (e.word (329 + 4 * c)) && limOk (e.word (330 + 4 * c))) then .fault faultDesc
    else
      let e1 := e.profStep c (fFlush (e.fr a)) (s.tickLen n)
      .done ((s.setEng n e1).floatsOut n d (e1.profOut c))

/-- PLAUS (R191): check X[10:8] of |fa| against the threshold in fd, count N = X[7:0]; ib takes 0, 1 or 2. -/
def execPlaus (n d a b x : Nat) (s : State) : Out :=
  isaStep n 0x28 d a b x s fun e =>
    if 16 ≤ b ∨ x % 256 = 0 then .fault faultIllegal
    else
      let r := s.plausCheck n (x / 256 % 8) (e.fr a) (e.fr d) (x % 256)
      r.1.intOut n b (w32 r.2)

/-- BSET (R181): a band half-width for half-bridge X[5:0]. -/
def execBset (n d a b x : Nat) (s : State) : Out := isaStep n 0x29 d a b x s fun e => s.stageStore n (x % 64) 2 (fFlush (e.fr a))

/-- SLD (R179): the sample of source X[7:0] with its flags. A sample of a fast converter that has not arrived is waited for. -/
def execSld (n d a b x : Nat) (s : State) : Out :=
  let src := x % 256
  if s.canIssue n && s.issues n 0x2A d a b x && decide (b < 16) && !sldAbsent s.part src && decide (src < 0x10) &&
      !(s.eng n).hasSample src then
    .next (s.modEng n fun e => { e with waiting := some (d % 32, b, src) })
  else
    isaStep n 0x2A d a b x s fun _ =>
      if 16 ≤ b then .fault faultIllegal
      else if sldAbsent s.part src then .fault faultAbsent
      else .done (s.loadSample n d b src)

/-- SLD_SAMPLE_TIMEOUT (R179): after 400 cycles SLD returns the last value with STALE set. -/
def execSldSampleTimeout (n : Nat) (s : State) : Out :=
  match (s.eng n).waiting with
  | some (d, b, src) => .next ((s.loadSample n d b src).modEng n fun e => { e with waiting := none, pc := e.pc + 1 })
  | none => .next s

/-- CST (R181): a duty or a band reference for half-bridge X[5:0]; kinds 10 and 11 are illegal. -/
def execCst (n d a b x : Nat) (s : State) : Out :=
  isaStep n 0x2B d a b x s fun e => if natBit x 10 then .fault faultIllegal else s.stageStore n (x % 64) (x / 512 % 2) (fFlush (e.fr a))

/-- EVT (R182): an event or a ledger record for release; a record code below 0x40 is illegal. -/
def execEvt (n d a b x : Nat) (s : State) : Out :=
  isaStep n 0x2C d a b x s fun e =>
    if natBit x 10 && decide (x % 256 < 0x40) then .fault faultIllegal else .done (s.queueEvt n (x % 2048) (e.fr a) (e.fr b))

/-- BR (R178): branch to X[9:0]. -/
def execBr (n d a b x : Nat) (s : State) : Out := isaStep n 0x30 d a b x s fun _ => .jump s (x % 1024)

/-- The conditions of BRC (R178). -/
def brCond (c : Nat) (v : Int) : Bool :=
  match c with
  | 0 => v = 0 | 1 => v ≠ 0 | 2 => v < 0 | 3 => 0 ≤ v | 4 => 0 < v | _ => v ≤ 0

/-- BRC (R178): branch to X[9:0] if ia meets condition D; D of 6 or more is illegal. -/
def execBrc (n d a b x : Nat) (s : State) : Out :=
  isaStep n 0x31 d a b x s fun e =>
    if 6 ≤ d ∨ 16 ≤ a then .fault faultIllegal
    else if brCond d (signedOf 32 (e.ir a).toNat) then .jump s (x % 1024) else .done s

/-- The opcodes of R178. -/
def loopOpcode (op : Nat) : Bool :=
  decide (op ≤ 0x1A) || (decide (0x20 ≤ op) && decide (op ≤ 0x2C)) || op = 0x30 || op = 0x31 || op = 0x3E

/-- ILLEGAL_INSTR (R178, R192): an unlisted opcode at the program counter, or a program counter past word 1,023, is a loop fault. -/
def execIllegalInstr (n : Nat) (s : State) : Out :=
  match s.loopAt n with
  | some w => isaRun n (!loopOpcode (bitsOf w 31 26)) s fun _ => .fault faultIllegal
  | none => if s.canIssue n && decide (1024 ≤ (s.eng n).pc) then .next (s.loopFault n faultIllegal) else .next s

end Sys2Proof.Machine
end

