-- ==== Sys2Proof/Machine/TracEst.lean ====
section
/-! DEFINITION. The rotor-position estimator of the standard traction programs (13_rotor_position.md), tick by tick. The written operations
are rounded one by one in the order of the spec's formulas (DEDUCED, log 23). -/

namespace Sys2Proof.Machine

/-- The traction program of set `n`. -/
def State.tr (s : State) (n : Nat) : Trac := Sparse.get (always Trac.init) s.trac n
def State.setTr (s : State) (n : Nat) (t : Trac) : State := { s with trac := Sparse.set (always Trac.init) s.trac n t }
def State.modTr (s : State) (n : Nat) (f : Trac → Trac) : State := s.setTr n (f (s.tr n))

/-- EST_STATE (R258). -/
def estWatch : Nat := 0
def estAcquire : Nat := 1
def estPolarity : Nat := 2
def estTrack : Nat := 3
def estRecapFw : Nat := 4
def estRecapAsc : Nat := 5
def estRelock : Nat := 6
def estFailed : Nat := 7

/-- What one tick of a traction program works from. -/
structure TickIn where
  ts : F32
  /-- phase currents, and whether both samples are measured ones -/
  ia : F32
  ib : F32
  clean : Bool
  /-- the set switches: enables asserted and nothing forced -/
  gates : Bool
  /-- Landing 0 has taken the set out, or its low sides are forced on: no force of R275 step 3 (R267, R276) -/
  cut : Bool
  /-- law of the program that runs: 0 modulated, 1 band -/
  law : Nat
  /-- terminal voltages, where the set has such channels -/
  va : F32
  vb : F32
  vc : F32
  /-- leg changes since the last tick -/
  chg : Nat × Nat × Nat
  /-- SET_SHIFT of a pair secondary, else 0: where the set's own frame stands before the rotor angle (R232; DEDUCED, log 68) -/
  shift : F32
  deriving DecidableEq, Repr

/-! ### Transforms as values -/

/-- CLARKE, PARK and IPARK of R180 as functions. -/
def clarke (a b : F32) : F32 × F32 := (fFlush a, fDiv (fAdd a (fMul fTwo b)) fRoot3)
def park (al be th : F32) : F32 × F32 :=
  let sn := fSin th
  let cs := fCos th
  (fAdd (fMul al cs) (fMul be sn), fAdd (fMul (fNeg al) sn) (fMul be cs))
def ipark (d q th : F32) : F32 × F32 :=
  let sn := fSin th
  let cs := fCos th
  (fSub (fMul d cs) (fMul q sn), fAdd (fMul d sn) (fMul q cs))
def iclarke (al be : F32) : F32 × F32 × F32 :=
  let h := fNeg (fMul al fHalf)
  let k := fMul fRoot3Half be
  (fFlush al, fAdd h k, fSub h k)

/-! ### Injection (R262, R263) -/

/-- The ticks of one injection period: (1 / T_tick) / HF_FREQ, to the nearest even integer in 4 to 64 (R262). -/
def injTicks (e : Engine) (ts : F32) : Nat :=
  let r := fToInt (fMul (fDiv (fDiv fOne ts) (e.word 297)) fHalf)
  max 4 (min 64 (2 * r.toNat))

/-- HF_EFF (R262). -/
def hfEff (e : Engine) (ts : F32) : F32 := fDiv fOne (fMul (fOfNat (injTicks e ts)) ts)

/-- 2πk / N. -/
def injAngle (k n : Nat) : F32 := fMul fTwoPi (fOfRatio (k % n) n)

/-- The sum of R263 over the samples of i_q, newest first; `j` is the tick number of the newest plus a multiple of N. -/
def demodSum (n : Nat) : Nat → List Word → F32
  | _, [] => fZero false
  | j, q :: t => fAdd (fMul q (fSin (injAngle j n))) (demodSum n (j + n - 1) t)

/-- The injection tracker's angle error e_HF (R263); `x.hq` begins with the present tick's sample. -/
def hfError (e : Engine) (x : Est) (ts : F32) : F32 :=
  let n := injTicks e ts
  let d := (fToInt (fDiv (e.word 348) ts)).toNat % n
  let eps := fMul (fDiv fTwo (fOfNat n)) (demodSum n (x.k + n - d) (x.hq.take n))
  let wh := fMul fTwoPi (hfEff e ts)
  let khf := fDiv (fMul (e.word 296) (fSub (e.word 352) (e.word 351))) (fMul (fMul (fMul fTwo wh) (e.word 351)) (e.word 352))
  fDiv eps (fMul fTwo khf)

/-- The error of the band law's switching-count saliency (R271); 0 while a leg has fewer than 8 changes in the window. -/
def saliencyError (x : Est) (shift : F32) : F32 :=
  let na := x.chg.foldl (fun z c => z + c.1) 0
  let nb := x.chg.foldl (fun z c => z + c.2.1) 0
  let nc := x.chg.foldl (fun z c => z + c.2.2) 0
  if na < 8 ∨ nb < 8 ∨ nc < 8 then fZero false
  else
    let mean := fOfRatio (na + nb + nc) 3
    let c := clarke (fSub (fDiv mean (fOfNat na)) fOne) (fSub (fDiv mean (fOfNat nb)) fOne)
    let th2 := fAtan2 c.2 (fNeg c.1)
    fMul fHalf (fWrap (fWrap (fSub th2 (fMul fTwo (fAdd x.thHf shift)))))

/-- Injection runs in this tick (R262): hysteresis between BLEND_HI and 1.1 × BLEND_HI, restarting at k ≡ 0 mod N. -/
def injects (e : Engine) (x : Est) (ts : F32) : Bool :=
  if x.st = estAcquire ∨ x.st = estPolarity then true
  else if x.st ≠ estTrack then false
  else
    let v := fAbs x.speed
    if x.inj then fLe v (fMul (fOfRatio 11 10) (e.word 302)) else fLt v (e.word 302) && decide (x.k % injTicks e ts = 0)

/-! ### Terminal voltages (R269) -/

/-- The voltage vector from the terminal voltages: skew removed, mean removed, filter corrected (R269). -/
def vtVector (e : Engine) (x : Est) (i : TickIn) : F32 × F32 :=
  let dt := e.word 307
  let vb := fSub i.vb (fDiv (fMul dt (fSub i.vb x.vtB)) i.ts)
  let vc := fSub i.vc (fDiv (fMul (fMul fTwo dt) (fSub i.vc x.vtC)) i.ts)
  let mean := fDiv (fAdd (fAdd i.va vb) vc) (fOfNat 3)
  let v := clarke (fSub i.va mean) (fSub vb mean)
  let wt := fMul (fAbs x.omega) (e.word 306)
  let r := ipark v.1 v.2 (fMul (fSgn x.omega) (fAtan2 wt fOne))
  let g := fSqrt (fAdd fOne (fMul wt wt))
  (fMul r.1 g, fMul r.2 g)

/-- The least-squares slope of the unwrapped angles, newest first, over the last 8 ticks (R269). -/
def lsqSlope (ang : List Word) (ts : F32) : F32 :=
  let n := ang.length
  if n < 2 then fZero false
  else
    let w := ang.zipIdx.map fun p => fMul p.1 (fOfRatio (n - 1) 2 |> fun c => fSub c (fOfNat p.2))
    fDiv (fSum w) (fMul ts (fOfRatio (n * (n * n - 1)) 12))

/-- A tick of WATCH or RECAP_FW (R269): angle and speed from the back-EMF. -/
def watchStep (e : Engine) (x : Est) (i : TickIn) : Est :=
  if e.word 305 = 0 then { x with emf := fZero false, ang := [] }
  else
    let v := vtVector e x i
    let amp := fHyp v.1 v.2
    let x1 := { x with vtB := i.vb, vtC := i.vc, emf := amp }
    if fLt amp (e.word 308) then { x1 with ang := [] }
    else
      let th := fWrap (fSub (fSub (fAtan2 v.2 v.1) (fMul (fSgn x.omega) (fMul fPi fHalf))) i.shift)
      let un := match x.ang with | [] => th | a :: _ => fAdd a (fWrap (fWrap (fSub th a)))
      let ang := (un :: x.ang).take 8
      let om := lsqSlope ang i.ts
      { x1 with ang := ang, theta := th, omega := om }

/-! ### Trackers (R260, R263, R268, R270) -/

/-- Both trackers take an angle and a speed (R266, R275). -/
def Est.seed (x : Est) (th om : F32) : Est :=
  { x with thHf := th, omHf := om, intHf := om, thO := th, omO := om, intO := om, theta := th, omega := om,
           eG := fZero false, eD := fZero false }

/-- The applied voltage in the frame of the observer (R269): the commanded one of the last tick, or the terminal voltages. -/
def appliedVolt (e : Engine) (t : Trac) (i : TickIn) : F32 × F32 :=
  if i.law = 0 then (t.vd, t.vq)
  else
    let v := vtVector e t.est i
    park v.1 v.2 (fAdd t.est.thO i.shift)

/-- The back-EMF observer of R268: the estimate after this tick and the angle error err_o. -/
def observe (e : Engine) (t : Trac) (i : TickIn) : Est × F32 :=
  let x := t.est
  let ld := e.word 351
  let lq := e.word 352
  let rs := e.word 350
  let g := e.word 303
  let c := clarke i.ia i.ib
  let iv := park c.1 c.2 (fAdd x.thO i.shift)
  let v := appliedVolt e t i
  let eg := fSub iv.1 x.iGh
  let ed := fSub iv.2 x.iDh
  let eG := fSub x.eG (fMul (fMul (fMul g ld) eg) i.ts)
  let eD := fSub x.eD (fMul (fMul (fMul g ld) ed) i.ts)
  let kt := fDiv i.ts ld
  let iG := fAdd x.iGh (fMul kt (fSub (fAdd (fSub v.1 (fMul rs iv.1)) (fMul (fMul x.omO lq) iv.2)) eG))
  let iD := fAdd x.iDh (fMul kt (fSub (fSub (fSub v.2 (fMul rs iv.2)) (fMul (fMul x.omO lq) iv.1)) eD))
  ({ x with eG := eG, eD := eD, iGh := iG, iDh := iD }, fMul (fAtan2 (fNeg eG) eD) (fSgn x.omO))

/-- One step of a tracking loop (R260): the engine with its PI unit, the speed, the integrator and the angle. -/
def trackStep (e : Engine) (k : Nat) (ts err int th : F32) : Engine × F32 × F32 × F32 :=
  let r := e.piStep k ts err int
  (r.1, r.2.2, r.2.1, fWrap (fAdd th (fMul r.2.2 ts)))

/-- A tick of the running estimator (R260-R271): the engine with its PI units and the estimate. -/
def runTrackers (e : Engine) (t : Trac) (i : TickIn) : Engine × Est :=
  let c := clarke i.ia i.ib
  let iq := (park c.1 c.2 (fAdd t.est.thHf i.shift)).2
  let x := { t.est with chg := (i.chg :: t.est.chg).take 16 }
  let band := decide (i.law = 1)
  let inj := injects e x i.ts && !band
  let eHf := if band then saliencyError x i.shift else hfError e { x with hq := iq :: x.hq } i.ts
  let o := observe e { t with est := x } i
  let lo := e.word 301
  let hi := e.word 302
  let useHf := inj || band
  let w := if useHf then fClamp (fDiv (fSub (fAbs x.speed) lo) (fSub hi lo)) (fZero false) fOne else fOne
  let a := trackStep e 3 i.ts eHf x.intHf x.thHf
  let b := trackStep a.1 4 i.ts o.2 x.intO x.thO
  let lockHf := fFilter x.lockHf (fAbs eHf) i.ts (e.word 304)
  let lockO := fFilter x.lockO (fAbs o.2) i.ts (e.word 304)
  let w0 := fEq w (fZero false)
  let thO := if w0 then a.2.2.2 else b.2.2.2
  let omO := if w0 then a.2.1 else b.2.1
  let inO := if w0 then a.2.2.1 else b.2.2.1
  let th := fWrap (fAdd a.2.2.2 (fMul w (fWrap (fSub thO a.2.2.2))))
  let om := fAdd a.2.1 (fMul w (fSub omO a.2.1))
  let th1 := if useHf then th else thO
  let om1 := if useHf then om else omO
  (b.1, { o.1 with inj := inj, w := w, lockHf := lockHf, lockO := lockO, thO := thO, omO := omO, intO := inO, theta := th1, omega := om1
                   thHf := if useHf then a.2.2.2 else th1, omHf := if useHf then a.2.1 else om1
                   intHf := if useHf then a.2.2.1 else inO })

/-- The ticks of T_FW (R275 step 5): the longer of 400 µs and two electrical periods at the last ω_e, at most 3 ms, rounded up. -/
def Est.freewheelTicks (x : Est) (ts : F32) : Nat :=
  let t := fMin (fMax (fDiv (fMul fTwo fTwoPi) (fAbs x.omLoss)) (fOfRatio 4 10000)) (fOfRatio 3 1000)
  let n := (fToInt (fDiv t ts)).toNat
  if fLt (fMul (fOfNat n) ts) t then n + 1 else n

/-- A tick of RECAP_FW (R275 steps 4, 5): the terminal voltages count from the tick that finds every current below 5 A. -/
def Est.fwStep (x : Est) (e : Engine) (i : TickIn) : Est :=
  let low (c : F32) : Bool := fLt (fAbs c) (fOfNat 5)
  if x.fwTicks = 0 && !(low i.ia && low i.ib && low (fAdd i.ia i.ib)) then x
  else { watchStep e x i with fwTicks := x.fwTicks + 1 }

/-- Consecutive ticks of ACQUIRE whose LOCK is below PTH_1 (R264). -/
def Est.locking (x : Est) (e : Engine) : Est :=
  if x.st = estAcquire then { x with lockRun := if fLt x.lockHf (e.gain 10) then x.lockRun + 1 else 0 } else x

/-- LOCK (R270): the injection tracker's metric while W < 0.5, the observer's otherwise. -/
def Est.lock (x : Est) : F32 := if fLt x.w fHalf then x.lockHf else x.lockO

/-- SPEED: ω_e / POLE_PAIRS, filtered with SPD_TAU (R261). -/
def Est.filtered (x : Est) (e : Engine) (ts : F32) : Est :=
  { x with speed := fFilter x.speed (fDiv x.omega (fOfNat (max 1 (e.word 349).toNat))) ts (e.word 355) }

/-! ### Start at a grant, and return to WATCH (R266, R267) -/

/-- A grant in WATCH (R266). -/
def Est.start (x : Est) (e : Engine) (now : Time) : Est :=
  let known := e.word 305 ≠ 0 && fLe (e.word 308) x.emf
  if known && fLe (e.word 302) (fAbs x.speed) then { (x.seed x.theta x.omega) with st := estTrack }
  else if known then { (x.seed x.theta x.omega) with st := estAcquire, polKnown := true, acqAt := now, k := 0, lockRun := 0, hq := [], hd := [] }
  else { (x.seed 0 0) with st := estAcquire, polKnown := false, acqAt := now, k := 0, lockRun := 0, hq := [], hd := [] }

/-- An enable removal or a force returns the estimator to WATCH (R267), but for the freewheel of recapture. -/
def Est.leave (x : Est) : Est := { x with st := estWatch, ang := [], emf := fZero false, polTick := 0, polAgain := false }

/-! ### Polarity (R265, R271) -/

/-- The voltage of the present tick of POLARITY under the modulated law, where it is a pulse (R265). -/
def polVolt (e : Engine) (x : Est) : Option F32 :=
  let v := if x.polAgain then fMin (fMul fTwo (e.word 298)) (fOfNat 400) else e.word 298
  if x.st ≠ estPolarity then none
  else if x.polTick % 8 = 0 then some v
  else if x.polTick % 8 = 4 then some (fNeg v)
  else none

/-- The d current of the present tick of POLARITY under the band law (R271). -/
def polCurrent (e : Engine) (x : Est) : F32 :=
  if x.st ≠ estPolarity then fZero false else if x.polTick < 40 then e.word 299 else fNeg (e.word 299)

/-- The decision of R265: kept, turned by π, repeated, or failed. `m` compares the two sums. -/
def Est.polDecide (x : Est) (e : Engine) : Est × Bool :=
  let m := fDiv (fSub x.sumP x.sumM) (fAdd x.sumP x.sumM)
  let y := { x with polM := m, polTick := 0, sumP := fZero false, sumM := fZero false }
  if fLt (e.word 300) m then ({ y with st := estTrack, polAgain := false }, false)
  else if fLt m (fNeg (e.word 300)) then
    ({ y with st := estTrack, polAgain := false, theta := fWrap (fAdd x.theta fPi), thHf := fWrap (fAdd x.thHf fPi),
              thO := fWrap (fAdd x.thO fPi) }, false)
  else if x.polAgain then ({ y with st := estFailed, polAgain := false }, true)
  else ({ y with polAgain := true }, false)

/-- A tick of POLARITY (R265, R271) with the measured i_d: the estimate, and whether acquisition failed. -/
def Est.polStep (x : Est) (e : Engine) (i : TickIn) (idNow : F32) : Est × Bool :=
  let prev := x.hd.head?.getD idNow
  let d := fAbs (fSub idNow prev)
  let n := i.chg.1 + i.chg.2.1 + i.chg.2.2
  if i.law = 0 then
    let y := if x.polTick % 8 = 1 then { x with sumP := fAdd x.sumP d } else if x.polTick % 8 = 5 then { x with sumM := fAdd x.sumM d } else x
    if y.polTick + 1 = 32 then y.polDecide e else ({ y with polTick := y.polTick + 1 }, false)
  else
    let y := if x.polTick < 40 then { x with sumP := fAdd x.sumP (fOfNat n) } else { x with sumM := fAdd x.sumM (fOfNat n) }
    if y.polTick + 1 = 80 then y.polDecide e else ({ y with polTick := y.polTick + 1 }, false)

end Sys2Proof.Machine
end

