-- ==== Sys2Proof/Machine/TracTick.lean ====
section
/-! DEFINITION. One tick of the standard traction programs, modulated and band (R219-R230, R234-R236, 11_traction_modulated.md;
R247-R251, 12_traction_band.md; R272-R277, 13_rotor_position.md). The written operations are rounded one by one (DEDUCED, log 23). -/

namespace Sys2Proof.Machine

/-! ### Inputs -/

/-- The half-bridge of leg `l` of unit `u`. -/
def State.legOf (s : State) (u l : Nat) : Option Nat := (s.unitChans u).find? fun h => s.chanLeg h = l

/-- The fast converter that measures leg `l` of unit `u` (R209). -/
def State.convOf (s : State) (u l : Nat) : Option Nat :=
  (List.range (nFast s.part)).find? fun k => s.legOf u l = some (s.get (R.EDGE_FC_CFG_CH k))

/-- A sample as SLD would load it: value and flags (R179). -/
def Engine.sample (e : Engine) (src : Nat) : F32 × Nat :=
  (Sparse.get (always 0) e.samples src, Sparse.get (always 0) e.sampleFlags src ||| (if e.hasSample src then 0 else 4))

/-- The current of a leg, and its flags. -/
def State.legCurrent (s : State) (e : Engine) (u l : Nat) : F32 × Nat :=
  match s.convOf u l with | some k => e.sample k | none => (fZero false, 4)

/-- SET_SHIFT of a pair secondary, which it adds to its angle (R232). -/
def State.setShift (s : State) (n : Nat) : F32 := if (s.primary n).isSome then (s.eng n).word 357 else fZero false

/-- Changes of leg state since the last tick (R248). -/
def State.legChanges (s : State) (t : Trac) (u l : Nat) : Nat :=
  match s.legOf u l with | some h => (s.chan h).changes - t.chgSeen.getD l 0 | none => 0

/-- What a tick of set `n` works from. -/
def State.tickIn (s : State) (n law : Nat) : TickIn :=
  let e := s.eng n
  let a := s.legCurrent e n 0
  let b := s.legCurrent e n 1
  let vt := (e.word 305).toNat
  { ts := s.ts (s.timer n), ia := a.1, ib := b.1, clean := a.2 &&& 6 = 0 && b.2 &&& 6 = 0
    gates := s.enabled n && (s.forceOn n).isNone, law := law
    cut := s.isOut n || s.forceOn n = some true || s.md = .safeStop
    va := (e.sample vt).1, vb := (e.sample (vt + 1)).1, vc := (e.sample (vt + 2)).1
    chg := (s.legChanges (s.tr n) n 0, s.legChanges (s.tr n) n 1, s.legChanges (s.tr n) n 2)
    shift := s.setShift n }

/-! ### Parameters (R227, R249, R259) -/

/-- A float word lies between two rationals `lo / d` and `hi / d`. -/
def Engine.within (e : Engine) (w : Nat) (lo hi : Int) (d : Nat) : Bool :=
  let q (z : Int) : F32 := fDiv (fOfInt z) (fOfNat d)
  fLe (q lo) (e.word w) && fLe (e.word w) (q hi)

/-- An integer word is at most `m`, at least `l`. -/
def Engine.intWithin (e : Engine) (w l m : Nat) : Bool := decide (l ≤ (e.word w).toNat) && decide ((e.word w).toNat ≤ m)

/-- A float word is above zero. -/
def Engine.pos (e : Engine) (w : Nat) : Bool := fLt (fZero false) (e.word w)

/-- RES_CFG is in range (R273). -/
def Engine.resOk (e : Engine) : Bool :=
  let v := (e.word 311).toNat
  let pp := v / 16 % 16
  decide (v < 256) && v % 4 ≠ 3 && (v % 4 = 0 || (decide (1 ≤ pp) && decide (pp ≤ 8) && (e.word 349).toNat % pp = 0))

/-- The program parameters with their ranges (R227, R259), in word order. -/
def Engine.paramChecks (e : Engine) (p : Part) : List (Nat × Bool) := [
  (296, e.within 296 1 200 1), (297, e.within 297 500 10000 1), (298, e.within 298 10 400 1), (299, e.within 299 5 500 1),
  (300, e.within 300 1 50 100), (301, e.within 301 5 1000 1),
  (302, e.within 302 5 1500 1 && fLe (fAdd (e.word 301) (fOfNat 5)) (e.word 302)), (303, e.within 303 100 20000 1),
  (304, e.within 304 1 100 10000), (305, e.word 305 = 0 || e.intWithin 305 0x10 0x6D), (306, e.within 306 0 2 10000),
  (307, e.within 307 0 1 10000), (308, e.within 308 1 100 1), (309, e.within 309 5 100 100000), (310, e.within 310 1 50 100),
  (311, e.resOk), (312, fLe (fAbs (e.word 312)) fPi)] ++ [
  (336, e.intWithin 336 0 1), (337, fLe (fAbs (e.word 337)) (e.word 449)), (338, fLe (fAbs (e.word 338)) (e.word 451)),
  (339, fLe (fZero false) (e.word 339) && fLe (e.word 339) (e.word 449)), (340, e.within 340 100 1000000 1), (341, e.within 341 1 100 1), (342, e.within 342 10 1000 1),
  (343, e.within 343 80 100 100), (344, e.within 344 70 99 100 && fLt (e.word 344) (e.word 343)), (345, e.within 345 0 1000000 1),
  (346, e.within 346 (-2000) 0 1), (347, e.within 347 1 500 10), (348, e.within 348 0 2 1000), (349, e.intWithin 349 1 16),
  (350, e.pos 350), (351, e.pos 351), (352, e.pos 352), (353, e.pos 353), (354, e.within 354 0 4000 1), (355, e.within 355 0 1 100),
  (356, !sldAbsent p (e.word 356).toNat), (357, e.word 357 = 0 || e.word 357 = 0x3F060A92), (358, e.within 358 0 1 1)]

/-- The further words of the band program (R249), which rejects VT_SRC = 0 too (R259). -/
def Engine.bandChecks (e : Engine) : List (Nat × Bool) := [
  (305, e.intWithin 305 0x10 0x6D), (360, e.within 360 5 1000 10), (361, e.within 361 1 500 1 && fLt (e.word 360) (e.word 361)),
  (362, e.within 362 1 50 100), (363, e.within 363 1 1000 10000), (364, e.intWithin 364 0 1023), (365, e.intWithin 365 0 1023),
  (366, e.within 366 0 2 1000), (367, e.intWithin 367 1 255), (368, e.intWithin 368 0 1)]

/-- The first word out of range, if any. -/
def Engine.badParam (e : Engine) (p : Part) (law : Nat) : Option Nat :=
  ((e.paramChecks p ++ if law = 1 then e.bandChecks else []).find? fun c => !c.2).map (·.1)

/-! ### Torque reference (R229) -/

/-- A ramp line one tick on (R229). -/
def Ramp.step (r : Ramp) (ts : F32) : Ramp :=
  { r with cap := if r.rising then fAdd r.cap (fMul r.rate ts) else fMax (fZero false) (fSub r.cap (fMul r.rate ts)) }

/-- The ramps after a tick; a rising one ends at T_MOT_MAX. -/
def stepRamps (rs : List Ramp) (ts tmax : F32) : List Ramp := (rs.map fun (r : Ramp) => r.step ts).filter fun (r : Ramp) => !(r.rising && fLe tmax r.cap)

/-- The lowest ramp cap over a value. -/
def capOf (rs : List Ramp) (v : F32) : F32 := rs.foldl (fun m (r : Ramp) => fMin m r.cap) v

/-- The slewed command, under the ramps and the limits of R229: command, previous T*, TRQ_RATE × T_tick, ramps, ω_e and the two limits;
T* and whether step 4 cut it. -/
def torqueStep (cmd prev dmax : F32) (rs : List Ramp) (om tmot tgen : F32) : F32 × Bool :=
  let t1 := fAdd prev (fClamp (fSub cmd prev) (fNeg dmax) dmax)
  let cap := capOf rs (fAbs t1)
  let t2 := fClamp t1 (fNeg cap) cap
  let lim := if fLe (fZero false) (fMul om t2) then tmot else tgen
  (fClamp t2 (fNeg lim) lim, fLt lim (fAbs t2))

/-! ### Current references (R222, R225, R226) -/

/-- i_q for a torque at i_d, by the torque equation (R222). -/
def iqFor (e : Engine) (tq id : F32) : F32 :=
  let p := fOfNat (e.word 349).toNat
  fDiv tq (fMul (fMul (fOfRatio 3 2) p) (fAdd (e.word 353) (fMul (fSub (e.word 351) (e.word 352)) id)))

/-- i_d of maximum torque per ampere at i_q (R222). -/
def idMtpa (e : Engine) (iq : F32) : F32 :=
  let dl := fSub (e.word 352) (e.word 351)
  if fLe dl (fZero false) then fZero false
  else
    let a := fDiv (e.word 353) (fMul fTwo dl)
    fSub a (fSqrt (fAdd (fMul a a) (fMul iq iq)))

/-- The torque of measured currents (R222). -/
def torqueOf (e : Engine) (id iq : F32) : F32 :=
  fMul (fMul (fOfRatio 3 2) (fOfNat (e.word 349).toNat)) (fAdd (fMul (e.word 353) iq) (fMul (fMul (fSub (e.word 351) (e.word 352)) id) iq))

/-- The current reference of a tick: i_d*, i_q*, Δi_d, the ILIM and FWLIM flags, and the MTPA solution (R222, R225, R226). -/
def currentRef (e : Engine) (t : Trac) (tq vdc ts : F32) : F32 × F32 × F32 × Bool × Bool × F32 :=
  let q1 := iqFor e tq t.idMt
  let d1 := idMtpa e q1
  let q2 := iqFor e tq d1
  let dm := idMtpa e q2
  let lim := fSub (e.word 346) dm
  let x := fSub t.dId (fMul (fMul (e.word 345) ts) (fSub t.vMag (fDiv (fMul (e.word 344) vdc) fRoot3)))
  let dd := fMin (fMax x lim) (fZero false)
  let d3 := fAdd dm dd
  let q3 := iqFor e tq d3
  let is_ := e.word 448
  let d4 := fClamp d3 (fNeg is_) (fZero false)
  let qm := fSqrt (fSub (fMul is_ is_) (fMul d4 d4))
  let q4 := fClamp q3 (fNeg qm) qm
  (d4, q4, dd, !fEq d3 d4 || !fEq q3 q4, fLe dd lim && fLt dd (fZero false), dm)

/-! ### Recapture (R272-R277) -/

/-- The program's queue of events and records for release. -/
def Trac.say (t : Trac) (isRec : Bool) (code sev : Nat) (c0 c1 c2 : Word) : Trac := { t with out := t.out ++ [(isRec, code, sev, c0, c1, c2)] }

/-- The estimator of a program changed. -/
def Trac.mapEst (t : Trac) (f : Est → Est) : Trac := { t with est := f t.est }

/-- A loss of the rotor starts a recapture (R274, R277). -/
def State.startRecapture (s : State) (n : Nat) (e : Engine) (t : Trac) : Trac :=
  let x := t.est
  let m : Nat :=
    if fLt (fAbs x.speed) (e.word 301) then 3
    else if fLt (fMul (fMul fRoot3 (e.word 353)) (fAbs x.omega)) (fMul (fOfRatio 19 20) t.vdc) && e.word 305 != 0 then 0
    else 1
  let rc := (x.recaps.filter fun a => decide (s.since a < 1000000)) ++ [s.atime]
  let y := { x with method := m, lossAt := s.atime, thLoss := x.theta, recaps := rc, ascTicks := 0, fwTicks := 0, omLoss := x.omega, ang := [] }
  let z : Est :=
    if m = 3 then { (y.seed x.theta x.omega) with st := estAcquire, polKnown := false, acqAt := s.atime, lockRun := 0, hq := [], hd := [] }
    else if m = 0 then { y with st := estRecapFw }
    else { y with st := estRecapAsc }
  let t1 := { t with est := z, tRef := fZero false, idRef := fZero false, iqRef := fZero false, idMt := fZero false }.say true 0x0846 0 (w32 m) 0 0
  if rc.length = 4 then t1.say true 0x0847 1 (w32 n) 0 0 else t1

/-- The recapture is complete at the first released tick after switching resumes (R275 steps 8, 9). -/
def State.recaptured (s : State) (e : Engine) (t : Trac) : Trac :=
  let x := t.est
  let t1 := { t with est := { x with st := estTrack }
                     ramps := (t.ramps.filter fun (r : Ramp) => r.kind ≠ 4) ++
                       [({ kind := 4, cap := fZero false, rate := fDiv (e.word 449) (e.word 310), rising := true } : Ramp)] }
  t1.say false 0x1005 0 (w32 x.method) (fWrap (fSub x.theta x.thLoss)) (w32 (s.since x.lossAt))

/-- A tick of the short-circuit step (R275): its first sample starts the change Δi, whose rotation gives the sign of ω_e. -/
def Est.ascStep (x : Est) (c : F32 × F32) : Est :=
  if x.ascTicks = 0 then { x with ascTicks := 1, ascA := c.1, ascB := c.2, ascDa := fZero false, ascDb := fZero false, ascRev := false }
  else
    let a := fSub c.1 x.ascA
    let b := fSub c.2 x.ascB
    let cross := fSub (fMul x.ascDa b) (fMul x.ascDb a)
    { x with ascTicks := x.ascTicks + 1, ascDa := a, ascDb := b, ascRev := fLt cross (fZero false) }

/-! ### The estimator's part of a tick -/

/-- The estimator in one tick (R258-R271): engine, traction state. -/
def State.estTick (s : State) (e : Engine) (t : Trac) (i : TickIn) : Engine × Trac :=
  let x0 := t.est
  let away := decide (x0.st ≠ estWatch) && (i.cut || (!i.gates && decide (x0.st ≠ estRecapFw) && decide (x0.st ≠ estRelock)))
  let x1 := if away then x0.leave else x0
  let x2 := if i.gates && decide (x1.st = estWatch) then x1.start e s.atime else x1
  let t1 := { t with est := x2 }
  if x2.st = estWatch then (e, { t1 with est := (watchStep e x2 i).filtered e i.ts })
  else if x2.st = estRecapFw then (e, { t1 with est := (x2.fwStep e i).filtered e i.ts })
  else if x2.st = estFailed then (e, t1)
  else if x2.st = estRecapAsc then
    (e, { t1 with est := x2.ascStep (clarke i.ia i.ib) })
  else
    let t2 := (if i.gates && decide (x2.st = estRelock) then s.recaptured e t1 else t1).mapEst fun x => { x with k := x.k + 1 }
    let r := runTrackers e t2 i
    let c := clarke i.ia i.ib
    let dq := park c.1 c.2 (fWrap (fAdd r.2.theta i.shift))
    let n := injTicks e i.ts
    let x3 := { r.2 with hd := (dq.1 :: x2.hd).take 64, hq := (dq.2 :: x2.hq).take 64 }
    let x4 := (x3.filtered e i.ts).locking e
    if x4.st = estPolarity then
      let q := { x4 with hd := x2.hd }.polStep e i dq.1
      let y := { q.1 with hd := (dq.1 :: x2.hd).take (max n 8) }
      let t3 := { t2 with est := y }
      if q.2 then (r.1, t3.say true 0x0849 1 0 0 0)
      else if y.st = estTrack then (r.1, t3.say false 0x1007 0 y.polM (w32 (s.since y.acqAt)) 0)
      else (r.1, t3)
    else (r.1, { t2 with est := x4 })

/-! ### Voltage and duties (R223, R224) -/

/-- The three duties for a voltage vector (R224). -/
def duties (va vb vc vdc : F32) (comp : F32 × F32 × F32) : List F32 :=
  let v0 := fNeg (fMul (fAdd (fMax va (fMax vb vc)) (fMin va (fMin vb vc))) fHalf)
  let d (v c : F32) : F32 := fClamp (fAdd (fAdd fHalf (fDiv (fAdd v v0) vdc)) c) (fZero false) fOne
  [d va comp.1, d vb comp.2.1, d vc comp.2.2]

/-- The dead-time compensation of a leg: clamp(i / I_DTC, ±1) × DT / T_PWM (R224). -/
def State.deadComp (s : State) (n l : Nat) (e : Engine) (i : F32) : F32 :=
  match s.legOf n l with
  | none => fZero false
  | some h =>
    let f := fOfRatio (s.deadTime h) (max 1 (64 * s.carrierHalf (s.timer n) h))
    fMul (fClamp (fDiv i (e.word 347)) (fNeg fOne) fOne) f

/-- Commands of kind `k` for the three legs of set `n` enter the stage. -/
def State.stageLegs (s : State) (n k : Nat) (e : Engine) (vs : List F32) : Engine :=
  (vs.zipIdx).foldl (fun a p => match s.legOf n p.2 with | some h => a.stageCmd h k p.1 | none => a) e

/-- The voltage command of a modulated tick: engine, traction state with integrators and voltages, VLIM (R223, R262, R265). -/
def voltStep (e : Engine) (t : Trac) (i : TickIn) (id iq idr iqr vdc : F32) : Engine × Trac × Bool :=
  let om := t.est.omega
  let a := e.piStep 0 i.ts (fSub idr id) t.i0
  let b := a.1.piStep 1 i.ts (fSub iqr iq) t.i1
  let vd0 := fSub a.2.2 (fMul (fMul om (e.word 352)) iq)
  let vq := fAdd b.2.2 (fMul om (fAdd (fMul (e.word 351) id) (e.word 353)))
  let vd1 := match polVolt e t.est with | some v => v | none => vd0
  let vd := if t.est.inj then fAdd vd1 (fMul (e.word 296) (fCos (injAngle t.est.k (injTicks e i.ts)))) else vd1
  let l := vecLimit vd vq (fDiv (fMul (e.word 343) vdc) fRoot3)
  (b.1, { t with i0 := a.2.1, i1 := b.2.1, vMag := fHyp vd vq, vd := l.1, vq := l.2 }, !(fEq l.1 (fFlush vd) && fEq l.2 (fFlush vq)))

/-- The prediction of R214 for the next tick from an average voltage: i_d⁺, i_q⁺, and i_a⁺, i_b⁺. -/
def predict (e : Engine) (t : Trac) (i : TickIn) (id iq vd vq : F32) : F32 × F32 × F32 × F32 :=
  let om := t.est.omega
  let d := fAdd id (fMul (fDiv i.ts (e.word 351)) (fAdd (fSub vd (fMul (e.word 350) id)) (fMul (fMul om (e.word 352)) iq)))
  let q := fAdd iq (fMul (fDiv i.ts (e.word 352))
    (fSub (fSub (fSub vq (fMul (e.word 350) iq)) (fMul (fMul om (e.word 351)) id)) (fMul om (e.word 353))))
  let ab := ipark d q (fWrap (fAdd (fAdd t.est.theta i.shift) (fMul om i.ts)))
  let ph := iclarke ab.1 ab.2
  (d, q, ph.1, ph.2.1)

/-! ### Speed loop (R234, R235) -/

/-- The speed loop of a tick: engine, traction state, torque command (R234, R235). `tick` is its length. -/
def speedLoop (e : Engine) (t : Trac) (ts : F32) (tick : Nat) : Engine × Trac × F32 :=
  let on := e.word 336 = 1
  if !on then (e, { t with speedMode := false }, fMul (e.word 337) (e.word 358))
  else
    let e0 := if t.speedMode then e else e.profSeed 0 t.est.speed
    let t0 := if t.speedMode then t else { t with i2 := t.tRef, speedMode := true }
    let nl := e.word 451
    let e1 := e0.profStep 0 (fClamp (e.word 338) (fNeg nl) nl) tick
    let p := fxTo (e1.profState 0).1
    let r := e1.piStep 2 ts (fSub p t.est.speed) t0.i2
    let c0 := fMin (e.word 449) (e.word 450)
    let c1 := if fEq (e.word 339) (fZero false) then c0 else fMin c0 (e.word 339)
    let cap := capOf t0.ramps c1
    let u := if fEq (e.word 339) (fZero false) then r.2.2 else fClamp r.2.2 (fNeg (e.word 339)) (e.word 339)
    (r.1, { t0 with i2 := fClamp r.2.1 (fNeg cap) cap, prof := p }, u)

/-! ### Band width (R248) -/

/-- The half-width of a band tick (R248). -/
def bandWidth (e : Engine) (t : Trac) (i : TickIn) : Trac :=
  let ft := fClamp (e.gain 7) (fOfNat 10000) (fOfNat 100000)
  if !t.bandOn then { t with bandOn := true, fbar := ft, h := e.gain 6 }
  else
    let bk := fClamp (e.gain 8) (fZero false) fOne
    let f := fDiv (fOfNat (i.chg.1 + i.chg.2.1 + i.chg.2.2)) (fMul (fOfNat 6) i.ts)
    let fb := fFilter t.fbar f i.ts (e.word 363)
    let st := e.word 362
    let g := fClamp (fAdd fOne (fDiv (fMul bk (fSub fb ft)) ft)) (fSub fOne st) (fAdd fOne st)
    { t with fbar := fb, h := fClamp (fMul t.h g) (e.word 360) (e.word 361) }

/-- The references of the three legs in a band tick (R247, R275). -/
def bandRefs (e : Engine) (t : Trac) (shift : F32) : List F32 :=
  if t.est.st = estRecapAsc then (let v := fNeg (fOfNat 1000000); [v, v, v])
  else
    let ab := ipark t.idRef t.iqRef (fWrap (fAdd (fAdd t.est.theta shift) (fMul t.est.omega (e.word 366))))
    let p := iclarke ab.1 ab.2
    [p.1, p.2.1, p.2.2]

/-- The model voltage of a band tick (R250). -/
def modelVolt (e : Engine) (t : Trac) : F32 × F32 :=
  let om := t.est.omega
  (fSub (fMul (e.word 350) t.idRef) (fMul (fMul om (e.word 352)) t.iqRef),
   fAdd (fMul (e.word 350) t.iqRef) (fMul om (fAdd (fMul (e.word 351) t.idRef) (e.word 353))))

/-- Every leg's error at the sample against 2h where it made no change of state: the legs that are saturated, as a mask (R250). -/
def bsatMask (t : Trac) (i : TickIn) (refs : List F32) : Nat :=
  let ic := fNeg (fAdd i.ia i.ib)
  let far (c r x : F32) : Bool := fLt (fMul fTwo c) (fAbs (fSub r x))
  bit (i.chg.1 = 0 && far t.h (refs.getD 0 0) i.ia) + 2 * bit (i.chg.2.1 = 0 && far t.h (refs.getD 1 0) i.ib) +
    4 * bit (i.chg.2.2 = 0 && far t.h (refs.getD 2 0) ic)

/-! ### Plausibility (R272, R273) -/

/-- The resolver's difference, where RES_CFG enables one and its sample is valid (R273). -/
def resDiff (e : Engine) (t : Trac) : Option F32 :=
  let v := (e.word 311).toNat
  if v % 4 = 0 ∨ v % 4 = 3 then none
  else
    let s := e.sample (0x78 + (v % 4 - 1))
    if s.2 &&& 5 ≠ 0 then none
    else some (fWrap (fWrap (fSub (fAdd (fMul (fOfRatio (e.word 349).toNat (max 1 (v / 16 % 16))) s.1) (e.word 312)) t.est.theta)))

/-- The residual of check 0 (R272). -/
def residual (e : Engine) (t : Trac) (i : TickIn) (id iq : F32) : F32 :=
  if i.law = 0 then fHyp (fSub id t.est.pD) (fSub iq t.est.pQ)
  else
    let v := vtVector e t.est i
    let m := park v.1 v.2 (fAdd t.est.theta i.shift)
    let w := modelVolt e t
    fDiv (fMul (fHyp (fSub m.1 w.1) (fSub m.2 w.2)) i.ts) (e.word 351)

/-- The checks of a TRACK tick: the state, and whether the rotor is lost (R272). -/
def State.checks (s : State) (n : Nat) (e : Engine) (t : Trac) (i : TickIn) (id iq : F32) : State × Bool × Option F32 × Nat :=
  if t.est.st ≠ estTrack then (s, false, none, 0)
  else
    let a := if i.clean then s.plausCheck n 0 (residual e t i id iq) (e.gain 9) 3 else (s, 0)
    let b := a.1.plausCheck n 1 t.est.lock (e.gain 10) 4
    match resDiff e t with
    | none => (b.1, a.2 = 2 || b.2 = 2, none, 0)
    | some r =>
      let c := b.1.plausCheck n 2 r (e.gain 11) 10
      (c.1, a.2 = 2 || b.2 = 2, some r, c.2)

/-! ### A whole tick -/

/-- Bits of FLAGS (R231, R250, R261). -/
def flagBits (l : List Bool) : Nat := packBits l

/-- The state words of a tick (R231, R250, R261). -/
def stateWords (e : Engine) (t : Trac) (ts id iq vd vq resid rdiff : F32) : Engine :=
  let x := t.est
  let put (a : Engine) (w : Nat) (v : Word) : Engine := a.setWord w v
  let ws : List (Nat × Word) := [
    (384, torqueOf e id iq), (385, x.speed), (386, id), (387, iq), (388, vd), (389, vq), (390, t.tRef), (391, w32 t.flags),
    (394, w32 t.law), (395, x.theta), (396, x.omega), (397, x.w), (398, w32 x.st), (399, x.lock), (400, resid), (401, rdiff),
    (402, w32 x.recaps.length), (403, hfEff e ts)]
  ws.foldl (fun a p => put a p.1 p.2) e

/-- LIMIT_CHANGE where FLAGS bits 0 to 2 changed, at most once per 10 ms (R237). -/
def State.limitChange (s : State) (t : Trac) (old : Nat) : Trac :=
  let due := match t.limitAt with | none => true | some a => decide (10000 ≤ s.since a)
  if old % 8 ≠ t.flags % 8 ∧ due = true then
    { t with limitAt := some s.atime }.say false 0x1002 0 (w32 old) (w32 t.flags) 0
  else t

/-- The torque reference of a tick (R229, R258): a hold, or an estimator that is not in TRACK, makes the command 0. -/
def torqueTick (e : Engine) (t : Trac) (cmd ts : F32) : Trac :=
  let held := bitOf (e.word 452) 0 || t.est.st ≠ estTrack
  let rs := stepRamps t.ramps ts (e.word 449)
  let zero := decide (estRecapFw ≤ t.est.st) && decide (t.est.st ≤ estRelock)
  let r := if zero then (fZero false, false)
            else torqueStep (if held then fZero false else cmd) t.tRef (fMul (e.word 340) ts) rs t.est.omega (e.word 449) (e.word 450)
  { t with tRef := r.1, ramps := rs, limited := r.2 }

/-- RES_MISMATCH at the first tick in which check 2 reaches N, until its counter resets (R273). -/
def Trac.resolver (t : Trac) (r : Option F32) (c : Nat) : Trac :=
  match r with
  | none => t
  | some d =>
    if c = 2 ∧ t.est.resBad = false then ({ t with est.resBad := true }).say false 0x1006 0 d t.est.theta 0
    else if c = 0 then { t with est.resBad := false } else t

/-- SP_SEQ as the tick finds it at ATIME `now` (R230): a new one ends the setpoint-watchdog ramp and the hand-over ramp of R123; where the
watchdog does not run, its time starts anew. -/
def Trac.heard (t : Trac) (seq : Word) (now : Time) (runs : Bool) : Trac :=
  if seq = t.seq then (if runs then t else { t with seqAt := now })
  else { t with seq := seq, seqAt := now, swd := false, ramps := t.ramps.filter fun (r : Ramp) => r.kind ≠ 0 && r.kind ≠ 3 }

/-- A ramp starts at |T*|; one of the same kind in progress keeps its line (R229). -/
def Trac.startRamp (t : Trac) (kind : Nat) (rate : F32) : Trac :=
  if t.ramps.any (fun r => r.kind = kind) then t
  else { t with ramps := t.ramps ++ [({ kind := kind, cap := fAbs t.tRef, rate := rate, rising := false } : Ramp)] }

/-- The slope of the setpoint-watchdog ramp: T_MOT_MAX / SWD_RAMP (R230). -/
def Engine.swdRate (e : Engine) : F32 := fDiv (e.word 449) (fDiv (e.word 342) (fOfNat 1000))

/-- The setpoint watchdog runs in DRIVE, DEGRADED and SERVICE (R230). -/
def State.swdRuns (s : State) : Bool := s.md = .drive || s.md = .degraded || s.md = .service

/-- SP_SEQ has not changed for SWD_TIMEOUT, and the watchdog has not expired yet (R230). -/
def State.swdDue (s : State) (e : Engine) (t : Trac) : Bool :=
  s.swdRuns && !t.swd && fLe (fMul (e.word 341) (fOfNat 1000)) (fOfNat (s.since t.seqAt))

/-- The setpoint watchdog expires: its ramp starts and FLAGS.SWD is set (R230). -/
def Trac.expire (t : Trac) (e : Engine) : Trac := { t.startRamp 0 e.swdRate with swd := true }

/-- A run of ticks above N_OVER (R236). -/
def Trac.speeding (t : Trac) (e : Engine) : Trac :=
  if fLt (e.word 354) (fAbs t.est.speed) then { t with overRun := t.overRun + 1 } else { t with overRun := 0, overTold := false }

/-- The runs of BSAT and of HLIM after a band tick (R251, R256): the legs that are saturated, HLIM, and the target F_T. -/
def Trac.bandRuns (t : Trac) (mask : Nat) (hl : Bool) (ft : F32) (now : Time) : Trac :=
  let off := hl && fLt (fMul (fOfRatio 1 5) ft) (fAbs (fSub t.fbar ft))
  { t with bsat := mask, bsatRun := if mask = 0 then 0 else t.bsatRun + 1, bsatTold := t.bsatTold && decide (mask ≠ 0)
           hlimAt := if off then some (t.hlimAt.getD now) else none, hlimTold := t.hlimTold && off }

/-- One tick of the standard traction program of set `n` under a law, its samples taken (R221, R248). -/
def State.tracRun (s : State) (n law : Nat) : State :=
  let i := s.tickIn n law
  let e0 := s.eng n
  let seen := (List.range 3).map fun l => match s.legOf n l with | some h => (s.chan h).changes | none => 0
  let th0 := { (s.tr n).heard (e0.word 359) s.atime s.swdRuns with out := [] }
  let t00 := if s.swdDue e0 th0 then ((th0.expire e0).say true 0x0840 0 0 0 0).say false 0x1001 0 th0.tRef 0 0 else th0
  let t0 := { t00 with
                law := law, bandOn := t00.bandOn && decide (law = 1), chgSeen := seen }
  let vs := e0.sample (e0.word 356).toNat
  let bad := vs.2 &&& 5 ≠ 0
  let vdc := if bad then t0.vdc else vs.1
  let t1 := { t0 with vdc := vdc, vdcBad := if bad then t0.vdcBad + 1 else 0, vdcTold := t0.vdcTold && bad }
  let r1 := s.estTick e0 t1 i
  let c := clarke i.ia i.ib
  let th := fWrap (fAdd r1.2.est.theta i.shift)
  let dq := park c.1 c.2 th
  let sl := speedLoop r1.1 r1.2 i.ts (s.tickLen n)
  let t2 := torqueTick sl.1 sl.2.1 sl.2.2 i.ts
  let rg := (s.useFree.setEng n sl.1).regionLookup n (fAbs t2.est.speed) (fAbs t2.tRef)
  let e2 := rg.1.eng n
  let zero := decide (estRecapFw ≤ t2.est.st) && decide (t2.est.st ≤ estRelock)
  let cr := if zero then (fZero false, fZero false, fZero false, false, false, fZero false) else currentRef e2 t2 t2.tRef vdc i.ts
  let idr := if law = 1 && t2.est.st = estPolarity then polCurrent e2 t2.est else cr.1
  let t3 := { t2 with idRef := idr, iqRef := cr.2.1, dId := cr.2.2.1, idMt := cr.2.2.2.2.2 }
  let nInj := injTicks e2 i.ts
  let mean (l : List Word) (v : F32) : F32 := if t3.est.inj then fDiv (fSum (l.take nInj)) (fOfNat (max 1 (l.take nInj).length)) else v
  let idc := mean t3.est.hd dq.1
  let iqc := mean t3.est.hq dq.2
  let ck := rg.1.checks n e2 t3 i idc iqc
  let e3 := ck.1.eng n
  let hold := bitOf (e3.word 452) 0
  let base (vl hl bs : Bool) : Nat :=
    flagBits [vl, cr.2.2.2.1, cr.2.2.2.2.1, t3.swd, hold, t3.speedMode, bitOf (e3.word 452) 1, bs, hl, t3.est.st ≠ estTrack, t3.est.resBad]
  let fin (st : State) (e : Engine) (t : Trac) (vd vq : F32) : State :=
    let t' := st.limitChange ((t.resolver ck.2.2.1 ck.2.2.2).speeding e) t0.flags
    let t'' := if ck.2.1 then st.startRecapture n e t' else t'
    (st.setEng n (stateWords e t'' i.ts idc iqc vd vq (residual e t3 i idc iqc) (ck.2.2.1.getD (fZero false)))).setTr n t''
  if law = 0 then
    let v := voltStep e3 t3 i idc iqc idr cr.2.1 vdc
    let ang := fWrap (fAdd th (fMul v.2.1.est.omega (e3.word 348)))
    let ab := ipark v.2.1.vd v.2.1.vq ang
    let ph := iclarke ab.1 ab.2
    let d0 := duties ph.1 ph.2.1 ph.2.2 vdc
      (s.deadComp n 0 e3 i.ia, s.deadComp n 1 e3 i.ib, s.deadComp n 2 e3 (fNeg (fAdd i.ia i.ib)))
    let d := if v.2.1.est.st = estRecapAsc then [fZero false, fZero false, fZero false]
             else if 2 ≤ t1.vdcBad then t0.duties else d0
    let e4 := s.stageLegs n 0 v.1 d
    let pr := predict e4 v.2.1 i idc iqc (fMul (fAdd t0.vd v.2.1.vd) fHalf) (fMul (fAdd t0.vq v.2.1.vq) fHalf)
    let e5 := (e4.setWord 440 pr.2.2.1).setWord 441 pr.2.2.2
    fin ck.1 e5 { v.2.1 with duties := d, flags := base v.2.2 false false, bsatRun := 0, hlimAt := none, hlimTold := false, est.pD := pr.1, est.pQ := pr.2.1 } v.2.1.vd v.2.1.vq
  else
    let t4 := bandWidth e3 t3 i
    let refs := bandRefs e3 t4 i.shift
    let mv := modelVolt e3 t4
    let e4 := s.stageLegs n 2 (s.stageLegs n 1 e3 refs) [t4.h, t4.h, t4.h]
    let pr := predict e4 t4 i idc iqc mv.1 mv.2
    let e5 := ((((e4.setWord 440 pr.2.2.1).setWord 441 pr.2.2.2).setWord 392 t4.h).setWord 393 t4.fbar)
    let mask := bsatMask t4 i refs
    let hl := fLe t4.h (e4.word 360) || fLe (e4.word 361) t4.h
    let ft := fClamp (e4.gain 7) (fOfNat 10000) (fOfNat 100000)
    let t5 := { t4.bandRuns mask hl ft s.atime with
                  i0 := fMul (e4.word 350) t4.idRef, i1 := fMul (e4.word 350) t4.iqRef, vMag := fHyp mv.1 mv.2, vd := mv.1, vq := mv.2,
                  flags := base false hl (mask ≠ 0), est.pD := pr.1, est.pQ := pr.2.1 }
    fin ck.1 e5 t5 mv.1 mv.2

/-- The law of the program at the entry that the engine runs (R249, R252): band at BAND_ENTRY, else modulated. -/
def State.lawAt (s : State) (n : Nat) : Nat :=
  let e := s.eng n
  let en := s.get (R.FE_CTRL_ENTRY (s.timer n))
  if en = (e.word 365).toNat ∧ en ≠ (e.word 364).toNat then 1 else 0

/-- The timebase of set `n` suits the modulated program (R219). -/
def State.tbSuits (s : State) (n : Nat) : Bool :=
  let m := s.timer n
  s.tbM m % 2 = 0 && s.get (R.EDGE_TB_HALF_A_HALF m) * s.tbM m % 8 = 0 && decide (2500 ≤ s.get (R.FE_TICK_PERIOD m))

/-- A tick of the standard traction program (R219, R221, R227, R249): timebase and parameters are judged before the first CST of a program, at
RUN and where the law has changed; then the tick. -/
def State.tracTick (s : State) (n : Nat) : State :=
  let law := s.lawAt n
  let t := s.tr n
  match t.judged, decide (t.law = law) with
  | some false, true => s.setTr n { t with out := [] }
  | some true, true => s.tracRun n law
  | was, _ =>
    let no := { t with judged := some false, law := law, out := [] }
    if law = 0 ∧ s.tbSuits n = false then s.setTr n (no.say true 0x0843 0 0 0 0)
    else
      match (s.eng n).badParam s.part law with
      | some w => s.setTr n (no.say true 0x0844 0 (w32 w) 0 0)
      | none =>
        let on := { t with judged := some true }
        (s.setTr n (if was = some true then on else { on with seq := (s.eng n).word 359, seqAt := s.atime })).tracRun n law

/-- What a release of set `n` lets out (R182): its events and records. -/
def State.tracRelease (s : State) (n : Nat) : State :=
  let t := s.tr n
  s.each t.out fun u o =>
    if o.1 then u.raise o.2.1 (if o.2.1 = 0x0849 then u.missSeverity n else o.2.2.1) (0x80 + n) o.2.2.2.1 o.2.2.2.2.1
    else u.event o.2.1 (0x80 + n) o.2.2.2.1 o.2.2.2.2.1 o.2.2.2.2.2

end Sys2Proof.Machine
end

