-- ==== Sys2Proof/Machine/Converter.lean ====
section
/-! DEFINITION. The low-voltage converter (15_lv_converter.md): FE_4's standard program, the CONV block, its commands and its events.
The written operations of the program are rounded one by one (DEDUCED, log 23). -/

namespace Sys2Proof.Machine

/-! ### Burst permission and starts -/

/-- The converter wakes from a burst sleep: strobes resume and the pads follow the schedule again (R305, R306). -/
def State.convWake (s : State) : State :=
  if s.get R.CONV_STATUS_STATE = 3 then
    ({ s.convState (if s.conv.ssDone then 2 else 1) with conv.withheld := false, conv.padsLow := false }).refreshUnit unitConv
  else s

/-- The Wardens renew the burst permission (R305): STANDBY, or SERVICE with BURST_SERV. -/
def State.burstRefresh (s : State) : State :=
  let ok := s.md = .standby || (s.md = .service && s.flag R.CONV_CFG_BURST_SERV)
  let s1 := ((s.putB R.CONV_CTRL_BURST_OK ok).putB R.CONV_STATUS_BURST_OK ok).wardenStage 4 449 (w32 (bit ok))
  if ok then s1 else s1.convWake

/-- The Wardens copy ΔV into word 451 of FE_4 (R300). -/
def State.burstDv (s : State) : State := s.wardenStage 4 451 (fOfRatio (s.get R.CONV_BURST_CFG_DV_MV) 1000)

/-- A start or restart of the converter (R307): START_SEQ advances and STATE becomes SOFT_START. -/
def State.convStart (s : State) : State :=
  let s1 := s.wardenStage 4 450 (s.wardenWord 4 450 + 1)
  ({ s1.convState 1 with conv.withheld := false, conv.padsLow := false }).refreshUnit unitConv

/-- The CONV block drives every converter channel's pads low (R309, R310). -/
def State.convPadsLow (s : State) : State := ({ s with conv.padsLow := true }).refreshUnit unitConv

/-! ### The program (R296-R309) -/

/-- The parameters in word order with their ranges (R299); the class decides V_SET. -/
def State.convVset (s : State) (v : F32) : Bool :=
  if s.get R.CONV_CFG_CLASS = 0 then fLe (fOfNat 11) v && fLe v (fOfNat 16) else fLe (fOfNat 36) v && fLe v (fOfNat 54)

/-- The converter's parameters (R299). -/
def State.convChecks (s : State) : List (Nat × Bool) :=
  let e := s.eng 4
  [(336, s.convVset (e.word 336)), (337, e.within 337 100 100000 1), (338, e.within 338 1000 1000000000 1),
   (339, e.within 339 100000 1000000000000 1), (340, e.within 340 1 50 1000), (341, e.within 341 1 100 1), (342, e.within 342 50 98 100),
   (343, e.within 343 1 10000 10000000), (344, e.intWithin 344 0x10 0x6F), (345, e.intWithin 345 0x10 0x6C), (346, e.intWithin 346 0x10 0x6F),
   (347, e.within 347 0 1 100)]

/-- The values of a converter tick that its later steps use. -/
structure ConvIn where
  ts : F32
  tick : Nat
  vo : F32
  vin : F32
  il : List F32
  deriving DecidableEq, Repr

/-- The samples of a tick (R296). -/
def State.convIn (s : State) : ConvIn :=
  let e := s.eng 4
  let il := (e.word 345).toNat
  { ts := s.ts 4, tick := s.tickLen 4, vo := (e.sample (e.word 344).toNat).1, vin := (e.sample (e.word 346).toNat).1,
    il := (List.range 4).map fun k => (e.sample (il + k)).1 }

/-- The reference profile of a tick (R305, R307, R308): engine and converter with START_SEQ taken, and V_RAMP. -/
def convProfile (e : Engine) (c : ConvState) (i : ConvIn) : Engine × ConvState × F32 :=
  let new := e.word 450 ≠ c.seqSeen
  let c1 := if new then { c with seqSeen := e.word 450, ssDone := false, e1 := 0, e2 := 0, e3 := 0, u1 := 0, u2 := 0, u3 := 0 } else c
  let e1 := if new then e.profSeed 0 i.vo else e
  let vset := e.word 336
  let target := if e.word 449 = 1 then fAdd vset (e.word 451) else vset
  let vm := fDiv vset (e.word 340)
  let am := fDiv (fMul (fOfNat 40) vm) (e.word 340)
  let jm := fDiv (fMul (fOfNat 40) am) (e.word 340)
  let e2 := if c1.ssDone then e1.profWith 0 (e.word 337) (e.word 338) (e.word 339) target i.tick
            else e1.profWith 0 vm am jm target i.tick
  let p := fxTo (e2.profState 0).1
  let done := decide (e2.profState 0 = (fxOf target, 0, 0))
  (e2, { c1 with ssDone := c1.ssDone || done }, p)

/-- The third-order difference equation of R297 on an error, with gain words 0 to 6 and a history; clamped to `lo` … `hi`. -/
def thirdOrder (e : Engine) (e0 e1 e2 e3 u1 u2 u3 lo hi : F32) : F32 :=
  let b := fAdd (fAdd (fAdd (fMul (e.gain 0) e0) (fMul (e.gain 1) e1)) (fMul (e.gain 2) e2)) (fMul (e.gain 3) e3)
  let a := fSub (fSub (fSub b (fMul (e.gain 4) u1)) (fMul (e.gain 5) u2)) (fMul (e.gain 6) u3)
  fClamp a lo hi

/-- One tick of the converter program (R296-R307), parameters in range. -/
def State.convRun (s : State) : State :=
  let e0 := s.eng 4
  let i := s.convIn
  let slept := bitOf (e0.word 384) 0
  let c0 := if slept then { s.conv with out := [], e1 := 0, e2 := 0, e3 := 0, u1 := i.vo, u2 := i.vo, u3 := i.vo, voHigh := 0 }
            else { s.conv with out := [] }
  let bad := (e0.sample (e0.word 344).toNat).2 &&& 4 ≠ 0
  let c1 := { c0 with voBad := if bad then c0.voBad + 1 else 0, voTold := c0.voTold && bad }
  let r := convProfile e0 c1 i
  let vramp := r.2.2
  let io := fSum i.il
  let pi := r.1.piStep 1 i.ts (fSub (e0.word 448) io) r.2.1.iLim
  let vref := if fLt (e0.word 448) io || fLt r.2.1.iLim vramp then fClamp pi.2.2 (fZero false) vramp else vramp
  let c2 := { r.2.1 with iLim := fClamp pi.2.1 (fZero false) vramp }
  let er := fSub vref i.vo
  let nr := pi.1.word 341
  let u := thirdOrder pi.1 er c2.e1 c2.e2 c2.e3 c2.u1 c2.u2 c2.u3 (fZero false) (fDiv (fMul (pi.1.word 342) i.vin) nr)
  let d := fDiv (fMul u nr) i.vin
  let mean := fDiv io (fOfNat 4)
  let dk := i.il.map fun x => fClamp (fAdd d (fMul (pi.1.word 347) (fSub mean x))) (fZero false) (pi.1.word 342)
  let dk1 := if 2 ≤ c1.voBad then dk.map fun _ => fZero false else dk
  let model := (s.conv.il.zip s.conv.dk).map fun x =>
    fAdd x.1 (fDiv (fMul i.ts (fSub (fDiv (fMul x.2 s.conv.vin) nr) s.conv.vout)) (pi.1.word 343))
  let resid := ((i.il.zip model).map fun x => fAbs (fSub x.1 x.2)).foldl (fun m x => fMax m x) (fZero false)
  let rg := (s.useFree.setEng 4 pi.1).regionLookup 4 (fAbs io) i.vin
  let pl := if s.conv.il.isEmpty then (rg.1, 0) else rg.1.plausCheck 4 0 resid ((rg.1.eng 4).gain 9) 5
  let e3 := pl.1.eng 4
  let vb := fAdd (e3.word 336) (e3.word 451)
  let burst := e3.word 449 = 1
  let high := if burst && fLe vb i.vo then c2.voHigh + 1 else 0
  let req := burst && decide (2 ≤ high) && !slept
  let leg (a : Engine) (k l : Nat) (v : F32) : Engine :=
    match (s.engineChans 4).find? (fun h => s.chanUnit h = k && s.chanLeg h = l) with
    | some h => a.stageCmd h 0 v
    | none => a
  let e4 := (dk1.zipIdx).foldl (fun a p => leg (leg (leg a p.2 0 (fZero false)) p.2 1 (fMul p.1 fHalf)) p.2 2 (fMul p.1 fHalf)) e3
  let ws : List (Nat × Word) := [(384, w32 (packBits [req, c2.ssDone])), (385, vramp), (386, i.vo), (387, io), (388, d)]
  let e5 := ws.foldl (fun a p => a.setWord p.1 p.2) e4
  { pl.1.setEng 4 e5 with
      conv := { c2 with e1 := er, e2 := c2.e1, e3 := c2.e2, u1 := u, u2 := c2.u1, u3 := c2.u2, voHigh := high, dk := dk1, il := i.il,
                        vin := i.vin, vout := i.vo } }

/-- A tick of the converter program: parameters judged before the first CST, then the tick (R299). -/
def State.convTick (s : State) : State :=
  match s.conv.judged with
  | some false => { s with conv.out := [] }
  | some true => s.convRun
  | none =>
    match s.convChecks.find? (fun c => !c.2) with
    | some w => { s with conv.judged := some false, conv.out := [(true, 0x0844, 0, w32 w.1, 0, 0)] }
    | none => { s with conv.judged := some true }.convRun

/-- CONV_VOUT_ABSENT: the output-voltage sample STALE in two ticks in a row, told once (R296). -/
def State.tellVoutAbsent (s : State) : State :=
  if 2 ≤ s.conv.voBad ∧ s.conv.voTold = false then { s with conv.voTold := true }.raise 0x0850 1 0x84 else s

/-- What a release of FE_4 does in the CONV block (R305, R307, R309), its committed words in place. -/
def State.convRelease (s : State) : State :=
  let ctl := (s.eng 4).seen 384
  let st := s.get R.CONV_STATUS_STATE
  let s0 := (s.each s.conv.out fun u o => u.raise o.2.1 o.2.2.1 0x84 o.2.2.2.1).tellVoutAbsent
  let s1 := if bitOf ctl 1 then s0.put R.CONV_STATUS_RETRIES 0 else s0
  let s2 := if bitOf ctl 1 && st = 1 then s1.convState 2 else s1
  if bitOf ctl 0 && s2.flag R.CONV_CTRL_BURST_OK && (st = 1 || st = 2) then
    ({ s2.convState 3 with conv.withheld := true, conv.padsLow := true }).refreshUnit unitConv
  else s2

/-! ### Commands (R311) -/

/-- The converter as target. -/
def convTargets : List Nat := [0x0D]

/-- The LV charge is armed (R327): ARM bit 1, word 348 of FE_5. -/
def State.lvArmed (s : State) : Bool := bitOf ((s.eng 5).nextWord 348) 1

/-- CONV_SET_V (R306, R311, R327): V_SET; it ends a burst sleep, and waits for an LV charge. -/
def execConvSetV (c : Cmd) (s0 : State) : Out :=
  s0.command c 0x2000 fun s =>
  if !s.targets c convTargets then refuse s c .badParam
  else if s.lvArmed && s.modeOk 0x2000 false then refuse s c .busyRetry
  else
    let bad := short c 4 || !s.convVset (argW c 16)
    let s1 := s.queueSetpoint c 4 0x2000 0 bad [(336, argW c 16)]
    .next (if bad then s1 else s1.convWake)

/-- CONV_STATUS (R311). -/
def execConvStatus (c : Cmd) (s0 : State) : Out :=
  s0.command c 0x2001 fun s =>
  if !s.targets c convTargets then refuse s c .badParam
  else if !s.modeOk 0x2001 true then refuse s c .rejectedMode
  else .next (s.finish c .ok (pair64 (s.rd R.CONV_STATUS).toNat (s.rd R.CONV_SYNC_STAT).toNat))

/-- CONV_RESTART (R309, R311): a latched converter starts softly; RETRIES cleared. -/
def execConvRestart (c : Cmd) (s0 : State) : Out :=
  s0.command c 0x2002 fun s =>
  if !s.targets c convTargets then refuse s c .badParam
  else if !s.modeOk 0x2002 false then refuse s c .rejectedMode
  else if s.get R.CONV_STATUS_STATE ≠ 5 then refuse s c .badParam
  else if fLe ((s.eng 4).nextWord 336) ((s.eng 4).sample ((s.eng 4).word 344).toNat).1 then refuse s c .busyRetry
  else .next (((s.put R.CONV_STATUS_RETRIES 0).convStart).finish c .ok)

/-- CONV_LIGHT_LOAD (R311): BURST_SERV, in SERVICE alone. -/
def execConvLightLoad (c : Cmd) (s0 : State) : Out :=
  s0.command c 0x2003 fun s =>
  if !s.targets c convTargets then refuse s c .badParam
  else if s.md ≠ .service then refuse s c .rejectedMode
  else if short c 1 || decide (1 < arg c 16 1) then refuse s c .badParam
  else .next (((s.put R.CONV_CFG_BURST_SERV (arg c 16 1)).burstRefresh).finish c .ok)

/-- CONV_SYNC (R302, R311): FOLLOW and INT_FREQ. -/
def execConvSync (c : Cmd) (s0 : State) : Out :=
  s0.command c 0x2004 fun s =>
  if !s.targets c convTargets then refuse s c .badParam
  else if !s.modeOk 0x2004 false then refuse s c .rejectedMode
  else if short c 8 || decide (1 < arg c 16 1) || decide (arg c 20 4 < 50000) || decide (500000 < arg c 20 4) then refuse s c .badParam
  else .next ((s.syncWrite (arg c 16 1 == 1) (arg c 20 4)).finish c .ok)

/-- The result of CONV_SET_V at the release of its tick: V_RAMP (R311). -/
def State.convResult (s : State) : Nat := ((s.eng 4).seen 385).toNat

/-! ### Synchronisation -/

/-- SYNC_EDGE (R302): a rising edge on CONV_SYNC, `interval` FS after the edge it is measured from, which is the last valid one or, where
that lies more than 20 µs back, the last edge at all (log 38); `phase` is the distance of the carrier's valley from it. -/
def execSyncEdge (interval : Nat) (phase : Int) (s : State) : Out :=
  if s.flag R.CONV_SYNC_CFG_DIR || !s.running then .next s
  else if interval < 40960 ∨ 409600 < interval then
    .next { s.satInc R.CONV_SYNC_STAT_REJECTED with conv.edges := if 409600 < interval then 0 else s.conv.edges }
  else
    let s1 := { s with conv.edges := s.conv.edges + 1, conv.quiet := 0, conv.interval := interval, conv.phase := phase }
    let st := s.get R.CONV_SYNC_STAT_STATE
    if s.following && (st = 0 || st = 3) && decide (2 ≤ s1.conv.edges) then .next ({ s1 with conv.good := 0 }.syncState 1) else .next s1

/-- SYNC_LOST (R303): no valid edge within two periods; 0x0D04, and the carrier glides to INT_FREQ. -/
def execSyncLost (s : State) : Out := .next s.syncLoss

/-! ### Starts, sleeps and stops -/

/-- CONV_START (R307): the Wardens start the converter once its ENABLE is granted. -/
def execConvStart (s : State) : Out :=
  if s.enabled unitConv && (s.forceOn unitConv).isNone && s.get R.CONV_STATUS_STATE = 0 then .next s.convStart else .next s

/-- BURST_WAKE_SAMPLE (R305): in SLEEP the burst comparator samples the output; at or below V_SET − BURST_DV strobes resume. -/
def execBurstWakeSample (low : Bool) (s : State) : Out := if low then .next s.convWake else .next s

/-- CONV_SHORT (R309): the output below 30 % of V_RAMP for 1 ms; stop, record, and a retry or the latch. -/
def execConvShort (s : State) : Out :=
  let st := s.get R.CONV_STATUS_STATE
  if !(st = 1 || st = 2) then .next s
  else
    let s1 := ({ s with conv.withheld := true, conv.stopAt := s.atime }.convPadsLow.putB R.CONV_STATUS_SHORT true).raise 0x0D01 0 0x0D
    if s.get R.CONV_STATUS_RETRIES < 3 then .next (s1.convState 4)
    else .next ((s1.convState 5).raise 0x0D02 1 0x0D)

/-- CONV_RETRY_WAIT_EXPIRY (R309): 200 ms after the stop the Wardens retry. -/
def execConvRetryWaitExpiry (s : State) : Out :=
  if s.get R.CONV_STATUS_STATE = 4 ∧ 200000 ≤ s.since s.conv.stopAt then .next (s.satInc R.CONV_STATUS_RETRIES).convStart else .next s

/-- CBC_LIMIT (R310): leg 1 of phase `k` takes leg 0's state for the rest of the half-period. -/
def execCbcLimit (k : Nat) (s : State) : Out :=
  let leg (l : Nat) : Option Nat := (s.unitChans unitConv).find? fun h => s.chanFunc h = 2 && s.chanUnit h = k && s.chanLeg h = l
  match leg 0, leg 1 with
  | some a, some b =>
    let s1 := { s with conv.cbc := natSetBit s.conv.cbc k true }
    .next ((s1.setChan b { s1.chan b with cmdHigh := (s1.chan a).cmdHigh }).refreshChan b)
  | _, _ => .next s

/-- CONV_OVP (R310): output overvoltage; every converter pad low, STATE LATCHED, 0x0D03. -/
def execConvOvp (s : State) : Out :=
  if !s.running then .next s
  else .next (((s.convPadsLow.putB R.CONV_STATUS_OVP true).convState 5).raise 0x0D03 1 0x0D)

/-- CONV_VOUT_ABSENT (R296): the output-voltage sample STALE in two ticks; duty 0 on every phase, 0x0850. -/
def execConvVoutAbsent (s : State) : Out :=
  if !s.flag (R.FE_STATUS_RUNNING 4) || (s.eng 4).prog ≠ .converter then .next s
  else .next s.tellVoutAbsent

end Sys2Proof.Machine
end

