-- ==== Sys2Proof/Machine/Charger.lean ====
section
/-! DEFINITION. The charger, the supply to other vehicles and the low-voltage charge (16_charger_supply.md): FE_5's standard program, the
CHG block, its commands and its events. The written operations of the program are rounded one by one (DEDUCED, log 23). What the power
stage measures in a tick has no source in the spec, so it is free (log 39). -/

namespace Sys2Proof.Machine

/-! ### Shared operations -/

/-- Ticks of engine `n` that make up `us` microseconds (R171). -/
def State.ticksFor (s : State) (n us : Nat) : Nat := (us * 400 + s.get (R.FE_TICK_PERIOD n) - 1) / max 1 (s.get (R.FE_TICK_PERIOD n))

/-- The charge target: the low-voltage or the high-voltage battery. -/
def ChgState.target (c : ChgState) (lv : Bool) : Charge := if lv then c.lv else c.hv
def ChgState.setTarget (c : ChgState) (lv : Bool) (x : Charge) : ChgState := if lv then { c with lv := x } else { c with hv := x }

/-- A change of phase, with CHG_PHASE left for the release (R336). -/
def ChgState.toPhase (c : ChgState) (lv : Bool) (p cause : Nat) : ChgState :=
  let x := c.target lv
  if x.phase = p then c
  else { c.setTarget lv { x with phase := p, rest := false, prep := 0, low := none } with
           out := c.out ++ [(false, 0x3002, 0x85, [w32 (bit lv), w32 x.phase, w32 p, w32 cause])] }

/-- Records and events of the charger program leave (R182, R336). -/
def State.chgFlush (s : State) : State :=
  ({ s with chg.out := [] }).each s.chg.out fun u o =>
    if o.1 then u.raise o.2.1 o.2.2.1 0x85 o.2.2.2[0]? o.2.2.2[1]?
    else u.event o.2.1 o.2.2.1 o.2.2.2[0]? o.2.2.2[1]? o.2.2.2[2]? o.2.2.2[3]?

/-- Minutes since a safety timer started (R329). -/
def State.timerMin (s : State) (t : Option Time) : Nat :=
  match t with | none => 0 | some a => min 65535 (s.since a / 60000000)

/-- CP_DRV (R322): S2 closed in CHARGE, the buffer's level in vehicle-to-vehicle supply. While its PWM runs the level is free. -/
def State.cpDrv (s : State) : Bool :=
  if s.md = .charge then decide (1 ≤ s.chg.hv.phase) && decide (s.chg.hv.phase ≤ 4) && !s.chg.hv.wd && !s.flag R.CHG_STATUS_TIMER_HV
  else s.chg.cpHigh && (!s.chg.pwm || bitOf (Config.freeWord 0x49 s.free) 0)

/-- CHG_STATUS and CHG_TIMER_STAT show the charger's state. -/
def State.chgShow (s : State) : State :=
  let c := s.chg
  let s1 := (((s.put R.CHG_STATUS_HV_PHASE c.hv.phase).put R.CHG_STATUS_LV_PHASE c.lv.phase).putB R.CHG_STATUS_HELD (c.hv.phase = 6)).putB
    R.CHG_STATUS_WD_HV c.hv.wd
  let s2 := (s1.putB R.CHG_STATUS_WD_LV c.lv.wd).putB R.CHG_STATUS_S2 s1.cpDrv
  (s2.put R.CHG_TIMER_STAT_HV_MIN (s2.timerMin c.hv.timer)).put R.CHG_TIMER_STAT_LV_MIN (s2.timerMin c.lv.timer)

/-- What a row does to the charger takes its place at once: pads, registers, records. -/
def State.chgDone (s : State) : State := s.chgShow.chgFlush.refreshUnit unitCharger

/-- A bit of HOLD, word 450 of FE_5, by the Wardens (R318). -/
def State.chgHold (s : State) (b : Nat) (v : Bool) : State := s.wardenStage 5 450 (w32 (natSetBit (s.wardenWord 5 450).toNat b v))

/-- ARM, word 348, by the charge manager: bit `b`; `new` advances ARM_SEQ (R317). -/
def State.armWord (s : State) (b : Nat) (v new : Bool) : State :=
  let w := ((s.eng 5).nextWord 348).toNat
  let w1 := natSetBit w b v
  s.stage 5 348 (w32 (if new then w1 % 65536 + ((w1 / 65536 + 1) % 65536) * 65536 else w1))

/-- A contact (R328): CHG_SEQ for the high-voltage target and SUPPLY, LV_SEQ for the low-voltage one. -/
def State.contact (s : State) (lv : Bool) : State :=
  let w := if lv then 350 else 349
  s.stage 5 w ((s.eng 5).nextWord w + 1)

/-- A ramp of I_REF starts at its present amount (R325): kind 0 watchdog, 1 timer, 2 hold, 3 disarm. -/
def ChgState.ramp (c : ChgState) (kind : Nat) : ChgState :=
  if c.ramps.any (fun r => r.1 = kind) then c
  else { c with ramps := c.ramps ++ [(kind, fAbs c.iRef, fDiv (fAbs c.iRef) (fOfRatio 8 100))] }

/-- Ramps of a kind end. -/
def ChgState.endRamps (c : ChgState) (p : Nat → Bool) : ChgState := { c with ramps := c.ramps.filter fun r => !p r.1 }

/-- The LV charge ends: its arm bit falls, and the manager writes back the V_SET the owner last had accepted (R327). -/
def State.lvEnd (s : State) : State :=
  let s1 := (s.armWord 1 false false)
  let s2 := { s1 with chg := s1.chg.setTarget true { s1.chg.lv with armed := false, rest := false } }
  match s2.conv.ownVset with
  | some v => if bitOf ((s.eng 5).nextWord 348) 1 || decide (1 ≤ s.chg.lv.phase) then s2.stage 4 336 v else s2
  | none => s2

/-- V_BATT_MAX in volts (CHG_OVP.VMAX in 0.1 V). -/
def State.vbattMax (s : State) : F32 := fOfRatio (s.get R.CHG_OVP_VMAX) 10

/-- The link voltage of a monitor code, in volts (R280). -/
def State.linkVolts (s : State) (code : Nat) : F32 := fOfRatio (code * s.get R.SAFE_DCL_CFG_LSB_MV) 1000

/-- The monitor code of V_BATT_MAX × 1.05, to the nearest code (log 39). -/
def State.ovpCode (s : State) : Nat := min 4095 (divNearest (s.get R.CHG_OVP_VMAX * 105) (max 1 (s.get R.SAFE_DCL_CFG_LSB_MV)))

/-- A SUPPLY_STATE event: 0 READY, 1 REQUEST, 2 PAUSE, 3 STOP; the spec does not number them (log 39). -/
def State.supplyEvent (s : State) (k : Nat) : State := s.event 0x30F1 0x0E (Config.freeWord (0x50 + k) 0)

/-! ### The program (R314-R328) -/

/-- The parameters with their ranges, in word order (R317); the phase words are judged by the commands that arm (R335). -/
def Engine.chgChecks (e : Engine) : List (Nat × Bool) :=
  [(351, e.within 351 0 80 1), (352, e.within 352 0 1 1), (353, e.within 353 600 900 1), (354, e.within 354 2 50 10),
   (355, e.within 355 1 1000 1000000), (356, e.within 356 1 1000000 1), (357, e.intWithin 357 0x10 0x6F), (358, e.within 358 200 240 1),
   (359, fEq (e.word 359) (fOfNat 50) || fEq (e.word 359) (fOfNat 60)), (360, e.within 360 1 32 1), (361, e.within 361 1 50 10),
   (362, e.within 362 5 1000 1000), (363, e.within 363 1 1000 100), (364, e.within 364 100000 300000 1)]

/-- HALF_B of the DAB's frequency (R314). -/
def Engine.dabHalf (e : Engine) : Nat := max 1067 (min 3200 (fToInt (fDiv (fOfNat 640000000) (fMul fTwo (e.word 364)))).toNat)

/-- The phase shift of the DAB for a compensator output (R315): f_DAB, L_DAB, N_DAB and V_BUS given. -/
def dabShift (u f l nd vbus : F32) : F32 :=
  let x := fClamp (fDiv (fMul (fMul u f) l) (fMul nd vbus)) (fNeg (fOfRatio 1 8)) (fOfRatio 1 8)
  let m := fDiv (fSub fOne (fSqrt (fSub fOne (fMul (fOfNat 8) (fAbs x))))) (fOfNat 4)
  if fLt x (fZero false) then fNeg m else m

/-- A phase reduced modulo 1. -/
def fModOne (x : F32) : F32 := if fLt x (fZero false) then fAdd x fOne else if fLe fOne x then fSub x fOne else x

/-- A command for the channel of unit `u` and leg `l` of engine `n`, where there is one. -/
def State.stageLeg (s : State) (n u l : Nat) (v : F32) : State :=
  match (s.engineChans n).find? (fun h => s.chanUnit h = u && s.chanLeg h = l) with
  | some h => s.modEng n fun e => e.stageCmd h 0 v
  | none => s

/-- The commands of a tick in which the charger switches (R314): PFC duties, which the grid's measurements decide, and DAB phases. -/
def State.chgStage (s : State) (shift : F32) : State :=
  let d (k : Nat) : F32 :=
    let w := Config.freeWord (0x46 + k) s.free
    if fIsNaN w then fZero false else fClamp w (fZero false) fOne
  let s1 := ((s.stageLeg 5 0 0 (d 0)).stageLeg 5 0 1 (d 1)).stageLeg 5 0 2 (d 2)
  (((s1.stageLeg 5 1 0 (fZero false)).stageLeg 5 1 1 fHalf).stageLeg 5 2 0 (fModOne shift)).stageLeg 5 2 1 (fModOne (fAdd shift fHalf))

/-- A new on-time (R323): counted, its CV loop seeded with I_SET and its anchor taken. -/
def ChgState.newOn (c : ChgState) (lv : Bool) (now : Time) (v iset : F32) : ChgState :=
  let x := c.target lv
  let c1 := c.setTarget lv { x with cut := false, at_ := now, low := none, pulses := if x.phase = 4 then x.pulses else (x.pulses + 1) % 65536 }
  if lv then c1 else { c1 with cv := iset, anchor := v, charge := fZero false }

/-- The phase machine of one target at a tick (R323, R327, R330): `start` lets IDLE be left, `live` lets current flow, `okPrep` is
PREP's condition, `need` how many ticks of it end PREP, `limits` says that the CV loop limits the current. -/
def ChgState.machine (c : ChgState) (lv start live okPrep limits : Bool) (need : Nat) (now : Time) (v iset : F32) : ChgState :=
  let x := c.target lv
  match x.phase with
  | 0 =>
    if start then
      (c.setTarget lv { x with timer := some (x.timer.getD now), cut := false, at_ := now }).toPhase lv 1 0
    else c
  | 1 =>
    if !live then c
    else if !okPrep then c.setTarget lv { x with prep := 0 }
    else if need ≤ x.prep + 1 then (c.toPhase lv 2 0).newOn lv now v iset
    else c.setTarget lv { x with prep := x.prep + 1 }
  | 2 | 3 | 4 =>
    if !live then (if x.rest then c else c.setTarget lv { x with cut := true })
    else
      let c1 := if x.cut && !x.rest then c.newOn lv now v iset else c
      if x.phase = 2 && !x.rest && limits then c1.toPhase lv 3 0 else c1
  | _ => c

/-- The value of the phase machine (R323): I_SET in PULSE_CC, the CV loop's output in PULSE_CV and FINISH, else 0; a ramp of the timer
or of CHG_DISARM carries the current down after the phase has changed (log 39). -/
def ChgState.phaseValue (c : ChgState) (iset cvOut : F32) : F32 :=
  match c.hv.phase with
  | 2 => if c.hv.rest then fZero false else iset
  | 3 => if c.hv.rest then fZero false else fClamp cvOut (fZero false) iset
  | 4 => fClamp cvOut (fZero false) iset
  | _ =>
    match c.ramps.find? (fun r => r.1 = 1 || r.1 = 3) with
    | some r => r.2.1
    | none => fZero false

/-- A free value of a tick, not a NaN, held between two bounds. -/
def freeIn (tag draw : Nat) (lo hi : F32) : F32 :=
  let w := Config.freeWord tag draw
  if fIsNaN w then lo else fClamp w lo hi

/-- V_BUS lies within ±2 % of BUS_SET (R323). -/
def busOk (e : Engine) (vbus : F32) : Bool := fLe (fAbs (fSub vbus (e.word 353))) (fMul (fOfRatio 2 100) (e.word 353))

/-- The supply at a tick (R333, R334): the bus forms, the voltage ramps over 100 ms, and the supply is ready. -/
def State.supStep (s : State) (okBus : Bool) : State :=
  let c := s.chg
  if c.sup = 1 then (if okBus then { s with chg.sup := 2, chg.supTicks := 0 } else s)
  else if c.sup = 2 then
    (if s.ticksFor 5 100000 ≤ c.supTicks + 1 then
      { s with chg := { c with sup := 3, supTicks := 0, pwm := c.pwm || s.mode.v2v,
                               out := c.out ++ [(false, 0x30F1, 0x0E, [Config.freeWord 0x50 0])] } }
     else { s with chg.supTicks := c.supTicks + 1 })
  else s

/-- A target at a tick (R323, R328): its contact counter, and how long the current has been below I_TERM in FINISH. -/
def Charge.watch (x : Charge) (seq : Word) (now : Time) (below : Bool) : Charge :=
  let y := if seq = x.seqSeen then x else { x with seqSeen := seq, seqAt := now }
  { y with low := if x.phase = 4 && below then some (x.low.getD now) else none }

/-- What the program takes up at a tick (R325, R328): arm bits of a new ARM_SEQ, which end watchdog holds, and HOLD. -/
def ChgState.takeUp (c : ChgState) (arm hold : Word) : ChgState :=
  let seq := arm.toNat / 65536
  let new := seq != c.armSeq
  let c1 := if new then
      { c with armSeq := seq, hv := { c.hv with armed := bitOf arm 0, wd := false }, lv := { c.lv with armed := bitOf arm 1, wd := false } }
    else { c with hv := { c.hv with armed := c.hv.armed && bitOf arm 0 }, lv := { c.lv with armed := c.lv.armed && bitOf arm 1 } }
  let c2 := if new then c1.endRamps fun k => k = 0 || k = 3 else c1
  let rise (b : Nat) : Bool := bitOf hold b && !bitOf c.hold b
  let c3 := if rise 0 || rise 4 then c2.ramp 2 else c2
  { (if bitOf hold 0 || bitOf hold 4 then c3 else c3.endRamps fun k => k = 2) with hold := hold }

/-- What a tick of the charger program measures (R318); free, log 39. -/
structure ChgIn where
  ts : F32
  vb : F32
  ib : F32
  vbus : F32
  /-- the converter voltage that the LV current integrator asks for (R327) -/
  vset : F32
  draw : Nat
  deriving DecidableEq, Repr

/-- The measured values of a tick. -/
def State.chgIn (s : State) : ChgIn :=
  { ts := s.ts 5, vb := freeIn 0x40 s.free (fZero false) 0x7F7FFFFF#32, ib := freeIn 0x41 s.free 0xFF7FFFFF#32 0x7F7FFFFF#32
    vbus := freeIn 0x42 s.free (fZero false) 0x7F7FFFFF#32, vset := freeIn 0x43 s.free (fZero false) ((s.eng 5).word 343), draw := s.free }

/-- The high-voltage machine's on-time in a tick, before the machine moves. -/
def ChgState.hvOn (c : ChgState) (live : Bool) : Bool :=
  (c.hv.phase = 2 || c.hv.phase = 3 || c.hv.phase = 4) && !c.hv.rest && !c.hv.cut && live

/-- The high-voltage phase machine of a tick (R323): the state, the CV loop's output, and whether an on-time runs. -/
def State.chgHv (s : State) (i : ChgIn) : State × F32 × Bool :=
  let e := s.eng 5
  let c := s.chg
  let pilot := s.get R.CHG_STATUS_PILOT
  let start := c.hv.armed && e.word 450 == 0 && s.md = .charge && (pilot = 2 || pilot = 3) &&
    fLe (s.linkVolts (s.get R.SAFE_DCL_THR_B_UV)) i.vb && fLe i.vb s.vbattMax
  let live := c.hv.armed && (e.word 450).toNat &&& 0x17 == 0 && s.md = .charge
  let p := e.piStep 1 i.ts (fSub (e.word 337) i.vb) c.cv
  let on := c.hvOn live
  let limits := on && fLt p.2.2 (e.word 336)
  let c1 := c.machine false start live (busOk e i.vbus) limits (s.ticksFor 5 20000) s.atime i.vb (e.word 336)
  if on then ({ s.setEng 5 p.1 with chg := { c1 with cv := p.2.1, cvActive := limits } }, p.2.2, on)
  else ({ s with chg := { c1 with cvActive := false } }, p.2.2, on)

/-- The low-voltage phase machine of a tick (R327). -/
def State.chgLv (s : State) (i : ChgIn) : State :=
  let e := s.eng 5
  let live := s.chg.lv.armed && !bitOf (e.word 450) 3 && (s.md = .drive || s.md = .charge || s.md = .supply || s.md = .degraded)
  let near := fLe (fAbs (e.sample (e.word 357).toNat).1) (e.word 361)
  { s with chg := s.chg.machine true live live near (fEq i.vset (e.word 343)) (s.ticksFor 5 20000) s.atime i.vb (e.word 342) }

/-- The supply conducts. -/
def State.supOn (s : State) : Bool := decide (1 ≤ s.chg.sup) && decide (s.chg.sup ≤ 3) && s.md = .supply

/-- The pilot's limit on AC current per phase (R320). -/
def State.pilotLimit (s : State) : F32 :=
  let d := s.get R.CHG_PILOT_DUTY
  if !s.flag R.CHG_STATUS_PWM then fZero false
  else if 300 ≤ d ∧ d ≤ 700 then (s.eng 5).nextWord 351
  else if 800 ≤ d ∧ d < 1000 then fOfNat 6
  else if 1000 ≤ d ∧ d ≤ 8500 then fOfRatio (6 * d) 1000
  else if 8500 < d ∧ d ≤ 9600 then fOfRatio (25 * (d - 6400)) 1000
  else if 9600 < d ∧ d ≤ 9700 then fOfNat 80
  else fZero false

/-- The rating of the cable that the PP code stands for (R321); code 0 has none. -/
def cableRating (pp : Nat) : F32 := fOfNat ([0, 13, 20, 32, 63, 0].getD pp 0)

/-- The limit on the PFC's current (R325): the smallest of pilot limit, cable rating and I_AC_HOST. -/
def State.acLimit (s : State) : F32 :=
  let a := fMin s.pilotLimit ((s.eng 5).nextWord 351)
  if s.get R.CHG_STATUS_PP = 0 then a else fMin a (cableRating (s.get R.CHG_STATUS_PP))

/-- I_REF of a tick (R315, R325) and whether the AC side limits it: that and by how much is free (log 39). -/
def State.chgRef (s : State) (i : ChgIn) (cvOut : F32) (on : Bool) : F32 × Bool :=
  let e := s.eng 5
  let lim := fMul (fMul (e.word 448) (e.word 449)) (e.word 352)
  let i0 := capOf (s.chg.ramps.map fun r => ({ kind := r.1, cap := r.2.1, rate := r.2.2, rising := false } : Ramp))
    (fMin (s.chg.phaseValue (e.word 336) cvOut) lim)
  let acl := on && (bitOf (Config.freeWord 0x44 i.draw) 0 || fLe s.acLimit (fZero false))
  if s.supOn then (fNeg (fAbs (e.piStep 4 i.ts (fSub (e.word 353) i.vbus) 0).2.2), acl)
  else (if acl then freeIn 0x45 i.draw (fZero false) i0 else i0, acl)

/-- The compensator, the DAB and the ramps of a tick (R314, R315, R325). -/
def State.chgDab (s : State) (i : ChgIn) (iref : F32) : State :=
  let e := s.eng 5
  let c := s.chg
  let er := fSub iref i.ib
  let u := thirdOrder e er c.e1 c.e2 c.e3 c.u1 c.u2 c.u3 (fNeg (e.word 448)) (e.word 448)
  let sh := dabShift u (fDiv (fOfNat 640000000) (fOfNat (2 * s.get (R.EDGE_TB_HALF_B_HALF 5)))) (e.word 355) (e.word 354) i.vbus
  let switching := (s.md = .charge && decide (1 ≤ c.hv.phase) && decide (c.hv.phase ≤ 4)) || s.supOn
  let c1 := { c with iRef := iref, e1 := er, e2 := c.e1, e3 := c.e2, u1 := u, u2 := c.u1, u3 := c.u2,
                     ramps := (c.ramps.map fun r => (r.1, fMax (fZero false) (fSub r.2.1 (fMul r.2.2 i.ts)), r.2.2)).filter
                       fun r => !((r.1 = 1 || r.1 = 3) && fLe r.2.1 (fZero false)) }
  { (if switching then s.chgStage sh else s) with chg := c1 }

/-- Region and plausibility of a tick (R316, R326). -/
def State.chgPlaus (s : State) (i : ChgIn) (on : Bool) : State :=
  let e := s.eng 5
  let q := fAdd s.chg.charge (fMul i.ib i.ts)
  let model := fAdd (fAdd s.chg.anchor (fMul (e.word 389) i.ib)) (fDiv q (e.word 356))
  let s1 := (s.regionLookup 5 (fAbs i.ib) i.vb).1
  let s2 := if on && s.chg.hv.known then (s1.plausCheck 5 0 (fSub i.vb model) ((s1.eng 5).gain 9) 50).1 else s1
  if on then { s2 with chg.charge := q } else s2

/-- The state words of a tick (R318). -/
def State.chgWords (s : State) (i : ChgIn) (iref : F32) (acl : Bool) : State :=
  let e := s.eng 5
  let c := s.chg
  let fl := packBits [c.hv.wd, c.lv.wd, c.cvActive, acl, fLt (e.word 449) fOne]
  let lvOn := decide (1 ≤ c.lv.phase) && decide (c.lv.phase ≤ 4)
  let ws : List (Nat × Word) := [(384, w32 (c.hv.phase + 16 * bit c.hv.rest + 256 * c.lv.phase + 4096 * bit c.lv.rest)), (385, i.vb),
    (386, i.ib), (387, i.vbus), (388, iref), (393, if lvOn then i.vset else e.word 393), (394, w32 (c.hv.pulses + 65536 * c.lv.pulses)),
    (395, w32 fl)]
  s.setEng 5 (ws.foldl (fun a p => a.setWord p.1 p.2) e)

/-- One tick of the charger program, parameters in range (R314-R328). -/
def State.chgRun (s : State) : State :=
  let i := s.chgIn
  let e := s.eng 5
  let low (ib : F32) (w : Nat) : Bool := fLt ib (e.word w)
  let c0 := { s.chg with out := [], hv := s.chg.hv.watch (e.word 349) s.atime (low i.ib 339)
                         lv := s.chg.lv.watch (e.word 350) s.atime (low (e.sample (e.word 357).toNat).1 345) }
  let s0 := { s.useFree with chg := c0.takeUp (e.word 348) (e.word 450) }
  let h := s0.chgHv i
  let s1 := (h.1.chgLv i).supStep (busOk e i.vbus)
  let r := s1.chgRef i h.2.1 h.2.2
  ((s1.chgDab i r.1).chgPlaus i h.2.2).chgWords i r.1 r.2

/-- A tick of the charger program: parameters judged before the first CST, then the tick (R317). -/
def State.chgTick (s : State) : State :=
  match s.chg.judged with
  | some false => { s with chg.out := [] }
  | some true => s.chgRun
  | none =>
    match (s.eng 5).chgChecks.find? (fun c => !c.2) with
    | some w => { s with chg.judged := some false, chg.out := [(true, 0x0844, 0, [w32 w.1])] }
    | none => { s with chg.judged := some true }.chgRun

/-! ### Modes (R32, R327, R330, R333, R334) -/

/-- SUPPLY is entered: vehicle-to-load asks for the charger's enables, vehicle-to-vehicle drives CP_DRV high,
its output held until the pilot shows C (R319). -/
def State.supplyEntry (s : State) : State :=
  if s.mode.v2v then
    let b := decide (s.get R.CHG_STATUS_PILOT = 1)
    let s1 := { s.chgHold 0 true with chg.cpHigh := true, chg.cpAt := s.atime, chg.pwm := false, chg.sup := bit b, chg.padsLow := false }
    State.chgDone (s1.onlyIf b fun t => t.askGrant unitCharger)
  else State.chgDone ({ s with chg.sup := 1, chg.supTicks := 0, chg.padsLow := false }.askGrant unitCharger)

/-- CHARGE is entered: the charger's enables are asked for. -/
def State.chargeEntry (s : State) : State := (s.chgHold 0 (!(s.get R.CHG_STATUS_PILOT = 2 || s.get R.CHG_STATUS_PILOT = 3))).askGrant unitCharger

/-- CHARGE or SUPPLY is being left: HOLD bit 4, whose ramp takes the current to zero (R325, R330). -/
def State.chargeLeaving (s : State) : State := s.chgHold 4 true

/-- CHARGE or SUPPLY has been left: the session ends, the timer and the holds with it; CP_DRV is low (R322, R329). -/
def State.chargeLeft (s : State) : State :=
  let s1 := ((((s.chgHold 0 false).chgHold 1 false).chgHold 2 false).chgHold 4 false).armWord 0 false false
  let c := s1.chg.toPhase false 0 3
  let c1 := { c with hv := { c.hv with armed := false, rest := false, cut := false, timer := none, wd := false, known := false }, ramps := [], sup := 0
                     cpHigh := false, pwm := false, padsLow := false, pfcLow := false }
  ({ s1 with chg := c1 }.putB R.CHG_STATUS_TIMER_HV false).chgDone

/-- The LV charge ends as CHG_DISARM would end it, or with another cause (R327). -/
def State.lvStop (s : State) (cause : Nat) : State :=
  if s.chg.lv.phase = 6 then s.lvEnd else { s.lvEnd with chg := s.lvEnd.chg.toPhase true 0 cause }.chgDone

/-! ### Commands (R335) -/

/-- The charger as target. -/
def chgTargets : List Nat := [0x0E]

/-- The six phase parameters are in order (R335); the current limit and the voltage are judged apart. -/
def phaseWordsOk (c : Cmd) : Bool :=
  fLt (argW c 28) (argW c 24) && fLt (argW c 24) (argW c 16) && fLe fOne (argW c 32) && fLe (argW c 32) (fOfNat 60) &&
  fLe (fOfRatio 2 10) (argW c 36) && fLe (argW c 36) (fOfNat 5)

/-- The phase parameters enter their words. -/
def State.phaseWords (s : State) (c : Cmd) (first : Nat) : State :=
  s.each (List.range 6) fun t k => t.stage 5 (first + k) (argW c (16 + 4 * k))

/-- CHG_ARM (R335). -/
def execChgArm (c : Cmd) (s0 : State) : Out :=
  s0.command c 0x3000 fun s =>
  if !s.targets c chgTargets then refuse s c .badParam
  else if !s.modeOk 0x3000 false then refuse s c .rejectedMode
  else if short c 24 || !phaseWordsOk c || !fLe fOne (argW c 16) || !fLe (argW c 16) ((s.eng 5).nextWord 448) || !fLe (argW c 20) s.vbattMax ||
      s.get R.CHG_OVP_VMAX = 0 then refuse s c .badParam
  else if s.flag R.CHG_STATUS_TIMER_HV then refuse s c .safetyBlocked
  else .next ((((s.phaseWords c 336).armWord 0 true true).contact false).finish c .ok s.chg.hv.phase)

/-- CHG_DISARM (R325, R330, R335): the ramp; the phase becomes IDLE; a rest is abandoned. HELD stays. -/
def execChgDisarm (c : Cmd) (s0 : State) : Out :=
  s0.command c 0x3001 fun s =>
  if !s.targets c chgTargets then refuse s c .badParam
  else if !s.modeOk 0x3001 false then refuse s c .rejectedMode
  else
    let s1 := (s.armWord 0 false false).contact false
    let c1 := s1.chg.ramp 3
    let c2 := { c1 with hv := { c1.hv with armed := false, rest := false, cut := false } }
    let s2 := { s1 with chg := if c2.hv.phase = 6 then c2 else c2.toPhase false 0 2 }
    .next (s2.chgDone.finish c .ok)

/-- CHG_LIMIT (R335): I_AC_HOST and DERATE_HOST at the next tick. -/
def execChgLimit (c : Cmd) (s0 : State) : Out :=
  s0.command c 0x3002 fun s =>
  let bad := short c 8 || !(fLe (fZero false) (argW c 16) && fLe (argW c 16) (fOfNat 80)) ||
    !(fLe (fZero false) (argW c 20) && fLe (argW c 20) fOne)
  if !s.targets c chgTargets then refuse s c .badParam
  else .next (s.queueSetpoint c 5 0x3002 0 bad [(351, argW c 16), (352, argW c 20)])

/-- CHG_STATUS (R335). -/
def execChgStatus (c : Cmd) (s0 : State) : Out :=
  s0.command c 0x3003 fun s =>
  if !s.targets c chgTargets then refuse s c .badParam
  else if !s.modeOk 0x3003 true then refuse s c .rejectedMode
  else .next (s.finish c .ok (pair64 (s.rd R.CHG_STATUS).toNat (s.rd R.CHG_PILOT).toNat))

/-- CHG_RESTART (R331, R335): HELD is left for IDLE; the charger must be armed again. -/
def execChgRestart (c : Cmd) (s0 : State) : Out :=
  s0.command c 0x3004 fun s =>
  if !s.targets c chgTargets then refuse s c .badParam
  else if !s.modeOk 0x3004 false then refuse s c .rejectedMode
  else if s.chg.hv.phase ≠ 6 then refuse s c .badParam
  else if fLe s.vbattMax (s.linkVolts (s.get R.SAFE_DCL_STATUS_VALUE)) then refuse s c .busyRetry
  else
    let s1 := ((s.chgHold 1 false).armWord 0 false false).contact false
    let c1 := s1.chg.toPhase false 0 0
    .next (({ s1 with chg := { c1 with hv := { c1.hv with armed := false, cut := false }, padsLow := false } }).chgDone.finish c .ok)

/-- SUP_SET (R333, R335): SUP_I_MAX at the next tick, which restarts a stopped supply. -/
def execSupSet (c : Cmd) (s0 : State) : Out :=
  s0.command c 0x3005 fun s =>
  let bad := short c 4 || !(fLe fOne (argW c 16) && fLe (argW c 16) (fOfNat 32))
  if !s.targets c chgTargets then refuse s c .badParam
  else .next (s.queueSetpoint c 5 0x3005 0 bad [(360, argW c 16)])

/-- The LV charge machine runs in these modes (R327). -/
def State.lvMode (s : State) : Bool := s.md = .drive || s.md = .charge || s.md = .supply || s.md = .degraded

/-- LV_CHG_ARM (R327, R335): the only way out of HELD. -/
def execLvChgArm (c : Cmd) (s0 : State) : Out :=
  s0.command c 0x2010 fun s =>
  if !s.targets c convTargets then refuse s c .badParam
  else if !s.lvMode then refuse s c .rejectedMode
  else if short c 24 || !phaseWordsOk c || !fLe fOne (argW c 16) || !fLe (argW c 16) (fOfNat 200) || !s.convVset (argW c 20) then refuse s c .badParam
  else if s.flag R.CHG_STATUS_TIMER_LV then refuse s c .safetyBlocked
  else
    let s1 := ((s.phaseWords c 342).armWord 1 true true).contact true
    let s2 := if s1.chg.lv.phase = 6 then { s1 with chg := s1.chg.toPhase true 0 0 }.chgDone else s1
    .next (s2.finish c .ok s2.chg.lv.phase)

/-- LV_CHG_DISARM (R327, R335). -/
def execLvChgDisarm (c : Cmd) (s0 : State) : Out :=
  s0.command c 0x2011 fun s =>
  if !s.targets c convTargets then refuse s c .badParam
  else if !s.modeOk 0x2011 false then refuse s c .rejectedMode
  else .next ((s.contact true).lvStop 2 |>.finish c .ok)

/-- LV_CHG_LIMIT (R335): LV_I_SET at the next tick. -/
def execLvChgLimit (c : Cmd) (s0 : State) : Out :=
  s0.command c 0x2012 fun s =>
  let bad := short c 4 || !(fLe fOne (argW c 16) && fLe (argW c 16) (fOfNat 200))
  if !s.targets c convTargets then refuse s c .badParam
  else .next (s.queueSetpoint c 5 0x2012 0 bad [(342, argW c 16)])

/-- The result of a charger setpoint at the release of its tick (R335): I_REF, or LV_VSET. -/
def State.chgResult (s : State) (opcode : Nat) : Nat :=
  if opcode = 0x2012 then ((s.eng 5).seen 393).toNat else if opcode = 0x3002 then ((s.eng 5).seen 388).toNat else 0

/-- SUP_SET has been applied (R328, R333): a new ARM_SEQ; a stopped supply starts again. -/
def State.supApplied (s : State) : State :=
  let s1 := s.armWord 0 (bitOf ((s.eng 5).nextWord 348) 0) true
  if s1.chg.sup = 4 then { s1 with chg.sup := 1, chg.supTicks := 0, chg.padsLow := false }.refreshUnit unitCharger else s1

/-! ### Pilots (R319-R322) -/

/-- The pilot state of a high level in 0.1 V (R319). -/
def pilotOf (vh : Int) : Nat :=
  if 105 ≤ vh then 0 else if 75 ≤ vh then 1 else if 45 ≤ vh then 2 else if 15 ≤ vh then 3 else if -15 ≤ vh then 4 else 5

/-- PILOT_STATE (R336). -/
def State.pilotEvent (s : State) : State :=
  s.event 0x30F0 0x0E (w32 (s.get R.CHG_STATUS_PILOT)) (w32 (s.get R.CHG_PILOT_DUTY)) (w32 (s.get R.CHG_STATUS_PP)) s.acLimit

/-- What a pilot state does in CHARGE (R319). -/
def State.pilotCharge (s : State) (st : Nat) : State :=
  let s1 := s.chgHold 0 (!(st = 2 || st = 3))
  if st = 0 then s1.trigger 2 precPilot 0 else if 4 ≤ st then s1.raise 0x0E03 0 0x0E else s1

/-- What a pilot state does in vehicle-to-vehicle supply (R319, R334): HOLD bit 0 stands but in state C. -/
def State.pilotSupply (s : State) (old st : Nat) : State :=
  let s1 := ({ s with chg.pfcLow := decide (4 ≤ st) }.refreshUnit unitCharger).chgHold 0 (!(st = 2))
  match st with
  | 0 => s1.trigger 2 precPilot 0
  | 1 =>
    let s2 := if s1.chg.sup = 0 && s1.modeGrants unitCharger then { s1 with chg.sup := 1, chg.supTicks := 0 }.askGrant unitCharger else s1
    if old = 2 then s2.supplyEvent 2 else s2
  | 2 => s1.supplyEvent 1
  | 3 => s1
  | _ => s1.raise 0x0E03 0 0x0E

/-- The CHG block watches the pilots (R46): it is off in BOOT, DISCOVER, COMMISSION and SAFE_STOP. -/
def State.chgMonitors (s : State) : Bool :=
  match s.md with
  | .standby | .drive | .charge | .supply | .service | .degraded => s.running
  | _ => false

/-- PILOT_STATE_CHANGE (R319, R320, R334): the level has been stable for FILT ms; levels in 0.1 V, frequency in Hz, duty in 0.01 %. -/
def execPilotStateChange (vh vl : Int) (freq duty : Nat) (s : State) : Out :=
  if !s.chgMonitors then .next s
  else
    let v2v := s.md = .supply && s.mode.v2v
    let st := if v2v && s.chg.pwm && decide (-105 < vl) then 4 else pilotOf vh
    let old := s.get R.CHG_STATUS_PILOT
    let pwm := decide (980 ≤ freq) && decide (freq ≤ 1020) && decide (vl ≤ -105)
    let s1 := (((((s.put R.CHG_STATUS_PILOT st).putB R.CHG_STATUS_PWM pwm).put R.CHG_PILOT_DUTY (min 10000 duty)).put R.CHG_PILOT_V_H (toBits 8 vh)).put
      R.CHG_PILOT_V_L (toBits 8 vl))
    if st = old then .next s1
    else
      let s2 := s1.pilotEvent
      let toV2v := v2v || (s.mode.v2v && (s.mode.trans.map (·.dest)) = some .supply)
      if s2.md = .charge || (s2.mode.trans.map (·.dest)) = some .charge then .next (s2.pilotCharge st).chgShow
      else if toV2v then .next (s2.pilotSupply old st).chgShow
      else .next s2

/-- The cable code of a voltage at PP_SENSE in mV (R321). -/
def ppCode (pu mv : Nat) : Nat :=
  if 1800 ≤ mv then 0
  else
    let exceeds (r : Nat) : Bool := decide (r * (1800 - mv) ≤ pu * mv)
    if exceeds 4500 then 0 else if exceeds 1000 then 1 else if exceeds 400 then 2 else if exceeds 150 then 3 else if exceeds 60 then 4 else 5

/-- The torque hold for a plug (R40): held while one is detected in DRIVE or DEGRADED, with 0x0007 when it begins. -/
def State.plugCheck (s : State) : State :=
  let pp := s.get R.CHG_STATUS_PP
  let hold := decide (1 ≤ pp) && (s.md = .drive || s.md = .degraded)
  if hold = s.mode.plugHold then s
  else
    let s1 := { s with mode.plugHold := hold }.refreshHold
    if hold then s1.raise 0x0007 0 0x00 (w32 pp) else s1

/-- PP_SAMPLE (R40, R321): PP_SENSE is read; the cable code follows. -/
def execPpSample (mv : Nat) (s : State) : Out :=
  if !s.chgMonitors then .next s
  else
    let old := s.get R.CHG_STATUS_PP
    let pp := ppCode (s.get R.CHG_PILOT_CFG_PP_PU) mv
    let s1 := s.put R.CHG_STATUS_PP pp
    if pp = old then .next s1.plugCheck
    else
      let s2 := s1.pilotEvent.plugCheck
      let v2l := !s.mode.v2v && (s.md = .supply || (s.mode.trans.map (·.dest)) = some .supply)
      .next (if v2l && pp = 0 then s2.trigger 2 precPilot 0 else s2)

/-- PILOT_ROUTE_CHECK (R322): 100 ms after CP_DRV went high, V_H must lie in band A or B. -/
def execPilotRouteCheck (vh : Int) (s : State) : Out :=
  if !(s.md = .supply && s.mode.v2v && s.chg.cpHigh && decide (100000 ≤ s.since s.chg.cpAt)) || decide (75 ≤ vh) then .next s
  else .next ((({ s with chg.sup := 5, chg.padsLow := true }.putB R.CHG_STATUS_ROUTE_ERR true).refreshUnit unitCharger).raise 0x0E04 1 0x0E)

/-! ### Events of the phase machines -/

/-- A target is in an on-time that counts: armed, no rest, not cut short. -/
def Charge.onTime (x : Charge) : Bool := (x.phase = 2 || x.phase = 3) && !x.rest && !x.cut && x.armed

/-- A time given in seconds by parameter word `w` of FE_5 has passed since `a`. -/
def State.passed5 (s : State) (a : Time) (w : Nat) : Bool := fLe (fMul ((s.eng 5).word w) (fOfNat 1000000)) (fOfNat (s.since a))

/-- CHG_ON_TIME_END (R323): T_ON is over, with its mean current; PULSE_CV ends in FINISH below I_FIN, else a rest starts. -/
def execChgOnTimeEnd (lv : Bool) (mean : F32) (s : State) : Out :=
  let x := s.chg.target lv
  if !x.onTime || !s.passed5 x.at_ (if lv then 346 else 340) then .next s
  else if x.phase = 3 && fLt mean ((s.eng 5).word (if lv then 344 else 338)) then .next { s with chg := s.chg.toPhase lv 4 0 }.chgDone
  else .next { s with chg := s.chg.setTarget lv { x with rest := true, at_ := s.atime } }

/-- The LV battery is absent (R332): 0x0861; the LV phase becomes HELD. -/
def State.lvAbsent (s : State) : State :=
  { s.lvEnd with chg := s.lvEnd.chg.toPhase true 6 4 }.chgDone.raise 0x0861 1 0x85

/-- CHG_REST_END (R324, R332): the estimate of the rest, with RELAX; a valid one enters the state words. A rest of the LV battery without
relaxation finds it absent. -/
def execChgRestEnd (lv : Bool) (vOn v10 vEnd iOn : F32) (zero : Bool) (s : State) : Out :=
  let x := s.chg.target lv
  if !x.rest || !s.passed5 x.at_ (if lv then 347 else 341) then .next s
  else
    let e := s.eng 5
    let ro := fDiv (fSub vOn v10) iOn
    let rp := fDiv (fSub v10 vEnd) iOn
    let w := if lv then 391 else 389
    let s1 := { s with chg := s.chg.setTarget lv { x with rest := false, cut := true, known := x.known || zero } }
    let s2 := if zero then s1.modEng 5 fun e => (e.setWord w ro).setWord (w + 1) rp else s1
    let s3 := s2.event 0x3001 0x85 ro rp vEnd (w32 (bit lv + 256 * bit zero + 65536 * x.pulses))
    let absent := lv && fLt (fSub vOn vEnd) (e.word 362) && fLe (fMul (fOfRatio 2 10) (e.word 342)) iOn
    .next (s3.onlyIf absent State.lvAbsent)

/-- PREP without regulation for 2 s (R323): 0x0862, IDLE, disarmed. -/
def State.tellPrepFail (s : State) (lv : Bool) : State :=
  let x := s.chg.target lv
  if x.phase = 1 ∧ 2000000 ≤ s.since x.at_ then
    let s1 := s.raise 0x0862 0 0x85
    let s2 := if lv then s1.lvEnd else s1.armWord 0 false false
    let c := s2.chg.toPhase lv 0 0
    { s2 with chg := c.setTarget lv { c.target lv with armed := false } }.chgDone
  else s

/-- CHG_PREP_FAIL (R323). -/
def execChgPrepFail (lv : Bool) (s : State) : Out := .next (s.tellPrepFail lv)

/-- I_BATT below I_TERM for 10 s (R323, R329): FINISH ends in DONE. -/
def State.tellDone (s : State) (lv : Bool) : State :=
  let x := s.chg.target lv
  match x.low with
  | none => s
  | some a =>
    if x.phase ≠ 4 ∨ s.since a < 10000000 then s
    else if lv then
      let s1 := { s.lvEnd with chg := s.lvEnd.chg.toPhase true 5 0 }
      ({ s1 with chg.lv.timer := none }.putB R.CHG_STATUS_TIMER_LV false).chgDone
    else { s with chg := s.chg.toPhase false 5 0 }.chgDone

/-- CHG_TERMINATE (R323, R329). -/
def execChgTerminate (lv : Bool) (s : State) : Out := .next (s.tellDone lv)

/-- The watchdog of a target has something to end: an armed target, or the supply (R328). -/
def State.chgWatched (s : State) (lv : Bool) : Bool :=
  let x := s.chg.target lv
  !x.wd && (x.armed || (!lv && s.md = .supply))

/-- The charge watchdog of one target expires (R123, R328, R330): the ramp, the program's own arm bit, the flag and 0x0860. -/
def State.chgWatch (s : State) (lv : Bool) : State :=
  let x := s.chg.target lv
  if !s.chgWatched lv then s
  else
    let c := s.chg.setTarget lv { x with armed := false, wd := true, cut := x.cut || !x.rest }
    ({ s with chg := if lv then c else c.ramp 0 }.raise 0x0860 0 0x85).chgDone

/-- No contact for WD_TIMEOUT (R328). -/
def State.tellWatch (s : State) (lv : Bool) : State := s.onlyIf (s.passed5 (s.chg.target lv).seqAt 451) fun t => t.chgWatch lv

/-- CHG_WATCHDOG (R328, R330). -/
def execChgWatchdog (lv : Bool) (s : State) : Out := .next (s.tellWatch lv)

/-- What a release of FE_5 does: its records and events leave, what its ticks have brought about is told, and the registers show its phases. -/
def State.chgRelease (s : State) : State :=
  let s1 := s.each [false, true] fun t lv => ((t.tellPrepFail lv).tellDone lv).tellWatch lv
  s1.chgFlush.chgShow.refreshUnit unitCharger

/-- CHG_TIMER (R329): the safety timer has reached TIMER_MAX; the ramp, DONE with cause 1, HOLD, and 0x0E02. -/
def execChgTimer (lv : Bool) (s : State) : Out :=
  let x := s.chg.target lv
  let F := if lv then R.CHG_STATUS_TIMER_LV else R.CHG_STATUS_TIMER_HV
  if x.timer.isNone || s.flag F || decide (s.timerMin x.timer < s.get R.CHG_TIMERS_TIMER_MAX) then .next s
  else
    let s1 := ((s.chgHold (if lv then 3 else 2) true).putB F true).raise 0x0E02 0 0x0E
    let s2 := if lv then s1.lvEnd else s1
    let c := if lv then s2.chg else s2.chg.ramp 1
    .next { s2 with chg := if x.phase = 6 then c else c.toPhase lv 5 1 }.chgDone

/-- LV_BATTERY_ABSENT (R332): the current of an on-time, or its impedance, shows no battery. -/
def execLvBatteryAbsent (s : State) : Out :=
  .next (s.onlyIf (decide (2 ≤ s.chg.lv.phase) && decide (s.chg.lv.phase ≤ 4)) State.lvAbsent)

/-- LV_VSET_FORWARD (R327): LV_VSET, changed by 1 mV or more at a release, goes to FE_4 word 336. -/
def execLvVsetForward (s : State) : Out :=
  let v := (s.eng 5).seen 393
  let x := s.chg.lv
  if !(x.armed && decide (1 ≤ x.phase) && decide (x.phase ≤ 4)) then .next s
  else if fLt (fAbs (fSub v ((s.eng 4).nextWord 336))) (fOfRatio 1 1000) then .next s
  else .next (s.stage 4 336 v)

/-- The supply stops (R333): its pads low, 0x0E05 and SUPPLY_STATE STOP; SUP_SET alone starts it again. -/
def State.supplyStop (s : State) : State :=
  ((({ s with chg.sup := 4, chg.padsLow := true }).refreshUnit unitCharger).raise 0x0E05 0 0x0E).supplyEvent 3

/-- SUPPLY_OVERLOAD (R333): the output below 0.8 × SUP_V for 1 s. -/
def execSupplyOverload (s : State) : Out :=
  if s.md = .supply && decide (1 ≤ s.chg.sup) && decide (s.chg.sup ≤ 3) then .next s.supplyStop else .next s

/-- The charger stops on the loss of its battery (R331). -/
def State.batteryLost (s : State) : State :=
  let s1 := ((s.putB R.CHG_STATUS_OVP true).chgHold 1 true)
  ({ s1 with chg := { s1.chg.toPhase false 6 4 with padsLow := true } }.chgDone).raise 0x0E01 1 0x0E

end Sys2Proof.Machine
end

