-- ==== Sys2Proof/Machine/Motion.lean ====
section
/-! DEFINITION. The gearbox actuators (17_motion_feedback.md): the standard actuator program on FE_6 and FE_7, the motion commands and the
park lock. The written operations of the program are rounded one by one (DEDUCED, log 23). -/

namespace Sys2Proof.Machine

/-! ### Words (R339, R340) -/

/-- The engine of motor `m`, and the place of its parameter block and of its state block. -/
def actEngine (m : Nat) : Nat := 6 + m / 2
def actBase (m : Nat) : Nat := 336 + 16 * (m % 2)
def actOut (m : Nat) : Nat := 384 + 8 * (m % 2)

/-- Parameter `i` of motor `m` as it stands, and as it will stand after the next transfer. -/
def State.actWord (s : State) (m i : Nat) : Word := (s.eng (actEngine m)).word (actBase m + i)
def State.actNext (s : State) (m i : Nat) : Word := (s.eng (actEngine m)).nextWord (actBase m + i)

/-- Motor `m`. -/
def State.act (s : State) (m : Nat) : Act := Sparse.get (always Act.init) s.mot.acts m
def State.setAct (s : State) (m : Nat) (a : Act) : State := { s with mot.acts := Sparse.set (always Act.init) s.mot.acts m a }

/-- An event or record of engine `n` left for its release. -/
def State.actSay (s : State) (n : Nat) (isRec : Bool) (code : Nat) (c0 c1 : Word) : State :=
  { s with mot.out := Sparse.set (always []) s.mot.out n (Sparse.get (always []) s.mot.out n ++ [(isRec, code, c0, c1)]) }

/-- POS_SRC fits TYPE (R339): BLDC with Hall commutation a Hall set, with encoder commutation an encoder or a resolver. -/
def srcOk (ty src : Nat) : Bool :=
  let enc := decide (0x70 ≤ src) && decide (src ≤ 0x73) || decide (0x78 ≤ src) && decide (src ≤ 0x79)
  let hall := decide (0x7A ≤ src) && decide (src ≤ 0x7C)
  match ty with
  | 1 => hall
  | 2 => enc
  | _ => enc || hall || src = 0x7D || src = 0x7E

/-- At most one motor of the part is a park lock (R339): motor `m` is not a second one. -/
def State.oneParkLock (s : State) (m : Nat) : Bool :=
  (s.actWord m 12).toNat ≠ 2 || s.motors.all fun k => decide (m ≤ k) || (s.actWord k 12).toNat ≠ 2

/-- The words of motor `m` with their ranges, in order (R339). -/
def State.actChecks (s : State) (m : Nat) : List (Nat × Bool) :=
  let e := s.eng (actEngine m)
  let o := actBase m
  let imax := e.word (448 + m % 2)
  let ty := (e.word o).toNat
  [(o, decide (ty ≤ 3)), (o + 1, e.intWithin (o + 1) 0 2), (o + 2, fLe (fAbs (e.word (o + 2))) imax), (o + 3, e.within (o + 3) (-2000) 2000 1),
   (o + 4, e.within (o + 4) (-1000000) 1000000 1), (o + 5, ty = 0 || srcOk ty (e.word (o + 5)).toNat), (o + 6, e.intWithin (o + 6) 1 16),
   (o + 7, ty = 0 || e.pos (o + 7)), (o + 8, fLe (fAbs (e.word (o + 8))) fPi),
   (o + 9, fLe (fZero false) (e.word (o + 9)) && fLe (e.word (o + 9)) imax), (o + 10, e.within (o + 10) 1 1000000 1),
   (o + 11, e.intWithin (o + 11) 1 255), (o + 12, e.intWithin (o + 12) 0 4 && s.oneParkLock m), (o + 13, e.within (o + 13) (-1000000) 1000000 1),
   (o + 14, e.within (o + 14) (-1000000) 1000000 1)]

/-- The shared words of the band width (R249, R339). -/
def Engine.actShared (e : Engine) : List (Nat × Bool) :=
  [(368, e.within 368 5 1000 10), (369, e.within 369 1 500 1 && fLt (e.word 368) (e.word 369)), (370, e.within 370 1 50 100),
   (371, e.within 371 1 1000 10000)]

/-- The motors of engine `n` on this part. -/
def State.motorsOf (s : State) (n : Nat) : List Nat := s.motors.filter fun m => actEngine m = n

/-! ### The program (R341-R343) -/

/-- The position sample of motor `m` (R341): POS, the Hall sector where there is one, and whether the source is bad. -/
def State.actPos (s : State) (m : Nat) : Act × Bool :=
  let a := s.act m
  let e := s.eng (actEngine m)
  let src := (s.actWord m 5).toNat
  let x := e.sample src
  let scale := s.actWord m 7
  if 0x7A ≤ src ∧ src ≤ 0x7C then
    let sec := fToInt x.1
    let bad := x.2 &&& 5 ≠ 0 || decide (sec < 0)
    if bad then (a, true)
    else
      let d : Int := match a.sector with
        | none => 0
        | some o => if (sec - o) % 6 = 1 then 1 else if (sec - o) % 6 = 5 then -1 else if (sec - o) % 6 = 0 then 0 else (if (sec - o) % 6 ≤ 3 then (sec - o) % 6 else (sec - o) % 6 - 6)
      let n := a.count + d
      let k := src - 0x7A
      let stopped := decide (1000 * max 1 (s.get (R.MOT_HALL_CFG_STOP_TIME k)) ≤ s.since a.secAt)
      let step := fDiv (fDiv fPi (fOfNat 3)) (fOfNat (max 1 (s.actWord m 6).toNat))
      let v := fDiv step (fOfRatio (max 1 (s.since a.secAt)) 1000000)
      let sp := if d = 0 then (if stopped then fZero false else a.speed) else if d < 0 then fNeg v else v
      ({ a with sector := some sec, count := n, pos := fMul (fOfInt n) scale, speed := sp
                secAt := if d = 0 then a.secAt else s.atime }, false)
  else
    let bad := x.2 &&& 5 ≠ 0
    if bad then (a, true)
    else
      let sp := if 0x70 ≤ src ∧ src ≤ 0x73 then (e.sample (src + 4)).1 else Config.freeWord 0x63 s.free
      ({ a with pos := fMul x.1 scale, speed := sp }, false)

/-- The commutation angle of a BLDC motor (R341). -/
def State.actTheta (s : State) (m : Nat) (a : Act) : Word :=
  let off := s.actWord m 8
  let pp := fOfNat (s.actWord m 6).toNat
  if (s.actWord m 0).toNat = 1 then
    let third := fDiv fPi (fOfNat 3)
    let base := fMul (fOfInt (a.sector.getD 0)) third
    let adv := fClamp (fMul (fMul pp a.speed) (fOfRatio (s.since a.secAt) 1000000)) (fNeg (fMul third fHalf)) (fMul third fHalf)
    fWrap (fWrap (fAdd (fAdd (fAdd base (fMul third fHalf)) off) adv))
  else fWrap (fWrap (fAdd (fMul pp a.pos) off))

/-- The loop of a tick and its target (R342, R345): 0 current, 1 speed, 2 position. A park request moves the park-lock motor. -/
def State.actLoop (s : State) (m : Nat) : Nat × Word :=
  let req := ((s.eng (actEngine m)).word 451).toNat % 4
  if (s.actWord m 12).toNat = 2 && (req = 1 || req = 2) then (2, s.actWord m (if req = 1 then 13 else 14))
  else
    match (s.actWord m 1).toNat with
    | 0 => (0, s.actWord m 2)
    | 1 => (1, s.actWord m 3)
    | _ => (2, s.actWord m 4)

/-- I* before its clamps, n*, and the plausibility difference with its check (R342, R343). -/
structure ActOut where
  st : State
  act : Act
  istar : Word
  diff : Option (Nat × Word × Word)

/-- The loops of motor `m` in a tick (R342). -/
def State.actLoops (s : State) (m : Nat) (a : Act) : ActOut :=
  let n := actEngine m
  let j := m % 2
  let e := s.eng n
  let ts := s.ts n
  let l := s.actLoop m
  let ilim := s.actWord m 9
  let fresh := a.mode ≠ some l.1
  -- a change of loop takes up the present values
  let a0 := if fresh then { a with mode := some l.1, nRef := a.speed, integ := a.iStar, near := 0, done := false, target := l.2 }
            else if a.target ≠ l.2 then { a with target := l.2, near := 0, done := false } else a
  let speedPi (e : Engine) (a : Act) (nref : F32) : Engine × Act × Word :=
    let r := e.piStep j ts (fSub nref a.speed) a.integ
    (r.1, { a with integ := fClamp r.2.1 (fNeg ilim) ilim, nRef := nref }, fClamp r.2.2 (fNeg ilim) ilim)
  match l.1 with
  | 0 => { st := s, act := a0, istar := l.2, diff := none }
  | 1 =>
    let lim := fMul (s.actWord m 10) ts
    let nr := fAdd a0.nRef (fClamp (fSub l.2 a0.nRef) (fNeg lim) lim)
    let r := speedPi e a0 nr
    { st := s.setEng n r.1, act := r.2.1, istar := r.2.2, diff := some (2 + j, fSub a.speed nr, e.gain 10) }
  | _ =>
    let e0 := if fresh then e.profSeed j a.pos else e
    let e1 := e0.profStep j l.2 (s.tickLen n)
    let p := fxTo (e1.profState j).1
    let v := fxTo (e1.profState j).2.1
    let nr := fAdd v (fMul (e.gain 12) (fSub p a.pos))
    let r := speedPi e1 a0 nr
    let arrived := decide (e1.profState j = (fxOf l.2, 0, 0))
    let near := if arrived && fLe (fAbs (fSub a.pos l.2)) (fMul (e.gain 9) fHalf) then r.2.1.near + 1 else 0
    let done := r.2.1.done || decide (10 ≤ near)
    let s1 := s.useFree.setEng n r.1
    let s2 := if done && !r.2.1.done then s1.actSay n false 0x4001 (w32 m) a.pos else s1
    { st := s2, act := { r.2.1 with near := near, done := done }, istar := r.2.2, diff := some (j, fSub a.pos p, e.gain 9) }

/-- The legs a motor uses (R338). -/
def State.actLegs (s : State) (m : Nat) : Nat := if (s.actWord m 0).toNat = 3 then 2 else 3

/-- Changes of leg state of motor `m` since its last tick (R248). -/
def State.actChanges (s : State) (m : Nat) : List Nat :=
  (List.range 3).map fun l => match s.legOf (4 + m) l with | some h => (s.chan h).changes | none => 0

/-- The half-width of motor `m` (R248, R341). -/
def State.actBand (s : State) (m : Nat) (a : Act) : Act :=
  let e := s.eng (actEngine m)
  let ts := s.ts (actEngine m)
  let now := s.actChanges m
  let n := ((List.range (s.actLegs m)).map fun l => now.getD l 0 - a.seen.getD l 0).foldl (· + ·) 0
  let ft := fClamp (e.gain 7) (fOfNat 10000) (fOfNat 100000)
  if !a.on then { a with on := true, fbar := ft, h := e.gain 6, seen := now }
  else
    let bk := fClamp (e.gain 8) (fZero false) fOne
    let fb := fFilter a.fbar (fDiv (fOfNat n) (fMul (fOfNat (2 * s.actLegs m)) ts)) ts (e.word 371)
    let st := e.word 370
    let g := fClamp (fAdd fOne (fDiv (fMul bk (fSub fb ft)) ft)) (fSub fOne st) (fAdd fOne st)
    { a with fbar := fb, h := fClamp (fMul a.h g) (e.word 368) (e.word 369), seen := now }

/-- The references of a motor's legs (R247, R341): BLDC at the angle of the end of the ramp, or the two legs of a brushed motor. -/
def State.actRefs (s : State) (m : Nat) (a : Act) : List F32 :=
  if (s.actWord m 0).toNat = 3 then [a.iStar, fNeg a.iStar]
  else
    let bad := fAdd (fOfRatio 4275 1000000000) (s.ts (actEngine m))
    let om := fMul (fOfNat (s.actWord m 6).toNat) a.speed
    let ab := ipark (fZero false) a.iStar (fWrap (fAdd a.theta (fMul om bad)))
    let p := iclarke ab.1 ab.2
    [p.1, p.2.1, p.2.2]

/-- The measured current of a motor (R340): the q current, or the winding current of a brushed motor. -/
def State.actCurrent (s : State) (m : Nat) (a : Act) : F32 :=
  let e := s.eng (actEngine m)
  let ia := (s.legCurrent e (4 + m) 0).1
  let ib := (s.legCurrent e (4 + m) 1).1
  if (s.actWord m 0).toNat = 3 then ia else (let c := clarke ia ib; (park c.1 c.2 a.theta).2)

/-- One motor in a tick. Its prediction (R214) rests on motor constants that no word of an actuator engine holds: it is free (log 41). -/
def State.actMotor (s : State) (m : Nat) : State :=
  let n := actEngine m
  if (s.actWord m 0).toNat = 0 then s
  else
    let p := s.actPos m
    let a0 := if p.2 then p.1 else { p.1 with theta := s.actTheta m p.1 }
    let o := s.useFree.actLoops m a0
    let e := o.st.eng n
    let imax := e.word (448 + m % 2)
    let i1 := fClamp o.istar (fNeg imax) imax
    let hold := bitOf (e.word 450) (m % 2)
    let i2 := if hold || p.2 then fZero false else i1
    let a1 := o.st.actBand m { o.act with iStar := i2 }
    let s1 := match o.diff with
      | some d => (o.st.plausCheck n d.1 d.2.1 d.2.2 (s.actWord m 11).toNat).1
      | none => o.st
    let e1 := ((s1.actRefs m a1).zipIdx).foldl (fun x r =>
      match s1.legOf (4 + m) r.2 with | some h => (x.stageCmd h 1 r.1).stageCmd h 2 a1.h | none => x) (s1.eng n)
    let hl := fLe a1.h (e.word 368) || fLe (e.word 369) a1.h
    let b := actOut m
    let fl := packBits [a1.done, p.2, hl, !fEq o.istar i1]
    let e2 := (((((e1.setWord b a1.pos).setWord (b + 1) a1.speed).setWord (b + 2) (s1.actCurrent m a1)).setWord (b + 3) a1.h).setWord (b + 4)
      (fxTo (e1.profState (m % 2)).1)).setWord (b + 5) (w32 fl)
    let p := 440 + 2 * (m % 2)
    (s1.setEng n ((e2.setWord p (Config.freeWord 0x64 s.free)).setWord (p + 1) (Config.freeWord 0x65 s.free))).setAct m a1

/-- One tick of the actuator program, parameters in range: REGION on the larger |SPEED| and |I|, then both motors. -/
def State.actRun (s : State) (n : Nat) : State :=
  let e := s.eng n
  let x := fMax (fAbs (e.word 385)) (fAbs (e.word 393))
  let y := fMax (fAbs (e.word 386)) (fAbs (e.word 394))
  let s1 := (s.regionLookup n x y).1
  s1.each (s1.motorsOf n) State.actMotor

/-- A tick of the actuator program on engine `n`: parameters judged before the first CST, then the tick (R339). -/
def State.actTick (s : State) (n : Nat) : State :=
  let s0 := { s.each (List.range 4) State.encCap with mot.out := Sparse.set (always []) s.mot.out n [] }
  match Sparse.get (always none) s.mot.judged n with
  | some false => s0
  | some true => s0.actRun n
  | none =>
    let bad := (((s.motorsOf n).flatMap s.actChecks) ++ (s.eng n).actShared).find? fun c => !c.2
    match bad with
    | some w => ({ s0 with mot.judged := Sparse.set (always none) s0.mot.judged n (some false) }).actSay n true 0x0844 (w32 w.1) 0
    | none => ({ s0 with mot.judged := Sparse.set (always none) s0.mot.judged n (some true) }).actRun n

/-- The park-lock motor. -/
def State.parkMotor (s : State) : Option Nat := s.motors.find? fun m => (s.actNext m 12).toNat = 2

/-- What R345 asks of a pending verification, from the committed words: position, speed, SRC_BAD, and the interface's QERR. With PARK_TOL = 0
nothing can be verified. -/
def State.parkOk (s : State) : Bool :=
  match s.mot.park, s.parkMotor with
  | some (engage, _), some m =>
    let e := s.eng (actEngine m)
    let b := actOut m
    let src := (s.actWord m 5).toNat
    let tol := s.rd R.MOT_PARK_TOL
    let quiet := !(decide (0x70 ≤ src) && decide (src ≤ 0x73)) || !s.flag (R.MOT_ENC_STAT_QERR_FLAG (src - 0x70))
    !fIsZero tol && fLe (fAbs (fSub (e.seen b) (s.actWord m (if engage then 13 else 14)))) tol &&
      fLt (fAbs (e.seen (b + 1))) (fOfRatio 1 100) && !bitOf (e.seen (b + 5)) 1 && quiet
  | _, _ => false

/-- How long the conditions of a verification have held (R345). -/
def State.parkWatch (s : State) : State := { s with mot.parkSince := if s.parkOk then some (s.mot.parkSince.getD s.atime) else none }

/-- The verification has succeeded: its conditions have held for SETTLE (R345). -/
def State.parkSettled (s : State) : Bool :=
  s.parkOk && (match s.mot.parkSince with | some a => decide (10000 * s.get R.MOT_PARK_CFG_SETTLE ≤ s.since a) | none => false)

/-- What a release of engine `n` lets out (R182, R356). -/
def State.actRelease (s0 : State) (n : Nat) : State :=
  let s := s0.parkWatch
  s.each (Sparse.get (always []) s.mot.out n) fun u o =>
    if o.1 then u.raise o.2.1 0 (0x80 + n) o.2.2.1 else u.event o.2.1 (0x80 + n) o.2.2.1 o.2.2.2

/-! ### Commands (R344, R355) -/

/-- The motors as target. -/
def motTargets : List Nat := [0x0F]

/-- A motion setpoint (R344, R355): a park-lock motor and a held bridge are refused; the payload is judged at the tick, after the mode. -/
def State.motSetpoint (s : State) (c : Cmd) (opcode bytes mode : Nat) (ok : Nat → Bool) (words : Nat → List (Nat × Word)) : Out :=
  let m := arg c 16 1
  if !s.targets c motTargets then refuse s c .badParam
  else if short c (bytes - 16) || !s.motors.contains m then refuse s c .badParam
  else if (s.actNext m 12).toNat = 2 || s.unitHeld (4 + m) then refuse s c .safetyBlocked
  else
    let o := actBase m
    let bad := (s.actNext m 0).toNat = 0 || !ok m
    .next (s.queueSetpoint c (actEngine m) opcode m bad ((o + 1, w32 mode) :: words o))

/-- ACT_CURRENT (R355). -/
def execActCurrent (c : Cmd) (s0 : State) : Out :=
  s0.command c 0x4000 fun s =>
  s.motSetpoint c 0x4000 24 0 (fun m => fLe (fAbs (argW c 20)) ((s.eng (actEngine m)).nextWord (448 + m % 2))) fun o => [(o + 2, argW c 20)]

/-- ACT_SPEED (R355). -/
def execActSpeed (c : Cmd) (s0 : State) : Out :=
  s0.command c 0x4001 fun s =>
  s.motSetpoint c 0x4001 28 1
    (fun m => fLe (fAbs (argW c 20)) (fOfNat 2000) && fLe (fZero false) (argW c 24) &&
      fLe (argW c 24) ((s.eng (actEngine m)).nextWord (448 + m % 2)))
    fun o => [(o + 3, argW c 20), (o + 9, argW c 24)]

/-- ACT_MOVE (R355). -/
def execActMove (c : Cmd) (s0 : State) : Out :=
  s0.command c 0x4002 fun s =>
  s.motSetpoint c 0x4002 24 2 (fun _ => fLe (fAbs (argW c 20)) (fOfNat 1000000)) fun o => [(o + 4, argW c 20)]

/-- ACT_STATUS (R355): POS and SPEED. -/
def execActStatus (c : Cmd) (s0 : State) : Out :=
  s0.command c 0x4003 fun s =>
  let m := arg c 16 1
  if !s.targets c motTargets then refuse s c .badParam
  else if !s.modeOk 0x4003 true then refuse s c .rejectedMode
  else if short c 1 || !s.motors.contains m || (s.actWord m 0).toNat = 0 then refuse s c .badParam
  else
    let e := s.eng (actEngine m)
    .next (s.finish c .ok (pair64 (e.seen (actOut m)).toNat (e.seen (actOut m + 1)).toNat))

/-- ENC_STATUS (R355): COUNT and MOT_ENC_k_STAT. -/
def execEncStatus (c : Cmd) (s0 : State) : Out :=
  s0.command c 0x4010 fun s =>
  let k := arg c 16 1
  if !s.targets c motTargets then refuse s c .badParam
  else if !s.modeOk 0x4010 true then refuse s c .rejectedMode
  else if short c 1 || decide (3 < k) then refuse s c .badParam
  else .next (s.finish c .ok (pair64 (s.rd (R.MOT_ENC_COUNT k)).toNat (s.rd (R.MOT_ENC_STAT k)).toNat))

/-- The result of a motion setpoint for motor `m` at the release of its tick (R355): I*, n* or P_PROF. -/
def State.motResult (s : State) (opcode m : Nat) : Nat :=
  match opcode with
  | 0x4000 => (s.act m).iStar.toNat
  | 0x4001 => (s.act m).nRef.toNat
  | _ => ((s.eng (actEngine m)).seen (actOut m + 4)).toNat

/-! ### The park lock (R345, R346) -/

/-- PARK_STATE (R50): 0 engaged, 1 released, 2 not verified; the spec does not number them (log 41). -/
def State.parkEvent (s : State) (k : Nat) : State :=
  let p : Word := match s.parkMotor with | some m => (s.eng (actEngine m)).seen (actOut m) | none => 0
  s.event 0x0103 0 (Config.freeWord (0x54 + k) 0) p

/-- HOLD bit of the park motor (R340). -/
def State.parkHoldBit (s : State) (v : Bool) : State :=
  match s.parkMotor with
  | some m => s.wardenStage (actEngine m) 450 (w32 (natSetBit (s.wardenWord (actEngine m) 450).toNat (m % 2) v))
  | none => s

/-- A park request (R42, R345, R346): torque held, PARK cleared, PARK_REQ with a new sequence number. In SAFE_STOP the park bridge's enables
are granted for the move (R46). -/
def State.parkRequest (s : State) (engage : Bool) : State :=
  let s1 := ({ s with mode.parkHold := true, mot.park := some (engage, s.atime), mot.parkOut := 0, mot.parkSince := none }.refreshHold).putB R.SYS_MODE_PARK false
  let s2 := s1.parkHoldBit false
  let s3 :=
    match s2.parkMotor with
    | none => s2
    | some m =>
      let n := actEngine m
      let q := (s2.wardenWord n 451).toNat / 65536
      let t := s2.wardenStage n 451 (w32 ((if engage then 1 else 2) + 65536 * ((q + 1) % 65536)))
      if t.md = .safeStop then t.askGrant (4 + m) else t
  if engage then s3.parkEvent 2 else s3

/-- The park move is over: in SAFE_STOP its bridge's enables are removed again (R46, R345). -/
def State.parkOver (s : State) : State :=
  let s1 := { s with mot.park := none }
  match s1.parkMotor with
  | some m => if s1.md = .safeStop then s1.removeEnable (4 + m) else s1
  | none => s1

/-- PARK_VERIFIED (R345, R346): the conditions have held for SETTLE. -/
def execParkVerified (s : State) : Out :=
  if !s.parkSettled then .next s
  else
    match s.mot.park with
    | none => .next s
    | some (true, _) => .next (((s.parkHoldBit true).putB R.SYS_MODE_PARK true).parkEvent 0).parkOver
    | some (false, _) => .next (({ s with mode.parkHold := false }.refreshHold).parkEvent 1).parkOver

/-- PARK_FAIL (R345, R346): not verified within TIMEOUT; 0x0F10, and the torque hold stays. -/
def execParkFail (s : State) : Out :=
  match s.mot.park with
  | none => .next s
  | some (_, at_) => .next (s.onlyIf (decide (10000 * s.get R.MOT_PARK_CFG_TIMEOUT ≤ s.since at_)) fun t => (t.raise 0x0F10 0 0x0F).parkOver)

/-- PARK_RECHECK (R346): an engaged lock outside PARK_TOL for SETTLE raises 0x0F11 and clears PARK. -/
def execParkRecheck (s : State) : Out :=
  match s.parkMotor with
  | none => .next s
  | some m =>
    if !s.flag R.SYS_MODE_PARK || s.mot.park.isSome then .next s
    else
      let p := (s.eng (actEngine m)).seen (actOut m)
      let out := fLt (s.rd R.MOT_PARK_TOL) (fAbs (fSub p (s.actWord m 13)))
      let n := if out then s.mot.parkOut + 1 else 0
      let s1 := { s with mot.parkOut := n }
      if max 1 (s.get R.MOT_PARK_CFG_SETTLE) ≤ n then
        .next ((({ s1 with mot.parkOut := 0, mode.parkHold := true }.refreshHold).putB R.SYS_MODE_PARK false).raise 0x0F11 1 0x0F)
      else .next s1

end Sys2Proof.Machine
end

