-- ==== Sys2Proof/Machine/Traction.lean ====
section
/-! DEFINITION. The commands, records and events of the traction programs (R230-R237, 11_traction_modulated.md; R251-R256,
12_traction_band.md; R264-R278, 13_rotor_position.md). The rows of a program's records stand for the tick that meets their condition. -/

namespace Sys2Proof.Machine

/-! ### Commands -/

/-- A traction setpoint (R231): for a pair secondary BAD_PARAM, else handed to the engine that acts. -/
def State.tracSetpoint (s : State) (c : Cmd) (opcode : Nat) (bad : Bool) (words : List (Nat × Word)) : Out :=
  let n := c.target - 0x80
  if !s.targets c tractionTargets || (s.primary n).isSome then refuse s c .badParam
  else .next (s.queueSetpoint c (s.addressed n) opcode 0 bad words)

/-- TRQ_SET (R231): T_CMD. -/
def execTrqSet (c : Cmd) (s0 : State) : Out :=
  s0.command c 0x1000 fun s =>
  s.tracSetpoint c 0x1000 (short c 4 || !fFinite (argW c 16)) [(337, argW c 16)]

/-- SPD_SET (R231): N_CMD and T_CAP. -/
def execSpdSet (c : Cmd) (s0 : State) : Out :=
  s0.command c 0x1001 fun s =>
  s.tracSetpoint c 0x1001 (short c 8 || !fFinite (argW c 16) || !fFinite (argW c 20) || fLt (argW c 20) (fZero false))
    [(338, argW c 16), (339, argW c 20)]

/-- CTRL_SEL (R231, R235): the control mode. -/
def execCtrlSel (c : Cmd) (s0 : State) : Out :=
  s0.command c 0x1002 fun s =>
  s.tracSetpoint c 0x1002 (short c 1 || decide (1 < arg c 16 1)) [(336, w32 (arg c 16 1))]

/-- TRQ_STATUS (R231): T_EST and the speed, from the committed state words. -/
def execTrqStatus (c : Cmd) (s0 : State) : Out :=
  s0.command c 0x1003 fun s =>
  let n := c.target - 0x80
  if !s.targets c tractionTargets then refuse s c .badParam
  else if !s.modeOk 0x1003 true then refuse s c .rejectedMode
  else .next (s.finish c .ok (pair64 ((s.eng n).seen 384).toNat ((s.eng n).seen 385).toNat))

/-- TRC_PARAM_WRITE (R231): up to eight parameter words as one held group. -/
def execTrcParamWrite (c : Cmd) (s0 : State) : Out :=
  s0.command c 0x1100 fun s =>
  let n := c.target - 0x80
  let first := arg c 16 2
  let count := arg c 18 1
  if !s.targets c tractionTargets || (s.primary n).isSome then refuse s c .badParam
  else if !s.modeOk 0x1100 false then refuse s c .rejectedMode
  else if short c 3 || count = 0 || decide (8 < count) || decide (384 < first + count) || short c (4 + 4 * count) then refuse s c .badParam
  else .next ((s.writeGroup n first (argWords c 20 count)).finish c .ok)

/-- TRC_PARAM_READ (R231): parameter words to host memory. -/
def execTrcParamRead (c : Cmd) (s0 : State) : Out :=
  s0.command c 0x1101 fun s =>
  let n := c.target - 0x80
  let first := arg c 16 2
  let count := arg c 18 1
  if !s.targets c tractionTargets then refuse s c .badParam
  else if !s.modeOk 0x1101 true then refuse s c .rejectedMode
  else if short c 3 || count = 0 || decide (8 < count) || decide (384 < first + count) || decide (c.len < 4 * count) then refuse s c .badParam
  else .next (s.finishData c .ok (bytesOfWords ((List.range count).map fun k => (s.eng n).word (first + k))))

/-- The law in force in set `n`. -/
def State.lawNow (s : State) (n : Nat) : Nat := if s.flag (R.FE_STATUS_RUNNING n) then (s.tr n).law else s.lawAt n

/-- An earlier LAW_SEL to the set of engine `n` is still in flight (R255). -/
def State.lawBusy (s : State) (n : Nat) : Bool :=
  match (s.tr n).lawOp with
  | some o => decide (o.1 < 3) && s.live o.1 o.2.1
  | none => false

/-- LAW_SEL (R253, R254, R255): the ENTRY write; the command completes at the first release under the new law of the engine that acts. -/
def execLawSel (c : Cmd) (s0 : State) : Out :=
  s0.command c 0x1004 fun s =>
  let n := c.target - 0x80
  let law := arg c 16 1
  if !s.targets c tractionTargets || (s.primary n).isSome then refuse s c .badParam
  else if !s.modeOk 0x1004 false then refuse s c .rejectedMode
  else if short c 1 || decide (1 < law) then refuse s c .badParam
  else
    let m := s.addressed n
    if law = s.lawNow m then .next (s.useFree.finish c .ok (pair64 law (Config.freeWord 0x30 s.free).toNat))
    else if !s.flag (R.EDGE_BAND_CFG_LIVE_SW n) || s.get (R.EDGE_TB_CFG_KIND n) = 1 then refuse s c .badParam
    else if s.lawBusy m then refuse s c .busyRetry
    else
      .next (((s.begin c).put (R.FE_CTRL_ENTRY n) ((s.eng n).word (if law = 1 then 365 else 364)).toNat).modTr m
        fun t => { t with lawOp := some (c.master, c.tag, s.lawNow m, law) })

/-- A release of set `n` (R253, R255, R256): the first one under a new law tells LAW_CHANGED, and completes the LAW_SEL that waits for it. -/
def State.lawRelease (s : State) (n : Nat) : State :=
  let t := s.tr n
  let tick := s.rd (R.FE_TICKNO n)
  let s1 := s.modTr n fun t => { t with toldLaw := some t.law }
  let s2 := match t.toldLaw with
    | some l => if l = t.law then s1 else s1.event 0x1003 (0x80 + n) (w32 l) (w32 t.law) tick
    | none => s1
  match t.lawOp with
  | none => s2
  | some o =>
    if t.law ≠ o.2.2.2 then s2
    else
      let s3 := s2.modTr n fun t => { t with lawOp := none }
      if o.1 < 3 && s.live o.1 o.2.1 then s3.result o.1 o.2.1 3 .ok (pair64 t.law tick.toNat) false false else s3

/-- The result of a traction setpoint at the release of its tick (R231). -/
def State.tracResult (s : State) (n opcode : Nat) : Nat :=
  let t := s.tr n
  let e := s.eng n
  let fl := packBits [t.limited, bitOf (e.word 452) 0 || t.est.st ≠ estTrack, !t.ramps.isEmpty, e.word 336 = 1]
  match opcode with
  | 0x1000 => pair64 (e.seen 390).toNat fl
  | 0x1001 => pair64 t.prof.toNat fl
  | _ => 0

/-! ### Torque ramps (R229) -/

/-- Every set ramps from |T*| to zero within `ms` milliseconds (R34, R44). -/
def State.rampAll (s : State) (kind ms : Nat) : State :=
  s.each s.sets fun u n => u.modTr n fun t => t.startRamp kind (fDiv (fAbs t.tRef) (fOfRatio (max 1 ms) 1000))

/-- The hand-over release of R123: every set by its own setpoint-watchdog ramp. -/
def State.rampHandover (s : State) : State :=
  s.each s.sets fun u n => u.modTr n fun t => t.startRamp 3 ((u.eng n).swdRate)

/-- Ramps of a kind end (R229, R35). -/
def State.endRamp (s : State) (kind : Nat) : State :=
  s.each s.sets fun u n => u.modTr n fun t => { t with ramps := t.ramps.filter fun (r : Ramp) => r.kind ≠ kind }

/-! ### Records and events of the programs -/

/-- Set `n` runs a traction program. -/
def State.tracUp (s : State) (n : Nat) : Bool :=
  decide (n < nSets s.part) && s.flag (R.FE_STATUS_RUNNING n) && ((s.eng n).prog = .modulated || (s.eng n).prog = .band)

/-- The estimator of set `n` changed. -/
def State.modEst (s : State) (n : Nat) (f : Est → Est) : State := s.modTr n fun t => t.mapEst f

/-- The setpoint watchdog of set `n`, where it is due (R230). -/
def State.tellSetpointWd (s : State) (n : Nat) : State :=
  if s.swdDue (s.eng n) (s.tr n) then
    ((s.modTr n fun t => t.expire (s.eng n)).raise 0x0840 0 (0x80 + n)).event 0x1001 (0x80 + n) (s.tr n).tRef
  else s

/-- OVERSPEED of set `n`: 10 ticks in a row above N_OVER, told once (R236). -/
def State.tellOverspeed (s : State) (n : Nat) : State :=
  let t := s.tr n
  if 10 ≤ t.overRun ∧ t.overTold = false then (s.modTr n fun t => { t with overTold := true }).raise 0x0842 1 (0x80 + n) else s

/-- VDC_ABSENT of set `n`: two ticks in a row without a valid sample, told once (R224). -/
def State.tellVdcAbsent (s : State) (n : Nat) : State :=
  let t := s.tr n
  if 2 ≤ t.vdcBad ∧ t.vdcTold = false then (s.modTr n fun t => { t with vdcTold := true }).raise 0x0841 2 (0x80 + n) else s

/-- BAND_SAT of set `n`: BSAT for BSAT_N ticks in a row, told once until a tick without it (R251). -/
def State.tellBandSat (s : State) (n : Nat) : State :=
  let t := s.tr n
  if t.law = 1 ∧ ((s.eng n).word 367).toNat ≤ t.bsatRun ∧ 0 < t.bsatRun ∧ t.bsatTold = false then
    (s.modTr n fun t => { t with bsatTold := true }).event 0x1004 (0x80 + n) (w32 t.bsat) t.h
  else s

/-- FSW_LIMIT of set `n`: HLIM for 100 ms with f̄ outside F_T ± 20 %, told once (R256). -/
def State.tellFswLimit (s : State) (n : Nat) : State :=
  let t := s.tr n
  match t.hlimAt with
  | none => s
  | some a =>
    if t.law = 1 ∧ 100000 ≤ s.since a ∧ t.hlimTold = false then
      (s.modTr n fun t => { t with hlimTold := true }).raise 0x0845 0 (0x80 + n)
    else s

/-- The end of ACQUIRE (R264, R265, R266): LOCK below PTH_1 for 40 ticks leads to POLARITY, or to TRACK where the back-EMF has fixed polarity. -/
def State.tellLocked (s : State) (n : Nat) : State :=
  let x := (s.tr n).est
  if x.st ≠ estAcquire ∨ x.lockRun < 40 then s
  else if x.polKnown then
    (s.modEst n fun x => { x with st := estTrack }).event 0x1007 (0x80 + n) none (w32 (s.since x.acqAt))
  else s.modEst n fun x => { x with st := estPolarity, polTick := 0, polAgain := false, sumP := fZero false, sumM := fZero false }

/-- ACQUIRE has not ended 15 ms after it began (R264); the record has the severity of R176 (R277). -/
def State.tellAcquireFail (s : State) (n : Nat) : State :=
  let x := (s.tr n).est
  if x.st = estAcquire ∧ x.lockRun < 40 ∧ 15000 ≤ s.since x.acqAt then
    (s.modEst n fun x => { x with st := estFailed }).raise 0x0849 (s.missSeverity n) (0x80 + n)
  else s

/-- The currents have not decayed 1 ms after the loss (R275 step 4): the method changes to short circuit. -/
def State.tellDecayTimeout (s : State) (n : Nat) : State :=
  let x := (s.tr n).est
  if x.st = estRecapFw ∧ x.fwTicks = 0 ∧ 1000 ≤ s.since x.lossAt then
    (s.modEst n fun x => { x with st := estRecapAsc, method := 1, ascTicks := 0 }).raise 0x0846 0 (0x80 + n) (w32 1)
  else s

/-- The trackers and the integrators of the current loops seeded (R275 step 6, R223 at zero current). -/
def Trac.reseed (t : Trac) (e : Engine) (th om : F32) : Trac :=
  { t with est := { t.est.seed th om with st := estRelock }, i0 := fZero false, i1 := fMul om (e.word 353) }

/-- T_FW has passed since the currents decayed (R275 step 6): the estimator enters RELOCK. -/
def State.tellFwEnd (s : State) (n : Nat) : State :=
  let x := (s.tr n).est
  if x.st = estRecapFw ∧ 0 < x.fwTicks ∧ x.freewheelTicks (s.ts (s.timer n)) ≤ x.fwTicks then
    (s.modTr n fun t => t.reseed (s.eng n) x.theta x.omega).raise 0x0846 0 (0x80 + n) (w32 2)
  else s

/-- The short-circuit step is over (R275): another tick would exceed ASC_T, or |i| has reached 0.8 × I_S_MAX. -/
def Est.ascOver (x : Est) (e : Engine) (ts : F32) : Bool :=
  decide (2 ≤ x.ascTicks) && (fLt (e.word 309) (fMul (fOfNat x.ascTicks) ts) ||
    fLe (fMul (fOfRatio 8 10) (e.word 448)) (fHyp (fAdd x.ascA x.ascDa) (fAdd x.ascB x.ascDb)))

/-- The end of the short-circuit step (R275): angle and speed from the change of current over the step; RELOCK for one tick. -/
def State.tellAscEnd (s : State) (n : Nat) : State :=
  let x := (s.tr n).est
  let e := s.eng n
  let ts := s.ts (s.timer n)
  if x.st ≠ estRecapAsc ∨ x.ascOver e ts = false then s
  else
    let tasc := fMul (fOfNat (x.ascTicks - 1)) ts
    let mag := fDiv (fMul (fHyp x.ascDa x.ascDb) (e.word 352)) (fMul (e.word 353) tasc)
    let om := if x.ascRev then fNeg mag else mag
    let th := fWrap (fWrap (fSub (fAdd (fAdd (fAtan2 x.ascDb x.ascDa) (fMul (fSgn om) (fMul fPi fHalf))) (fMul (fMul om tasc) fHalf)) (s.setShift n)))
    s.modTr n fun t => t.reseed e th om

/-- The recapture is not complete 5 ms after detection (R277); a re-acquire fails by 0x0849 instead. -/
def State.tellRecaptureFail (s : State) (n : Nat) : State :=
  let x := (s.tr n).est
  if (x.st = estRecapFw ∨ x.st = estRecapAsc ∨ x.st = estRelock) ∧ 5000 ≤ s.since x.lossAt then
    (s.modEst n fun x => { x with st := estFailed }).raise 0x0848 (s.missSeverity n) (0x80 + n)
  else s

/-- What the ticks of set `n` have brought about and no row has told yet goes out with a release (R182). -/
def State.tellAll (s : State) (n : Nat) : State :=
  if !s.tracUp n then s
  else
    let s1 := ((((s.tellOverspeed n).tellVdcAbsent n).tellBandSat n).tellFswLimit n)
    ((((((s1.tellLocked n).tellAcquireFail n).tellDecayTimeout n).tellFwEnd n).tellAscEnd n).tellRecaptureFail n)

/-- A row that stands for a condition of the program of set `n`. -/
def State.condition (s : State) (n : Nat) (f : State → Nat → State) : Out := .next (if s.tracUp n then f s n else s)

/-- SETPOINT_WD_EXPIRY (R230). -/
def execSetpointWdExpiry (n : Nat) (s : State) : Out := s.condition n State.tellSetpointWd

/-- OVERSPEED (R236). -/
def execOverspeed (n : Nat) (s : State) : Out := s.condition n State.tellOverspeed

/-- VDC_ABSENT (R224). -/
def execVdcAbsent (n : Nat) (s : State) : Out := s.condition n State.tellVdcAbsent

/-- BAND_SAT (R251). -/
def execBandSat (n : Nat) (s : State) : Out := s.condition n State.tellBandSat

/-- FSW_LIMIT (R256). -/
def execFswLimit (n : Nat) (s : State) : Out := s.condition n State.tellFswLimit

/-- ESTIMATOR_LOCKED (R264, R265, R266). -/
def execEstimatorLocked (n : Nat) (s : State) : Out := s.condition n State.tellLocked

/-- ACQUIRE_FAIL (R264, R277). -/
def execAcquireFail (n : Nat) (s : State) : Out := s.condition n State.tellAcquireFail

/-- RECAP_DECAY_TIMEOUT (R275 step 4). -/
def execRecapDecayTimeout (n : Nat) (s : State) : Out := s.condition n State.tellDecayTimeout

/-- RECAP_FW_END (R275 step 6). -/
def execRecapFwEnd (n : Nat) (s : State) : Out := s.condition n State.tellFwEnd

/-- RECAP_ASC_END (R275). -/
def execRecapAscEnd (n : Nat) (s : State) : Out := s.condition n State.tellAscEnd

/-- RECAPTURE_FAIL (R277). -/
def execRecaptureFail (n : Nat) (s : State) : Out := s.condition n State.tellRecaptureFail

end Sys2Proof.Machine
end

