-- ==== Sys2Proof/Machine/FieldEngine.lean ====
section
/-! DEFINITION. The tick of a field engine (R98, R99, R169-R176, R182, R193-R195, 09_field_engines.md; R380, R383, R384,
19_paired_execution.md): strobe, transfer, setpoints, COMMIT and release, start and stop, and the windows. -/

namespace Sys2Proof.Machine

/-! ### Setpoints at their tick (R48, R98, R99) -/

/-- The units that a waiting setpoint drives. -/
def State.setpointUnits (s : State) (p : Setpoint) : List Nat :=
  if p.target % 256 = 0x0F then [4 + p.target / 256]
  else if p.target % 256 < 0x80 then targetUnits (p.target % 256)
  else s.actingUnits (p.target % 256)

/-- Why the tick that would apply a setpoint rejects it: its mode, a held target, its payload (R48, R96). -/
def State.setpointFault (s : State) (p : Setpoint) : Option Status :=
  if !groupAccepts s p.opcode || (p.opcode = 0x3005 && !(s.md = .supply)) || (p.opcode = 0x2012 && !s.lvMode) then some .rejectedMode
  else if (s.setpointUnits p).any s.unitHeld then some .safetyBlocked
  else if p.bad then some .badParam
  else none

/-- The Gallery a field engine's results come from: Drive, Power, Motion. -/
def feGallery (n : Nat) : Nat := if n < 4 then 0 else if n < 6 then 1 else 2

/-- The result of a setpoint operation that is still awaited. -/
def State.setpointResult (s : State) (n : Nat) (p : Setpoint) (st : Status) (v : Nat) : State :=
  if s.live p.master p.tag then s.result p.master p.tag (feGallery n) st v false p.superseded else s

/-- A later setpoint of the list has the same opcode and target (R99). -/
def laterSame (p : Setpoint) (rest : List Setpoint) : Bool := rest.any fun q => q.opcode = p.opcode && q.target = p.target

/-- The setpoints a tick applies, those that a later one replaces marked (R99). -/
def markSuperseded : List Setpoint → List Setpoint
  | [] => []
  | p :: t => { p with applied := true, superseded := laterSame p t } :: markSuperseded t

/-- Word `p` of the active copy of engine `n` advances by one: a sequence number. -/
def State.bump (s : State) (n p : Nat) : State := s.modEng n fun e => e.setWord p (e.word p + 1)

/-- An accepted setpoint acts: its words, unless it is superseded, in every engine of the group, and the sequence number of its contact
(R231, R328, R355). -/
def State.actSetpoint (s : State) (group : List Nat) (p : Setpoint) : State :=
  let put (t : State) (n : Nat) : State :=
    if p.superseded then t else t.modEng n fun e => p.words.foldl (fun a w => a.setWord w.1 w.2) e
  let s1 := s.each group put
  if p.opcode / 256 = 0x10 then s1.each group fun t n => t.bump n 359
  else if p.opcode / 256 = 0x40 then s1.bump (actEngine (p.target / 256)) (actBase (p.target / 256) + 15)
  else if p.opcode = 0x2012 then s1.bump 5 350
  else if p.opcode / 256 = 0x30 then
    let s2 := s1.bump 5 349
    if p.opcode = 0x3005 then s2.supApplied else s2
  else if p.opcode = 0x2000 && !p.superseded then { s1 with conv.ownVset := some ((s1.eng 4).word 336) }
  else s1

/-- The setpoints that wait for engine `n` are judged and applied at its tick start. -/
def State.takeSetpoints (s : State) (group : List Nat) (n : Nat) : State :=
  let all := (s.eng n).setpoints
  let old := all.filter fun p => p.applied
  let fresh := all.filter fun p => !p.applied
  let bad := fresh.filter fun p => (s.setpointFault p).isSome
  let good := markSuperseded (fresh.filter fun p => (s.setpointFault p).isNone)
  let s1 := s.modEng n fun e => { e with setpoints := old ++ good }
  let s2 := s1.each bad fun t p => t.setpointResult n p ((s.setpointFault p).getD .badParam) 0
  s2.each good fun t p => t.actSetpoint (if n < 4 then group else [n]) p

/-! ### The strobe (R169-R172) -/

/-- Edges that half-bridge `h` switched since engine `e` last counted them: pad edges, or changes of state of a band leg (R179, R248). -/
def State.edgeCount (s : State) (e : Engine) (h : Nat) : Nat :=
  let c := s.chan h
  if c.band then c.changes - Sparse.get (always 0) e.edgesSeen (h + 64)
  else (c.edges + 65536 - Sparse.get (always 0) e.edgesSeen h) % 65536

/-- The edge counts of a tick enter SLD's sources (R179). -/
def State.edgeSamples (s : State) (n : Nat) : State :=
  let e := s.eng n
  let chs := s.allChans
  s.setEng n
    { e with samples := chs.foldl (fun m h => Sparse.set (always 0) m (0x80 + h) (fOfNat (s.edgeCount e h))) e.samples
             edgesSeen := chs.foldl (fun m h =>
               Sparse.set (always 0) (Sparse.set (always 0) m h (s.chan h).edges) (h + 64) (s.chan h).changes) e.edgesSeen }

/-- Cycle 0 of a tick: the tick number, a clean stage, and the seed of the signature (R172, R179, R191, R376). -/
def State.strobe (s : State) (n : Nat) : State :=
  let tick := s.rd (R.FE_TICKNO n) + 1
  let s1 := (s.wr (R.FE_TICKNO n) tick).edgeSamples n
  s1.modEng n fun e =>
    { e with samples := Sparse.set (always 0) (Sparse.set (always 0) e.samples 0xB0 (w32 s.atime.toNat)) 0xB1 tick
             tickFresh := e.fresh, fresh := [], inTick := true, waiting := none, stage := [], evts := [], plausRaised := [], plausDone := []
             faulted := false, dataErr := false, sig := BitVec.ofNat 64 (n * 2 ^ 32 + tick.toNat) }

/-- The staging transfer of one engine (R169); a change of words 320 to 327 makes the region configuration new (R185). -/
def Engine.transfer (e : Engine) : Engine :=
  { e with act := e.stg.foldl (fun m w => Sparse.set (always 0) m w.1 w.2) e.act, stg := []
           badRgnTold := e.badRgnTold && !(e.stg.any fun w => decide (320 ≤ w.1) && decide (w.1 ≤ 327) && decide (e.word w.1 ≠ w.2)) }

/-- A hold that stood at a third tick start in a row ends, with PARAM_HOLD and its record (R170). -/
def State.breakHold (s : State) (n : Nat) : State :=
  if s.flag (R.FE_CTRL_PSTAGE_HOLD n) then
    ((s.putB (R.FE_CTRL_PSTAGE_HOLD n) false).putB (R.FE_FAULT_PARAM_HOLD n) true).raise 0x0808 0 (0x80 + n)
  else s

/-- The transfer and the setpoints of the engines that tick together (R169, R170, R232): a hold of either holds both. -/
def State.transferGroup (s : State) (group : List Nat) (n : Nat) : State :=
  let hold := group.any fun k => s.flag (R.FE_CTRL_PSTAGE_HOLD k)
  let c := (s.eng n).holdTicks + 1
  if hold && decide (c < 3) then s.modEng n fun e => { e with holdTicks := c }
  else
    let s1 := if hold then s.each group State.breakHold else s
    let s2 := s1.modEng n fun e => { e with holdTicks := 0 }
    (s2.each group fun t k => t.modEng k Engine.transfer).each group fun t k => t.takeSetpoints group k

/-- The blend step and the pending ENTRY (R172, R186, R193, R252). -/
def State.tickStart (s : State) (n : Nat) : State :=
  let s1 := (s.modEng n Engine.blendStep).showRegion n
  s1.setPc n (s1.get (R.FE_CTRL_ENTRY (s1.timer n)))

/-! ### The standard programs (R195) -/

/-- An invalid PI descriptor or profile limit that the standard program of engine `n` uses in this tick (R187, R189, R192). -/
def State.descBad (s : State) (n : Nat) : Bool :=
  let e := s.eng n
  let lims (c : Nat) : Bool := limOk (e.word (328 + 4 * c)) && limOk (e.word (329 + 4 * c)) && limOk (e.word (330 + 4 * c))
  match e.prog with
  | .modulated | .band =>
    (s.lawAt n = 0 && !(e.piOk 0 && e.piOk 1)) || (e.word 336 = 1 && !(e.piOk 2 && lims 0))
  | .converter => !e.piOk 1
  | .charger => !e.piOk 1 || (s.supOn && !e.piOk 4)
  | .actuator => (s.motorsOf n).any fun m =>
      decide ((s.actWord m 0).toNat ≠ 0) && ((decide (1 ≤ (s.actLoop m).1) && !e.piOk (m % 2)) || ((s.actLoop m).1 = 2 && !lims (m % 2)))
  | _ => false

/-- A tick of 6.25 µs of the discovery program on engine `n` (R79, R195). A motion engine holds the test current for 20 ms in one motor
after the other, and Landing 0 removes a bridge's enable as its test ends; a traction engine goes through the watch, the injection and the
three tests once the link is up, and stops where its set is out. The order of the two motors is the model's (DESIGN CHOICE, log 63). -/
def State.discTick (s : State) (n : Nat) : State :=
  let k := Sparse.get (always 0) s.disc.ticks n + 1
  let put : State := { s with disc.ticks := Sparse.set (always 0) s.disc.ticks n k }
  if n < 4 then (if s.disc.linkUp && !s.isOut n then put else s)
  else if 6 ≤ n then
    (if k = 3200 then put.removeEnable (4 + 2 * (n - 6)) else if k = 6400 then put.removeEnable (5 + 2 * (n - 6)) else put)
  else s

/-- The work of a standard program between the strobe and COMMIT; a user's own does it by its instructions. -/
def State.program (s : State) (n : Nat) : State :=
  match (s.eng n).prog with
  | .modulated | .band => s.tracTick n
  | .converter => s.convTick
  | .charger => s.chgTick
  | .actuator => s.actTick n
  | .discovery => s.discTick n
  | .user => s

/-- The engine runs one of the vendor's programs. -/
def Prog.standard (p : Prog) : Bool := p ≠ .user

/-- Commands of the stage whose value is not finite never enter it (R181). -/
def Engine.finiteStage (e : Engine) : Engine := { e with stage := e.stage.filter fun c => fFinite c.val }

/-- A standard program runs its tick: an invalid descriptor and a non-finite command are loop faults (R192). Where in its program they
occur, where its COMMIT stands and what its words fold, the spec leaves open: the program counter and the signature are free. -/
def State.runProgram (s : State) (n : Nat) : State :=
  if !(s.eng n).prog.standard then s
  else
    let s1 := (s.useFree.setPc n ((Config.freeWord 0x58 s.free).toNat % 1024)).modEng n fun e =>
      { e with sig := Config.freeWord 0x73 s.free ++ Config.freeWord 0x74 s.free }
    let s2 := if s.descBad n then s1.loopFault n faultDesc else s1.program n
    if (s2.eng n).stage.all (fun c => fFinite c.val) then s2
    else (s2.loopFault n faultNonfinite).modEng n Engine.finiteStage

/-! ### Start and stop (R193, R384) -/

/-- The time from the sample point to the update point that uses it, in CLK_EDGE cycles (R199, R216, R220): the first update point at
least 1.2 µs after arrival, which is 4.825 µs after the sample. -/
def State.sampleToUpdate (s : State) (n : Nat) : Nat :=
  let h := s.get (R.EDGE_TB_HALF_A_HALF n)
  let peak := s.flag (R.EDGE_TB_CFG_SAMP_PEAK n)
  let same := if peak then s.flag (R.EDGE_TB_CFG_UPD_PEAK n) else s.flag (R.EDGE_TB_CFG_UPD_VALLEY n)
  let other := if peak then s.flag (R.EDGE_TB_CFG_UPD_VALLEY n) else s.flag (R.EDGE_TB_CFG_UPD_PEAK n)
  let k := (3856 + h - 1) / max 1 h
  let k1 := max 1 k
  if same && other then k1 * h
  else if other then (if k1 % 2 = 1 then k1 else k1 + 1) * h
  else (if k1 % 2 = 0 then k1 else k1 + 1) * h

/-- The interval in which the duties of one update point apply: one carrier period, or a half with two update points in it. -/
def State.appliedFor (s : State) (n : Nat) : Nat :=
  let h := s.get (R.EDGE_TB_HALF_A_HALF n)
  if s.flag (R.EDGE_TB_CFG_UPD_PEAK n) && s.flag (R.EDGE_TB_CFG_UPD_VALLEY n) then h else 2 * h

/-- The runtime writes T_DLY and T_BADV from the EDGE_TB settings at RUN (R220, R227, R247), and ENTRY by LAW_INIT (R249). -/
def State.tracStart (s : State) (n : Nat) : State :=
  let m := s.timer n
  let tick := s.get (R.FE_TICK_PERIOD m)
  let free := s.get (R.EDGE_TB_CFG_KIND m) = 1
  let su := s.sampleToUpdate m
  let badv := if free then fOfRatio (4275 * 400 + 1000 * tick) 400000000000 else fOfRatio (5 * su + 8 * tick) 3200000000
  let s1 := (s.stage n 348 (fOfRatio (2 * su + s.appliedFor m) 1280000000)).stage n 366 badv
  if (s.primary n).isSome then s1
  else s1.put (R.FE_CTRL_ENTRY n) ((s1.eng n).nextWord (if (s1.eng n).nextWord 368 = 1 then 365 else 364)).toNat

/-- What the runtime does for the program of an engine when RUN rises. -/
def State.programStart (s : State) (n : Nat) : State :=
  match (s.eng n).prog with
  | .modulated | .band => (s.setTr n Trac.init).tracStart n
  | .converter => { s with conv.judged := none }
  | .charger => { s with chg.judged := none }.put (R.EDGE_TB_HALF_B_HALF 5) (s.eng 5).dabHalf
  | .actuator => { s with mot.judged := Sparse.set (always none) s.mot.judged n none }
  | .discovery | .user => s

/-- An engine at the rise of RUN (R167, R185, R187, R189, R191). -/
def Engine.started (e : Engine) : Engine :=
  { e with f := [], i := [], inTick := false, waiting := none, stage := [], evts := [], plausRaised := [], missRun := 0, faulted := false
           placed := false, region := 0, blendFrom := [], blendJ := 0, blendLen := 0, badRgnTold := false, kpLast := [], prof := []
           plausCount := [], plausDone := [], plausTold := [], holdTicks := 0, stopping := false, dataErr := false }

/-- Landing 0 lets the outputs of a returned engine be granted again (R384): in STANDBY and SERVICE, once. -/
def State.returnEngine (s : State) (n : Nat) : State :=
  let s1 := s.modEng n fun e => { e with returns := 1 }
  if s.md = .standby || s.md = .service then
    let s2 := s1.each (s1.unitsOf n) State.unhold
    if (s.md = .standby && (n = 4 || n = 6 || n = 7)) || (s.md = .service && n ≠ 5 && !s.mode.servFromStop) then
      s2.each (s2.unitsOf n) State.askGrant
    else s2
  else s1

/-- Engine `n` starts (R167, R193, R384). -/
def State.startNow (s : State) (n : Nat) : State :=
  let s1 := ((((s.putB (R.FE_CTRL_RUN n) true).putB (R.FE_STATUS_RUNNING n) true).put (R.FE_STATUS_MISSED n) 0).put (R.FE_STATUS_EVT_DROP n) 0).put
    (R.FE_LOAD_MAX n) 0
  let s2 := (((s1.wr (R.FE_TICKNO n) 0).modEng n Engine.started).showRegion n).programStart n
  let div := s2.bitAt R.PAIR_STATUS_FE_DIVERGED n
  if !div then s2.putBit R.PAIR_STATUS_FE_IN_SERVICE n true
  else if (s2.eng n).returns = 0 then (s2.putBit R.PAIR_STATUS_FE_IN_SERVICE n true).returnEngine n
  else if (s2.eng n).returns = 1 then s2.putBit R.PAIR_STATUS_FE_IN_SERVICE n true
  else s2

/-- RUN rises for engine `n` (R193). Where a stop still waits for the tick start, the engine ends its tick in progress, stops there and starts. -/
def State.startEngine (s : State) (n : Nat) : State :=
  if (s.eng n).stopping && s.engineUp n then s.putB (R.FE_CTRL_RUN n) true else s.startNow n

/-- A stop that waits for the tick start takes place (R193); where RUN has risen again, the engine starts anew. -/
def State.stopOrRestart (s : State) (n : Nat) : State :=
  if !(s.eng n).stopping then s else if s.flag (R.FE_CTRL_RUN n) then (s.stopEngine n).startNow n else s.stopEngine n

/-! ### FE_TICK and TICK_OVERRUN -/

/-- The engines that tick on the strobe of engine `n` (R171, R232), and are ready to. -/
def State.tickGroup (s : State) (n : Nat) : List Nat :=
  let g := match s.secondary n with | some m => [n, m] | none => [n]
  g.filter fun k => s.engineUp k && !(s.eng k).inTick

/-- A timebase brings engine `n` its strobes (R171, R198): that of its outputs while EN = 1, or its own counter where it has none. On what the
discovery program ticks the spec does not say: on its own counter (DESIGN CHOICE, log 66). -/
def State.timed (s : State) (n : Nat) : Bool :=
  (s.eng n).prog = .discovery || (s.engineChans n).isEmpty || s.flag (R.EDGE_TB_CFG_EN (s.timer n))

/-- The strobe of engine `n` comes to it: not to a pair's secondary, which has its primary's, while the primary is up. -/
def State.hasStrobe (s : State) (n : Nat) : Bool :=
  fePresent s.part n && s.engineUp n && s.timed n && !(s.eng n).inTick && !((s.primary n).any s.engineUp) && !(n = 4 && s.conv.withheld)

/-- CONV_STATUS.CBC takes the phases limited since the last strobe (R310). -/
def State.cbcStrobe (s : State) (n : Nat) : State :=
  if n = 4 then { s.put R.CONV_STATUS_CBC s.conv.cbc with conv.cbc := 0 } else s

/-- FE_TICK (R172): strobe, tick number, staging transfer, setpoints, blend step, ENTRY, and a standard program's work. -/
def execFeTick (n : Nat) (s : State) : Out :=
  if !s.hasStrobe n then .next s
  else
    let s0 := (s.cbcStrobe n).each (s.tickGroup n) State.stopOrRestart
    let g := s0.tickGroup n
    if g.isEmpty then .next s0
    else
      let s1 := (s0.each g State.strobe).transferGroup g n
      .next ((s1.each g State.tickStart).each g State.runProgram)

/-- The tick of engine `n` ends without a release (R173, R175). -/
def State.abortTick (s : State) (n : Nat) : State :=
  s.modEng n fun e => { e with inTick := false, waiting := none, stage := [], evts := [], plausRaised := [] }

/-- TICK_OVERRUN (R173): no COMMIT by P − 64; the tick is aborted in both copies and misses. -/
def execTickOverrun (n : Nat) (s : State) : Out :=
  if (s.eng n).inTick then .next ((s.loopFault n faultOverrun).abortTick n) else .next s

/-! ### COMMIT -/

/-- PAIR_DIV_INFO and PAIR_DIV_SIG take a divergence (R380); a comparator fault is counted (R383). -/
def State.divNote (s : State) (unit cause when_ main checker : Nat) : State :=
  let s1 := ((s.put R.PAIR_DIV_INFO_UNIT unit).put R.PAIR_DIV_INFO_CAUSE cause).put R.PAIR_DIV_INFO_WHEN when_
  let s2 := s1.each (List.range 4) fun t q => t.wr (R.PAIR_DIV_SIG q) (w32 ((if q < 2 then main else checker) / 2 ^ (32 * (q % 2))))
  if cause = 3 then s2.satInc R.PAIR_CANARY_FAILED else s2

/-- A divergence of engine `n` (R176, R380, R384): it leaves service, keeps the two signatures and raises 0x1002. `main` and `checker` are
the bits that the disturbance has inverted in the two copies' signatures. -/
def State.feDiverge (s : State) (n cause main checker : Nat) : State :=
  let tick := s.rd (R.FE_TICKNO n)
  let sig := (s.eng n).sig.toNat
  let s1 := (s.putBit R.PAIR_STATUS_FE_IN_SERVICE n false).putBit R.PAIR_STATUS_FE_DIVERGED n true
  let s2 := s1.divNote (0x80 + n) cause tick.toNat (sig ^^^ main) (sig ^^^ checker)
  (s2.modEng n fun e => { e with returns := if e.returns = 0 then 0 else 2 }).raise 0x1002 (s2.missSeverity n) (0x80 + n) tick (w32 cause)

/-- What the commit gate finds against a release: its cause (R380). -/
def gateCause (g : GateIn) : Option Nat :=
  if g.main % 2 ^ 64 ≠ g.checker % 2 ^ 64 then some 0
  else if g.parity then some 1
  else if g.ueRead then some 2
  else if g.comparator then some 3
  else none

/-- An EVT leaves at release (R182): an event of the engine's group, or a ledger record. -/
def State.releaseEvt (s : State) (n : Nat) (v : EvtReq) : State :=
  let grp := if n < 4 then 0x10 else if n = 4 then 0x20 else if n = 5 then 0x30 else 0x40
  if natBit v.x 10 then s.raise (0x0800 + v.x % 256) (v.x / 256 % 4) (0x80 + n) v.fa v.fb
  else s.event (256 * grp + v.x % 256) (0x80 + n) v.fa v.fb

/-- A released command arrives at the Edge Placer (R174, R175, R199). -/
def State.arrive (s : State) (c : StageCmd) : State :=
  let x := s.chan c.hb
  s.setChan c.hb { x with latest := (x.latest.filter fun y => y.kind ≠ c.kind) ++ [c] }

/-- What a standard program's release does beside its commands. -/
def State.programRelease (s : State) (n : Nat) : State :=
  match (s.eng n).prog with
  | .modulated | .band =>
    let s1 := ((s.tracRelease n).tellAll n).lawRelease n
    if (s1.tr n).est.st = estTrack then { s1 with dcl.tracked := Sparse.set (always false) s1.dcl.tracked n true } else s1
  | .converter => s.convRelease
  | .charger => s.chgRelease
  | .actuator => s.actRelease n
  | .discovery | .user => s

/-- Emulated outputs that follow THETA of engine `n` take it at each release (R354): the nearest position with that angle. -/
def State.emuTheta (s : State) (n : Nat) : State :=
  if 4 ≤ n then s
  else
    s.each (s.emusOf (0x10 + n)) fun t k =>
      let c := t.emuCounts k
      let at_ := fToInt (fDiv (fMul ((t.eng n).seen 395) (fOfNat c)) fTwoPi)
      let d := (at_ - (t.emu k).pos) % Int.ofNat c
      let d1 := if Int.ofNat c < 2 * d then d - Int.ofNat c else d
      t.emuMove k ((t.emu k).pos + d1) (s.get (R.FE_TICK_PERIOD (s.timer n)) / 40)

/-- The result value of an applied setpoint (R231, R311, R335, R355). -/
def State.setpointValue (s : State) (n : Nat) (p : Setpoint) : Nat :=
  if p.opcode / 256 = 0x10 then s.tracResult n p.opcode
  else if p.opcode = 0x2000 then s.convResult
  else if p.opcode / 256 = 0x40 then s.motResult p.opcode (p.target / 256)
  else s.chgResult p.opcode

/-- The setpoints applied at a tick complete at its end (R98); those of a tick that missed, at the next release. -/
def State.completeSetpoints (s : State) (n : Nat) : State :=
  let l := (s.eng n).setpoints
  let s1 := s.modEng n fun e => { e with setpoints := l.filter fun p => !p.applied }
  s1.each (l.filter fun p => p.applied) fun t p => t.setpointResult n p .ok (t.setpointValue n p)

/-- The commit gate releases the tick (R175). -/
def State.release (s : State) (n : Nat) : State :=
  let e := s.eng n
  let s1 := (s.each (s.engineChans n) State.settleCmds).each e.stage State.arrive
  let s2 := s1.each e.evts fun t v => t.releaseEvt n v
  let s3 := s2.each e.plausRaised fun t k => t.raise (0x0820 + k) (t.get (R.FE_PLAUS_SEV_SEV n k)) (0x80 + n)
  let s4 := s3.modEng n fun x => { x with committed := x.act.filter (fun w => decide (384 ≤ w.1) && decide (w.1 ≤ 447)), missRun := 0 }
  ((s4.programRelease n).emuTheta n).completeSetpoints n

/-- FE_n_LOAD takes the cycle of a COMMIT. -/
def State.loadCycle (s : State) (n cycle : Nat) : State :=
  let s1 := s.put (R.FE_LOAD_LAST n) (cycle / 8)
  s1.put (R.FE_LOAD_MAX n) (max (s1.get (R.FE_LOAD_MAX n)) (cycle / 8))

/-- The canary comparison at the first COMMIT after each millisecond (R383). -/
def State.feCanary (s : State) (n : Nat) (g : GateIn) : State :=
  let e := s.eng n
  if s.atime.toNat / 1000 = e.canaryAt.toNat / 1000 then s
  else
    let s1 := s.modEng n fun x => { x with canaryAt := s.atime, canaryBit := (x.canaryBit + 1) % 64 }
    if g.canarySees then s1.satInc R.PAIR_CANARY_PASSED else s1.feDiverge n 3 g.main g.checker

/-- Engine `n` has come to its COMMIT: a vendor program in its tick, and a user program whose word at the program counter is one (R172, R178). -/
def State.atCommit (s : State) (n : Nat) : Bool :=
  match s.loopAt n with
  | some w => bitsOf w 31 26 = 0x3E
  | none => (s.eng n).prog ≠ .user

/-- COMMIT (R151, R172, R175, R376, R380, R383): the end of the tick; a read of the tick that was answered DATA_ERR holds the gate. After cycle P − 64 it is an overrun. -/
def execCommit (n cycle : Nat) (g : GateIn) (s : State) : Out :=
  if !s.canIssue n || !s.atCommit n then .next s
  else if s.get (R.FE_TICK_PERIOD (s.timer n)) < cycle + 64 then .next ((s.loopFault n faultOverrun).abortTick n)
  else
    let e := s.eng n
    let s0 := s.loadCycle n cycle
    match gateCause { g with ueRead := g.ueRead || e.dataErr } with
    | some c =>
      let s1 := if e.faulted then s0 else s0.missTick n
      .next (((s1.feDiverge n c g.main g.checker).tlmSample n).abortTick n)
    | none =>
      let s1 := if e.faulted then s0 else s0.release n
      .next (((s1.tlmSample n).feCanary n g).abortTick n)

/-! ### Start and stop (R193) -/

/-- FE_RUN_START (R193): RUN = 1; the first tick starts at the next strobe. -/
def execFeRunStart (w : Writer) (n : Nat) (s0 : State) : Out :=
  s0.windowWrite w 0x08 fun s =>
  if s.mayWrite w 0x08 && fePresent s.part n && !s.flag (R.FE_CTRL_RUN n) then .next (s.startEngine n) else .next s

/-- RUN = 0 is taken: not while an output of the engine has its enable asserted; an engine out of service stops at once (R193). -/
def State.askStop (s : State) (n : Nat) : State :=
  if !s.flag (R.FE_CTRL_RUN n) || (!(s.engineChans n).isEmpty && (s.unitsOf n).any s.enabled) then s
  else
    let s1 := s.putB (R.FE_CTRL_RUN n) false
    if s.engineUp n then s1.modEng n fun e => { e with stopping := true } else s1.stopEngine n

/-- FE_RUN_STOP (R193): RUN = 0; no effect while an assigned output's enable is asserted. -/
def execFeRunStop (w : Writer) (n : Nat) (s0 : State) : Out :=
  s0.windowWrite w 0x08 fun s =>
  if s.mayWrite w 0x08 && fePresent s.part n then .next (s.askStop n) else .next s

/-- A write of ENTRY (R193, R252): none for a pair's secondary, whose primary's acts in both. -/
def State.entryTo (s : State) (n entry : Nat) : State := if (s.primary n).isSome then s else s.put (R.FE_CTRL_ENTRY n) entry

/-- FE_ENTRY_WRITE (R193, R252): the entry point, taken at the next cycle 0. -/
def execFeEntryWrite (w : Writer) (n entry : Nat) (s0 : State) : Out :=
  s0.windowWrite w 0x08 fun s =>
  if s.mayWrite w 0x08 && fePresent s.part n then .next (s.entryTo n entry) else .next s

/-- FE_PSTAGE_HOLD (R170): the staging transfer is held, or let go. -/
def execFePstageHold (w : Writer) (n : Nat) (hold : Bool) (s0 : State) : Out :=
  s0.windowWrite w 0x08 fun s =>
  if s.mayWrite w 0x08 && fePresent s.part n then .next (s.putB (R.FE_CTRL_PSTAGE_HOLD n) hold) else .next s

/-! ### The windows (R168, R194, R385, R439) -/

/-- Word `p` of the window of engine `n` may be written by `w` (R168). -/
def State.paramOk (s : State) (w : Writer) (n p : Nat) : Bool :=
  if 512 ≤ p || (decide (384 ≤ p) && decide (p ≤ 447)) then false
  else if 448 ≤ p then w.isWarden && !w.splitCore
  else match w with
    | .wardenA | .wardenB | .coreA0 | .coreA1 | .steward => true
    | .hostA | .hostB => s.isOwner w && !s.flag (R.FE_CTRL_RUN n)
    | .service => (s.md = .commission || s.md = .service) && !s.flag (R.FE_CTRL_RUN n)
    | .tap => false

/-- A write of one word into the parameter window: staged, and stored in COMMISSION; no effect where the word is not the writer's. -/
def State.paramTo (s : State) (w : Writer) (n p : Nat) (v : Word) : State :=
  if !s.paramOk w n p then s else if w.stores then (s.stage n p v).storeWord n p v else s.stage n p v

/-- FE_PARAM_WRITE (R168, R169, R385): the words of one beat are written from word `p` on and become active together; a split core's write to
the Landing 0 words raises 0x1009. -/
def execFeParamWrite (w : Writer) (n p : Nat) (vs : List Word) (s0 : State) : Out :=
  s0.windowWrite w 0x08 fun s =>
  if !fePresent s.part n then .next s
  else if w.splitCore && decide (448 ≤ p) && decide (p < 512) then .next (s.raise 0x1009 0 0x10)
  else .next (s.each vs.zipIdx fun t x => t.paramTo w n (p + x.2) x.1)

/-- A write into the loop store: the engine's program is the user's own from then on, and stored in COMMISSION (R194, R439). -/
def State.loopTo (s : State) (w : Writer) (n a : Nat) (v : Word) : State :=
  let s1 := s.modEng n fun e => e.patch [(a, v)]
  if w.stores && s.md = .commission && Sparse.get (always 0) s.led.stored.feLoop (1024 * n + a) ≠ v then
    State.setChanged { s1 with led.stored.feLoop := Sparse.set (always 0) s1.led.stored.feLoop (1024 * n + a) v, led.present := true }
  else s1

/-- FE_LOOP_STORE_WRITE (R194): in COMMISSION and SERVICE, while RUN = 0. -/
def execFeLoopStoreWrite (w : Writer) (n a : Nat) (v : Word) (s0 : State) : Out :=
  s0.windowWrite w 0x08 fun s =>
  if s.mayWrite w 0x08 && fePresent s.part n && decide (a < 1024) && (s.md = .commission || s.md = .service) && !s.flag (R.FE_CTRL_RUN n) then
    .next (s.loopTo w n a v)
  else .next s

end Sys2Proof.Machine
end

