-- ==== Sys2Proof/Machine/Discovery.lean ====
section
/-! DEFINITION. Discovery (04_discovery.md), and what the Wardens load into the field engines at its end (R194). -/

namespace Sys2Proof.Machine

/-! ### Programs and parameter memory (R194, R195, R227, R249, R259, R299, R317, R339) -/

/-- The vendor program that belongs on engine `n` (R195). -/
def vendorProg (n : Nat) : Prog := if n < 4 then .modulated else if n = 4 then .converter else if n = 5 then .charger else .actuator

/-- The default tick of the program on engine `n`, in CLK_FE cycles (R195). -/
def defaultTick (n : Nat) : Nat := if n = 4 then 4000 else if n = 5 then 8000 else 20000

/-- The built-in values of the traction programs (R227, R249, R259); T_SHARE by pairing. -/
def tracDefaults (paired : Bool) : List (Nat × Word) := [
  (260, 0), (268, 2), (276, 4), (284, 12), (292, 14),
  (296, fOfNat 40), (297, fOfNat 2500), (298, fOfNat 200), (299, fOfNat 100), (300, fOfRatio 5 100), (301, fOfNat 60), (302, fOfNat 100),
  (303, fOfNat 2000), (304, fOfRatio 5 10000), (308, fOfNat 5), (309, fOfRatio 2 10000), (310, fOfRatio 5 100),
  (340, fOfNat 20000), (341, fOfNat 10), (342, fOfNat 200), (343, fOne), (344, fOfRatio 96 100), (345, fOfNat 20000), (346, fOfInt (-400)),
  (347, fOfNat 5), (349, w32 4), (355, fOfRatio 1 1000), (358, if paired then fHalf else fOne),
  (360, fOfNat 2), (361, fOfNat 100), (362, fOfRatio 25 100), (363, fOfRatio 5 10000), (367, w32 10)]

/-- The built-in values of the converter program (R299). -/
def convDefaults (class48 : Bool) : List (Nat × Word) := [
  (268, 7),
  (336, fOfNat (if class48 then 48 else 14)), (337, fOfNat 2000), (338, fOfNat 1000000), (339, fOfNat 1000000000), (340, fOfRatio 1 100),
  (342, fOfRatio 9 10), (346, w32 0x6F), (347, fOfRatio 1 1000)]

/-- The built-in values of the charger program (R317). -/
def chgDefaults : List (Nat × Word) := [
  (268, 7), (276, 10), (284, 10), (292, 12),
  (352, fOne), (353, fOfNat 760), (358, fOfNat 230), (359, fOfNat 50), (360, fOfNat 16), (361, fHalf), (362, fOfRatio 2 100), (363, fOne),
  (364, fOfNat 200000)]

/-- The built-in values of the actuator program (R339). -/
def actDefaults : List (Nat × Word) :=
  [(260, w32 4), (268, w32 4), (342, w32 1), (346, fOfNat 5000), (347, w32 20), (358, w32 1), (362, fOfNat 5000), (363, w32 20),
   (368, fOfNat 2), (369, fOfNat 100), (370, fOfRatio 25 100), (371, fOfRatio 5 10000)]

/-- The built-in values of the program on engine `n`. -/
def State.defaults (s : State) (n : Nat) : List (Nat × Word) :=
  if n < 4 then tracDefaults (s.partner n).isSome
  else if n = 4 then convDefaults (s.get R.CONV_CFG_CLASS != 0)
  else if n = 5 then chgDefaults
  else actDefaults

/-- Words of the stored set for engine `n`. -/
def State.storedWords (s : State) (n : Nat) : List (Nat × Word) :=
  s.led.stored.feWords.filterMap fun x => if x.1 / 512 = n then x.2.map fun v => (x.1 % 512, v) else none

/-- Built-in values that follow a limit: N_OVER = 1.05 × N_LIM, and I_LIM = I_MAX_j (R227, R339). -/
def Engine.followers (e : Engine) (n : Nat) : List (Nat × Word) :=
  if n < 4 then [(354, fMul (fOfRatio 105 100) (e.word 451))]
  else if 6 ≤ n then [(345, e.word 448), (361, e.word 449)]
  else []

/-- A list of words entered in the active copy. -/
def Engine.fill (e : Engine) (ws : List (Nat × Word)) : Engine := ws.foldl (fun a w => a.setWord w.1 w.2) e

/-- The Wardens load the commissioned program and parameter memory of engine `n`: the built-in values, over them the parameter set (R194); the
tick is its default (R195). -/
def State.loadEngine (s : State) (n : Nat) : State :=
  let own := s.storedWords n
  let user := s.led.stored.feLoop.filterMap fun x => if x.1 / 1024 = n then some (x.1 % 1024, x.2) else none
  (s.put (R.FE_TICK_PERIOD n) (defaultTick n)).modEng n fun e =>
    let e1 := (e.fill (s.defaults n)).fill own
    let e2 := { (e1.fill (e1.followers n)).fill own with loop := [], prog := vendorProg n }
    if user.isEmpty then e2 else e2.patch user

/-- Without valid commissioning engine `n` holds its vendor program and the built-in values (R195, R467). -/
def State.loadVendor (s : State) (n : Nat) : State :=
  (s.put (R.FE_TICK_PERIOD n) (defaultTick n)).modEng n fun e =>
    let e1 := e.fill (s.defaults n)
    { e1.fill (e1.followers n) with prog := vendorProg n }

/-- Every present engine loaded, and the Wardens' limits renewed. -/
def State.loadEngines (s : State) : State := ((s.each s.engines State.loadEngine).refreshLimits).refreshHold

/-! ### Judging an item (R76, R77) -/

/-- The propagation delay of a gate driver in one edge direction, in ps: cable delay plus the nominal t_drv of the capability word;
t_pad is 5.60 ns (chapter 25). -/
def discDelay (m : DiscMeas) (k : Nat) : Nat :=
  let rt := m.more.getD k 0
  let echo := 1000 * (m.value / 256 % 256)
  let drv := 4000 * (m.value / 65536 % 256)
  (rt - echo - 5600) / 2 + drv

/-- The estimated length in mm of a gate driver's cable, from the delay of one edge direction at 5.0 ns/m (R77). -/
def discCable (m : DiscMeas) (k : Nat) : Nat := (m.more.getD k 0 - 1000 * (m.value / 256 % 256) - 5600) / 2 / 5

/-- L = V·t / Δi in nH (R78): a pulse of L_VOLT, in units of 2 V, for 4 µs, and the rise of the current in mA. -/
def pulseL (volt di : Nat) : Nat := 8000000 * volt / di

/-- What a winding test of item `n` yields (R78) at the test current and voltage of DISC_CFG: the d voltage over R_CURRENT in µΩ, Ld from one
pulse, Lq as the mean of four. -/
def State.windingValue (s : State) (n : Nat) (m : DiscMeas) : Nat :=
  let volt := s.get R.DISC_CFG_L_VOLT
  if 28 ≤ n ∨ (n - 16) % 3 = 0 then m.value / s.get R.DISC_CFG_R_CURRENT
  else if (n - 16) % 3 = 1 then pulseL volt m.value
  else ((m.more.map (pulseL volt)).foldl (· + ·) 0) / m.more.length

/-- A measurement as the record keeps it: a winding's in the item's unit. -/
def State.taken (s : State) (n : Nat) (m : DiscMeas) : DiscMeas :=
  if 16 ≤ n ∧ n ≤ 31 then { value := s.windingValue n m, more := [] } else m

/-- The VALUE of an item. A gate driver has a delay for each edge; which of them VALUE shows the spec leaves open. -/
def discValue (n : Nat) (m : DiscMeas) : Nat :=
  if 32 ≤ n ∧ n ≤ 79 then discDelay m (bit (bitOf (Config.freeWord 0x5A n) 0)) else m.value

/-- |a − b| exceeds `tol` steps of `lsb`. -/
def beyond (a b tol lsb : Nat) : Bool := decide (tol * lsb < natDist a b)

/-- Item `n` deviates from its commissioned measurement (R76). -/
def discDeviates (n tol : Nat) (m c : DiscMeas) : Bool :=
  if n ≤ 12 then beyond m.value c.value tol 2
  else if n ≤ 31 then decide (tol * c.value < 200 * natDist m.value c.value)
  else if n ≤ 79 then m.value != c.value || beyond (discDelay m 0) (discDelay c 0) tol 1000 || beyond (discDelay m 1) (discDelay c 1) tol 1000
  else if n ≤ 82 then m.value / 65536 != c.value / 65536
  else m.more != c.more || beyond m.value c.value tol 10000

/-- STATUS of item `n` in the present record (R75, R76). -/
def State.itemStatus (s : State) (n : Nat) : Nat :=
  if !itemPresent s.part n || !s.flag (R.DISC_ITEM_CFG_EN n) then 0
  else
    match Sparse.get (always none) s.disc.meas n with
    | none => 3
    | some m =>
      match Sparse.get (always none) s.led.stored.disc n with
      | none => 4
      | some c => if discDeviates n (s.get (R.DISC_ITEM_CFG_TOL n)) m c then 2 else 1

/-- The gate-driver items of every half-bridge of unit `u` are MATCH (R78). R78 speaks of a set's six half-bridges, while R196 gives a set
three, HB_3s to HB_3s+2, each with two switches: the model asks for those of the unit's own channels (DESIGN CHOICE, log 63). -/
def State.driversMatch (s : State) (u : Nat) : Bool := (s.unitChans u).all fun h => s.itemStatus (32 + h) = 1

/-- The items of the map. -/
def discItems : List Nat := List.range 96

/-- Measurements taken into the record: those of `l` whose item is present and enabled, and passes `ok`. -/
def State.takeMeas (s : State) (l : List (Nat × DiscMeas)) (ok : Nat → Bool) : State :=
  let keep := l.filter fun x => itemPresent s.part x.1 && s.flag (R.DISC_ITEM_CFG_EN x.1) && ok x.1
  { s with disc.meas := keep.foldl (fun m x => Sparse.set (always none) m x.1 (some (s.taken x.1 x.2))) s.disc.meas }

/-! ### A run (R79) -/

/-- UV clears before LINK_WAIT expires: the winding tests of the sets whose drivers match are due, and their enables are asked for
(R39, R78). -/
def State.discLink (s : State) : State :=
  if s.flag R.DISC_STATUS_BUSY && !s.flag R.SAFE_DCL_STATUS_UV && !s.disc.noLink && !s.disc.linkUp then
    { s with disc.linkUp := true }.each (s.sets.filter s.driversMatch) State.askGrant
  else s

/-- The winding tests of set `k` that its engine has finished: R at 45 ms, then Ld, then the four pulses of Lq (R78, R79). -/
def State.testsDone (s : State) (k : Nat) : Nat :=
  let t := Sparse.get (always 0) s.disc.ticks k
  if 7205 ≤ t then 3 else if 7201 ≤ t then 2 else if 7200 ≤ t then 1 else 0

/-- The capability word of half-bridge `h` is read (R204, R206): GATE_n_DELAY takes the nominal t_drv, in 4 ns, of both directions, and a driver
with echo mode is put into it for the measurement. -/
def State.readCap (s : State) (h cap : Nat) : State :=
  let fs := divNearest (cap / 65536 % 256 * 4 * 2048) 100
  let s1 := ((s.wr (R.GATE_CH_CAP h) (w32 cap)).put (R.GATE_CH_DELAY_T_ON h) fs).put (R.GATE_CH_DELAY_T_OFF h) fs
  if natBit cap 0 then s1.sendFrames h [gateFrame 1 3 1] else s1

/-- Echo mode ends, and the driver's configuration registers are written from the parameter set (R206); which of its values they are the spec does
not give, so each is a free value (log 67). -/
def State.configDriver (s : State) (h : Nat) : State :=
  s.sendFrames h (gateFrame 1 3 0 :: (List.range 59).map fun k => gateFrame 1 (k + 5) ((Config.freeWord 0x7C (64 * h + k + 5)).toNat))

/-- The runtime loads the discovery program into engine `n` and runs it at its tick of 6.25 µs (R79, R194, R195). -/
def State.discEngine (s : State) (n : Nat) : State :=
  ((((s.haltEngine n).put (R.FE_TICK_PERIOD n) 2500).put (R.FE_CTRL_ENTRY n) 0).modEng n fun e => { e with prog := .discovery }).startNow n

/-- A run begins: the items before the winding tests of the sets are measured, and actuator tests start (R79). -/
def State.discStart (s : State) (meas : List (Nat × DiscMeas)) : State :=
  let s1 := State.discTable { s.putB R.DISC_STATUS_BUSY true with disc := { s.disc with meas := [], noLink := false, linkUp := false, ticks := [] } }
  let s2 := s1.takeMeas meas fun n => !(decide (16 ≤ n) && decide (n ≤ 31))
  let s3 := s2.takeMeas meas fun n => decide (28 ≤ n) && decide (n ≤ 31) && s2.driversMatch (4 + (n - 28)) && !s2.isOut (4 + (n - 28))
  let caps := meas.filter fun x => decide (32 ≤ x.1) && decide (x.1 < 32 + nChan s.part)
  let s4 := caps.foldl (fun t x => t.readCap (x.1 - 32) x.2.value) s3
  let s5 := s4.each s4.engines State.discEngine
  (s5.each (s5.motors.filter fun m => s5.driversMatch (4 + m)) fun t m => t.askGrant (4 + m)).discLink

/-- DISCOVER_START (R79): after BOOT. `meas` holds what is measured; an item that is missing could not be measured. -/
def execDiscoverStart (meas : List (Nat × DiscMeas)) (s : State) : Out :=
  if s.md = .discover && !s.flag R.DISC_STATUS_BUSY then .next (s.discStart meas) else .next s

/-- DISC_LINK_WAIT_EXPIRY (R78): LINK_WAIT has passed with UV still set; the winding items stay NOT_MEASURED. -/
def execDiscLinkWaitExpiry (s : State) : Out :=
  if s.flag R.DISC_STATUS_BUSY && s.flag R.SAFE_DCL_STATUS_UV && !s.disc.noLink && !s.disc.linkUp then
    .next ({ s with disc.noLink := true }.raise 0x1504 0 0x15)
  else .next s

/-- One edge's delay enters GATE_n_DELAY in FS, clamped to 1,000 ns with 0x0B05 (R204, R77). -/
def State.gateDelay (s : State) (h : Nat) (m : DiscMeas) : State :=
  let fs (k : Nat) : Nat := divNearest (min 1000000 (discDelay m k) * 2048) 100000
  let s1 := (s.put (R.GATE_CH_DELAY_T_ON h) (fs 0)).put (R.GATE_CH_DELAY_T_OFF h) (fs 1)
  if 1000000 < discDelay m 0 ∨ 1000000 < discDelay m 1 then s1.raise 0x0B05 0 0x0B else s1

/-- The Edge Placer takes the measured delays (R77, R204). -/
def State.gateDelays (s : State) : State :=
  s.each s.allChans fun t h => match Sparse.get (always none) s.disc.meas (32 + h) with | some m => t.gateDelay h m | none => t

/-- DISC_ITEM_n_STAT of one item, and its record (R75, R81). A quantity beyond 24 bits shows as 2^24 − 1, and an item that was not measured
keeps the VALUE its register holds, which its record carries (DESIGN CHOICE, log 63). -/
def State.judgeItem (s : State) (n : Nat) : State :=
  let st := s.itemStatus n
  let s1 := s.put (R.DISC_ITEM_STAT_STATUS n) st
  let s2 := match Sparse.get (always none) s.disc.meas n with
    | some m => if st = 0 then s1 else s1.put (R.DISC_ITEM_STAT_VALUE n) (min (discValue n m) (2 ^ 24 - 1))
    | none => s1
  let v := w32 (s2.get (R.DISC_ITEM_STAT_VALUE n))
  if st = 2 then s2.raise 0x1501 0 0x15 (w32 n) v else if st = 3 then s2.raise 0x1502 0 0x15 (w32 n) v else s2

/-- |speed| in rad/s mechanical that a back-EMF of `mv` millivolts of set `k` corresponds to (R78): over flux and pole pairs, words 353 and
349. -/
def State.emfSpeed (s : State) (k mv : Nat) : F32 :=
  fDiv (fDiv (fOfRatio mv 1000) ((s.eng k).word 353)) (fOfNat ((s.eng k).word 349).toNat)

/-- The rotor of set `k` turns in its watch (R78). -/
def State.turns (s : State) (emf : List Nat) (k : Nat) : Bool := !fLe (s.emfSpeed k (emf.getD k 0)) s.stbySpeed

/-- The winding tests of the sets (R78, R80): measured only where drivers match, the link came up in time and the rotor rests; where a trip has
taken the set out, the tests it had finished stand and the remaining items are not measured. -/
def State.windings (s : State) (meas : List (Nat × DiscMeas)) (emf : List Nat) : State :=
  let watched (k : Nat) : Bool := s.disc.linkUp && s.driversMatch k
  let ok (n : Nat) : Bool :=
    let k := (n - 16) / 3
    decide (16 ≤ n) && decide (n ≤ 27) && watched k && !s.turns emf k && (!s.isOut k || decide ((n - 16) % 3 < s.testsDone k))
  (s.takeMeas meas ok).each (s.sets.filter fun k => watched k && s.turns emf k) fun t _ => t.raise 0x1503 0 0x15

/-- The number of items with a status. -/
def State.countStatus (s : State) (st : Nat) : Nat := (discItems.filter fun n => s.get (R.DISC_ITEM_STAT_STATUS n) = st).length

/-- An enabled item acts through POLICY bit `b` (R81). -/
def State.policyHit (s : State) (b : Nat) : Bool :=
  discItems.any fun n =>
    let st := s.get (R.DISC_ITEM_STAT_STATUS n)
    (st = 2 || st = 3) && s.bitAt (R.DISC_ITEM_CFG_POLICY n) b

/-- The block flags and DEGRADE_MARK after discovery (R81); a mark that a record set stays (R43, R45). -/
def State.discFlags (s : State) : State :=
  (((s.putB R.SYS_MODE_DRIVE_BLOCK (s.policyHit 0)).putB R.SYS_MODE_CHARGE_BLOCK (s.policyHit 1)).putB R.SYS_MODE_SUPPLY_BLOCK (s.policyHit 2)).putB
    R.SYS_MODE_DEGRADE_MARK (s.flag R.SYS_MODE_DEGRADE_MARK || s.policyHit 3)

/-- Steps 6 to 9 of R79: windings, judgement, records, delays, and the commissioned programs; SEQ_1's table returns (R362). -/
def State.discJudge (s : State) (meas : List (Nat × DiscMeas)) (emf : List Nat) : State :=
  let s1 := (s.windings meas emf).each discItems State.judgeItem
  let s2 := (s1.put R.DISC_STATUS_DEVIATIONS (s1.countStatus 2)).put R.DISC_STATUS_UNMEASURED (s1.countStatus 3)
  let s3 := (s2.putB R.DISC_STATUS_BUSY false).gateDelays.each (s2.allChans.filter fun h => s2.chanFunc h != 0) State.configDriver
  let s4 := (s3.each (s3.sets ++ s3.motors.map fun m => 4 + m) State.removeEnable).stopDiscovery
  { s4.loadEngines.commTable with disc.ran := true }

/-- DISCOVER_END (R79, R81, R82): the run ends; in DISCOVER the flags are set, DISC_COMPLETE arises and the transition to STANDBY starts;
in COMMISSION the DISC_RUN that waits completes. `meas` holds the winding tests of the sets, `emf` the back-EMF of each set's watch in mV. -/
def execDiscoverEnd (meas : List (Nat × DiscMeas)) (emf : List Nat) (s : State) : Out :=
  if !s.flag R.DISC_STATUS_BUSY then .next s
  else
    let s1 := s.discJudge meas emf
    if s.md = .discover then
      let s2 := s1.discFlags
      .next ((s2.event 0x6018 0x15 (s2.rd R.DISC_STATUS) (s2.rd R.SYS_MODE) (w32 s2.atime.toNat) (w32 0)).startTrans .standby 6 precOwn 0)
    else
      match s1.disc.op with
      | some o => if s1.live o.1 o.2 then .next ({ s1 with disc.op := none }.result o.1 o.2 3 .ok 0 false false) else .next { s1 with disc.op := none }
      | none => .next s1

/-! ### Commands (R82, R83) -/

/-- Discovery as target. -/
def discTargets : List Nat := [0x15]

/-- DISC_RUN (R82): steps 1 to 9 in COMMISSION; it completes at DISCOVER_END. While a run is in progress R82 names no status: BUSY_RETRY
(DESIGN CHOICE, log 63). -/
def execDiscRun (c : Cmd) (meas : List (Nat × DiscMeas)) (s0 : State) : Out :=
  s0.command c 0x6010 fun s =>
  if !s.targets c discTargets then refuse s c .badParam
  else if !s.modeOk 0x6010 false then refuse s c .rejectedMode
  else if s.flag R.DISC_STATUS_BUSY then refuse s c .busyRetry
  else .next ({ s.begin c with disc.op := some (c.master, c.tag) }.discStart meas)

/-- DISC_ADOPT (R82, R83): the last run's values become the commissioned record. R82 does not say what becomes of an item that the run did not
measure (EN = 0), nor what answers while a run is in progress: the record is replaced whole, and BAD_PARAM (DESIGN CHOICE, log 63). -/
def execDiscAdopt (c : Cmd) (s0 : State) : Out :=
  s0.command c 0x6011 fun s =>
  if !s.targets c discTargets then refuse s c .badParam
  else if !s.modeOk 0x6011 false then refuse s c .rejectedMode
  else if s.mramWorn 0x6011 || !s.disc.ran || s.flag R.DISC_STATUS_BUSY || discItems.any (fun n => s.itemStatus n = 3) then refuse s c .badParam
  else
    let s1 := (State.setChanged { s with led.stored.disc := s.disc.meas, led.present := true }).putB R.DISC_STATUS_REFERENCE true
    .next (s1.finish c .ok)

/-- The content of a discovery record, by item. -/
def recordContent (l : Sparse (Option DiscMeas)) : List Nat :=
  l.length :: l.foldr (fun e a => e.1 :: ((match e.2 with | some m => 1 :: m.value :: m.more.length :: m.more | none => [0]) ++ a)) []

/-- The bytes of the surroundings record and the commissioned record: a function of both, in a layout the spec does not give (log 43). -/
def State.recordBytes (s : State) (n : Nat) : List Byte :=
  bytesOfWords ((List.range n).map (Config.recordWord (recordContent s.disc.meas ++ recordContent s.led.stored.disc)))

/-- DISC_READ (R82): the surroundings record and the commissioned record to host memory. -/
def execDiscRead (c : Cmd) (s0 : State) : Out :=
  s0.command c 0x6012 fun s =>
  if !s.targets c discTargets then refuse s c .badParam
  else if !s.modeOk 0x6012 true then refuse s c .rejectedMode
  else if c.len < 4096 then refuse s c .badParam
  else .next (s.finishData c .ok (s.recordBytes 1024))

end Sys2Proof.Machine
end

