-- ==== Sys2Proof/Machine/DcLink.lean ====
section
/-! DEFINITION. The DC-link monitor, the brake chopper, the OV3 latch and the safe-state selector (14_dc_link_stopping.md). -/

namespace Sys2Proof.Machine

/-! ### The chopper (R286-R288) -/

/-- The chopper channel (R196). -/
def State.chopChan (s : State) : Option Nat := s.allChans.find? fun h => s.chanFunc h = 5

/-- Microseconds of chopper on-time in the sliding second (R287). -/
def State.chopSum (s : State) : Nat :=
  let past := s.dcl.chopTimes.foldl (fun n p => n + min (s.since p.1 - s.since p.2) (1000000 - s.since p.2)) 0
  past + (match s.dcl.chopSince with | some t => min 1000000 (s.since t) | none => 0)

/-- The chopper's lines allow it to switch (R197, R286). -/
def State.chopLines (s : State) : Bool := (s.padForce unitConv).isNone && !s.flag R.SAFE_DCL_STATUS_CHOP_HELD

/-- The chopper switch is commanded on or off: CHOP_ON, its pad, and the account of its on-time. -/
def State.setChop (s : State) (on : Bool) : State :=
  if on = s.flag R.SAFE_DCL_STATUS_CHOP_ON then s
  else
    let s1 := s.putB R.SAFE_DCL_STATUS_CHOP_ON on
    let times := match s.dcl.chopSince with | some t => s.dcl.chopTimes ++ [(t, s.atime)] | none => s.dcl.chopTimes
    let s2 := { s1 with dcl.chopAge := 0, dcl.chopSince := if on then some s.atime else none
                        dcl.chopTimes := times.filter fun p => decide (s.since p.2 < 1000000) }
    match s2.chopChan with
    | some h => (s2.setChan h { s2.chan h with cmdHigh := on, taken := true }).refreshChan h
    | none => s2

/-- Monitor samples of 100 ns that make up DT + MIN_PULSE of the chopper channel (R286): 2,048 FS each. -/
def State.chopMin (s : State) : Nat :=
  match s.chopChan with | some h => (s.deadTime h + s.minPulse h + 2047) / 2048 | none => 0

/-- The on-time of the last second exceeds BUDGET (R287). -/
def State.chopOver (s : State) : Bool := decide (1000 * s.get R.SAFE_DCL_CHOP_BUDGET < s.chopSum)

/-- The chopper is held off while its on-time exceeds BUDGET, with 0x1115 once per hold (R287). -/
def State.chopHold (s : State) : State :=
  if s.flag R.SAFE_DCL_STATUS_CHOP_HELD || !s.chopOver then s
  else ((s.putB R.SAFE_DCL_STATUS_CHOP_HELD true).setChop false).raise 0x1115 0 0x11

/-- The chopper at a monitor sample (R286, R287, R292): its wish, its hold, and the switch. -/
def State.chopSample (s : State) (code : Nat) : State :=
  let ov1 := s.get R.SAFE_DCL_THR_A_OV1
  let want := if ov1 ≤ code then true else if code + s.get R.SAFE_DCL_CFG_HYST < ov1 then false else s.dcl.chopWant
  let s0 := { s with dcl.chopWant := want, dcl.chopAge := s.dcl.chopAge + 1 }
  let s1 := if s0.flag R.SAFE_DCL_STATUS_CHOP_HELD && !s0.dcl.chopFault && !s0.chopOver
            then s0.putB R.SAFE_DCL_STATUS_CHOP_HELD false else s0.chopHold
  let on := s1.chopLines && ((s1.flag R.SAFE_DCL_CHOP_EN && want) || s1.dcl.discharge.isSome)
  if s1.chopMin ≤ s1.dcl.chopAge || !s1.chopLines then s1.setChop on else s1

/-- CHOPPER_BUDGET (R287): the on-time of the last second exceeds BUDGET. -/
def execChopperBudget (s : State) : Out := .next (s.onlyIf s.running State.chopHold)

/-! ### Events of the link (R291) -/

/-- The flags DCL_STATE tells of: UV, OV2, OV3_LATCH, CHOP_FAULT. -/
def State.dclFlag (s : State) (k : Nat) : Bool :=
  match k with
  | 0 => s.flag R.SAFE_DCL_STATUS_UV
  | 1 => s.flag R.SAFE_DCL_STATUS_OV2
  | 2 => s.flag R.SAFE_DCL_STATUS_OV3_LATCH
  | _ => s.flag R.SAFE_DCL_STATUS_CHOP_FAULT

/-- The values told before any event: those of reset. -/
def dclTold (k : Nat) : Bool := k == 0

/-- DCL_STATE for each flag that has changed since it was last told, at most every 10 ms per flag (R291). -/
def State.dclTell (s : State) : State :=
  s.each (List.range 4) fun t k =>
    let v := t.dclFlag k
    let late := match Sparse.get (always none) t.dcl.toldAt k with | some a => decide (10000 ≤ t.since a) | none => true
    if v = Sparse.get dclTold t.dcl.told k || !late then t
    else
      ({ t with dcl.told := Sparse.set dclTold t.dcl.told k v, dcl.toldAt := Sparse.set (always none) t.dcl.toldAt k (some t.atime) }).event
        0x1010 0x11 (t.rd R.SAFE_DCL_STATUS) (w32 (t.get R.SAFE_DCL_STATUS_VALUE * t.get R.SAFE_DCL_CFG_LSB_MV))

/-! ### Thresholds (R283) -/

/-- UV at a sample: it sets below UV and clears above UV + HYST; each change renews the limits. -/
def State.uvSample (s : State) (code : Nat) : State :=
  let thr := s.get R.SAFE_DCL_THR_B_UV
  let old := s.flag R.SAFE_DCL_STATUS_UV
  let new := if code < thr then true else if thr + s.get R.SAFE_DCL_CFG_HYST < code then false else old
  if new = old then s
  else
    let s1 := ((s.putB R.SAFE_DCL_STATUS_UV new).refreshLimits).discLink
    if new && (s.md = .drive || s.md = .degraded) then s1.raise 0x1114 0 0x11
    else if new && s.md = .supply && decide (1 ≤ s.chg.sup) && decide (s.chg.sup ≤ 3) then s1.supplyStop
    else s1

/-- OV2 at a sample: past it T_GEN_MAX goes to zero and stays there until OV2_RESTORE. -/
def State.ov2Sample (s : State) (code : Nat) : State :=
  let thr := s.get R.SAFE_DCL_THR_A_OV2
  let s1 := s.putB R.SAFE_DCL_STATUS_OV2 (decide (thr < code))
  let s2 := if thr ≤ code + s.get R.SAFE_DCL_CFG_HYST then { s1 with dcl.ov2At := s1.atime } else s1
  if thr < code && !s2.dcl.ov2Hold then ({ s2 with dcl.ov2Hold := true }.refreshLimits).raise 0x1111 0 0x11 else s2

/-- OV3 at a sample: after OV3_N samples beyond it the latch sets and forces ASC on traction and actuator channels and STO on the charger. -/
def State.ov3Sample (s : State) (code : Nat) : State :=
  let run := if s.get R.SAFE_DCL_THR_B_OV3 < code then s.dcl.ov3Run + 1 else 0
  let s1 := { s with dcl.ov3Run := run }
  if max 1 (s.get R.SAFE_DCL_CFG_OV3_N) ≤ run && !s.flag R.SAFE_DCL_STATUS_OV3_LATCH then
    ((s1.putB R.SAFE_DCL_STATUS_OV3_LATCH true).refreshAll).raise 0x1110 2 0x11
  else s1

/-- A discharge at a sample (R292): OK below its target, PARTIAL without a 10 % fall in 100 ms. -/
def State.dischargeSample (s : State) (code : Nat) : State :=
  match s.dcl.discharge with
  | none => s
  | some (m, tag, target, start, at_) =>
    let v := s.linkVolts code
    let done (st : Status) : State := ({ s with dcl.discharge := none }).result m tag 3 st v.toNat false false
    if fLt v target then done .ok
    else if 100000 ≤ s.since at_ && fLt (fMul (fOfRatio 9 10) start) v then done .partialDone
    else s

/-- The charger's battery check at a sample (R331). -/
def State.battSample (s : State) (code : Nat) : State :=
  let on := s.md = .charge && decide (1 ≤ s.chg.hv.phase) && decide (s.chg.hv.phase ≤ 4) && !s.chg.padsLow && s.enabled unitCharger
  let run := if on && decide (s.get R.CHG_OVP_CODE ≤ code) then s.dcl.battRun + 1 else 0
  let s1 := { s with dcl.battRun := run }
  if 2 ≤ run then { s1 with dcl.battRun := 0 }.batteryLost else s1

/-- DCL_MONITOR_SAMPLE (R280, R283, R286, R331): one conversion of the monitor, every 100 ns. -/
def execDclMonitorSample (code : Nat) (s : State) : Out :=
  if !s.running then .next s
  else
    let c := code % 4096
    let s1 := (s.put R.SAFE_DCL_STATUS_VALUE c).putB R.SAFE_DCL_STATUS_OV1 (decide (s.get R.SAFE_DCL_THR_A_OV1 < c))
    .next (((((((s1.uvSample c).ov2Sample c).ov3Sample c).dischargeSample c).chopSample c).battSample c).dclTell)

/-- OV2_RESTORE (R283): the link has stayed below OV2 − HYST for 10 ms; the limits return. -/
def execOv2Restore (s : State) : Out :=
  let low := decide (s.get R.SAFE_DCL_STATUS_VALUE + s.get R.SAFE_DCL_CFG_HYST < s.get R.SAFE_DCL_THR_A_OV2)
  if s.dcl.ov2Hold && low && decide (10000 ≤ s.since s.dcl.ov2At) then .next { s with dcl.ov2Hold := false }.refreshLimits else .next s

/-- DCL_MON_COMPARE (R282): the monitor against sequenced channel 95; ten differences in a row raise 0x1116. -/
def execDclMonCompare (s : State) : Out :=
  if !s.running then .next s
  else
    let v := s.linkVolts (s.get R.SAFE_DCL_STATUS_VALUE)
    let x := ((s.eng 0).sample 0x6F).1
    let tol := fAdd (fMul (fOfRatio 2 100) v) (s.linkVolts 4)
    let n := if fLt tol (fAbs (fSub v x)) then s.dcl.mismatch + 1 else 0
    let s1 := { s with dcl.mismatch := n }
    .next (if n = 10 then s1.raise 0x1116 2 0x11 else s1)

/-! ### The selector and the latch (R285, R289, R290) -/

/-- E of a set (R289). -/
def State.selE (s : State) (n : Nat) : F32 :=
  let e := s.eng n
  fMul (fMul (fMul fRoot3 (e.word 353)) (fAbs (e.seen 385))) (fOfNat (e.word 349).toNat)

/-- The selector's choice for set `n`: ASC (true), STO, or what it was (R289). -/
def State.selChoice (s : State) (n : Nat) : Bool :=
  let old := s.selAsc n
  if (s.tr n).est.st = estFailed || !Sparse.get (always false) s.dcl.tracked n then old
  else
    let v := s.linkVolts (s.get R.SAFE_DCL_STATUS_VALUE)
    let sp := fAbs ((s.eng n).seen 385)
    let k := s.get R.SAFE_SEL_CFG_K
    let nm := fOfNat (s.get R.SAFE_SEL_CFG_N_MIN)
    let ee := s.selE n
    if fLe (fMul (fOfRatio k 256) v) ee && fLe nm sp then true
    else if fLt ee (fMul (fOfRatio (k - s.get R.SAFE_SEL_CFG_HYST_K) 256) v) || fLt sp (fSub nm (fOfNat 5)) then false
    else old

/-- A set that is out of operation follows the choice on the lines of each pair that forces it (R290). -/
def State.followChoice (s : State) (n : Nat) (asc : Bool) : State :=
  let f (l : Lines) : Lines := if l.forceAsc || l.forceSto then { l with forceAsc := asc, forceSto := !asc } else l
  let s1 := s.setLines 0 n (f (s.lines 0 n))
  (s1.setLines 1 n (f (s1.lines 1 n))).refreshUnit n

/-- SELECTOR_EVALUATION (R66, R289, R290, R291): every set is judged; its choice is mirrored into the safe-state latch, and a change is told
and followed on the Banister lines of a set that is out of operation. -/
def execSelectorEvaluation (s : State) : Out :=
  if !s.running || s.pairsLost then .next s
  else
    .next (s.each s.sets fun t n =>
      let c := t.selChoice n
      let t0 := { t with pwr.latchAsc := natSetBit t.pwr.latchAsc n c }
      if c = t.selAsc n then t0
      else
        let t1 := (t0.putBit R.SAFE_SEL_STATE_ASC n c).event 0x1011 0x11 (w32 n) (w32 (bit c)) (t.selE n)
        if t1.isOut n || t1.tableForces 0 n || t1.tableForces 1 n then t1.followChoice n c else t1)

/-- The OV3 latch is released by the Wardens (R285): only below OV1 − HYST; first the selector's state of each set stands on the Banister. -/
def State.ov3Release (s : State) : State :=
  let low := decide (s.get R.SAFE_DCL_STATUS_VALUE + s.get R.SAFE_DCL_CFG_HYST < s.get R.SAFE_DCL_THR_A_OV1)
  if !s.flag R.SAFE_DCL_STATUS_OV3_LATCH || !low || s.pairsLost then s
  else
    let s1 := s.each s.sets State.takeOut
    let s2 := s1.each s1.motors fun t m => t.removeEnable (4 + m)
    ((s2.removeEnable unitCharger).putB R.SAFE_DCL_STATUS_OV3_LATCH false).refreshAll.dclTell

/-- OV3_LATCH_RELEASE (R285). -/
def execOv3LatchRelease (s : State) : Out := if s.running then .next s.ov3Release else .next s

/-! ### Commands (R292) -/

/-- The DC link as target. -/
def dclTargets : List Nat := [0x11]

/-- DCL_QUERY. -/
def execDclQuery (c : Cmd) (s0 : State) : Out :=
  s0.command c 0x0130 fun s =>
  if !s.targets c dclTargets then refuse s c .badParam
  else if !s.modeOk 0x0130 true then refuse s c .rejectedMode
  else .next (s.finish c .ok (pair64 (s.rd R.SAFE_DCL_STATUS).toNat (s.rd R.SAFE_SEL_STATE).toNat))

/-- DCL_DISCHARGE (Class B): the chopper held on until the link is below the target. -/
def execDclDischarge (c : Cmd) (s0 : State) : Out :=
  s0.command c 0x0131 fun s =>
  if !s.targets c dclTargets then refuse s c .badParam
  else if !(s.md = .standby || s.md = .service || s.md = .safeStop) then refuse s c .rejectedMode
  else if short c 4 || !fFinite (argW c 16) then refuse s c .badParam
  else if s.dcl.discharge.isSome then refuse s c .busyRetry
  else .next { s.begin c with dcl.discharge := some (c.master, c.tag, argW c 16, s.linkVolts (s.get R.SAFE_DCL_STATUS_VALUE), s.atime) }

/-- A discharge in progress ends with a status; its result gives the present voltage (R48, R121). -/
def State.endDischarge (s : State) (st : Status) : State :=
  match s.dcl.discharge with
  | none => s
  | some (m, tag, _, _, _) =>
    ({ s with dcl.discharge := none }).result m tag 3 st (s.linkVolts (s.get R.SAFE_DCL_STATUS_VALUE)).toNat false false

/-- A chopper test with its drop in codes and a driver fault (R208, R288): whether it passed, and what it leaves. -/
def State.chopTest (s : State) (drop : Nat) (fault : Bool) : State × Bool :=
  let pass := decide (s.get R.SAFE_DCL_CHOP_TEST_DV ≤ drop) && !fault
  let s1 := { s with dcl.chopTimes := s.dcl.chopTimes ++ [(s.atime, s.atime + 20)] }
  if pass then
    let clear := match s1.chopChan with | some h => !s1.flag (R.GATE_CH_STAT_FAULT_LATCH h) | none => true
    ({ s1.putB R.SAFE_DCL_STATUS_CHOP_FAULT false with dcl.chopFault := s1.dcl.chopFault && !clear }.dclTell, true)
  else (((s1.putB R.SAFE_DCL_STATUS_CHOP_FAULT true).raise 0x1113 0 0x11).dclTell, false)

/-- CHOP_TEST: the test of R288, which runs only above UV; below it the command waits, up to its time limit (log 40). -/
def execChopTest (c : Cmd) (drop : Nat) (fault : Bool) (s0 : State) : Out :=
  s0.command c 0x0132 fun s =>
  if !s.targets c dclTargets then refuse s c .badParam
  else if s.md = .drive || s.md = .degraded || s.md = .charge || s.md = .supply || !s.modeOk 0x0132 false then refuse s c .rejectedMode
  else if s.flag R.SAFE_DCL_STATUS_UV then .next s
  else
    let r := s.chopTest drop fault
    .next (r.1.finish c .ok (bit r.2))

end Sys2Proof.Machine
end

