-- ==== Sys2Proof/Machine/Tally.lean ====
section
/-! DEFINITION. Tally: PDUs, their judgement and transmission, and the commands (R411-R426, 21_tally.md). -/

namespace Sys2Proof.Machine

/-! ### The PDU (R413, R414) -/

/-- One bit step of the reflected CRC-32C register. -/
def crcBit (c : Word) : Word := if c.getLsbD 0 then (c >>> 1) ^^^ 0x82F63B78#32 else c >>> 1

/-- One byte folded into the register. -/
def crcByte (c : Word) (b : Byte) : Word :=
  crcBit (crcBit (crcBit (crcBit (crcBit (crcBit (crcBit (crcBit (c ^^^ b.setWidth 32))))))))

/-- CRC-32C from a seed, with the final XOR of all ones (R414). -/
def crc32c (seed : Word) (bs : List Byte) : Word := bs.foldl crcByte seed ^^^ 0xFFFFFFFF#32

/-- A PDU (R413). -/
def pduBytes (identity : Word) (sq stamp : Nat) (payload : List Byte) : List Byte :=
  let body := [0x11#8, BitVec.ofNat 8 payload.length] ++ leBytes 2 sq ++ leBytes 4 stamp ++ payload
  body ++ wordBytes (crc32c identity body)

/-- Checks 1 and 2 of R416 on a frame of connection `c`: the CAUSE of a failure, or SEQ, STAMP and the payload. -/
def State.pduOf (s : State) (c : Nat) (bs : List Byte) : Nat ⊕ (Nat × Nat × List Byte) :=
  let n := s.get (R.TALLY_CONN_CFG_LEN c)
  if decide (bs.length < 12 + n) || fieldAt bs 0 1 ≠ 0x11 || fieldAt bs 1 1 ≠ n then .inl 5
  else if (crc32c (s.rd (R.TALLY_CONN_ID c)) (bs.take (8 + n))).toNat ≠ fieldAt bs (8 + n) 4 then .inl 1
  else .inr (fieldAt bs 2 2, fieldAt bs 4 4, (bs.drop 8).take n)

/-- Check 4 (R418) fails: the age lies outside −CLK_TOL to T_MAX. -/
def State.tooOld (s : State) (c stamp : Nat) (arrival : Time) : Bool :=
  let a := signedOf 32 ((arrival.toNat + 2 ^ 32 - stamp) % 2 ^ 32)
  decide (10 * Int.ofNat (s.get (R.TALLY_CONN_TIME_T_MAX c)) < a) || decide (a < -Int.ofNat (s.get R.TALLY_CFG_CLK_TOL))

/-! ### Judgement (R416-R422) -/

/-- Entry to SAFE (R421): fail-safe data and the count of both; the shown pair's entry raises the record, unless it comes from RESTART,
and takes REACT's action. -/
def State.tallyFail (s : State) (k c cause : Nat) : State :=
  let r := s.rx k c
  let s1 := s.tallySet k c { r with st := tallySafe, cause := cause, fails := min (r.fails + 1) 0xFF, run := 0,
                                    data := List.replicate (s.get (R.TALLY_CONN_CFG_LEN c)) 0 }
  if k ≠ s.tallyPair then s1
  else
    let told := r.st = tallyRestart
    let s2 := if told then s1 else s1.raise 0x1201 0 0x12 (w32 c) (w32 cause)
    match s.get (R.TALLY_CONN_CFG_REACT c) with
    | 1 => s2.trigger 0 precStop 0
    | 2 => if told then s2 else s2.raise 0x1202 1 0x12
    | _ => s2

/-- The watchdog's limit in µs (R419). -/
def State.tallyWd (s : State) (c : Nat) : Nat := 10 * s.get (R.TALLY_CONN_TIME_WD_TIME c)

/-- A PDU in SAFE (R420, R421): with AUTO = 1 the first one that passes checks 1, 2 and 4 leads to RESTART; every other is ignored. -/
def State.judgeSafe (s : State) (k c : Nat) (bs : List Byte) (at_ : Time) : State :=
  let r := s.rx k c
  let skip := s.tallySet k c { r with ignored := min (r.ignored + 1) 0xFFFF }
  match s.pduOf c bs with
  | .inl _ => skip
  | .inr (sq, stamp, _) =>
    if s.flag (R.TALLY_CONN_CFG_AUTO c) && !s.tooOld c stamp at_ then
      s.tallySet k c { r with st := tallyRestart, seq := (sq + 1) % 65536, run := 0 }
    else skip

/-- A PDU is accepted (R416, R417, R420). `gap` is how many numbers it skipped in RUN. -/
def State.tallyAccept (s : State) (k c gap sq : Nat) (payload : List Byte) (at_ : Time) : State :=
  let r := { s.rx k c with seq := (sq + 1) % 65536 }
  if r.st = tallyRestart ∧ r.run + 1 < s.get (R.TALLY_CONN_CFG_AUTO_N c) then s.tallySet k c { r with run := r.run + 1 }
  else s.tallySet k c { r with st := tallyRun, run := 0, lost := min (r.lost + gap) 0xFFFF, data := payload, last := at_ }

/-- A PDU in WAIT, RUN or RESTART: the checks of R416 in their order. -/
def State.judgeOpen (s : State) (k c : Nat) (bs : List Byte) (at_ : Time) : State :=
  match s.pduOf c bs with
  | .inl cause => s.tallyFail k c cause
  | .inr (sq, stamp, payload) =>
    let r := s.rx k c
    let gap := if r.st = tallyRun then (sq + 65536 - r.seq) % 65536 else 0
    if s.get (R.TALLY_CONN_CFG_WINDOW c) < gap then s.tallyFail k c 2
    else if s.tooOld c stamp at_ then s.tallyFail k c 3
    else s.tallyAccept k c gap sq payload at_

/-- Pair `k` judges one frame (R416, R419, R422): an arrival past the deadline finds the connection in SAFE already, and a frame
with an uncorrectable word is discarded (R151). -/
def State.judgeFrame (s : State) (k : Nat) (f : TallyFrame) : State :=
  let c := f.conn
  match s.readStall f.stall f.len with
  | (t, none) => t
  | (t, some bs) =>
    let r := t.rx k c
    if r.st = tallyClosed then t
    else
      let s1 := if r.st = tallyRun ∧ t.tallyWd c < (f.at_ - r.last).toNat then t.tallyFail k c 4 else t
      if (s1.rx k c).st = tallySafe then s1.judgeSafe k c bs f.at_ else s1.judgeOpen k c bs f.at_

/-- A frame that pair `k` has judged. -/
def TallyFrame.judged (f : TallyFrame) (k : Nat) : Bool := if k = 0 then f.doneA else f.doneB
def TallyFrame.mark (f : TallyFrame) (k : Nat) : TallyFrame := if k = 0 then { f with doneA := true } else { f with doneB := true }

/-- Frames that every in-service pair has judged give their stalls back (R146). -/
def State.tallyFree (s : State) : State :=
  let exceeds (f : TallyFrame) : Bool := (!s.inService 0 || f.doneA) && (!s.inService 1 || f.doneB)
  let gone := s.tally.frames.filter exceeds
  ({ s with tally.frames := s.tally.frames.filter fun f => !exceeds f }).each gone fun t f => t.freeStall f.chan f.stall

/-- The deadline of connection `c` has passed in RUN with no acceptance, and no frame that pair `k` has yet to judge came before it
(R419). -/
def State.tallyLate (s : State) (k c : Nat) : Bool :=
  let r := s.rx k c
  let inTime (f : TallyFrame) : Bool := f.conn = c && !f.judged k && decide ((f.at_ - r.last).toNat ≤ s.tallyWd c)
  r.st = tallyRun && !s.transmits c && decide (s.tallyWd c < s.since r.last) && !s.tally.frames.any inTime

/-- The watchdog of connection `c` at a scan of pair `k` (R419). -/
def State.tallyDeadline (s : State) (k c : Nat) : State := if s.tallyLate k c then s.tallyFail k c 4 else s

/-- The Tally part of a scan of pair `k`: the waiting frames in arrival order (R416), then the deadlines (R419). -/
def State.tallyScan (s : State) (k : Nat) : State :=
  let mine := s.tally.frames.filter fun f => !f.judged k
  let s1 := s.each mine fun t f => t.judgeFrame k f
  (({ s1 with tally.frames := s1.tally.frames.map fun (f : TallyFrame) => f.mark k }).each tallyConns
    fun t c => t.tallyDeadline k c).tallyFree

/-- TALLY_WATCHDOG_EXPIRY (R419): what the scan of pair `pair` decides on the deadline of connection `c`, for that connection alone. -/
def execTallyWatchdogExpiry (pair c : Nat) (s : State) : Out :=
  if s.running && s.md.fromDiscover && s.inService pair && decide (pair < 2) && decide (c < 32) then .next (s.tallyDeadline pair c)
  else .next s

/-! ### Carriage (R415) -/

/-- The Market channel of a PATH (R142, R415). -/
def pathChan (path : Nat) : Nat := if path < 6 then 32 + path else if path < 0x13 then 40 + (path - 0x10) else 44 + (path - 0x20)

/-- A PATH names a transport the part has. -/
def State.pathOk (s : State) (path : Nat) : Bool :=
  decide (path < 6) || (decide (0x10 ≤ path) && decide (path < 0x13)) || path == 0x20 ||
    (s.part = .elx9460 && (path == 0x21 || path == 0x22))

/-- The tag that a transport compares: on CAN with XTD, elsewhere 16 bits. -/
def State.tallyTag (s : State) (c path : Nat) : Bool × Nat :=
  let t := s.get (R.TALLY_CONN_TAG_TAG c)
  let x := s.flag (R.TALLY_CONN_TAG_XTD c)
  if path < 6 then (x, if x then t else t % 2048) else (false, t % 65536)

/-- An enabled receiving connection with a PATH. -/
def State.receivesOn (s : State) (c path : Nat) : Bool :=
  s.flag (R.TALLY_CONN_CFG_EN c) && !s.transmits c && s.get (R.TALLY_CONN_CFG_PATH c) == path

/-- The connection a frame's tag selects. -/
def State.tallyMatch (s : State) (path tag : Nat) (xtd : Bool) : Option Nat :=
  tallyConns.find? fun c => s.receivesOn c path && s.tallyTag c path = (xtd, tag)

/-- Some enabled connection names the PATH (R448). -/
def State.tallyNames (s : State) (path : Nat) : Bool :=
  tallyConns.any fun c => s.flag (R.TALLY_CONN_CFG_EN c) && s.get (R.TALLY_CONN_CFG_PATH c) == path

/-- TALLY_FRAME_ARRIVAL (R415): a frame for connection `c` is stamped and placed in a stall; a refused one is lost. -/
def State.tallyArrive (s : State) (c path : Nat) (bs : List Byte) : State :=
  let ch := pathChan path
  match s.takeStall ch with
  | (t, none) => t
  | (t, some n) =>
    let t1 := t.fillStall n bs
    { t1 with tally.frames := t1.tally.frames ++
        [{ conn := c, at_ := t1.atime, chan := ch, stall := n, len := min bs.length 512, doneA := false, doneB := false }] }

/-! ### Transmitting (R424) -/

/-- A Gallery Link frame (R454): class, HOPS, DST, SRC, SEQ and payload; the seed of its CRC-32C is the usual all ones (log 50). -/
def glFrame (cls hops dst src sq : Nat) (payload : List Byte) : List Byte :=
  let body := [BitVec.ofNat 8 (0x10 + cls), BitVec.ofNat 8 hops, BitVec.ofNat 8 dst, BitVec.ofNat 8 src] ++ leBytes 2 payload.length ++
    leBytes 2 sq ++ List.replicate 8 0#8 ++ payload
  body ++ wordBytes (crc32c 0xFFFFFFFF#32 body)

/-- A frame of this source with HOPS = HOPS_MAX (R455). -/
def State.glOwn (s : State) (cls dst : Nat) (payload : List Byte) : List Byte :=
  glFrame cls (s.get R.LINK_GL_CFG_HOPS_MAX) dst (s.get R.LINK_GL_CFG_ADDR) s.net.glSeq payload

/-- The link of a transport carries frames: a trained Gallery Link port (R454), or a MAC with its link up; CAN waits in its queue. -/
def State.pathUp (s : State) (path : Nat) : Bool :=
  if path < 6 then true
  else if path < 0x20 then s.bitAt R.LINK_STATUS_ETH_UP (path - 0x10)
  else decide (path - 0x20 < nGl s.part) && s.bitAt R.LINK_STATUS_GL_UP (path - 0x20)

/-- A frame goes out on its transport; a CAN controller in bus-off keeps it queued (R451), and a link that is down loses it. -/
def State.sendFrame (s : State) (f : OutFrame) : State :=
  if !s.pathUp f.path then s
  else if f.path < 6 && s.flag (R.LINK_CAN_STAT_BUS_OFF f.path) then
    { s with net.canQueue := Sparse.set (always []) s.net.canQueue f.path (Sparse.get (always []) s.net.canQueue f.path ++ [f]) }
  else { s with net.sent := s.net.sent ++ [f] }

/-- A window of pair `k` compares equal: the frames that its Turnstile holds go out in order (R378, R424). -/
def State.releaseFrames (s : State) (k : Nat) : State :=
  let l := s.net.turnstile.filter fun e => e.1 = k
  ({ s with net.turnstile := s.net.turnstile.filter fun e => e.1 ≠ k }).each l fun t e => t.sendFrame e.2

/-- The owner's image of connection `c`: 48 bytes, zero until they are written. -/
def State.txImage (s : State) (c : Nat) : List Byte := ((s.tx c).image ++ List.replicate 48 (0 : Byte)).take 48

/-- The payload of the next PDU of connection `c` (R424). -/
def State.txPayload (s : State) (c : Nat) : List Byte :=
  let n := s.get (R.TALLY_CONN_CFG_LEN c)
  if s.flag (R.TALLY_CONN_CFG_SRC c) then
    (bytesOfWords [s.rd R.SAFE_SIN_STATUS, s.rd R.SAFE_SOUT_STATUS, s.rd R.SYS_MODE, s.rd R.SAFE_SEL_STATE, s.rd R.TALLY_STATUS] ++
      (s.txImage c).drop 20).take n
  else (s.txImage c).take n

/-- The next PDU of connection `c` falls due at a scan of the building pair (R411, R424). -/
def State.tallyDue (s : State) (c : Nat) : Bool :=
  s.running && s.md.fromDiscover && s.transmits c && s.flag (R.TALLY_CONN_CFG_EN c) && s.inService s.tallyPair &&
    (s.rx s.tallyPair c).st = tallyRun && decide ((s.tx c).due.toNat ≤ s.atime.toNat)

/-- Data bytes of a CAN FD frame that holds `n` (ISO 11898-1; PRESUMED, log 70). -/
def canFdLen (n : Nat) : Nat := ([8, 12, 16, 20, 24, 32, 48, 64].find? fun l => decide (n ≤ l)).getD n

/-- A PDU as its transport carries it (R415): padded with zeros on CAN, and in a frame of the Tally class on Gallery Link, whose DST no
rule gives (free, log 70). -/
def State.carry (s : State) (c path : Nat) (pdu : List Byte) : List Byte :=
  if path < 6 then pdu ++ List.replicate (canFdLen pdu.length - pdu.length) 0#8
  else if path < 0x20 then pdu
  else s.glOwn 1 ((Config.freeWord 0x67 c).toNat % 256) pdu

/-- The frame of the next PDU of connection `c` (R413, R415, R424). -/
def State.tallyFrame (s : State) (c : Nat) : OutFrame :=
  let path := s.get (R.TALLY_CONN_CFG_PATH c)
  { path := path, what := 0, tag := (s.tallyTag c path).2,
    bytes := s.carry c path (pduBytes (s.rd (R.TALLY_CONN_ID c)) (s.tx c).seq (s.atime.toNat % 2 ^ 32) (s.txPayload c)) }

/-- What a Tally frame on its way counts: SEQ of Gallery Link, for a frame that goes there (R454). -/
def State.glCount (s : State) (path : Nat) : State :=
  if path < 0x20 then s else { s with net.glSeq := (s.net.glSeq + 1) % 65536 }

/-- ADDR 0x00 and 0xFF disable classes 1 and 2 of Gallery Link. -/
def State.glOff (s : State) (path : Nat) : Bool :=
  decide (0x20 ≤ path) && (s.get R.LINK_GL_CFG_ADDR = 0 || s.get R.LINK_GL_CFG_ADDR = 0xFF)

/-- TALLY_TRANSMIT (R424): a PERIOD of connection `c` falls due; the frame waits in the Turnstile of the pair that built it. -/
def execTallyTransmit (c : Nat) (s : State) : Out :=
  if decide (c < 32) && s.tallyDue c then
    let t := s.tx c
    let s1 := s.setTx c { t with seq := (t.seq + 1) % 65536, due := t.due + BitVec.ofNat 64 (s.tallyWd c) }
    let path := s.get (R.TALLY_CONN_CFG_PATH c)
    let s2 := if s.glOff path then s1 else { s1 with net.turnstile := s1.net.turnstile ++ [(s.tallyPair, s.tallyFrame c)] }.glCount path
    .next (s2.tallyShow c)
  else .next s

/-! ### Configuration (R420) -/

/-- A write of EN = 1 is refused (R420): `v` carries the fields as they would stand. -/
def State.tallyRefused (s : State) (c : Nat) (v : Word) : Bool :=
  let ident := s.rd (R.TALLY_CONN_ID c)
  let path := bitsOf v 22 16
  decide (ident = 0) || decide (ident = 0xFFFFFFFF) || !s.pathOk path || (bitOf v 23 && decide (bitsOf v 7 0 < 20)) ||
    tallyConns.any fun o => decide (o ≠ c) && s.receivesOn o path && s.tallyTag o path = s.tallyTag c path

/-- The fields of TALLY_CONN_c_CFG that a write of `v` may change: REACT 11, AUTO_N 0 and a LEN above 48 leave their field (R421). -/
def tallyFieldOk (c : Nat) (v : Word) (fd : FieldDef) : Bool :=
  if fd.is (R.TALLY_CONN_CFG_REACT c) then fd.val v ≠ 3
  else if fd.is (R.TALLY_CONN_CFG_AUTO_N c) then fd.val v ≠ 0
  else if fd.is (R.TALLY_CONN_CFG_LEN c) then decide (fd.val v ≤ 48)
  else true

/-- A write of TALLY_CONN_c_CFG by a writer with the right, in COMMISSION or by the Wardens at BOOT (R420, R464, R467). -/
def State.tallyCfgPut (s : State) (c : Nat) (v : Word) : State :=
  let s1 := (s.fieldsAt (R.TALLY_CONN_CFG c)).foldl
    (fun (t : State) fd => if tallyFieldOk c v fd then t.writeField (R.TALLY_CONN_CFG c) v fd else t) s
  if s1.flag (R.TALLY_CONN_CFG_EN c) && (s1.putB (R.TALLY_CONN_CFG_EN c) false).tallyRefused c (s1.rd (R.TALLY_CONN_CFG c)) then
    (s1.putB (R.TALLY_CONN_CFG_EN c) false).putB R.TALLY_CFG_CFG_ERR true
  else s1

/-- A write of TALLY_CONN_c_CFG (R420, R439, R464). -/
def State.tallyWrite (s : State) (w : Writer) (c : Nat) (v : Word) : State :=
  if s.mayWrite w 0x12 && decide (c < 32) && s.md = .commission then
    ((s.tallyCfgPut c v).keepReg s w (R.TALLY_CONN_CFG c)).tallyFollow c
  else s

/-- TALLY_ENABLE (R420): a write of a connection's CFG register. -/
def execTallyEnable (w : Writer) (c : Nat) (v : Word) (s0 : State) : Out :=
  s0.windowWrite w 0x12 fun s =>
  .next (s.tallyWrite w c v)

/-! ### Commands (R425) -/

/-- The TALLY block as target. -/
def tallyTargets : List Nat := [0x12]

/-- TALLY_REARM: SAFE becomes WAIT; in the other states of an open connection nothing changes (R421, R422). -/
def execTallyRearm (c : Cmd) (s0 : State) : Out :=
  s0.command c 0x0150 fun s =>
  let n := arg c 16 1
  if !s.targets c tallyTargets then refuse s c .badParam
  else if !s.modeOk 0x0150 false then refuse s c .rejectedMode
  else if short c 1 || decide (32 ≤ n) || s.transmits n || (s.rx s.tallyPair n).st = tallyClosed then refuse s c .badParam
  else
    let s1 := s.each [0, 1] fun t k => if (t.rx k n).st = tallySafe then t.tallySet k n { t.rx k n with st := tallyWait } else t
    .next (s1.finish c .ok)

/-- TALLY_TX_SET: the owner's image, used from the next PDU. -/
def execTallyTxSet (c : Cmd) (s0 : State) : Out :=
  s0.command c 0x0151 fun s =>
  let n := arg c 16 1
  let l := arg c 17 1
  if !s.targets c tallyTargets then refuse s c .badParam
  else if !s.modeOk 0x0151 false then refuse s c .rejectedMode
  else if short c (4 + l) || decide (32 ≤ n) || decide (48 < l) || !s.transmits n then refuse s c .badParam
  else .next ((s.setTx n { s.tx n with image := (c.payload.drop 4).take l ++ (s.txImage n).drop l }).finish c .ok)

/-- TALLY_READ: the STAT image, and the received data or fail-safe values at HOST_ADDR. -/
def execTallyRead (c : Cmd) (s0 : State) : Out :=
  s0.command c 0x6030 fun s =>
  let n := arg c 16 1
  if !s.targets c tallyTargets then refuse s c .badParam
  else if !s.modeOk 0x6030 true then refuse s c .rejectedMode
  else if short c 1 || decide (32 ≤ n) || decide (c.len < 48) then refuse s c .badParam
  else
    let l := s.get (R.TALLY_CONN_CFG_LEN n)
    let d := (s.rx s.tallyPair n).data
    .next (s.finishData c .ok (if d.length = l then d else List.replicate l 0) (s.rd (R.TALLY_CONN_STAT n)).toNat)

end Sys2Proof.Machine
end

