-- ==== Sys2Proof/Machine/SafetyIo.lean ====
section
/-! DEFINITION. Safety inputs, outputs, the safety logic table, the fast path and the safe-state latch (20_safety_io.md). -/

namespace Sys2Proof.Machine

/-- Safety input `n`. -/
def State.sin (s : State) (n : Nat) : Sin := Sparse.get (always Sin.init) s.safe.sins n
def State.setSin (s : State) (n : Nat) (x : Sin) : State := { s with safe.sins := Sparse.set (always Sin.init) s.safe.sins n x }

/-- The test of output `n`. -/
def State.sout (s : State) (n : Nat) : Sout := Sparse.get (always Sout.init) s.safe.souts n
def State.setSout (s : State) (n : Nat) (x : Sout) : State := { s with safe.souts := Sparse.set (always Sout.init) s.safe.souts n x }

/-- The safety outputs. -/
def outputs : List Nat := List.range 6

/-! ### Outputs (R396-R399) -/

/-- SOUT_n is asserted by every in-service pair, and neither the latch, a fast action nor BOOT holds it off (R396, R404, R407, R67). -/
def State.soutWanted (s : State) (n : Nat) : Bool :=
  let pair (k : Nat) : Bool := !s.inService k || natBit (s.safePair k).sout n
  s.running && s.md.fromDiscover && !s.pwr.latchDrives && !s.pairsLost && pair 0 && pair 1 &&
    (List.range 8).all fun i => !natBit (s.sin i).sout n

/-- SOUT_n is commanded on. -/
def State.soutOn (s : State) (n : Nat) : Bool := s.bitAt R.SAFE_SOUT_STATUS_ON n

/-- The outcome of a test (R398): never low fails; low and not high again is a stuck output. -/
def State.soutVerdict (s : State) (n : Nat) (low high : Bool) : State :=
  let s1 := s.setSout n { s.sout n with stage := 0, failed := !low || !high, at_ := s.atime }
  if !low then (s1.putBit R.SAFE_SOUT_STATUS_TEST_FAIL n true).raise 0x1102 2 0x11
  else if !high then (s1.putBit R.SAFE_SOUT_STATUS_STUCK n true).raise 0x1105 0 0x11
  else s1

/-- The command of SOUT_n changes; going off during a test ends it without a rise (R399). -/
def State.soutCommand (s : State) (n : Nat) (on : Bool) : State :=
  let s1 := (s.putBit R.SAFE_SOUT_STATUS_ON n on).putBit R.SAFE_SOUT_STATUS_READBACK n on
  if on then s1.setSout n { s1.sout n with at_ := s.atime }
  else
    let x : Sout := { s1.sout n with owed := false, defers := 0 }
    if x.stage = 1 then s1.setSout n { x with stage := 2 }
    else if x.stage = 3 then (s1.setSout n x).soutVerdict n x.low true
    else s1.setSout n x

/-- Every output follows what is wanted of it. -/
def State.refreshSout (s : State) : State :=
  s.each outputs fun t n => if t.soutWanted n = t.soutOn n then t else t.soutCommand n (t.soutWanted n)

/-- A change of output `n` is pending (R399): a row with a running timer drives it, or an assertion waits in the Turnstile. -/
def State.soutPending (s : State) (n : Nat) : Bool :=
  (List.range 2).any fun k =>
    s.inService k &&
      (natBit (s.safePair k).rising n ||
        s.safe.table.zipIdx.any fun r =>
          r.1 >>> 56 &&& 0xFF != 0 && r.1 >>> 32 &&& 0xFF == n && (Sparse.get (always RowState.init) (s.safePair k).rows r.2).running)

/-- A light test pulse starts (R398): the output is driven low, and the command stands. -/
def State.soutPulse (s : State) (n : Nat) : State :=
  (s.setSout n { s.sout n with stage := 1, low := false, owed := false, defers := 0, at_ := s.atime }).putBit R.SAFE_SOUT_STATUS_READBACK n false

/-- So many microseconds have passed in the present stage of output `n`. -/
def State.soutPast (s : State) (n us : Nat) : Bool := decide (us ≤ s.since (s.sout n).at_)

/-- SOUT_TEST_PULSE (R398, R399): TP_PERIOD has passed and a test falls due; while a change is pending it is deferred, and every third deferral in a row is told. -/
def execSoutTestPulse (n : Nat) (s : State) : Out :=
  let x := s.sout n
  if decide (6 ≤ n) || !s.soutOn n || !s.flag (R.SAFE_SOUT_CFG_TEST_EN n) || x.stage ≠ 0 ||
      !s.soutPast n (1000000 * s.get (R.SAFE_SOUT_CFG_TP_PERIOD n)) then .next s
  else if s.soutPending n then
    let s1 := s.setSout n { x with owed := true, defers := x.defers + 1, at_ := s.atime }
    .next (if (x.defers + 1) % 3 = 0 then s1.raise 0x1103 1 0x11 else s1)
  else .next (s.soutPulse n)

/-- Tests that a change deferred start at the first scan after it; an output that is off owes none (R399). -/
def State.soutOwed (s : State) : State :=
  s.each outputs fun t n =>
    if !(t.sout n).owed || t.soutPending n || (t.sout n).stage ≠ 0 then t
    else if t.soutOn n && t.flag (R.SAFE_SOUT_CFG_TEST_EN n) then t.soutPulse n
    else t.setSout n { t.sout n with owed := false }

/-- SOUT_TEST_PULSE_END (R398, R399): the pulse ends; `low` says whether readback was low in it, up to a demand that cut it short. -/
def execSoutTestPulseEnd (n : Nat) (low : Bool) (s : State) : Out :=
  let x := s.sout n
  if x.stage = 1 then
    if !s.soutPast n (s.get (R.SAFE_SOUT_CFG_TP_WIDTH n)) then .next s
    else .next ((s.setSout n { x with stage := 3, low := low, at_ := s.atime }).putBit R.SAFE_SOUT_STATUS_READBACK n true)
  else if x.stage = 2 then .next (s.soutVerdict n low true)
  else .next s

/-- SOUT_TEST_JUDGE (R398): 200 µs after the pulse; `high` says whether readback has been high again. -/
def execSoutTestJudge (n : Nat) (high : Bool) (s : State) : Out :=
  let x := s.sout n
  if x.stage = 3 && s.soutPast n 200 then .next ((s.putBit R.SAFE_SOUT_STATUS_READBACK n high).soutVerdict n x.low high) else .next s

/-- SOUT_READBACK_FAULT (R397): readback has disagreed with the command for 1 ms, apart from test pulses. -/
def execSoutReadbackFault (n : Nat) (s : State) : Out :=
  let x := s.sout n
  if decide (6 ≤ n) || !s.running || x.stage = 1 || x.stage = 3 then .next s
  else
    let on := s.soutOn n
    let s1 := (s.putBit R.SAFE_SOUT_STATUS_READBACK n (!on)).putBit R.SAFE_SOUT_STATUS_STUCK n true
    .next (if on then s1.raise 0x1105 0 0x11 else s1.raise 0x1104 2 0x11)

/-! ### The fast path (R404) -/

/-- The Banister unit of bit `b` of FUNC; bits without a function have none. -/
def mapUnit (b : Nat) : Option Nat :=
  if b < 4 then some b else if b = 4 then some unitConv else if b = 5 then some unitCharger else if b < 10 then some (4 + (b - 6)) else none

/-- The units a FUNC map names. -/
def mapUnits (func : Nat) : List Nat := ((List.range 10).filter (natBit func)).filterMap mapUnit

/-- The fast forces as the inputs' actions give them: ASC where an action in force chose it. -/
def State.hwForces (s : State) : State :=
  let on (u : Nat) : Option Bool :=
    let by_ := (List.range 8).filter fun i => (mapUnits (s.sin i).func).contains u
    if by_.isEmpty then none else some (by_.any fun i => natBit (s.sin i).asc u)
  { s with edge.hwForce := (List.range 10).foldl (fun m u => Sparse.set (always none) m u (on u)) [] }

/-- FAST_ACTION of input `n`: its map acts with the selector's present choice (R404). -/
def State.fastFire (s : State) (n : Nat) : State :=
  if s.bitAt R.SAFE_SIN_STATUS_FAST_FIRED n then s
  else
    let func := s.get (R.SAFE_SIN_MAP_FUNC n)
    let x : Sin := { s.sin n with func := func, sout := s.get (R.SAFE_SIN_MAP_SOUT n), asc := s.get R.SAFE_SEL_STATE_ASC }
    let s1 := (s.setSin n x).putBit R.SAFE_SIN_STATUS_FAST_FIRED n true
    (s1.hwForces.each (mapUnits func) State.refreshUnit).refreshSout

/-- The fast action of input `n` ends: a unit that no other one forces keeps its pads low until the next grant (R205, R404). -/
def State.fastEnd (s : State) (n : Nat) : State :=
  let func := (s.sin n).func
  let s1 := ((s.setSin n { s.sin n with func := 0, sout := 0, asc := 0 }).putBit R.SAFE_SIN_STATUS_FAST_FIRED n false).hwForces
  let s2 := s1.each (mapUnits func) fun t u =>
    if (Sparse.get (always none) t.edge.hwForce u).isSome then t.refreshUnit u
    else
      let a := t.setLines 0 u { t.lines 0 u with enable := false }
      ((((a.setLines 1 u { a.lines 1 u with enable := false }).refreshUnit u).regrant 0 u).regrant 1 u)
  s2.refreshSout

/-- A Warden's write of SAFE_FAST_CLR: each named action whose DEMAND is 0 ends. -/
def State.fastClear (s : State) (v : Word) : State :=
  s.each (List.range 8) fun t n =>
    if bitOf v n && t.bitAt R.SAFE_SIN_STATUS_FAST_FIRED n && !t.bitAt R.SAFE_SIN_STATUS_DEMAND n then t.fastEnd n else t

/-- FAST_CLEAR (R404, R464): Wardens only. -/
def execFastClear (w : Writer) (v : Word) (s0 : State) : Out :=
  s0.windowWrite w 0x11 fun s =>
  if s.running && w.isWarden then .next (s.fastClear v) else .next s

/-! ### Inputs (R392-R395) -/

/-- Contact A, or B after ANTI, of input `n` is demanding. -/
def State.demandA (s : State) (n : Nat) : Bool := !(s.sin n).a
def State.demandB (s : State) (n : Nat) : Bool := (s.sin n).b == s.flag (R.SAFE_SIN_CFG_ANTI n)

/-- DEMAND_n renewed (R393, R395); its rise starts a fast action. -/
def State.demandRefresh (s : State) (n : Nat) : State :=
  let old := s.bitAt R.SAFE_SIN_STATUS_DEMAND n
  let new := !s.flag (R.SAFE_SIN_CFG_EN n) || s.demandA n || s.demandB n || s.bitAt R.SAFE_SIN_STATUS_DISC n
  let s1 := s.putBit R.SAFE_SIN_STATUS_DEMAND n new
  if new && !old && s.flag (R.SAFE_SIN_CFG_FAST n) then s1.fastFire n else s1

/-- The discrepancy check after an accepted change of contact `b` (R394): in agreement the timer stops, and with DISC set the demand cycle
goes on, each change in time; otherwise it starts for the other contact. -/
def State.discChange (s : State) (n : Nat) (b : Bool) : State :=
  let x := s.sin n
  if s.demandA n = s.demandB n then
    let s1 := s.setSin n { x with timer := none }
    if x.timer.isNone || !s.bitAt R.SAFE_SIN_STATUS_DISC n then s1
    else if s.demandA n then s1.setSin n { x with timer := none, bothIn := true }
    else if x.bothIn then (s1.setSin n { x with timer := none, bothIn := false }).putBit R.SAFE_SIN_STATUS_DISC n false
    else s1
  else s.setSin n { x with timer := some (!b), timerAt := s.atime }

/-- SIN_CONTACT_CHANGE (R392): the level at a contact (`b`: SIN_B) changes, and its filter starts. -/
def execSinContactChange (n : Nat) (b level : Bool) (s : State) : Out :=
  if 8 ≤ n ∨ (if b then (s.sin n).rawB else (s.sin n).rawA) = level then .next s
  else if b then .next (s.setSin n { s.sin n with rawB := level, atB := s.atime })
  else .next (s.setSin n { s.sin n with rawA := level, atA := s.atime })

/-- SIN_FILTERED (R392-R395, R404): the level has been held for FILT and is accepted. -/
def execSinFiltered (n : Nat) (b : Bool) (s : State) : Out :=
  let x := s.sin n
  let held := decide (100 * s.get (R.SAFE_SIN_CFG_FILT n) ≤ s.since (if b then x.atB else x.atA))
  if decide (8 ≤ n) || !s.running || !s.bankLive 1 || !held || (if b then x.rawB == x.b else x.rawA == x.a) then .next s
  else
    let s1 := s.setSin n (if b then { x with b := x.rawB } else { x with a := x.rawA })
    let s2 := if s1.flag (R.SAFE_SIN_CFG_EN n) then s1.discChange n b else s1
    .next (s2.demandRefresh n)

/-- SIN_DISCREPANCY (R394): the other contact has not followed within DISC. -/
def execSinDiscrepancy (n : Nat) (s : State) : Out :=
  let x := s.sin n
  match x.timer with
  | some b =>
    if decide (8 ≤ n) || !s.running || !s.flag (R.SAFE_SIN_CFG_EN n) ||
        decide (s.since x.timerAt < 1000 * s.get (R.SAFE_SIN_CFG_DISC n)) then .next s
    else
      let s1 := ((s.setSin n { x with timer := none, bothIn := false }).putBit R.SAFE_SIN_STATUS_DISC n true).raise 0x1101 0 0x11 (w32 n) (w32 (bit b))
      .next (s1.demandRefresh n)
  | none => .next s

/-! ### The table (R400-R403) -/

/-- Fields of a row. -/
def rowOp (r : Nat) : Nat := r >>> 56 &&& 0xFF
def rowA (r : Nat) : Nat := r >>> 48 &&& 0xFF
def rowB (r : Nat) : Nat := r >>> 40 &&& 0xFF
def rowDest (r : Nat) : Nat := r >>> 32 &&& 0xFF
def rowTime (r : Nat) : Nat := r >>> 16 &&& 0xFFFF

/-- Signal and destination indices of R401. -/
def signalOk (i : Nat) : Bool :=
  decide (i ≤ 0x3B) || (decide (0x40 ≤ i) && decide (i ≤ 0x44)) || (decide (0x48 ≤ i) && decide (i ≤ 0x4D)) || decide (0x80 ≤ i)
def destOk (i : Nat) : Bool :=
  decide (i ≤ 0x05) || (decide (0x10 ≤ i) && decide (i ≤ 0x19)) || i == 0x20 || i == 0x21 || decide (0x80 ≤ i)

/-- A valid row: OP, indices and reserved bits (R403). -/
def rowOk (r : Nat) : Bool := decide (rowOp r ≤ 7) && signalOk (rowA r) && signalOk (rowB r) && destOk (rowDest r) && (r &&& 0xFFFC) == 0

/-- A valid table (R400, R403): no SOUT written by more than 32 rows. -/
def tableOk (t : List Nat) : Bool :=
  decide (t.length ≤ 256) && t.all rowOk &&
    outputs.all fun n => decide ((t.filter fun r => rowOp r != 0 && rowDest r == n).length ≤ 32)

/-- The signal with index `i` as pair `k` sees it (R401). -/
def State.safeSignal (s : State) (k : Nat) (marks : Sparse Bool) (i : Nat) : Bool :=
  if i < 0x08 then s.bitAt R.SAFE_SIN_STATUS_DEMAND i
  else if i < 0x10 then s.bitAt R.SAFE_SIN_STATUS_DISC (i - 0x08)
  else if i < 0x30 then (s.rx k (i - 0x10)).st ≠ tallyRun
  else if i < 0x3C then s.get R.SYS_MODE_MODE == i - 0x30
  else if i = 0x40 then s.flag R.SYS_MODE_PARK
  else if i = 0x41 then s.flag R.SAFE_DCL_STATUS_UV
  else if i = 0x42 then s.flag R.SAFE_DCL_STATUS_OV2
  else if i = 0x43 then s.flag R.SAFE_DCL_STATUS_OV3_LATCH
  else if i = 0x44 then s.standstill
  else if i < 0x80 then !s.bitAt R.SAFE_SOUT_STATUS_STUCK (i - 0x48) && !(s.sout (i - 0x48)).failed
  else Sparse.get (always false) marks (i - 0x80)

/-- A scan in progress: markers, rows, the AND of each SOUT and the outputs written, the forces and requests so far, and whether END was met. -/
structure Scan where
  marks : Sparse Bool
  rows : Sparse RowState
  sout : Nat
  wrote : Nat
  forces : Nat
  stop : Bool
  park : Bool
  ended : Bool
  deriving DecidableEq, Repr

/-- TIME ms of a running row have passed (R400). -/
def State.rowOver (s : State) (time : Nat) (r : RowState) : Bool := r.running && decide (1000 * time ≤ s.since r.at_)

/-- A row's timer runs on, or starts at `now`. -/
def RowState.runs (r : RowState) (on : Bool) (now : Time) : RowState := { on := on, running := true, at_ := if r.running then r.at_ else now }

/-- A row whose timer is not running. -/
def RowState.still (on : Bool) : RowState := { RowState.init with on := on }

/-- What a timer or latch row holds after its inputs `a` and `b` at `now` (R400); `late` says that its TIME has passed. -/
def rowNext (op time : Nat) (a b : Bool) (now : Time) (late : Bool) (r : RowState) : RowState :=
  match op with
  | 5 => if !a then RowState.init else if r.on || time == 0 || late then RowState.still true else r.runs false now
  | 6 => if a then RowState.still true else if r.on && time != 0 && !late then r.runs true now else RowState.init
  | _ => RowState.still (!b && (a || r.on))

/-- The result of a row: operations 1 to 4 from the operands, the others from what the row holds. -/
def rowResult (op : Nat) (a b : Bool) (r : RowState) : Bool :=
  match op with
  | 1 => a && b
  | 2 => a || b
  | 3 => a && !b
  | 4 => a
  | _ => r.on

/-- The unit a force destination names (R401). -/
def destUnit (d : Nat) : Nat := if d < 0x14 then d - 0x10 else if d = 0x14 then unitConv else if d = 0x15 then unitCharger else 4 + (d - 0x16)

/-- A result written to its destination (R401, R402). -/
def Scan.write (x : Scan) (d : Nat) (v : Bool) : Scan :=
  if d < 6 then { x with sout := natSetBit x.sout d (natBit x.sout d && v), wrote := natSetBit x.wrote d true }
  else if d < 0x1A then (if v then { x with forces := natSetBit x.forces (destUnit d) true } else x)
  else if d = 0x20 then { x with stop := x.stop || v }
  else if d = 0x21 then { x with park := x.park || v }
  else { x with marks := Sparse.set (always false) x.marks (d - 0x80) v }

/-- One row of a scan of pair `k`. -/
def State.scanRow (s : State) (k : Nat) (x : Scan) (r idx : Nat) : Scan :=
  if x.ended then x
  else if rowOp r = 0 then { x with ended := true }
  else
    let a := s.safeSignal k x.marks (rowA r) != natBit r 0
    let b := s.safeSignal k x.marks (rowB r) != natBit r 1
    let old := Sparse.get (always RowState.init) x.rows idx
    let st := if 5 ≤ rowOp r then rowNext (rowOp r) (rowTime r) a b s.atime (s.rowOver (rowTime r) old) old else old
    { x with rows := Sparse.set (always RowState.init) x.rows idx st }.write (rowDest r) (rowResult (rowOp r) a b st)

/-- The scan of pair `k` over the table, from row 0 (R400). -/
def State.scanTable (s : State) (k : Nat) : Scan :=
  let p := s.safePair k
  s.safe.table.zipIdx.foldl (fun x r => s.scanRow k x r.1 r.2)
    { marks := p.marks, rows := p.rows, sout := 0x3F, wrote := 0, forces := 0, stop := false, park := false, ended := false }

/-- Pair `k` drives what its table says of unit `u` (R290, R401, R402): a new force at once, a set with its enable; a released force is lifted,
where no other Landing 0 decision keeps the unit, and the enable asked for again where the mode gives it. -/
def State.tableUnit (s : State) (k u : Nat) (now : Bool) : State :=
  let was := natBit (s.safePair k).forces u
  if now then
    let l := s.lines k u
    let l1 : Lines := if u < 4 then { enable := false, forceAsc := s.selAsc u, forceSto := !s.selAsc u } else { l with forceSto := true }
    let s1 := if u < 4 && !was then { s with edge.grants := s.edge.grants.filter (fun g => g ≠ (k, u))
                                             edge.synced := s.edge.synced.filter (fun g => g ≠ (k, u)) } else s
    if was && l == l1 then s else (s1.setLines k u l1).refreshUnit u
  else if !was || (decide (u < 4) && s.isOut u) then s
  else ((s.setLines k u Lines.init).refreshUnit u).regrant k u

/-- The outputs of a finished scan of pair `k` (R396, R402): removals at once, assertions through the Turnstile. -/
def State.scanOutputs (s : State) (k : Nat) (x : Scan) : State :=
  let p := s.safePair k
  let want := x.sout &&& x.wrote
  let s1 := s.each (List.range 10) fun t u => t.tableUnit k u (natBit x.forces u)
  (s1.setSafePair k { p with marks := x.marks, rows := x.rows, forces := x.forces, sout := p.sout &&& want,
                             rising := want - (p.sout &&& want), park := p.park && x.park }).refreshSout

/-- Destination 0x21 (R46, R345, R401): in SAFE_STOP at standstill the park lock is engaged, once for each time it is asked for. -/
def State.scanPark (s : State) (k : Nat) (x : Scan) : State :=
  if x.park && !(s.safePair k).park && s.md = .safeStop && s.standstill then
    let s1 := s.setSafePair k { s.safePair k with park := true }
    if s1.flag R.SYS_MODE_PARK || s1.mot.park.isSome then s1 else s1.parkRequest true
  else s

/-- SAFETY_SCAN (R400-R402, R416): pair `pair` judges its Tally PDUs, runs the table and writes its outputs. -/
def execSafetyScan (pair : Nat) (s : State) : Out :=
  if decide (2 ≤ pair) || !s.running || !s.md.fromDiscover || !s.inService pair then .next s
  else
    let s1 := s.tallyScan pair
    let x := s1.scanTable pair
    let s2 := s1.scanOutputs pair x
    let s3 := if x.stop then s2.trigger 0 precStop 0 else s2
    .next (s3.scanPark pair x).soutOwed

/-- SAFETY_ROW_TIMER_EXPIRY (R400): TIME of a running row has elapsed; the next scan sees its result. -/
def execSafetyRowTimerExpiry (pair row : Nat) (s : State) : Out :=
  let p := s.safePair pair
  let r := s.safe.table.getD row 0
  if decide (2 ≤ pair) || !s.rowOver (rowTime r) (Sparse.get (always RowState.init) p.rows row) then .next s
  else .next (s.setSafePair pair { p with rows := Sparse.set (always RowState.init) p.rows row (RowState.still (rowOp r = 5)) })

/-- The assertions of pair `k` leave its Turnstile (R396). -/
def State.soutRelease (s : State) (k : Nat) : State :=
  let p := s.safePair k
  (s.setSafePair k { p with sout := p.sout ||| p.rising, rising := 0 }).refreshSout

/-! ### The safe-state latch (R406, R407) -/

/-- WARDEN_KICK (R406): an in-service pair restarts the latch's watchdog. -/
def execWardenKick (pair : Nat) (s : State) : Out :=
  if decide (pair < 2) && s.running && s.inService pair then .next { s with safe.kickAt := s.atime } else .next s

/-- The watchdog may have run out: WD_TIME without a kick, with CLK_SAFE up to 10 % fast (R26, R406). -/
def State.latchDue (s : State) : Bool := decide (10 * s.get R.SAFE_WD_CFG_WD_TIME ≤ 11 * s.since s.safe.kickAt)

/-- The latch fires with a CAUSE: every pad takes its safe state (R407). -/
def State.latchFire (s : State) (cause : Nat) : State :=
  let s1 := (s.putB R.SAFE_LATCH_FIRED true).put R.SAFE_LATCH_CAUSE cause
  let s2 := { s1 with pwr.latchDrives := true, chg.cpHigh := false, chg.pwm := false }
  s2.refreshAll.refreshSout

/-- SAFE_LATCH_FIRE (R29, R406, R407): both pairs are out of service (1), or no in-service pair has kicked for WD_TIME (2). After the loss of
CLK_SAFE the latch can no longer be trusted: whether it fires is free. -/
def execSafeLatchFire (s : State) : Out :=
  if !s.running || s.flag R.SAFE_LATCH_FIRED then .next s
  else if natBit s.pwr.clkLost 4 && bitOf (Config.freeWord 0x66 s.free) 0 then .next s.useFree
  else if s.pairsLost then .next (s.latchFire 1)
  else if s.latchDue then .next (s.latchFire 2)
  else .next s

/-! ### Commands (R408) -/

/-- The SAFE block as target. -/
def safeTargets : List Nat := [0x11]

/-- The rows of a payload of `n` bytes. -/
def tableRows (bs : List Byte) (n : Nat) : List Nat := (List.range (n / 8)).map fun i => fieldAt bs (8 * i) 8

/-- Both pairs take a table: its rows start afresh, and the markers stand. -/
def State.loadTable (s : State) (t : List Nat) : State :=
  ({ s with safe.table := t }).each [0, 1] fun u k => u.setSafePair k { u.safePair k with rows := [] }

/-- SAFE_TABLE_WRITE (R403, R408): a valid table is held by both pairs and in MRAM. -/
def execSafeTableWrite (c : Cmd) (s0 : State) : Out :=
  s0.command c 0x6020 fun s =>
  let t := tableRows c.payload c.len
  if !s.targets c safeTargets then refuse s c .badParam
  else if !s.modeOk 0x6020 false then refuse s c .rejectedMode
  else if short c c.len || decide (c.len < 8) || decide (2048 < c.len) || c.len % 8 ≠ 0 || !tableOk t || s.mramWorn 0x6020 then refuse s c .badParam
  else
    let s1 := s.loadTable t
    .next ((State.setChanged { s1 with led.stored.table := t, led.present := true }).finish c .ok)

/-- SAFE_IO_STATUS. -/
def execSafeIoStatus (c : Cmd) (s0 : State) : Out :=
  s0.command c 0x6021 fun s =>
  if !s.targets c safeTargets then refuse s c .badParam
  else if !s.modeOk 0x6021 true then refuse s c .rejectedMode
  else .next (s.finish c .ok (pair64 (s.rd R.SAFE_SIN_STATUS).toNat (s.rd R.SAFE_SOUT_STATUS).toNat))

end Sys2Proof.Machine
end

