-- ==== Sys2Proof/Machine/Store.lean ====
section
/-! DEFINITION. The Store Gallery's memories: accesses, atomics, bank power, checking, scrubbing, repair and the background test
(07_store_gallery.md, 08_stored_data_integrity.md). Word offsets are O of R131. -/

namespace Sys2Proof.Machine

/-- The responses of R138 and R150 that reach an initiator. -/
def respOk : Nat := 0
def respAlign : Nat := 3
def respRegion : Nat := 4
def respBankOff : Nat := 5
def respDecode : Nat := 6
def respDataErr : Nat := 7

/-- The answer an initiator gets. -/
def State.answer (s : State) (resp data : Nat) : State := { s with store.resp := resp, store.data := data }

/-- No damage found. -/
def noHit : EccHit := { bank := 0, flips := 0, addr := 0, parity := false }

/-- Bits of the stored word at offset `o` flip, and the parity of its valid bits fails. -/
def State.upset (s : State) (o : Nat) (e : EccHit) : State :=
  let s1 := if e.flips = 0 then s
            else { s with mem.flips := Sparse.set (always 0) s.mem.flips (o / 8) ((s.flipsAt o ^^^ e.flips) % 2 ^ 72) }
  if e.parity then { s1 with mem.parityBad := Sparse.set (always false) s1.mem.parityBad (o / 64) true } else s1

/-- One access served by an SRAM bank (R149-R153). -/
def State.serve (s0 : State) (a : Access) (e : EccHit) : State :=
  let o := a.addr - sramBase
  let s := s0.upset o e
  if a.write && decide (a.size = 8) then (s.writeNat a.addr 8 a.data).answer respOk 0
  else
    match s.checkWord o e.addr (if a.write then 5 else if a.portD then 1 else 0) a.engine with
    | (t, false) => t.answer respDataErr 0
    | (t, true) => if a.write then (t.writeNat a.addr a.size a.data).answer respOk 0 else t.answer respOk (t.checkedNat a.addr a.size)

/-- A unit, or a core that runs, makes the access: port D is the Drive Gallery's alone (R132). -/
def State.mayAccess (s : State) (a : Access) : Bool :=
  s.running && (a.gallery.isSome || ((a.who.isWarden || a.who = .steward) && s.writerLive a.who)) &&
  (!a.portD || a.gallery = some 0) && (a.engine.isNone || a.gallery = some 0)

/-- The initiator as the model numbers it: the Galleries 0 to 3, then the cores. -/
def initiator (who : Writer) (gallery : Option Nat) : Nat :=
  match gallery with
  | some g => g
  | none =>
    match who with
    | .steward => 4 | .wardenA => 5 | .wardenB => 6 | .coreA0 => 7 | .coreA1 => 8 | .hostA => 9 | .hostB => 10 | .service => 11 | .tap => 12

/-- A write to Warden private memory by another initiator (R130). -/
def wardenOnly (who : Writer) (gallery : Option Nat) (addr : Nat) : Bool := inWarden addr && !(gallery = none && who.isWarden)

/-- The access of the other port, as an access of its own to the same word (R133). -/
def sideOf (a : Access) (x : Side) : Access :=
  { who := x.who, gallery := x.gallery, engine := none, portD := !a.portD, write := x.write, addr := a.addr - a.addr % 8 + x.off % 8,
    size := x.size, data := x.data, other := none, ecc := noHit }

/-- The other port's write lands on the same word; its answer is the other initiator's, and the answer to the access itself stands. -/
def State.otherWrite (s : State) (a : Access) (x : Side) : State :=
  let b := sideOf a x
  let s1 := if wardenOnly x.who x.gallery b.addr then s.regionErr b.addr (initiator x.who x.gallery)
            else if 8 < b.addr % 8 + b.size then s else s.serve b noHit
  s1.answer s.store.resp s.store.data

/-- BUSY to port D, and COLLIDE to port H, counted (R133, R134). -/
def State.busy (s : State) : State := s.satInc R.STORE_BUSY_COUNT
def State.collide (s : State) : State := s.satInc R.STORE_STATUS_RD_COLLIDE

/-- An access with what the other port does to the same word in the same cycle (R133): port H is served first, a BUSY access of
port D is repeated, and a COLLIDE read of port H is issued again. A port D access meets one BUSY, as its repeat comes before the next access
of port H (R134). -/
def State.serveBoth (s : State) (a : Access) : State :=
  match a.other with
  | none => s.serve a a.ecc
  | some x =>
    if !x.write then (if a.write then (if a.portD then s.collide else s).busy else s).serve a a.ecc
    else if a.portD then (s.busy.otherWrite a x).serve a a.ecc
    else if a.write then ((s.busy).serve a a.ecc).otherWrite a x
    else ((s.collide.busy).otherWrite a x).serve a a.ecc

/-- A write to Warden private memory by another initiator is refused (R130). -/
def regionBad (a : Access) : Bool := a.write && wardenOnly a.who a.gallery a.addr

/-- The refusal of R130: REGION, REGION_ERR and 0x0601 with the address and the initiator. -/
def State.regionRefused (s : State) (a : Access) : State := (s.regionErr a.addr (initiator a.who a.gallery)).answer respRegion 0

/-- A bank in OFF: the access is answered BANK_OFF and recorded (R138, R139). -/
def State.bankOff (s : State) : State :=
  ((s.putB R.STORE_STATUS_BANK_OFF_ERR true).raise 0x0602 0 0x06).answer respBankOff 0

/-- A write to a 4 KiB sector of the MRAM code partition is counted, with its wear (R165). -/
def State.sectorWritten (s : State) (a : Nat) : State :=
  let k := (a - mramBase) / 4096
  let n := Sparse.get (always 0) s.store.sectorWrites k + 1
  let s1 := { s with store.sectorWrites := Sparse.set (always 0) s.store.sectorWrites k n }
  let top := Sparse.get (always 0) s1.store.sectorWrites (s1.get R.MRAM_WEAR_SECTOR)
  let s2 := if top < n ∨ s1.get R.MRAM_WEAR_SECTOR = k then (s1.put R.MRAM_WEAR_SECTOR k).put R.MRAM_WEAR_WRITES_K (n / 1000) else s1
  if 900000 ≤ n ∧ Sparse.get (always false) s2.store.worn k = false then
    ({ s2 with store.worn := Sparse.set (always false) s2.store.worn k true }.putB R.MRAM_STATUS_WEAR_WARN true).raise 0x0702 1 0x07
  else s2

/-- The parameter set is written in COMMISSION alone (R439), so what goes into the code partition in SERVICE is firmware (R32; DEDUCED, log 54). -/
def State.fwWrite (s : State) : State := if s.md = .service then { s with mode.fwWritten := true } else s

/-- The bits of the MRAM word of address `a` that are wrong, and some more flip (R163). -/
def State.mramFlipsAt (s : State) (a : Nat) : Nat := Sparse.get (always 0) s.mem.mramFlips (a / 16)
def State.mramUpset (s : State) (a flips : Nat) : State :=
  if flips = 0 then s
  else { s with mem.mramFlips := Sparse.set (always 0) s.mem.mramFlips (a / 16) ((s.mramFlipsAt a ^^^ flips) % 2 ^ 145) }

/-- What the MRAM code makes of the word of address `a` (R163): 0 no error, 1 one or two wrong bits, corrected, 2 more, detected. The code
is not said to detect more than three; the model lets it (DESIGN CHOICE, log 65). -/
def State.mramClass (s : State) (a : Nat) : Nat :=
  let n := weight 145 (s.mramFlipsAt a)
  if n = 0 then 0 else if n ≤ 2 then 1 else 2

/-- A read of the MRAM word of address `a` that is not good: counted, and recorded where it cannot be corrected (R165). -/
def State.mramChecked (s : State) (a : Nat) : State :=
  match s.mramClass a with
  | 0 => s
  | 1 => s.satInc R.MRAM_STATUS_CORRECTED
  | _ => (s.satInc R.MRAM_STATUS_UNCORRECTED).raise 0x0701 (if a < mramLog then 2 else 0) 0x07

/-- Bytes written into an MRAM word (R163): a read-modify-write that stores the word anew, corrected; a word that cannot be corrected takes
nothing and answers DATA_ERR, as an SRAM word does (DESIGN CHOICE, log 65). -/
def State.mramWrite (s : State) (a n v : Nat) : State :=
  let s1 := s.mramChecked a
  if s.mramClass a = 2 then s1.answer respDataErr 0
  else ({ s1 with mem.mramFlips := Sparse.set (always 0) s1.mem.mramFlips (a / 16) 0 }.writeNat a n v).answer respOk 0

/-- The sector of address `a` has taken its 10⁶ writes, and the runtime makes no further one (R165). -/
def State.sectorSpent (s : State) (a : Nat) : Bool :=
  decide (1000000 ≤ Sparse.get (always 0) s.store.sectorWrites ((a - mramBase) / 4096))

/-- An access to MRAM (R163-R165): the code partition takes writes only from the Wardens while CODE_WE = 1; a split core writes nothing
and raises 0x1009 (R385). -/
def State.mramAccess (s0 : State) (a : Access) : State :=
  let s := s0.mramUpset a.addr a.ecc.flips
  if !a.write then
    if s.mramClass a.addr = 2 then (s.mramChecked a.addr).answer respDataErr 0
    else (s.mramChecked a.addr).answer respOk (s.readNat a.addr a.size)
  else if a.gallery = none && a.who.splitCore then (s.raise 0x1009 0 0x10).answer respRegion 0
  else if mramLog ≤ a.addr then s.mramWrite a.addr a.size a.data
  else if a.gallery = none && a.who.isWarden && s.flag R.MRAM_STATUS_CODE_WE then
    if s.sectorSpent a.addr then s
    else if s.mramClass a.addr = 2 then s.mramWrite a.addr a.size a.data
    else (s.fwWrite.mramWrite a.addr a.size a.data).sectorWritten a.addr
  else s.answer respRegion 0

/-- The window of the background test that the word at offset `o` lies in (R160). -/
def windowOf (o : Nat) : Nat := o / 2048 * 32 + bankOf o

/-- The background test moves to the next window; a pass ends with window 131,071 (R160, R162). -/
def State.nextWindow (s : State) : State :=
  let w := s.get R.STORE_BGT_STATUS_WINDOW
  let s1 := { s with store.aborts := 0 }.put R.STORE_BGT_STATUS_WINDOW ((w + 1) % 131072)
  if w = 131071 then ({ s1 with store.skippedLast := s1.store.skippedNow, store.skippedNow := [] }).put R.STORE_BGT_STATUS_SKIPPED 0 else s1

/-- The offset of the first word of window `w` (R160). -/
def windowOffset (w : Nat) : Nat := (w / 32) * 8 * 256 + (w % 32) * 8

/-- The step of a borrowed window is aborted (R161, R162): its words go back from the shadow, and it is retried; the eighth abort in a row
skips it. -/
def State.abortWindow (s : State) (w : Nat) : State :=
  let s1 := { s with store.borrowed := none }
  let n := s1.store.aborts + 1
  if n < 8 then { s1 with store.aborts := n }
  else
    let s2 := (s1.satInc R.STORE_BGT_STATUS_SKIPPED).putB R.STORE_ECC_STATUS_BGT_SKIP true
    let s3 := { s2 with store.skippedNow := s2.store.skippedNow ++ [w] }
    (if s3.store.skippedLast.contains w then s3.raise 0x0608 0 0x06 (w32 (windowOffset w)) else s3).nextWindow

/-- An access to the word at offset `o` meets the borrowed window (R161): port H aborts the step, port D is served from the shadow. -/
def State.meetWindow (s : State) (o : Nat) (portD : Bool) : State :=
  match s.store.borrowed with
  | some w => if !portD && windowOf o = w then s.abortWindow w else s
  | none => s

/-- One access is answered (R129-R138, R148-R153, R161, R163-R165). -/
def State.sramAccess (s : State) (a : Access) : State :=
  if !inSram a.addr && !inMram a.addr then s.answer respDecode 0
  else if 8 < a.addr % 8 + a.size then s.answer respAlign 0
  else if inMram a.addr then s.mramAccess a
  else if regionBad a then s.regionRefused a
  else
    let b := bankOf (a.addr - sramBase)
    if s.bankState b = 2 then s.bankOff else ((s.wakeBank b).meetWindow (a.addr - sramBase) a.portD).serveBoth a

/-- SRAM_ACCESS (R129-R138): an access of an initiator that may make it. -/
def execSramAccess (a : Access) (s : State) : Out := .next (if s.mayAccess a then s.sramAccess a else s)

/-- A port D access that meets an atomic's lock: BUSY in each cycle it waits, one to three, and then served (R134, R137). -/
def State.lockedOut (s : State) (a : Access) : State :=
  match a.other with
  | none => s
  | some x =>
    let s1 := s.each (List.range (max 1 (min 3 x.wait))) fun t _ => t.busy
    if x.write then s1.otherWrite a x else s1

/-- An atomic on one word (R136, R137, R150): `f` gives the stored value from the old one. Field engines issue none, and none goes through
port D. -/
def State.atomic (s : State) (a : Access) (f : Nat → Nat) : State :=
  if !s.mayAccess a || a.portD || a.gallery = some 0 then s
  else if !inSram a.addr then s.answer respDecode 0
  else if !(a.size = 4 || a.size = 8) || a.addr % a.size != 0 then s.answer respAlign 0
  else if regionBad { a with write := true } then s.regionRefused a
  else
    let o := a.addr - sramBase
    if s.bankState (bankOf o) = 2 then s.bankOff
    else
      match (((s.wakeBank (bankOf o)).meetWindow o false).upset o a.ecc).checkWord o a.ecc.addr 4 none with
      | (t, false) => (t.answer respDataErr 0).lockedOut a
      | (t, true) =>
        let old := t.checkedNat a.addr a.size
        ((t.writeNat a.addr a.size (f old % 2 ^ (8 * a.size))).answer respOk old).lockedOut a

/-- AADD (R136): stores old + operand modulo the operand's size, and returns the old value. -/
def execAadd (a : Access) (s : State) : Out := .next (s.atomic a fun old => old + a.data)

/-- ASWP (R136): stores the operand and returns the old value. -/
def execAswp (a : Access) (s : State) : Out := .next (s.atomic a fun _ => a.data)

/-- BANK_POWER_REQUEST (R139, R140): each REQ field takes ON or RET; OFF and the reserved value leave it and set PWR_REFUSED. -/
def execBankPowerRequest (w : Writer) (k : Nat) (v : Word) (s0 : State) : Out :=
  s0.windowWrite w 0x06 fun s =>
  if !s.mayWrite w 0x06 || decide (2 ≤ k) then .next s
  else
    .next (s.each (List.range 16) fun t j =>
      let r := bitsOf v (2 * j + 1) (2 * j)
      if 2 ≤ r then t.putB R.STORE_STATUS_PWR_REFUSED true
      else
        let t1 := t.put (R.STORE_BANK_PWR_REQ k j) r
        if r = 0 then t1.wakeBank (16 * k + j) else t1)

/-- BANK_IDLE_RETENTION (R139): a bank with REQ = RET that has been idle enters RET. -/
def execBankIdleRetention (bank : Nat) (s : State) : Out :=
  if s.running ∧ bank < 32 ∧ s.get (R.STORE_BANK_PWR_REQ (bank / 16) (bank % 16)) = 1 ∧ s.bankState bank = 0 then .next (s.setBankState bank 1)
  else .next s

/-- One hour, in µs (R157). -/
def trackTime : Nat := 3600000000

/-- A write-back correction enters the tracker (R157): counted, or in the place of the oldest first correction where the tracker is full. The
third within an hour of the first marks a hard error, whose row is to be repaired. -/
def State.track (s : State) (o : Nat) : State :=
  let w := o - o % 8
  let tr := s.store.tracker
  match tr.find? (fun t => t.word = w && decide (s.since t.first < trackTime)) with
  | some t =>
    if 3 ≤ t.count + 1 then
      { s with store.tracker := tr.filter (fun x => x.word ≠ w), store.hard := s.store.hard ++ [(w, 0)] }
    else { s with store.tracker := tr.map fun x => if x.word = w then { x with count := x.count + 1 } else x }
  | none =>
    let rest := tr.filter fun x => x.word ≠ w
    { s with store.tracker := (if rest.length < 64 then rest else rest.tail) ++ [{ word := w, count := 1, first := s.atime }] }

/-- The scrubber meets the word at offset `o` (R155): a correctable one is written back and tracked, an uncorrectable one recorded. -/
def State.scrubWord (s : State) (o addr : Nat) : State :=
  let c := s.classAt o addr
  let syn := s.synAt o addr
  if c = 0 then s
  else if c ≤ 2 then ((s.corrected o c syn 2).settle o).track o
  else s.ueRecord o c syn 2 none

/-- SCRUB_LINE (R155, R157): the 32 words of the next 256-byte line are checked; `found` names, by bank, what has happened to words of it. -/
def execScrubLine (found : List EccHit) (s : State) : Out :=
  if !s.running then .next s
  else
    let line := s.store.scrubLine
    let at_ (b : Nat) : Nat := 256 * line + 8 * (b % 32)
    let s1 := (s.each (List.range 32) State.wakeBank).each found fun t e => t.upset (at_ e.bank) e
    let wrong (b : Nat) : Nat := match found.find? (fun e => e.bank % 32 = b) with | some e => e.addr | none => 0
    let s2 := s1.each (List.range 32) fun t b => t.scrubWord (at_ b) (wrong b)
    .next { s2 with store.scrubLine := (line + 1) % 32768 }

/-- SCRUB_PRIORITY_WRITEBACK (R156, R157): the first queued word, where it still needs correction, is written back and tracked. -/
def execScrubPriorityWriteback (s : State) : Out :=
  match s.store.prio with
  | [] => .next s
  | o :: rest =>
    let s1 := { s with store.prio := rest }.wakeBank (bankOf o)
    let c := s1.classAt o 0
    .next (if c = 1 ∨ c = 2 then (s1.settle o).track o else s1)

/-- TRACKER_ENTRY_EXPIRY (R157): an hour after its first correction a word's count resets. -/
def execTrackerEntryExpiry (word : Nat) (s : State) : Out :=
  .next { s with store.tracker := s.store.tracker.filter fun t => !(t.word = word - word % 8 && decide (trackTime ≤ s.since t.first)) }

/-- The words of row `r` of bank `b` are copied, the correctable ones corrected, the others raw (R158). -/
def State.copyRow (s : State) (b r : Nat) : State :=
  s.each (s.mem.flips.filter fun e => bankOf (8 * e.1) = b && rowOf (8 * e.1) = r) fun t e =>
    if t.classAt (8 * e.1) 0 = 1 ∨ t.classAt (8 * e.1) 0 = 2 then t.settle (8 * e.1) else t

/-- Repair of the row of offset `o` (R158, R159). Cause 0 is a repeated correction, 1 a March failure. -/
def State.repair (s : State) (o cause : Nat) : State :=
  let b := bankOf o
  let F := R.STORE_SPARE_USED (b / 8) (b % 8)
  let used := s.get F
  if used < 8 then
    (({ s.copyRow b (rowOf o) with store.repairs := s.store.repairs ++ [(b, rowOf o, used)] }).put F (used + 1)).raise 0x0603 0 0x06
      (w32 o) (w32 (cause % 4 * 2 ^ 14 + rowOf o * 32 + b))
  else ({ s with store.exhausted := Sparse.set (always false) s.store.exhausted b true }).raise 0x0604 1 0x06

/-- ROW_REPAIR (R157-R159): the row of a hard error that waits for repair is copied into the next free spare, or SPARES_EXHAUSTED is raised. -/
def execRowRepair (word cause : Nat) (s : State) : Out :=
  let h := (word % 2 ^ 23 - word % 8, cause)
  if s.running && s.store.hard.contains h then .next ({ s with store.hard := s.store.hard.erase h }.repair h.1 cause) else .next s

/-- BGT_WINDOW_STEP (R160-R162): the window whose turn it is is borrowed, or the march over the borrowed window ends: it passes, or fails first
in its word `fails`, whose row is to be repaired. -/
def execBgtWindowStep (ends : Bool) (fails : Option Nat) (s : State) : Out :=
  if !s.running then .next s
  else
    match s.store.borrowed with
    | none =>
      if ends then .next s
      else
        let w := s.get R.STORE_BGT_STATUS_WINDOW
        .next { s.wakeBank (w % 32) with store.borrowed := some w }
    | some w =>
      if !ends then .next s
      else
        let s1 := { s with store.borrowed := none }
        let s2 := match fails with
          | some k => { s1 with store.hard := s1.store.hard ++ [(windowOffset w + 256 * (k % 8), 1)] }
          | none => s1
        .next s2.nextWindow

/-- MRAM_DAILY_READ (R165): a word is read, in which the bits `flips` have flipped; one that needed correction is rewritten, and an
uncorrectable one raises 0x0701. -/
def execMramDailyRead (addr flips : Nat) (s : State) : Out :=
  if !inMram addr || !s.running then .next s
  else
    let s1 := s.mramUpset addr flips
    let s2 := s1.mramChecked addr
    if s1.mramClass addr = 1 then
      let s3 := { s2 with mem.mramFlips := Sparse.set (always 0) s2.mem.mramFlips (addr / 16) 0 }
      .next (if addr < mramLog then s3.sectorWritten addr else s3)
    else .next s2

end Sys2Proof.Machine
end

