-- ==== Sys2Proof/Machine/PairOps.lean ====
section
/-! DEFINITION. Warden pairs and the debugger: divergence, split, supervision, halt and access (19_paired_execution.md; R468,
24_register_map.md). States of PAIR_STATUS: 1 in service, 2 diverged, 3 split, 6 halted, 7 unverified, 8 lost. -/

namespace Sys2Proof.Machine

/-- Warden pair `k`. -/
def State.warden (s : State) (k : Nat) : Warden := Sparse.get (always Warden.init) s.pair.wardens k
def State.setWarden (s : State) (k : Nat) (w : Warden) : State :=
  { s with pair.wardens := Sparse.set (always Warden.init) s.pair.wardens k w }

/-- A change of a pair's service shows everywhere its lines, outputs and judgements count (R12, R396, R412, R430). -/
def State.pairsChanged (s : State) : State := (s.refreshAll.refreshSout.tallyShowAll).put R.LEDGER_STATUS_HANDLER s.handler

/-- What pair `k` holds in its Turnstile is discarded: register writes, grants, and assertions of outputs (R380). -/
def State.dropTurnstile (s : State) (k : Nat) : State :=
  let s1 := { s with edge.grants := s.edge.grants.filter (fun g => g.1 ≠ k), edge.synced := s.edge.synced.filter (fun g => g.1 ≠ k),
                     pair.turnstile := s.pair.turnstile.filter (fun x => x.pair ≠ k),
                     net.turnstile := s.net.turnstile.filter (fun e => e.1 ≠ k) }
  s1.setSafePair k { s1.safePair k with rising := 0 }

/-- The pair returns: its lines, scans and connections start as the other pair's, so that no output changes by the return itself (log 45).
The Banister ignores its lines until its first window has compared (R14, R386, R388). -/
def State.pairJoins (s : State) (k : Nat) : State :=
  let o := 1 - k
  let s1 := (List.range 10).foldl (fun (t : State) u => t.setLines k u (t.lines o u)) s
  let s2 := tallyConns.foldl (fun (t : State) c => t.setRx k c (t.rx o c)) (s1.setSafePair k (s1.safePair o))
  ({ s2 with pair.fresh := Sparse.set (always false) s2.pair.fresh k true }.setPairSt k 1).pairsChanged

/-- A halt of target `t` by the debugger ends: its written registers are the core's own business again. -/
def State.dbgEnd (s : State) (t : Nat) : State :=
  { s with pair.dbgHalted := Sparse.set (always false) s.pair.dbgHalted t false
           pair.dbgRegs := s.pair.dbgRegs.filter fun e => e.1 / 4096 ≠ t }

/-- A target is halted. -/
def State.dbgIsHalted (s : State) (t : Nat) : Bool := Sparse.get (always false) s.pair.dbgHalted t

/-- DBG_STATUS.HALTED follows the chosen target. -/
def State.dbgShow (s : State) : State := s.putB R.DBG_STATUS_HALTED (s.dbgIsHalted (s.get R.DBG_CTRL_TARGET))

/-- The replay queue of pair `k` is emptied into the checker (R389). -/
def State.replayed (s : State) (k : Nat) : State := (s.setWarden k { s.warden k with replay := [] }).put (R.PAIR_W_STAT_REPLAY k) 0

/-- A Warden pair diverges (R380-R382): it leaves service at once, its Turnstile is discarded, and a record it was handling goes back to the
head of the queue for the other pair (R381), which writes the Landing 0 words anew. A pair that a debugger halts resumes and holds
Landing 0 alone (R382).
`main` and `checker` are the bits inverted in its two signatures, which fold instructions that the spec does not give (log 57). -/
def State.wardenDiverge (s : State) (k cause main checker : Nat) : State :=
  let o := 1 - k
  let w := s.warden k
  let sig := (Config.freeWord 0x75 s.free ++ Config.freeWord 0x76 s.free).toNat
  let s0 := if s.pairSt o = 6 then ((s.dbgEnd o).replayed o |>.pairJoins o).dbgShow else s
  let s1 := (s0.divNote k cause w.window (sig ^^^ main) (sig ^^^ checker)).setWarden k { s0.warden k with divergences := w.divergences + 1 }
  let s2 := (s1.setPairSt k (if w.divergences = 0 then 2 else 8)).dropTurnstile k
  let s3 :=
    match s2.led.inHand with
    | some r => if s.handler = k then { s2 with led.inHand := none, led.queue := { r with flags := r.flags ||| 4 } :: s2.led.queue } else s2
    | none => s2
  let s4 := s3.raise 0x1001 (if s3.inService o then 1 else 2) 0x10 (w32 w.window) (w32 cause)
  let s5 := (if s3.led.inHand.isNone then s4.put R.LEDGER_STATUS_IN_HAND 0 else s4).pairsChanged
  if s5.inService o then s5.refreshLimits.refreshHold else s5

/-! ### Split and rejoin (R385-R387) -/

/-- Warden A splits (R386): its Turnstile drains, the snapshot and the record, tokens at 0, and A's grants withdrawn. The layout of the
snapshot in Warden private memory, which no rule lets anyone else read, is not given and not shown (log 45). -/
def State.splitA (s : State) : State :=
  let s1 := ((((s.flushTurnstile 0).releaseFrames 0).dropTurnstile 0).setPairSt 0 3).raise 0x1005 0 0x10
  let s2 := ((List.range 10).foldl (fun (t : State) u => t.setLines 0 u { t.lines 0 u with enable := false }) s1)
  let s3 := (s2.put (R.PAIR_CHECKIN_TOKEN 0) 0).put (R.PAIR_CHECKIN_TOKEN 1) 0
  ({ s3 with pair.coreHalted := [], pair.checkAt := Sparse.set (always 0) (Sparse.set (always 0) [] 0 s.atime) 1 s.atime }).pairsChanged

/-- Warden A's cores rejoin (R386): the state of A0 goes to A1, and after a good canary sweep the pair is in service. -/
def State.rejoinA (s : State) (good : Bool) : State :=
  let w := s.warden 0
  let s1 := (((s.dbgEnd 2).dbgEnd 3).setWarden 0 { w with rejoins := w.rejoins + (if s.pairSt 0 = 2 then 1 else 0) }).dbgShow
  if good then (s1.pairJoins 0).raise 0x1006 0 0x10
  else
    let s2 := s1.wardenDiverge 0 3 0 0
    (s2.setPairSt 0 2).setWarden 0 { s2.warden 0 with rejoins := 1 }

/-- The pairs as target. -/
def pairTargets : List Nat := [0x10]

/-- PAIR_CTRL (R387): byte 16 the action, 0 SPLIT or 1 REJOIN, byte 17 the pair; `good` is what the canary sweep of a rejoin finds.
A SPLIT needs Warden A in service, and a REJOIN a split or once diverged Warden A (log 45). -/
def State.pairCtrl (s : State) (c : Cmd) (good : Bool) : Out :=
  let act := arg c 16 1
  let st := s.pairSt 0
  if !s.targets c pairTargets then refuse s c .badParam
  else if !s.modeOk 0x0140 false || (act == 0 && !(s.md = .standby || s.md = .service || s.md = .commission)) ||
      (act == 1 && st == 2 && !(s.md = .standby || s.md = .service)) then refuse s c .rejectedMode
  else if short c 2 || decide (1 < act) || arg c 17 1 ≠ 0 || natBit (s.get R.SYS_STRAP_LATCHED) 2 then refuse s c .badParam
  else if act = 0 then
    if st ≠ 1 || !s.inService 1 then refuse s c .badParam
    else let s1 := s.splitA; .next (s1.finish c .ok (s1.pairSt 0))
  else if st = 3 || (st == 2 && (s.warden 0).rejoins == 0) then
    let s1 := s.rejoinA good
    .next (if good then s1.finish c .ok (s1.pairSt 0) else s1.begin c)
  else refuse s c .badParam

/-- PAIR_SPLIT (R386, R387): a PAIR_CTRL whose action is not REJOIN. -/
def execPairSplit (c : Cmd) (s0 : State) : Out :=
  s0.command c 0x0140 fun s => if arg c 16 1 = 1 then .next s else s.pairCtrl c true

/-- PAIR_REJOIN (R386, R387): a PAIR_CTRL whose action is REJOIN; `good` says whether the canary sweep of step 4 passes. -/
def execPairRejoin (c : Cmd) (good : Bool) (s0 : State) : Out :=
  s0.command c 0x0140 fun s => if arg c 16 1 = 1 then s.pairCtrl c good else .next s

/-- PAIR_STATUS (R387). -/
def execPairStatus (c : Cmd) (s0 : State) : Out :=
  s0.command c 0x0141 fun s =>
  if !s.targets c pairTargets then refuse s c .badParam
  else if !s.modeOk 0x0141 true then refuse s c .rejectedMode
  else .next (s.finish c .ok (pair64 (s.rd R.PAIR_STATUS).toNat (s.rd R.PAIR_DIV_INFO).toNat))

/-! ### Supervision of a split Warden A (R385) -/

/-- A missed or wrong check-in halts the core, closes its Hall path and raises 0x1008. -/
def State.coreMiss (s : State) (j : Nat) : State :=
  ({ s with pair.coreHalted := Sparse.set (always false) s.pair.coreHalted j true }).raise 0x1008 1 0x10

/-- A write of PAIR_CHECKIN_j by core j (R385): Warden B checks the token. -/
def State.checkIn (s : State) (w : Writer) (j : Nat) (v : Word) : State :=
  if !((j = 0 && w = .coreA0) || (j = 1 && w = .coreA1)) || !s.coreRuns j || !s.inService 1 then s
  else
    let old := s.get (R.PAIR_CHECKIN_TOKEN j)
    let s1 := s.put (R.PAIR_CHECKIN_TOKEN j) (bitsOf v 15 0)
    if bitsOf v 15 0 = (old + 1) % 65536 then { s1 with pair.checkAt := Sparse.set (always 0) s1.pair.checkAt j s1.atime } else s1.coreMiss j

/-- PAIR_CHECKIN (R385). -/
def execPairCheckin (w : Writer) (j : Nat) (v : Word) (s0 : State) : Out :=
  s0.windowWrite w 0x10 fun s =>
  .next (s.checkIn w j v)

/-- SUPERVISION_MISS (R385): core `j` has not checked in within SUP_TIME. -/
def execSupervisionMiss (j : Nat) (s : State) : Out :=
  let late := decide (s.get R.PAIR_SUP_CFG_SUP_TIME ≤ s.since (Sparse.get (always 0) s.pair.checkAt j))
  if s.coreRuns j && s.inService 1 && late then .next (s.coreMiss j) else .next s

/-- A field engine diverges between comparisons (R380): its tick in progress is not released and counts as missed. -/
def State.engineDiverge (s : State) (n cause main checker : Nat) : State :=
  let e := s.eng n
  if e.inTick then (((if e.faulted then s else s.missTick n).feDiverge n cause main checker).tlmSample n).abortTick n
  else s.feDiverge n cause main checker

/-- DIVERGENCE (R380): unit 0 or 1 is a Warden pair in service, 0x80 + n field engine n; cause, and the bits inverted in the two signatures. -/
def execDivergence (unit cause main checker : Nat) (s : State) : Out :=
  if unit < 2 then
    if s.running && s.inService unit then .next (s.wardenDiverge unit (cause % 4) main checker) else .next s
  else if 0x80 ≤ unit ∧ unit < 0x88 then
    if s.running && s.bitAt R.PAIR_STATUS_FE_IN_SERVICE (unit - 0x80) then .next (s.engineDiverge (unit - 0x80) (cause % 4) main checker) else .next s
  else .next s

/-! ### Debug (R388, R389, R468, R469) -/

/-- A refused action sets REFUSED and does nothing else. -/
def State.dbgRefuse (s : State) : State := s.putB R.DBG_STATUS_REFUSED true

/-- The target exists: a pair, or a core of a split Warden A (R468). -/
def State.dbgTargetOk (s : State) (t : Nat) : Bool := decide (t < 2) || s.pairSt 0 = 3

/-- Halt, step and writes are allowed: SERVICE or COMMISSION, with SEAL_3 latched (R388, R468). -/
def State.dbgMayChange (s : State) : Bool := (s.md = .service || s.md = .commission) && natBit (s.get R.SYS_STRAP_LATCHED) 3

/-- The pair of a target. -/
def dbgPair (t : Nat) : Nat := if t = 1 then 1 else 0

/-- Target `t` debugs a pair, not a single core: its actions enter the replay queue (R388). -/
def dbgPaired (t : Nat) : Bool := decide (t < 2)

/-- An accepted action enters the replay queue (R389): a running pair applies it at once, a halted one keeps it until its next step or
resume; the 65th entry leaves the pair unverified. -/
def State.replayAct (s : State) (t kind addr : Nat) (data : Word) : State :=
  if !dbgPaired t || !s.dbgIsHalted t then s
  else
    let w := s.warden t
    let q := w.replay ++ [{ kind := kind, addr := addr, data := data, stamp := (s.rd (R.PAIR_W_RETIRED t)).toNat }]
    if 64 < q.length then
      ((((s.dbgEnd t).setPairSt t 7).putB (R.PAIR_W_STAT_REPLAY_OVF t) true).raise 0x1007 1 0x10).dbgShow.pairsChanged
    else (s.setWarden t { w with replay := q }).put (R.PAIR_W_STAT_REPLAY t) q.length

/-- The TARGET of DBG_CTRL is chosen; a core target without a split is refused (R468). -/
def State.dbgSelect (s : State) (t : Nat) : State × Bool :=
  if s.dbgTargetOk t then ((s.put R.DBG_CTRL_TARGET t).dbgShow, true) else (s.dbgRefuse, false)

/-- HALT (R388): refused unless the other Warden pair is in service and paired; a halted pair is out of service for the Banister. -/
def State.dbgHalt (s : State) (t : Nat) : State :=
  if !s.dbgMayChange || !s.inService (1 - dbgPair t) || s.dbgIsHalted t || (dbgPaired t && !s.inService t) then s.dbgRefuse
  else
    let s1 := ({ s with pair.dbgHalted := Sparse.set (always false) s.pair.dbgHalted t true }).dbgShow
    if dbgPaired t then (s1.setPairSt t 6).pairsChanged else s1

/-- STEP (R389, R468): the halted target retires one instruction; what waits in the replay queue goes to the checker. -/
def State.dbgStep (s : State) (t : Nat) : State :=
  if !s.dbgMayChange || !s.dbgIsHalted t then s.dbgRefuse
  else
    let s1 := { s with pair.dbgRegs := s.pair.dbgRegs.filter fun e => e.1 / 4096 ≠ t }
    if dbgPaired t then (s1.replayed t).wr (R.PAIR_W_RETIRED t) (s1.rd (R.PAIR_W_RETIRED t) + 1) else s1

/-- RESUME (R388, R389): a halted pair returns to service. -/
def State.dbgResume (s : State) (t : Nat) : State :=
  if !s.dbgIsHalted t then s.dbgRefuse
  else
    let s1 := (s.dbgEnd t).dbgShow
    if dbgPaired t then (s1.replayed t).pairJoins t else s1

/-- A write of DBG_CTRL with one action (R464, R468). -/
def State.dbgCtrl (s : State) (w : Writer) (t : Nat) (act : State → Nat → State) : State :=
  if !s.running || !s.mayWrite w 0x16 then s
  else
    match s.dbgSelect (t % 4) with
    | (s1, true) => act s1 (t % 4)
    | (s1, false) => s1

/-- DBG_HALT (R388). -/
def execDbgHalt (w : Writer) (t : Nat) (s0 : State) : Out :=
  s0.windowWrite w 0x16 fun s =>
  .next (s.dbgCtrl w t State.dbgHalt)

/-- DBG_STEP (R468). -/
def execDbgStep (w : Writer) (t : Nat) (s0 : State) : Out :=
  s0.windowWrite w 0x16 fun s =>
  .next (s.dbgCtrl w t State.dbgStep)

/-- DBG_RESUME (R468). -/
def execDbgResume (w : Writer) (t : Nat) (s0 : State) : Out :=
  s0.windowWrite w 0x16 fun s =>
  .next (s.dbgCtrl w t State.dbgResume)

/-- The core of a target, as an initiator. -/
def dbgWriter (t : Nat) : Writer :=
  match t with
  | 0 => .wardenA
  | 1 => .wardenB
  | 2 => .coreA0
  | _ => .coreA1

/-- The memory access a debugger makes through its target (R129, R468). -/
def State.dbgAccess (s : State) (t : Nat) (write : Bool) (v : Word) : State :=
  let a : Access := { who := dbgWriter t, gallery := none, engine := none, portD := false, write := write, addr := 4 * s.get R.DBG_ADDR_ADDR,
                      size := 4, data := v.toNat, other := none, ecc := noHit }
  s.sramAccess a

/-- DBG_MEM_READ (R388, R468): a read of DBG_DATA returns the word at ADDR, or zero with ERR set. -/
def execDbgMemRead (s : State) : Out :=
  let t := s.get R.DBG_CTRL_TARGET
  if !s.running then .next s
  else if !s.md.fromDiscover || !s.dbgTargetOk t then .next s.dbgRefuse
  else
    let s1 := s.dbgAccess t false 0
    let ok := s1.store.resp = respOk
    let s2 := (s1.wr R.DBG_DATA (if ok then w32 s1.store.data else 0)).onlyIf (!ok) fun x => x.putB R.DBG_STATUS_ERR true
    .next (s2.replayAct t 3 (4 * s.get R.DBG_ADDR_ADDR) 0)

/-- A debugger's write of the word at ADDR (R388, R389, R468). -/
def State.dbgMemWrite (s : State) (w : Writer) (v : Word) : State :=
  let t := s.get R.DBG_CTRL_TARGET
  if !s.running || !s.mayWrite w 0x16 then s
  else if !s.dbgMayChange || !s.dbgTargetOk t then s.dbgRefuse
  else
    let s1 := (s.wr R.DBG_DATA v).dbgAccess t true v
    let s2 := s1.onlyIf (s1.store.resp ≠ respOk) fun x => x.putB R.DBG_STATUS_ERR true
    s2.replayAct t 1 (4 * s.get R.DBG_ADDR_ADDR) v

/-- DBG_MEM_WRITE (R468). -/
def execDbgMemWrite (w : Writer) (v : Word) (s0 : State) : Out :=
  s0.windowWrite w 0x16 fun s =>
  .next (s.dbgMemWrite w v)

/-- Register `i` of a target's main copy: what the debugger wrote since the halt, else a value the spec does not give. -/
def State.dbgReg (s : State) (t i : Nat) : Word :=
  (Sparse.get (always none) s.pair.dbgRegs (4096 * t + i)).getD (Config.freeWord (0x1000 + i) s.free)

/-- DBG_REG_READ (R468): a read of DBG_REG_DATA returns register INDEX. -/
def execDbgRegRead (s : State) : Out :=
  let t := s.get R.DBG_CTRL_TARGET
  let i := s.get R.DBG_REG_INDEX_INDEX
  if !s.running then .next s
  else if !s.md.fromDiscover || !s.dbgTargetOk t then .next s.dbgRefuse
  else .next (((s.wr R.DBG_REG_DATA (s.dbgReg t i)).useFree).replayAct t 3 i 0)

/-- A debugger's write of register INDEX, while the target is halted (R468). -/
def State.dbgRegWrite (s : State) (w : Writer) (v : Word) : State :=
  let t := s.get R.DBG_CTRL_TARGET
  let i := s.get R.DBG_REG_INDEX_INDEX
  if !s.running || !s.mayWrite w 0x16 then s
  else if !s.dbgMayChange || !s.dbgTargetOk t || !s.dbgIsHalted t then s.dbgRefuse
  else
    let s1 := { s.wr R.DBG_REG_DATA v with pair.dbgRegs := Sparse.set (always none) s.pair.dbgRegs (4096 * t + i) (some v) }
    s1.replayAct t 0 i v

/-- DBG_REG_WRITE (R468). -/
def execDbgRegWrite (w : Writer) (v : Word) (s0 : State) : Out :=
  s0.windowWrite w 0x16 fun s =>
  .next (s.dbgRegWrite w v)

end Sys2Proof.Machine
end

