-- ==== Sys2Proof/Machine/Ledger.lean ====
section
/-! DEFINITION. The fault ledger, its MRAM log, and commissioning commands (22_ledger_degraded_commissioning.md). -/

namespace Sys2Proof.Machine

/-! ### The log (R433) -/

/-- FLAGS of a record (R427). -/
def flagHandled : Nat := 1
def flagPreempted : Nat := 2
def flagMerged : Nat := 8
def flagOverflow : Nat := 16

/-- A record with a FLAGS bit set. -/
def Rec.mark (r : Rec) (f : Nat) : Rec := { r with flags := r.flags ||| f }

/-- The codes a unit may raise (R428). -/
def codeKnown (c : Nat) : Bool :=
  match c / 256 with
  | 0x00 => 1 ≤ c % 256 ∧ c % 256 ≤ 8
  | 0x01 => c = 0x0101 ∨ c = 0x0102
  | 0x02 => c = 0x0201
  | 0x05 => c = 0x0501 ∨ c = 0x0502
  | 0x06 => 1 ≤ c % 256 ∧ c % 256 ≤ 8
  | 0x07 => c = 0x0701 ∨ c = 0x0702
  | 0x08 => (0x02 ≤ c % 256 ∧ c % 256 ≤ 0x0B) ∨ (0x20 ≤ c % 256 ∧ c % 256 ≤ 0x27) ∨ 0x40 ≤ c % 256
  | 0x0A => c = 0x0A01 ∨ c = 0x0A03 ∨ c = 0x0A04
  | 0x0B => c = 0x0B01 ∨ c = 0x0B02 ∨ c = 0x0B03 ∨ c = 0x0B05
  | 0x0C => 1 ≤ c % 256 ∧ c % 256 ≤ 3
  | 0x0D => 1 ≤ c % 256 ∧ c % 256 ≤ 4
  | 0x0E => 1 ≤ c % 256 ∧ c % 256 ≤ 5
  | 0x0F => (1 ≤ c % 256 ∧ c % 256 ≤ 6) ∨ c = 0x0F10 ∨ c = 0x0F11
  | 0x10 => c = 0x1001 ∨ c = 0x1002 ∨ (5 ≤ c % 256 ∧ c % 256 ≤ 9)
  | 0x11 => (1 ≤ c % 256 ∧ c % 256 ≤ 6) ∨ c = 0x1110 ∨ c = 0x1111 ∨ (0x13 ≤ c % 256 ∧ c % 256 ≤ 0x16)
  | 0x12 => c = 0x1201 ∨ c = 0x1202
  | 0x13 => 1 ≤ c % 256 ∧ c % 256 ≤ 6
  | 0x14 => 1 ≤ c % 256 ∧ c % 256 ≤ 5
  | 0x15 => 1 ≤ c % 256 ∧ c % 256 ≤ 4
  | _ => false

/-- The severity of a record (R176, R191, R428, R429): the code fixes it, but for codes that an EVT raises (R182), uncorrectable errors, whose
region decides (R151), and a Warden's divergence (R380), where it is `given`. -/
def State.codeSev (s : State) (code unit : Nat) (ctx0 : Word) (given : Nat) : Nat :=
  if 0x0840 ≤ code ∧ code ≤ 0x08FF then given
  else if code = 0x0605 ∨ code = 0x0606 ∨ code = 0x1001 then min 2 given
  else if code = 0x0806 ∨ code = 0x1002 then s.missSeverity (unit % 8)
  else if 0x0820 ≤ code ∧ code ≤ 0x0827 then s.get (R.FE_PLAUS_SEV_SEV (unit % 8) (code % 8))
  else if code = 0x0B01 ∨ code = 0x0B02 ∨ code = 0x0B03 then (if 0x80 ≤ unit ∧ unit < 0x88 then s.missSeverity (unit % 8) else 0)
  else if code = 0x0102 then (if ctx0.toNat < 4 then 2 else 1)
  else if [0x0001, 0x0002, 0x0004, 0x0005, 0x0008, 0x0607, 0x0701, 0x0A04, 0x0C01, 0x1102, 0x1104, 0x1110, 0x1116, 0x1301].contains code then 2
  else if [0x0003, 0x0604, 0x0702, 0x0D02, 0x0D03, 0x0E01, 0x0E04, 0x0F01, 0x0F11, 0x1007, 0x1008, 0x1103, 0x1202].contains code then 1
  else 0

/-- The log in MRAM holds 15,360 records; a further one takes the place of the oldest. -/
def logPut (l : List Rec) (r : Rec) : List Rec :=
  let l1 := l ++ [r]
  l1.drop (l1.length - 15360)

/-- The write buffer without its oldest S0 record; none where it holds none. -/
def dropNote : List Rec → Option (List Rec)
  | [] => none
  | r :: t => if r.sev = 0 then some t else (dropNote t).map (r :: ·)

/-- An S0 record has been discarded. -/
def State.logDropped (s : State) : State := { s.putB R.LEDGER_STATUS_LOG_DROP true with led.dropped := true }

/-- A record enters the write buffer of 256 records; a full buffer makes room (R433). -/
def State.logRec (s : State) (r : Rec) : State :=
  if s.led.buffer.length < 256 then { s with led.buffer := s.led.buffer ++ [r] }
  else
    match dropNote s.led.buffer with
    | some l => { s with led.buffer := l ++ [r] }.logDropped
    | none => if r.sev = 0 then s.logDropped else { s with led.waiting := s.led.waiting ++ [r] }

/-- One 0x1302 LOG_DROP is due once the buffer has fallen below half full after a discard. -/
def State.tellDrop (s : State) : State :=
  if s.led.dropped && decide (s.led.buffer.length < 128) then { s with led.dropped := false }.raise 0x1302 0 0x13 else s

/-- The oldest buffered record is written to MRAM, and a waiting one takes its place (R433). -/
def State.ledgerDrain (s : State) : State :=
  match s.led.buffer with
  | [] => s
  | r :: t =>
    let s1 := { s with led.log := logPut s.led.log r, led.buffer := t ++ s.led.waiting.take 1, led.waiting := s.led.waiting.drop 1 }
    s1.tellDrop

/-- LEDGER_MRAM_WRITE (R433). -/
def execLedgerMramWrite (s : State) : Out := if s.running then .next s.ledgerDrain else .next s

/-! ### What a record does (R45, R176, R275, R434) -/

/-- Bytes 0 to 3 of a record. -/
def Rec.head (r : Rec) : Word := w32 (r.code % 65536 + (r.sev % 4 + 4 * (r.scope % 4) + 16 * (r.func % 16)) * 2 ^ 16 + r.unit % 256 * 2 ^ 24)

/-- The record is reported (R434); an S1 or S2 record drives FAULT_N low. -/
def State.report (s : State) (r : Rec) : State :=
  let s1 := s.event 0x6001 0x13 r.head r.ctx0 r.ctx1 (w32 r.tick)
  if r.sev = 1 ∨ r.sev = 2 then { s1 with led.faultN := true } else s1

/-- FAULT_N is driven low (R67, R434): in a reset, while the latch drives, in SAFE_STOP, or for a record not yet cleared; not while its
bank VIO_0 is lost or its pad isolated (R58, R71). -/
def State.faultPin (s : State) : Bool :=
  s.bankLive 0 && (s.pwr.power = .reset || s.pwr.latchDrives || s.md = .safeStop || s.led.faultN)

/-- A force of the Wardens for a recapture ends: unless the set is out, in SAFE_STOP or forced by the table, it gets a new grant (R275). -/
def State.recaptureEnd (s : State) (u : Nat) : State :=
  let sto := (s.lines 0 u).forceSto || (s.lines 1 u).forceSto
  if !sto || s.isOut u || s.md = .safeStop || s.tableForces 0 u || s.tableForces 1 u then s
  else
    let s1 := { s with edge.recap := Sparse.set (always false) s.edge.recap u false }.unforceUnit u
    if s1.modeGrants u then s1.askGrant u else s1

/-- What the Wardens do for an S0 record: 0x0846 asserts and ends FORCE_STO of a freewheel recapture (R275). -/
def State.noteAct (s : State) (r : Rec) : State :=
  let u := r.unit - 0x80
  if r.code = 0x0846 ∧ 0x80 ≤ r.unit ∧ r.unit < 0x84 then
    (if r.ctx0 = 0 then { s with edge.recap := Sparse.set (always false) s.edge.recap u true }.forceUnit u false else if r.ctx0 = 1 ∨ r.ctx0 = 2 then s.recaptureEnd u else s)
  else s

/-- The codes whose reaction is R176's table, by the function `own`. -/
def ofTable (c : Nat) : Bool := c = 0x0806 || c = 0x1002 || (decide (0x0B01 ≤ c) && decide (c ≤ 0x0B03)) || c = 0x0848 || c = 0x0849

/-- Landing 0 removes what an S1 record concerns (R11, R45, R176): a set of a pair, the converter, the charger, an actuator engine's
bridges; for codes whose own block latches, that latch is the hold. -/
def State.degradeAct (s : State) (r : Rec) : State :=
  if ofTable r.code then
    (if 0x80 ≤ r.own ∧ r.own < 0x84 then s.loseSet (r.own - 0x80) else (targetUnits r.own).foldl State.disable s)
  else if r.code = 0x0850 then s.disable unitConv
  else if r.code = 0x0F11 then s.disable unitCharger
  else s

/-- The mode in which a degrading record sets DEGRADE_MARK without a change of mode (R45). -/
def Mode.marks (m : Mode) : Bool := m.discoverToDegraded && !(m = .drive) && !(m = .degraded)

/-- The Banister, limit and mode actions of an S1 or S2 record (R45, R431). -/
def State.recAct (s : State) (r : Rec) : State :=
  if r.sev = 2 then
    let s1 := s.trigger 1 precStop r.code
    if r.code / 256 = 0x0D then s1.disable unitConv else s1
  else
    let s1 := s.degradeAct r
    if r.scope = 1 then
      let s2 := if s1.md.marks then s1.putB R.SYS_MODE_DEGRADE_MARK true else s1
      s2.trigger 1 precS1 r.code
    else s1

/-! ### The queue (R431, R432) -/

/-- QUEUE, HIGH and IN_HAND follow the queue. -/
def State.showQueue (s : State) : State :=
  let n := s.led.queue.length
  let s1 := s.put R.LEDGER_STATUS_QUEUE n
  let s2 := if s1.get R.LEDGER_STATUS_HIGH < n then s1.put R.LEDGER_STATUS_HIGH n else s1
  s2.put R.LEDGER_STATUS_IN_HAND (match s2.led.inHand with | some r => r.sev | none => 0)

/-- A record put at the head of its severity. -/
def requeue (r : Rec) : List Rec → List Rec
  | [] => [r]
  | x :: t => if x.sev = r.sev then r :: x :: t else x :: requeue r t

/-- A record of severity `sev` pre-empts one of lower severity in hand, which returns to the head of its severity (R431). -/
def State.preempt (s : State) (sev : Nat) : State :=
  match s.led.inHand with
  | some h => if h.sev < sev then { s with led.inHand := none, led.queue := requeue (h.mark flagPreempted) s.led.queue } else s
  | none => s

/-- An S1 or S2 record joins the queue, is merged, or overflows it (R432). -/
def State.enqueue (s : State) (r : Rec) : State :=
  if s.led.queue.any (fun x => x.code = r.code && x.unit = r.unit) then s.logRec (r.mark flagMerged)
  else if s.led.queue.length < 64 then { s with led.queue := s.led.queue ++ [r] }.preempt r.sev
  else ((s.logRec (r.mark flagOverflow)).putB R.LEDGER_STATUS_OVERFLOW true).raise 0x1301 2 0x13 (w32 r.code)

/-- A record reaches the handler (R431): S0 is logged, S1 and S2 are queued, and 0x1301 is taken ahead of the queue. -/
def State.receive (s : State) (r : Rec) : State :=
  let s1 := s.report r
  if r.sev = 0 then (s1.logRec r).noteAct r
  else if r.code = 0x1301 then (((s1.preempt 2).recAct r).logRec (r.mark flagHandled)).showQueue
  else (s1.enqueue r).showQueue

/-- An S3 record (R431, R433): it is written first, then `written` buffered records, oldest first, and the reset source LEDGER asserts. -/
def State.receiveReset (s : State) (r : Rec) (written : Nat) : State :=
  let s1 := (s.report r).abandonForReset.deliverAll
  let all := s1.led.buffer ++ s1.led.waiting
  { s1 with led.log := (all.take written).foldl logPut (logPut s1.led.log (r.mark flagHandled)) }.enterReset srcLedger false

/-- A record of a unit outside the model is raised ahead of the others. -/
def State.raiseIn (s : State) (x : RecIn) : State :=
  if codeKnown x.code then
    let t := s.raise x.code (s.codeSev x.code (x.unit % 256) x.ctx0 (x.sev % 4)) (x.unit % 256) x.ctx0 x.ctx1
    let l := t.led.arriving
    { t with led.arriving := (l.drop (l.length - 1)).map (fun (y : Rec) => { y with tick := x.tick }) ++ l.take (l.length - 1) }
  else s

/-- A record tells of a both-high request that a pad stage refused (R203). -/
def tellsInterlock (r : Option RecIn) : Bool :=
  match r with
  | some x => x.code = 0x0A04
  | none => false

/-- LEDGER_RECORD (R431): a record of a unit outside the model, or the oldest one raised, arrives at the handler. INTERLOCK sets whether or not a
pair is there to handle its record (R203). -/
def execLedgerRecord (r : Option RecIn) (written : Nat) (s0 : State) : Out :=
  let s := s0.onlyIf (tellsInterlock r && s0.running) fun y => y.putB R.EDGE_STATUS_INTERLOCK true
  if !s.running || s.pairsLost then .next s
  else
    let s1 := match r with
      | none => s
      | some x => s.raiseIn x
    match s1.led.arriving with
    | [] => .next s1
    | h :: t =>
      let s2 := { s1 with led.arriving := t }
      .next (if h.sev = 3 then s2.receiveReset h written else s2.receive h)

/-- The record in hand is finished: logged as handled. -/
def State.finishRec (s : State) : State :=
  match s.led.inHand with
  | some h => { s with led.inHand := none }.logRec (h.mark flagHandled)
  | none => s

/-- The record that starts next: the first of the highest severity queued. -/
def nextRec (l : List Rec) : Option Rec :=
  match l.find? (fun r => r.sev = 2) with
  | some r => some r
  | none => l.head?

/-- The next queued record is handled whole: its actions, and the log (R431). -/
def State.startRecord (s : State) : State :=
  match nextRec s.led.queue with
  | none => s.showQueue
  | some r => (({ s with led.queue := s.led.queue.erase r, led.inHand := some r }.recAct r).finishRec).showQueue

/-- LEDGER_RECORD_START (R431): a record in hand is done; the next one starts and its actions are applied. With `cut`, something else
happens before it is done, and it stays in hand. -/
def execLedgerRecordStart (cut : Bool) (s : State) : Out :=
  if !s.running || s.pairsLost then .next s
  else
    let s1 := s.finishRec
    match nextRec s1.led.queue with
    | none => .next s1.showQueue
    | some r =>
      let s2 := { s1 with led.queue := s1.led.queue.erase r, led.inHand := some r }.recAct r
      .next (if cut then s2.showQueue else s2.finishRec.showQueue)

/-! ### Before a reset -/

/-- Every record raised has reached the handler. -/
def State.receiveAll (s : State) : State :=
  (s.led.arriving.filter fun (r : Rec) => r.sev ≠ 3).foldl State.receive { s with led.arriving := [] }

/-- The write buffer is written out in full, with the LOG_DROP that this makes due (R71, R433). -/
def State.writeOut (s : State) : State :=
  let out (t : State) : State :=
    { t with led.log := (t.led.buffer ++ t.led.waiting).foldl logPut t.led.log, led.buffer := [], led.waiting := [] }
  (out s.receiveAll).tellDrop.receiveAll |> out

/-- The ledger queue is written to MRAM ahead of HIBERNATE (R71): the record in hand and the queued ones enter the write buffer as they stand. -/
def State.writeQueue (s : State) : State :=
  let l := (match s.led.inHand with | some r => [r] | none => []) ++ s.led.queue
  ({ s with led.inHand := none, led.queue := [] }.each l State.logRec).showQueue

/-- Every result produced is issued, in the collector's order (R103). -/
def State.issueAll (s : State) : State :=
  let queued := (List.range 5).foldl (fun l g => l ++ Sparse.get (always []) s.host.intake g) []
  { s with host.intake := [], host.pendingSlots := [], host.results := [] }.each (queued ++ s.host.pendingSlots ++ s.host.results) State.issue

/-- The warm reset CMD after a command (R48, R440): its completion is issued first and the write buffer written out. -/
def State.commandReset (s : State) : State := (s.issueAll.writeOut.abandonForReset.deliverAll).enterReset srcCmd false

/-! ### Commands (R435, R441, R443) -/

/-- The Ledger as target. -/
def ledgerTargets : List Nat := [0x13]

/-- The 32 bytes of a record (R427). -/
def Rec.bytes (r : Rec) : List Byte :=
  wordBytes r.head ++ leBytes 8 r.at_.toNat ++ leBytes 4 r.tick ++ wordBytes r.ctx0 ++ wordBytes r.ctx1 ++ leBytes 4 r.seq ++
  leBytes 2 r.boot ++ leBytes 2 r.flags

/-- A record put in its place by SEQ. -/
def bySeq (r : Rec) : List Rec → List Rec
  | [] => [r]
  | x :: t => if r.seq < x.seq then r :: x :: t else x :: bySeq r t

/-- The logged records of a boot with `n` SEQ numbers from `first`, in SEQ order. -/
def logSpan (l : List Rec) (boot first n : Nat) : List Rec :=
  (l.filter fun r => r.boot = boot && decide (first ≤ r.seq) && decide (r.seq < first + n)).foldl (fun a r => bySeq r a) []

/-- LOG_READ (R435). -/
def execLogRead (c : Cmd) (s0 : State) : Out :=
  s0.command c 0x7000 fun s =>
  let n := arg c 22 2
  if !s.targets c ledgerTargets then refuse s c .badParam
  else if !s.modeOk 0x7000 true then refuse s c .rejectedMode
  else if short c 8 || n = 0 || decide (2047 < n) || decide (c.len < 32 * n) then refuse s c .badParam
  else
    let l := logSpan s.led.log (arg c 20 2) (arg c 16 4) n
    let first := match l with | r :: _ => r.seq | [] => 0xFFFFFFFF
    .next (s.finishData c (if l.length = n then .ok else .partialDone) (l.foldr (fun (r : Rec) (b : List Byte) => r.bytes ++ b) []) (pair64 l.length first))

/-- LOG_ERASE (R435): in SERVICE the log is cleared and the boot counter restarts. -/
def execLogErase (c : Cmd) (s0 : State) : Out :=
  s0.command c 0x7001 fun s =>
  if !s.targets c ledgerTargets then refuse s c .badParam
  else if s.md ≠ .service then refuse s c .rejectedMode
  else .next ({ s with led.log := [], led.boots := 0 }.finish c .ok)

/-- FAULT_CLEAR (R434, R435): no record drives FAULT_N any more. -/
def execFaultClear (c : Cmd) (s0 : State) : Out :=
  s0.command c 0x7002 fun s =>
  if !s.targets c ledgerTargets then refuse s c .badParam
  else if !s.modeOk 0x7002 false then refuse s c .rejectedMode
  else .next ({ s with led.faultN := false }.finish c .ok)

/-- COMM_AUTH (R441, R442): the first matching case decides. -/
def execCommAuth (c : Cmd) (s0 : State) : Out :=
  s0.command c 0x0160 fun s =>
  if !s.targets c ledgerTargets then refuse s c .badParam
  else if !s.inPark then refuse s c .rejectedMode
  else if !natBit (s.get R.SYS_STRAP_LATCHED) 0 || decide (3 ≤ s.led.wrongCodes) || s.rd R.LEDGER_COMM_AUTH = 0 then refuse s c .safetyBlocked
  else if short c 8 then refuse s c .badParam
  else if argW c 20 ≠ s.rd R.LEDGER_COMM_AUTH then
    .next (({ s with led.wrongCodes := s.led.wrongCodes + 1 }.raise 0x1306 0 0x13).finish c .badParam)
  else .next ({ s with led.auth := some s.atime }.finish c .ok)

/-- COMM_AUTH_EXPIRY (R441): 10 s after the completion the authorisation ends. -/
def execCommAuthExpiry (s : State) : Out :=
  match s.led.auth with
  | some t => if 10000000 ≤ s.since t then .next { s with led.auth := none } else .next s
  | none => .next s

/-- A table of the set, with its length, as numbers. -/
def flat {α : Type} (f : α → List Nat) (l : List (Nat × α)) : List Nat := l.length :: l.foldr (fun e a => e.1 :: (f e.2 ++ a)) []

/-- The content of a parameter set, in the model's order (log 21). -/
def ParamSet.content (p : ParamSet) : List Nat :=
  flat (fun w => [w.toNat]) p.regs ++
  flat (fun o => match o with | some w => [1, w.toNat] | none => [0]) p.feWords ++
  flat (fun w => [w.toNat]) p.feLoop ++
  (p.table.length :: p.table) ++
  flat (fun (o : Option DiscMeas) => match o with | some m => 1 :: m.value :: m.more.length :: m.more | none => [0]) p.disc ++
  flat (fun w => [w.toNat]) p.cal

/-- The check value of the stored set (R439): CRC-32C over its stored bytes. -/
def State.checkNow (s : State) : Word := crc32c 0xFFFFFFFF#32 (Config.setBytes s.led.stored.content)

/-- COMM_CHECK (R440, R443): the check value is computed anew and CHANGED clears. -/
def execCommCheck (c : Cmd) (s0 : State) : Out :=
  s0.command c 0x6000 fun s =>
  if !s.targets c ledgerTargets then refuse s c .badParam
  else if !s.modeOk 0x6000 false then refuse s c .rejectedMode
  else .next (((s.wr R.LEDGER_COMM_CHECK s.checkNow).putB R.LEDGER_COMM_STATUS_CHANGED false).finish c .ok s.checkNow.toNat)

/-- The set is confirmed (R440): the value and the strap pattern are recorded, with 0x1305. -/
def State.confirmSet (s : State) (v : Word) : State :=
  let p := s.get R.SYS_STRAP_LATCHED
  let s1 := ((s.wr R.LEDGER_COMM_CONF v).put R.LEDGER_COMM_STATUS_SEAL_REC p).putB R.LEDGER_COMM_STATUS_CONFIRMED true
  { s1 with led.confirmed := some v, led.sealRec := p }.raise 0x1305 0 0x13 v

/-- COMM_CONFIRM (R440): the present check value with CHANGED = 0 is confirmed, and a warm reset leads to BOOT. -/
def execCommConfirm (c : Cmd) (s0 : State) : Out :=
  s0.command c 0x6001 fun s =>
  if !s.targets c ledgerTargets then refuse s c .badParam
  else if !s.modeOk 0x6001 false then refuse s c .rejectedMode
  else if short c 8 || argW c 20 ≠ s.rd R.LEDGER_COMM_CHECK || s.flag R.LEDGER_COMM_STATUS_CHANGED || s.mramWorn 0x6001 then refuse s c .badParam
  else .next ((s.confirmSet (argW c 20)).finish c .ok).commandReset

end Sys2Proof.Machine
end

