-- ==== Sys2Proof/Machine/Ownership.lean ====
section
/-! DEFINITION. Masters, election, hand-over and loss of the owner (06_ownership.md), but for the service path. -/

namespace Sys2Proof.Machine

/-- STATE of OWN_STATUS. -/
def State.ownSt (s : State) : Nat := s.get R.OWN_STATUS_STATE
def ownWindowOpen : Nat := 1
def ownHeld : Nat := 2
def ownHandover : Nat := 3
def ownFinal : Nat := 4

/-- The Steward cluster as a master (R85). -/
def stewardMaster : Nat := 2

/-! ### Shared operations -/

/-- The converter voltage of the parameter set, or the program's built-in one (R120, R299). -/
def State.defaultVset (s : State) : Word :=
  match Sparse.get (always none) s.led.stored.feWords (512 * 4 + 336) with
  | some v => v
  | none => fOfNat (if s.get R.CONV_CFG_CLASS = 0 then 14 else 48)

/-- The owner agent of the Steward cluster (R120): zero torque for every set and the default converter voltage, where the mode
accepts them and no LV charge is armed (R306, R327). -/
def State.ownerAgent (s : State) : State :=
  let s1 := if groupAccepts s 0x1000 then
      s.each s.sets fun t n => (t.stage n 337 (fZero false)).stage n 359 ((t.eng n).nextWord 359 + 1)
    else s
  if groupAccepts s1 0x2000 && !s1.lvArmed then { (s1.stage 4 336 s1.defaultVset).convWake with conv.ownVset := some s1.defaultVset } else s1

/-- OWNER changes (R487): OWN_SEQ advances and OWN_CHANGED arises. -/
def State.changeOwner (s : State) (m st prio : Nat) (nonce : Word) : State :=
  let old := s.owner
  let s1 := (((s.put R.OWN_STATUS_OWNER m).put R.OWN_STATUS_STATE st).put R.OWN_STATUS_PRIO prio).wr R.OWN_NONCE nonce
  let s2 := s1.wrapInc R.OWN_STATUS_OWN_SEQ
  let s3 := ({ s2 with own.hbAt := s2.atime }).event 0x0201 0x02 (w32 old) (w32 m) (w32 prio) (w32 (s2.get R.OWN_STATUS_OWN_SEQ))
  if m = stewardMaster then s3.ownerAgent else s3

/-- OWN_HANDOVER_STATE with an outcome (R487). -/
def State.handEvent (s : State) (outcome : Nat) : State :=
  s.event 0x0202 0x02 (w32 outcome) (w32 s.owner) (w32 (s.get R.OWN_STATUS_SUCCESSOR)) (w32 (s.get R.OWN_STATUS_OWN_SEQ))

/-- One operation in flight ends with ABORTED, and what it had running at its unit with it (R48, R121). -/
def State.abortOp (s : State) (o : Op) : State :=
  let s1 := if o.opcode = 0x0131 && o.started then s.endDischarge .aborted else (s.cancelWaits o.master o.tag).result o.master o.tag 3 .aborted 0 false false
  if o.opcode = 0x6010 then s1.endDiscovery else s1

/-- Class B operations of a master end with ABORTED (R121). -/
def State.abortB (s : State) (m : Nat) : State :=
  s.each (s.host.ops.filter fun o => o.master = m && o.cls = 2 && !o.done) State.abortOp

/-- Completions that wait for a master whose link is down are discarded, and their tags freed (R126). -/
def State.discardHeld (s : State) (m : Nat) : State :=
  let mine := s.host.held.filter fun r => r.master = m
  let s1 := { s with host.held := s.host.held.filter fun r => r.master ≠ m, host.reads := s.host.reads.filter fun f => f.master ≠ m }
  s1.each mine fun t r => t.dropOp r.master r.tag

/-- A claim window opens for every PCIe host but a barred one (R118, R126). -/
def State.openWindow (s : State) (barred : Option Nat) : State := { s with own.claims := [], own.barred := barred }

/-- The owner `m` is lost and the Steward cluster owns, with a window open (R126). -/
def State.seizeOwner (s : State) (m : Nat) : State := (s.changeOwner stewardMaster ownWindowOpen 0 0).openWindow (some m)

/-- A hand-over is over: nothing of it is left. -/
def State.handOver (s : State) : State := { s with own.locked := 0, own.confirmed := false, own.oldLost := false }

/-- Ownership stays with the old owner (R124, R127). -/
def State.revert (s : State) : State := (s.handEvent 2).put R.OWN_STATUS_STATE ownHeld |>.handOver

/-- The PCIe owner is lost, by silence (cause 0) or by its link (1) (R126, R127); in a hand-over the successor may still confirm. -/
def State.ownerLost (s : State) (cause : Nat) : State :=
  let m := s.owner
  let s1 := ((s.event 0x0203 0x02 (w32 m) (w32 cause) (w32 (s.get R.OWN_STATUS_OWN_SEQ)) (w32 0)).raise 0x0201 0 0x02).abortB m
  if s1.ownSt = ownHandover then { s1 with own.oldLost := true } else s1.seizeOwner m

/-- The PCIe link of master `m` has gone down (R62, R126, R127). -/
def State.hostGone (s : State) (m : Nat) : State :=
  let s1 := s.discardHeld m
  if s1.ownSt = ownHandover ∧ s1.get R.OWN_STATUS_SUCCESSOR = m then
    (if s1.own.oldLost then (s1.handEvent 3).handOver.seizeOwner s1.owner else s1.revert)
  else if s1.owner = m ∧ s1.own.oldLost = false then s1.ownerLost 1
  else s1

/-! ### Commands (R116, R117) -/

/-- The ELX as target. -/
def elxTargets : List Nat := [0x00]

/-- OWN_QUERY (R116): OWN_STATUS and OWN_NONCE. -/
def execOwnQuery (c : Cmd) (s0 : State) : Out :=
  s0.command c 0x0200 fun s =>
  if !s.targets c elxTargets then refuse s c .badParam
  else if !s.modeOk 0x0200 true then refuse s c .rejectedMode
  else .next (s.finish c .ok (pair64 (s.rd R.OWN_STATUS).toNat (s.rd R.OWN_NONCE).toNat))

/-- The result of an OWN_CLAIM: outcome, owner, its priority, the nonce where the claim won. -/
def State.claimValue (s : State) (outcome : Nat) (nonce : Nat) : Nat :=
  pair64 (outcome + 256 * s.owner + 65536 * s.get R.OWN_STATUS_PRIO) (if outcome = 0 then nonce else 0)

/-- OWN_CLAIM (R117, R118, R120): opens or joins a window, replaces an earlier claim, or completes HELD. -/
def execOwnClaim (c : Cmd) (s0 : State) : Out :=
  s0.command c 0x0201 fun s =>
  if !s.targets c elxTargets then refuse s c .badParam
  else if !s.modeOk 0x0201 true then refuse s c .rejectedMode
  else if short c 8 || c.master = stewardMaster || decide (15 < arg c 16 1) then refuse s c .badParam
  else if s.ownSt = ownHandover then refuse s c .busyRetry
  else if s.ownSt = ownWindowOpen && s.own.barred = some c.master then refuse s c .busyRetry
  else if s.ownSt = ownHeld then .next (s.finish c .ok (s.claimValue 2 0))
  else
    let x : Claim := { master := c.master, tag := c.tag, prio := arg c 16 1, nonce := arg c 20 4, replaced := false }
    let s1 := if s.ownSt = ownWindowOpen then s else (s.put R.OWN_STATUS_STATE ownWindowOpen).openWindow none
    .next { s1.begin c with own.claims := (s1.own.claims.map fun y => if y.master = c.master then { y with replaced := true } else y) ++ [x] }

/-- OWN_HANDOVER (R117, R121): the owner names its successor and the successor's nonce. -/
def execOwnHandover (c : Cmd) (s0 : State) : Out :=
  s0.command c 0x0202 fun s =>
  let k := arg c 16 1
  if !s.targets c elxTargets then refuse s c .badParam
  else if !s.modeOk 0x0202 false then refuse s c .rejectedMode
  else if s.ownSt = ownHandover then refuse s c .busyRetry
  else if short c 8 || c.master = stewardMaster || decide (2 < k) || k = c.master || !s.linkUp k then refuse s c .badParam
  else if c.master ≠ s.owner then refuse s c .notOwner
  else
    let s1 := (s.finish c .ok).put R.OWN_STATUS_STATE ownHandover
    let s2 := (s1.put R.OWN_STATUS_SUCCESSOR k).abortB c.master
    let s3 := { s2 with own := { s2.own with succNonce := arg c 20 4, confirmed := false, handAt := s2.atime, holds := true, oldLost := false,
                                             locked := natSetBit (natSetBit 0 c.master true) k true } }
    .next (s3.handEvent 0)

/-- OWN_CONFIRM (R117, R122): the successor confirms with its nonce, which is ignored of the Steward cluster (R125). -/
def execOwnConfirm (c : Cmd) (s0 : State) : Out :=
  s0.command c 0x0203 fun s =>
  if !s.targets c elxTargets then refuse s c .badParam
  else if !s.modeOk 0x0203 true then refuse s c .rejectedMode
  else if short c 8 || !(s.ownSt = ownHandover) || c.master ≠ s.get R.OWN_STATUS_SUCCESSOR ||
      (c.master != stewardMaster && arg c 20 4 != s.own.succNonce) then refuse s c .badParam
  else .next ({ s with own.confirmed := true }.finish c .ok)

/-! ### The window (R118, R119) -/

/-- The better of two claims: the higher priority, PCIe_A at a tie. -/
def betterClaim (a b : Claim) : Claim := if b.prio < a.prio ∨ (a.prio = b.prio ∧ a.master ≤ b.master) then a else b

/-- The winner among the claims that still take part. -/
def winnerOf (l : List Claim) : Option Claim :=
  (l.filter fun x => !x.replaced).foldl (fun w x => match w with | none => some x | some y => some (betterClaim y x)) none

/-- CLAIM_WINDOW_CLOSE (R119): the best claim wins, or STATE becomes FINAL; every claim completes. -/
def execClaimWindowClose (s : State) : Out :=
  if s.ownSt ≠ ownWindowOpen then .next s
  else
    let l := s.own.claims
    match winnerOf l with
    | none => .next ((s.put R.OWN_STATUS_STATE ownFinal).openWindow none)
    | some w =>
      let s1 := (s.changeOwner w.master ownHeld w.prio (w32 w.nonce)).openWindow none
      let s2 := { s1 with own.lastPrio := Sparse.set (always 0) s1.own.lastPrio w.master w.prio }
      .next (s2.each l fun t x =>
        if t.live x.master x.tag then t.result x.master x.tag 3 .ok (t.claimValue (if x = w then 0 else 1) x.nonce) false false else t)

/-! ### Hand-over (R121-R125) -/

/-- The old owner's Class I and Class R operations have produced their results (R122). -/
def State.drained (s : State) : Bool := !(s.host.ops.any fun o => o.master = s.owner && decide (o.cls < 2) && !o.done)

/-- Ownership passes to the successor (R122, R125); PASSED carries OWN_SEQ after the change. -/
def State.pass (s : State) : State :=
  let k := s.get R.OWN_STATUS_SUCCESSOR
  let s1 := s.event 0x0202 0x02 (w32 1) (w32 s.owner) (w32 k) (w32 ((s.get R.OWN_STATUS_OWN_SEQ + 1) % 256))
  let s2 := if k = stewardMaster then s1.changeOwner k ownFinal 0 0
            else s1.changeOwner k ownHeld (Sparse.get (always 0) s1.own.lastPrio k) (w32 s1.own.succNonce)
  { s2.handOver with own.holds := false }

/-- Ownership passes once confirmed and drained. -/
def State.tryPass (s : State) : State := if s.ownSt = ownHandover && s.own.confirmed && s.drained then s.pass else s

/-- OWNERSHIP_PASS (R122): the later of the confirmation and the old owner's last Class I or R result. -/
def execOwnershipPass (s : State) : Out := .next s.tryPass

/-- STEWARD_SUCCESSOR_CONFIRM (R125): the Steward cluster confirms; the nonce is ignored. -/
def execStewardSuccessorConfirm (s : State) : Out :=
  if s.ownSt = ownHandover ∧ s.get R.OWN_STATUS_SUCCESSOR = stewardMaster then .next ({ s with own.confirmed := true }.tryPass) else .next s

/-- HANDOVER_HOLD_EXPIRY (R123): 2 ms without a pass; torque ramps to zero, and the charger falls to its watchdog's safe defaults. A
reversion leaves the hold as it is (R124, R127). -/
def execHandoverHoldExpiry (s : State) : Out :=
  if s.own.holds && decide (2000 ≤ s.since s.own.handAt) then
    .next ((({ s with own.holds := false }.rampHandover).chgWatch false).chgWatch true)
  else .next s

/-- HANDOVER_CONFIRM_TIMEOUT (R124, R127): 50 ms without a confirmation; ownership reverts, or, the old owner lost, a window opens. -/
def execHandoverConfirmTimeout (s : State) : Out :=
  if !(s.ownSt = ownHandover) || s.own.confirmed || decide (s.since s.own.handAt < 50000) then .next s
  else if s.own.oldLost then .next ((s.handEvent 3).handOver.seizeOwner s.owner)
  else .next s.revert

/-! ### Heartbeat (R115, R126) -/

/-- A write of OWN_m_HB by master m. -/
def State.beat (s : State) (m : Nat) (v : Word) : State :=
  let s1 := s.put (R.OWN_HB_COUNT m) (bitsOf v 15 0)
  if s.owner = m then { s1 with own.hbAt := s1.atime } else s1

/-- HEARTBEAT (R115, R126): only master m's own write counts. -/
def execHeartbeat (w : Writer) (m : Nat) (v : Word) (s0 : State) : Out :=
  s0.windowWrite w 0x02 fun s =>
  if s.running && decide (m < 2) && w.master = some m then .next (s.beat m v) else .next s

/-- HEARTBEAT_TIMEOUT (R126): the owner has been silent for OWN_HB_TIMEOUT. -/
def execHeartbeatTimeout (s : State) : Out :=
  let late := decide (1000 * s.get R.OWN_CFG_HB_TIMEOUT ≤ s.since s.own.hbAt)
  if s.owner < 2 && (s.ownSt = ownHeld || s.ownSt = ownHandover) && !s.own.oldLost && late then .next (s.ownerLost 0) else .next s

end Sys2Proof.Machine
end

