-- ==== Sys2Proof/Machine/Links.lean ====
section
/-! DEFINITION. PCIe, Ethernet, CAN, Gallery Link, device time and the clock monitors (23_links.md; R29, 01_halls_galleries_stair.md),
but for the service path. -/

namespace Sys2Proof.Machine

/-! ### PCIe (R62, R445, R446) -/

/-- GEN and X2 of port `p` in LINK_STATUS. -/
def portGen (p : Nat) : Fld := if p = 0 then R.LINK_STATUS_PCIE_A_GEN else R.LINK_STATUS_PCIE_B_GEN
def portX2 (p : Nat) : Fld := if p = 0 then R.LINK_STATUS_PCIE_A_X2 else R.LINK_STATUS_PCIE_B_X2

/-- PCIE_LINK_UP (R23, R62): training ends, which needs PERST high; the link counts as up at its generation and width, and CLK_HOST runs
at 500 MHz while either port is at Gen3 or Gen4. -/
def execPcieLinkUp (port gen : Nat) (x2 : Bool) (s : State) : Out :=
  if !s.running || decide (2 ≤ port) || gen = 0 || decide (4 < gen) then .next s
  else
    let s1 := ((s.put (portGen port) gen).putB (portX2 port) x2)
    let fast := decide (3 ≤ s1.get (portGen 0)) || decide (3 ≤ s1.get (portGen 1))
    .next { s1 with pwr.clkHost500 := fast, pwr.perst := natSetBit s1.pwr.perst port false }

/-- The link of port `p` is down: LINK_STATUS shows it, and its host has lost it (R126). -/
def State.portDown (s : State) (p : Nat) : State := (((s.put (portGen p) 0).putB (portX2 p) false).hostGone p)

/-- A link that leaves L0 for Detect is a link loss with 0x1401 (R446). -/
def State.linkLoss (s : State) (p : Nat) : State :=
  if s.get (portGen p) = 0 then s else (s.portDown p).raise 0x1401 0 0x14 (w32 p)

/-- PCIE_LINK_DOWN (R446). -/
def execPcieLinkDown (port : Nat) (s : State) : Out :=
  if s.running && decide (port < 2) then .next (s.linkLoss port) else .next s

/-- PERST_ASSERT (R62): the port's link, configuration space and MSI-X table are reset, and nothing else of the ELX. -/
def execPerstAssert (port : Nat) (s : State) : Out :=
  if 2 ≤ port then .next s
  else
    let mine (e : Nat × Bool) : Bool := e.1 / 64 = port
    let held (e : Nat × Word) : Bool := e.1 / 1024 = port
    let s1 := { s with pwr.perst := natSetBit s.pwr.perst port true, host.msixOpen := s.host.msixOpen.filter fun e => !mine e,
                       host.msixPend := s.host.msixPend.filter fun e => !mine e,
                       host.msixTable := s.host.msixTable.filter fun e => !held e, host.pcieCfg := s.host.pcieCfg.filter fun e => !held e }
    .next (if s1.running then s1.linkLoss port else s1)

/-! ### Clock monitors (R29) -/

/-- The clocks that the comparisons of one window find lost (R29). `trips` has one bit for each comparison: 0 PLL_CTRL, 1 PLL_SYS and
2 PLL_HOST with CLK_WARD, 3 CLK_WARD with CLK_SAFE, 4 the Wardens' count of CLK_SAFE. All three PLL comparisons together are the fault of
PLL_WARD or the shared reference, clock 3. -/
def clocksLost (trips : Nat) : List Nat :=
  if trips % 8 = 7 then (if natBit trips 4 then [3, 4] else [3]) else (List.range 5).filter fun k => natBit trips k

/-- The reaction to the loss of one clock (R29): the Wardens take the safe state for PLL_CTRL, PLL_SYS and PLL_WARD; with PLL_HOST both host
masters are lost. R29 says no more of the links: the model shows them down in LINK_STATUS, and raises no 0x1401 beside 0x0003
(DESIGN CHOICE, log 62). -/
def State.clockLost (s : State) (clk : Nat) : State :=
  let s1 := { s with pwr.clkLost := natSetBit s.pwr.clkLost clk true }
  match clk with
  | 0 => (s1.safeOutputs 0).raise 0x0001 2 0x00
  | 1 => (s1.safeOutputs 0).raise 0x0002 2 0x00
  | 2 => ((s1.portDown 0).portDown 1).raise 0x0003 1 0x00
  | 3 => (s1.safeOutputs 0).raise 0x0008 2 0x00
  | _ => s1.raise 0x0004 2 0x00

/-- CLOCK_MONITOR_TRIP (R29): the comparisons of one 10 µs window that have tripped. -/
def execClockMonitorTrip (trips : Nat) (s : State) : Out :=
  if !s.running || s.pairsLost then .next s else .next (s.each (clocksLost trips) State.clockLost)

/-! ### Frames into Market channels -/

/-- A frame for a channel; a refused one is dropped and counted in `drop`. -/
def State.toChannel (s : State) (ch : Nat) (bs : List Byte) (drop : Fld) : State :=
  match s.storeFrame ch bs with
  | (t, true) => t
  | (t, false) => t.satInc drop

/-- A Tally frame; a refused one is dropped and counted. -/
def State.toTally (s : State) (c path : Nat) (bs : List Byte) (drop : Fld) : State :=
  let t := s.tallyArrive c path bs
  if t.tally.frames.length = s.tally.frames.length then t.satInc drop else t

/-! ### Ethernet (R447, R448) -/

/-- A number sent with its most significant byte first, as IEEE 802.3 sends EtherTypes. -/
def netNat (bs : List Byte) : Nat := bs.foldl (fun n b => 256 * n + b.toNat) 0

/-- EtherType of a frame without its check sequence, after the VLAN tag if one is present, and what follows it. -/
def etherType (f : List Byte) : Nat × List Byte :=
  let t := netNat ((f.drop 12).take 2)
  if t = 0x8100 then (netNat ((f.drop 16).take 2), f.drop 18) else (t, f.drop 14)

/-- The broadcast address as destination. -/
def broadcast (f : List Byte) : Bool := f.take 6 == List.replicate 6 0xFF#8

/-- MAC `m` is the chosen time source (R452). -/
def State.timeMac (s : State) (m : Nat) : Bool := s.get R.LINK_TIME_CFG_SRC = 1 && s.get R.LINK_TIME_CFG_PORT = m

/-- ETH_FRAME_RX (R448): a frame from its destination address to the end of its payload; `accept` says whether the destination is
the MAC's own or a multicast entry. A time message's content comes by TIME_SYNC_MESSAGE. -/
def execEthFrameRx (m : Nat) (accept : Bool) (frame : List Byte) (s : State) : Out :=
  if !s.running || decide (3 ≤ m) || !s.bitAt R.LINK_STATUS_ETH_UP m then .next s
  else
    let drop := R.LINK_ETH_STAT_DROP m
    let path := 0x10 + m
    match etherType frame with
    | (ty, body) =>
      if 1522 < frame.length + 4 then .next (s.satInc drop)
      else if ty = s.get R.TALLY_CFG_ETYPE && s.tallyNames path then
        (match s.tallyMatch path (fieldAt body 0 2) false with
         | some c => .next (s.toTally c path (body.drop 2) drop)
         | none => .next s)
      else if ty = 0x88F7 then (if s.timeMac m then .next s else .next (s.satInc drop))
      else if ty = s.get R.LINK_ETH_CFG_SVC_ETYPE && s.bitAt R.LINK_ETH_CFG_SVC_EN m then
        (match s.storeFrame 56 frame with
         | (t, true) => .next { t with net.svcMac := t.net.svcMac ++ [m] }
         | (t, false) => .next (t.satInc drop))
      else if accept || broadcast frame then .next (s.toChannel (40 + m) frame drop)
      else .next s

/-- ETH_LINK_UP (R447). -/
def execEthLinkUp (m : Nat) (s : State) : Out :=
  if s.running && decide (m < 3) then .next (s.putBit R.LINK_STATUS_ETH_UP m true) else .next s

/-- ETH_LINK_DOWN (R459). -/
def execEthLinkDown (m : Nat) (s : State) : Out :=
  if s.running && decide (m < 3) && s.bitAt R.LINK_STATUS_ETH_UP m then
    .next ((s.putBit R.LINK_STATUS_ETH_UP m false).raise 0x1405 0 0x14 (w32 m))
  else .next s

/-! ### CAN (R450, R451) -/

/-- The error counters of controller `k` as they stand. -/
def State.canCounts (s : State) (k tec rec : Nat) : State := (s.put (R.LINK_CAN_STAT_TEC k) tec).put (R.LINK_CAN_STAT_REC k) rec

/-- A received CAN frame as its channel holds it: 16 bytes with the stamp and the identifier, then the data (log 50). -/
def canStored (at_ : Time) (id : Nat) (xtd : Bool) (data : List Byte) : List Byte :=
  leBytes 8 at_.toNat ++ leBytes 4 id ++ leBytes 4 (bit xtd) ++ data

/-- CAN_FRAME_RX (R415, R450): Tally tags come before the acceptance filters, whose verdict is `hit`; `tec` and `rec` are the error
counters after the frame. The pins are of bank VIO_5. -/
def execCanFrameRx (k id : Nat) (xtd hit : Bool) (data : List Byte) (tec rec : Nat) (s : State) : Out :=
  if !s.running || decide (6 ≤ k) || !s.bankLive 5 then .next s
  else
    let s1 := s.canCounts k tec rec
    match s1.tallyMatch k id xtd with
    | some c => .next (s1.toTally c k data (R.LINK_CAN_STAT_RX_DROP k))
    | none => if hit then .next (s1.toChannel (32 + k) (canStored s1.atime id xtd data) (R.LINK_CAN_STAT_RX_DROP k)) else .next s1

/-- CAN_BUS_OFF (R451): the controller stops transmitting, with 0x1404. -/
def execCanBusOff (k tec rec : Nat) (s : State) : Out :=
  if s.running && decide (k < 6) && !s.flag (R.LINK_CAN_STAT_BUS_OFF k) then
    .next (((s.canCounts k tec rec).putB (R.LINK_CAN_STAT_BUS_OFF k) true).raise 0x1404 0 0x14 (w32 k))
  else .next s

/-- CAN_BUS_OFF_RECOVERY (R451): after 128 occurrences of 11 recessive bits, with AUTO_REC; queued frames go out, the oldest first. -/
def execCanBusOffRecovery (k : Nat) (s : State) : Out :=
  if s.running && decide (k < 6) && s.flag (R.LINK_CAN_STAT_BUS_OFF k) && s.flag (R.LINK_CAN_STAT_AUTO_REC k) then
    let s1 := (s.putB (R.LINK_CAN_STAT_BUS_OFF k) false).canCounts k 0 0
    .next { s1 with net.sent := s1.net.sent ++ Sparse.get (always []) s1.net.canQueue k
                    net.canQueue := Sparse.set (always []) s1.net.canQueue k [] }
  else .next s

/-! ### Device time (R452, R453) -/

/-- The transport of the chosen time source, where there is one. -/
def State.timePath (s : State) : Option Nat :=
  match s.get R.LINK_TIME_CFG_SRC with
  | 1 => some (0x10 + s.get R.LINK_TIME_CFG_PORT)
  | 2 => some (0x20 + s.get R.LINK_TIME_CFG_PORT)
  | _ => none

/-- OFFSET shows a signed, saturating number of nanoseconds. -/
def State.showOffset (s : State) (o : Int) : State := s.put R.LINK_TIME_STAT_OFFSET (toBits 31 (max (-(2 ^ 30)) (min (2 ^ 30 - 1) o)))

/-- LOCKED, in both registers that show it. -/
def State.setLocked (s : State) (v : Bool) : State := (s.putB R.LINK_TIME_STAT_LOCKED v).putB R.LINK_STATUS_TIME_LOCK v

/-- The source is lost (R453): LOCKED clears, 0x1403 with the offset, or 0 on a timeout; ATIME holds over. -/
def State.timeLost (s : State) (ns : Int) : State :=
  let s1 := { s with net.slew := 0 }
  if s1.flag R.LINK_TIME_STAT_LOCKED then (s1.setLocked false).raise 0x1403 0 0x14 (w32 (toBits 32 ns)) else s1

/-- ATIME moved by an offset in ns, to the nearest microsecond. -/
def stepTime (t : Time) (ns : Int) : Time :=
  let us := divNearest ns.natAbs 1000
  if 0 < ns then t - BitVec.ofNat 64 us else t + BitVec.ofNat 64 us

/-- The time source's link is up. -/
def State.timeUp (s : State) (path : Nat) : Bool :=
  if path < 0x20 then s.bitAt R.LINK_STATUS_ETH_UP (path - 0x10) else s.bitAt R.LINK_STATUS_GL_UP (path - 0x20)

/-- TIME_SYNC_MESSAGE (R453): a message by `path` finds ATIME minus source to be `offset` ns. The first lock steps ATIME, while no
connection has left WAIT; after that it is slewed, and LOCKED sets below 1 µs. -/
def execTimeSyncMessage (path : Nat) (offset : Int) (s : State) : Out :=
  if !s.running || s.timePath ≠ some path || !s.timeUp path then .next s
  else
    let s1 := { s.showOffset offset with net.syncAt := s.atime }
    if !s1.net.locked && !s1.net.leftWait then
      let s2 := { s1 with atime := stepTime s1.atime offset, net.locked := true, net.slew := 0, net.frac := 0,
                          net.syncAt := stepTime s1.atime offset }
      .next ((s2.showOffset 0).setLocked true)
    else if s1.flag R.LINK_TIME_STAT_LOCKED && decide (100000 < offset.natAbs) then .next (s1.timeLost offset)
    else
      let s2 := { s1 with net.slew := 5 * offset }
      .next (if offset.natAbs < 1000 then { s2 with net.locked := true }.setLocked true else s2)

/-- Three sync intervals have passed without a message (R453): on Gallery Link one is 1 ms (R452); for IEEE 802.1AS the row says so. -/
def State.syncQuiet (s : State) : Bool := s.get R.LINK_TIME_CFG_SRC ≠ 2 || decide (3000 ≤ s.since s.net.syncAt)

/-- TIME_UNSYNC (R453): three sync intervals without a message (`none`), or an offset above 100 µs. -/
def execTimeUnsync (offset : Option Int) (s : State) : Out :=
  if !s.running then .next s
  else
    match offset with
    | none => .next (if s.syncQuiet then s.timeLost 0 else s)
    | some o => if 100000 < o.natAbs then .next ((s.showOffset o).timeLost o) else .next s

/-! ### Gallery Link (R452, R454, R455) -/

/-- The port exists and is trained. -/
def State.glUp (s : State) (p : Nat) : Bool := decide (p < nGl s.part) && s.bitAt R.LINK_STATUS_GL_UP p

/-- GL_TIME_SEND (R452): 1 ms after its last one, a port with GM set sends ATIME in ns; the frame of class 0 goes to the neighbour only. -/
def execGlTimeSend (p : Nat) (s : State) : Out :=
  if s.running && s.glUp p && s.bitAt R.LINK_TIME_CFG_GM p && decide (1000 ≤ s.since (Sparse.get (always 0) s.net.timeAt p)) then
    let s1 := s.sendFrame { path := 0x20 + p, what := 2, tag := 0xFF, bytes := s.glOwn 0 0xFF (leBytes 8 (1000 * s.atime.toNat)) }
    .next ({ s1 with net.timeAt := Sparse.set (always 0) s1.net.timeAt p s1.atime }.glCount (0x20 + p))
  else .next s

/-- The frame as a forwarding device sends it: HOPS − 1, and the CRC over it. -/
def glForwarded (f : List Byte) (n : Nat) : List Byte :=
  let body := (f.take 1 ++ [BitVec.ofNat 8 (fieldAt f 1 1 - 1)] ++ f.drop 2).take n
  body ++ wordBytes (crc32c 0xFFFFFFFF#32 body)

/-- The ports that a frame for address `a` goes out of (R455); the ELX-9430 forwards nothing (R454). -/
def State.glRoute (s : State) (a : Nat) : List Nat :=
  if nGl s.part ≤ 1 then [] else (List.range (nGl s.part)).filter fun q => s.bitAt (R.LINK_GL_ROUTE_PORTS a) q

/-- A frame for this device (R455): class 1 to Tally, class 2 to the port's channel, class 0 to the link controller. -/
def State.glLocal (s : State) (p cls tag : Nat) (payload : List Byte) : State :=
  if cls = 1 then
    match s.tallyMatch (0x20 + p) (tag % 65536) false with
    | some c => s.tallyArrive c (0x20 + p) payload
    | none => s
  else if cls = 2 then (s.storeFrame (44 + p) payload).1
  else s

/-- GL_FRAME_RX (R455, R458): `frame` is what the port has received, header to CRC; `tag` is the tag of a Tally frame. -/
def execGlFrameRx (p tag : Nat) (frame : List Byte) (s : State) : Out :=
  let n := fieldAt frame 4 2
  let cls := fieldAt frame 0 1 % 16
  let own := s.get R.LINK_GL_CFG_ADDR
  let dst := fieldAt frame 2 1
  if !s.running || !s.glUp p || decide (512 < n) || decide (frame.length < 20 + n) then .next s
  else if (crc32c 0xFFFFFFFF#32 (frame.take (16 + n))).toNat ≠ fieldAt frame (16 + n) 4 then .next (s.satInc (R.LINK_GL_STAT_CRC_ERR p))
  else if fieldAt frame 0 1 / 16 ≠ 1 || decide (2 < cls) || (decide (1 ≤ cls) && (own = 0 || own = 0xFF)) then .next s
  else if fieldAt frame 3 1 = own then .next (s.satInc (R.LINK_GL_STAT_FWD_DROP p))
  else if dst = own || dst = 0xFF then .next (s.glLocal p cls tag ((frame.drop 16).take n))
  else
    let out := s.glRoute dst
    if fieldAt frame 1 1 = 0 || out.isEmpty then .next (s.satInc (R.LINK_GL_STAT_FWD_DROP p))
    else
      .next (s.each (out.filter s.glUp) fun t q =>
        t.sendFrame { path := 0x20 + q, what := 3, tag := dst, bytes := glForwarded frame (16 + n) })

/-- GL_LINK_TRAINED (R454). -/
def execGlLinkTrained (p : Nat) (s : State) : Out :=
  if s.running && decide (p < nGl s.part) then .next (s.putBit R.LINK_STATUS_GL_UP p true) else .next s

/-- GL_PORT_DOWN (R459). -/
def execGlPortDown (p : Nat) (s : State) : Out :=
  if s.running && s.glUp p then .next ((s.putBit R.LINK_STATUS_GL_UP p false).raise 0x1402 0 0x14 (w32 p)) else .next s

end Sys2Proof.Machine
end

