-- ==== Sys2Proof/Machine/RegWrite.lean ====
section
/-! DEFINITION. Writes and reads of the set-up map (R460-R469, 24_register_map.md), with the conditions that the chapters add, and the
service path (R128, 06_ownership.md; R449, 23_links.md). -/

namespace Sys2Proof.Machine

/-- The state a meaning leads to. -/
def State.after (s : State) (o : Out) : State := match o with | .next t => t | _ => s

/-! ### Conditions on fields -/

/-- The range the defining chapter states for a field, by its lowest bit; a value outside it leaves the field unchanged (log 49). -/
def fieldRange (n : RegName) (lo : Nat) : Option (Nat × Nat) :=
  match n, lo with
  | .r_SYS_MODE_CFG, 16 => some (1, 255)
  | .r_SYS_MODE_CFG, 0 => some (0, 1000)
  | .r_DISC_CFG, 16 => some (0, 5000)
  | .r_DISC_CFG, 8 => some (10, 200)
  | .r_DISC_CFG, 0 => some (1, 255)
  | .r_OWN_CFG, 16 => some (10, 1000)
  | .r_STORE_SCRUB_CFG, 0 => some (1, 255)
  | .r_STORE_BGT_CFG, 0 => some (5, 1000)
  | .r_FE_n_TICK, 0 => some (2500, 400000)
  | .r_EDGE_CH_n_CFG, 28 => some (0, 4)
  | .r_EDGE_CH_n_CFG, 24 => some (0, 5)
  | .r_EDGE_TB_n_HALF_A, 0 => some (320, 320000)
  | .r_EDGE_TB_n_HALF_B, 0 => some (320, 320000)
  | .r_EDGE_TB_n_SAMP, 16 => some (16, 800)
  | .r_EDGE_FC_k_CFG, 24 => some (1, 15)
  | .r_EDGE_FC_k_CFG, 0 => some (384, 447)
  | .r_EDGE_BAND_n_CFG, 0 => some (0, 160)
  | .r_GATE_CFG, 16 => some (10, 10000)
  | .r_GATE_CFG, 0 => some (0, 2)
  | .r_SAFE_DCL_CFG, 16 => some (1, 1000)
  | .r_SAFE_DCL_CFG, 12 => some (0, 8)
  | .r_SAFE_DCL_CHOP, 16 => some (1, 1000)
  | .r_SAFE_DCL_CHOP, 8 => some (1, 255)
  | .r_CONV_CFG, 24 => some (1, 255)
  | .r_CONV_CFG, 14 => some (16, 1023)
  | .r_CONV_SYNC_CFG, 20 => some (10, 100)
  | .r_CONV_BURST_CFG, 16 => some (20, 2000)
  | .r_CONV_BURST_CFG, 0 => some (5, 1000)
  | .r_CHG_PILOT_CFG, 24 => some (1, 255)
  | .r_CHG_TIMERS, 16 => some (10, 1000)
  | .r_CHG_TIMERS, 0 => some (1, 1440)
  | .r_MOT_PARK_CFG, 16 => some (1, 255)
  | .r_MOT_PARK_CFG, 8 => some (10, 255)
  | .r_MOT_ENC_k_LINES, 0 => some (1, 65536)
  | .r_MOT_SENT_k_CFG, 28 => some (0, 1)
  | .r_MOT_SENT_k_CFG, 24 => some (1, 6)
  | .r_MOT_SENT_k_CFG, 16 => some (1, 255)
  | .r_MOT_SENT_k_CFG, 0 => some (240, 7200)
  | .r_MOT_RES_k_CFG, 0 => some (200, 2000)
  | .r_ACQ_DIAG_CFG, 0 => some (1, 255)
  | .r_PAIR_W_k_CFG, 0 => some (64, 4096)
  | .r_PAIR_SUP_CFG, 0 => some (10, 10000)
  | .r_SAFE_WD_CFG, 0 => some (200, 2000)
  | .r_SAFE_SIN_n_CFG, 16 => some (1, 500)
  | .r_SAFE_SIN_n_CFG, 0 => some (1, 100)
  | .r_SAFE_SOUT_n_CFG, 16 => some (100, 1000)
  | .r_SAFE_SOUT_n_CFG, 0 => some (1, 60)
  | .r_TALLY_CFG, 0 => some (1, 255)
  | .r_TALLY_CONN_c_TIME, 16 => some (50, 65535)
  | .r_TALLY_CONN_c_TIME, 0 => some (10, 65535)
  | .r_LEDGER_DEGR_CFG, 16 => some (1, 600)
  | .r_LEDGER_DEGR_CFG, 0 => some (10, 100)
  | .r_LINK_TIME_CFG, 4 => some (0, 2)
  | .r_LINK_GL_CFG, 0 => some (20, 1000)
  | _, _ => none

/-- A value is in the range of its field, where one is stated. -/
def inRange (n : RegName) (lo v : Nat) : Bool :=
  match fieldRange n lo with
  | some (a, b) => decide (a ≤ v) && decide (v ≤ b)
  | none => true

/-- The sources of the encoder emulation (R354). -/
def State.emuSource (s : State) (v : Nat) : Bool :=
  decide (v ≤ 3) || v = 8 || v = 9 || v = 0x0C || v = 0x0D || (decide (0x10 ≤ v) && decide (v ≤ 0x13) && fePresent s.part (v - 0x10))

/-- The enable of half-bridge `n` is removed. -/
def State.enableGone (s : State) (n : Nat) : Bool := match s.banUnit n with | some u => !s.enabled u | none => true

/-- The conditions the defining chapter adds for field `fd` of instance `i` when `v` is written by `w` (R464). -/
def State.chapterOk (s : State) (w : Writer) (n : RegName) (i : Nat) (v : Word) (fd : FieldDef) : Bool :=
  let x := fd.val v
  inRange n fd.lo x &&
  match n, fd.lo with
  | .r_FE_n_TICK, 0 => !s.flag (R.FE_CTRL_RUN i)
  | .r_FE_PAIR_CFG, 0 => s.part = .elx9460 && !s.flag (R.FE_CTRL_RUN 0) && !s.flag (R.FE_CTRL_RUN 1)
  | .r_FE_PAIR_CFG, 1 => s.part = .elx9460 && !s.flag (R.FE_CTRL_RUN 2) && !s.flag (R.FE_CTRL_RUN 3)
  | .r_EDGE_CH_n_CFG, 28 => s.enableGone i
  | .r_EDGE_CH_n_CFG, 24 | .r_EDGE_CH_n_CFG, 20 | .r_EDGE_CH_n_CFG, 18 => !(s.part = .elx9460 && decide (i < 12))
  | .r_EDGE_TB_n_HALF_A, _ | .r_EDGE_TB_n_HALF_B, _ => !s.flag (R.EDGE_TB_CFG_EN i)
  | .r_EDGE_TB_n_SAMP, 15 => s.part ≠ .elx9430
  | .r_ACQ_FC_k_CFG, 0 => s.enableGone (s.get (R.EDGE_FC_CFG_CH i))
  | .r_ACQ_CH_n_SCALE, _ => !(decide (80 ≤ i) && decide (i ≤ 94))
  | .r_SAFE_SOUT_n_CFG, 31 => x = 1 || natBit (s.get R.SYS_STRAP_LATCHED) 5
  | .r_SAFE_DCL_STATUS, 3 => false
  | .r_LEDGER_DEGR_CFG, 16 => decide (x ≤ 60) || natBit (s.get R.SYS_STRAP_LATCHED) 4
  | .r_MOT_EMU_k_CFG, 16 => s.emuSource x
  | .r_CONV_SYNC_CFG, 30 | .r_CONV_SYNC_CFG, 0 => false
  | .r_CONV_CTRL, _ => w.isWarden && fd.lo ≠ 0
  | _, _ => true

/-! ### What a plain write sets off -/

/-- The order UV < OV1 < OV2 < OV3 with the words `a` of THR_A and `b` of THR_B (R280). -/
def orderOk (a b : Word) : Bool :=
  decide (bitsOf b 27 16 < bitsOf a 11 0) && decide (bitsOf a 11 0 < bitsOf a 27 16) && decide (bitsOf a 27 16 < bitsOf b 11 0)

/-- HOPS_MAX from TX_BUDGET in 0.1 µs (R457): floor((T_x − 2 µs) / 0.8 µs). -/
def hopsMax (t : Nat) : Nat := (t - 20) / 8

/-- What follows a write of a register, from the state `b` before it (R279-R331, R395, R457, R208, R200). -/
def State.afterWrite (s b : State) (n : RegName) (i : Nat) : State :=
  match n with
  | .r_SAFE_SIN_n_CFG => s.demandRefresh i
  | .r_SAFE_DCL_CFG | .r_CHG_OVP => s.put R.CHG_OVP_CODE s.ovpCode
  | .r_CHG_TIMERS => s.wardenStage 5 451 (fOfRatio (s.get R.CHG_TIMERS_WD_TIMEOUT) 100)
  | .r_CONV_CFG => if s.flag R.CONV_CFG_BURST_SERV = b.flag R.CONV_CFG_BURST_SERV then s else s.burstRefresh
  | .r_CONV_BURST_CFG => s.burstDv
  | .r_GATE_n_STAT =>
    if s.flag (R.GATE_CH_STAT_FAULT_LATCH i) then s else (s.setChan i { s.chan i with faultLow := false }).refreshChan i
  | .r_EDGE_CH_n_CFG =>
    if bitsOf (s.rd (R.EDGE_CH_CFG i)) 30 18 = bitsOf (b.rd (R.EDGE_CH_CFG i)) 30 18 then s
    else
      match s.banUnit i with
      | some u => (s.clearLeg i u).refreshChan i
      | none => s.refreshChan i
  | .r_LINK_GL_CFG => s.put R.LINK_GL_CFG_HOPS_MAX (hopsMax (s.get R.LINK_GL_CFG_TX_BUDGET))
  | _ => s

/-- A write of a register with no rule of its own (R464). -/
def State.plainWrite (s : State) (w : Writer) (a : Nat) (v : Word) (f : RegFam) (i : Nat) : State :=
  if !s.mayWrite w (a / 0x10000) then s
  else ((s.applyWrite a v f.fields (s.chapterOk w f.name i v)).afterWrite s f.name i).keepReg s w a

/-- A threshold register, refused whole where the order would break (R280). -/
def State.thresholdWrite (s : State) (w : Writer) (a : Nat) (v : Word) (f : RegFam) (i : Nat) : State :=
  if !s.mayWrite w 0x11 || s.md ≠ .commission then s
  else
    let ok := if a = R.SAFE_DCL_THR_A then orderOk v (s.rd R.SAFE_DCL_THR_B) else orderOk (s.rd R.SAFE_DCL_THR_A) v
    if ok then s.plainWrite w a v f i else s.putB R.SAFE_DCL_STATUS_CFG_ERR true

/-- SAFE_DCL_STATUS: OV3_LATCH clears for the Wardens alone, under R285. -/
def State.dclWrite (s : State) (w : Writer) (a : Nat) (v : Word) (f : RegFam) (i : Nat) : State :=
  let s1 := s.plainWrite w a v f i
  if w.isWarden && bitOf v 3 then s1.ov3Release else s1

/-- FE_n_CTRL (R170, R186, R193, R252): ENTRY, BLEND and PSTAGE_HOLD first, then RUN. -/
def State.feCtrlWrite (s : State) (w : Writer) (n : Nat) (v : Word) : State :=
  if !s.mayWrite w 0x08 then s
  else
    let s1 := (((s.entryTo n (bitsOf v 25 16)).put (R.FE_CTRL_BLEND n) (bitsOf v 15 8)).putB (R.FE_CTRL_PSTAGE_HOLD n) (bitOf v 0))
    if bitOf v 31 then (if s1.flag (R.FE_CTRL_RUN n) then s1 else s1.startEngine n) else s1.askStop n

/-- CONV_CTRL (R294, R305, R307): the Wardens alone start the converter out of STOPPED, RETRY_WAIT or LATCHED, and permit bursts. -/
def State.convCtrlWrite (s : State) (w : Writer) (v : Word) : State :=
  if !w.isWarden then s
  else
    let ok := bitOf v 0
    let s1 := ((s.putB R.CONV_CTRL_BURST_OK ok).putB R.CONV_STATUS_BURST_OK ok).wardenStage 4 449 (w32 (bit ok))
    let s2 := if ok then s1 else s1.convWake
    let st := s2.get R.CONV_STATUS_STATE
    if bitOf v 1 && (st = 0 || st = 4 || st = 5) then s2.convStart else s2

/-- CONV_SYNC_CFG (R301, R302). -/
def State.syncCfgWrite (s : State) (w : Writer) (a : Nat) (v : Word) (f : RegFam) (i : Nat) : State :=
  if s.mayWrite w 0x0D then (s.plainWrite w a v f i).syncWrite (bitOf v 30) (bitsOf v 18 0) else s

/-- ACQ_SEQ_s_CTRL (R361-R363). -/
def State.seqCtrlWrite (s : State) (w : Writer) (k : Nat) (v : Word) : State :=
  if !s.mayWrite w 0x0C then s
  else
    let s1 := (if bitOf v 29 then s.putB (R.ACQ_SEQ_CTRL_CFG_ERR k) false else s).seqRun k (bitOf v 31)
    if bitOf v 30 then s1.armSwap k else s1

/-- DBG_CTRL (R468): the target is chosen, then HALT, RESUME and STEP act in that order. -/
def State.dbgCtrlWrite (s : State) (w : Writer) (v : Word) : State :=
  let t := bitsOf v 9 8
  let s1 := s.dbgCtrl w t fun x _ => x
  let on (x : State) (b : Nat) (f : State → Nat → State) : State := if bitOf v b then x.dbgCtrl w t f else x
  on (on (on s1 0 State.dbgHalt) 1 State.dbgResume) 2 State.dbgStep

/-! ### The ring window (R86, R87) -/

/-- A write of one of the words that the window shows of the selected ring; BASE is locked while EN = 1. -/
def State.ringWord (s : State) (w : Writer) (m : Nat) (f : Ring → Ring × Bool) : State :=
  if !s.ownWindow w m then s
  else
    match s.selected m with
    | none => s
    | some (kind, i) =>
      match f (s.ring m kind i) with
      | (r, true) => s.setRing m kind i r
      | (_, false) => s.ringError m kind i errLocked

/-- BASE written; while EN = 1 a changed value is refused. -/
def Ring.rebase (b : Nat) (r : Ring) : Ring × Bool := if r.en && b ≠ r.base then (r, false) else ({ r with base := b }, true)

/-- A read of window register `off` of master `m`; with BAD_SELECT selected only STAT reads, and shows it. -/
def State.ringRead (s : State) (m off : Nat) : Word :=
  match s.selected m with
  | none => if off = 0x14 then w32 (8 * 2 ^ 12) else 0
  | some (kind, i) =>
    let r := s.ring m kind i
    match off with
    | 0x04 => w32 (r.base % 2 ^ 32)
    | 0x08 => w32 (r.base / 2 ^ 32)
    | 0x0C => r.cfg
    | 0x10 => r.irq
    | 0x14 => w32 (r.elx * 2 ^ 16 + r.err * 2 ^ 12 + bit r.run)
    | 0x18 => r.tlm
    | 0x1C => w32 r.lost
    | _ => 0

/-! ### Every write (R464) -/

/-- A write of `v` by `w` to the register at `a`: by the rule of its own chapter, or field by field (R464). -/
def State.regWriteAt (s : State) (w : Writer) (a : Nat) (v : Word) (f : RegFam) (i : Nat) : State :=
  match f.name with
  | .r_OWN_m_HB => s.after (execHeartbeat w i v s)
  | .r_RING_m_SEL => s.after (execRingSelect w i v s)
  | .r_RING_m_BASE_LO => s.ringWord w i fun r => r.rebase (r.base / 2 ^ 32 * 2 ^ 32 + bitsOf v 31 6 * 64)
  | .r_RING_m_BASE_HI => s.ringWord w i fun r => r.rebase ((if i = 2 then 0 else v.toNat) * 2 ^ 32 + r.base % 2 ^ 32)
  | .r_RING_m_CFG => s.after (execRingConfigWrite w i v s)
  | .r_RING_m_IRQ => s.ringWord w i fun r => ({ r with irq := v &&& 0x00FFFFFF#32 }, true)
  | .r_RING_m_TLM => s.ringWord w i fun r => ({ r with tlm := v &&& 0xFF00FFFF#32 }, true)
  | .r_RING_m_CTRL => s.after (execRingReset w i v s)
  | .r_RING_m_STAT | .r_RING_m_LOST => s
  | .r_DB_m_CMD => s.after (execDoorbellCmd w (i / 16) (i % 16) v s)
  | .r_DB_m_CPL => s.after (execDoorbellCpl w (i / 16) (i % 16) v s)
  | .r_DB_m_EVT => s.after (execDoorbellEvt w (i / 16) (i % 16) v s)
  | .r_DB_m_TLM => s.after (execDoorbellTlm w (i / 16) (i % 16) v s)
  | .r_MKT_CH_n_QUOTA => s.after (execMarketQuotaWrite w i v s)
  | .r_MKT_CH_n_RELEASE => s.after (execMarketRelease (some w) i (bitsOf v 11 0) s)
  | .r_STORE_BANK_PWR_k => s.after (execBankPowerRequest w i v s)
  | .r_FE_n_CTRL => s.feCtrlWrite w i v
  | .r_FE_n_PARAM => s.after (execFeParamWrite w (i / 512) (i % 512) [v] s)
  | .r_FE_n_LOOP => s.after (execFeLoopStoreWrite w (i / 1024) (i % 1024) v s)
  | .r_EDGE_TB_n_CFG => s.after (execTimebaseStart w i v s)
  | .r_ACQ_REF => s.after (execRefBufferWrite w v s)
  | .r_ACQ_SEQ_s_CTRL => s.seqCtrlWrite w i v
  | .r_ACQ_SEQ_s_ENTRY_e => if s.mayWrite w 0x0C then s.entryWrite w.stores (i / 64) (i % 64) false v else s
  | .r_ACQ_SEQ_s_DELAY_e => if s.mayWrite w 0x0C then s.entryWrite w.stores (i / 64) (i % 64) true v else s
  | .r_CONV_CTRL => s.convCtrlWrite w v
  | .r_CONV_SYNC_CFG => s.syncCfgWrite w a v f i
  | .r_MOT_ENC_k_CFG => s.after (execEncoderEnable w i v s)
  | .r_MOT_RES_k_CFG => s.after (execResolverEnable w i v s)
  | .r_PAIR_CHECKIN_j => s.checkIn w i v
  | .r_SAFE_DCL_THR_A | .r_SAFE_DCL_THR_B => s.thresholdWrite w a v f i
  | .r_SAFE_DCL_STATUS => s.dclWrite w a v f i
  | .r_SAFE_FAST_CLR => s.after (execFastClear w v s)
  | .r_TALLY_CONN_c_CFG => s.tallyWrite w i v
  | .r_DBG_CTRL => s.dbgCtrlWrite w v
  | .r_DBG_DATA => s.dbgMemWrite w v
  | .r_DBG_REG_DATA => s.dbgRegWrite w v
  | _ => s.plainWrite w a v f i

/-- A write of the set-up map: none at an address that names no present register (R3, R462); a refused service write is counted (R128). -/
def State.regWrite (s : State) (w : Writer) (a : Nat) (v : Word) : State :=
  if !s.running || !s.writerLive w then s
  else if w = .service && !s.mayWrite w (a / 0x10000) then s.satInc R.OWN_SVC_STAT_REFUSED
  else
    match findReg a with
    | some (f, i) => if regPresent s.part f i then s.regWriteAt w a v f i else s
    | none => s

/-- The device ID and class code that configuration space reads (R445); every other doubleword is what the host has written. -/
def State.pcieCfgWord (s : State) (p i : Nat) : Word :=
  let v := Sparse.get (always 0) s.host.pcieCfg (1024 * p + i)
  match i with
  | 0 => withBits v 31 16 (match s.part with | .elx9460 => 0x9460 | .elx9430 => 0x9430)
  | 2 => withBits v 31 8 0x088000
  | _ => v

/-- A PCIe host writes beyond BAR0, to its own port (R446): BAR4, the MSI-X table, at 0x100_0000 and up, and configuration space at
0x200_0000 and up (DESIGN CHOICE, log 64). -/
def State.portWrite (s : State) (w : Writer) (addr : Nat) (v : Word) : State :=
  match w.master with
  | some p =>
    if 2 ≤ p || addr % 4 ≠ 0 then s
    else if addr < 0x1000400 then s.msixWrite p ((addr - 0x1000000) / 4) v
    else if 0x2000000 ≤ addr ∧ addr < 0x2001000 then { s with host.pcieCfg := Sparse.set (always 0) s.host.pcieCfg (1024 * p + (addr - 0x2000000) / 4) v }
    else s
  | none => s

/-- REGISTER_WRITE (R464). -/
def execRegisterWrite (w : Writer) (addr : Nat) (v : Word) (s : State) : Out :=
  .next (if addr < 0x1000000 then s.regWrite w addr v else if s.running then s.portWrite w addr v else s)

/-! ### Reads (R462, R463) -/

/-- The word a read of address `a` returns. -/
def State.readReg (s : State) (a : Nat) : Word :=
  match findReg a with
  | none => 0
  | some (f, i) =>
    if !regPresent s.part f i then 0
    else
      match f.name with
      | .r_TALLY_CONN_c_ID | .r_LEDGER_COMM_AUTH => 0
      | .r_RING_m_BASE_LO | .r_RING_m_BASE_HI | .r_RING_m_CFG | .r_RING_m_IRQ | .r_RING_m_STAT | .r_RING_m_TLM | .r_RING_m_LOST =>
        s.ringRead i (a % 0x100)
      | .r_DB_m_CMD => w32 (s.ring (i / 16) 0 (i % 16)).elx
      | .r_DB_m_CPL => w32 (s.ring (i / 16) 1 (i % 16)).elx
      | .r_DB_m_EVT => w32 (s.ring (i / 16) 2 (i % 16)).elx
      | .r_DB_m_TLM => w32 (s.ring (i / 16) 3 (i % 16)).elx
      | .r_FE_n_PARAM => (s.eng (i / 512)).sampled (i % 512)
      | .r_FE_n_LOOP => (s.eng (i / 1024)).loopWord (i % 1024)
      | .r_PWR_WAKE_CFG => if s.get R.PWR_WAKE_CFG_RAIL_TIMEOUT < 5 then withBits (s.rd a) 23 16 50 else s.rd a
      | _ => s.rd a

/-! ### The service path (R128, R449) -/

/-- The handles of the first frame of a channel's queue, and the rest (R143). -/
def firstFrame : List (Bool × Nat × Nat) → List (Bool × Nat × Nat) × List (Bool × Nat × Nat)
  | [] => ([], [])
  | (more, len, n) :: t =>
    if more then match firstFrame t with | (a, b) => ((more, len, n) :: a, b)
    else ([(more, len, n)], t)

/-- The reply to a request: the same layout with STATUS set. -/
def svcReply (req : List Byte) (status : Nat) (data : List Byte) : List Byte :=
  [0x01#8, BitVec.ofNat 8 status] ++ ((req.drop 2).take 10 ++ List.replicate 10 0#8).take 10 ++ data

/-- Words written by the service path from address `a`, in address order. -/
def State.svcWrites (s : State) (a : Nat) : Nat → List Byte → State
  | 0, _ => s
  | n + 1, bs => (s.regWrite .service a (w32 (fieldAt bs 0 4))).svcWrites (a + 4) n (bs.drop 4)

/-- A service request's effect and its reply, where it gets one (R128, R449): a refused write is refused whole and counted. -/
def State.svcServe (s : State) (req : List Byte) : State × Option (List Byte) :=
  let op := fieldAt req 1 1
  let n := fieldAt req 4 2
  let a := fieldAt req 8 4
  if fieldAt req 0 1 ≠ 1 then (s, none)
  else if n = 0 || decide (64 < n) || a % 4 ≠ 0 || decide (0x1000000 < a + 4 * n) || decide (1 < op) ||
      (op = 1 && decide (req.length < 12 + 4 * n)) then (s, some (svcReply req 2 []))
  else if op = 0 then
    (s, some (svcReply req 0 ((List.range n).foldr (fun k bs => wordBytes (s.readReg (a + 4 * k)) ++ bs) [])))
  else if (List.range n).all (fun k => s.mayWrite .service ((a + 4 * k) / 0x10000)) then
    (s.svcWrites a n (req.drop 12), some (svcReply req 0 []))
  else (s.satInc R.OWN_SVC_STAT_REFUSED, some (svcReply req 1 []))

/-- SERVICE_REQUEST (R449): the oldest request in channel SVC is served, its stalls go back, and the reply goes to its source address; a request
with an uncorrectable word is discarded (R151). -/
def execServiceRequest (s : State) : Out :=
  match s.net.svcMac with
  | [] => .next s
  | m :: rest =>
    match firstFrame (Sparse.get (always []) s.mkt.queues 56) with
    | (hs, left) =>
      let s1 := { s with mkt.queues := Sparse.set (always []) s.mkt.queues 56 left, net.svcMac := rest }
      let read := s1.readHandles hs
      let s2 := read.1.each hs fun t h => t.freeStall 56 h.2.2
      match read.2 with
      | none => .next s2
      | some frame =>
        match s2.svcServe (etherType frame).2 with
        | (t, none) => .next t
        | (t, some b) => .next (t.sendFrame { path := 0x10 + m, what := 1, tag := fieldAt frame 6 6, bytes := b })

end Sys2Proof.Machine
end

