-- ==== Sys2Proof/Machine/Modes.lean ====
section
/-! DEFINITION. The mode machine: its commands, the end of a transition, and the DEGRADED timer (02_operating_modes.md). -/

namespace Sys2Proof.Machine

/-! ### Triggers -/

/-- A trigger other than an owner request is judged (R35); the expiry of the DEGRADED timer in DEGRADED starts the 2 s ramp (R44). -/
def State.judge (s : State) (kind prec code : Nat) : State :=
  let s1 := s.trigger kind prec code
  if kind = 3 ∧ s.md = .degraded ∧ s1.mode.trans ≠ s.mode.trans then s1.rampAll 2 2000 else s1

/-! ### The end of a transition (R32, R33) -/

/-- MODE and SYS_MODE_CAUSE after a transition, and MODE_CHANGED (R31, R33, R50). -/
def State.modeSet (s : State) (fromCode : Nat) (dest : Mode) (kind code : Nat) : State :=
  let s1 := ((s.put R.SYS_MODE_MODE dest.code).putB R.SYS_MODE_IN_TRANSITION false).put R.SYS_MODE_TARGET 0
  let s2 := ((s1.put R.SYS_MODE_CAUSE_KIND kind).put R.SYS_MODE_CAUSE_TO dest.code).put R.SYS_MODE_CAUSE_FROM fromCode
  let s3 := s2.put R.SYS_MODE_CAUSE_LEDGER_CODE (if kind = 1 then code else 0)
  { s3 with mode.trans := none }.event 0x0101 0 (s3.rd R.SYS_MODE_CAUSE) (w32 (s3.get R.SYS_MODE_TRANS_SEQ)) (w32 s3.atime.toNat)
    (w32 (s3.atime.toNat / 2 ^ 32))

/-- Enables follow the mode (R39, R46): what the mode does not give is removed, and what it gives is granted; the charger's grant is asked
for by its own sequences. -/
def State.modeEnables (s : State) : State :=
  let units := List.range 10
  let s1 := s.each (units.filter fun u => !s.modeGrants u) State.removeEnable
  s1.each (units.filter fun u => s1.modeGrants u && u != unitCharger && !s1.isOut u && !s1.enabled u) State.askGrant

/-- What writers may do in the mode (R128, R163). -/
def State.modeRights (s : State) : State :=
  let open_ : Bool := s.md = .commission || s.md = .service
  (s.putB R.OWN_SVC_STAT_WRITABLE open_).putB R.MRAM_STATUS_CODE_WE open_

/-- The charger and the low-voltage charge as the mode changes from `old` (R322, R327, R329, R333, R334). -/
def State.modeCharger (s : State) (old : Mode) : State :=
  let lvOn := s.chg.lv.armed || (decide (1 ≤ s.chg.lv.phase) && decide (s.chg.lv.phase ≤ 4))
  let s1 := if old = .charge || old = .supply then s.chargeLeft else s
  let s2 := if lvOn && !s1.lvMode then s1.lvStop 3 else s1
  if s2.md = .charge then s2.chargeEntry else if s2.md = .supply then s2.supplyEntry else s2

/-- Class B operations that the mode in force does not accept end with ABORTED (R48); one that carries READ is accepted in every mode from
DISCOVER on (R47). -/
def State.modeAborts (s : State) : State :=
  s.each (s.host.ops.filter fun o => o.cls = 2 && !o.done && !s.modeOk o.opcode o.isRead) State.abortOp

/-- DEGRADED_TIMER at the first entry to DEGRADED since BOOT (R50). -/
def State.degrFirst (s : State) : State :=
  if s.md = .degraded && !s.mode.degrTold then { s with mode.degrTold := true }.degrEvent else s

/-- The runtime starts the engines, and the timebases of those that have outputs, as STANDBY is first entered (R46; log 53). -/
def State.startEngines (s : State) : State :=
  s.each (s.engines.filter fun n => !s.flag (R.FE_CTRL_RUN n)) fun t n =>
    if (t.engineChans n).isEmpty then t.startEngine n else (t.startEngine n).tbEnable n

/-- What the mode now in force brings, entered from `old`. -/
def State.modeEffects (s : State) (old : Mode) : State :=
  let stop : Bool := s.md = .service && old = .safeStop
  let comm : Bool := s.md = .commission
  let s1 : State := { s with mode.servFromStop := stop, mode.fwWritten := false, acq.zeros := [], disc.ran := s.disc.ran && !comm }
  let s2 := if s1.md = .drive || s1.md = .degraded || s1.md = .service then s1.dropRamps else s1
  let s3 := (if old = .discover && s2.md = .standby then s2.startEngines else s2).degrFirst
  ((((s3.modeRights.modeEnables).modeCharger old).refreshLimits.refreshHold).plugCheck.burstRefresh).refreshSout.modeAborts

/-- The triggers held during a transition are judged against the mode now in force (R35). -/
def State.judgeHeld (s : State) : State :=
  { s with mode.held := [] }.each s.mode.held fun t h => t.judge h.kind h.prec h.code

/-- HIBERNATE is entered (R71-R73): the ledger is written out and events are delivered, the pads are isolated, RAIL_EN goes low, and the wake
timer runs where SECONDS is not 0. SYS_MODE and SYS_MODE_CAUSE go on reporting the mode in force and how it was entered (R31). -/
def State.hibernate (s : State) : State :=
  let s1 := s.writeQueue.writeOut.deliverAll
  let c0 := (s1.cleared.wr R.SYS_MODE (s1.rd R.SYS_MODE)).wr R.SYS_MODE_CAUSE (s1.rd R.SYS_MODE_CAUSE)
  let c := c0.each (List.range 32) fun t b => t.setBankState b 2
  { c with pwr := { c.pwr with power := .hibernate, railEn := false, isolated := true, isolatedVio3 := true, earlyDelay := s1.pwr.earlyDelay,
                               timerArmed := s1.get R.PWR_WAKE_TIMER_SECONDS != 0 } }

/-- MODE_TRANSITION_END (R33): the transition in progress ends; from STANDBY into DRIVE or DEGRADED the chopper has been tested, with its
drop in codes and a driver fault (R288). -/
def execModeTransitionEnd (drop : Nat) (fault : Bool) (s : State) : Out :=
  match s.mode.trans with
  | none => .next s
  | some tr =>
    let old := s.md
    let s1 := if old = .standby && (tr.dest = .drive || tr.dest = .degraded) && !s.flag R.SAFE_DCL_STATUS_UV then (s.chopTest drop fault).1 else s
    let s2 := s1.modeSet old.code tr.dest tr.kind tr.code
    if tr.dest = .hibernate then .next s2.hibernate
    else
      let s3 := if tr.kind = 3 && old = .degraded then s2.safeOutputs tr.code else s2
      .next (s3.modeEffects old).judgeHeld

/-! ### Commands (R48, R49) -/

/-- MODE_STATUS (R48). -/
def execModeStatus (c : Cmd) (s0 : State) : Out :=
  s0.command c 0x0100 fun s =>
  if !s.targets c elxTargets then refuse s c .badParam
  else if !s.modeOk 0x0100 true then refuse s c .rejectedMode
  else .next (s.finish c .ok (pair64 (s.rd R.SYS_MODE).toNat (s.degrLeft.getD 0xFFFFFFFF)))

/-- A request that BAD_PARAM answers (R49): a target no request may name, or an option that is not listed. -/
def badRequest (target option : Nat) : Bool :=
  !(target = 0x1 || (decide (4 ≤ target) && decide (target ≤ 9))) || decide ((if target = 0x8 then 1 else 0) < option)

/-- No plug is detected on the proximity pilot (R321). -/
def State.unplugged (s : State) : Bool := s.get R.CHG_STATUS_PP = 0

/-- The conditions of a DRIVE request, DEGRADE_MARK apart (R32, R385). -/
def State.driveOk (s : State) : Bool :=
  !s.flag R.SYS_MODE_DRIVE_BLOCK && s.countsInService 0 && s.countsInService 1 && !s.flag R.SAFE_DCL_STATUS_UV && s.unplugged

/-- DEGRADED time remains (R32, R44). -/
def State.degrTimeLeft (s : State) : Bool := s.degrLeft ≠ some 0 && !s.mode.degrExpired

/-- A commissioning authorisation is in force (R441). -/
def State.authorised (s : State) : Bool :=
  match s.led.auth with | some t => decide (s.since t < 10000000) | none => false

/-- A wake source that R32 counts is enabled (R70). -/
def State.wakeReady (s : State) : Bool := s.get R.PWR_WAKE_CFG_EN != 0 || s.get R.PWR_WAKE_TIMER_SECONDS != 0

/-- What the transition table makes of a request from the mode in force (R32): where it leads, or the status that refuses it. -/
def State.requestTo (s : State) (target : Nat) : Except Status Mode :=
  let when_ (ok : Bool) (st : Status) (m : Mode) : Except Status Mode := if ok then .ok m else .error st
  let park := s.flag R.SYS_MODE_PARK
  let mark := s.flag R.SYS_MODE_DEGRADE_MARK
  match s.md, target with
  | .standby, 0x6 =>
    if mark then when_ (s.driveOk && s.degrTimeLeft) .safetyBlocked .degraded else when_ s.driveOk .safetyBlocked .drive
  | .standby, 0x7 =>
    let pilot := s.get R.CHG_STATUS_PILOT
    when_ (park && decide (1 ≤ pilot) && decide (pilot ≤ 3) && !s.flag R.SYS_MODE_CHARGE_BLOCK && !mark) .safetyBlocked .charge
  | .standby, 0x8 => when_ (park && !s.unplugged && !s.flag R.SYS_MODE_SUPPLY_BLOCK && !mark) .safetyBlocked .supply
  | .standby, 0x9 => when_ (park && s.standstill) .rejectedMode .service
  | .standby, 0x4 => when_ (park && s.standstill && s.authorised) .rejectedMode .commission
  | .standby, 0x1 => when_ (park && s.wakeReady) .rejectedMode .hibernate
  | .drive, 0x5 => when_ s.standstill .rejectedMode .standby
  | .degraded, 0x5 => when_ s.standstill .rejectedMode .standby
  | .charge, 0x5 => .ok .standby
  | .supply, 0x5 => .ok .standby
  | .service, 0x5 => when_ (!s.mode.servFromStop && !s.mode.fwWritten && !s.mode.degrExpired) .rejectedMode .standby
  -- R32 gives this row its condition and no status; REJECTED_MODE is the model's (DESIGN CHOICE, log 54)
  | .safeStop, 0x9 => when_ s.standstill .rejectedMode .service
  | _, _ => .error .rejectedMode

/-- An owner request is accepted (R33): the exit ramp starts (R34), the SUPPLY option is taken, an authorisation is used up (R441). -/
def State.acceptRequest (s : State) (dest : Mode) (option : Nat) : State :=
  let s1 := if dest = .supply then { s with mode.v2v := option = 1 } else s
  let s2 := if dest = .commission then { s1 with led.auth := none } else s1
  let s3 := if (s.md = .drive || s.md = .degraded) && dest = .standby then s2.rampAll 1 (s2.get R.SYS_MODE_CFG_EXIT_RAMP) else s2
  s3.startTrans dest 0 precOwner 0

/-- A trigger of higher precedence waits at Landing 0: an S2, S3 or degrading S1 record that has arrived or been raised (R35). -/
def State.triggerWaits (s : State) : Bool :=
  !s.pairsLost && (s.led.arriving ++ s.led.queue).any fun (r : Rec) => decide (2 ≤ r.sev) || (r.sev == 1 && r.scope == 1)

/-- The records that wait are taken before a request that arrives with them (R36): an S3 record resets the part, the others are handled. -/
def State.triggersFirst (s : State) : State :=
  if !s.triggerWaits then s
  else
    let l := s.led.arriving
    let s1 := { s with led.arriving := [] }.each l fun (t : State) r =>
      if !t.running then t else if r.sev = 3 then t.receiveReset r (t.led.buffer.length + t.led.waiting.length) else t.receive r
    (s1.finishRec).each s1.led.queue fun (t : State) _ => t.startRecord

/-- MODE_REQUEST (R32, R36, R48, R49): judged against the table; OK with TRANS_SEQ when the transition is accepted. A request during a
transition completes BUSY_RETRY, and one that names the mode in force completes OK without a transition. Triggers of higher precedence that
have arrived with it are taken first. -/
def execModeRequest (c : Cmd) (s0 : State) : Out :=
  s0.command c 0x0101 fun s =>
  let target := arg c 16 1
  let option := arg c 17 1
  let s := s.triggersFirst
  if !s.running then .next s
  else if !s.targets c elxTargets then refuse s c .badParam
  else if !s.modeOk 0x0101 false then refuse s c .rejectedMode
  else if short c 2 || badRequest target option then refuse s c .badParam
  else if s.mode.trans.isSome then refuse s c .busyRetry
  else if target = s.md.code then .next (s.useFree.finish c .ok (Config.freeWord 0x64 s.free).toNat)
  else
    match s.requestTo target with
    | .error st => refuse s c st
    | .ok dest =>
      let s1 := s.acceptRequest dest option
      .next (s1.finish c .ok (s1.get R.SYS_MODE_TRANS_SEQ))

/-- PARK_ENGAGE (R42, R345): in STANDBY, DRIVE, DEGRADED and SERVICE, at standstill. -/
def execParkEngage (c : Cmd) (s0 : State) : Out :=
  s0.command c 0x0102 fun s =>
  if !s.targets c elxTargets then refuse s c .badParam
  else if !(s.md = .standby || s.md = .drive || s.md = .degraded || s.md = .service) || !s.standstill then refuse s c .rejectedMode
  else .next ((s.parkRequest true).finish c .ok)

/-- PARK_RELEASE (R42, R346); in SAFE_STOP it would act against Landing 0, which keeps the bridge off (R11, R46). -/
def execParkRelease (c : Cmd) (s0 : State) : Out :=
  s0.command c 0x0103 fun s =>
  if !s.targets c elxTargets then refuse s c .badParam
  else if s.md = .charge || s.md = .supply || !s.modeOk 0x0103 false then refuse s c .rejectedMode
  else if s.md = .safeStop then refuse s c .safetyBlocked
  else .next ((s.parkRequest false).finish c .ok)

/-- SAFE_STOP_REQUEST (R32, R48): from DISCOVER to DEGRADED it starts the transition; in SAFE_STOP it completes with no other effect. -/
def execSafeStopRequest (c : Cmd) (s0 : State) : Out :=
  s0.command c 0x0104 fun s =>
  if !s.targets c elxTargets then refuse s c .badParam
  else if !s.modeOk 0x0104 false then refuse s c .rejectedMode
  else .next ((if s.md = .safeStop then s else s.judge 0 precStop 0).finish c .ok)

/-- SYS_RESET (R48): in STANDBY, SERVICE, COMMISSION and SAFE_STOP at standstill; the completion is issued, then the warm reset CMD. -/
def execSysReset (c : Cmd) (s0 : State) : Out :=
  s0.command c 0x0105 fun s =>
  if !s.targets c elxTargets then refuse s c .badParam
  else if !(s.md = .standby || s.md = .service || s.md = .commission || s.md = .safeStop) || !s.standstill then refuse s c .rejectedMode
  else .next (s.finish c .ok).commandReset

/-! ### The DEGRADED timer (R43, R44, R50) -/

/-- DEGRADED_TIMER_EXPIRY (R44): in DEGRADED a 2 s ramp and SAFE_STOP, in STANDBY SAFE_STOP at once, elsewhere no action. -/
def execDegradedTimerExpiry (s : State) : Out :=
  if s.running && s.degrLeft = some 0 && !s.mode.degrExpired then
    let s1 := { s with mode.degrExpired := true }.degrEvent
    .next (if s1.md = .degraded || s1.md = .standby then s1.judge 3 precStop 0 else s1)
  else .next s

/-- DEGRADED_TIMER (R50): the event that falls due every 5 s after the first entry to DEGRADED, while the timer runs. -/
def execDegradedTimer (s : State) : Out :=
  if s.running && s.mode.degrStart.isSome && s.mode.degrTold && !s.mode.degrExpired then .next s.degrEvent else .next s

end Sys2Proof.Machine
end

