-- ==== Sys2Proof/Machine/Supply.lean ====
section
/-! DEFINITION. Supplies, resets, straps and HIBERNATE (03_supplies_reset_hibernate.md), but for BOOT itself.
A supply is numbered 0 VSTBY, 1 VDD_CORE, 2 VDD_SRAM, 3 VDDA, 4 VDD_LINK, 5 + n VIO_n.
An event that cannot occur in the present state has no effect (log 25). -/

namespace Sys2Proof.Machine

/-- The main rails are all good (R52, R58). -/
def State.mainGood (s : State) : Bool :=
  s.flag R.PWR_STATUS_CORE_GOOD && s.flag R.PWR_STATUS_SRAM_GOOD && s.flag R.PWR_STATUS_A_GOOD && s.flag R.PWR_STATUS_LINK_GOOD

/-- The main rails and the required banks of R54 are all good. -/
def State.railsGood (s : State) : Bool :=
  s.mainGood && (s.get R.PWR_STATUS_VIO_GOOD &&& requiredBanks s.part) == requiredBanks s.part

/-- The good bit of a supply other than VSTBY (R58). -/
def State.setGood (s : State) (k : Nat) (v : Bool) : State :=
  match k with
  | 0 => s
  | 1 => s.putB R.PWR_STATUS_CORE_GOOD v
  | 2 => s.putB R.PWR_STATUS_SRAM_GOOD v
  | 3 => s.putB R.PWR_STATUS_A_GOOD v
  | 4 => s.putB R.PWR_STATUS_LINK_GOOD v
  | k + 5 => if k < 8 then s.putBit R.PWR_STATUS_VIO_GOOD k v else s

/-- The part goes into HIBERNATE out of a rail wait: RAIL_EN low, pads isolated (R55, R71, R73). From OFF this is a transition, with POR as
its cause (R31, R32); after a wake the mode has been HIBERNATE all along. -/
def State.backToHibernate (s : State) : State :=
  let s1 := { s with pwr.power := .hibernate, pwr.railEn := false, pwr.isolated := true, pwr.isolatedVio3 := true }
  if s.pwr.afterWake then s1
  else ((s1.put R.SYS_MODE_MODE Mode.hibernate.code).put R.SYS_MODE_CAUSE_KIND 4).put R.SYS_MODE_CAUSE_TO Mode.hibernate.code

/-- The rails are good in a rail wait (R55, R73): the part leads towards BOOT, or, at power-on with RESET_N low, to HIBERNATE.
After a wake with RESET_N low the reset is held by PIN until RESET_N rises. -/
def State.railsUp (s : State) : State :=
  if s.pwr.afterWake then
    let s1 := s.enterReset srcWake true
    if s.pwr.resetN then s1 else s1.enterReset srcPin true
  else if s.pwr.resetN then
    { s with pwr.power := .reset, pwr.sources := 0, pwr.cold := true }
  else s.backToHibernate

/-- A rail wait begins: where the rails are good already, as on a board that keeps them up, it ends at once (R57, R69, R73). -/
def State.waitRails (s : State) : State := if s.railsGood then s.railsUp else s

/-- VSTBY_RISE (R55): from OFF the always-on domain starts, RAIL_EN rises and the power-on rail wait runs. -/
def execVstbyRise (resetN : Bool) (straps wake : Nat) (s : State) : Out :=
  if s.pwr.power = .off then
    let s1 := { s with pwr := { Supplies.init with power := .railWait, vstby := true, railEn := true, resetN := resetN,
                                                   straps := straps % 256, wakePins := wake % 16, perst := s.pwr.perst } }
    .next (s1.put R.SYS_STRAP_LIVE straps)
  else .next s

/-- SUPPLY_GOOD (R58): the supply's good bit sets; its pads leave the high-impedance state; a rail wait may end. -/
def execSupplyGood (supply : Nat) (s : State) : Out :=
  if s.pwr.power = .off then .next s
  else
    let s1 := s.setGood supply true
    if s1.pwr.power = .railWait && s1.railsGood then .next s1.railsUp
    else .next ({ s1 with pwr.isolatedVio3 := s1.pwr.isolatedVio3 && supply ≠ 8 }.refreshAll)

/-- OFF after a loss of VSTBY: everything, the always-on domain included, is reset (R58, R66). MRAM keeps its content. -/
def State.powerOff (s : State) : State :=
  { s.cleared with regs := [], pwr := { Supplies.init with resetN := s.pwr.resetN, straps := s.pwr.straps, wakePins := s.pwr.wakePins,
                                                           perst := s.pwr.perst } }

/-- SUPPLY_LOST (R58): OFF for VSTBY; a brown-out reset source for a main rail; for a bank its pads are high-impedance and a
supervised bank raises 0x0102 VIO_LOST. -/
def execSupplyLost (supply : Nat) (s : State) : Out :=
  if s.pwr.power = .off then .next s
  else if supply = 0 then .next s.powerOff
  else
    let s1 := s.setGood supply false
    let up := s.pwr.power = .run ∨ s.pwr.power = .reset
    if supply ≤ 4 then
      if up then .next ((s1.enterReset (supply + 1) true)) else .next s1
    else
      let n := supply - 5
      let s2 := s1.refreshAll
      if s.running && natBit s.pwr.supervised n && decide (n < 8) then
        .next (s2.raise 0x0102 (if n ≤ 3 then 2 else 1) 0x01 (w32 n))
      else .next s2

/-- RAIL_WAIT_EXPIRY (R55, R73): the rails are not all good; RAIL_EN goes low, RAIL_FAIL sets, and the part is in HIBERNATE. -/
def execRailWaitExpiry (s : State) : Out :=
  if s.pwr.power = .railWait && !s.railsGood then .next (s.backToHibernate.putB R.PWR_WAKE_STATUS_RAIL_FAIL true) else .next s

/-- RESET_PIN (R60): RESET_N has been low for the whole count. Running, or in a reset already, the part takes the warm source PIN;
in a rail wait and in HIBERNATE the low level alone matters (R55, R73). -/
def execResetPin (s : State) : Out :=
  let s1 := { s with pwr.resetN := false }
  match s.pwr.power with
  | .run => .next (s1.enterReset srcPin false)
  | .reset => .next (s1.enterReset srcPin false)
  | _ => .next s1

/-- STRAP_CHANGE_DETECTED (R65): CHANGED sets and 0x0006 STRAP_CHANGED is raised; LATCHED stays. In a reset or in HIBERNATE, where no unit
runs that could raise a record, CHANGED sets alone, and no record follows at the next BOOT (DESIGN CHOICE, log 61). -/
def execStrapChangeDetected (live : Nat) (s : State) : Out :=
  if s.pwr.power = .off then .next s
  else
    let s1 := ({ s with pwr.straps := live % 256 }).put R.SYS_STRAP_LIVE live
    if live % 256 = s.get R.SYS_STRAP_LATCHED then .next s1
    else
      let s2 := s1.putB R.SYS_STRAP_CHANGED true
      .next (s2.onlyIf s.running fun t => t.raise 0x0006 0 0x00)

/-- A wake in HIBERNATE: RAIL_EN rises and the rail wait starts (R73). -/
def State.wake (s : State) : State :=
  { s with pwr.power := .railWait, pwr.afterWake := true, pwr.railEn := true }.waitRails

/-- A level of WAKE_n that has held for its filter is the event that EDGE selects, and WAKE_n is enabled (R69, R70): 00 rising, 01 falling,
10 either edge, 11 high level. -/
def State.wakeEnabled (s : State) (n : Nat) (level : Bool) : Bool :=
  let was := natBit s.pwr.wakePins n
  let e := s.get ⟨R.PWR_WAKE_CFG, 2 * n + 5, 2 * n + 4⟩
  s.bitAt R.PWR_WAKE_CFG_EN n && (if e = 0 then !was && level else if e = 1 then was && !level else if e = 2 then was != level else level)

/-- WAKE_EVENT (R69, R70, R72, R73): WAKE_n has taken a level, which wakes the part where it is the event that its EDGE selects, or RESET_N
rises (`none`), which is always enabled. During entry to HIBERNATE the event is latched as EARLY; whether the source's own bit is set beside
EARLY the spec does not say, and the model sets EARLY alone (DESIGN CHOICE, log 61). -/
def execWakeEvent (pin : Option (Nat × Bool)) (s : State) : Out :=
  let s0 := match pin with
    | none => { s with pwr.resetN := true }
    | some (n, level) => if n < 4 then { s with pwr.wakePins := natSetBit s.pwr.wakePins n level } else s
  let on := match pin with | none => !s.pwr.resetN | some (n, level) => decide (n < 4) && s.wakeEnabled n level
  let mark (t : State) : State :=
    match pin with
    | none => t.putB R.PWR_WAKE_STATUS_PIN_RESET true
    | some (n, _) => t.putBit R.PWR_WAKE_STATUS_WAKE n true
  if !on then .next s0
  else if s.pwr.entering then .next { s0.putB R.PWR_WAKE_STATUS_EARLY true with pwr.earlyDelay := true }
  else if s.pwr.power = .hibernate && !s.pwr.earlyDelay then .next (mark s0).wake
  else .next s0

/-- WAKE_TIMER_EXPIRY (R70): the timer wakes the part once; it does not rearm itself. -/
def execWakeTimerExpiry (s : State) : Out :=
  if s.pwr.power = .hibernate && s.pwr.timerArmed && !s.pwr.earlyDelay then
    .next { s.putB R.PWR_WAKE_STATUS_TIMER true with pwr.timerArmed := false }.wake
  else .next s

/-- EARLY_WAKE_DELAY_EXPIRY (R72): 20 ms after an entry with an early wake, RAIL_EN rises for one clean power cycle. -/
def execEarlyWakeDelayExpiry (s : State) : Out :=
  if s.pwr.power = .hibernate && s.pwr.earlyDelay then .next { s with pwr.earlyDelay := false }.wake else .next s

end Sys2Proof.Machine
end

