-- ==== Sys2Proof/Machine/Boot.lean ====
section
/-! DEFINITION. BOOT (R63, 03_supplies_reset_hibernate.md) and what it loads from MRAM (R467, 24_register_map.md). -/

namespace Sys2Proof.Machine

/-! ### Steps 1 to 3 -/

/-- BOOT begins (R54, R58, R61, R63, R64): the pads leave isolation, a cold reset samples the straps, the supervised banks are fixed, the
reference buffer is enabled (R367), and this BOOT is counted (R427). -/
def State.bootBegin (s : State) (b : BootIn) : State :=
  let good := s.get R.PWR_STATUS_VIO_GOOD
  let s1 : State :=
    { s with
        atime := 0, led.boots := s.led.boots + 1
        pwr := { s.pwr with power := .run, sources := 0, cold := false, railEn := true, timerArmed := false, earlyDelay := false,
                            isolated := false, isolatedVio3 := !natBit good 3, supervised := good ||| requiredBanks s.part,
                            straps := if s.pwr.cold then b.straps % 256 else s.pwr.straps } }
  let s2 := if s.pwr.cold then (s1.put R.SYS_STRAP_LATCHED b.straps).put R.SYS_STRAP_LIVE b.straps else s1
  (s2.putB R.PWR_STATUS_VIO_USED_LOCK true).refOn.put R.SYS_MODE_TRANS_SEQ 1

/-- The counts of writes to the code partition are kept in MRAM, and MRAM_WEAR and WEAR_WARN show them again (R165). -/
def State.showWear (s : State) : State :=
  let top := s.store.sectorWrites.foldl (fun (b : Nat × Nat) e => if b.2 < e.2 then e else b) (0, 0)
  let s1 := if top.2 = 0 then s else (s.put R.MRAM_WEAR_SECTOR top.1).put R.MRAM_WEAR_WRITES_K (top.2 / 1000)
  if s1.store.worn.isEmpty then s1 else s1.putB R.MRAM_STATUS_WEAR_WARN true

/-- The spare rows of bank `n` that the repair map uses (R158). -/
def State.sparesUsed (s : State) (n : Nat) : Nat := (s.store.repairs.filter fun r => r.1 = n).length

/-- The CLASS that R154's table expects of a self-test case: 142 cases with the address all zeros, and again with it all ones. -/
def selfTestExpect (case_ : Nat) : Nat :=
  let k := case_ % 142
  if k < 4 then 0 else if k < 68 then 1 else if k < 76 then 2 else if k < 112 then 3 else if k < 132 then 4 else if k < 140 then 5 else 6

/-- The checker of bank `n` gives an unexpected class, or a spare that the repair map uses fails its read-back (R154). -/
def State.bankBad (s : State) (b : BootIn) (n : Nat) : Bool :=
  (b.selfTest.any fun x => x.1 = n && x.2.2 ≠ selfTestExpect x.2.1) ||
  b.badSpares.any fun x => x.1 = n && s.store.repairs.any fun r => r.1 = n && r.2.2 = x.2

/-- Step 3 (R154, R158, R159): the repair map is applied, a bank whose self-test fails raises 0x0607, and one without a free spare 0x0604. -/
def State.bootStore (s0 : State) (b : BootIn) : State :=
  let s := s0.showWear
  let banks := List.range 32
  let s1 := s.each banks fun t n => t.put (R.STORE_SPARE_USED (n / 8) (n % 8)) (t.sparesUsed n)
  let s2 := s1.each (banks.filter fun n => s.bankBad b n) fun t n => t.raise 0x0607 2 0x06 (w32 n)
  s2.each (banks.filter fun n => decide (8 ≤ s2.sparesUsed n)) fun t _ => t.raise 0x0604 1 0x06

/-! ### Steps 4 to 7 -/

/-- Step 5 (R63, R386, R406, R407): the pairs take service, Warden A split where SEAL_2 is latched, and Landing 0 takes the Banister; a
latch that had fired is told and cleared. -/
def State.bootLanding (s : State) : State :=
  let split := natBit (s.get R.SYS_STRAP_LATCHED) 2
  let s1 := ((s.setPairSt 0 (if split then 3 else 1)).setPairSt 1 1).putB R.PAIR_STATUS_STRAP_SPLIT split
  let s2 : State :=
    { s1 with pwr.latchDrives := false, safe.kickAt := s1.atime, own.hbAt := s1.atime, pair.coreHalted := [],
              pair.checkAt := Sparse.set (always 0) (Sparse.set (always 0) [] 0 s1.atime) 1 s1.atime }
  let s3 :=
    if s2.flag R.SAFE_LATCH_FIRED then
      (s2.raise 0x1106 0 0x11 (w32 (s2.get R.SAFE_LATCH_CAUSE))).putB R.SAFE_LATCH_FIRED false
    else s2
  s3.pairsChanged

/-- A comparator of step 5 exists: 0 and 1 the Warden pairs, 2 + n field engine n. -/
def State.hasComparator (s : State) (k : Nat) : Bool := decide (k < 2) || (decide (k < 10) && fePresent s.part (k - 2))

/-- The self-tests of steps 4 to 6 have passed: canary sweeps (R383) and the Steward runtime's signature. -/
def State.bootTestsOk (s : State) (b : BootIn) : Bool := b.stewardAuth && !(b.badCanary.any s.hasComparator)

/-! ### Step 8: commissioning and the parameter set (R438, R467) -/

/-- Why commissioning is not valid (R438), the first cause of its list: 0 absent, 1 copy damaged, 2 check value, 3 table, 4 straps. -/
def State.commCause (s : State) (b : BootIn) : Option Nat :=
  if !s.led.present then some 0
  else if !b.copiesIntact then some 1
  else if s.led.confirmed ≠ some s.checkNow then some 2
  else if !tableOk s.led.stored.table then some 3
  else if s.get R.SYS_STRAP_LATCHED ≠ s.led.sealRec then some 4
  else none

/-- The commissioning registers after BOOT, and the records of an invalid commissioning (R438). -/
def State.bootComm (s : State) (b : BootIn) : State :=
  let cause := s.commCause b
  let s1 := ((s.putB R.LEDGER_COMM_STATUS_VALID cause.isNone).putB R.LEDGER_COMM_STATUS_CONFIRMED (s.led.present && s.led.confirmed = some s.checkNow)).put
    R.LEDGER_COMM_STATUS_SEAL_REC s.led.sealRec
  let s2 := (s1.wr R.LEDGER_COMM_CHECK s1.checkNow).wr R.LEDGER_COMM_CONF (s1.led.confirmed.getD 0)
  let s3 := s2.putB R.DISC_STATUS_REFERENCE !s2.led.stored.disc.isEmpty
  match cause with
  | none => s3
  | some k =>
    let s4 := s3.raise 0x1303 0 0x13 (w32 k)
    let p := s4.get R.SYS_STRAP_LATCHED
    if s4.led.confirmed.isSome ∧ p ≠ s4.led.sealRec then s4.raise 0x1304 0 0x13 (w32 s4.led.sealRec) (w32 p) else s4

/-- The RWS fields of the register at `a` take a stored word; a Tally CFG register and the sequence tables have loads of their own. -/
def State.loadReg (s : State) (a : Nat) (v : Word) : State :=
  match findReg a with
  | some (f, i) =>
    if !regPresent s.part f i || f.name = .r_TALLY_CONN_c_CFG then s
    else (f.fields.filter fun fd => fd.ty = .rws).foldl (fun (t : State) fd => t.writeField a v fd) s
  | none => s

/-- The Tally connections take their stored CFG and open (R411, R420). -/
def State.loadTally (s : State) : State :=
  s.each tallyConns fun t c =>
    let a := R.TALLY_CONN_CFG c
    if t.storedReg a = resetValue t.part a then t else (t.tallyCfgPut c (t.storedReg a)).tallyFollow c

/-- What registers and words outside the set follow its fields: the over-voltage code (R331), the charge watchdog (R328), ΔV (R300), the hop
limit (R457), and the demands of the safety inputs. -/
def State.loadFollow (s : State) : State :=
  let s1 := (s.put R.CHG_OVP_CODE s.ovpCode).put R.LINK_GL_CFG_HOPS_MAX (hopsMax (s.get R.LINK_GL_CFG_TX_BUDGET))
  let s2 := (s1.wardenStage 5 451 (fOfRatio (s1.get R.CHG_TIMERS_WD_TIMEOUT) 100)).burstDv
  s2.each (List.range 8) State.demandRefresh

/-- The Wardens load the confirmed parameter set (R362, R369, R467). -/
def State.loadSet (s : State) : State :=
  let s1 := s.each s.led.stored.regs fun t e => t.loadReg e.1 e.2
  let s2 := s1.each s.led.stored.cal fun t e => t.wr e.1 e.2
  let s3 := ((((s2.storedTable 0).armSwap 0).storedTable 1).armSwap 1).loadTable s.led.stored.table
  (((s3.seqRun 0 true).seqRun 1 true).loadEngines).loadTally

/-- Without valid commissioning: SEQ_0's default table (R362), the vendor programs, and the gate links of every assigned channel polled. -/
def State.loadNone (s : State) : State :=
  let s1 := s.defaultTable.seqRun 0 true
  let s2 := s1.each s1.engines State.loadVendor
  s2.each (s2.allChans.filter fun n => s2.chanFunc n != 0) fun t n => t.putB (R.GATE_CH_CFG_EN n) true

/-- The factory channels of the sequenced converters take their calibration (R359, R467); its values are not given. -/
def State.loadFactory (s : State) : State :=
  s.each ((List.range 15).map (80 + ·)) fun t n =>
    let w := (Config.freeWord 0x5C n).toNat
    (t.wr (R.ACQ_CH_CAL n) (w32 ((0x6667 + w % 0x3333) * 65536 + w / 65536))).wr (R.ACQ_CH_SCALE n) (Config.freeWord 0x5D n)

/-- The runtime sets up the converter's channels and timebase (R295, R198): PHASE on carrier A, a quarter period from phase to phase. -/
def State.setupConv (s : State) : State :=
  let s1 := s.putB (R.EDGE_TB_CFG_KIND 4) true
  s1.each (s1.allChans.filter fun n => s1.chanFunc n = 2) fun t n =>
    ((t.put (R.EDGE_CH_CFG_MODE n) 2).putB (R.EDGE_CH_CFG_CAR n) false).put (R.EDGE_CH_CFG_PH_OFF n) (16384 * t.chanUnit n)

/-- The runtime sets up TB_5 and the charger's channels (R314): PFC legs CENTRE on carrier A, DAB legs PHASE on carrier B. -/
def State.setupCharger (s : State) : State :=
  let s1 := (s.putB (R.EDGE_TB_CFG_KIND 5) true).put (R.EDGE_TB_HALF_A_HALF 5) 4571
  s1.each (s1.allChans.filter fun n => s1.chanFunc n = 3) fun t n =>
    let dab : Bool := t.chanUnit n ≠ 0
    (t.put (R.EDGE_CH_CFG_MODE n) (if dab then 2 else 1)).putB (R.EDGE_CH_CFG_CAR n) dab

/-- The runtime sets up the traction legs in CENTRE (R219), and TB_6, TB_7 FREE with the actuators' legs in BAND (R340). -/
def State.setupMotors (s : State) : State :=
  let s1 := s.each [6, 7] fun t n => t.putB (R.EDGE_TB_CFG_KIND n) true
  s1.each s1.allChans fun t n =>
    if t.chanFunc n = 1 then t.put (R.EDGE_CH_CFG_MODE n) 1 else if t.chanFunc n = 4 then t.put (R.EDGE_CH_CFG_MODE n) 3 else t

/-- What BOOT loads and sets up before it ends (log 53). -/
def State.bootLoad (s : State) : State :=
  let s1 := (if s.flag R.LEDGER_COMM_STATUS_VALID then s.loadSet else s.loadNone).loadFactory
  s1.loadFollow.setupConv.setupCharger.setupMotors.refreshAll

/-! ### BOOT as a whole -/

/-- The required banks that are not good as BOOT completes (R54). -/
def State.banksLost (s : State) : List Nat :=
  (List.range 8).filter fun n => natBit (requiredBanks s.part) n && !s.bitAt R.PWR_STATUS_VIO_GOOD n

/-- Where BOOT leads (R32): the mode, and the ledger code of the S2 record that leads to SAFE_STOP. -/
def State.bootTarget (s : State) (b : BootIn) : Mode × Nat :=
  if (List.range 32).any fun n => s.bankBad b n then (.safeStop, 0x0607)
  else if !s.bootTestsOk b then (.safeStop, 0x0005)
  else if !s.banksLost.isEmpty then (.safeStop, 0x0102)
  else if s.flag R.LEDGER_COMM_STATUS_VALID then (.discover, 0)
  else (.commission, 0)

/-- S0 and S1 records raised in BOOT are logged, and act on no mode (R45): a degrading one sets no DEGRADE_MARK. -/
def State.bootLog (s : State) : State :=
  let l := s.led.arriving.filter fun (r : Rec) => r.sev < 2
  { s with led.arriving := s.led.arriving.filter fun (r : Rec) => 2 ≤ r.sev }.each l fun (t : State) r => (t.report r).logRec (r.mark flagHandled)

/-- The windows that close before BOOT ends have released what the pairs wrote (R378). -/
def State.flushAll (s : State) : State := (s.flushTurnstile 0).flushTurnstile 1

/-- The mode after BOOT is in force: SYS_MODE_CAUSE reads the ledger, the wake source or the reset source (R31, R62). -/
def State.bootEnd (s : State) (b : BootIn) : State :=
  let dest := s.bootTarget b
  let kind := if dest.1 = .safeStop then 1 else if s.flag R.SYS_RESET_CAUSE_WAKE then 5 else 4
  let s1 := ((s.put R.SYS_MODE_TRANS_SEQ 2).modeSet Mode.boot.code dest.1 kind dest.2)
  let s2 := if dest.1 = .safeStop then s1.safeOutputs dest.2 else s1
  s2.modeEffects .boot

/-- The records of BOOT itself: the image of SYS_RESET_CAUSE (R62), a failed self-test (R63), and lost banks (R54). -/
def State.bootRecords (s : State) (b : BootIn) : State :=
  let s1 := s.raise 0x0101 0 0x01 (s.rd R.SYS_RESET_CAUSE)
  let s2 := if s1.bootTestsOk b then s1 else s1.raise 0x0005 2 0x00
  s2.each s2.banksLost fun t n => t.raise 0x0102 2 0x01 (w32 n)

/-- BOOT ends at step 4, with the Warden runtime not authenticated (R32, R63): the S2 record and SAFE_STOP, in which no runtime takes
Landing 0 and the safe-state latch keeps the outputs. -/
def State.bootNoRuntime (s : State) : State :=
  ((({ s with pwr.noRuntime := true }.raise 0x0005 2 0x00).put R.SYS_MODE_TRANS_SEQ 2).modeSet Mode.boot.code .safeStop 1 0x0005).refreshAll

/-- BOOT_START (R59, R63): 10 µs after the last reset source has released, RESET_N among them, and the main rails are good, BOOT runs its
steps. -/
def execBootStart (b : BootIn) (s : State) : Out :=
  if !(s.pwr.power = .reset) || !s.mainGood || !s.pwr.resetN then .next s
  else
    let s1 := (s.bootBegin b).bootStore b
    if !b.wardenAuth then .next s1.bootNoRuntime
    else
      let s2 := ((s1.bootLanding.bootComm b).bootLoad).bootRecords b
      .next ((s2.bootLog.bootEnd b).flushAll)

end Sys2Proof.Machine
end

