-- ==== Sys2Proof/Machine/Pairing.lean ====
section
/-! DEFINITION. The signature windows of the Warden pairs and what leaves their Turnstiles (R377-R383, 19_paired_execution.md). -/

namespace Sys2Proof.Machine

/-- The writer that a pair is. -/
def pairWriter (k : Nat) : Writer := if k = 0 then .wardenA else .wardenB

/-- The counters of a window: instructions retired, cycles stalled, and the Turnstile's occupancy, which the close empties (R377, R378). -/
def State.windowCounts (s : State) (k : Nat) (x : WindowIn) : State :=
  let s1 := s.wr (R.PAIR_W_RETIRED k) (s.rd (R.PAIR_W_RETIRED k) + w32 x.retired)
  let s2 := s1.put (R.PAIR_W_STALL_CYCLES k) (satTo 32 (s1.get (R.PAIR_W_STALL_CYCLES k) + x.stalled))
  let s3 := s2.put (R.PAIR_W_STAT_TS_MAX k) (max (s2.get (R.PAIR_W_STAT_TS_MAX k)) (min x.count 64))
  (s3.put (R.PAIR_W_STAT_TS_NOW k) 0).setWarden k { s3.warden k with window := (s3.warden k).window + 1 }

/-- The Turnstile releases the window's transactions: writes of Landing 0 words and registers in retirement order, then grants and assertions
(R14, R17, R378, R396). With the first window of a pair that has come back the Banister takes its lines again (R386, R388). -/
def State.releaseWindow (s : State) (k : Nat) (x : WindowIn) : State :=
  let s0 := if Sparse.get (always false) s.pair.fresh k then { s with pair.fresh := Sparse.set (always false) s.pair.fresh k false }.refreshAll else s
  let s1 := (x.writes.take 64).foldl (fun (t : State) e => t.regWrite (pairWriter k) e.1 e.2) (s0.flushTurnstile k)
  let s2 := { s1 with edge.synced := s1.edge.synced ++ s1.edge.grants.filter (fun (g : Nat × Nat) => g.1 = k),
                      edge.grants := s1.edge.grants.filter (fun (g : Nat × Nat) => g.1 ≠ k) }
  (s2.soutRelease k).releaseFrames k

/-- The canary comparison at the first window close after each millisecond (R383). -/
def State.wardenCanary (s : State) (k : Nat) (g : GateIn) : State :=
  let w := s.warden k
  if s.atime.toNat / 1000 = w.canaryAt.toNat / 1000 then s
  else
    let s1 := (s.setWarden k { w with canaryAt := s.atime }).wrapInc (R.PAIR_W_STAT_CANARY_BIT k)
    if g.canarySees then s1.satInc R.PAIR_CANARY_PASSED else s1.wardenDiverge k 3 g.main g.checker

/-- WARDEN_WINDOW_CLOSE (R377, R378, R380, R383): pair `k` closes a window; its comparison releases or discards what it holds. -/
def execWardenWindowClose (k : Nat) (x : WindowIn) (s : State) : Out :=
  if !s.running || decide (2 ≤ k) || !s.inService k then .next s
  else
    match gateCause x.gate with
    | some c => .next (s.wardenDiverge k c x.gate.main x.gate.checker)
    | none => .next (((s.windowCounts k x).releaseWindow k x).wardenCanary k x.gate)

end Sys2Proof.Machine
end

