-- ==== Sys2Proof/Machine/Dispatch.lean ====
section
/-! DEFINITION. The dispatch: each command and the one meaning it calls. -/

namespace Sys2Proof.Machine

def exec (i : Instr) (s : State) : Host.Outcome State Fault Refusal :=
  match i with
  | .vstbyRise resetN straps wake => Sys2Proof.Machine.execVstbyRise resetN straps wake s
  | .supplyGood supply => Sys2Proof.Machine.execSupplyGood supply s
  | .supplyLost supply => Sys2Proof.Machine.execSupplyLost supply s
  | .railWaitExpiry => Sys2Proof.Machine.execRailWaitExpiry s
  | .resetPin => Sys2Proof.Machine.execResetPin s
  | .bootStart b => Sys2Proof.Machine.execBootStart b s
  | .perstAssert port => Sys2Proof.Machine.execPerstAssert port s
  | .strapChangeDetected live => Sys2Proof.Machine.execStrapChangeDetected live s
  | .wakeEvent pin => Sys2Proof.Machine.execWakeEvent pin s
  | .wakeTimerExpiry => Sys2Proof.Machine.execWakeTimerExpiry s
  | .earlyWakeDelayExpiry => Sys2Proof.Machine.execEarlyWakeDelayExpiry s
  | .modeStatus c => Sys2Proof.Machine.execModeStatus c s
  | .modeRequest c => Sys2Proof.Machine.execModeRequest c s
  | .parkEngage c => Sys2Proof.Machine.execParkEngage c s
  | .parkRelease c => Sys2Proof.Machine.execParkRelease c s
  | .safeStopRequest c => Sys2Proof.Machine.execSafeStopRequest c s
  | .sysReset c => Sys2Proof.Machine.execSysReset c s
  | .modeTransitionEnd drop fault => Sys2Proof.Machine.execModeTransitionEnd drop fault s
  | .degradedTimerExpiry => Sys2Proof.Machine.execDegradedTimerExpiry s
  | .degradedTimer => Sys2Proof.Machine.execDegradedTimer s
  | .discoverStart meas => Sys2Proof.Machine.execDiscoverStart meas s
  | .discLinkWaitExpiry => Sys2Proof.Machine.execDiscLinkWaitExpiry s
  | .discoverEnd meas emf => Sys2Proof.Machine.execDiscoverEnd meas emf s
  | .discRun c meas => Sys2Proof.Machine.execDiscRun c meas s
  | .discAdopt c => Sys2Proof.Machine.execDiscAdopt c s
  | .discRead c => Sys2Proof.Machine.execDiscRead c s
  | .ringSelect w m v => Sys2Proof.Machine.execRingSelect w m v s
  | .ringConfigWrite w m v => Sys2Proof.Machine.execRingConfigWrite w m v s
  | .ringReset w m v => Sys2Proof.Machine.execRingReset w m v s
  | .doorbellCmd w m k v => Sys2Proof.Machine.execDoorbellCmd w m k v s
  | .doorbellCpl w m k v => Sys2Proof.Machine.execDoorbellCpl w m k v s
  | .doorbellEvt w m k v => Sys2Proof.Machine.execDoorbellEvt w m k v s
  | .doorbellTlm w m k v => Sys2Proof.Machine.execDoorbellTlm w m k v s
  | .descriptorFetch => Sys2Proof.Machine.execDescriptorFetch s
  | .descriptorReadDone data payloads => Sys2Proof.Machine.execDescriptorReadDone data payloads s
  | .resultIntake => Sys2Proof.Machine.execResultIntake s
  | .completionIssue => Sys2Proof.Machine.execCompletionIssue s
  | .crFullRepeat m k => Sys2Proof.Machine.execCrFullRepeat m k s
  | .classRTimeout m tag => Sys2Proof.Machine.execClassRTimeout m tag s
  | .cmdProgress m tag perMille bytes => Sys2Proof.Machine.execCmdProgress m tag perMille bytes s
  | .eventDelivery => Sys2Proof.Machine.execEventDelivery s
  | .irqTimeExpiry m kind k => Sys2Proof.Machine.execIrqTimeExpiry m kind k s
  | .tlmSelect c => Sys2Proof.Machine.execTlmSelect c s
  | .tlmBufferCopy m k => Sys2Proof.Machine.execTlmBufferCopy m k s
  | .tlmFlushExpiry m k => Sys2Proof.Machine.execTlmFlushExpiry m k s
  | .ownQuery c => Sys2Proof.Machine.execOwnQuery c s
  | .ownClaim c => Sys2Proof.Machine.execOwnClaim c s
  | .ownHandover c => Sys2Proof.Machine.execOwnHandover c s
  | .ownConfirm c => Sys2Proof.Machine.execOwnConfirm c s
  | .claimWindowClose => Sys2Proof.Machine.execClaimWindowClose s
  | .ownershipPass => Sys2Proof.Machine.execOwnershipPass s
  | .stewardSuccessorConfirm => Sys2Proof.Machine.execStewardSuccessorConfirm s
  | .handoverHoldExpiry => Sys2Proof.Machine.execHandoverHoldExpiry s
  | .handoverConfirmTimeout => Sys2Proof.Machine.execHandoverConfirmTimeout s
  | .heartbeat w m v => Sys2Proof.Machine.execHeartbeat w m v s
  | .heartbeatTimeout => Sys2Proof.Machine.execHeartbeatTimeout s
  | .serviceRequest => Sys2Proof.Machine.execServiceRequest s
  | .sramAccess a => Sys2Proof.Machine.execSramAccess a s
  | .aadd a => Sys2Proof.Machine.execAadd a s
  | .aswp a => Sys2Proof.Machine.execAswp a s
  | .bankPowerRequest w k v => Sys2Proof.Machine.execBankPowerRequest w k v s
  | .bankIdleRetention bank => Sys2Proof.Machine.execBankIdleRetention bank s
  | .marketRequest chs => Sys2Proof.Machine.execMarketRequest chs s
  | .marketRelease w ch stall => Sys2Proof.Machine.execMarketRelease w ch stall s
  | .marketQuotaWrite w ch v => Sys2Proof.Machine.execMarketQuotaWrite w ch v s
  | .scrubLine found => Sys2Proof.Machine.execScrubLine found s
  | .scrubPriorityWriteback => Sys2Proof.Machine.execScrubPriorityWriteback s
  | .trackerEntryExpiry word => Sys2Proof.Machine.execTrackerEntryExpiry word s
  | .rowRepair word cause => Sys2Proof.Machine.execRowRepair word cause s
  | .bgtWindowStep ends fails => Sys2Proof.Machine.execBgtWindowStep ends fails s
  | .mramDailyRead addr flips => Sys2Proof.Machine.execMramDailyRead addr flips s
  | .feTick n => Sys2Proof.Machine.execFeTick n s
  | .tickOverrun n => Sys2Proof.Machine.execTickOverrun n s
  | .nop n d a b x => Sys2Proof.Machine.execNop n d a b x s
  | .mov n d a b x => Sys2Proof.Machine.execMov n d a b x s
  | .fadd n d a b x => Sys2Proof.Machine.execFadd n d a b x s
  | .fsub n d a b x => Sys2Proof.Machine.execFsub n d a b x s
  | .fmul n d a b x => Sys2Proof.Machine.execFmul n d a b x s
  | .fmac n d a b x => Sys2Proof.Machine.execFmac n d a b x s
  | .fmin n d a b x => Sys2Proof.Machine.execFmin n d a b x s
  | .fmax n d a b x => Sys2Proof.Machine.execFmax n d a b x s
  | .fabs n d a b x => Sys2Proof.Machine.execFabs n d a b x s
  | .fneg n d a b x => Sys2Proof.Machine.execFneg n d a b x s
  | .fcmp n d a b x => Sys2Proof.Machine.execFcmp n d a b x s
  | .ftoi n d a b x => Sys2Proof.Machine.execFtoi n d a b x s
  | .itof n d a b x => Sys2Proof.Machine.execItof n d a b x s
  | .sincos n d a b x => Sys2Proof.Machine.execSincos n d a b x s
  | .sqrt n d a b x => Sys2Proof.Machine.execSqrt n d a b x s
  | .div n d a b x => Sys2Proof.Machine.execDiv n d a b x s
  | .iadd n d a b x => Sys2Proof.Machine.execIadd n d a b x s
  | .isub n d a b x => Sys2Proof.Machine.execIsub n d a b x s
  | .iand n d a b x => Sys2Proof.Machine.execIand n d a b x s
  | .ior n d a b x => Sys2Proof.Machine.execIor n d a b x s
  | .ixor n d a b x => Sys2Proof.Machine.execIxor n d a b x s
  | .ishl n d a b x => Sys2Proof.Machine.execIshl n d a b x s
  | .ishr n d a b x => Sys2Proof.Machine.execIshr n d a b x s
  | .ili n d imm => Sys2Proof.Machine.execIli n d imm s
  | .ldp n d a b x => Sys2Proof.Machine.execLdp n d a b x s
  | .stp n d a b x => Sys2Proof.Machine.execStp n d a b x s
  | .ldg n d a b x => Sys2Proof.Machine.execLdg n d a b x s
  | .clarke n d a b x => Sys2Proof.Machine.execClarke n d a b x s
  | .iclarke n d a b x => Sys2Proof.Machine.execIclarke n d a b x s
  | .park n d a b x => Sys2Proof.Machine.execPark n d a b x s
  | .ipark n d a b x => Sys2Proof.Machine.execIpark n d a b x s
  | .pistep n d a b x => Sys2Proof.Machine.execPistep n d a b x s
  | .limit n d a b x => Sys2Proof.Machine.execLimit n d a b x s
  | .region n d a b x => Sys2Proof.Machine.execRegion n d a b x s
  | .prof n d a b x => Sys2Proof.Machine.execProf n d a b x s
  | .plaus n d a b x => Sys2Proof.Machine.execPlaus n d a b x s
  | .bset n d a b x => Sys2Proof.Machine.execBset n d a b x s
  | .sld n d a b x => Sys2Proof.Machine.execSld n d a b x s
  | .sldSampleTimeout n => Sys2Proof.Machine.execSldSampleTimeout n s
  | .cst n d a b x => Sys2Proof.Machine.execCst n d a b x s
  | .evt n d a b x => Sys2Proof.Machine.execEvt n d a b x s
  | .br n d a b x => Sys2Proof.Machine.execBr n d a b x s
  | .brc n d a b x => Sys2Proof.Machine.execBrc n d a b x s
  | .commit n cycle g => Sys2Proof.Machine.execCommit n cycle g s
  | .feRunStart w n => Sys2Proof.Machine.execFeRunStart w n s
  | .feRunStop w n => Sys2Proof.Machine.execFeRunStop w n s
  | .feEntryWrite w n entry => Sys2Proof.Machine.execFeEntryWrite w n entry s
  | .fePstageHold w n hold => Sys2Proof.Machine.execFePstageHold w n hold s
  | .feParamWrite w n p vs => Sys2Proof.Machine.execFeParamWrite w n p vs s
  | .feLoopStoreWrite w n a v => Sys2Proof.Machine.execFeLoopStoreWrite w n a v s
  | .banisterRemove pair unit line => Sys2Proof.Machine.execBanisterRemove pair unit line s
  | .banisterGrant pair unit => Sys2Proof.Machine.execBanisterGrant pair unit s
  | .ascInterlockExpiry ch => Sys2Proof.Machine.execAscInterlockExpiry ch s
  | .timebaseStart w n v => Sys2Proof.Machine.execTimebaseStart w n v s
  | .updatePoint n at_ settled => Sys2Proof.Machine.execUpdatePoint n at_ settled s
  | .fastConversion k t raw inst => Sys2Proof.Machine.execFastConversion k t raw inst s
  | .bandDwellEnd ch => Sys2Proof.Machine.execBandDwellEnd ch s
  | .gateLinkPoll n status count poll => Sys2Proof.Machine.execGateLinkPoll n status count poll s
  | .driverFault n => Sys2Proof.Machine.execDriverFault n s
  | .trqSet c => Sys2Proof.Machine.execTrqSet c s
  | .spdSet c => Sys2Proof.Machine.execSpdSet c s
  | .ctrlSel c => Sys2Proof.Machine.execCtrlSel c s
  | .trqStatus c => Sys2Proof.Machine.execTrqStatus c s
  | .trcParamWrite c => Sys2Proof.Machine.execTrcParamWrite c s
  | .trcParamRead c => Sys2Proof.Machine.execTrcParamRead c s
  | .setpointWdExpiry n => Sys2Proof.Machine.execSetpointWdExpiry n s
  | .overspeed n => Sys2Proof.Machine.execOverspeed n s
  | .vdcAbsent n => Sys2Proof.Machine.execVdcAbsent n s
  | .lawSel c => Sys2Proof.Machine.execLawSel c s
  | .bandSat n => Sys2Proof.Machine.execBandSat n s
  | .fswLimit n => Sys2Proof.Machine.execFswLimit n s
  | .estimatorLocked n => Sys2Proof.Machine.execEstimatorLocked n s
  | .acquireFail n => Sys2Proof.Machine.execAcquireFail n s
  | .recapDecayTimeout n => Sys2Proof.Machine.execRecapDecayTimeout n s
  | .recapFwEnd n => Sys2Proof.Machine.execRecapFwEnd n s
  | .recapAscEnd n => Sys2Proof.Machine.execRecapAscEnd n s
  | .recaptureFail n => Sys2Proof.Machine.execRecaptureFail n s
  | .dclMonitorSample code => Sys2Proof.Machine.execDclMonitorSample code s
  | .ov2Restore => Sys2Proof.Machine.execOv2Restore s
  | .chopperBudget => Sys2Proof.Machine.execChopperBudget s
  | .dclMonCompare => Sys2Proof.Machine.execDclMonCompare s
  | .selectorEvaluation => Sys2Proof.Machine.execSelectorEvaluation s
  | .ov3LatchRelease => Sys2Proof.Machine.execOv3LatchRelease s
  | .dclQuery c => Sys2Proof.Machine.execDclQuery c s
  | .dclDischarge c => Sys2Proof.Machine.execDclDischarge c s
  | .chopTest c drop fault => Sys2Proof.Machine.execChopTest c drop fault s
  | .convSetV c => Sys2Proof.Machine.execConvSetV c s
  | .convStatus c => Sys2Proof.Machine.execConvStatus c s
  | .convRestart c => Sys2Proof.Machine.execConvRestart c s
  | .convLightLoad c => Sys2Proof.Machine.execConvLightLoad c s
  | .convSync c => Sys2Proof.Machine.execConvSync c s
  | .syncEdge interval phase => Sys2Proof.Machine.execSyncEdge interval phase s
  | .syncLost => Sys2Proof.Machine.execSyncLost s
  | .convStart => Sys2Proof.Machine.execConvStart s
  | .burstWakeSample low => Sys2Proof.Machine.execBurstWakeSample low s
  | .convShort => Sys2Proof.Machine.execConvShort s
  | .convRetryWaitExpiry => Sys2Proof.Machine.execConvRetryWaitExpiry s
  | .cbcLimit k => Sys2Proof.Machine.execCbcLimit k s
  | .convOvp => Sys2Proof.Machine.execConvOvp s
  | .convVoutAbsent => Sys2Proof.Machine.execConvVoutAbsent s
  | .chgArm c => Sys2Proof.Machine.execChgArm c s
  | .chgDisarm c => Sys2Proof.Machine.execChgDisarm c s
  | .chgLimit c => Sys2Proof.Machine.execChgLimit c s
  | .chgStatus c => Sys2Proof.Machine.execChgStatus c s
  | .chgRestart c => Sys2Proof.Machine.execChgRestart c s
  | .supSet c => Sys2Proof.Machine.execSupSet c s
  | .lvChgArm c => Sys2Proof.Machine.execLvChgArm c s
  | .lvChgDisarm c => Sys2Proof.Machine.execLvChgDisarm c s
  | .lvChgLimit c => Sys2Proof.Machine.execLvChgLimit c s
  | .pilotStateChange vh vl freq duty => Sys2Proof.Machine.execPilotStateChange vh vl freq duty s
  | .ppSample mv => Sys2Proof.Machine.execPpSample mv s
  | .pilotRouteCheck vh => Sys2Proof.Machine.execPilotRouteCheck vh s
  | .chgOnTimeEnd lv mean => Sys2Proof.Machine.execChgOnTimeEnd lv mean s
  | .chgRestEnd lv vOn v10 vEnd iOn zero => Sys2Proof.Machine.execChgRestEnd lv vOn v10 vEnd iOn zero s
  | .chgPrepFail lv => Sys2Proof.Machine.execChgPrepFail lv s
  | .chgTerminate lv => Sys2Proof.Machine.execChgTerminate lv s
  | .chgWatchdog lv => Sys2Proof.Machine.execChgWatchdog lv s
  | .chgTimer lv => Sys2Proof.Machine.execChgTimer lv s
  | .lvBatteryAbsent => Sys2Proof.Machine.execLvBatteryAbsent s
  | .lvVsetForward => Sys2Proof.Machine.execLvVsetForward s
  | .supplyOverload => Sys2Proof.Machine.execSupplyOverload s
  | .actCurrent c => Sys2Proof.Machine.execActCurrent c s
  | .actSpeed c => Sys2Proof.Machine.execActSpeed c s
  | .actMove c => Sys2Proof.Machine.execActMove c s
  | .actStatus c => Sys2Proof.Machine.execActStatus c s
  | .encStatus c => Sys2Proof.Machine.execEncStatus c s
  | .parkVerified => Sys2Proof.Machine.execParkVerified s
  | .parkFail => Sys2Proof.Machine.execParkFail s
  | .parkRecheck => Sys2Proof.Machine.execParkRecheck s
  | .encoderEnable w k v => Sys2Proof.Machine.execEncoderEnable w k v s
  | .encoderEdge k a b dt => Sys2Proof.Machine.execEncoderEdge k a b dt s
  | .encoderIndex k => Sys2Proof.Machine.execEncoderIndex k s
  | .encoderStandstill k => Sys2Proof.Machine.execEncoderStandstill k s
  | .hallCodeChange k code => Sys2Proof.Machine.execHallCodeChange k code s
  | .sentFrame k sync nibbles crcOk slow => Sys2Proof.Machine.execSentFrame k sync nibbles crcOk slow s
  | .sentLost k => Sys2Proof.Machine.execSentLost k s
  | .resolverEnable w k v => Sys2Proof.Machine.execResolverEnable w k v s
  | .resSignal k => Sys2Proof.Machine.execResSignal k s
  | .seqConversion k raw sub => Sys2Proof.Machine.execSeqConversion k raw sub s
  | .seqEntryWrite w k e delay v => Sys2Proof.Machine.execSeqEntryWrite w k e delay v s
  | .seqSwap w k => Sys2Proof.Machine.execSeqSwap w k s
  | .refReady ok => Sys2Proof.Machine.execRefReady ok s
  | .refFault => Sys2Proof.Machine.execRefFault s
  | .refBufferWrite w v => Sys2Proof.Machine.execRefBufferWrite w v s
  | .acqSeqWrite c => Sys2Proof.Machine.execAcqSeqWrite c s
  | .acqSeqRun c => Sys2Proof.Machine.execAcqSeqRun c s
  | .acqGrpFetch c => Sys2Proof.Machine.execAcqGrpFetch c s
  | .acqCalZero c => Sys2Proof.Machine.execAcqCalZero c s
  | .acqCalSpan c => Sys2Proof.Machine.execAcqCalSpan c s
  | .acqCalStore c => Sys2Proof.Machine.execAcqCalStore c s
  | .acqDiag c => Sys2Proof.Machine.execAcqDiag c s
  | .acqInsertionDone chan sum1 sum2 good => Sys2Proof.Machine.execAcqInsertionDone chan sum1 sum2 good s
  | .wardenWindowClose k x => Sys2Proof.Machine.execWardenWindowClose k x s
  | .divergence unit cause main checker => Sys2Proof.Machine.execDivergence unit cause main checker s
  | .pairSplit c => Sys2Proof.Machine.execPairSplit c s
  | .pairRejoin c good => Sys2Proof.Machine.execPairRejoin c good s
  | .pairStatus c => Sys2Proof.Machine.execPairStatus c s
  | .pairCheckin w j v => Sys2Proof.Machine.execPairCheckin w j v s
  | .supervisionMiss j => Sys2Proof.Machine.execSupervisionMiss j s
  | .dbgHalt w t => Sys2Proof.Machine.execDbgHalt w t s
  | .dbgStep w t => Sys2Proof.Machine.execDbgStep w t s
  | .dbgResume w t => Sys2Proof.Machine.execDbgResume w t s
  | .dbgMemRead => Sys2Proof.Machine.execDbgMemRead s
  | .dbgMemWrite w v => Sys2Proof.Machine.execDbgMemWrite w v s
  | .dbgRegRead => Sys2Proof.Machine.execDbgRegRead s
  | .dbgRegWrite w v => Sys2Proof.Machine.execDbgRegWrite w v s
  | .sinContactChange n b level => Sys2Proof.Machine.execSinContactChange n b level s
  | .sinFiltered n b => Sys2Proof.Machine.execSinFiltered n b s
  | .sinDiscrepancy n => Sys2Proof.Machine.execSinDiscrepancy n s
  | .safetyScan pair => Sys2Proof.Machine.execSafetyScan pair s
  | .safetyRowTimerExpiry pair row => Sys2Proof.Machine.execSafetyRowTimerExpiry pair row s
  | .soutReadbackFault n => Sys2Proof.Machine.execSoutReadbackFault n s
  | .soutTestPulse n => Sys2Proof.Machine.execSoutTestPulse n s
  | .soutTestPulseEnd n low => Sys2Proof.Machine.execSoutTestPulseEnd n low s
  | .soutTestJudge n high => Sys2Proof.Machine.execSoutTestJudge n high s
  | .fastClear w v => Sys2Proof.Machine.execFastClear w v s
  | .wardenKick pair => Sys2Proof.Machine.execWardenKick pair s
  | .safeLatchFire => Sys2Proof.Machine.execSafeLatchFire s
  | .safeTableWrite c => Sys2Proof.Machine.execSafeTableWrite c s
  | .safeIoStatus c => Sys2Proof.Machine.execSafeIoStatus c s
  | .tallyWatchdogExpiry pair c => Sys2Proof.Machine.execTallyWatchdogExpiry pair c s
  | .tallyTransmit c => Sys2Proof.Machine.execTallyTransmit c s
  | .tallyEnable w c v => Sys2Proof.Machine.execTallyEnable w c v s
  | .tallyRearm c => Sys2Proof.Machine.execTallyRearm c s
  | .tallyTxSet c => Sys2Proof.Machine.execTallyTxSet c s
  | .tallyRead c => Sys2Proof.Machine.execTallyRead c s
  | .ledgerRecord r written => Sys2Proof.Machine.execLedgerRecord r written s
  | .ledgerRecordStart cut => Sys2Proof.Machine.execLedgerRecordStart cut s
  | .ledgerMramWrite => Sys2Proof.Machine.execLedgerMramWrite s
  | .logRead c => Sys2Proof.Machine.execLogRead c s
  | .logErase c => Sys2Proof.Machine.execLogErase c s
  | .faultClear c => Sys2Proof.Machine.execFaultClear c s
  | .commAuth c => Sys2Proof.Machine.execCommAuth c s
  | .commAuthExpiry => Sys2Proof.Machine.execCommAuthExpiry s
  | .commCheck c => Sys2Proof.Machine.execCommCheck c s
  | .commConfirm c => Sys2Proof.Machine.execCommConfirm c s
  | .pcieLinkUp port gen x2 => Sys2Proof.Machine.execPcieLinkUp port gen x2 s
  | .pcieLinkDown port => Sys2Proof.Machine.execPcieLinkDown port s
  | .ethFrameRx m accept frame => Sys2Proof.Machine.execEthFrameRx m accept frame s
  | .ethLinkDown m => Sys2Proof.Machine.execEthLinkDown m s
  | .canFrameRx k id xtd hit data tec rec => Sys2Proof.Machine.execCanFrameRx k id xtd hit data tec rec s
  | .canBusOff k tec rec => Sys2Proof.Machine.execCanBusOff k tec rec s
  | .canBusOffRecovery k => Sys2Proof.Machine.execCanBusOffRecovery k s
  | .timeSyncMessage path offset => Sys2Proof.Machine.execTimeSyncMessage path offset s
  | .timeUnsync offset => Sys2Proof.Machine.execTimeUnsync offset s
  | .glTimeSend p => Sys2Proof.Machine.execGlTimeSend p s
  | .glFrameRx p tag frame => Sys2Proof.Machine.execGlFrameRx p tag frame s
  | .glPortDown p => Sys2Proof.Machine.execGlPortDown p s
  | .clockMonitorTrip trips => Sys2Proof.Machine.execClockMonitorTrip trips s
  | .registerWrite w addr v => Sys2Proof.Machine.execRegisterWrite w addr v s
  | .illegalInstr n => Sys2Proof.Machine.execIllegalInstr n s
  | .ethLinkUp m => Sys2Proof.Machine.execEthLinkUp m s
  | .glLinkTrained p => Sys2Proof.Machine.execGlLinkTrained p s

end Sys2Proof.Machine
end

