-- ==== Sys2Proof/Machine/Idle.lean ====
section
/-! DEFINITION. What the block does when no command waits. -/

namespace Sys2Proof.Machine

/-- One microsecond of the slew (R453): at most 200 ppm, a fifth of a nanosecond each microsecond, towards the source. -/
def LinkState.slewStep (l : LinkState) : LinkState :=
  if 0 < l.slew then { l with slew := l.slew - 1, frac := l.frac - 1 }
  else if l.slew < 0 then { l with slew := l.slew + 1, frac := l.frac + 1 }
  else l

/-- Device time passes: ATIME, the 64-bit count of microseconds since the reset was released, moves on by one while the part
runs (R5, R24), slewed towards its source (R453); while it is off, hibernating or in reset nothing moves. -/
def idle (s : State) : State :=
  if !s.running then s
  else
    let l := s.net.slewStep
    if 5000 ≤ l.frac then { s with atime := s.atime + 2, net := { l with frac := l.frac - 5000 } }
    else if l.frac ≤ -5000 then { s with net := { l with frac := l.frac + 5000 } }
    else { s with atime := s.atime + 1, net := l }

end Sys2Proof.Machine
end

