-- ==== Sys2Proof/Machine/FeCode.lean ====
section
/-! DEFINITION. The 32-bit words of the loop store and the instructions they spell (R177, R178, 09_field_engines.md). COMMIT (0x3E) carries no
operand of its own; what its row adds is what the commit gate finds. -/

namespace Sys2Proof.Machine

/-- The word with opcode `op` and the fields D, A, B and X (R177). -/
def loopWord (op d a b x : Nat) : Word := w32 (op * 2 ^ 26 + d * 2 ^ 21 + a * 2 ^ 16 + b * 2 ^ 11 + x)

/-- The instruction that a word of engine `n`'s loop store spells (R178); none for COMMIT and for an opcode that is not listed. -/
def loopDecode (n : Nat) (w : Word) : Option Instr :=
  let d := bitsOf w 25 21
  let a := bitsOf w 20 16
  let b := bitsOf w 15 11
  let x := bitsOf w 10 0
  match bitsOf w 31 26 with
  | 0x00 => some (.nop n d a b x)
  | 0x01 => some (.mov n d a b x)
  | 0x02 => some (.fadd n d a b x)
  | 0x03 => some (.fsub n d a b x)
  | 0x04 => some (.fmul n d a b x)
  | 0x05 => some (.fmac n d a b x)
  | 0x06 => some (.fmin n d a b x)
  | 0x07 => some (.fmax n d a b x)
  | 0x08 => some (.fabs n d a b x)
  | 0x09 => some (.fneg n d a b x)
  | 0x0A => some (.fcmp n d a b x)
  | 0x0B => some (.ftoi n d a b x)
  | 0x0C => some (.itof n d a b x)
  | 0x0D => some (.sincos n d a b x)
  | 0x0E => some (.sqrt n d a b x)
  | 0x0F => some (.div n d a b x)
  | 0x10 => some (.iadd n d a b x)
  | 0x11 => some (.isub n d a b x)
  | 0x12 => some (.iand n d a b x)
  | 0x13 => some (.ior n d a b x)
  | 0x14 => some (.ixor n d a b x)
  | 0x15 => some (.ishl n d a b x)
  | 0x16 => some (.ishr n d a b x)
  | 0x17 => some (.ili n d (bitsOf w 15 0))
  | 0x18 => some (.ldp n d a b x)
  | 0x19 => some (.stp n d a b x)
  | 0x1A => some (.ldg n d a b x)
  | 0x20 => some (.clarke n d a b x)
  | 0x21 => some (.iclarke n d a b x)
  | 0x22 => some (.park n d a b x)
  | 0x23 => some (.ipark n d a b x)
  | 0x24 => some (.pistep n d a b x)
  | 0x25 => some (.limit n d a b x)
  | 0x26 => some (.region n d a b x)
  | 0x27 => some (.prof n d a b x)
  | 0x28 => some (.plaus n d a b x)
  | 0x29 => some (.bset n d a b x)
  | 0x2A => some (.sld n d a b x)
  | 0x2B => some (.cst n d a b x)
  | 0x2C => some (.evt n d a b x)
  | 0x30 => some (.br n d a b x)
  | 0x31 => some (.brc n d a b x)
  | _ => none

/-- The word of an instruction of a field engine; none for a command that is no such instruction. ILI carries no A field, which is 0 here. -/
def loopEncode (i : Instr) : Option Word :=
  match i with
  | .nop _ d a b x => some (loopWord 0x00 d a b x)
  | .mov _ d a b x => some (loopWord 0x01 d a b x)
  | .fadd _ d a b x => some (loopWord 0x02 d a b x)
  | .fsub _ d a b x => some (loopWord 0x03 d a b x)
  | .fmul _ d a b x => some (loopWord 0x04 d a b x)
  | .fmac _ d a b x => some (loopWord 0x05 d a b x)
  | .fmin _ d a b x => some (loopWord 0x06 d a b x)
  | .fmax _ d a b x => some (loopWord 0x07 d a b x)
  | .fabs _ d a b x => some (loopWord 0x08 d a b x)
  | .fneg _ d a b x => some (loopWord 0x09 d a b x)
  | .fcmp _ d a b x => some (loopWord 0x0A d a b x)
  | .ftoi _ d a b x => some (loopWord 0x0B d a b x)
  | .itof _ d a b x => some (loopWord 0x0C d a b x)
  | .sincos _ d a b x => some (loopWord 0x0D d a b x)
  | .sqrt _ d a b x => some (loopWord 0x0E d a b x)
  | .div _ d a b x => some (loopWord 0x0F d a b x)
  | .iadd _ d a b x => some (loopWord 0x10 d a b x)
  | .isub _ d a b x => some (loopWord 0x11 d a b x)
  | .iand _ d a b x => some (loopWord 0x12 d a b x)
  | .ior _ d a b x => some (loopWord 0x13 d a b x)
  | .ixor _ d a b x => some (loopWord 0x14 d a b x)
  | .ishl _ d a b x => some (loopWord 0x15 d a b x)
  | .ishr _ d a b x => some (loopWord 0x16 d a b x)
  | .ili _ d imm => some (w32 (0x17 * 2 ^ 26 + d * 2 ^ 21 + imm))
  | .ldp _ d a b x => some (loopWord 0x18 d a b x)
  | .stp _ d a b x => some (loopWord 0x19 d a b x)
  | .ldg _ d a b x => some (loopWord 0x1A d a b x)
  | .clarke _ d a b x => some (loopWord 0x20 d a b x)
  | .iclarke _ d a b x => some (loopWord 0x21 d a b x)
  | .park _ d a b x => some (loopWord 0x22 d a b x)
  | .ipark _ d a b x => some (loopWord 0x23 d a b x)
  | .pistep _ d a b x => some (loopWord 0x24 d a b x)
  | .limit _ d a b x => some (loopWord 0x25 d a b x)
  | .region _ d a b x => some (loopWord 0x26 d a b x)
  | .prof _ d a b x => some (loopWord 0x27 d a b x)
  | .plaus _ d a b x => some (loopWord 0x28 d a b x)
  | .bset _ d a b x => some (loopWord 0x29 d a b x)
  | .sld _ d a b x => some (loopWord 0x2A d a b x)
  | .cst _ d a b x => some (loopWord 0x2B d a b x)
  | .evt _ d a b x => some (loopWord 0x2C d a b x)
  | .br _ d a b x => some (loopWord 0x30 d a b x)
  | .brc _ d a b x => some (loopWord 0x31 d a b x)
  | _ => none

end Sys2Proof.Machine
end

