-- ==== Sys2Proof/Safety.lean ====
section
/-! DEFINITION. What a safe state of the block is, in the terms the claims use. -/

namespace Sys2Proof.Machine

/-- The canonical form of the memories: keys strictly rising, no entry equal to what an unlisted address reads as. -/
def Memory.wf (m : Memory) : Bool :=
  Sparse.wf (always 0) m.sram && Sparse.wf (always false) m.valid && Sparse.wf (always 0) m.flips && Sparse.wf (always false) m.parityBad &&
    Sparse.wf (always 0) m.mram && Sparse.wf (always 0) m.mramFlips && Sparse.wf (always 0) m.host0 && Sparse.wf (always 0) m.host1

/-- The memories and the set-up map are in canonical form, so that equal contents are equal data. -/
def State.canonical (s : State) : Bool := s.mem.wf && Sparse.wf (resetValue s.part) s.regs

/-- No half-bridge channel has both its pads high (R205). -/
def State.noShootThrough (s : State) : Bool := s.edge.chans.all fun e => !(e.2.high && e.2.low)

/-- A safe state: canonical, and no half-bridge conducts through both its switches. -/
def State.safeState (s : State) : Bool := s.canonical && s.noShootThrough

/-! ### The words of the claims -/

/-- Every register outside `l` reads the same in `t` as in `s`. -/
def OnlyRegs (s t : State) (l : List Nat) : Prop := ∀ a, a ∉ l → t.rd a = s.rd a

/-- Every byte of the internal memories reads the same in `t` as in `s`. -/
def SameBytes (s t : State) : Prop := ∀ a, t.readByte a = s.readByte a

/-- Between `s` and `t` no result, no event and no ledger record has been produced. -/
def Silent (s t : State) : Prop := t.host.results = s.host.results ∧ t.host.events = s.host.events ∧ t.led.arriving = s.led.arriving

/-- Between `s` and `t` one ledger record has been raised, at the present ATIME (R427). -/
def Raised (s t : State) (code sev unit : Nat) : Prop :=
  ∃ r : Rec, t.led.arriving = s.led.arriving ++ [r] ∧ r.code = code ∧ r.sev = sev ∧ r.unit = unit ∧ r.at_ = s.atime ∧
    r.seq = (s.rd R.LEDGER_SEQ + 1).toNat

/-- Between `s` and `t` one event has arisen for the rings, at the present ATIME (R107). -/
def Told (s t : State) (code source : Nat) (c0 c1 : Option Word := none) : Prop :=
  ∃ e : Event, t.host.events = s.host.events ++ [e] ∧ e.code = code ∧ e.source = source ∧ e.at_ = s.atime ∧
    (∀ w, c0 = some w → e.c0 = w) ∧ (∀ w, c1 = some w → e.c1 = w)

/-- Between `s` and `t` one result has been produced, that of command `c` (R101). -/
def Answered (s t : State) (c : Cmd) (st : Status) (value : Nat := 0) (data : Bool := false) : Prop :=
  t.host.results = s.host.results ++
    [{ master := c.master, tag := c.tag, status := st, superseded := false, data := data, value := value % 2 ^ 64, at_ := s.atime, gallery := 3 }]

/-- From `s` to `t` the Class I setpoint of command `c` has started and been handed to engine `n`, and nothing else is done (R98). -/
def Handed (s t : State) (c : Cmd) (n opcode u : Nat) (bad : Bool) (words : List (Nat × Word)) : Prop :=
  (t.eng n).setpoints = (s.eng n).setpoints ++
    [{ master := c.master, tag := c.tag, opcode := opcode, target := 256 * u + c.target % 256, applied := false, superseded := false,
       bad := bad, words := words }] ∧
    (t.eng n).act = (s.eng n).act ∧ (∀ m, m ≠ n → t.eng m = s.eng m) ∧ t = { s.begin c with fe := t.fe }

/-- Engine `n` exists and can issue, and the word at its program counter is the instruction with these fields (R177, R178). -/
def Issuing (s : State) (n op d a b x : Nat) : Prop := n < 8 ∧ s.canIssue n = true ∧ s.issues n op d a b x = true

/-- Engine `n` has gone on to the next instruction, and every other engine is as it was. -/
def Advanced (s t : State) (n : Nat) : Prop := (t.eng n).pc = (s.eng n).pc + 1 ∧ ∀ m, m ≠ n → t.eng m = s.eng m

/-- From `s` to `t` engine `n` has written the float `v` to register `d` and nothing else, FPE apart where `v` is no finite number (R167). -/
def FloatResult (s t : State) (n d : Nat) (v : F32) : Prop :=
  (t.eng n).fr d = v ∧ (∀ k, k % 32 ≠ d % 32 → (t.eng n).fr k = (s.eng n).fr k) ∧ (∀ k, (t.eng n).ir k = (s.eng n).ir k) ∧
    (t.eng n).act = (s.eng n).act ∧ Advanced s t n ∧ t.flag (R.FE_FAULT_FPE n) = (s.flag (R.FE_FAULT_FPE n) || !fFinite v) ∧
    OnlyRegs s t [R.FE_FAULT n] ∧ t = { s with fe := t.fe, regs := t.regs }

/-- From `s` to `t` engine `n` has written the integer `v` to register `d` and nothing else; i0 keeps reading 0 (R166). -/
def IntResult (s t : State) (n d : Nat) (v : Word) : Prop :=
  (t.eng n).ir d = (if d = 0 then 0 else v) ∧ (∀ k, k ≠ d → (t.eng n).ir k = (s.eng n).ir k) ∧ (∀ k, (t.eng n).fr k = (s.eng n).fr k) ∧
    (t.eng n).act = (s.eng n).act ∧ Advanced s t n ∧ t = { s with fe := t.fe }

/-- From `s` to `t` engine `n` has met a loop fault (R192): its FE_n_FAULT bit, the program counter, and its record. -/
def LoopFault (s t : State) (n bit_ code : Nat) : Prop :=
  t.flag ⟨R.FE_FAULT n, bit_, bit_⟩ = true ∧ t.get (R.FE_FAULT_PC n) = (s.eng n).pc % 1024 ∧
    (∃ r, r ∈ t.led.arriving ∧ r.code = code ∧ r.sev = 0 ∧ r.unit = 0x80 + n ∧ r.at_ = s.atime) ∧ t.mem = s.mem ∧ t.host = s.host

end Sys2Proof.Machine
end

