-- ==== Sys2Proof/WellFormed.lean ====
section
/-! DEFINITION. Well-formed commands: every operand in the range that what it names has on the larger part. The meanings take any operand;
what a number outside its range names is absent. -/

namespace Sys2Proof

/-- A number below a bound, where there is one. -/
def optLt (o : Option Nat) (n : Nat) : Bool := match o with | some x => decide (x < n) | none => true

/-- A host command as R91 frames it: one of the three masters, a 16-bit tag, an aligned host address, and no more payload than R91 allows. -/
def Cmd.wf (c : Cmd) : Bool :=
  decide (c.master < 3) && decide (c.tag < 65536) && decide (c.target < 256) && decide (c.hostAddr < 2 ^ 64) && decide (c.hostAddr % 8 = 0) &&
    decide (c.len < 65536) && decide (c.payload.length < 65536)

/-- What a BOOT finds: straps of eight pins, banks and comparators that exist. -/
def BootIn.wf (b : BootIn) : Bool :=
  decide (b.straps < 256) && b.selfTest.all (fun x => decide (x.1 < 32) && decide (x.2.1 < 284) && decide (x.2.2 < 7)) &&
    b.badSpares.all (fun x => decide (x.1 < 32) && decide (x.2 < 8)) && b.badCanary.all (fun x => decide (x < 10))

/-- An upset of a stored word: a bank of the line, bits of the word with its check bits, and word-address bits (R148, R163). -/
def EccHit.wf (e : EccHit) : Bool := decide (e.bank < 32) && decide (e.flips < 2 ^ 145) && decide (e.addr < 2 ^ 20)

/-- A well-formed access of the other port: a part of one word. -/
def Side.wf (x : Side) : Bool :=
  [1, 2, 4, 8].contains x.size && decide (x.off + x.size ≤ 8) && decide (x.data < 2 ^ (8 * x.size)) && decide (x.wait < 4) &&
    (match x.gallery with | some g => decide (g < 4) | none => true)

/-- An access: a Gallery of R8, an engine, a 32-bit address, a size of 1, 2, 4 or 8 bytes (R132). -/
def Access.wf (a : Access) : Bool :=
  optLt a.gallery 4 && optLt a.engine 8 && decide (a.addr < 2 ^ 32) && [1, 2, 4, 8].contains a.size && decide (a.data < 2 ^ (8 * a.size)) &&
    (match a.other with | some x => x.wf | none => true) && a.ecc.wf

/-- A commit-gate input: two masks of 64 bits. -/
def GateIn.wf (g : GateIn) : Bool := decide (g.main < 2 ^ 64) && decide (g.checker < 2 ^ 64)

/-- A signature window: its writes address the set-up map, and it holds at most 64 transactions (R378). -/
def WindowIn.wf (x : WindowIn) : Bool :=
  x.writes.all (fun e => decide (e.1 < 0x1000000) && decide (e.1 % 4 = 0)) && decide (x.writes.length ≤ 64) && decide (x.count ≤ 64) && x.gate.wf

/-- A ledger record from outside the model: a severity of R427 and an 8-bit unit. -/
def recOk (r : Option RecIn) : Bool :=
  match r with
  | some x => decide (x.code < 65536) && decide (x.sev < 4) && decide (x.unit < 256) && decide (x.tick < 2 ^ 32)
  | none => true

/-- Measurements name items of the map (R75). -/
def measOk (l : List (Nat × DiscMeas)) : Bool := l.all fun x => decide (x.1 < 96)

/-- Descriptor data comes in whole descriptors of 64 or 32 bytes (R91, R93), and each payload is at most 65,535 bytes long. -/
def dataOk (d : Option (List Byte)) (ps : List (Option (List Byte))) : Bool :=
  (match d with | some x => decide (x.length % 32 = 0) | none => true) &&
    ps.all fun p => match p with | some x => decide (x.length < 65536) | none => true

/-- A well-formed command. -/
def Instr.wf (i : Instr) : Bool :=
  match i with
  | .vstbyRise _ straps wake => decide (straps < 256) && decide (wake < 16)
  | .supplyGood supply => decide (supply < 13)
  | .supplyLost supply => decide (supply < 13)
  | .bootStart b => b.wf
  | .perstAssert port => decide (port < 2)
  | .strapChangeDetected live => decide (live < 256)
  | .wakeEvent pin => optLt (pin.map Prod.fst) 4
  | .modeStatus c => c.wf
  | .modeRequest c => c.wf
  | .parkEngage c => c.wf
  | .parkRelease c => c.wf
  | .safeStopRequest c => c.wf
  | .sysReset c => c.wf
  | .modeTransitionEnd drop _ => decide (drop < 4096)
  | .discoverStart meas => measOk meas
  | .discoverEnd meas emf => measOk meas && decide (emf.length ≤ 4)
  | .discRun c meas => c.wf && measOk meas
  | .discAdopt c => c.wf
  | .discRead c => c.wf
  | .ringSelect _ m _ => decide (m < 3)
  | .ringConfigWrite _ m _ => decide (m < 3)
  | .ringReset _ m _ => decide (m < 3)
  | .doorbellCmd _ m k _ => decide (m < 3) && decide (k < 16)
  | .doorbellCpl _ m k _ => decide (m < 3) && decide (k < 16)
  | .doorbellEvt _ m k _ => decide (m < 3) && decide (k < 16)
  | .doorbellTlm _ m k _ => decide (m < 3) && decide (k < 16)
  | .descriptorReadDone data payloads => dataOk data payloads
  | .crFullRepeat m k => decide (m < 3) && decide (k < 16)
  | .classRTimeout m tag => decide (m < 3) && decide (tag < 65536)
  | .cmdProgress m tag perMille bytes => decide (m < 3) && decide (tag < 65536) && decide (perMille ≤ 1000) && decide (bytes < 2 ^ 32)
  | .irqTimeExpiry m kind k => decide (m < 3) && decide (kind < 4) && decide (k < 16)
  | .tlmSelect c => c.wf
  | .tlmBufferCopy m k => decide (m < 3) && decide (k < 16)
  | .tlmFlushExpiry m k => decide (m < 3) && decide (k < 16)
  | .ownQuery c => c.wf
  | .ownClaim c => c.wf
  | .ownHandover c => c.wf
  | .ownConfirm c => c.wf
  | .heartbeat _ m _ => decide (m < 2)
  | .sramAccess a => a.wf
  | .aadd a => a.wf
  | .aswp a => a.wf
  | .bankPowerRequest _ k _ => decide (k < 2)
  | .bankIdleRetention bank => decide (bank < 32)
  | .marketRequest chs => chs.all fun ch => decide (ch < 57)
  | .marketRelease _ ch stall => decide (ch < 57) && decide (stall < 4096)
  | .marketQuotaWrite _ ch _ => decide (ch < 57)
  | .scrubLine found => found.all EccHit.wf
  | .trackerEntryExpiry word => decide (word < 2 ^ 23)
  | .rowRepair word cause => decide (word < 2 ^ 23) && decide (cause < 2)
  | .bgtWindowStep _ fails => optLt fails 8
  | .mramDailyRead addr flips => decide (0x40000000 ≤ addr) && decide (addr < 0x42100000) && decide (flips < 2 ^ 145)
  | .feTick n => decide (n < 8)
  | .tickOverrun n => decide (n < 8)
  | .nop n d a b x => decide (n < 8) && decide (d < 32) && decide (a < 32) && decide (b < 32) && decide (x < 2048)
  | .mov n d a b x => decide (n < 8) && decide (d < 32) && decide (a < 32) && decide (b < 32) && decide (x < 2048)
  | .fadd n d a b x => decide (n < 8) && decide (d < 32) && decide (a < 32) && decide (b < 32) && decide (x < 2048)
  | .fsub n d a b x => decide (n < 8) && decide (d < 32) && decide (a < 32) && decide (b < 32) && decide (x < 2048)
  | .fmul n d a b x => decide (n < 8) && decide (d < 32) && decide (a < 32) && decide (b < 32) && decide (x < 2048)
  | .fmac n d a b x => decide (n < 8) && decide (d < 32) && decide (a < 32) && decide (b < 32) && decide (x < 2048)
  | .fmin n d a b x => decide (n < 8) && decide (d < 32) && decide (a < 32) && decide (b < 32) && decide (x < 2048)
  | .fmax n d a b x => decide (n < 8) && decide (d < 32) && decide (a < 32) && decide (b < 32) && decide (x < 2048)
  | .fabs n d a b x => decide (n < 8) && decide (d < 32) && decide (a < 32) && decide (b < 32) && decide (x < 2048)
  | .fneg n d a b x => decide (n < 8) && decide (d < 32) && decide (a < 32) && decide (b < 32) && decide (x < 2048)
  | .fcmp n d a b x => decide (n < 8) && decide (d < 32) && decide (a < 32) && decide (b < 32) && decide (x < 2048)
  | .ftoi n d a b x => decide (n < 8) && decide (d < 32) && decide (a < 32) && decide (b < 32) && decide (x < 2048)
  | .itof n d a b x => decide (n < 8) && decide (d < 32) && decide (a < 32) && decide (b < 32) && decide (x < 2048)
  | .sincos n d a b x => decide (n < 8) && decide (d < 32) && decide (a < 32) && decide (b < 32) && decide (x < 2048)
  | .sqrt n d a b x => decide (n < 8) && decide (d < 32) && decide (a < 32) && decide (b < 32) && decide (x < 2048)
  | .div n d a b x => decide (n < 8) && decide (d < 32) && decide (a < 32) && decide (b < 32) && decide (x < 2048)
  | .iadd n d a b x => decide (n < 8) && decide (d < 32) && decide (a < 32) && decide (b < 32) && decide (x < 2048)
  | .isub n d a b x => decide (n < 8) && decide (d < 32) && decide (a < 32) && decide (b < 32) && decide (x < 2048)
  | .iand n d a b x => decide (n < 8) && decide (d < 32) && decide (a < 32) && decide (b < 32) && decide (x < 2048)
  | .ior n d a b x => decide (n < 8) && decide (d < 32) && decide (a < 32) && decide (b < 32) && decide (x < 2048)
  | .ixor n d a b x => decide (n < 8) && decide (d < 32) && decide (a < 32) && decide (b < 32) && decide (x < 2048)
  | .ishl n d a b x => decide (n < 8) && decide (d < 32) && decide (a < 32) && decide (b < 32) && decide (x < 2048)
  | .ishr n d a b x => decide (n < 8) && decide (d < 32) && decide (a < 32) && decide (b < 32) && decide (x < 2048)
  | .ili n d imm => decide (n < 8) && decide (d < 32) && decide (imm < 65536)
  | .ldp n d a b x => decide (n < 8) && decide (d < 32) && decide (a < 32) && decide (b < 32) && decide (x < 2048)
  | .stp n d a b x => decide (n < 8) && decide (d < 32) && decide (a < 32) && decide (b < 32) && decide (x < 2048)
  | .ldg n d a b x => decide (n < 8) && decide (d < 32) && decide (a < 32) && decide (b < 32) && decide (x < 2048)
  | .clarke n d a b x => decide (n < 8) && decide (d < 32) && decide (a < 32) && decide (b < 32) && decide (x < 2048)
  | .iclarke n d a b x => decide (n < 8) && decide (d < 32) && decide (a < 32) && decide (b < 32) && decide (x < 2048)
  | .park n d a b x => decide (n < 8) && decide (d < 32) && decide (a < 32) && decide (b < 32) && decide (x < 2048)
  | .ipark n d a b x => decide (n < 8) && decide (d < 32) && decide (a < 32) && decide (b < 32) && decide (x < 2048)
  | .pistep n d a b x => decide (n < 8) && decide (d < 32) && decide (a < 32) && decide (b < 32) && decide (x < 2048)
  | .limit n d a b x => decide (n < 8) && decide (d < 32) && decide (a < 32) && decide (b < 32) && decide (x < 2048)
  | .region n d a b x => decide (n < 8) && decide (d < 32) && decide (a < 32) && decide (b < 32) && decide (x < 2048)
  | .prof n d a b x => decide (n < 8) && decide (d < 32) && decide (a < 32) && decide (b < 32) && decide (x < 2048)
  | .plaus n d a b x => decide (n < 8) && decide (d < 32) && decide (a < 32) && decide (b < 32) && decide (x < 2048)
  | .bset n d a b x => decide (n < 8) && decide (d < 32) && decide (a < 32) && decide (b < 32) && decide (x < 2048)
  | .sld n d a b x => decide (n < 8) && decide (d < 32) && decide (a < 32) && decide (b < 32) && decide (x < 2048)
  | .sldSampleTimeout n => decide (n < 8)
  | .cst n d a b x => decide (n < 8) && decide (d < 32) && decide (a < 32) && decide (b < 32) && decide (x < 2048)
  | .evt n d a b x => decide (n < 8) && decide (d < 32) && decide (a < 32) && decide (b < 32) && decide (x < 2048)
  | .br n d a b x => decide (n < 8) && decide (d < 32) && decide (a < 32) && decide (b < 32) && decide (x < 2048)
  | .brc n d a b x => decide (n < 8) && decide (d < 32) && decide (a < 32) && decide (b < 32) && decide (x < 2048)
  | .commit n cycle g => decide (n < 8) && decide (cycle < 400000) && g.wf
  | .feRunStart _ n => decide (n < 8)
  | .feRunStop _ n => decide (n < 8)
  | .feEntryWrite _ n entry => decide (n < 8) && decide (entry < 1024)
  | .fePstageHold _ n _ => decide (n < 8)
  | .feParamWrite _ n p vs => decide (n < 8) && decide (p < 512) && decide (1 ≤ vs.length) && decide (p % 4 + vs.length ≤ 4)
  | .feLoopStoreWrite _ n a _ => decide (n < 8) && decide (a < 1024)
  | .banisterRemove pair unit line => decide (pair < 2) && decide (unit < 10) && decide (line < 3)
  | .banisterGrant pair unit => decide (pair < 2) && decide (unit < 10)
  | .ascInterlockExpiry ch => decide (ch < 48)
  | .timebaseStart _ n _ => decide (n < 8)
  | .updatePoint n at_ _ => decide (n < 8) && decide (at_.posB < 65536)
  | .fastConversion k _ raw inst => decide (k < 16) && decide (raw < 16384) && decide (inst.kind < 4)
  | .bandDwellEnd ch => decide (ch < 48)
  | .gateLinkPoll n _ _ _ => decide (n < 48)
  | .driverFault n => decide (n < 48)
  | .trqSet c => c.wf
  | .spdSet c => c.wf
  | .ctrlSel c => c.wf
  | .trqStatus c => c.wf
  | .trcParamWrite c => c.wf
  | .trcParamRead c => c.wf
  | .setpointWdExpiry n => decide (n < 4)
  | .overspeed n => decide (n < 4)
  | .vdcAbsent n => decide (n < 4)
  | .lawSel c => c.wf
  | .bandSat n => decide (n < 4)
  | .fswLimit n => decide (n < 4)
  | .estimatorLocked n => decide (n < 4)
  | .acquireFail n => decide (n < 4)
  | .recapDecayTimeout n => decide (n < 4)
  | .recapFwEnd n => decide (n < 4)
  | .recapAscEnd n => decide (n < 4)
  | .recaptureFail n => decide (n < 4)
  | .dclMonitorSample code => decide (code < 4096)
  | .dclQuery c => c.wf
  | .dclDischarge c => c.wf
  | .chopTest c drop _ => c.wf && decide (drop < 4096)
  | .convSetV c => c.wf
  | .convStatus c => c.wf
  | .convRestart c => c.wf
  | .convLightLoad c => c.wf
  | .convSync c => c.wf
  | .syncEdge _ _ => true
  | .burstWakeSample _ => true
  | .cbcLimit k => decide (k < 4)
  | .chgArm c => c.wf
  | .chgDisarm c => c.wf
  | .chgLimit c => c.wf
  | .chgStatus c => c.wf
  | .chgRestart c => c.wf
  | .supSet c => c.wf
  | .lvChgArm c => c.wf
  | .lvChgDisarm c => c.wf
  | .lvChgLimit c => c.wf
  | .pilotStateChange _ _ _ _ => true
  | .ppSample _ => true
  | .pilotRouteCheck _ => true
  | .chgOnTimeEnd _ _ => true
  | .chgRestEnd _ _ _ _ _ _ => true
  | .chgPrepFail _ => true
  | .chgTerminate _ => true
  | .chgWatchdog _ => true
  | .chgTimer _ => true
  | .actCurrent c => c.wf
  | .actSpeed c => c.wf
  | .actMove c => c.wf
  | .actStatus c => c.wf
  | .encStatus c => c.wf
  | .encoderEnable _ k _ => decide (k < 4)
  | .encoderEdge k _ _ _ => decide (k < 4)
  | .encoderIndex k => decide (k < 4)
  | .encoderStandstill k => decide (k < 4)
  | .hallCodeChange k code => decide (k < 3) && decide (code < 8)
  | .sentFrame k _ nibbles _ slow => decide (k < 2) && nibbles.all (fun x => decide (x < 16)) && optLt slow (2 ^ 32)
  | .sentLost k => decide (k < 2)
  | .resolverEnable _ k _ => decide (k < 2)
  | .resSignal k => decide (k < 2)
  | .seqConversion k raw sub => decide (k < 2) && decide (raw < 65536) && decide (sub < 40)
  | .seqEntryWrite _ k e _ _ => decide (k < 2) && decide (e < 64)
  | .seqSwap _ k => decide (k < 2)
  | .refReady _ => true
  | .refBufferWrite _ _ => true
  | .acqSeqWrite c => c.wf
  | .acqSeqRun c => c.wf
  | .acqGrpFetch c => c.wf
  | .acqCalZero c => c.wf
  | .acqCalSpan c => c.wf
  | .acqCalStore c => c.wf
  | .acqDiag c => c.wf
  | .acqInsertionDone chan _ _ _ => decide (chan < 0x110)
  | .wardenWindowClose k x => decide (k < 2) && x.wf
  | .divergence unit cause main checker => decide (unit < 0x88) && decide (cause < 4) && decide (main < 2 ^ 64) && decide (checker < 2 ^ 64)
  | .pairSplit c => c.wf
  | .pairRejoin c _ => c.wf
  | .pairStatus c => c.wf
  | .pairCheckin _ j _ => decide (j < 2)
  | .supervisionMiss j => decide (j < 2)
  | .dbgHalt _ t => decide (t < 4)
  | .dbgStep _ t => decide (t < 4)
  | .dbgResume _ t => decide (t < 4)
  | .dbgMemWrite _ _ => true
  | .dbgRegWrite _ _ => true
  | .sinContactChange n _ _ => decide (n < 8)
  | .sinFiltered n _ => decide (n < 8)
  | .sinDiscrepancy n => decide (n < 8)
  | .safetyScan pair => decide (pair < 2)
  | .safetyRowTimerExpiry pair row => decide (pair < 2) && decide (row < 256)
  | .soutReadbackFault n => decide (n < 6)
  | .soutTestPulse n => decide (n < 6)
  | .soutTestPulseEnd n _ => decide (n < 6)
  | .soutTestJudge n _ => decide (n < 6)
  | .fastClear _ _ => true
  | .wardenKick pair => decide (pair < 2)
  | .safeTableWrite c => c.wf
  | .safeIoStatus c => c.wf
  | .tallyWatchdogExpiry pair c => decide (pair < 2) && decide (c < 32)
  | .tallyTransmit c => decide (c < 32)
  | .tallyEnable _ c _ => decide (c < 32)
  | .tallyRearm c => c.wf
  | .tallyTxSet c => c.wf
  | .tallyRead c => c.wf
  | .ledgerRecord r _ => recOk r
  | .ledgerRecordStart _ => true
  | .logRead c => c.wf
  | .logErase c => c.wf
  | .faultClear c => c.wf
  | .commAuth c => c.wf
  | .commCheck c => c.wf
  | .commConfirm c => c.wf
  | .pcieLinkUp port gen _ => decide (port < 2) && decide (1 ≤ gen) && decide (gen ≤ 4)
  | .pcieLinkDown port => decide (port < 2)
  | .ethFrameRx m _ frame => decide (m < 3) && decide (frame.length < 65536)
  | .ethLinkDown m => decide (m < 3)
  | .canFrameRx k id _ _ data tec rec => decide (k < 6) && decide (id < 2 ^ 29) && decide (data.length ≤ 2048) && decide (tec < 512) && decide (rec < 256)
  | .canBusOff k tec rec => decide (k < 6) && decide (tec < 512) && decide (rec < 256)
  | .canBusOffRecovery k => decide (k < 6)
  | .timeSyncMessage path _ => decide (path < 0x80)
  | .timeUnsync _ => true
  | .glTimeSend p => decide (p < 3)
  | .glFrameRx p tag frame => decide (p < 3) && decide (tag < 2 ^ 32) && decide (frame.length ≤ 525)
  | .glPortDown p => decide (p < 3)
  | .clockMonitorTrip trips => decide (trips < 32)
  | .registerWrite _ addr _ => decide (addr < 0x2001000) && decide (addr % 4 = 0)
  | .illegalInstr n => decide (n < 8)
  | .ethLinkUp m => decide (m < 3)
  | .glLinkTrained p => decide (p < 3)
  | .railWaitExpiry => true
  | .resetPin => true
  | .wakeTimerExpiry => true
  | .earlyWakeDelayExpiry => true
  | .degradedTimerExpiry => true
  | .degradedTimer => true
  | .discLinkWaitExpiry => true
  | .descriptorFetch => true
  | .resultIntake => true
  | .completionIssue => true
  | .eventDelivery => true
  | .claimWindowClose => true
  | .ownershipPass => true
  | .stewardSuccessorConfirm => true
  | .handoverHoldExpiry => true
  | .handoverConfirmTimeout => true
  | .heartbeatTimeout => true
  | .serviceRequest => true
  | .scrubPriorityWriteback => true
  | .ov2Restore => true
  | .chopperBudget => true
  | .dclMonCompare => true
  | .selectorEvaluation => true
  | .ov3LatchRelease => true
  | .syncLost => true
  | .convStart => true
  | .convShort => true
  | .convRetryWaitExpiry => true
  | .convOvp => true
  | .convVoutAbsent => true
  | .lvBatteryAbsent => true
  | .lvVsetForward => true
  | .supplyOverload => true
  | .parkVerified => true
  | .parkFail => true
  | .parkRecheck => true
  | .refFault => true
  | .dbgMemRead => true
  | .dbgRegRead => true
  | .safeLatchFire => true
  | .ledgerMramWrite => true
  | .commAuthExpiry => true

end Sys2Proof
end

