-- ==== Sys2Proof/Certificates/Slice0/Obligations.lean ====
section
/-! DEFINITION. The statements for the provers. -/

section Claims

open Sys2Proof Sys2Proof.Machine

/-- The queue of waiting commands is the model's own form of what chapter 05 calls the order of commands: the front command runs on the state
with the queue's rest.
The model's readings behind its clauses: log 10, 14, 18. -/
def Obligations.StepRunsFrontCommand : Prop :=
  ∀ (s : State) (c : Instr) (rest : List Instr), s.pending = c :: rest → step s = exec c { s with pending := rest }

/-- DESIGN CHOICE (log 1): device time passes when no command waits. -/
def Obligations.EmptyQueueLetsTimePass : Prop :=
  ∀ s : State, s.pending = [] →
    (s.pwr.power = .run → s.net.slew = 0 → -5000 < s.net.frac → s.net.frac < 5000 → step s = .next { s with atime := s.atime + 1 }) ∧
    (s.pwr.power ≠ .run → step s = .next s)

/-- What reset leaves, and rows of the register tables of chapters 02 to 24.
The model's readings behind its clauses: log 1, 2, 5, 7, 8. -/
def Obligations.StateAfterReset : Prop :=
  (State.reset.pwr.power = .off ∧ State.reset.md = .off ∧ State.reset.pwr.sources = 1 ∧ State.reset.pwr.railEn = false ∧
    State.reset.pending = [] ∧
    (∀ n, (State.reset.chan n).high = false ∧ (State.reset.chan n).low = false) ∧
    (∀ u, State.reset.enabled u = false) ∧
    (∀ a, State.reset.rd a = resetValue State.reset.part a) ∧
    (∀ a, State.reset.readByte a = 0) ∧
    State.reset.host.rings = [] ∧ State.reset.own.claims = [] ∧ State.reset.led.queue = [] ∧ State.reset.led.log = [] ∧
    State.reset.mkt.owner = [] ∧ State.reset.canonical = true ∧ State.reset.noShootThrough = true) ∧
  (State.reset.rd 0x000000 = (0x9460 : Word) ∧ State.reset.rd 0x000020 = (0x2 : Word) ∧ State.reset.rd 0x000028 = (0x14001E : Word) ∧
    State.reset.rd 0x020000 = (0x20000 : Word) ∧ State.reset.rd 0x020008 = (0x640000 : Word) ∧ State.reset.rd 0x050000 = (0x10001000 : Word) ∧
    (∀ n, n < 8 → State.reset.rd (0x080004 + 0x2000 * n) = (0x4E20 : Word) ∧ State.reset.rd (0x080000 + 0x2000 * n) = (0 : Word)) ∧
    State.reset.rd 0x0A0004 = (1 : Word) ∧ State.reset.rd 0x110404 = (0x6E006A4 : Word) ∧ State.reset.rd 0x110408 = (0x3840730 : Word) ∧
    State.reset.rd 0x0D0000 = (0x643C0000 : Word) ∧ State.reset.rd 0x0E0010 = (0x640258 : Word) ∧ State.reset.rd 0x120000 = (0xFFFFFFFF : Word) ∧
    State.reset.rd 0x130010 = (0x1E0028 : Word))

/-- The always-on domain's part of chapter 03. A wake during HIBERNATE entry is latched as EARLY instead (R72).
The model's readings behind its clauses: log 5, 25, 61. -/
def Obligations.PowerUpRailWaitAndWake : Prop :=
  ∀ s : State,
    (∀ r st w, s.pwr.power = .off → ∃ t, exec (.vstbyRise r st w) s = .next t ∧ t = { s with pwr := t.pwr, regs := t.regs } ∧
      OnlyRegs s t [R.SYS_STRAP] ∧ t.get R.SYS_STRAP_LIVE = st % 256 ∧ t.pwr.power = .railWait ∧ t.pwr.railEn = true ∧
      t.pwr.resetN = r ∧ t.pwr.isolated = true ∧ t.pwr.latchDrives = true) ∧
    (∀ r st w, s.pwr.power ≠ .off → exec (.vstbyRise r st w) s = .next s) ∧
    (s.pwr.power = .railWait → s.railsGood = false → ∃ t, exec .railWaitExpiry s = .next t ∧ t = { s with pwr := t.pwr, regs := t.regs } ∧
      OnlyRegs s t [R.PWR_WAKE_STATUS, R.SYS_MODE, R.SYS_MODE_CAUSE] ∧ (s.pwr.afterWake = true → OnlyRegs s t [R.PWR_WAKE_STATUS]) ∧
      (s.pwr.afterWake = false → t.get R.SYS_MODE_MODE = 1) ∧ t.flag R.PWR_WAKE_STATUS_RAIL_FAIL = true ∧ t.pwr.power = .hibernate ∧
      t.pwr.railEn = false ∧ t.pwr.isolated = true) ∧
    (s.pwr.power ≠ .railWait → exec .railWaitExpiry s = .next s) ∧
    (∀ n level, n < 4 → s.pwr.power = .hibernate → s.pwr.entering = false → s.pwr.earlyDelay = false → s.wakeEnabled n level = true →
      s.railsGood = false → ∃ t, exec (.wakeEvent (some (n, level))) s = .next t ∧ t = { s with pwr := t.pwr, regs := t.regs } ∧
      OnlyRegs s t [R.PWR_WAKE_STATUS] ∧ t.bitAt R.PWR_WAKE_STATUS_WAKE n = true ∧ t.pwr.power = .railWait ∧ t.pwr.afterWake = true ∧
      t.pwr.railEn = true) ∧
    (∀ n level, n < 4 → s.wakeEnabled n level = false →
      exec (.wakeEvent (some (n, level))) s = .next { s with pwr := { s.pwr with wakePins := natSetBit s.pwr.wakePins n level } }) ∧
    (∀ n level, n < 4 → s.pwr.entering = true → s.wakeEnabled n level = true → ∃ t, exec (.wakeEvent (some (n, level))) s = .next t ∧
      t.flag R.PWR_WAKE_STATUS_EARLY = true ∧ t.pwr.earlyDelay = true ∧ t.pwr.power = s.pwr.power ∧ OnlyRegs s t [R.PWR_WAKE_STATUS]) ∧
    (s.pwr.power = .hibernate → s.pwr.entering = false → s.pwr.earlyDelay = false → s.pwr.resetN = false → s.railsGood = false →
      ∃ t, exec (.wakeEvent none) s = .next t ∧ t.flag R.PWR_WAKE_STATUS_PIN_RESET = true ∧ t.pwr.resetN = true ∧
      t.pwr.power = .railWait ∧ t.pwr.afterWake = true ∧ t.pwr.railEn = true ∧ OnlyRegs s t [R.PWR_WAKE_STATUS]) ∧
    (∀ n level, n < 4 → s.pwr.power = .hibernate → s.pwr.entering = false → s.pwr.earlyDelay = false → s.wakeEnabled n level = true →
      s.railsGood = true → s.pwr.resetN = true → ∃ t, exec (.wakeEvent (some (n, level))) s = .next t ∧ t.pwr.power = .reset ∧ t.pwr.cold = true ∧
      t.flag R.SYS_RESET_CAUSE_WAKE = true ∧ t.bitAt R.PWR_WAKE_STATUS_WAKE n = true ∧ t.pwr.railEn = true) ∧
    (s.pwr.power = .hibernate → s.pwr.timerArmed = true → s.pwr.earlyDelay = false → s.railsGood = false →
      ∃ t, exec .wakeTimerExpiry s = .next t ∧ t = { s with pwr := t.pwr, regs := t.regs } ∧ OnlyRegs s t [R.PWR_WAKE_STATUS] ∧
      t.flag R.PWR_WAKE_STATUS_TIMER = true ∧ t.pwr.power = .railWait ∧ t.pwr.afterWake = true ∧ t.pwr.railEn = true ∧ t.pwr.timerArmed = false) ∧
    (s.pwr.timerArmed = false → exec .wakeTimerExpiry s = .next s) ∧
    (s.pwr.power = .hibernate → s.pwr.earlyDelay = true → s.railsGood = false →
      ∃ t, exec .earlyWakeDelayExpiry s = .next t ∧ t = { s with pwr := t.pwr } ∧ t.pwr.power = .railWait ∧ t.pwr.afterWake = true ∧
      t.pwr.railEn = true ∧ t.pwr.earlyDelay = false) ∧
    (s.pwr.earlyDelay = false → exec .earlyWakeDelayExpiry s = .next s)

/-- Chapter 03: supply supervision and reset sources.
The model's readings behind its clauses: log 25. -/
def Obligations.SupplyLossAndResetSources : Prop :=
  ∀ s : State,
    (s.pwr.power = .hibernate ∨ s.pwr.power = .reset ∨ s.pwr.power = .run → ∃ t, exec (.supplyGood 1) s = .next t ∧
      t.flag R.PWR_STATUS_CORE_GOOD = true ∧ t.pwr.power = s.pwr.power ∧ OnlyRegs s t [R.PWR_STATUS, R.CONV_STATUS] ∧ t.mem = s.mem) ∧
    (∀ k, 1 ≤ k → k ≤ 4 → s.pwr.power = .run → ∃ t, exec (.supplyLost k) s = .next t ∧ t.pwr.power = .reset ∧ t.pwr.cold = true ∧
      t.flag ⟨R.SYS_RESET_CAUSE, k + 1, k + 1⟩ = true ∧ t.mem.valid = [] ∧ t.mem.mram = s.mem.mram ∧ t.pending = s.pending) ∧
    (∀ n, n < 8 → s.pwr.power = .run → natBit s.pwr.supervised n = true → ∃ t, exec (.supplyLost (5 + n)) s = .next t ∧
      t.bitAt R.PWR_STATUS_VIO_GOOD n = false ∧ Raised s t 0x0102 (if n ≤ 3 then 2 else 1) 0x01 ∧ t.pwr = s.pwr ∧ t.mem = s.mem ∧
      OnlyRegs s t [R.PWR_STATUS, R.CONV_STATUS, R.LEDGER_SEQ]) ∧
    (s.pwr.power ≠ .off → ∃ t, exec (.supplyLost 0) s = .next t ∧ t.pwr.power = .off ∧ (∀ a, t.rd a = resetValue s.part a) ∧
      t.mem.valid = [] ∧ t.mem.mram = s.mem.mram ∧ t.pending = s.pending) ∧
    (s.pwr.power = .run → ∃ t, exec .resetPin s = .next t ∧ t.pwr.power = .reset ∧ t.pwr.cold = false ∧ t.pwr.resetN = false ∧
      t.flag R.SYS_RESET_CAUSE_PIN = true ∧ t.mem.mram = s.mem.mram ∧ t.pending = s.pending) ∧
    (∀ k, s.pwr.power = .off → exec (.supplyGood k) s = .next s ∧ exec (.supplyLost k) s = .next s)

/-- Chapter 03. The later steps of BOOT are named operations of the model, in the order of R63.
The model's readings behind its clauses: log 5, 53, 55, 61. -/
def Obligations.BootStrapsAndPerst : Prop :=
  ∀ s : State,
    (∀ b, s.pwr.power = .reset → s.mainGood = true → s.pwr.resetN = true →
      exec (.bootStart b) s = .next (if b.wardenAuth then
          ((((((((s.bootBegin b).bootStore b).bootLanding).bootComm b).bootLoad).bootRecords b).bootLog).bootEnd b).flushAll
        else ((s.bootBegin b).bootStore b).bootNoRuntime) ∧
      (s.bootBegin b).atime = 0 ∧ (s.bootBegin b).led.boots = s.led.boots + 1 ∧ (s.bootBegin b).pwr.power = .run ∧
      (s.bootBegin b).pwr.isolated = false ∧ (s.bootBegin b).flag R.PWR_STATUS_VIO_USED_LOCK = true ∧
      (s.pwr.cold = true → (s.bootBegin b).get R.SYS_STRAP_LATCHED = b.straps % 256) ∧
      (s.pwr.cold = false → (s.bootBegin b).get R.SYS_STRAP_LATCHED = s.get R.SYS_STRAP_LATCHED) ∧
      (s.bootBegin b).mem = s.mem ∧ (s.bootBegin b).led.log = s.led.log) ∧
    (∀ b, s.pwr.power ≠ .reset ∨ s.mainGood = false ∨ s.pwr.resetN = false → exec (.bootStart b) s = .next s) ∧
    (∀ live, s.pwr.power = .run → live % 256 ≠ s.get R.SYS_STRAP_LATCHED → ∃ t, exec (.strapChangeDetected live) s = .next t ∧
      t.get R.SYS_STRAP_LIVE = live % 256 ∧ t.flag R.SYS_STRAP_CHANGED = true ∧ t.get R.SYS_STRAP_LATCHED = s.get R.SYS_STRAP_LATCHED ∧
      Raised s t 0x0006 0 0x00 ∧ OnlyRegs s t [R.SYS_STRAP, R.LEDGER_SEQ] ∧
      t = { s with pwr := t.pwr, regs := t.regs, led := t.led, free := t.free }) ∧
    (∀ p, p < 2 → s.pwr.power ≠ .run → ∃ t, exec (.perstAssert p) s = .next t ∧ natBit t.pwr.perst p = true ∧
      (∀ v, v < 64 → Sparse.get (always false) t.host.msixOpen (64 * p + v) = false) ∧
      (∀ v, v < 64 → Sparse.get (always false) t.host.msixPend (64 * p + v) = false) ∧
      (∀ i, i < 1024 → Sparse.get (always 0) t.host.pcieCfg (1024 * p + i) = 0) ∧
      t = { s with pwr := t.pwr, host := t.host }) ∧
    (∀ p, 2 ≤ p → exec (.perstAssert p) s = .next s)

/-- Chapter 02: the owner's requests. The command has an operation in flight that may start (R96, R105).
The model's readings behind its clauses: log 14, 16, 54. -/
def Obligations.ModeRequestsAreJudged : Prop :=
  ∀ (s : State) (c : Cmd), s.startable c 0x0101 = true → s.triggerWaits = false → c.target = 0 → 2 ≤ c.payload.length →
    (s.md = .standby → s.mode.trans = none → s.flag R.SYS_MODE_DEGRADE_MARK = false → s.driveOk = true → arg c 16 1 = 6 → arg c 17 1 = 0 →
      ∃ t, exec (.modeRequest c) s = .next t ∧ t.flag R.SYS_MODE_IN_TRANSITION = true ∧ t.get R.SYS_MODE_TARGET = 6 ∧
      t.get R.SYS_MODE_TRANS_SEQ = (s.get R.SYS_MODE_TRANS_SEQ + 1) % 256 ∧ t.md = .standby ∧
      Answered s t c .ok (t.get R.SYS_MODE_TRANS_SEQ) ∧ (∃ tr, t.mode.trans = some tr ∧ tr.dest = .drive) ∧
      OnlyRegs s t [R.SYS_MODE] ∧ t = { s with regs := t.regs, mode := t.mode, host := t.host }) ∧
    (s.md = .standby → s.mode.trans = none → s.driveOk = false → arg c 16 1 = 6 → arg c 17 1 = 0 →
      exec (.modeRequest c) s = .next (s.finish c .safetyBlocked)) ∧
    (s.md = .drive → s.mode.trans = none → s.standstill = false → arg c 16 1 = 5 → arg c 17 1 = 0 →
      exec (.modeRequest c) s = .next (s.finish c .rejectedMode)) ∧
    (s.md.fromDiscover = true → s.mode.trans ≠ none → arg c 16 1 = 5 → arg c 17 1 = 0 → exec (.modeRequest c) s = .next (s.finish c .busyRetry)) ∧
    (s.md.fromDiscover = true → (arg c 16 1 = 0 ∨ arg c 16 1 = 2 ∨ arg c 16 1 = 3 ∨ 10 ≤ arg c 16 1) →
      exec (.modeRequest c) s = .next (s.finish c .badParam))

/-- Chapter 02. Each command has an operation in flight that may start (R96, R105).
The model's readings behind its clauses: log 14, 16, 54. -/
def Obligations.SafeStopResetAndTimers : Prop :=
  ∀ s : State,
    (∀ c, s.startable c 0x0100 = true → c.target = 0 → s.md.fromDiscover = true →
      exec (.modeStatus c) s = .next (s.finish c .ok (pair64 (s.rd R.SYS_MODE).toNat (s.degrLeft.getD 0xFFFFFFFF)))) ∧
    (∀ c, s.startable c 0x0104 = true → c.target = 0 → s.md = .standby → s.mode.trans = none → s.flag R.DISC_STATUS_BUSY = false →
      ∃ t, exec (.safeStopRequest c) s = .next t ∧ t.flag R.SYS_MODE_IN_TRANSITION = true ∧ t.get R.SYS_MODE_TARGET = 0xB ∧
      t.get R.SYS_MODE_TRANS_SEQ = (s.get R.SYS_MODE_TRANS_SEQ + 1) % 256 ∧ t.md = .standby ∧ Answered s t c .ok ∧
      OnlyRegs s t [R.SYS_MODE, R.CONV_STATUS] ∧ t.mem = s.mem ∧ t.led = s.led ∧ t.fe = s.fe) ∧
    (∀ c, s.startable c 0x0104 = true → c.target = 0 → s.md = .safeStop → exec (.safeStopRequest c) s = .next (s.finish c .ok)) ∧
    (∀ c, s.startable c 0x0105 = true → c.target = 0 → s.standstill = true →
      (s.md = .standby ∨ s.md = .service ∨ s.md = .commission ∨ s.md = .safeStop) →
      ∃ t, exec (.sysReset c) s = .next t ∧ t.pwr.power = .reset ∧ t.pwr.cold = false ∧ t.flag R.SYS_RESET_CAUSE_CMD = true ∧
      t.mem.valid = [] ∧ t.host.rings = [] ∧ t.own.claims = []) ∧
    (∀ c, s.startable c 0x0105 = true → c.target = 0 → s.md = .drive → exec (.sysReset c) s = .next (s.finish c .rejectedMode)) ∧
    (∀ t0, s.pwr.power = .run → s.mode.degrStart = some t0 → s.mode.degrTold = true → s.mode.degrExpired = false →
      ∃ t, exec .degradedTimer s = .next t ∧ Told s t 0x0104 0 (some (w32 (s.mode.degrTime * 1000 - s.since t0 / 1000))) ∧
      t = { s with host := t.host, free := t.free }) ∧
    (s.pwr.power = .run → s.degrLeft = some 0 → s.mode.degrExpired = false → s.md ≠ .degraded → s.md ≠ .standby →
      ∃ t, exec .degradedTimerExpiry s = .next t ∧ t.mode.degrExpired = true ∧ t.mode.trans = s.mode.trans ∧ Told s t 0x0104 0 (some (w32 0)) ∧
      t = { s with mode := t.mode, host := t.host, free := t.free }) ∧
    (s.degrLeft = some 0 → s.mode.degrExpired = false → (s.md = .degraded ∨ s.md = .standby) → s.mode.trans = none →
      ∃ t, exec .degradedTimerExpiry s = .next t ∧ t.mode.degrExpired = true ∧ t.flag R.SYS_MODE_IN_TRANSITION = true ∧
      t.get R.SYS_MODE_TARGET = 0xB ∧ t.md = s.md) ∧
    (s.mode.degrExpired = true → exec .degradedTimerExpiry s = .next s ∧ exec .degradedTimer s = .next s)

/-- Chapter 02, R33; chapter 03, R71-R73.
The model's readings behind its clauses: log 24, 54. -/
def Obligations.TransitionEnd : Prop :=
  ∀ s : State,
    (∀ d f, s.mode.trans = none → exec (.modeTransitionEnd d f) s = .next s) ∧
    (∀ (fromCode : Nat) (dest : Mode) (kind code : Nat), fromCode < 16 → kind < 8 →
      (s.modeSet fromCode dest kind code).get R.SYS_MODE_MODE = dest.code ∧
      (s.modeSet fromCode dest kind code).flag R.SYS_MODE_IN_TRANSITION = false ∧
      (s.modeSet fromCode dest kind code).get R.SYS_MODE_TARGET = 0 ∧
      (s.modeSet fromCode dest kind code).get R.SYS_MODE_CAUSE_KIND = kind ∧
      (s.modeSet fromCode dest kind code).get R.SYS_MODE_CAUSE_TO = dest.code ∧
      (s.modeSet fromCode dest kind code).get R.SYS_MODE_CAUSE_FROM = fromCode ∧
      (s.modeSet fromCode dest kind code).get R.SYS_MODE_CAUSE_LEDGER_CODE = (if kind = 1 then code % 65536 else 0) ∧
      (s.modeSet fromCode dest kind code).mode.trans = none ∧
      Told s (s.modeSet fromCode dest kind code) 0x0101 0 ∧ OnlyRegs s (s.modeSet fromCode dest kind code) [R.SYS_MODE, R.SYS_MODE_CAUSE]) ∧
    (∀ d f tr, s.mode.trans = some tr → s.md ≠ .standby → tr.dest ≠ .hibernate → tr.kind ≠ 3 →
      exec (.modeTransitionEnd d f) s = .next (((s.modeSet s.md.code tr.dest tr.kind tr.code).modeEffects s.md).judgeHeld)) ∧
    (∀ d f tr, s.mode.trans = some tr → s.md = .standby → (tr.dest = .drive ∨ tr.dest = .degraded) → s.flag R.SAFE_DCL_STATUS_UV = false →
      exec (.modeTransitionEnd d f) s = .next ((((s.chopTest d f).1.modeSet 5 tr.dest tr.kind tr.code).modeEffects .standby).judgeHeld)) ∧
    (∀ d f tr, s.mode.trans = some tr → s.md = .degraded → tr.kind = 3 → tr.dest ≠ .hibernate →
      exec (.modeTransitionEnd d f) s =
        .next ((((s.modeSet 0xA tr.dest 3 tr.code).safeOutputs tr.code).modeEffects .degraded).judgeHeld)) ∧
    (∀ d f tr, s.mode.trans = some tr → tr.dest = .hibernate →
      ∃ t, exec (.modeTransitionEnd d f) s = .next t ∧ t.pwr.power = .hibernate ∧ t.md = .hibernate ∧ t.pwr.railEn = false ∧
      t.pwr.isolated = true ∧ t.pwr.isolatedVio3 = true ∧ t.mem.valid = [] ∧ t.mem.sram = [] ∧ t.host.rings = [] ∧ t.led.buffer = [] ∧
      t.led.queue = [])

/-- Chapter 04. Each command has an operation in flight that may start (R96, R105).
The model's readings behind its clauses: log 14, 16, 43, 52, 58, 63, 66. -/
def Obligations.DiscoveryRuns : Prop :=
  ∀ s : State,
    (∀ meas, s.md = .discover → s.flag R.DISC_STATUS_BUSY = false → ∃ t, exec (.discoverStart meas) s = .next t ∧
      t.flag R.DISC_STATUS_BUSY = true ∧ (∀ n, n ∈ s.engines → (t.eng n).prog = .discovery) ∧ t.mem = s.mem ∧ t.host.results = s.host.results) ∧
    (∀ meas, s.md ≠ .discover → exec (.discoverStart meas) s = .next s) ∧
    (s.flag R.DISC_STATUS_BUSY = true → s.flag R.SAFE_DCL_STATUS_UV = true → s.disc.noLink = false → s.disc.linkUp = false →
      ∃ t, exec .discLinkWaitExpiry s = .next t ∧ Raised s t 0x1504 0 0x15 ∧ t.disc.noLink = true ∧ OnlyRegs s t [R.LEDGER_SEQ] ∧
      t = { s with regs := t.regs, led := t.led, free := t.free, disc := t.disc }) ∧
    (∀ meas emf, s.flag R.DISC_STATUS_BUSY = false → exec (.discoverEnd meas emf) s = .next s) ∧
    (∀ meas emf, s.flag R.DISC_STATUS_BUSY = true → s.md = .discover → ∃ t, exec (.discoverEnd meas emf) s = .next t ∧
      t.flag R.SYS_MODE_IN_TRANSITION = true ∧ t.get R.SYS_MODE_TARGET = 5 ∧ t.flag R.DISC_STATUS_BUSY = false ∧ t.disc.ran = true ∧
      (∃ e, e ∈ t.host.events ∧ e.code = 0x6018)) ∧
    (∀ c meas, s.startable c 0x6010 = true → c.target = 0x15 → s.md = .commission → s.flag R.DISC_STATUS_BUSY = false →
      ∃ t, exec (.discRun c meas) s = .next t ∧ t = { s.begin c with disc := { s.disc with op := some (c.master, c.tag) } }.discStart meas ∧
      t.flag R.DISC_STATUS_BUSY = true ∧ t.disc.op = some (c.master, c.tag)) ∧
    (∀ c meas, s.startable c 0x6010 = true → c.target = 0x15 → s.md = .commission → s.flag R.DISC_STATUS_BUSY = true →
      exec (.discRun c meas) s = .next (s.finish c .busyRetry)) ∧
    (∀ c, s.startable c 0x6011 = true → c.target = 0x15 → s.md = .commission → s.disc.ran = true → s.flag R.DISC_STATUS_BUSY = false →
      (∀ n, n ∈ discItems → s.itemStatus n ≠ 3) → s.mramWorn 0x6011 = false → ∃ t, exec (.discAdopt c) s = .next t ∧ t.led.stored.disc = s.disc.meas ∧
      t.flag R.DISC_STATUS_REFERENCE = true ∧ t.flag R.LEDGER_COMM_STATUS_CHANGED = true ∧ t.flag R.LEDGER_COMM_STATUS_CONFIRMED = false ∧
      (∃ r, r ∈ t.host.results ∧ r.master = c.master ∧ r.tag = c.tag ∧ r.status = .ok) ∧ t.mem = s.mem) ∧
    (∀ c, s.startable c 0x6011 = true → c.target = 0x15 → s.md = .commission → (s.disc.ran = false ∨ s.mramWorn 0x6011 = true) →
      exec (.discAdopt c) s = .next (s.finish c .badParam))

/-- Chapter 05. A completion ring that runs again takes the entries held for it (`drainHeld`, R104).
The model's readings behind its clauses: log 25. -/
def Obligations.RingSetUp : Prop :=
  ∀ (s : State) (w : Writer) (m : Nat) (v : Word),
    (w.master ≠ some m → w ≠ .service → exec (.ringSelect w m v) s = .next s ∧ exec (.ringConfigWrite w m v) s = .next s ∧
      exec (.ringReset w m v) s = .next s) ∧
    (s.running = true → exec (.ringSelect .service m v) s = .next (s.satInc R.OWN_SVC_STAT_REFUSED) ∧
      exec (.ringConfigWrite .service m v) s = .next (s.satInc R.OWN_SVC_STAT_REFUSED) ∧
      exec (.ringReset .service m v) s = .next (s.satInc R.OWN_SVC_STAT_REFUSED)) ∧
    (w.master = some m → s.md.fromDiscover = true → ∃ t, exec (.ringSelect w m v) s = .next t ∧ t.get (R.RING_SEL_KIND m) = bitsOf v 5 4 ∧
      t.get (R.RING_SEL_INDEX m) = bitsOf v 3 0 ∧ OnlyRegs s t [R.RING_SEL m] ∧ t = { s with regs := t.regs }) ∧
    (w.master = some m → s.selected m = none → exec (.ringConfigWrite w m v) s = .next s ∧ exec (.ringReset w m v) s = .next s) ∧
    (∀ kind i, w.master = some m → s.md.fromDiscover = true → s.selected m = some (kind, i) → (s.ring m kind i).en = false → bitOf v 31 = true →
      4 ≤ bitsOf v 3 0 → bitsOf v 3 0 ≤ 12 →
      let t := s.setRing m kind i { s.ring m kind i with cfg := (v &&& cfgFree) ||| (v &&& cfgLocked), seq := 0, lost := 0 }
      exec (.ringConfigWrite w m v) s = .next (if kind = 1 then t.drainHeld m i else t)) ∧
    (∀ kind i, w.master = some m → s.md.fromDiscover = true → s.selected m = some (kind, i) → (s.ring m kind i).en = true →
      (v &&& cfgLocked) = ((s.ring m kind i).cfg &&& cfgLocked) →
      let t := s.setRing m kind i { s.ring m kind i with cfg := (v &&& cfgFree) ||| (v &&& cfgLocked) }
      exec (.ringConfigWrite w m v) s = .next (if kind = 1 then t.drainHeld m i else t)) ∧
    (∀ kind i, w.master = some m → s.md.fromDiscover = true → s.selected m = some (kind, i) → kind ≠ 1 → (s.ring m kind i).en = true →
      (v &&& cfgLocked) ≠ ((s.ring m kind i).cfg &&& cfgLocked) → ∃ t, exec (.ringConfigWrite w m v) s = .next t ∧ (t.ring m kind i).err = 6 ∧
      ((t.ring m kind i).cfg &&& cfgLocked) = ((s.ring m kind i).cfg &&& cfgLocked) ∧
      Told s t 0x0120 0x03 (some (w32 (16 * kind + i))) (some (w32 6)) ∧ t = { s with host := t.host, free := t.free }) ∧
    (∀ i, w.master = some m → s.md.fromDiscover = true → s.selected m = some (1, i) → (s.ring m 1 i).en = true →
      (v &&& cfgLocked) ≠ ((s.ring m 1 i).cfg &&& cfgLocked) →
      exec (.ringConfigWrite w m v) s = .next (((s.setRing m 1 i { s.ring m 1 i with
        cfg := (v &&& cfgFree) ||| ((s.ring m 1 i).cfg &&& cfgLocked) }).ringError m 1 i 6).drainHeld m i)) ∧
    (∀ kind i, w.master = some m → s.md.fromDiscover = true → s.selected m = some (kind, i) → kind ≠ 1 → (s.ring m kind i).en = false →
      bitOf v 31 = true → (bitsOf v 3 0 < 4 ∨ 12 < bitsOf v 3 0) → ∃ t, exec (.ringConfigWrite w m v) s = .next t ∧ (t.ring m kind i).err = 9 ∧
      Told s t 0x0120 0x03 (some (w32 (16 * kind + i))) (some (w32 9)) ∧ t = { s with host := t.host, free := t.free }) ∧
    (∀ kind i, w.master = some m → s.md.fromDiscover = true → s.selected m = some (kind, i) → bitOf v 0 = true →
      kind ≠ 1 ∨ s.cplBusy m i = false →
      let t := s.setRing m kind i { s.ring m kind i with elx := 0, mst := 0, err := 0, phase := true }
      exec (.ringReset w m v) s = .next (if kind = 1 then t.drainHeld m i else t)) ∧
    (∀ i, w.master = some m → s.md.fromDiscover = true → s.selected m = some (1, i) → bitOf v 0 = true → s.cplBusy m i = true →
      ∃ t, exec (.ringReset w m v) s = .next t ∧ (t.ring m 1 i).err = 7 ∧ (t.ring m 1 i).elx = (s.ring m 1 i).elx ∧
      Told s t 0x0120 0x03 (some (w32 (16 + i))) (some (w32 7)) ∧ t = { s with host := t.host, free := t.free })

/-- Chapter 05.
The model's readings behind its clauses: log 13. -/
def Obligations.Doorbells : Prop :=
  ∀ (s : State) (w : Writer) (m k : Nat) (v : Word),
    (w.master ≠ some m → w ≠ .service → exec (.doorbellCmd w m k v) s = .next s ∧ exec (.doorbellCpl w m k v) s = .next s ∧
      exec (.doorbellEvt w m k v) s = .next s ∧ exec (.doorbellTlm w m k v) s = .next s) ∧
    (s.running = true → exec (.doorbellCmd .service m k v) s = .next (s.satInc R.OWN_SVC_STAT_REFUSED) ∧
      exec (.doorbellCpl .service m k v) s = .next (s.satInc R.OWN_SVC_STAT_REFUSED) ∧
      exec (.doorbellEvt .service m k v) s = .next (s.satInc R.OWN_SVC_STAT_REFUSED) ∧
      exec (.doorbellTlm .service m k v) s = .next (s.satInc R.OWN_SVC_STAT_REFUSED)) ∧
    (w ≠ .service → 16 ≤ k → exec (.doorbellCmd w m k v) s = .next s ∧ exec (.doorbellCpl w m k v) s = .next s) ∧
    (w ≠ .service → 4 ≤ k → exec (.doorbellEvt w m k v) s = .next s) ∧ (w ≠ .service → 8 ≤ k → exec (.doorbellTlm w m k v) s = .next s) ∧
    (s.running = false → exec (.doorbellCmd w m k v) s = .next s ∧ exec (.doorbellCpl w m k v) s = .next s ∧
      exec (.doorbellEvt w m k v) s = .next s ∧ exec (.doorbellTlm w m k v) s = .next s) ∧
    (s.running = true → w.master = some m → k < 16 → (bitsOf v 15 0 + 65536 - (s.ring m 0 k).elx) % 65536 ≤ (s.ring m 0 k).size →
      exec (.doorbellCmd w m k v) s = .next (s.setRing m 0 k { s.ring m 0 k with mst := bitsOf v 15 0 })) ∧
    (s.running = true → w.master = some m → k < 16 → (s.ring m 0 k).size < (bitsOf v 15 0 + 65536 - (s.ring m 0 k).elx) % 65536 →
      ∃ t, exec (.doorbellCmd w m k v) s = .next t ∧ (t.ring m 0 k).err = 4 ∧ (t.ring m 0 k).mst = (s.ring m 0 k).mst ∧
      Told s t 0x0120 0x03 (some (w32 k)) (some (w32 4)) ∧ t = { s with host := t.host, free := t.free }) ∧
    (s.running = true → w.master = some m → k < 8 → ((s.ring m 3 k).elx + 65536 - bitsOf v 15 0) % 65536 ≤ (s.ring m 3 k).size →
      exec (.doorbellTlm w m k v) s = .next (s.setRing m 3 k { s.ring m 3 k with mst := bitsOf v 15 0 })) ∧
    (s.running = true → w.master = some m → k < 8 → (s.ring m 3 k).size < ((s.ring m 3 k).elx + 65536 - bitsOf v 15 0) % 65536 →
      ∃ t, exec (.doorbellTlm w m k v) s = .next t ∧ (t.ring m 3 k).err = 4 ∧ (t.ring m 3 k).mst = (s.ring m 3 k).mst ∧
      Told s t 0x0120 0x03 (some (w32 (48 + k))) (some (w32 4)) ∧ t = { s with host := t.host, free := t.free }) ∧
    (s.running = true → w.master = some m → k < 4 → ((s.ring m 2 k).elx + 65536 - bitsOf v 15 0) % 65536 ≤ (s.ring m 2 k).size →
      exec (.doorbellEvt w m k v) s = .next ((s.setRing m 2 k { s.ring m 2 k with mst := bitsOf v 15 0 }).overflowEntry m k) ∧
      ((s.ring m 2 k).drops = 0 → exec (.doorbellEvt w m k v) s = .next (s.setRing m 2 k { s.ring m 2 k with mst := bitsOf v 15 0 }))) ∧
    (s.running = true → w.master = some m → k < 4 → (s.ring m 2 k).size < ((s.ring m 2 k).elx + 65536 - bitsOf v 15 0) % 65536 →
      ∃ t, exec (.doorbellEvt w m k v) s = .next t ∧ (t.ring m 2 k).err = 4 ∧ (t.ring m 2 k).mst = (s.ring m 2 k).mst ∧
      Told s t 0x0120 0x03 (some (w32 (32 + k))) (some (w32 4)) ∧ t = { s with host := t.host, free := t.free }) ∧
    (s.running = true → w.master = some m → k < 16 → ((s.ring m 1 k).elx + 65536 - bitsOf v 15 0) % 65536 ≤ (s.ring m 1 k).size →
      exec (.doorbellCpl w m k v) s = .next ((s.setRing m 1 k { s.ring m 1 k with mst := bitsOf v 15 0 }).drainHeld m k)) ∧
    (s.running = true → w.master = some m → k < 16 → (s.ring m 1 k).size < ((s.ring m 1 k).elx + 65536 - bitsOf v 15 0) % 65536 →
      exec (.doorbellCpl w m k v) s = .next ((s.ringError m 1 k 4).drainHeld m k))

/-- Chapter 05. `p` are the payloads that indirect descriptors name, read from host memory.
The model's readings behind its clauses: log 14, 64. -/
def Obligations.DescriptorsFetchedAndChecked : Prop :=
  ∀ s : State,
    ((∀ g, g < 48 → s.fetchCount (g / 16) (g % 16) = 0) → exec .descriptorFetch s = .next s) ∧
    (∀ g, g < 48 → 0 < s.fetchCount (g / 16) (g % 16) → ∃ t, exec .descriptorFetch s = .next t ∧ ∃ f, t.host.reads = s.host.reads ++ [f] ∧
      1 ≤ f.count ∧ f.count ≤ 8 ∧ t = { s with host := t.host } ∧
      (s.owner < 3 → (∃ k, k < 16 ∧ 0 < s.fetchCount s.owner k) → f.master = s.owner)) ∧
    (∀ data p, s.host.reads = [] → exec (.descriptorReadDone data p) s = .next s) ∧
    (∀ f rest p, s.host.reads = f :: rest → (s.ring f.master 0 f.ring).run = true → ∃ t, exec (.descriptorReadDone none p) s = .next t ∧
      (t.ring f.master 0 f.ring).err = 5 ∧ t.host.reads = rest ∧ Told s t 0x0120 0x03 (some (w32 f.ring)) (some (w32 5)) ∧
      t = { s with host := t.host, free := t.free }) ∧
    (∀ f rest data p, s.host.reads = f :: rest → (s.ring f.master 0 f.ring).run = false →
      exec (.descriptorReadDone data p) s = .next { s with host := { s.host with reads := rest } }) ∧
    (∀ f rest bs p, s.host.reads = f :: rest → (s.ring f.master 0 f.ring).run = true →
      exec (.descriptorReadDone (some bs) p) s = .next (({ s with host := { s.host with reads := rest } }).takeDescs f.master f.ring
        (if (s.ring f.master 0 f.ring).v1 then 32 else 64) f.count bs p)) ∧
    (∀ f rest bs p, s.host.reads = f :: rest → f.count = 1 → (s.ring f.master 0 f.ring).run = true →
      let v1 := (s.ring f.master 0 f.ring).v1
      let d := Desc.ofBytes (bs.take (if v1 then 32 else 64))
      (512 ≤ d.tagWord → ∃ t, exec (.descriptorReadDone (some bs) p) s = .next t ∧ (t.ring f.master 0 f.ring).err = 1 ∧
        (t.ring f.master 0 f.ring).elx = (s.ring f.master 0 f.ring).elx ∧ t.host.ops = s.host.ops) ∧
      (s.check1 f.master v1 d = none → check2 v1 d = false →
        ∃ t, exec (.descriptorReadDone (some bs) p) s = .next t ∧ ∃ r, t.host.results = s.host.results ++ [r] ∧ r.master = f.master ∧ r.tag = d.tag ∧
        r.status = .badParam ∧ t = { s with host := t.host }) ∧
      (s.check1 f.master v1 d = none → check2 v1 d = true → s.check3 f.master d = false →
        ∃ t, exec (.descriptorReadDone (some bs) p) s = .next t ∧ ∃ r, t.host.results = s.host.results ++ [r] ∧ r.master = f.master ∧ r.tag = d.tag ∧
        r.status = .notOwner ∧ t = { s with host := t.host }) ∧
      (s.check1 f.master v1 d = none → check2 v1 d = true → s.check3 f.master d = true → s.check4 d = false →
        ∃ t, exec (.descriptorReadDone (some bs) p) s = .next t ∧ ∃ r, t.host.results = s.host.results ++ [r] ∧ r.master = f.master ∧ r.tag = d.tag ∧
        r.status = .badParam ∧ t = { s with host := t.host }) ∧
      (s.check1 f.master v1 d = none → check2 v1 d = true → s.check3 f.master d = true → s.check4 d = true → d.ind = false → s.check6 d = false →
        ∃ t, exec (.descriptorReadDone (some bs) p) s = .next t ∧ ∃ r, t.host.results = s.host.results ++ [r] ∧ r.master = f.master ∧ r.tag = d.tag ∧
        r.status = .safetyBlocked) ∧
      (s.check1 f.master v1 d = none → check2 v1 d = true → s.check3 f.master d = true → s.check4 d = true → d.ind = true →
        ∃ t, exec (.descriptorReadDone (some bs) p) s = .next t ∧ (t.ring f.master 0 f.ring).elx = ((s.ring f.master 0 f.ring).elx + 1) % 65536 ∧
        (t.host.results = s.host.results ∨ ∃ r, t.host.results = s.host.results ++ [r] ∧ r.master = f.master ∧ r.tag = d.tag ∧
          (r.status = .busyRetry ∨ r.status = .badParam ∨ r.status = .safetyBlocked))) ∧
      (s.check1 f.master v1 d = none → check2 v1 d = true → s.check3 f.master d = true → s.check4 d = true → d.ind = false → s.check6 d = true →
        ∃ t, exec (.descriptorReadDone (some bs) p) s = .next t ∧ ∃ o, t.host.ops = s.host.ops ++ [o] ∧ o.master = f.master ∧ o.tag = d.tag ∧
        o.opcode = d.opcode ∧ o.target = d.target ∧ o.hostAddr = d.hostAddr ∧ o.len = d.len ∧ o.payload = d.payload none ∧
        o.fence = natBit d.flags 4 ∧ o.irq = natBit d.flags 5 ∧ o.started = false ∧ o.done = false ∧ t.host.results = s.host.results ∧
        (t.ring f.master 0 f.ring).elx = ((s.ring f.master 0 f.ring).elx + 1) % 65536 ∧ t = { s with host := t.host }))

/-- Chapter 05.
The model's readings behind its clauses: log 8, 14, 64. -/
def Obligations.ResultsAndCompletions : Prop :=
  ∀ s : State,
    (s.host.results = [] → exec .resultIntake s = .next s) ∧
    (∀ r rest, s.host.results = r :: rest → (Sparse.get (always []) s.host.intake r.gallery).length < 32 →
      (∀ o, s.opOf r.master r.tag = some o → o.stalls = []) → ∃ t, exec .resultIntake s = .next t ∧ t.host.results = rest ∧
      Sparse.get (always []) t.host.intake r.gallery = Sparse.get (always []) s.host.intake r.gallery ++ [r] ∧
      t = { s with host := t.host, mkt := t.mkt }) ∧
    (∀ r rest, s.host.results = r :: rest → 32 ≤ (Sparse.get (always []) s.host.intake r.gallery).length →
      (∀ o, s.opOf r.master r.tag = some o → o.stalls = []) → ∃ t, exec .resultIntake s = .next t ∧ t.host.results = rest ∧
      t.host.pendingSlots = s.host.pendingSlots ++ [r] ∧ t.host.intake = s.host.intake ∧ t = { s with host := t.host, mkt := t.mkt }) ∧
    ((∀ g, g < 5 → Sparse.get (always []) s.host.intake g = []) → s.host.pendingSlots = [] → exec .completionIssue s = .next s) ∧
    (∀ r, (∀ g, g < 5 → Sparse.get (always []) s.host.intake g = []) → s.host.pendingSlots = [r] →
      exec .completionIssue s = .next ((({ s with host := { s.host with pendingSlots := [] } }).progressFirst r).issue r)) ∧
    (∀ g r rest, g < 5 → Sparse.get (always []) s.host.intake g = r :: rest →
      (∀ g', g' < 5 → g' ≠ g → Sparse.get (always []) s.host.intake g' = []) →
      exec .completionIssue s = .next ((({ s with host := { s.host with
        intake := Sparse.set (always []) s.host.intake g rest, lastGallery := g } }).progressFirst r).issue r)) ∧
    (∀ r o, s.opOf r.master r.tag = some o → s.host.events = [] → s.progressFirst r = s) ∧
    (∀ r o, s.opOf r.master r.tag = some o → s.linkUp r.master = false → s.issue r = s.dropOp r.master r.tag) ∧
    (∀ r o, s.opOf r.master r.tag = some o → s.linkUp r.master = true → (s.ring r.master 1 (s.cplOf o)).run = true →
      (s.ring r.master 1 (s.cplOf o)).used < (s.ring r.master 1 (s.cplOf o)).size →
      s.issue r = (s.writeEntry r.master 1 (s.cplOf o) 16 o.irq (cplBytes r o.ring)).dropOp r.master r.tag) ∧
    (∀ r k (ph : Bool), (cplBytes r k ph).length = 16 ∧ fieldAt (cplBytes r k ph) 0 2 % 512 = r.tag % 512 ∧
      fieldAt (cplBytes r k ph) 2 1 = r.status.code ∧ fieldAt (cplBytes r k ph) 3 1 = bit ph * 128 + k % 16 ∧
      fieldAt (cplBytes r k ph) 8 8 = r.value % 2 ^ 64) ∧
    (∀ m tag o, s.opOf m tag = some o → o.cls = 1 → o.done = false → 2000 ≤ s.since o.start → ∃ t, exec (.classRTimeout m tag) s = .next t ∧
      ∃ r, t.host.results = s.host.results ++ [r] ∧ r.master = m ∧ r.tag = tag ∧ r.status = .timeout ∧ t.regs = s.regs ∧ t.mem = s.mem ∧ t.fe = s.fe) ∧
    (∀ m tag o, s.opOf m tag = some o → (o.cls ≠ 1 ∨ o.done = true ∨ s.since o.start < 2000) → exec (.classRTimeout m tag) s = .next s) ∧
    (∀ m tag pm b o, s.opOf m tag = some o → o.cls = 2 → o.done = false → 10000 ≤ s.since o.reported →
      ∃ t, exec (.cmdProgress m tag pm b) s = .next t ∧
      Told s t 0x0123 0x03 (some (w32 (tag % 512 + o.ring * 2 ^ 16))) (some (w32 o.opcode)) ∧ t = { s with host := t.host, free := t.free }) ∧
    (∀ m tag pm b o, s.opOf m tag = some o → (o.cls ≠ 2 ∨ o.done = true ∨ s.since o.reported < 10000) →
      exec (.cmdProgress m tag pm b) s = .next s) ∧
    (∀ m k t0, (s.ring m 1 k).fullAt = some t0 → 100000 ≤ s.since t0 → (s.ring m 1 k).run = true →
      (s.ring m 1 k).size ≤ (s.ring m 1 k).used → s.heldFor m k ≠ [] →
      ∃ t, exec (.crFullRepeat m k) s = .next t ∧ Told s t 0x0121 0x03 (some (w32 k)) (some (w32 (s.heldFor m k).length)) ∧
      t = { s with host := t.host, free := t.free }) ∧
    (∀ m k, (s.ring m 1 k).fullAt = none → exec (.crFullRepeat m k) s = .next s)

/-- Chapter 05.
The model's readings behind its clauses: log 7, 20, 64. -/
def Obligations.EventsInterruptsTelemetry : Prop :=
  ∀ s : State,
    (s.host.events = [] → exec .eventDelivery s = .next s) ∧
    (∀ e rest, s.host.events = e :: rest → (∀ m k, (s.ring m 2 k).run = false) →
      exec .eventDelivery s = .next { s with host := { s.host with events := rest } }) ∧
    (∀ e rest, s.host.events = e :: rest → exec .eventDelivery s = .next ({ s with host := { s.host with events := rest } }.deliver e)) ∧
    (∀ m kind k, (s.ring m kind k).irqEn = true → 0 < (s.ring m kind k).unsig → bitsOf (s.ring m kind k).irq 15 0 ≠ 0 → m < 2 →
      bitsOf (s.ring m kind k).irq 15 0 ≤ s.since (s.ring m kind k).unsigAt →
      Sparse.get (always false) s.host.msixOpen (64 * m + (s.ring m kind k).vec) = false → ∃ t, exec (.irqTimeExpiry m kind k) s = .next t ∧
      Sparse.get (always false) t.host.msixPend (64 * m + (s.ring m kind k).vec) = true ∧ t.host.msixSent = s.host.msixSent ∧
      t = { s with host := t.host }) ∧
    (∀ m kind k, (s.ring m kind k).irqEn = true → 0 < (s.ring m kind k).unsig → bitsOf (s.ring m kind k).irq 15 0 ≠ 0 →
      bitsOf (s.ring m kind k).irq 15 0 ≤ s.since (s.ring m kind k).unsigAt →
      (2 ≤ m ∨ Sparse.get (always false) s.host.msixOpen (64 * m + (s.ring m kind k).vec) = true) → ∃ t, exec (.irqTimeExpiry m kind k) s = .next t ∧
      Sparse.get (always 0) t.host.msixSent (64 * m + (s.ring m kind k).vec) =
        Sparse.get (always 0) s.host.msixSent (64 * m + (s.ring m kind k).vec) + 1 ∧ (t.ring m kind k).unsig = 0 ∧ t = { s with host := t.host }) ∧
    (∀ m kind k, (s.ring m kind k).unsig = 0 → exec (.irqTimeExpiry m kind k) s = .next s) ∧
    (∀ c, s.startable c 0x0110 = true → s.md.fromDiscover = true → arg c 16 1 < 8 → 1 ≤ arg c 17 1 → arg c 17 1 ≤ 16 → 2 + 2 * arg c 17 1 ≤ c.payload.length →
      (s.ring c.master 3 (arg c 16 1)).en = false → (∀ p, p ∈ tlmSignals c (arg c 17 1) → p ≤ 511) →
      exec (.tlmSelect c) s = .next ((s.setStream c.master (arg c 16 1) { s.stream c.master (arg c 16 1) with
        signals := tlmSignals c (arg c 17 1) }).finish c .ok)) ∧
    (∀ c, s.startable c 0x0110 = true → s.md.fromDiscover = true → (s.ring c.master 3 (arg c 16 1)).en = true → exec (.tlmSelect c) s = .next (s.finish c .badParam)) ∧
    (∀ m k n, (s.ring m 3 k).tlmFlush ≠ 0 → (s.stream m k).stall = some n → (s.stream m k).used ≠ 0 →
      100 * (s.ring m 3 k).tlmFlush ≤ s.since (s.stream m k).firstAt → ∃ t, exec (.tlmFlushExpiry m k) s = .next t ∧
      (t.stream m k).stall = none ∧ (t.stream m k).used = 0 ∧ (t.stream m k).full = (s.stream m k).full ++ [(s.stream m k).firstAt] ∧
      Sparse.get (always []) t.mkt.queues (tlmChan m k) =
        Sparse.get (always []) s.mkt.queues (tlmChan m k) ++ [(false, (s.stream m k).used, n)]) ∧
    (∀ m k, ((s.stream m k).used = 0 ∨ s.since (s.stream m k).firstAt < 100 * (s.ring m 3 k).tlmFlush) →
      exec (.tlmFlushExpiry m k) s = .next s) ∧
    (∀ m k, (s.stream m k).full = [] → exec (.tlmBufferCopy m k) s = .next s) ∧
    (∀ m k h at_ rest left u bs, (s.stream m k).full = at_ :: rest → Sparse.get (always []) s.mkt.queues (tlmChan m k) = h :: left →
      (s.ring m 3 k).run = true → (s.ring m 3 k).full = false → s.linkUp m = true →
      ({ s.setStream m k { s.stream m k with full := rest } with
        mkt.queues := Sparse.set (always []) s.mkt.queues (tlmChan m k) left }).readStall h.2.2 h.2.1 = (u, some bs) →
      exec (.tlmBufferCopy m k) s = .next (((u.setRing m 3 k { s.ring m 3 k with seq := ((s.ring m 3 k).seq + 1) % 2 ^ 32 }).writeEntry m 3 k 512
        false (tlmBytes k (s.ring m 3 k).seq bs at_)).freeStall (tlmChan m k) h.2.2))

/-- Chapter 06. Each command has an operation in flight that may start (R96, R105).
The model's readings behind its clauses: log 14, 16, 26, 44. -/
def Obligations.ClaimsAndWindow : Prop :=
  ∀ s : State,
    (∀ c, s.startable c 0x0200 = true → c.target = 0 → s.md.fromDiscover = true →
      exec (.ownQuery c) s = .next (s.finish c .ok (pair64 (s.rd R.OWN_STATUS).toNat (s.rd R.OWN_NONCE).toNat))) ∧
    (∀ c, s.startable c 0x0201 = true → c.target = 0 → s.md.fromDiscover = true → 8 ≤ c.payload.length → arg c 16 1 ≤ 15 → c.master < 2 →
      (s.get R.OWN_STATUS_STATE = 0 ∨ s.get R.OWN_STATUS_STATE = 4) → ∃ t, exec (.ownClaim c) s = .next t ∧
      t.get R.OWN_STATUS_STATE = 1 ∧ t.own.claims = [{ master := c.master, tag := c.tag, prio := arg c 16 1, nonce := arg c 20 4, replaced := false }] ∧
      t.host.results = s.host.results ∧ OnlyRegs s t [R.OWN_STATUS] ∧ t = { s with regs := t.regs, own := t.own, host := t.host }) ∧
    (∀ c, s.startable c 0x0201 = true → c.target = 0 → s.md.fromDiscover = true → 8 ≤ c.payload.length → arg c 16 1 ≤ 15 → c.master < 2 →
      s.get R.OWN_STATUS_STATE = 1 → s.own.barred ≠ some c.master → ∃ t, exec (.ownClaim c) s = .next t ∧
      t.own.claims = (s.own.claims.map fun y => if y.master = c.master then { y with replaced := true } else y) ++
        [{ master := c.master, tag := c.tag, prio := arg c 16 1, nonce := arg c 20 4, replaced := false }] ∧
      t.host.results = s.host.results ∧ t = { s with own := t.own, host := t.host }) ∧
    (∀ c, s.startable c 0x0201 = true → c.target = 0 → s.md.fromDiscover = true → 8 ≤ c.payload.length → arg c 16 1 ≤ 15 → c.master < 2 →
      s.get R.OWN_STATUS_STATE = 2 → exec (.ownClaim c) s = .next (s.finish c .ok (2 + 256 * s.owner + 65536 * s.get R.OWN_STATUS_PRIO))) ∧
    (∀ c, s.startable c 0x0201 = true → c.target = 0 → s.md.fromDiscover = true → 8 ≤ c.payload.length → arg c 16 1 ≤ 15 → c.master < 2 →
      s.get R.OWN_STATUS_STATE = 3 → exec (.ownClaim c) s = .next (s.finish c .busyRetry)) ∧
    (∀ c, s.startable c 0x0201 = true → c.target = 0 → s.md.fromDiscover = true → c.master = 2 →
      exec (.ownClaim c) s = .next (s.finish c .badParam)) ∧
    (s.get R.OWN_STATUS_STATE ≠ 1 → exec .claimWindowClose s = .next s) ∧
    (s.get R.OWN_STATUS_STATE = 1 → s.own.claims = [] → ∃ t, exec .claimWindowClose s = .next t ∧ t.get R.OWN_STATUS_STATE = 4 ∧
      t.owner = s.owner ∧ OnlyRegs s t [R.OWN_STATUS] ∧ t = { s with regs := t.regs, own := t.own }) ∧
    (∀ x : Claim, s.get R.OWN_STATUS_STATE = 1 → s.own.claims = [x] → x.replaced = false → x.master < 2 → x.prio ≤ 15 →
      ∃ t, exec .claimWindowClose s = .next t ∧ t.owner = x.master ∧ t.get R.OWN_STATUS_STATE = 2 ∧ t.get R.OWN_STATUS_PRIO = x.prio ∧
      t.rd R.OWN_NONCE = w32 x.nonce ∧ t.get R.OWN_STATUS_OWN_SEQ = (s.get R.OWN_STATUS_OWN_SEQ + 1) % 256 ∧ t.own.hbAt = s.atime ∧
      Told s t 0x0201 0x02 (some (w32 s.owner)) (some (w32 x.master)) ∧ OnlyRegs s t [R.OWN_STATUS, R.OWN_NONCE]) ∧
    (∀ a b : Claim, s.get R.OWN_STATUS_STATE = 1 → s.own.claims = [a, b] → a.replaced = false → b.replaced = false → a.master < 2 → b.master < 2 →
      ∃ t, exec .claimWindowClose s = .next t ∧ t.owner = (betterClaim a b).master ∧ t.get R.OWN_STATUS_STATE = 2) ∧
    (∀ a b : Claim, (a.prio < b.prio → betterClaim a b = b) ∧ (b.prio < a.prio → betterClaim a b = a) ∧
      (a.prio = b.prio → a.master ≤ b.master → betterClaim a b = a) ∧ (a.prio = b.prio → b.master < a.master → betterClaim a b = b))

/-- Chapter 06. Each command has an operation in flight that may start (R96, R105).
The model's readings behind its clauses: log 14, 44. -/
def Obligations.OwnershipHandOver : Prop :=
  ∀ s : State,
    (∀ c, s.startable c 0x0202 = true → c.target = 0 → s.md.fromDiscover = true → s.get R.OWN_STATUS_STATE ≠ 3 → 8 ≤ c.payload.length →
      c.master < 2 → arg c 16 1 ≤ 2 → arg c 16 1 ≠ c.master → s.linkUp (arg c 16 1) = true → c.master ≠ s.owner →
      exec (.ownHandover c) s = .next (s.finish c .notOwner)) ∧
    (∀ c, s.startable c 0x0202 = true → c.target = 0 → s.md.fromDiscover = true → s.get R.OWN_STATUS_STATE = 2 → 8 ≤ c.payload.length →
      c.master < 2 → arg c 16 1 ≤ 2 → arg c 16 1 ≠ c.master → s.linkUp (arg c 16 1) = true → c.master = s.owner →
      (∀ o, o ∈ s.host.ops → o.cls ≠ 2) →
      ∃ t, exec (.ownHandover c) s = .next t ∧ t.get R.OWN_STATUS_STATE = 3 ∧ t.get R.OWN_STATUS_SUCCESSOR = arg c 16 1 ∧ t.owner = s.owner ∧
      t.own.succNonce = arg c 20 4 ∧ t.own.confirmed = false ∧ t.own.holds = true ∧ t.own.handAt = s.atime ∧ Answered s t c .ok ∧
      Told s t 0x0202 0x02 (some (w32 0)) (some (w32 s.owner)) ∧ OnlyRegs s t [R.OWN_STATUS] ∧
      t = { s with regs := t.regs, own := t.own, host := t.host, free := t.free }) ∧
    (∀ c, s.startable c 0x0203 = true → c.target = 0 → s.md.fromDiscover = true → s.get R.OWN_STATUS_STATE = 3 → 8 ≤ c.payload.length →
      c.master = s.get R.OWN_STATUS_SUCCESSOR → (c.master = 2 ∨ arg c 20 4 = s.own.succNonce) →
      exec (.ownConfirm c) s = .next ({ s with own := { s.own with confirmed := true } }.finish c .ok)) ∧
    (∀ c, s.startable c 0x0203 = true → c.target = 0 → s.md.fromDiscover = true → c.master ≠ 2 → arg c 20 4 ≠ s.own.succNonce →
      exec (.ownConfirm c) s = .next (s.finish c .badParam)) ∧
    (s.get R.OWN_STATUS_STATE ≠ 3 ∨ s.own.confirmed = false ∨ s.drained = false → exec .ownershipPass s = .next s) ∧
    (∀ k, k < 2 → s.get R.OWN_STATUS_STATE = 3 → s.own.confirmed = true → s.drained = true → s.get R.OWN_STATUS_SUCCESSOR = k →
      ∃ t, exec .ownershipPass s = .next t ∧ t.owner = k ∧ t.get R.OWN_STATUS_STATE = 2 ∧
      t.get R.OWN_STATUS_OWN_SEQ = (s.get R.OWN_STATUS_OWN_SEQ + 1) % 256 ∧ t.own.locked = 0 ∧ t.own.confirmed = false ∧ t.own.holds = false ∧
      OnlyRegs s t [R.OWN_STATUS, R.OWN_NONCE] ∧ t = { s with regs := t.regs, own := t.own, host := t.host, free := t.free }) ∧
    (s.get R.OWN_STATUS_STATE = 3 → s.own.confirmed = true → s.drained = true → s.get R.OWN_STATUS_SUCCESSOR = 2 →
      ∃ t, exec .ownershipPass s = .next t ∧ t.owner = 2 ∧ t.get R.OWN_STATUS_STATE = 4 ∧ t.get R.OWN_STATUS_PRIO = 0 ∧ t.rd R.OWN_NONCE = 0) ∧
    (s.get R.OWN_STATUS_STATE = 3 → s.get R.OWN_STATUS_SUCCESSOR = 2 → s.drained = false →
      exec .stewardSuccessorConfirm s = .next { s with own := { s.own with confirmed := true } }) ∧
    (s.get R.OWN_STATUS_STATE = 3 → s.get R.OWN_STATUS_SUCCESSOR = 2 → s.drained = true →
      ∃ t, exec .stewardSuccessorConfirm s = .next t ∧ t.owner = 2 ∧ t.get R.OWN_STATUS_STATE = 4) ∧
    (s.get R.OWN_STATUS_STATE ≠ 3 → exec .stewardSuccessorConfirm s = .next s ∧ exec .handoverConfirmTimeout s = .next s) ∧
    (s.own.holds = true → 2000 ≤ s.since s.own.handAt → ∃ t, exec .handoverHoldExpiry s = .next t ∧ t.own.holds = false ∧
      t.owner = s.owner ∧ t.get R.OWN_STATUS_STATE = s.get R.OWN_STATUS_STATE ∧ t.mem = s.mem) ∧
    (s.own.holds = false ∨ s.since s.own.handAt < 2000 → exec .handoverHoldExpiry s = .next s) ∧
    (s.get R.OWN_STATUS_STATE = 3 → s.own.confirmed = false → s.own.oldLost = false → 50000 ≤ s.since s.own.handAt →
      ∃ t, exec .handoverConfirmTimeout s = .next t ∧ t.owner = s.owner ∧ t.get R.OWN_STATUS_STATE = 2 ∧ t.own.locked = 0 ∧
      Told s t 0x0202 0x02 (some (w32 2)) (some (w32 s.owner)) ∧ OnlyRegs s t [R.OWN_STATUS] ∧
      t = { s with regs := t.regs, own := t.own, host := t.host, free := t.free }) ∧
    (s.get R.OWN_STATUS_STATE = 3 → s.own.confirmed = false → s.own.oldLost = true → 50000 ≤ s.since s.own.handAt →
      ∃ t, exec .handoverConfirmTimeout s = .next t ∧ t.owner = 2 ∧ t.get R.OWN_STATUS_STATE = 1 ∧ t.own.barred = some s.owner) ∧
    (s.own.confirmed = true ∨ s.since s.own.handAt < 50000 → exec .handoverConfirmTimeout s = .next s)

/-- R115, with a part of R126. -/
def Obligations.HeartbeatAndItsLoss : Prop :=
  ∀ s : State,
    (∀ (w : Writer) m v, m < 2 → w.master = some m → s.pwr.power = .run → ∃ t, exec (.heartbeat w m v) s = .next t ∧
      t.get (R.OWN_HB_COUNT m) = bitsOf v 15 0 ∧ t.own.hbAt = (if s.owner = m then s.atime else s.own.hbAt) ∧ OnlyRegs s t [R.OWN_HB m] ∧
      t = { s with regs := t.regs, own := t.own }) ∧
    (∀ (w : Writer) m v, w ≠ .service → (w.master ≠ some m ∨ 2 ≤ m) → exec (.heartbeat w m v) s = .next s) ∧
    (∀ m v, s.running = true → exec (.heartbeat .service m v) s = .next (s.satInc R.OWN_SVC_STAT_REFUSED)) ∧
    (s.owner < 2 → s.get R.OWN_STATUS_STATE = 2 → s.own.oldLost = false → 1000 * s.get R.OWN_CFG_HB_TIMEOUT ≤ s.since s.own.hbAt → s.host.ops = [] →
      ∃ t, exec .heartbeatTimeout s = .next t ∧ t.owner = 2 ∧ t.get R.OWN_STATUS_STATE = 1 ∧ t.own.claims = [] ∧ t.own.barred = some s.owner ∧
      Raised s t 0x0201 0 0x02 ∧ (∃ e, e ∈ t.host.events ∧ e.code = 0x0203 ∧ e.c0 = w32 s.owner)) ∧
    (s.owner < 2 → s.get R.OWN_STATUS_STATE = 3 → s.own.oldLost = false → 1000 * s.get R.OWN_CFG_HB_TIMEOUT ≤ s.since s.own.hbAt → s.host.ops = [] →
      ∃ t, exec .heartbeatTimeout s = .next t ∧ t.owner = s.owner ∧ t.get R.OWN_STATUS_STATE = 3 ∧ t.own.oldLost = true ∧ Raised s t 0x0201 0 0x02) ∧
    (s.since s.own.hbAt < 1000 * s.get R.OWN_CFG_HB_TIMEOUT → exec .heartbeatTimeout s = .next s) ∧
    (2 ≤ s.owner → exec .heartbeatTimeout s = .next s)

/-- Chapters 07 and 08. An access that no unit may make changes nothing; `upset` is the damage that the access meets.
The model's readings behind its clauses: log 6, 20, 31, 56, 65. -/
def Obligations.SramAccesses : Prop :=
  ∀ (s : State) (a : Access),
    (s.mayAccess a = false → exec (.sramAccess a) s = .next s) ∧
    (s.mayAccess a = true → inSram a.addr = false → inMram a.addr = false → exec (.sramAccess a) s = .next (s.answer respDecode 0)) ∧
    (s.mayAccess a = true → inSram a.addr = true ∨ inMram a.addr = true → 8 < a.addr % 8 + a.size →
      exec (.sramAccess a) s = .next (s.answer respAlign 0)) ∧
    (s.mayAccess a = true → inSram a.addr = true → a.addr % 8 + a.size ≤ 8 → a.write = true → a.addr < 0x20100000 →
      a.gallery ≠ none ∨ a.who.isWarden = false →
      ∃ t, exec (.sramAccess a) s = .next t ∧ t.store.resp = respRegion ∧ t.flag R.STORE_STATUS_REGION_ERR = true ∧ Raised s t 0x0601 0 0x06 ∧
      t.mem = s.mem ∧ OnlyRegs s t [R.STORE_STATUS, R.LEDGER_SEQ]) ∧
    (s.mayAccess a = true → inSram a.addr = true → a.addr % 8 + a.size ≤ 8 → regionBad a = false → s.bankState (bankOf (a.addr - sramBase)) = 2 →
      ∃ t, exec (.sramAccess a) s = .next t ∧ t.store.resp = respBankOff ∧ t.flag R.STORE_STATUS_BANK_OFF_ERR = true ∧ Raised s t 0x0602 0 0x06 ∧
      t.mem = s.mem ∧ OnlyRegs s t [R.STORE_STATUS, R.LEDGER_SEQ]) ∧
    (s.mayAccess a = true → inSram a.addr = true → a.addr % 8 = 0 → a.size = 8 → a.write = true → a.other = none → regionBad a = false →
      s.bankState (bankOf (a.addr - sramBase)) ≠ 2 → ∃ t, exec (.sramAccess a) s = .next t ∧ t.store.resp = respOk ∧
      (∀ k, k < 8 → t.readByte (a.addr + k) = BitVec.ofNat 8 (a.data / 256 ^ k)) ∧
      (∀ x, x < a.addr ∨ a.addr + 8 ≤ x → t.readByte x = s.readByte x) ∧ t.wordValid (a.addr - sramBase) = true ∧
      t.flipsAt (a.addr - sramBase) = 0 ∧ (s.store.borrowed = none → Silent s t)) ∧
    (s.mayAccess a = true → inSram a.addr = true → a.addr % 8 + a.size ≤ 8 → a.write = false → a.other = none →
      s.bankState (bankOf (a.addr - sramBase)) ≠ 2 →
      let o := a.addr - sramBase
      let u := s.upset o a.ecc
      (u.classAt o a.ecc.addr ≤ 2 → ∃ t, exec (.sramAccess a) s = .next t ∧ t.store.resp = respOk ∧
        t.store.data = u.checkedNat a.addr a.size ∧ t.mem = u.mem ∧ (s.store.borrowed = none → Silent s t) ∧
        (1 ≤ u.classAt o a.ecc.addr → t.flag R.STORE_ECC_STATUS_CE = true)) ∧
      (u.flipsAt o = 0 → u.checkedNat a.addr a.size = s.readNat a.addr a.size) ∧
      (3 ≤ u.classAt o a.ecc.addr → ∃ t, exec (.sramAccess a) s = .next t ∧ t.store.resp = respDataErr ∧ t.flag R.STORE_ECC_STATUS_UE = true ∧
        t.mem = u.mem)) ∧
    (s.mayAccess a = true → inMram a.addr = true → a.addr % 8 + a.size ≤ 8 → a.write = false → s.mramFlipsAt a.addr = 0 → a.ecc.flips = 0 →
      exec (.sramAccess a) s = .next (s.answer respOk (s.readNat a.addr a.size))) ∧
    (s.mayAccess a = true → inMram a.addr = true → a.addr % 8 + a.size ≤ 8 → a.write = true → a.addr < mramLog → a.ecc.flips = 0 →
      a.gallery ≠ none ∨ a.who.isWarden = false → exec (.sramAccess a) s = .next (s.answer respRegion 0)) ∧
    (s.mayAccess a = true → a.portD = false → a.gallery ≠ some 0 → inSram a.addr = false →
      exec (.aadd a) s = .next (s.answer respDecode 0) ∧ exec (.aswp a) s = .next (s.answer respDecode 0)) ∧
    (s.mayAccess a = true → a.portD = false → a.gallery ≠ some 0 → inSram a.addr = true → a.size ≠ 4 → a.size ≠ 8 →
      exec (.aadd a) s = .next (s.answer respAlign 0) ∧ exec (.aswp a) s = .next (s.answer respAlign 0)) ∧
    (s.mayAccess a = true → a.portD = false → a.gallery ≠ some 0 → inSram a.addr = true → (a.size = 4 ∨ a.size = 8) → a.addr % a.size = 0 →
      regionBad { a with write := true } = true →
      exec (.aadd a) s = .next (s.regionRefused a) ∧ exec (.aswp a) s = .next (s.regionRefused a)) ∧
    (s.mayAccess a = false ∨ a.portD = true ∨ a.gallery = some 0 → exec (.aadd a) s = .next s ∧ exec (.aswp a) s = .next s)

/-- R136. That a word never written reads zero is an invariant of reachable states, so it stands as a premise. `u` is the state with the
damage that the atomic meets; of an undamaged word what a check gives is what is stored. -/
def Obligations.Atomics : Prop :=
  ∀ (s : State) (a : Access), s.mayAccess a = true → a.portD = false → a.gallery ≠ some 0 → inSram a.addr = true → (a.size = 4 ∨ a.size = 8) →
    (a.addr % a.size ≠ 0 → exec (.aadd a) s = .next (s.answer respAlign 0) ∧ exec (.aswp a) s = .next (s.answer respAlign 0)) ∧
    (a.addr % a.size = 0 → regionBad { a with write := true } = false → s.bankState (bankOf (a.addr - sramBase)) ≠ 2 → a.other = none →
      let o := a.addr - sramBase
      let u := s.upset o a.ecc
      (u.classAt o a.ecc.addr ≤ 2 →
        (∃ t, exec (.aadd a) s = .next t ∧ t.store.resp = respOk ∧ t.store.data = u.checkedNat a.addr a.size ∧
          t.readNat a.addr a.size = (u.checkedNat a.addr a.size + a.data) % 2 ^ (8 * a.size) ∧
          (a.size = 4 → t.readNat (a.addr / 8 * 8 + (4 - a.addr % 8)) 4 = u.checkedNat (a.addr / 8 * 8 + (4 - a.addr % 8)) 4) ∧
          (∀ x, x < a.addr / 8 * 8 ∨ a.addr / 8 * 8 + 8 ≤ x → t.readByte x = s.readByte x) ∧ (s.store.borrowed = none → Silent s t)) ∧
        (∃ t, exec (.aswp a) s = .next t ∧ t.store.resp = respOk ∧ t.store.data = u.checkedNat a.addr a.size ∧
          t.readNat a.addr a.size = a.data % 2 ^ (8 * a.size) ∧
          (a.size = 4 → t.readNat (a.addr / 8 * 8 + (4 - a.addr % 8)) 4 = u.checkedNat (a.addr / 8 * 8 + (4 - a.addr % 8)) 4) ∧
          (∀ x, x < a.addr / 8 * 8 ∨ a.addr / 8 * 8 + 8 ≤ x → t.readByte x = s.readByte x) ∧ (s.store.borrowed = none → Silent s t))) ∧
      (u.flipsAt o = 0 → u.checkedNat a.addr a.size = s.readNat a.addr a.size ∧
        u.checkedNat (a.addr / 8 * 8 + (4 - a.addr % 8)) 4 = s.readNat (a.addr / 8 * 8 + (4 - a.addr % 8)) 4) ∧
      (s.wordValid o = false → s.readNat (a.addr / 8 * 8) 8 = 0 → u.parityAt o = false →
        (∃ t, exec (.aadd a) s = .next t ∧ t.store.resp = respOk ∧ t.store.data = 0 ∧ t.wordValid o = true ∧
          t.readNat a.addr a.size = a.data % 2 ^ (8 * a.size)) ∧
        (∃ t, exec (.aswp a) s = .next t ∧ t.store.resp = respOk ∧ t.store.data = 0 ∧ t.wordValid o = true ∧
          t.readNat a.addr a.size = a.data % 2 ^ (8 * a.size))) ∧
      (3 ≤ u.classAt o a.ecc.addr →
        (∃ t, exec (.aadd a) s = .next t ∧ t.store.resp = respDataErr ∧ t.mem = u.mem) ∧
        (∃ t, exec (.aswp a) s = .next t ∧ t.store.resp = respDataErr ∧ t.mem = u.mem)))

/-- Chapters 01 and 07. A refused telemetry channel drops a record besides (R113).
The model's readings behind its clauses: log 8. -/
def Obligations.MarketStalls : Prop :=
  ∀ s : State,
    (∀ ch, mktPresent s.part ch = false → exec (.marketRequest [ch]) s = .next s ∧ exec (.marketRelease none ch 0) s = .next s) ∧
    (∀ ch, s.running = true → mktPresent s.part ch = true → s.ceilOf ch ≤ s.held ch → ∃ t, exec (.marketRequest [ch]) s = .next t ∧
      t.get (R.MKT_CH_STAT_REFUSED ch) = min (s.get (R.MKT_CH_STAT_REFUSED ch) + 1) 65535 ∧ t.held ch = s.held ch ∧
      OnlyRegs s t [R.MKT_CH_STAT ch] ∧ t = { s with regs := t.regs, mkt := t.mkt, host := t.host, free := t.free } ∧
      (ch < 8 ∨ 32 ≤ ch → t.host = s.host)) ∧
    (∀ ch n, s.running = true → mktPresent s.part ch = true → s.held ch < s.minOf ch → s.held ch < s.ceilOf ch → s.nextStall = some n → ∃ t,
      exec (.marketRequest [ch]) s = .next t ∧ t.held ch = s.held ch + 1 ∧ Sparse.get (always none) t.mkt.owner n = some ch ∧
      OnlyRegs s t [R.MKT_CH_STAT ch, R.MKT_STATUS] ∧ t = { s with regs := t.regs, mkt := t.mkt }) ∧
    (∀ ch n, s.running = true → mktPresent s.part ch = true → Sparse.get (always none) s.mkt.owner (n % 4096) = some ch → 1 ≤ s.held ch → ∃ t,
      exec (.marketRelease none ch n) s = .next t ∧ t.held ch = s.held ch - 1 ∧ t.mkt.freed = s.mkt.freed ++ [n % 4096] ∧
      OnlyRegs s t [R.MKT_CH_STAT ch, R.MKT_STATUS] ∧ t = { s with regs := t.regs, mkt := t.mkt }) ∧
    (∀ ch n, s.running = true → mktPresent s.part ch = true → Sparse.get (always none) s.mkt.owner (n % 4096) ≠ some ch → ∃ t,
      exec (.marketRelease (some .steward) ch n) s = .next t ∧ t.flag R.MKT_STATUS_RELEASE_ERR = true ∧ Raised s t 0x0502 0 0x05 ∧
      t.mkt = s.mkt ∧ OnlyRegs s t [R.MKT_STATUS, R.LEDGER_SEQ]) ∧
    (∀ ch n, exec (.marketRelease (some .hostA) ch n) s = .next s) ∧
    (∀ ch v, s.running = true → mktPresent s.part ch = true → s.owner = 0 →
      4096 < bitsOf v 28 16 ∨ 4096 < bitsOf v 12 0 ∨ bitsOf v 12 0 < bitsOf v 28 16 → ∃ t,
      exec (.marketQuotaWrite .hostA ch v) s = .next t ∧ t.flag R.MKT_STATUS_QUOTA_ERR = true ∧ Raised s t 0x0501 0 0x05 ∧
      OnlyRegs s t [R.MKT_STATUS, R.LEDGER_SEQ]) ∧
    (∀ ch v, s.running = true → mktPresent s.part ch = true → s.owner = 0 → bitsOf v 28 16 ≤ bitsOf v 12 0 → bitsOf v 12 0 ≤ 4096 →
      s.reserved - max (s.held ch) (s.minOf ch) + max (s.held ch) (bitsOf v 28 16) ≤ 4096 → ∃ t,
      exec (.marketQuotaWrite .hostA ch v) s = .next t ∧ t.minOf ch = bitsOf v 28 16 ∧ t.ceilOf ch = bitsOf v 12 0 ∧
      OnlyRegs s t [R.MKT_CH_QUOTA ch, R.MKT_STATUS] ∧ t = { s with regs := t.regs }) ∧
    (∀ ch v, s.owner = 2 → ch < 16 ∨ 24 ≤ ch → ch ≠ 1 → exec (.marketQuotaWrite .hostB ch v) s = .next s)

/-- Chapter 07. -/
def Obligations.BankPower : Prop :=
  ∀ s : State,
    (∀ (w : Writer) k v, w ≠ .service → s.mayWrite w 0x06 = false ∨ 2 ≤ k → exec (.bankPowerRequest w k v) s = .next s) ∧
    (∀ k v, s.running = true → s.mayWrite .service 0x06 = false →
      exec (.bankPowerRequest .service k v) s = .next (s.satInc R.OWN_SVC_STAT_REFUSED)) ∧
    (∀ k, s.running = true → k < 2 → ∃ t, exec (.bankPowerRequest .steward k 0) s = .next t ∧ (∀ j, j < 16 → t.get (R.STORE_BANK_PWR_REQ k j) = 0) ∧
      (∀ j, j < 16 → s.bankState (16 * k + j) ≠ 2 → s.bankState (16 * k + j) ≠ 3 → t.bankState (16 * k + j) = 0) ∧
      OnlyRegs s t [R.STORE_BANK_PWR k, R.STORE_BANK_STATE k] ∧ t = { s with regs := t.regs }) ∧
    (∀ k v j, s.running = true → k < 2 → j < 16 → bitsOf v (2 * j + 1) (2 * j) = 1 → ∃ t, exec (.bankPowerRequest .steward k v) s = .next t ∧
      t.get (R.STORE_BANK_PWR_REQ k j) = 1 ∧ t.bankState (16 * k + j) = s.bankState (16 * k + j)) ∧
    (∀ k v j, s.running = true → k < 2 → j < 16 → 2 ≤ bitsOf v (2 * j + 1) (2 * j) → ∃ t, exec (.bankPowerRequest .steward k v) s = .next t ∧
      t.get (R.STORE_BANK_PWR_REQ k j) = s.get (R.STORE_BANK_PWR_REQ k j) ∧ t.flag R.STORE_STATUS_PWR_REFUSED = true) ∧
    (∀ b, s.running = true → b < 32 → s.get (R.STORE_BANK_PWR_REQ (b / 16) (b % 16)) = 1 → s.bankState b = 0 →
      ∃ t, exec (.bankIdleRetention b) s = .next t ∧
      t.bankState b = 1 ∧ OnlyRegs s t [R.STORE_BANK_STATE (b / 16)] ∧ t = { s with regs := t.regs }) ∧
    (∀ b, s.running = false ∨ s.bankState b ≠ 0 → exec (.bankIdleRetention b) s = .next s)

/-- Chapter 08.
The model's readings behind its clauses: log 20, 58, 65. -/
def Obligations.ScrubRepairAndTests : Prop :=
  ∀ s : State,
    (s.running = true → s.mem.flips = [] → s.mem.parityBad = [] → ∃ t, exec (.scrubLine []) s = .next t ∧
      t.store.scrubLine = (s.store.scrubLine + 1) % 32768 ∧ t.store.tracker = s.store.tracker ∧
      t.mem = s.mem ∧ Silent s t ∧ OnlyRegs s t [R.STORE_BANK_STATE 0, R.STORE_BANK_STATE 1]) ∧
    (s.store.prio = [] → exec .scrubPriorityWriteback s = .next s) ∧
    (∀ o rest, s.store.prio = o :: rest → o < 2 ^ 23 → o % 8 = 0 → (s.classAt o 0 = 1 ∨ s.classAt o 0 = 2) → s.store.tracker = [] →
      ∃ t, exec .scrubPriorityWriteback s = .next t ∧ t.store.prio = rest ∧ t.flipsAt o = 0 ∧
      t.store.tracker = [{ word := o, count := 1, first := s.atime }] ∧
      (∀ x, x < sramBase + o ∨ sramBase + o + 8 ≤ x → t.readByte x = s.readByte x) ∧ Silent s t) ∧
    (∀ o rest t0, s.store.prio = o :: rest → o < 2 ^ 23 → o % 8 = 0 → (s.classAt o 0 = 1 ∨ s.classAt o 0 = 2) →
      s.store.tracker = [{ word := o, count := 2, first := t0 }] → s.since t0 < trackTime →
      ∃ t, exec .scrubPriorityWriteback s = .next t ∧ t.store.tracker = [] ∧ t.store.hard = s.store.hard ++ [(o, 0)]) ∧
    (∀ w, ∃ t, exec (.trackerEntryExpiry w) s = .next t ∧
      (∀ e, e ∈ t.store.tracker ↔ e ∈ s.store.tracker ∧ ¬(e.word = w - w % 8 ∧ trackTime ≤ s.since e.first)) ∧ t = { s with store := t.store }) ∧
    (∀ w c, s.running = true → (w, c) ∈ s.store.hard → w < 2 ^ 23 → w % 8 = 0 → s.get (R.STORE_SPARE_USED (bankOf w / 8) (bankOf w % 8)) < 8 →
      ∃ t, exec (.rowRepair w c) s = .next t ∧
      t.get (R.STORE_SPARE_USED (bankOf w / 8) (bankOf w % 8)) = s.get (R.STORE_SPARE_USED (bankOf w / 8) (bankOf w % 8)) + 1 ∧
      t.store.repairs = s.store.repairs ++ [(bankOf w, rowOf w, s.get (R.STORE_SPARE_USED (bankOf w / 8) (bankOf w % 8)))] ∧
      t.store.hard = s.store.hard.erase (w, c) ∧ Raised s t 0x0603 0 0x06 ∧ (s.mem.flips = [] → t.mem = s.mem)) ∧
    (∀ w c, s.running = true → (w, c) ∈ s.store.hard → w < 2 ^ 23 → w % 8 = 0 → 8 ≤ s.get (R.STORE_SPARE_USED (bankOf w / 8) (bankOf w % 8)) →
      ∃ t, exec (.rowRepair w c) s = .next t ∧ Raised s t 0x0604 1 0x06 ∧ t.store.repairs = s.store.repairs ∧ t.mem = s.mem) ∧
    (s.store.hard = [] → ∀ w c, exec (.rowRepair w c) s = .next s) ∧
    (s.running = true → s.store.borrowed = none → ∃ t, exec (.bgtWindowStep false none) s = .next t ∧
      t.store.borrowed = some (s.get R.STORE_BGT_STATUS_WINDOW) ∧ t.mem = s.mem ∧ Silent s t) ∧
    (∀ w, s.running = true → s.store.borrowed = some w → s.get R.STORE_BGT_STATUS_WINDOW < 131071 →
      ∃ t, exec (.bgtWindowStep true none) s = .next t ∧ t.get R.STORE_BGT_STATUS_WINDOW = s.get R.STORE_BGT_STATUS_WINDOW + 1 ∧
      t.store.aborts = 0 ∧ t.store.borrowed = none ∧ t.store.hard = s.store.hard ∧ t.mem = s.mem ∧ Silent s t) ∧
    (∀ w k, s.running = true → s.store.borrowed = some w → k < 8 → s.get R.STORE_BGT_STATUS_WINDOW < 131071 →
      ∃ t, exec (.bgtWindowStep true (some k)) s = .next t ∧ t.get R.STORE_BGT_STATUS_WINDOW = s.get R.STORE_BGT_STATUS_WINDOW + 1 ∧
      t.store.hard = s.store.hard ++ [(windowOffset w + 256 * k, 1)]) ∧
    (∀ a : Access, s.mayAccess a = true → a.portD = false → inSram a.addr = true → a.addr % 8 + a.size ≤ 8 → regionBad a = false →
      a.other = none → s.bankState (bankOf (a.addr - sramBase)) ≠ 2 → s.store.borrowed = some (windowOf (a.addr - sramBase)) → s.store.aborts < 7 →
      ∃ t, exec (.sramAccess a) s = .next t ∧ t.store.aborts = s.store.aborts + 1 ∧ t.store.borrowed = none ∧
      t.get R.STORE_BGT_STATUS_WINDOW = s.get R.STORE_BGT_STATUS_WINDOW) ∧
    (∀ ad b, inMram ad = false → exec (.mramDailyRead ad b) s = .next s) ∧
    (∀ ad f, s.running = true → inMram ad = true → (s.mramUpset ad f).mramClass ad = 2 → ∃ t, exec (.mramDailyRead ad f) s = .next t ∧
      t.get R.MRAM_STATUS_UNCORRECTED = min (s.get R.MRAM_STATUS_UNCORRECTED + 1) 255 ∧ Raised s t 0x0701 (if ad < mramLog then 2 else 0) 0x07 ∧
      t.mem.mram = s.mem.mram ∧ OnlyRegs s t [R.MRAM_STATUS, R.LEDGER_SEQ]) ∧
    (∀ ad f, s.running = true → inMram ad = true → mramLog ≤ ad → (s.mramUpset ad f).mramClass ad = 1 → ∃ t, exec (.mramDailyRead ad f) s = .next t ∧
      t.get R.MRAM_STATUS_CORRECTED = min (s.get R.MRAM_STATUS_CORRECTED + 1) 65535 ∧ t.mramFlipsAt ad = 0 ∧ OnlyRegs s t [R.MRAM_STATUS] ∧
      t = { s with regs := t.regs, mem := t.mem })

/-- Chapter 09; the arithmetic itself is that of Machine/Float.lean.
The model's readings behind its clauses: log 23, 29. -/
def Obligations.FloatInstructions : Prop :=
  ∀ (s : State) (n d a b x : Nat),
    (Issuing s n 0x01 d a b x → ∃ t, exec (.mov n d a b x) s = .next t ∧ FloatResult s t n d ((s.eng n).fr a)) ∧
    (Issuing s n 0x02 d a b x → ∃ t, exec (.fadd n d a b x) s = .next t ∧ FloatResult s t n d (fAdd ((s.eng n).fr a) ((s.eng n).fr b))) ∧
    (Issuing s n 0x03 d a b x → ∃ t, exec (.fsub n d a b x) s = .next t ∧ FloatResult s t n d (fSub ((s.eng n).fr a) ((s.eng n).fr b))) ∧
    (Issuing s n 0x04 d a b x → ∃ t, exec (.fmul n d a b x) s = .next t ∧ FloatResult s t n d (fMul ((s.eng n).fr a) ((s.eng n).fr b))) ∧
    (Issuing s n 0x05 d a b x → ∃ t, exec (.fmac n d a b x) s = .next t ∧
      FloatResult s t n d (fMac ((s.eng n).fr d) ((s.eng n).fr a) ((s.eng n).fr b))) ∧
    (Issuing s n 0x06 d a b x → ∃ t, exec (.fmin n d a b x) s = .next t ∧ FloatResult s t n d (fMin ((s.eng n).fr a) ((s.eng n).fr b))) ∧
    (Issuing s n 0x07 d a b x → ∃ t, exec (.fmax n d a b x) s = .next t ∧ FloatResult s t n d (fMax ((s.eng n).fr a) ((s.eng n).fr b))) ∧
    (Issuing s n 0x08 d a b x → ∃ t, exec (.fabs n d a b x) s = .next t ∧ FloatResult s t n d (fAbs ((s.eng n).fr a))) ∧
    (Issuing s n 0x09 d a b x → ∃ t, exec (.fneg n d a b x) s = .next t ∧ FloatResult s t n d (fNeg ((s.eng n).fr a))) ∧
    (Issuing s n 0x0E d a b x → ∃ t, exec (.sqrt n d a b x) s = .next t ∧ FloatResult s t n d (fSqrt ((s.eng n).fr a))) ∧
    (Issuing s n 0x0F d a b x → ∃ t, exec (.div n d a b x) s = .next t ∧ FloatResult s t n d (fDiv ((s.eng n).fr a) ((s.eng n).fr b))) ∧
    (Issuing s n 0x0C d a b x → a < 16 → ∃ t, exec (.itof n d a b x) s = .next t ∧
      FloatResult s t n d (fOfInt (signedOf 32 ((s.eng n).ir a).toNat))) ∧
    (Issuing s n 0x1A d a b x → ∃ t, exec (.ldg n d a b x) s = .next t ∧ FloatResult s t n d ((s.eng n).gain (x % 16))) ∧
    (Issuing s n 0x18 d a b x → natBit x 9 = false → natBit x 10 = false → ∃ t, exec (.ldp n d a b x) s = .next t ∧
      FloatResult s t n d ((s.eng n).word (x % 512))) ∧
    (16 ≤ a → Issuing s n 0x0C d a b x → ∃ t, exec (.itof n d a b x) s = .next t ∧ LoopFault s t n 1 0x0803) ∧
    (s.canIssue n = false → exec (.mov n d a b x) s = .next s ∧ exec (.fadd n d a b x) s = .next s ∧ exec (.fsub n d a b x) s = .next s ∧
      exec (.fmul n d a b x) s = .next s ∧ exec (.fmac n d a b x) s = .next s ∧ exec (.fmin n d a b x) s = .next s ∧
      exec (.fmax n d a b x) s = .next s ∧ exec (.fabs n d a b x) s = .next s ∧ exec (.fneg n d a b x) s = .next s ∧
      exec (.sqrt n d a b x) s = .next s ∧ exec (.div n d a b x) s = .next s ∧ exec (.itof n d a b x) s = .next s ∧
      exec (.ldg n d a b x) s = .next s ∧ exec (.ldp n d a b x) s = .next s)

/-- Values worked out from binary32 by hand.
The model's readings behind its clauses: log 23. -/
def Obligations.FloatArithmeticWords : Prop :=
  fAdd 0x3F800000#32 0x3F800000#32 = 0x40000000#32 ∧ fSub 0x40000000#32 0x40400000#32 = 0xBF800000#32 ∧
  fMul 0x40400000#32 0x3F000000#32 = 0x3FC00000#32 ∧ fMac 0x3F800000#32 0x40000000#32 0x40400000#32 = 0x40E00000#32 ∧
  fDiv 0x3F800000#32 0x40400000#32 = 0x3EAAAAAB#32 ∧ fSqrt 0x40000000#32 = 0x3FB504F3#32 ∧
  fAdd 0x00000001#32 0x3F800000#32 = 0x3F800000#32 ∧ fMin 0x3F800000#32 0xBF800000#32 = 0xBF800000#32 ∧
  fMax 0x3F800000#32 0xBF800000#32 = 0x3F800000#32 ∧ fIsNaN (fMin 0x7FC00000#32 0x3F800000#32) = true ∧
  fIsNaN (fMax 0x3F800000#32 0x7FC00000#32) = true ∧ fCmp 0x3F800000#32 0x40000000#32 = -1 ∧ fCmp 0x40000000#32 0x40000000#32 = 0 ∧
  fCmp 0x40000000#32 0x3F800000#32 = 1 ∧ fCmp 0x7FC00000#32 0x3F800000#32 = 2 ∧ fToInt 0x40200000#32 = 2 ∧ fToInt 0x40600000#32 = 4 ∧
  fToInt 0x7F800000#32 = 2147483647 ∧ fToInt 0xFF800000#32 = -2147483648 ∧ fToInt 0x7FC00000#32 = 0 ∧ fNeg 0x80000000#32 = 0x00000000#32 ∧
  fAbs 0x80000000#32 = 0x00000000#32 ∧ fOfInt (-3) = 0xC0400000#32

/-- Chapter 09.
The model's readings behind its clauses: log 29. -/
def Obligations.IntegerInstructions : Prop :=
  ∀ (s : State) (n d a b x : Nat),
    (d < 16 → a < 16 → b < 16 →
      (Issuing s n 0x10 d a b x → ∃ t, exec (.iadd n d a b x) s = .next t ∧ IntResult s t n d ((s.eng n).ir a + (s.eng n).ir b)) ∧
      (Issuing s n 0x11 d a b x → ∃ t, exec (.isub n d a b x) s = .next t ∧ IntResult s t n d ((s.eng n).ir a - (s.eng n).ir b)) ∧
      (Issuing s n 0x12 d a b x → ∃ t, exec (.iand n d a b x) s = .next t ∧ IntResult s t n d ((s.eng n).ir a &&& (s.eng n).ir b)) ∧
      (Issuing s n 0x13 d a b x → ∃ t, exec (.ior n d a b x) s = .next t ∧ IntResult s t n d ((s.eng n).ir a ||| (s.eng n).ir b)) ∧
      (Issuing s n 0x14 d a b x → ∃ t, exec (.ixor n d a b x) s = .next t ∧ IntResult s t n d ((s.eng n).ir a ^^^ (s.eng n).ir b)) ∧
      (Issuing s n 0x15 d a b x → ∃ t, exec (.ishl n d a b x) s = .next t ∧ IntResult s t n d ((s.eng n).ir a <<< (x % 32))) ∧
      (Issuing s n 0x16 d a b x → ∃ t, exec (.ishr n d a b x) s = .next t ∧ IntResult s t n d (((s.eng n).ir a).sshiftRight (x % 32))) ∧
      (Issuing s n 0x18 d a b x → natBit x 9 = false → natBit x 10 = true → ∃ t, exec (.ldp n d a b x) s = .next t ∧
        IntResult s t n d ((s.eng n).word (x % 512)))) ∧
    (d < 16 → Issuing s n 0x0A d a b x → fCmp ((s.eng n).fr a) ((s.eng n).fr b) ≠ 2 → ∃ t, exec (.fcmp n d a b x) s = .next t ∧
      IntResult s t n d (w32 (toBits 32 (fCmp ((s.eng n).fr a) ((s.eng n).fr b))))) ∧
    (d < 16 → d ≠ 0 → Issuing s n 0x0A d a b x → fCmp ((s.eng n).fr a) ((s.eng n).fr b) = 2 → ∃ t, exec (.fcmp n d a b x) s = .next t ∧
      (t.eng n).ir d = 2 ∧ t.flag (R.FE_FAULT_FPE n) = true ∧ Advanced s t n) ∧
    (d < 16 → Issuing s n 0x0B d a b x → fIsNaN ((s.eng n).fr a) = false → ∃ t, exec (.ftoi n d a b x) s = .next t ∧
      IntResult s t n d (w32 (toBits 32 (fToInt ((s.eng n).fr a))))) ∧
    (d < 16 → d ≠ 0 → Issuing s n 0x0B d a b x → fIsNaN ((s.eng n).fr a) = true → ∃ t, exec (.ftoi n d a b x) s = .next t ∧
      (t.eng n).ir d = 0 ∧ t.flag (R.FE_FAULT_FPE n) = true ∧ Advanced s t n) ∧
    (∀ w imm, n < 8 → d < 16 → s.canIssue n = true → s.loopAt n = some w → bitsOf w 31 26 = 0x17 → bitsOf w 25 21 = d → bitsOf w 15 0 = imm →
      ∃ t, exec (.ili n d imm) s = .next t ∧ IntResult s t n d (w32 (toBits 32 (signedOf 16 imm)))) ∧
    (16 ≤ a → Issuing s n 0x10 d a b x → ∃ t, exec (.iadd n d a b x) s = .next t ∧ LoopFault s t n 1 0x0803 ∧ (t.eng n).pc = (s.eng n).pc + 1) ∧
    (16 ≤ d → a < 16 → b < 16 → Issuing s n 0x11 d a b x → ∃ t, exec (.isub n d a b x) s = .next t ∧ LoopFault s t n 1 0x0803)

/-- Chapter 09.
The model's readings behind its clauses: log 23, 29. -/
def Obligations.VectorInstructions : Prop :=
  ∀ (s : State) (n d a b x : Nat),
    let e := s.eng n
    (Issuing s n 0x0D d a b x → d + 1 ≤ 31 → ∃ t, exec (.sincos n d a b x) s = .next t ∧ (t.eng n).fr d = fSin (e.fr a) ∧
      (t.eng n).fr (d + 1) = fCos (e.fr a) ∧ Advanced s t n ∧ OnlyRegs s t [R.FE_FAULT n] ∧ t = { s with fe := t.fe, regs := t.regs }) ∧
    (Issuing s n 0x0D d a b x → d = 31 → ∃ t, exec (.sincos n d a b x) s = .next t ∧ LoopFault s t n 1 0x0803) ∧
    (Issuing s n 0x20 d a b x → d + 1 ≤ 31 → ∃ t, exec (.clarke n d a b x) s = .next t ∧ (t.eng n).fr d = fFlush (e.fr a) ∧
      (t.eng n).fr (d + 1) = fDiv (fAdd (e.fr a) (fMul fTwo (e.fr b))) fRoot3 ∧ Advanced s t n ∧ OnlyRegs s t [R.FE_FAULT n] ∧
      t = { s with fe := t.fe, regs := t.regs }) ∧
    (Issuing s n 0x21 d a b x → d + 2 ≤ 31 → a + 1 ≤ 31 → ∃ t, exec (.iclarke n d a b x) s = .next t ∧ (t.eng n).fr d = fFlush (e.fr a) ∧
      (t.eng n).fr (d + 1) = fAdd (fNeg (fMul (e.fr a) fHalf)) (fMul fRoot3Half (e.fr (a + 1))) ∧
      (t.eng n).fr (d + 2) = fSub (fNeg (fMul (e.fr a) fHalf)) (fMul fRoot3Half (e.fr (a + 1))) ∧ Advanced s t n ∧
      OnlyRegs s t [R.FE_FAULT n] ∧ t = { s with fe := t.fe, regs := t.regs }) ∧
    (Issuing s n 0x22 d a b x → d + 1 ≤ 31 → a + 1 ≤ 31 → b + 1 ≤ 31 → ∃ t, exec (.park n d a b x) s = .next t ∧
      (t.eng n).fr d = fAdd (fMul (e.fr a) (e.fr (b + 1))) (fMul (e.fr (a + 1)) (e.fr b)) ∧
      (t.eng n).fr (d + 1) = fAdd (fMul (fNeg (e.fr a)) (e.fr b)) (fMul (e.fr (a + 1)) (e.fr (b + 1))) ∧ Advanced s t n ∧
      OnlyRegs s t [R.FE_FAULT n] ∧ t = { s with fe := t.fe, regs := t.regs }) ∧
    (Issuing s n 0x23 d a b x → d + 1 ≤ 31 → a + 1 ≤ 31 → b + 1 ≤ 31 → ∃ t, exec (.ipark n d a b x) s = .next t ∧
      (t.eng n).fr d = fSub (fMul (e.fr a) (e.fr (b + 1))) (fMul (e.fr (a + 1)) (e.fr b)) ∧
      (t.eng n).fr (d + 1) = fAdd (fMul (e.fr a) (e.fr b)) (fMul (e.fr (a + 1)) (e.fr (b + 1))) ∧ Advanced s t n ∧
      OnlyRegs s t [R.FE_FAULT n] ∧ t = { s with fe := t.fe, regs := t.regs }) ∧
    (Issuing s n 0x25 d a b x → natBit x 10 = false → x % 512 ≠ 511 → ∃ t, exec (.limit n d a b x) s = .next t ∧
      FloatResult s t n d (fClamp (fFlush (e.fr a)) (e.word (x % 512)) (e.word (x % 512 + 1)))) ∧
    (Issuing s n 0x25 d a b x → natBit x 10 = false → x % 512 = 511 → ∃ t, exec (.limit n d a b x) s = .next t ∧ LoopFault s t n 1 0x0803) ∧
    (Issuing s n 0x25 d a b x → natBit x 10 = true → d + 1 ≤ 31 → a + 1 ≤ 31 →
      fIsZero (e.fr a) = true → fIsZero (e.fr (a + 1)) = true → ∃ t, exec (.limit n d a b x) s = .next t ∧
      (t.eng n).fr d = fFlush (e.fr a) ∧ (t.eng n).fr (d + 1) = fFlush (e.fr (a + 1)) ∧ Advanced s t n) ∧
    (Issuing s n 0x25 d a b x → natBit x 10 = true → d + 1 ≤ 31 → a + 1 ≤ 31 → fIsZero (e.fr a) = false → ∃ t,
      exec (.limit n d a b x) s = .next t ∧ (t.eng n).fr d = fMul (e.fr a) (fMin fOne (fOverNorm (e.fr b) (e.fr a) (e.fr (a + 1)))) ∧
      (t.eng n).fr (d + 1) = fMul (e.fr (a + 1)) (fMin fOne (fOverNorm (e.fr b) (e.fr a) (e.fr (a + 1)))) ∧ Advanced s t n ∧
      OnlyRegs s t [R.FE_FAULT n] ∧ t = { s with fe := t.fe, regs := t.regs }) ∧
    (Issuing s n 0x25 d a b x → natBit x 10 = true → 31 < d + 1 ∨ 31 < a + 1 → ∃ t, exec (.limit n d a b x) s = .next t ∧ LoopFault s t n 1 0x0803) ∧
    (Issuing s n 0x20 d a b x → 31 < d + 1 → ∃ t, exec (.clarke n d a b x) s = .next t ∧ LoopFault s t n 1 0x0803) ∧
    (Issuing s n 0x21 d a b x → 31 < d + 2 ∨ 31 < a + 1 → ∃ t, exec (.iclarke n d a b x) s = .next t ∧ LoopFault s t n 1 0x0803) ∧
    (Issuing s n 0x22 d a b x → 31 < d + 1 ∨ 31 < a + 1 ∨ 31 < b + 1 → ∃ t, exec (.park n d a b x) s = .next t ∧ LoopFault s t n 1 0x0803) ∧
    (Issuing s n 0x23 d a b x → 31 < d + 1 ∨ 31 < a + 1 ∨ 31 < b + 1 → ∃ t, exec (.ipark n d a b x) s = .next t ∧ LoopFault s t n 1 0x0803)

/-- Chapter 09.
The model's readings behind its clauses: log 27, 29, 57. -/
def Obligations.ControlAndCommandInstructions : Prop :=
  ∀ (s : State) (n d a b x : Nat),
    (Issuing s n 0x00 d a b x → exec (.nop n d a b x) s = .next (s.setPc n ((s.eng n).pc + 1))) ∧
    (Issuing s n 0x30 d a b x → exec (.br n d a b x) s = .next (s.branch n (x % 1024)) ∧ ((s.branch n (x % 1024)).eng n).pc = x % 1024 ∧
      ((s.branch n (x % 1024)).eng n).sig = misr (s.eng n).sig (BitVec.ofNat 64 (6 * 2 ^ 56 + x % 1024))) ∧
    (Issuing s n 0x31 d a b x → d < 6 → a < 16 → exec (.brc n d a b x) s =
      .next (if brCond d (signedOf 32 ((s.eng n).ir a).toNat) then s.branch n (x % 1024) else s.setPc n ((s.eng n).pc + 1))) ∧
    (Issuing s n 0x31 d a b x → 6 ≤ d ∨ 16 ≤ a → ∃ t, exec (.brc n d a b x) s = .next t ∧ LoopFault s t n 1 0x0803) ∧
    (Issuing s n 0x19 d a b x → natBit x 9 = false → natBit x 10 = false → 384 ≤ x % 512 → x % 512 ≤ 447 → ∃ t,
      exec (.stp n d a b x) s = .next t ∧ (t.eng n).word (x % 512) = (s.eng n).fr a ∧ (∀ p, p ≠ x % 512 → (t.eng n).word p = (s.eng n).word p) ∧
      (t.eng n).sig = misr (misr (s.eng n).sig (BitVec.ofNat 64 (3 * 2 ^ 56 + x % 512))) (BitVec.ofNat 64 ((s.eng n).fr a).toNat) ∧
      (∀ k, (t.eng n).fr k = (s.eng n).fr k) ∧ Advanced s t n ∧ t = { s with fe := t.fe }) ∧
    (Issuing s n 0x19 d a b x → natBit x 9 = false → natBit x 10 = false → x % 512 < 384 → ∃ t, exec (.stp n d a b x) s = .next t ∧
      LoopFault s t n 2 0x0804 ∧ (t.eng n).act = (s.eng n).act) ∧
    (Issuing s n 0x29 d a b x → s.chanEngine (x % 64) = some n → x % 64 < nChan s.part → fFinite (fFlush ((s.eng n).fr a)) = true →
      (s.eng n).stage.length < 64 → ∃ t,
      exec (.bset n d a b x) s = .next t ∧ { hb := x % 64, kind := 2, val := fFlush ((s.eng n).fr a) } ∈ (t.eng n).stage ∧ Advanced s t n ∧
      t = { s with fe := t.fe }) ∧
    (Issuing s n 0x2B d a b x → natBit x 10 = false → natBit x 9 = true → s.chanEngine (x % 64) = some n → x % 64 < nChan s.part →
      fFinite (fFlush ((s.eng n).fr a)) = true → (s.eng n).stage.length < 64 → ∃ t, exec (.cst n d a b x) s = .next t ∧
      { hb := x % 64, kind := 1, val := fFlush ((s.eng n).fr a) } ∈ (t.eng n).stage ∧ Advanced s t n ∧ t = { s with fe := t.fe }) ∧
    (Issuing s n 0x2B d a b x → natBit x 10 = false → s.chanEngine (x % 64) ≠ some n → ∃ t, exec (.cst n d a b x) s = .next t ∧
      LoopFault s t n 8 0x080A) ∧
    (Issuing s n 0x29 d a b x → s.chanEngine (x % 64) = some n → x % 64 < nChan s.part → fFinite (fFlush ((s.eng n).fr a)) = false → ∃ t,
      exec (.bset n d a b x) s = .next t ∧ LoopFault s t n 3 0x0805) ∧
    (Issuing s n 0x2A d a b x → b < 16 → sldAbsent s.part (x % 256) = true → ∃ t, exec (.sld n d a b x) s = .next t ∧ LoopFault s t n 4 0x0809) ∧
    (Issuing s n 0x2A d a b x → b < 16 → sldAbsent s.part (x % 256) = false → x % 256 < 0x10 → (s.eng n).hasSample (x % 256) = false →
      exec (.sld n d a b x) s = .next (s.modEng n fun e => { e with waiting := some (d % 32, b, x % 256) })) ∧
    (Issuing s n 0x2A d a b x → b < 16 → b ≠ 0 → sldAbsent s.part (x % 256) = false → (s.eng n).hasSample (x % 256) = true → ∃ t,
      exec (.sld n d a b x) s = .next t ∧ (t.eng n).fr d = Sparse.get (always 0) (s.eng n).samples (x % 256) ∧
      (t.eng n).ir b = ((s.eng n).ir b ||| w32 (Sparse.get (always 0) (s.eng n).sampleFlags (x % 256))) ∧ Advanced s t n ∧
      OnlyRegs s t [R.FE_FAULT n] ∧ t = { s with fe := t.fe, regs := t.regs }) ∧
    (∀ src, n < 8 → (s.eng n).waiting = some (d, b, src) → b ≠ 0 → src < 0xB0 → (s.eng n).hasSample src = false → ∃ t,
      exec (.sldSampleTimeout n) s = .next t ∧ (t.eng n).fr d = Sparse.get (always 0) (s.eng n).samples src ∧
      bitOf ((t.eng n).ir b) 2 = true ∧ (t.eng n).waiting = none ∧ Advanced s t n) ∧
    ((s.eng n).waiting = none → exec (.sldSampleTimeout n) s = .next s) ∧
    (Issuing s n 0x2C d a b x → natBit x 10 = false → (s.eng n).evts.length < 4 → ∃ t, exec (.evt n d a b x) s = .next t ∧
      (t.eng n).evts = (s.eng n).evts ++ [{ x := x % 2048, fa := (s.eng n).fr a, fb := (s.eng n).fr b }] ∧ Advanced s t n ∧ t = { s with fe := t.fe }) ∧
    (Issuing s n 0x2C d a b x → natBit x 10 = false → 4 ≤ (s.eng n).evts.length → ∃ t, exec (.evt n d a b x) s = .next t ∧
      (t.eng n).evts = (s.eng n).evts ∧ t.get (R.FE_STATUS_EVT_DROP n) = min (s.get (R.FE_STATUS_EVT_DROP n) + 1) 15)

/-- Chapter 09.
The model's readings behind its clauses: log 27, 28, 29, 57. -/
def Obligations.ControllerInstructions : Prop :=
  ∀ (s : State) (n d a b x : Nat),
    let e := s.eng n
    (Issuing s n 0x24 d a b x → e.piOk (x / 256 % 8) = false → ∃ t, exec (.pistep n d a b x) s = .next t ∧ LoopFault s t n 9 0x080B) ∧
    (Issuing s n 0x24 d a b x → e.piOk (x / 256 % 8) = true → d < 32 → b < 32 → d ≠ b → ∃ t, exec (.pistep n d a b x) s = .next t ∧
      (t.eng n).fr b = (e.piStep (x / 256 % 8) (s.ts (s.timer n)) (e.fr a) (e.fr b)).2.1 ∧
      (t.eng n).fr d = (e.piStep (x / 256 % 8) (s.ts (s.timer n)) (e.fr a) (e.fr b)).2.2 ∧ Advanced s t n ∧ OnlyRegs s t [R.FE_FAULT n] ∧
      t = { s with fe := t.fe, regs := t.regs }) ∧
    (Issuing s n 0x26 d a b x → d < 16 → d ≠ 0 → e.regionOk = true → ∃ t, exec (.region n d a b x) s = .next t ∧
      (t.eng n).ir d = w32 ((t.eng n).region + bit (decide (0 < (t.eng n).blendLen)) * 16) ∧ Advanced s t n ∧
      t.get (R.FE_STATUS_REGION n) = (t.eng n).region % 16 ∧ OnlyRegs s t [R.FE_STATUS n] ∧ t = { s with fe := t.fe, regs := t.regs }) ∧
    (Issuing s n 0x27 d a b x → d + 2 ≤ 31 → fFinite (e.fr a) = true → natBit x 9 = true → ∃ t, exec (.prof n d a b x) s = .next t ∧
      (t.eng n).profState (bit (natBit x 10)) = (fxOf (fFlush (e.fr a)), 0, 0) ∧
      (t.eng n).fr d = fxTo (fxOf (fFlush (e.fr a))) ∧ (t.eng n).fr (d + 1) = 0 ∧ (t.eng n).fr (d + 2) = 0 ∧ Advanced s t n) ∧
    (Issuing s n 0x27 d a b x → d + 2 ≤ 31 → fFinite (e.fr a) = true → natBit x 9 = false →
      (∀ k < 3, limOk (e.word (328 + 4 * bit (natBit x 10) + k)) = true) → ∃ t, exec (.prof n d a b x) s = .next t ∧
      (t.eng n).profState (bit (natBit x 10)) = profNext (e.profState (bit (natBit x 10))) (fxOf (fFlush (e.fr a)))
        (fxOf (e.word (328 + 4 * bit (natBit x 10)))) (fxOf (e.word (329 + 4 * bit (natBit x 10))))
        (fxOf (e.word (330 + 4 * bit (natBit x 10)))) (s.tickLen n) ∧
      (t.eng n).fr d = fxTo ((t.eng n).profState (bit (natBit x 10))).1 ∧
      (t.eng n).fr (d + 1) = fxTo ((t.eng n).profState (bit (natBit x 10))).2.1 ∧
      (t.eng n).fr (d + 2) = fxTo ((t.eng n).profState (bit (natBit x 10))).2.2 ∧ Advanced s t n) ∧
    (Issuing s n 0x27 d a b x → d + 2 ≤ 31 → fFinite (e.fr a) = false → ∃ t, exec (.prof n d a b x) s = .next t ∧ LoopFault s t n 3 0x0805) ∧
    (Issuing s n 0x27 d a b x → d + 2 ≤ 31 → fFinite (e.fr a) = true → natBit x 9 = false → limOk (e.word (328 + 4 * bit (natBit x 10))) = false →
      ∃ t, exec (.prof n d a b x) s = .next t ∧ LoopFault s t n 9 0x080B) ∧
    (Issuing s n 0x28 d a b x → 1 ≤ b → b < 16 → x % 256 ≠ 0 → e.plausDone.contains (x / 256 % 8) = false →
      fLe (fAbs (e.fr a)) (e.fr d) = true → ∃ t, exec (.plaus n d a b x) s = .next t ∧ (t.eng n).ir b = 0 ∧
      Sparse.get (always 0) (t.eng n).plausCount (x / 256 % 8) = 0 ∧ t.bitAt (R.FE_PLAUS_STAT_ABOVE n) (x / 256 % 8) = false ∧ Advanced s t n) ∧
    (Issuing s n 0x28 d a b x → 1 ≤ b → b < 16 → x % 256 ≠ 0 → e.plausDone.contains (x / 256 % 8) = false →
      fLe (fAbs (e.fr a)) (e.fr d) = false → x % 256 ≤ Sparse.get (always 0) e.plausCount (x / 256 % 8) + 1 →
      Sparse.get (always false) e.plausTold (x / 256 % 8) = false → ∃ t, exec (.plaus n d a b x) s = .next t ∧ (t.eng n).ir b = 2 ∧
      (t.eng n).plausRaised = e.plausRaised ++ [x / 256 % 8] ∧ t.bitAt (R.FE_PLAUS_STAT_TRIPPED n) (x / 256 % 8) = true ∧ Advanced s t n) ∧
    (∀ w, n < 8 → s.canIssue n = true → s.loopAt n = some w → loopOpcode (bitsOf w 31 26) = false → ∃ t, exec (.illegalInstr n) s = .next t ∧
      LoopFault s t n 1 0x0803 ∧ (t.eng n).pc = e.pc + 1) ∧
    (n < 8 → s.canIssue n = true → s.loopAt n = none → 1024 ≤ e.pc → ∃ t, exec (.illegalInstr n) s = .next t ∧ LoopFault s t n 1 0x0803) ∧
    (∀ w, s.loopAt n = some w → loopOpcode (bitsOf w 31 26) = true → exec (.illegalInstr n) s = .next s)

/-- The loop store's encoding, both ways. COMMIT has no operands of its own; the engine reads its word at the end of the tick. -/
def Obligations.LoopInstructionsRoundTrip : Prop :=
  (∀ (i : Instr) (w : Word), i.wf = true → loopEncode i = some w → ∃ n, n < 8 ∧ loopDecode n w = some i) ∧
  (∀ (n : Nat) (w : Word) (i : Instr), loopDecode n w = some i → bitsOf w 31 26 ≠ 0x17 → loopEncode i = some w) ∧
  (∀ (n : Nat) (w : Word), loopOpcode (bitsOf w 31 26) = false → loopDecode n w = none)

/-- Chapters 09 and 19.
The model's readings behind its clauses: log 27, 30, 36, 57. -/
def Obligations.FieldEngineTick : Prop :=
  ∀ (s : State) (n : Nat), n < 8 →
    (s.hasStrobe n = false → exec (.feTick n) s = .next s) ∧
    (s.hasStrobe n = true → n ≠ 4 → s.secondary n = none → s.primary n = none → (s.eng n).stopping = false → (s.eng n).setpoints = [] →
      (s.eng n).prog = .user → s.flag (R.FE_CTRL_PSTAGE_HOLD n) = false → ∃ t, exec (.feTick n) s = .next t ∧
      t.rd (R.FE_TICKNO n) = s.rd (R.FE_TICKNO n) + 1 ∧ (t.eng n).sig = BitVec.ofNat 64 (n * 2 ^ 32 + (t.rd (R.FE_TICKNO n)).toNat) ∧
      (t.eng n).inTick = true ∧ (t.eng n).stage = [] ∧ (t.eng n).evts = [] ∧
      (t.eng n).stg = [] ∧ (t.eng n).act = (s.eng n).stg.foldl (fun m w => Sparse.set (always 0) m w.1 w.2) (s.eng n).act ∧
      (t.eng n).pc = s.get (R.FE_CTRL_ENTRY n) ∧ (∀ m, m ≠ n → t.eng m = s.eng m) ∧ OnlyRegs s t [R.FE_TICKNO n, R.FE_STATUS n] ∧
      t = { s with fe := t.fe, regs := t.regs }) ∧
    ((s.eng n).inTick = true → ∃ t, exec (.tickOverrun n) s = .next t ∧ LoopFault s t n 0 0x0802 ∧ (t.eng n).inTick = false ∧ (t.eng n).stage = []) ∧
    ((s.eng n).inTick = false → exec (.tickOverrun n) s = .next s) ∧
    (∀ cy g, s.canIssue n = false ∨ s.atCommit n = false → exec (.commit n cy g) s = .next s) ∧
    (∀ cy g, s.canIssue n = true → s.atCommit n = true → s.get (R.FE_TICK_PERIOD (s.timer n)) < cy + 64 → ∃ t, exec (.commit n cy g) s = .next t ∧
      LoopFault s t n 0 0x0802 ∧ (t.eng n).inTick = false) ∧
    (∀ cy g, s.canIssue n = true → s.atCommit n = true → cy + 64 ≤ s.get (R.FE_TICK_PERIOD (s.timer n)) → gateCause g = none →
      (s.eng n).dataErr = false → (s.eng n).faulted = false →
      exec (.commit n cy g) s = .next (((((s.loadCycle n cy).release n).tlmSample n).feCanary n g).abortTick n)) ∧
    (∀ cy g, s.canIssue n = true → s.atCommit n = true → cy + 64 ≤ s.get (R.FE_TICK_PERIOD (s.timer n)) → gateCause g = none →
      (s.eng n).dataErr = false → (s.eng n).faulted = true →
      exec (.commit n cy g) s = .next ((((s.loadCycle n cy).tlmSample n).feCanary n g).abortTick n)) ∧
    (∀ cy g, s.canIssue n = true → s.atCommit n = true → cy + 64 ≤ s.get (R.FE_TICK_PERIOD (s.timer n)) →
      gateCause g ≠ none ∨ (s.eng n).dataErr = true →
      ∃ t, exec (.commit n cy g) s = .next t ∧ (t.eng n).inTick = false ∧ (t.eng n).stage = [] ∧ (t.eng n).committed = (s.eng n).committed ∧
      t.edge = s.edge ∧ (∃ r, r ∈ t.led.arriving ∧ r.code = 0x1002))

/-- Chapter 09.
The model's readings behind its clauses: log 9, 30. -/
def Obligations.FieldEngineControl : Prop :=
  ∀ (s : State) (n : Nat), n < 8 →
    (s.running = true → fePresent s.part n = true → s.flag (R.FE_CTRL_RUN n) = false → (s.eng n).stopping = false → (s.eng n).prog = .user → s.bitAt R.PAIR_STATUS_FE_DIVERGED n = false → ∃ t,
      exec (.feRunStart .steward n) s = .next t ∧ t.flag (R.FE_CTRL_RUN n) = true ∧ t.flag (R.FE_STATUS_RUNNING n) = true ∧
      t.rd (R.FE_TICKNO n) = 0 ∧ t.bitAt R.PAIR_STATUS_FE_IN_SERVICE n = true ∧ (∀ k, (t.eng n).fr k = 0 ∧ (t.eng n).ir k = 0) ∧
      (t.eng n).act = (s.eng n).act ∧ (∀ m, m ≠ n → t.eng m = s.eng m) ∧ t = { s with fe := t.fe, regs := t.regs }) ∧
    (s.running = true → fePresent s.part n = true → s.flag (R.FE_CTRL_RUN n) = false → (s.eng n).stopping = true → s.engineUp n = true →
      exec (.feRunStart .steward n) s = .next (s.putB (R.FE_CTRL_RUN n) true)) ∧
    (∀ w, w ≠ .service → s.flag (R.FE_CTRL_RUN n) = true → exec (.feRunStart w n) s = .next s) ∧
    (s.running = true → fePresent s.part n = true → s.flag (R.FE_CTRL_RUN n) = true → s.engineUp n = true → (∀ u, u ∈ s.unitsOf n → s.enabled u = false) → ∃ t,
      exec (.feRunStop .steward n) s = .next t ∧ t.flag (R.FE_CTRL_RUN n) = false ∧ (t.eng n).stopping = true ∧ OnlyRegs s t [R.FE_CTRL n] ∧
      t = { s with fe := t.fe, regs := t.regs }) ∧
    (∀ w u, w ≠ .service → s.engineChans n ≠ [] → u ∈ s.unitsOf n → s.enabled u = true → exec (.feRunStop w n) s = .next s) ∧
    (∀ p, s.running = true → fePresent s.part n = true → s.primary n = none → ∃ t, exec (.feEntryWrite .steward n p) s = .next t ∧
      t.get (R.FE_CTRL_ENTRY n) = p % 1024 ∧ OnlyRegs s t [R.FE_CTRL n] ∧ t = { s with regs := t.regs }) ∧
    (∀ h, s.running = true → fePresent s.part n = true → ∃ t, exec (.fePstageHold .steward n h) s = .next t ∧ t.flag (R.FE_CTRL_PSTAGE_HOLD n) = h ∧
      OnlyRegs s t [R.FE_CTRL n] ∧ t = { s with regs := t.regs }) ∧
    (∀ p (vs : List Word), s.running = true → fePresent s.part n = true → s.owner = 0 → s.flag (R.FE_CTRL_RUN n) = false →
      p + vs.length ≤ 384 → s.md ≠ .commission → ∃ t, exec (.feParamWrite .hostA n p vs) s = .next t ∧
      (∀ k, k < vs.length → (t.eng n).nextWord (p + k) = vs.getD k 0) ∧ (t.eng n).act = (s.eng n).act ∧ t = { s with fe := t.fe }) ∧
    (∀ p v, s.running = true → fePresent s.part n = true → s.inService 0 = true → 448 ≤ p → p < 512 → s.md ≠ .commission → ∃ t,
      exec (.feParamWrite .wardenA n p [v]) s = .next t ∧ (t.eng n).nextWord p = v ∧ t = { s with fe := t.fe }) ∧
    (∀ p v, 384 ≤ p → p ≤ 447 → exec (.feParamWrite .hostA n p [v]) s = .next s ∧ exec (.feParamWrite .wardenA n p [v]) s = .next s) ∧
    (∀ p v, 448 ≤ p → exec (.feParamWrite .hostA n p [v]) s = .next s) ∧
    (∀ a v, s.running = true → fePresent s.part n = true → s.md = .service → s.flag (R.FE_CTRL_RUN n) = false → a < 1024 → ∃ t,
      exec (.feLoopStoreWrite .steward n a v) s = .next t ∧ Sparse.get (always 0) (t.eng n).loop a = v ∧ (t.eng n).prog = .user ∧
      (∀ k, k ≠ a → Sparse.get (always 0) (t.eng n).loop k = (s.eng n).loopWord k) ∧ t = { s with fe := t.fe }) ∧
    (∀ w a v, w ≠ .service → s.md = .drive → exec (.feLoopStoreWrite w n a v) s = .next s) ∧
    (∀ w v p a, w ≠ .service → fePresent s.part n = false → exec (.feRunStart w n) s = .next s ∧ exec (.feRunStop w n) s = .next s ∧
      exec (.feEntryWrite w n p) s = .next s ∧ exec (.fePstageHold w n true) s = .next s ∧ exec (.feParamWrite w n p [v]) s = .next s ∧ exec (.feLoopStoreWrite w n a v) s = .next s)

/-- Chapters 01 and 10.
The model's readings behind its clauses: log 46. -/
def Obligations.BanisterActsAtThePads : Prop :=
  ∀ s : State,
    (∀ p u l, 2 ≤ p ∨ 10 ≤ u → exec (.banisterRemove p u l) s = .next s) ∧
    (∀ p u l, s.running = false → exec (.banisterRemove p u l) s = .next s) ∧
    (∀ p u, s.running = true → p < 2 → u < 10 → s.counts p = true → ∃ t, exec (.banisterRemove p u 0) s = .next t ∧ (t.lines p u).enable = false ∧
      t.enabled u = false ∧ (∀ n, n ∈ s.unitChans u → (t.chan n).high = false) ∧ (p, u) ∉ t.edge.grants ∧ (p, u) ∉ t.edge.synced ∧
      (∀ p' u', p' < 2 → u' < 10 → u' ≠ u → t.lines p' u' = s.lines p' u') ∧
      (s.forceOn u = none → t.lines (1 - p) u = s.lines (1 - p) u) ∧ t.mem = s.mem ∧ t.fe = s.fe) ∧
    (∀ p u, s.running = true → p < 2 → u < 8 → s.inService p = true → ∃ t, exec (.banisterRemove p u 2) s = .next t ∧ (t.lines p u).forceAsc = true ∧
      t.forceOn u = some true ∧ (∀ n, n ∈ s.unitChans u → (t.chan n).high = false)) ∧
    (∀ p u, s.running = true → p < 2 → u < 10 → s.inService p = true → ∃ t, exec (.banisterRemove p u 1) s = .next t ∧ (t.lines p u).forceSto = true ∧
      (t.forceOn u).isSome = true ∧ (∀ n, n ∈ s.unitChans u → (t.chan n).high = false)) ∧
    (∀ p u, (p, u) ∉ s.edge.synced → exec (.banisterGrant p u) s = .next s) ∧
    (∀ p u, p < 2 → u < 10 → (p, u) ∈ s.edge.synced → s.forceOn u = none → ∃ t, exec (.banisterGrant p u) s = .next t ∧ (t.lines p u).enable = true ∧
      t.edge.synced = s.edge.synced.erase (p, u) ∧ t.mem = s.mem ∧ t.fe = s.fe) ∧
    (∀ c, nChan s.part ≤ c → exec (.ascInterlockExpiry c) s = .next s) ∧
    (∀ c u, c < nChan s.part → (s.chan c).high = false → (s.chan c).faultLow = false → s.banUnit c = some u → s.chanFunc c = 1 →
      s.padForce u = some true → s.padDriven c = true → s.blockLow c = false → ∃ t, exec (.ascInterlockExpiry c) s = .next t ∧
      (t.chan c).high = false ∧ (t.chan c).low = true ∧ t = { s with edge := t.edge })

/-- Chapters 01, 03 and 10.
The model's readings behind its clauses: log 31, 33. -/
def Obligations.WhatDecidesAPad : Prop :=
  ∀ s : State,
    (∀ u, u < 8 → s.ascForced u = true → s.forceOn u = some true) ∧
    (∀ u, u < 8 → Sparse.get (always none) s.edge.hwForce u = some true → s.forceOn u = some true) ∧
    (∀ u, u < 8 → s.flag R.SAFE_DCL_STATUS_OV3_LATCH = true → s.forceOn u = some true) ∧
    (s.flag R.SAFE_DCL_STATUS_OV3_LATCH = true → s.forceOn unitCharger = some false) ∧
    (∀ u, s.inService 0 = false → s.inService 1 = false → s.enabled u = false) ∧
    (∀ u p, p < 2 → s.counts p = true → (s.lines p u).enable = false → s.enabled u = false) ∧
    (∀ n, (((s.refreshChan n).chan n).high && ((s.refreshChan n).chan n).low) = false) ∧
    (∀ n, s.padDriven n = false → ((s.refreshChan n).chan n).high = false ∧ ((s.refreshChan n).chan n).low = false) ∧
    (∀ n u, s.banUnit n = some u → (s.padForce u).isSome = true → ((s.refreshChan n).chan n).high = false) ∧
    (∀ n u, s.banUnit n = some u → s.enabled u = false → ((s.refreshChan n).chan n).high = false) ∧
    (∀ n u, s.banUnit n = some u → (s.chan n).faultLow = true →
      ((s.refreshChan n).chan n).high = false ∧ ((s.refreshChan n).chan n).low = false) ∧
    (∀ n m, m ≠ n → (s.refreshChan n).chan m = s.chan m)

/-- Chapters 10, 12 and 18.
The model's readings behind its clauses: log 31, 33, 59. -/
def Obligations.TimebasesConversionsGateLinks : Prop :=
  ∀ s : State,
    (∀ n v, n < 8 → s.running = true → fePresent s.part n = true → bitOf v 31 = false → ∃ t, exec (.timebaseStart .steward n v) s = .next t ∧
      t.flag (R.EDGE_TB_CFG_EN n) = false ∧ OnlyRegs s t [R.EDGE_TB_CFG n] ∧ t = { s with regs := t.regs }) ∧
    (∀ n v, n < 8 → s.running = true → n ≠ 4 → fePresent s.part n = true → s.flag (R.EDGE_TB_CFG_EN n) = false → bitOf v 31 = true →
      bitsOf v (R.EDGE_TB_CFG_KIND n).hi (R.EDGE_TB_CFG_KIND n).lo = 1 → ∃ t, exec (.timebaseStart .steward n v) s = .next t ∧
      t.flag (R.EDGE_TB_CFG_EN n) = true ∧ t.get (R.EDGE_TB_CFG_KIND n) = 1 ∧ OnlyRegs s t [R.EDGE_TB_CFG n] ∧ t = { s with regs := t.regs }) ∧
    (∀ n v, n < 8 → s.running = true → fePresent s.part n = true → s.primary n = none → s.flag (R.EDGE_TB_CFG_EN n) = false → bitOf v 31 = true →
      bitsOf v (R.EDGE_TB_CFG_KIND n).hi (R.EDGE_TB_CFG_KIND n).lo = 0 →
      8 * s.get (R.FE_TICK_PERIOD n) ≠ 5 * s.get (R.EDGE_TB_HALF_A_HALF n) * max 1 (bitsOf v (R.EDGE_TB_CFG_M n).hi (R.EDGE_TB_CFG_M n).lo) →
      ∃ t, exec (.timebaseStart .steward n v) s = .next t ∧ t.flag (R.EDGE_TB_CFG_EN n) = false ∧ t.bitAt R.EDGE_STATUS_TB_MISMATCH n = true ∧
      Raised s t 0x0A01 0 0x0A ∧ t.edge = s.edge ∧ t.fe = s.fe) ∧
    (∀ n p q b, s.flag (R.EDGE_TB_CFG_EN n) = false → exec (.updatePoint n ⟨p, b⟩ q) s = .next s) ∧
    (∀ n p q b, (s.primary n).isSome = true → exec (.updatePoint n ⟨p, b⟩ q) s = .next s) ∧
    (∀ n q b, n % 2 = 1 → fePresent s.part n = true → s.flag (R.EDGE_TB_CFG_EN n) = true → s.primary n = none → s.flag (R.EDGE_TB_CFG_UPD_PEAK n) = true →
      exec (.updatePoint n ⟨true, b⟩ q) s =
        .next (s.updateEngine n n { peak := true, posB := b, len := s.updateGap n } (q || s.allBand n))) ∧
    (∀ k t r i e, nFast s.part ≤ k ∨ s.running = false → exec (.fastConversion k t r ⟨i, e⟩) s = .next s) ∧
    (∀ k a r e, k < nFast s.part → s.running = true → s.acq.inserts = [] → s.banUnit (s.get (R.EDGE_FC_CFG_CH k)) = none → ∃ t,
      exec (.fastConversion k a r ⟨0, e⟩) s = .next t ∧ (Sparse.get (always Conv.init) t.edge.convs k).t = a ∧
      (Sparse.get (always Conv.init) t.edge.convs k).count = s.fastCount k r ∧ t.mem = s.mem) ∧
    (∀ c, (s.leg c).pend = none → ∃ t, exec (.bandDwellEnd c) s = .next t ∧ (t.leg c).dwelling = false ∧ (t.leg c).high = (s.leg c).high ∧
      (∀ m, m ≠ c → t.leg m = s.leg m) ∧ t = { s with edge := t.edge }) ∧
    (∀ c x, (s.leg c).pend = some x → ∃ t, exec (.bandDwellEnd c) s = .next t ∧ (t.leg c).pend = none ∧ (t.leg c).dwelling = false) ∧
    (∀ n f, s.flag (R.GATE_CH_CFG_EN n) = false → exec (.gateLinkPoll n f f f) s = .next s) ∧
    (∀ n fr e, n < nChan s.part → s.flag (R.GATE_CH_CFG_EN n) = true → s.bankLive (hbBank n) = true → bitsOf fr 7 0 = gateCrc (bitsOf fr 31 8) →
      bitsOf fr 31 30 = 0 → bitsOf fr 29 24 = 4 → bitsOf fr 23 8 = e →
      natDist (((s.chan n).edges + 65536 - (s.chan n).edgesAt) % 65536) ((e + 65536 - (s.link n).drvEdges) % 65536) ≤ 2 → ∃ t,
      exec (.gateLinkPoll n [] [fr] []) s = .next t ∧ t.flag (R.GATE_CH_STAT_NO_RESP n) = false ∧ (t.link n).fails = 0 ∧
      (t.link n).diffs = 0 ∧ (t.link n).drvEdges = e ∧ (t.link n).sent = pollFrames ∧ OnlyRegs s t [R.GATE_CH_STAT n] ∧ t = { s with regs := t.regs, edge := t.edge }) ∧
    (∀ n fr, n < nChan s.part → s.flag (R.GATE_CH_CFG_EN n) = true → s.bankLive (hbBank n) = true → bitsOf fr 7 0 ≠ gateCrc (bitsOf fr 31 8) →
      (s.link n).fails < 2 → ∃ t, exec (.gateLinkPoll n [] [fr] []) s = .next t ∧
      t.get (R.GATE_CH_STAT_CRC_ERR n) = min (s.get (R.GATE_CH_STAT_CRC_ERR n) + 1) 65535 ∧ (t.link n).fails = (s.link n).fails + 1 ∧
      OnlyRegs s t [R.GATE_CH_STAT n] ∧ t = { s with regs := t.regs, edge := t.edge }) ∧
    (∀ n, nChan s.part ≤ n ∨ s.running = false → exec (.driverFault n) s = .next s) ∧
    (∀ n, n < nChan s.part → s.running = true → s.bankLive (hbBank n) = true → ∃ t, exec (.driverFault n) s = .next t ∧ t.flag (R.GATE_CH_STAT_FAULT n) = true ∧
      t.flag (R.GATE_CH_STAT_FAULT_LATCH n) = true ∧ (∃ r, r ∈ t.led.arriving ∧ r.code = 0x0B01 ∧ r.unit = 0x0B) ∧ t.mem = s.mem ∧
      (s.flag (R.GATE_CH_CFG_FAULT_OFF n) = true → (t.chan n).high = false ∧ (t.chan n).low = false))

/-- Chapters 11 and 12: what the traction commands do when they run, their operation in flight and free to start.
The model's readings behind its clauses: log 14, 16, 26, 36, 37. -/
def Obligations.TractionCommands : Prop :=
  ∀ (s : State) (c : Cmd),
    (s.targets c tractionTargets = false →
      (s.startable c 0x1000 = true → exec (.trqSet c) s = .next (s.finish c .badParam)) ∧
      (s.startable c 0x1001 = true → exec (.spdSet c) s = .next (s.finish c .badParam)) ∧
      (s.startable c 0x1002 = true → exec (.ctrlSel c) s = .next (s.finish c .badParam)) ∧
      (s.startable c 0x1003 = true → exec (.trqStatus c) s = .next (s.finish c .badParam)) ∧
      (s.startable c 0x1100 = true → exec (.trcParamWrite c) s = .next (s.finish c .badParam)) ∧
      (s.startable c 0x1101 = true → exec (.trcParamRead c) s = .next (s.finish c .badParam)) ∧
      (s.startable c 0x1004 = true → exec (.lawSel c) s = .next (s.finish c .badParam))) ∧
    ((s.primary (c.target - 0x80)).isSome = true →
      (s.startable c 0x1000 = true → exec (.trqSet c) s = .next (s.finish c .badParam)) ∧
      (s.startable c 0x1001 = true → exec (.spdSet c) s = .next (s.finish c .badParam)) ∧
      (s.startable c 0x1002 = true → exec (.ctrlSel c) s = .next (s.finish c .badParam)) ∧
      (s.startable c 0x1100 = true → exec (.trcParamWrite c) s = .next (s.finish c .badParam)) ∧
      (s.startable c 0x1004 = true → exec (.lawSel c) s = .next (s.finish c .badParam))) ∧
    (s.targets c tractionTargets = true → s.primary (c.target - 0x80) = none →
      (s.startable c 0x1000 = true → 4 ≤ c.payload.length → ∃ t, exec (.trqSet c) s = .next t ∧
        Handed s t c (s.addressed (c.target - 0x80)) 0x1000 0 (!fFinite (argW c 16)) [(337, argW c 16)]) ∧
      (s.startable c 0x1001 = true → 8 ≤ c.payload.length → ∃ t, exec (.spdSet c) s = .next t ∧
        Handed s t c (s.addressed (c.target - 0x80)) 0x1001 0
          (!(fFinite (argW c 16) && fFinite (argW c 20) && !fLt (argW c 20) (fZero false))) [(338, argW c 16), (339, argW c 20)]) ∧
      (s.startable c 0x1002 = true → 1 ≤ c.payload.length → ∃ t, exec (.ctrlSel c) s = .next t ∧
        Handed s t c (s.addressed (c.target - 0x80)) 0x1002 0 (decide (1 < arg c 16 1)) [(336, w32 (arg c 16 1))])) ∧
    (s.targets c tractionTargets = true → s.modeOk 0x1003 true = true → s.startable c 0x1003 = true →
      exec (.trqStatus c) s = .next (s.finish c .ok (pair64 ((s.eng (c.target - 0x80)).seen 384).toNat ((s.eng (c.target - 0x80)).seen 385).toNat))) ∧
    (s.targets c tractionTargets = true → s.primary (c.target - 0x80) = none → s.modeOk 0x1100 false = true → s.startable c 0x1100 = true →
      1 ≤ arg c 18 1 → arg c 18 1 ≤ 8 →
      arg c 16 2 + arg c 18 1 ≤ 384 → 4 + 4 * arg c 18 1 ≤ c.payload.length → ∃ t, exec (.trcParamWrite c) s = .next t ∧
      (∀ k, k < arg c 18 1 → (t.eng (c.target - 0x80)).nextWord (arg c 16 2 + k) = argW c (20 + 4 * k)) ∧
      (∀ p, (∀ k, k < arg c 18 1 → p ≠ arg c 16 2 + k) → (t.eng (c.target - 0x80)).nextWord p = (s.eng (c.target - 0x80)).nextWord p) ∧
      (t.eng (c.target - 0x80)).act = (s.eng (c.target - 0x80)).act ∧ Answered s t c .ok ∧ t.mem = s.mem) ∧
    (s.targets c tractionTargets = true → s.modeOk 0x1101 true = true → s.startable c 0x1101 = true → 3 ≤ c.payload.length → 1 ≤ arg c 18 1 →
      arg c 18 1 ≤ 8 → arg c 16 2 + arg c 18 1 ≤ 384 → 4 * arg c 18 1 ≤ c.len →
      exec (.trcParamRead c) s = .next (s.finishData c .ok (bytesOfWords ((List.range (arg c 18 1)).map fun k =>
        (s.eng (c.target - 0x80)).word (arg c 16 2 + k))))) ∧
    (∀ law, law < 2 → s.targets c tractionTargets = true → s.primary (c.target - 0x80) = none → s.modeOk 0x1004 false = true →
      s.startable c 0x1004 = true → 1 ≤ c.payload.length → arg c 16 1 = law → s.lawNow (s.addressed (c.target - 0x80)) = 1 - law →
      s.flag (R.EDGE_BAND_CFG_LIVE_SW (c.target - 0x80)) = true →
      s.get (R.EDGE_TB_CFG_KIND (c.target - 0x80)) ≠ 1 → s.lawBusy (s.addressed (c.target - 0x80)) = false → ∃ t, exec (.lawSel c) s = .next t ∧
      t.get (R.FE_CTRL_ENTRY (c.target - 0x80)) = ((s.eng (c.target - 0x80)).word (365 - (1 - law))).toNat % 1024 ∧
      (t.tr (s.addressed (c.target - 0x80))).lawOp = some (c.master, c.tag, 1 - law, law) ∧ t.host = (s.begin c).host ∧
      OnlyRegs s t [R.FE_CTRL (c.target - 0x80)] ∧ t = { s.begin c with regs := t.regs, trac := t.trac })

/-- Chapters 11, 12 and 13.
The model's readings behind its clauses: log 19, 35, 37. -/
def Obligations.TractionRecordsAndRotorPosition : Prop :=
  (∀ (s : State) (n : Nat),
      (s.tracUp n = false → exec (.overspeed n) s = .next s ∧ exec (.vdcAbsent n) s = .next s ∧ exec (.fswLimit n) s = .next s ∧
        exec (.setpointWdExpiry n) s = .next s ∧ exec (.bandSat n) s = .next s) ∧
      (s.tracUp n = true → 10 ≤ (s.tr n).overRun → (s.tr n).overTold = false → ∃ t, exec (.overspeed n) s = .next t ∧ Raised s t 0x0842 1 (0x80 + n) ∧
        (t.tr n).overTold = true ∧ OnlyRegs s t [R.LEDGER_SEQ] ∧ t = { s with regs := t.regs, led := t.led, free := t.free, trac := t.trac }) ∧
      ((s.tr n).overRun < 10 ∨ (s.tr n).overTold = true → exec (.overspeed n) s = .next s) ∧
      ((s.tr n).vdcBad < 2 ∨ (s.tr n).vdcTold = true → exec (.vdcAbsent n) s = .next s) ∧
      (s.tracUp n = true → 2 ≤ (s.tr n).vdcBad → (s.tr n).vdcTold = false → ∃ t, exec (.vdcAbsent n) s = .next t ∧ Raised s t 0x0841 2 (0x80 + n) ∧
        (t.tr n).vdcTold = true ∧ (t.tr n).vdcBad = (s.tr n).vdcBad ∧
        (∀ m, m ≠ n → t.tr m = s.tr m) ∧ OnlyRegs s t [R.LEDGER_SEQ] ∧ t = { s with regs := t.regs, led := t.led, free := t.free, trac := t.trac }) ∧
      (∀ a, s.tracUp n = true → (s.tr n).law = 1 → (s.tr n).hlimAt = some a → 100000 ≤ s.since a → (s.tr n).hlimTold = false → ∃ t,
        exec (.fswLimit n) s = .next t ∧ Raised s t 0x0845 0 (0x80 + n) ∧ (t.tr n).hlimTold = true ∧ OnlyRegs s t [R.LEDGER_SEQ] ∧
        t = { s with regs := t.regs, led := t.led, free := t.free, trac := t.trac }) ∧
      ((s.tr n).hlimAt = none ∨ (s.tr n).hlimTold = true → exec (.fswLimit n) s = .next s) ∧
      (s.tracUp n = true → (s.md = .drive ∨ s.md = .degraded ∨ s.md = .service) → (s.tr n).swd = false →
        fLe (fMul ((s.eng n).word 341) (fOfNat 1000)) (fOfNat (s.since (s.tr n).seqAt)) = true → ∃ t,
        exec (.setpointWdExpiry n) s = .next t ∧ Raised s t 0x0840 0 (0x80 + n) ∧ Told s t 0x1001 (0x80 + n) (some (s.tr n).tRef) ∧
        (t.tr n).swd = true ∧ (t.tr n).ramps.any (fun r => r.kind = 0) = true ∧ OnlyRegs s t [R.LEDGER_SEQ] ∧
        t = { s with regs := t.regs, led := t.led, free := t.free, trac := t.trac, host := t.host }) ∧
      ((s.tr n).swd = true ∨ fLe (fMul ((s.eng n).word 341) (fOfNat 1000)) (fOfNat (s.since (s.tr n).seqAt)) = false →
        exec (.setpointWdExpiry n) s = .next s) ∧
      (s.tracUp n = true → (s.tr n).law = 1 → ((s.eng n).word 367).toNat ≤ (s.tr n).bsatRun → 0 < (s.tr n).bsatRun → (s.tr n).bsatTold = false → ∃ t,
        exec (.bandSat n) s = .next t ∧ (t.tr n).bsatTold = true ∧
        Told s t 0x1004 (0x80 + n) (some (w32 (s.tr n).bsat)) (some (s.tr n).h) ∧ t = { s with trac := t.trac, host := t.host, free := t.free }) ∧
      ((s.tr n).bsatTold = true ∨ (s.tr n).bsatRun = 0 → exec (.bandSat n) s = .next s)) ∧
  (∀ (s : State) (n : Nat),
      (s.tracUp n = true → (s.tr n).est.st = estAcquire → 40 ≤ (s.tr n).est.lockRun → (s.tr n).est.polKnown = true → ∃ t, exec (.estimatorLocked n) s = .next t ∧
        (t.tr n).est.st = estTrack ∧ (t.tr n).est.theta = (s.tr n).est.theta ∧ (∃ e, t.host.events = s.host.events ++ [e] ∧ e.code = 0x1007 ∧
        e.source = 0x80 + n) ∧ t = { s with trac := t.trac, host := t.host, free := t.free }) ∧
      (s.tracUp n = true → (s.tr n).est.st = estAcquire → 40 ≤ (s.tr n).est.lockRun → (s.tr n).est.polKnown = false → ∃ t, exec (.estimatorLocked n) s = .next t ∧
        (t.tr n).est.st = estPolarity ∧ (∀ m, m ≠ n → t.tr m = s.tr m) ∧ t = { s with trac := t.trac }) ∧
      ((s.tr n).est.st ≠ estAcquire ∨ (s.tr n).est.lockRun < 40 → exec (.estimatorLocked n) s = .next s) ∧
      (s.tracUp n = true → (s.tr n).est.st = estAcquire → (s.tr n).est.lockRun < 40 → 15000 ≤ s.since (s.tr n).est.acqAt → ∃ t,
        exec (.acquireFail n) s = .next t ∧
        (t.tr n).est.st = estFailed ∧ Raised s t 0x0849 (s.missSeverity n) (0x80 + n) ∧
        t = { s with regs := t.regs, trac := t.trac, led := t.led, free := t.free }) ∧
      (s.tracUp n = true → (s.tr n).est.st = estRecapFw → (s.tr n).est.fwTicks = 0 → 1000 ≤ s.since (s.tr n).est.lossAt → ∃ t,
        exec (.recapDecayTimeout n) s = .next t ∧ (t.tr n).est.st = estRecapAsc ∧
        (t.tr n).est.method = 1 ∧ Raised s t 0x0846 0 (0x80 + n) ∧ t = { s with regs := t.regs, trac := t.trac, led := t.led, free := t.free }) ∧
      (s.tracUp n = true → (s.tr n).est.st = estRecapFw → 0 < (s.tr n).est.fwTicks →
        (s.tr n).est.freewheelTicks (s.ts (s.timer n)) ≤ (s.tr n).est.fwTicks → ∃ t, exec (.recapFwEnd n) s = .next t ∧ (t.tr n).est.st = estRelock ∧
        (t.tr n).est.theta = (s.tr n).est.theta ∧ (t.tr n).est.omega = (s.tr n).est.omega ∧ (t.tr n).i0 = fZero false ∧
        Raised s t 0x0846 0 (0x80 + n) ∧ t = { s with regs := t.regs, trac := t.trac, led := t.led, free := t.free }) ∧
      ((s.tr n).est.st ≠ estRecapFw → exec (.recapDecayTimeout n) s = .next s ∧ exec (.recapFwEnd n) s = .next s) ∧
      (s.tracUp n = true → (s.tr n).est.st = estRecapAsc → (s.tr n).est.ascOver (s.eng n) (s.ts (s.timer n)) = true → ∃ t, exec (.recapAscEnd n) s = .next t ∧ (t.tr n).est.st = estRelock ∧
        (∀ m, m ≠ n → t.tr m = s.tr m) ∧ t = { s with trac := t.trac }) ∧
      (s.tracUp n = true → ((s.tr n).est.st = estRecapFw ∨ (s.tr n).est.st = estRecapAsc ∨ (s.tr n).est.st = estRelock) →
        5000 ≤ s.since (s.tr n).est.lossAt → ∃ t,
        exec (.recaptureFail n) s = .next t ∧ (t.tr n).est.st = estFailed ∧ Raised s t 0x0848 (s.missSeverity n) (0x80 + n) ∧
        t = { s with regs := t.regs, trac := t.trac, led := t.led, free := t.free }) ∧
      (s.since (s.tr n).est.lossAt < 5000 → exec (.recaptureFail n) s = .next s) ∧
      (n < 4 → s.partner n = none → s.missSeverity n = 2) ∧ (∀ m, n < 4 → s.partner n = some m → s.isOut m = false → s.bitAt R.PAIR_STATUS_FE_IN_SERVICE m = true → s.missSeverity n = 1))

/-- Chapter 14. "Beyond" is read as strictly beyond (log 40).
The model's readings behind its clauses: log 39. -/
def Obligations.DcLinkThresholds : Prop :=
  ∀ (s : State) (code : Nat),
    (s.running = false → exec (.dclMonitorSample code) s = .next s ∧ exec .chopperBudget s = .next s) ∧
    (s.running = true → code < 4096 → 
      exec (.dclMonitorSample code) s =
        .next (((((((((s.put R.SAFE_DCL_STATUS_VALUE code).putB R.SAFE_DCL_STATUS_OV1 (decide (s.get R.SAFE_DCL_THR_A_OV1 < code))).uvSample
          code).ov2Sample code).ov3Sample code).dischargeSample code).chopSample code).battSample code).dclTell) ∧
      ((s.put R.SAFE_DCL_STATUS_VALUE code).putB R.SAFE_DCL_STATUS_OV1 (decide (s.get R.SAFE_DCL_THR_A_OV1 < code))).get R.SAFE_DCL_STATUS_VALUE = code ∧
      ((s.put R.SAFE_DCL_STATUS_VALUE code).putB R.SAFE_DCL_STATUS_OV1 (decide (s.get R.SAFE_DCL_THR_A_OV1 < code))).flag R.SAFE_DCL_STATUS_OV1 =
        decide (s.get R.SAFE_DCL_THR_A_OV1 < code)) ∧
    (code < s.get R.SAFE_DCL_THR_B_UV → s.flag R.SAFE_DCL_STATUS_UV = false → s.md = .standby →
      s.uvSample code = ((s.putB R.SAFE_DCL_STATUS_UV true).refreshLimits).discLink) ∧
    (s.get R.SAFE_DCL_THR_B_UV + s.get R.SAFE_DCL_CFG_HYST < code → s.flag R.SAFE_DCL_STATUS_UV = true →
      s.uvSample code = ((s.putB R.SAFE_DCL_STATUS_UV false).refreshLimits).discLink) ∧
    (s.flag R.SAFE_DCL_STATUS_UV = true → code ≤ s.get R.SAFE_DCL_THR_B_UV + s.get R.SAFE_DCL_CFG_HYST → s.uvSample code = s) ∧
    (s.flag R.SAFE_DCL_STATUS_UV = false → s.get R.SAFE_DCL_THR_B_UV ≤ code → s.uvSample code = s) ∧
    (s.get R.SAFE_DCL_THR_A_OV2 < code → s.dcl.ov2Hold = false → (s.ov2Sample code).dcl.ov2Hold = true ∧
      (s.ov2Sample code).flag R.SAFE_DCL_STATUS_OV2 = true ∧ Raised s (s.ov2Sample code) 0x1111 0 0x11) ∧
    (code ≤ s.get R.SAFE_DCL_THR_A_OV2 → (s.ov2Sample code).flag R.SAFE_DCL_STATUS_OV2 = false ∧ (s.ov2Sample code).dcl.ov2Hold = s.dcl.ov2Hold ∧
      OnlyRegs s (s.ov2Sample code) [R.SAFE_DCL_STATUS]) ∧
    (s.get R.SAFE_DCL_THR_B_OV3 < code → s.get R.SAFE_DCL_CFG_OV3_N ≤ s.dcl.ov3Run + 1 → s.flag R.SAFE_DCL_STATUS_OV3_LATCH = false →
      (s.ov3Sample code).flag R.SAFE_DCL_STATUS_OV3_LATCH = true ∧
      (∃ r, r ∈ (s.ov3Sample code).led.arriving ∧ r.code = 0x1110 ∧ r.sev = 2 ∧ r.unit = 0x11)) ∧
    (code ≤ s.get R.SAFE_DCL_THR_B_OV3 → s.ov3Sample code = { s with dcl := { s.dcl with ov3Run := 0 } }) ∧
    (s.flag R.SAFE_DCL_STATUS_OV3_LATCH = true → (s.ov3Sample code).led = s.led ∧ (s.ov3Sample code).edge = s.edge) ∧
    (s.dcl.ov2Hold = true → s.get R.SAFE_DCL_STATUS_VALUE + s.get R.SAFE_DCL_CFG_HYST < s.get R.SAFE_DCL_THR_A_OV2 →
      10000 ≤ s.since s.dcl.ov2At → ∃ t, exec .ov2Restore s = .next t ∧ t.dcl.ov2Hold = false ∧ t.regs = s.regs ∧ t = { s with dcl := t.dcl, pair := t.pair }) ∧
    ((s.dcl.ov2Hold = false ∨ s.get R.SAFE_DCL_THR_A_OV2 ≤ s.get R.SAFE_DCL_STATUS_VALUE + s.get R.SAFE_DCL_CFG_HYST ∨
      s.since s.dcl.ov2At < 10000) →
      exec .ov2Restore s = .next s) ∧
    (s.running = true → s.chopOver = true → s.flag R.SAFE_DCL_STATUS_CHOP_HELD = false → ∃ t, exec .chopperBudget s = .next t ∧
      t.flag R.SAFE_DCL_STATUS_CHOP_HELD = true ∧ t.flag R.SAFE_DCL_STATUS_CHOP_ON = false ∧ Raised s t 0x1115 0 0x11 ∧ t.mem = s.mem) ∧
    (s.flag R.SAFE_DCL_STATUS_CHOP_HELD = true ∨ s.chopOver = false → exec .chopperBudget s = .next s)

/-- Chapter 14.
The model's readings behind its clauses: log 40. -/
def Obligations.SelectorLatchAndDcLinkCommands : Prop :=
  (∀ s : State,
      (s.running = true → s.dcl.mismatch ≠ 9 → ∃ t, exec .dclMonCompare s = .next t ∧
        (t.dcl.mismatch = 0 ∨ t.dcl.mismatch = s.dcl.mismatch + 1) ∧ t = { s with dcl := t.dcl }) ∧
      (s.running = true → s.dcl.mismatch = 9 → ∃ t, exec .dclMonCompare s = .next t ∧ (t.dcl.mismatch = 0 ∨ t.dcl.mismatch = 10) ∧
        (t.dcl.mismatch = 10 → Raised s t 0x1116 2 0x11) ∧ (t.dcl.mismatch = 0 → t = { s with dcl := t.dcl })) ∧
      (s.running = true → fLt (fAdd (fMul (fOfRatio 2 100) (s.linkVolts (s.get R.SAFE_DCL_STATUS_VALUE))) (s.linkVolts 4))
          (fAbs (fSub (s.linkVolts (s.get R.SAFE_DCL_STATUS_VALUE)) ((s.eng 0).sample 0x6F).1)) = false →
        exec .dclMonCompare s = .next { s with dcl := { s.dcl with mismatch := 0 } }) ∧
      (s.running = true → s.pairsLost = false → (∀ n, n ∈ s.sets → s.selChoice n = s.selAsc n) → ∃ t, exec .selectorEvaluation s = .next t ∧
        t = { s with pwr := { s.pwr with latchAsc := t.pwr.latchAsc } } ∧ (∀ n, n < nSets s.part → natBit t.pwr.latchAsc n = s.selChoice n)) ∧
      (s.running = true → s.pairsLost = false → ∃ t, exec .selectorEvaluation s = .next t ∧ (∀ n, n < nSets s.part → t.selAsc n = s.selChoice n) ∧
        OnlyRegs s t [R.SAFE_SEL_STATE, R.CONV_STATUS] ∧ t.led = s.led ∧ t.mem = s.mem ∧ t.fe = s.fe) ∧
      (∀ n, (s.tr n).est.st = estFailed ∨ Sparse.get (always false) s.dcl.tracked n = false → s.selChoice n = s.selAsc n) ∧
      (s.running = true → s.flag R.SAFE_DCL_STATUS_OV3_LATCH = true → s.pairsLost = false →
        s.get R.SAFE_DCL_STATUS_VALUE + s.get R.SAFE_DCL_CFG_HYST < s.get R.SAFE_DCL_THR_A_OV1 → ∃ t, exec .ov3LatchRelease s = .next t ∧
        t.flag R.SAFE_DCL_STATUS_OV3_LATCH = false ∧ t.enabled unitCharger = false ∧ (∀ n, n < nSets s.part → t.enabled n = false) ∧ t.led = s.led) ∧
      ((s.flag R.SAFE_DCL_STATUS_OV3_LATCH = false ∨ s.pairsLost = true ∨
        s.get R.SAFE_DCL_THR_A_OV1 ≤ s.get R.SAFE_DCL_STATUS_VALUE + s.get R.SAFE_DCL_CFG_HYST) → exec .ov3LatchRelease s = .next s)) ∧
  (∀ (s : State) (c : Cmd), c.target = 0x11 →
      (s.startable c 0x0130 = true → s.modeOk 0x0130 true = true → exec (.dclQuery c) s = .next (s.finish c .ok (pair64 (s.rd R.SAFE_DCL_STATUS).toNat (s.rd R.SAFE_SEL_STATE).toNat))) ∧
      (s.startable c 0x0130 = true → s.modeOk 0x0130 true = false → exec (.dclQuery c) s = .next (s.finish c .rejectedMode)) ∧
      (s.startable c 0x0131 = true → (s.md = .standby ∨ s.md = .service ∨ s.md = .safeStop) → 4 ≤ c.payload.length → fFinite (argW c 16) = true → s.dcl.discharge = none →
        exec (.dclDischarge c) s =
          .next { s.begin c with dcl := { s.dcl with discharge := some (c.master, c.tag, argW c 16, s.linkVolts (s.get R.SAFE_DCL_STATUS_VALUE), s.atime) } }) ∧
      (s.startable c 0x0131 = true → s.md = .drive → exec (.dclDischarge c) s = .next (s.finish c .rejectedMode)) ∧
      (∀ code m tag target start at_, s.dcl.discharge = some (m, tag, target, start, at_) →
        (fLt (s.linkVolts code) target = true → (s.dischargeSample code).dcl.discharge = none ∧
          (∃ r, (s.dischargeSample code).host.results = s.host.results ++ [r] ∧ r.tag = tag ∧ r.status = .ok)) ∧
        (fLt (s.linkVolts code) target = false → 100000 ≤ s.since at_ → fLt (fMul (fOfRatio 9 10) start) (s.linkVolts code) = true →
          (s.dischargeSample code).dcl.discharge = none ∧
          (∃ r, (s.dischargeSample code).host.results = s.host.results ++ [r] ∧ r.tag = tag ∧ r.status = .partialDone)) ∧
        (fLt (s.linkVolts code) target = false → s.since at_ < 100000 → s.dischargeSample code = s)) ∧
      (∀ drop, s.startable c 0x0132 = true → s.md ≠ .drive → s.md ≠ .degraded → s.md ≠ .charge → s.md ≠ .supply → s.modeOk 0x0132 false = true →
        s.flag R.SAFE_DCL_STATUS_UV = false → s.get R.SAFE_DCL_CHOP_TEST_DV ≤ drop → ∃ t, exec (.chopTest c drop false) s = .next t ∧
        t.flag R.SAFE_DCL_STATUS_CHOP_FAULT = false ∧ Answered s t c .ok 1 ∧ OnlyRegs s t [R.SAFE_DCL_STATUS] ∧
        t = { s with regs := t.regs, dcl := t.dcl, host := t.host, free := t.free }) ∧
      (∀ drop fault, s.startable c 0x0132 = true → s.md ≠ .drive → s.md ≠ .degraded → s.md ≠ .charge → s.md ≠ .supply → s.modeOk 0x0132 false = true →
        s.flag R.SAFE_DCL_STATUS_UV = false → (drop < s.get R.SAFE_DCL_CHOP_TEST_DV ∨ fault = true) → ∃ t, exec (.chopTest c drop fault) s = .next t ∧
        t.flag R.SAFE_DCL_STATUS_CHOP_FAULT = true ∧ Answered s t c .ok 0 ∧ Raised s t 0x1113 0 0x11 ∧
        OnlyRegs s t [R.SAFE_DCL_STATUS, R.LEDGER_SEQ]) ∧
      (∀ drop fault, s.startable c 0x0132 = true → s.md ≠ .drive → s.md ≠ .degraded → s.md ≠ .charge → s.md ≠ .supply → s.modeOk 0x0132 false = true →
        s.flag R.SAFE_DCL_STATUS_UV = true → exec (.chopTest c drop fault) s = .next s) ∧
      (∀ drop fault, s.startable c 0x0132 = true → s.md = .drive → exec (.chopTest c drop fault) s = .next (s.finish c .rejectedMode)))

/-- Chapter 15.
The model's readings behind its clauses: log 38, 39. -/
def Obligations.Converter : Prop :=
  (∀ (s : State) (c : Cmd), c.target = 0x0D →
      (s.startable c 0x2000 = true → s.lvArmed = false → 4 ≤ c.payload.length → s.convVset (argW c 16) = true → s.get R.CONV_STATUS_STATE ≠ 3 → ∃ t,
        exec (.convSetV c) s = .next t ∧ Handed s t c 4 0x2000 0 false [(336, argW c 16)]) ∧
      (s.startable c 0x2000 = true → s.lvArmed = false → 4 ≤ c.payload.length → s.convVset (argW c 16) = true → s.get R.CONV_STATUS_STATE = 3 →
        s.enabled unitConv = true → s.forceOn unitConv = none → ∃ t, exec (.convSetV c) s = .next t ∧
        t.get R.CONV_STATUS_STATE = (if s.conv.ssDone then 2 else 1) ∧ t.conv.withheld = false ∧ t.conv.padsLow = false) ∧
      (s.startable c 0x2000 = true → s.lvArmed = true → s.modeOk 0x2000 false = true → exec (.convSetV c) s = .next (s.finish c .busyRetry)) ∧
      (s.startable c 0x2001 = true → s.modeOk 0x2001 true = true → exec (.convStatus c) s = .next (s.finish c .ok (pair64 (s.rd R.CONV_STATUS).toNat (s.rd R.CONV_SYNC_STAT).toNat))) ∧
      (s.startable c 0x2002 = true → s.modeOk 0x2002 false = true → s.get R.CONV_STATUS_STATE = 5 → s.enabled unitConv = true → s.forceOn unitConv = none →
        fLe ((s.eng 4).nextWord 336) ((s.eng 4).sample ((s.eng 4).word 344).toNat).1 = false → ∃ t, exec (.convRestart c) s = .next t ∧
        t.get R.CONV_STATUS_RETRIES = 0 ∧ t.get R.CONV_STATUS_STATE = 1 ∧ t.wardenWord 4 450 = s.wardenWord 4 450 + 1 ∧
        t.conv.withheld = false ∧ Answered s t c .ok ∧ OnlyRegs s t [R.CONV_STATUS]) ∧
      (s.startable c 0x2002 = true → s.modeOk 0x2002 false = true → s.get R.CONV_STATUS_STATE ≠ 5 → exec (.convRestart c) s = .next (s.finish c .badParam)) ∧
      (s.startable c 0x2003 = true → s.pairsLost = false → s.md = .service → 1 ≤ c.payload.length → arg c 16 1 = 1 → ∃ t, exec (.convLightLoad c) s = .next t ∧ t.flag R.CONV_CFG_BURST_SERV = true ∧
        t.flag R.CONV_STATUS_BURST_OK = true ∧ t.wardenWord 4 449 = 1 ∧ Answered s t c .ok ∧
        OnlyRegs s t [R.CONV_CFG, R.CONV_CTRL, R.CONV_STATUS] ∧ t = { s with regs := t.regs, pair := t.pair, host := t.host }) ∧
      (s.startable c 0x2003 = true → s.md ≠ .service → exec (.convLightLoad c) s = .next (s.finish c .rejectedMode)) ∧
      (s.startable c 0x2004 = true → s.modeOk 0x2004 false = true → 8 ≤ c.payload.length → arg c 16 1 ≤ 1 → 50000 ≤ arg c 20 4 → arg c 20 4 ≤ 500000 → ∃ t,
        exec (.convSync c) s = .next t ∧ t.get R.CONV_SYNC_CFG_FOLLOW = arg c 16 1 ∧ t.get R.CONV_SYNC_CFG_INT_FREQ = arg c 20 4 ∧
        Answered s t c .ok ∧ OnlyRegs s t [R.CONV_SYNC_CFG, R.CONV_SYNC_STAT])) ∧
  (∀ s : State,
      (∀ i p, s.flag R.CONV_SYNC_CFG_DIR = true → exec (.syncEdge i p) s = .next s) ∧
      (∀ i p, s.flag R.CONV_SYNC_CFG_DIR = false → s.running = true → (i < 40960 ∨ 409600 < i) → ∃ t, exec (.syncEdge i p) s = .next t ∧
        t.get R.CONV_SYNC_STAT_REJECTED = min (2 ^ (R.CONV_SYNC_STAT_REJECTED.hi + 1 - R.CONV_SYNC_STAT_REJECTED.lo) - 1)
          (s.get R.CONV_SYNC_STAT_REJECTED + 1) ∧ OnlyRegs s t [R.CONV_SYNC_STAT] ∧ t = { s with regs := t.regs, conv := t.conv }) ∧
      (∀ i p, s.following = true → s.running = true → 40960 ≤ i → i ≤ 409600 → s.get R.CONV_SYNC_STAT_STATE = 0 → 1 ≤ s.conv.edges → ∃ t,
        exec (.syncEdge i p) s = .next t ∧ t.get R.CONV_SYNC_STAT_STATE = 1 ∧ t.conv.interval = i ∧ t.conv.phase = p ∧ OnlyRegs s t [R.CONV_SYNC_STAT]) ∧
      ((s.get R.CONV_SYNC_STAT_STATE = 1 ∨ s.get R.CONV_SYNC_STAT_STATE = 2) → 2 ≤ s.conv.quiet → ∃ t, exec .syncLost s = .next t ∧
        t.get R.CONV_SYNC_STAT_STATE = 3 ∧ Raised s t 0x0D04 0 0x0D ∧ OnlyRegs s t [R.CONV_SYNC_STAT, R.LEDGER_SEQ]) ∧
      (s.get R.CONV_SYNC_STAT_STATE = 0 ∨ s.get R.CONV_SYNC_STAT_STATE = 3 ∨ s.conv.quiet < 2 → exec .syncLost s = .next s) ∧
      (s.enabled unitConv = true → s.forceOn unitConv = none → s.get R.CONV_STATUS_STATE = 0 → ∃ t, exec .convStart s = .next t ∧
        t.get R.CONV_STATUS_STATE = 1 ∧ t.wardenWord 4 450 = s.wardenWord 4 450 + 1 ∧ t.conv.padsLow = false ∧
        OnlyRegs s t [R.CONV_STATUS]) ∧
      (s.enabled unitConv = false → exec .convStart s = .next s) ∧
      (exec (.burstWakeSample false) s = .next s) ∧
      (s.get R.CONV_STATUS_STATE = 3 → s.enabled unitConv = true → s.forceOn unitConv = none → ∃ t, exec (.burstWakeSample true) s = .next t ∧
        t.get R.CONV_STATUS_STATE = (if s.conv.ssDone then 2 else 1) ∧ t.conv.padsLow = false ∧ t.conv.withheld = false ∧ OnlyRegs s t [R.CONV_STATUS]) ∧
      (s.get R.CONV_STATUS_STATE ≠ 3 → exec (.burstWakeSample true) s = .next s) ∧
      ((s.get R.CONV_STATUS_STATE = 1 ∨ s.get R.CONV_STATUS_STATE = 2) → s.enabled unitConv = true → s.forceOn unitConv = none →
        s.get R.CONV_STATUS_RETRIES < 3 → ∃ t, exec .convShort s = .next t ∧ t.get R.CONV_STATUS_STATE = 4 ∧ t.conv.padsLow = true ∧
        t.conv.withheld = true ∧ t.flag R.CONV_STATUS_SHORT = true ∧ Raised s t 0x0D01 0 0x0D ∧ OnlyRegs s t [R.CONV_STATUS, R.LEDGER_SEQ]) ∧
      ((s.get R.CONV_STATUS_STATE = 1 ∨ s.get R.CONV_STATUS_STATE = 2) → s.enabled unitConv = true → s.forceOn unitConv = none →
        3 ≤ s.get R.CONV_STATUS_RETRIES → ∃ t, exec .convShort s = .next t ∧ t.get R.CONV_STATUS_STATE = 5 ∧ t.conv.padsLow = true ∧
        (t.led.arriving.map (·.code)) = s.led.arriving.map (·.code) ++ [0x0D01, 0x0D02]) ∧
      (s.get R.CONV_STATUS_STATE = 4 → 200000 ≤ s.since s.conv.stopAt → s.enabled unitConv = true → s.forceOn unitConv = none →
        s.get R.CONV_STATUS_RETRIES < 3 → ∃ t, exec .convRetryWaitExpiry s = .next t ∧ t.wardenWord 4 450 = s.wardenWord 4 450 + 1 ∧
        t.get R.CONV_STATUS_STATE = 1 ∧ t.get R.CONV_STATUS_RETRIES = s.get R.CONV_STATUS_RETRIES + 1 ∧ t.conv.padsLow = false ∧ OnlyRegs s t [R.CONV_STATUS] ∧ t.led = s.led) ∧
      (s.get R.CONV_STATUS_STATE ≠ 4 ∨ s.since s.conv.stopAt < 200000 → exec .convRetryWaitExpiry s = .next s) ∧
      (∀ k a b, (s.unitChans unitConv).find? (fun h => s.chanFunc h = 2 && s.chanUnit h = k && s.chanLeg h = 0) = some a →
        (s.unitChans unitConv).find? (fun h => s.chanFunc h = 2 && s.chanUnit h = k && s.chanLeg h = 1) = some b →
        ∃ t, exec (.cbcLimit k) s = .next t ∧ natBit t.conv.cbc k = true ∧
        (s.padForce unitConv = none → s.conv.padsLow = false → (t.chan b).cmdHigh = (s.chan a).cmdHigh) ∧ (∀ m, m ≠ b → t.chan m = s.chan m) ∧
        t = { s with conv := t.conv, edge := t.edge }) ∧
      (∀ k, s.unitChans unitConv = [] → exec (.cbcLimit k) s = .next s) ∧
      (s.running = true → s.enabled unitConv = true → s.forceOn unitConv = none → ∃ t, exec .convOvp s = .next t ∧
        t.flag R.CONV_STATUS_OVP = true ∧ t.get R.CONV_STATUS_STATE = 5 ∧ t.conv.padsLow = true ∧ Raised s t 0x0D03 1 0x0D ∧
        OnlyRegs s t [R.CONV_STATUS, R.LEDGER_SEQ]) ∧
      (s.flag (R.FE_STATUS_RUNNING 4) = true → (s.eng 4).prog = .converter → 2 ≤ s.conv.voBad → s.conv.voTold = false → ∃ t,
        exec .convVoutAbsent s = .next t ∧ t.conv.voTold = true ∧ t.conv.voBad = s.conv.voBad ∧
        Raised s t 0x0850 1 0x84 ∧ OnlyRegs s t [R.LEDGER_SEQ] ∧ t = { s with regs := t.regs, conv := t.conv, led := t.led, free := t.free }) ∧
      (s.conv.voBad < 2 ∨ s.conv.voTold = true → exec .convVoutAbsent s = .next s))

/-- Chapter 16.
The model's readings behind its clauses: log 16, 26, 39. -/
def Obligations.ChargerCommands : Prop :=
  ∀ (s : State) (c : Cmd),
    (c.target ≠ 0x0E → (s.startable c 0x3000 = true → exec (.chgArm c) s = .next (s.finish c .badParam)) ∧ (s.startable c 0x3001 = true → exec (.chgDisarm c) s = .next (s.finish c .badParam)) ∧
      (s.startable c 0x3002 = true → exec (.chgLimit c) s = .next (s.finish c .badParam)) ∧ (s.startable c 0x3003 = true → exec (.chgStatus c) s = .next (s.finish c .badParam)) ∧
      (s.startable c 0x3004 = true → exec (.chgRestart c) s = .next (s.finish c .badParam)) ∧ (s.startable c 0x3005 = true → exec (.supSet c) s = .next (s.finish c .badParam))) ∧
    (c.target ≠ 0x0D → (s.startable c 0x2010 = true → exec (.lvChgArm c) s = .next (s.finish c .badParam)) ∧ (s.startable c 0x2011 = true → exec (.lvChgDisarm c) s = .next (s.finish c .badParam)) ∧
      (s.startable c 0x2012 = true → exec (.lvChgLimit c) s = .next (s.finish c .badParam))) ∧
    (c.target = 0x0E → s.startable c 0x3000 = true → s.modeOk 0x3000 false = true → 24 ≤ c.payload.length → phaseWordsOk c = true → fLe fOne (argW c 16) = true →
      fLe (argW c 16) ((s.eng 5).nextWord 448) = true → fLe (argW c 20) s.vbattMax = true → s.get R.CHG_OVP_VMAX ≠ 0 →
      (s.flag R.CHG_STATUS_TIMER_HV = false → ∃ t, exec (.chgArm c) s = .next t ∧
        (∀ k, k < 6 → (t.eng 5).nextWord (336 + k) = argW c (16 + 4 * k)) ∧ bitOf ((t.eng 5).nextWord 348) 0 = true ∧
        ((t.eng 5).nextWord 348).toNat / 65536 = (((s.eng 5).nextWord 348).toNat / 65536 + 1) % 65536 ∧
        (t.eng 5).nextWord 349 = (s.eng 5).nextWord 349 + 1 ∧ Answered s t c .ok s.chg.hv.phase ∧ (∀ n, n ≠ 5 → t.eng n = s.eng n) ∧
        t = { s with fe := t.fe, host := t.host }) ∧
      (s.flag R.CHG_STATUS_TIMER_HV = true → exec (.chgArm c) s = .next (s.finish c .safetyBlocked))) ∧
    (c.target = 0x0E → s.startable c 0x3000 = true → s.modeOk 0x3000 false = true → phaseWordsOk c = false → exec (.chgArm c) s = .next (s.finish c .badParam)) ∧
    (c.target = 0x0E → s.startable c 0x3001 = true → s.modeOk 0x3001 false = true → ∃ t, exec (.chgDisarm c) s = .next t ∧ bitOf ((t.eng 5).nextWord 348) 0 = false ∧
      t.chg.hv.armed = false ∧ t.chg.hv.rest = false ∧ t.chg.hv.phase = (if s.chg.hv.phase = 6 then 6 else 0) ∧ Answered s t c .ok ∧
      t.chg.lv = s.chg.lv) ∧
    (c.target = 0x0E → s.startable c 0x3004 = true → s.modeOk 0x3004 false = true → s.pairsLost = false → s.chg.hv.phase = 6 →
      fLe s.vbattMax (s.linkVolts (s.get R.SAFE_DCL_STATUS_VALUE)) = false → ∃ t, exec (.chgRestart c) s = .next t ∧ t.chg.hv.phase = 0 ∧
      t.chg.hv.armed = false ∧ t.chg.padsLow = false ∧ bitOf (t.wardenWord 5 450) 1 = false ∧ bitOf ((t.eng 5).nextWord 348) 0 = false ∧
      Answered s t c .ok) ∧
    (c.target = 0x0E → s.startable c 0x3004 = true → s.modeOk 0x3004 false = true → s.chg.hv.phase ≠ 6 → exec (.chgRestart c) s = .next (s.finish c .badParam)) ∧
    (c.target = 0x0E → s.startable c 0x3003 = true → s.modeOk 0x3003 true = true →
      exec (.chgStatus c) s = .next (s.finish c .ok (pair64 (s.rd R.CHG_STATUS).toNat (s.rd R.CHG_PILOT).toNat))) ∧
    (c.target = 0x0E → s.startable c 0x3002 = true → 8 ≤ c.payload.length → fLe (fZero false) (argW c 16) = true → fLe (argW c 16) (fOfNat 80) = true →
      fLe (fZero false) (argW c 20) = true → fLe (argW c 20) fOne = true → ∃ t, exec (.chgLimit c) s = .next t ∧
      Handed s t c 5 0x3002 0 false [(351, argW c 16), (352, argW c 20)]) ∧
    (c.target = 0x0E → s.startable c 0x3005 = true → 4 ≤ c.payload.length → fLe fOne (argW c 16) = true → fLe (argW c 16) (fOfNat 32) = true → ∃ t,
      exec (.supSet c) s = .next t ∧ Handed s t c 5 0x3005 0 false [(360, argW c 16)]) ∧
    (c.target = 0x0D → s.startable c 0x2012 = true → 4 ≤ c.payload.length → fLe fOne (argW c 16) = true → fLe (argW c 16) (fOfNat 200) = true → ∃ t,
      exec (.lvChgLimit c) s = .next t ∧ Handed s t c 5 0x2012 0 false [(342, argW c 16)]) ∧
    (c.target = 0x0D → s.startable c 0x2010 = true → s.lvMode = true → 24 ≤ c.payload.length → phaseWordsOk c = true → fLe fOne (argW c 16) = true →
      fLe (argW c 16) (fOfNat 200) = true → s.convVset (argW c 20) = true → s.flag R.CHG_STATUS_TIMER_LV = false → ∃ t,
      exec (.lvChgArm c) s = .next t ∧ (∀ k, k < 6 → (t.eng 5).nextWord (342 + k) = argW c (16 + 4 * k)) ∧
      bitOf ((t.eng 5).nextWord 348) 1 = true ∧ (t.eng 5).nextWord 350 = (s.eng 5).nextWord 350 + 1 ∧
      t.chg.lv.phase = (if s.chg.lv.phase = 6 then 0 else s.chg.lv.phase) ∧ Answered s t c .ok t.chg.lv.phase ∧ t.chg.hv = s.chg.hv) ∧
    (c.target = 0x0D → s.startable c 0x2011 = true → s.modeOk 0x2011 false = true → ∃ t, exec (.lvChgDisarm c) s = .next t ∧ bitOf ((t.eng 5).nextWord 348) 1 = false ∧
      t.chg.lv.armed = false ∧ t.chg.lv.phase = (if s.chg.lv.phase = 6 then 6 else 0) ∧ Answered s t c .ok ∧ t.chg.hv = s.chg.hv)

/-- Chapters 02 and 16.
The model's readings behind its clauses: log 39. -/
def Obligations.PilotsAndChargePhases : Prop :=
  (∀ s : State,
      (∀ (vh vl : Int) (f d mv : Nat), (s.running = false ∨ s.md = .discover ∨ s.md = .commission ∨ s.md = .safeStop) →
        exec (.pilotStateChange vh vl f d) s = .next s ∧ exec (.ppSample mv) s = .next s) ∧
      (∀ (vh vl : Int) (f d : Nat), s.chgMonitors = true → s.md ≠ .supply → pilotOf vh = s.get R.CHG_STATUS_PILOT → ∃ t, exec (.pilotStateChange vh vl f d) s = .next t ∧
        t.get R.CHG_STATUS_PILOT = s.get R.CHG_STATUS_PILOT ∧ t.get R.CHG_PILOT_DUTY = min 10000 d ∧
        t.flag R.CHG_STATUS_PWM = (decide (980 ≤ f) && decide (f ≤ 1020) && decide (vl ≤ -105)) ∧ OnlyRegs s t [R.CHG_STATUS, R.CHG_PILOT] ∧
        t = { s with regs := t.regs }) ∧
      (∀ (vh vl : Int) (f d : Nat), s.running = true → s.md = .standby → s.mode.trans = none → pilotOf vh ≠ s.get R.CHG_STATUS_PILOT → ∃ t,
        exec (.pilotStateChange vh vl f d) s = .next t ∧ t.get R.CHG_STATUS_PILOT = pilotOf vh ∧ Told s t 0x30F0 0x0E (some (w32 (pilotOf vh))) ∧
        OnlyRegs s t [R.CHG_STATUS, R.CHG_PILOT] ∧ t = { s with regs := t.regs, host := t.host, free := t.free }) ∧
      (∀ (vh vl : Int) (f d : Nat), s.running = true → s.md = .charge → s.pairsLost = false → pilotOf vh ≠ s.get R.CHG_STATUS_PILOT → 1 ≤ pilotOf vh → pilotOf vh ≤ 3 → ∃ t,
        exec (.pilotStateChange vh vl f d) s = .next t ∧ t.get R.CHG_STATUS_PILOT = pilotOf vh ∧
        bitOf (t.wardenWord 5 450) 0 = (pilotOf vh == 1) ∧ Told s t 0x30F0 0x0E (some (w32 (pilotOf vh))) ∧ t.led = s.led) ∧
      (∀ vh : Int, (105 ≤ vh → pilotOf vh = 0) ∧ (75 ≤ vh → vh < 105 → pilotOf vh = 1) ∧ (45 ≤ vh → vh < 75 → pilotOf vh = 2) ∧
        (15 ≤ vh → vh < 45 → pilotOf vh = 3) ∧ (-15 ≤ vh → vh < 15 → pilotOf vh = 4) ∧ (vh < -15 → pilotOf vh = 5)) ∧
      (∀ mv, s.running = true → s.md = .standby → s.mode.plugHold = false → ppCode (s.get R.CHG_PILOT_CFG_PP_PU) mv = s.get R.CHG_STATUS_PP → ∃ t,
        exec (.ppSample mv) s = .next t ∧ t.get R.CHG_STATUS_PP = s.get R.CHG_STATUS_PP ∧ OnlyRegs s t [R.CHG_STATUS] ∧ t = { s with regs := t.regs }) ∧
      (∀ mv, s.running = true → s.md = .drive → s.pairsLost = false → s.mode.trans = none → s.mode.plugHold = false → s.get R.CHG_STATUS_PP = 0 →
        1 ≤ ppCode (s.get R.CHG_PILOT_CFG_PP_PU) mv → ∃ t, exec (.ppSample mv) s = .next t ∧
        t.get R.CHG_STATUS_PP = ppCode (s.get R.CHG_PILOT_CFG_PP_PU) mv ∧ t.mode.plugHold = true ∧ Raised s t 0x0007 0 0x00 ∧
        (∀ n, n < nSets s.part → bitOf (t.wardenWord n 452) 0 = true) ∧ (∃ e, t.host.events = s.host.events ++ [e] ∧ e.code = 0x30F0)) ∧
      (∀ pu mv : Nat, 1800 ≤ mv → ppCode pu mv = 0) ∧
      (∀ vh : Int, (75 ≤ vh ∨ s.md ≠ .supply ∨ s.mode.v2v = false ∨ s.chg.cpHigh = false ∨ s.since s.chg.cpAt < 100000) → exec (.pilotRouteCheck vh) s = .next s) ∧
      (∀ vh : Int, vh < 75 → s.md = .supply → s.mode.v2v = true → s.chg.cpHigh = true → 100000 ≤ s.since s.chg.cpAt → ∃ t, exec (.pilotRouteCheck vh) s = .next t ∧
        t.chg.sup = 5 ∧ t.chg.padsLow = true ∧ t.flag R.CHG_STATUS_ROUTE_ERR = true ∧ Raised s t 0x0E04 1 0x0E ∧
        (∀ n, n ∈ s.unitChans unitCharger → (t.chan n).high = false ∧ (t.chan n).low = false) ∧ OnlyRegs s t [R.CHG_STATUS, R.LEDGER_SEQ])) ∧
  (∀ (s : State) (lv : Bool),
      (∀ m, ((s.chg.target lv).onTime = false ∨ s.passed5 (s.chg.target lv).at_ (if lv then 346 else 340) = false) → exec (.chgOnTimeEnd lv m) s = .next s) ∧
      (∀ m, (s.chg.target lv).onTime = true → s.passed5 (s.chg.target lv).at_ (if lv then 346 else 340) = true → (s.chg.target lv).phase = 2 →
        exec (.chgOnTimeEnd lv m) s = .next { s with chg := s.chg.setTarget lv { s.chg.target lv with rest := true, at_ := s.atime } }) ∧
      (∀ m, (s.chg.target lv).onTime = true → s.passed5 (s.chg.target lv).at_ (if lv then 346 else 340) = true → (s.chg.target lv).phase = 3 → fLt m ((s.eng 5).word (if lv then 344 else 338)) = true → ∃ t,
        exec (.chgOnTimeEnd lv m) s = .next t ∧ (t.chg.target lv).phase = 4 ∧ t.chg.target (!lv) = s.chg.target (!lv) ∧ t.fe = s.fe) ∧
      (∀ a b d i z, ((s.chg.target lv).rest = false ∨ s.passed5 (s.chg.target lv).at_ (if lv then 347 else 341) = false) → exec (.chgRestEnd lv a b d i z) s = .next s) ∧
      (∀ a b d i, (s.chg.target lv).rest = true → s.passed5 (s.chg.target lv).at_ (if lv then 347 else 341) = true →
        (lv = false ∨ fLt (fSub a d) ((s.eng 5).word 362) = false ∨ fLe (fMul (fOfRatio 2 10) ((s.eng 5).word 342)) i = false) → ∃ t,
        exec (.chgRestEnd lv a b d i true) s = .next t ∧
        (t.chg.target lv).rest = false ∧ (t.chg.target lv).known = true ∧
        (t.eng 5).word (if lv then 391 else 389) = fDiv (fSub a b) i ∧ (t.eng 5).word (if lv then 392 else 390) = fDiv (fSub b d) i ∧
        Told s t 0x3001 0x85 (some (fDiv (fSub a b) i)) (some (fDiv (fSub b d) i)) ∧ (∀ n, n ≠ 5 → t.eng n = s.eng n) ∧
        t = { s with chg := t.chg, fe := t.fe, host := t.host, free := t.free }) ∧
      (∀ a b d i, (s.chg.target lv).rest = true → s.passed5 (s.chg.target lv).at_ (if lv then 347 else 341) = true →
        (lv = false ∨ fLt (fSub a d) ((s.eng 5).word 362) = false ∨ fLe (fMul (fOfRatio 2 10) ((s.eng 5).word 342)) i = false) → ∃ t,
        exec (.chgRestEnd lv a b d i false) s = .next t ∧ (t.chg.target lv).rest = false ∧
        t.fe = s.fe ∧ t = { s with chg := t.chg, host := t.host, free := t.free }) ∧
      (∀ a b d i z, lv = true → s.chg.lv.rest = true → s.passed5 s.chg.lv.at_ 347 = true → fLt (fSub a d) ((s.eng 5).word 362) = true →
        fLe (fMul (fOfRatio 2 10) ((s.eng 5).word 342)) i = true → ∃ t, exec (.chgRestEnd true a b d i z) s = .next t ∧ t.chg.lv.phase = 6 ∧
        t.chg.lv.rest = false ∧ t.chg.lv.armed = false ∧ (∃ r, r ∈ t.led.arriving ∧ r.code = 0x0861 ∧ r.sev = 1 ∧ r.unit = 0x85) ∧
        t.chg.hv = s.chg.hv) ∧
      (((s.chg.target lv).phase ≠ 1 ∨ s.since (s.chg.target lv).at_ < 2000000) → exec (.chgPrepFail lv) s = .next s) ∧
      ((s.chg.target lv).phase = 1 → 2000000 ≤ s.since (s.chg.target lv).at_ → ∃ t, exec (.chgPrepFail lv) s = .next t ∧ (t.chg.target lv).phase = 0 ∧ (t.chg.target lv).armed = false ∧
        bitOf ((t.eng 5).nextWord 348) (bit lv) = false ∧ (∃ r, r ∈ t.led.arriving ∧ r.code = 0x0862 ∧ r.sev = 0 ∧ r.unit = 0x85)) ∧
      (((s.chg.target lv).phase ≠ 4 ∨ (s.chg.target lv).low = none) → exec (.chgTerminate lv) s = .next s) ∧
      (∀ a, (s.chg.target lv).low = some a → s.since a < 10000000 → exec (.chgTerminate lv) s = .next s) ∧
      (∀ a, (s.chg.target lv).phase = 4 → (s.chg.target lv).low = some a → 10000000 ≤ s.since a → ∃ t, exec (.chgTerminate lv) s = .next t ∧ (t.chg.target lv).phase = 5 ∧
        (t.chg.target (!lv)).phase = (s.chg.target (!lv)).phase) ∧
      (((s.chg.target lv).wd = true ∨ ((s.chg.target lv).armed = false ∧ (lv = true ∨ s.md ≠ .supply)) ∨
        s.passed5 (s.chg.target lv).seqAt 451 = false) → exec (.chgWatchdog lv) s = .next s) ∧
      ((s.chg.target lv).wd = false → ((s.chg.target lv).armed = true ∨ (lv = false ∧ s.md = .supply)) →
        s.passed5 (s.chg.target lv).seqAt 451 = true → ∃ t, exec (.chgWatchdog lv) s = .next t ∧ (t.chg.target lv).wd = true ∧
        (t.chg.target lv).armed = false ∧ (∃ r, r ∈ t.led.arriving ∧ r.code = 0x0860 ∧ r.sev = 0 ∧ r.unit = 0x85) ∧ t.fe = s.fe) ∧
      (((s.chg.target lv).timer = none ∨ s.flag (if lv then R.CHG_STATUS_TIMER_LV else R.CHG_STATUS_TIMER_HV) = true ∨
        s.timerMin (s.chg.target lv).timer < s.get R.CHG_TIMERS_TIMER_MAX) →
        exec (.chgTimer lv) s = .next s) ∧
      ((s.chg.target lv).timer.isSome = true → s.flag (if lv then R.CHG_STATUS_TIMER_LV else R.CHG_STATUS_TIMER_HV) = false →
        s.get R.CHG_TIMERS_TIMER_MAX ≤ s.timerMin (s.chg.target lv).timer → s.pairsLost = false → ∃ t,
        exec (.chgTimer lv) s = .next t ∧ t.flag (if lv then R.CHG_STATUS_TIMER_LV else R.CHG_STATUS_TIMER_HV) = true ∧
        bitOf (t.wardenWord 5 450) (if lv then 3 else 2) = true ∧
        (t.chg.target lv).phase = (if (s.chg.target lv).phase = 6 then 6 else 5) ∧
        (∃ r, r ∈ t.led.arriving ∧ r.code = 0x0E02 ∧ r.sev = 0 ∧ r.unit = 0x0E)) ∧
      ((s.chg.lv.phase < 2 ∨ 4 < s.chg.lv.phase) → exec .lvBatteryAbsent s = .next s) ∧
      (2 ≤ s.chg.lv.phase → s.chg.lv.phase ≤ 4 → ∃ t, exec .lvBatteryAbsent s = .next t ∧ t.chg.lv.phase = 6 ∧ t.chg.lv.armed = false ∧
        (∃ r, r ∈ t.led.arriving ∧ r.code = 0x0861 ∧ r.sev = 1 ∧ r.unit = 0x85) ∧ t.chg.hv = s.chg.hv) ∧
      (s.chg.lv.armed = true → 1 ≤ s.chg.lv.phase → s.chg.lv.phase ≤ 4 →
        fLt (fAbs (fSub ((s.eng 5).seen 393) ((s.eng 4).nextWord 336))) (fOfRatio 1 1000) = false → ∃ t, exec .lvVsetForward s = .next t ∧
        (t.eng 4).nextWord 336 = (s.eng 5).seen 393 ∧ (t.eng 4).act = (s.eng 4).act ∧ (∀ n, n ≠ 4 → t.eng n = s.eng n) ∧ t = { s with fe := t.fe }) ∧
      ((s.chg.lv.armed = false ∨ s.chg.lv.phase = 0 ∨ 4 < s.chg.lv.phase ∨
        fLt (fAbs (fSub ((s.eng 5).seen 393) ((s.eng 4).nextWord 336))) (fOfRatio 1 1000) = true) → exec .lvVsetForward s = .next s) ∧
      (s.md = .supply → 1 ≤ s.chg.sup → s.chg.sup ≤ 3 → ∃ t, exec .supplyOverload s = .next t ∧ t.chg.sup = 4 ∧
        (∀ n, n ∈ s.unitChans unitCharger → (t.chan n).high = false ∧ (t.chan n).low = false) ∧ Raised s t 0x0E05 0 0x0E ∧ Told s t 0x30F1 0x0E ∧
        OnlyRegs s t [R.LEDGER_SEQ] ∧ t.fe = s.fe) ∧
      ((s.md ≠ .supply ∨ s.chg.sup = 0 ∨ 3 < s.chg.sup) → exec .supplyOverload s = .next s))

/-- Chapter 17.
The model's readings behind its clauses: log 36, 41. -/
def Obligations.MotionCommands : Prop :=
  ∀ (s : State) (c : Cmd) (m : Nat), arg c 16 1 = m →
    (c.target ≠ 0x0F → (s.startable c 0x4000 = true → exec (.actCurrent c) s = .next (s.finish c .badParam)) ∧
      (s.startable c 0x4001 = true → exec (.actSpeed c) s = .next (s.finish c .badParam)) ∧
      (s.startable c 0x4002 = true → exec (.actMove c) s = .next (s.finish c .badParam)) ∧
      (s.startable c 0x4003 = true → exec (.actStatus c) s = .next (s.finish c .badParam)) ∧
      (s.startable c 0x4010 = true → exec (.encStatus c) s = .next (s.finish c .badParam))) ∧
    (c.target = 0x0F → 12 ≤ c.payload.length → m < nMotors s.part → (s.actNext m 12).toNat ≠ 2 → s.unitHeld (4 + m) = false →
      (s.actNext m 0).toNat ≠ 0 →
      (s.startable c 0x4000 = true → fLe (fAbs (argW c 20)) ((s.eng (actEngine m)).nextWord (448 + m % 2)) = true → ∃ t,
        exec (.actCurrent c) s = .next t ∧ Handed s t c (actEngine m) 0x4000 m false [(actBase m + 1, 0), (actBase m + 2, argW c 20)]) ∧
      (s.startable c 0x4001 = true → fLe (fAbs (argW c 20)) (fOfNat 2000) = true → fLe (fZero false) (argW c 24) = true →
        fLe (argW c 24) ((s.eng (actEngine m)).nextWord (448 + m % 2)) = true → ∃ t, exec (.actSpeed c) s = .next t ∧
        Handed s t c (actEngine m) 0x4001 m false [(actBase m + 1, 1), (actBase m + 3, argW c 20), (actBase m + 9, argW c 24)]) ∧
      (s.startable c 0x4002 = true → fLe (fAbs (argW c 20)) (fOfNat 1000000) = true → ∃ t, exec (.actMove c) s = .next t ∧
        Handed s t c (actEngine m) 0x4002 m false [(actBase m + 1, 2), (actBase m + 4, argW c 20)])) ∧
    (c.target = 0x0F → 12 ≤ c.payload.length → m < nMotors s.part → ((s.actNext m 12).toNat = 2 ∨ s.unitHeld (4 + m) = true) →
      (s.startable c 0x4000 = true → exec (.actCurrent c) s = .next (s.finish c .safetyBlocked)) ∧
      (s.startable c 0x4001 = true → exec (.actSpeed c) s = .next (s.finish c .safetyBlocked)) ∧
      (s.startable c 0x4002 = true → exec (.actMove c) s = .next (s.finish c .safetyBlocked))) ∧
    (c.target = 0x0F → nMotors s.part ≤ m →
      (s.startable c 0x4000 = true → exec (.actCurrent c) s = .next (s.finish c .badParam)) ∧
      (s.startable c 0x4001 = true → exec (.actSpeed c) s = .next (s.finish c .badParam)) ∧
      (s.startable c 0x4002 = true → exec (.actMove c) s = .next (s.finish c .badParam))) ∧
    (c.target = 0x0F → s.startable c 0x4003 = true → s.modeOk 0x4003 true = true → 1 ≤ c.payload.length → m < nMotors s.part →
      (s.actWord m 0).toNat ≠ 0 → exec (.actStatus c) s =
        .next (s.finish c .ok (pair64 ((s.eng (actEngine m)).seen (actOut m)).toNat ((s.eng (actEngine m)).seen (actOut m + 1)).toNat))) ∧
    (c.target = 0x0F → s.startable c 0x4010 = true → s.modeOk 0x4010 true = true → 1 ≤ c.payload.length → m < 4 →
      exec (.encStatus c) s = .next (s.finish c .ok (pair64 (s.rd (R.MOT_ENC_COUNT m)).toNat (s.rd (R.MOT_ENC_STAT m)).toNat)))

/-- Chapters 02 and 17.
The model's readings behind its clauses: log 41, 54. -/
def Obligations.ParkLock : Prop :=
  ∀ (s : State),
    (∀ c : Cmd, c.target = 0 → (s.md = .standby ∨ s.md = .drive ∨ s.md = .degraded ∨ s.md = .service) → s.startable c 0x0102 = true → s.standstill = true →
      s.pairsLost = false → ∃ t,
      exec (.parkEngage c) s = .next t ∧ t.mot.park = some (true, s.atime) ∧ t.mode.parkHold = true ∧ t.flag R.SYS_MODE_PARK = false ∧
      (∀ n, n < nSets s.part → bitOf (t.wardenWord n 452) 0 = true) ∧
      (∀ m, s.parkMotor = some m → t.wardenWord (actEngine m) 451 =
        w32 (1 + 65536 * (((s.wardenWord (actEngine m) 451).toNat / 65536 + 1) % 65536)) ∧
        bitOf (t.wardenWord (actEngine m) 450) (m % 2) = false) ∧
      (∃ e, t.host.events = s.host.events ++ [e] ∧ e.code = 0x0103 ∧ e.source = 0) ∧ Answered s t c .ok ∧ OnlyRegs s t [R.SYS_MODE]) ∧
    (∀ c : Cmd, c.target = 0 → s.startable c 0x0102 = true → s.standstill = false → exec (.parkEngage c) s = .next (s.finish c .rejectedMode)) ∧
    (∀ c : Cmd, c.target = 0 → s.startable c 0x0103 = true → s.modeOk 0x0103 false = true → s.md ≠ .charge → s.md ≠ .supply →
      s.md ≠ .safeStop → s.pairsLost = false → ∃ t,
      exec (.parkRelease c) s = .next t ∧ t.mot.park = some (false, s.atime) ∧ t.mode.parkHold = true ∧ t.flag R.SYS_MODE_PARK = false ∧
      (∀ m, s.parkMotor = some m → t.wardenWord (actEngine m) 451 =
        w32 (2 + 65536 * (((s.wardenWord (actEngine m) 451).toNat / 65536 + 1) % 65536))) ∧
      t.host.events = s.host.events ∧ Answered s t c .ok ∧ OnlyRegs s t [R.SYS_MODE]) ∧
    (∀ c : Cmd, c.target = 0 → s.startable c 0x0103 = true → s.md = .safeStop → exec (.parkRelease c) s = .next (s.finish c .safetyBlocked)) ∧
    (fIsZero (s.rd R.MOT_PARK_TOL) = true → exec .parkVerified s = .next s) ∧
    (s.mot.park = none → exec .parkVerified s = .next s ∧ exec .parkFail s = .next s) ∧
    (∀ a b, s.mot.parkSince = some b → s.since b < 10000 * s.get R.MOT_PARK_CFG_SETTLE → s.mot.park = some (true, a) →
      exec .parkVerified s = .next s) ∧
    (∀ a b, s.parkOk = true → s.mot.parkSince = some b → 10000 * s.get R.MOT_PARK_CFG_SETTLE ≤ s.since b → s.mot.park = some (true, a) →
      s.md ≠ .safeStop → s.pairsLost = false → ∃ t, exec .parkVerified s = .next t ∧
      t.flag R.SYS_MODE_PARK = true ∧ t.mot.park = none ∧ (∀ m, s.parkMotor = some m → bitOf (t.wardenWord (actEngine m) 450) (m % 2) = true) ∧
      (∃ e, t.host.events = s.host.events ++ [e] ∧ e.code = 0x0103) ∧ t.mode = s.mode ∧ OnlyRegs s t [R.SYS_MODE]) ∧
    (∀ a b, s.parkOk = true → s.mot.parkSince = some b → 10000 * s.get R.MOT_PARK_CFG_SETTLE ≤ s.since b → s.mot.park = some (false, a) →
      s.md ≠ .safeStop → s.pairsLost = false → ∃ t, exec .parkVerified s = .next t ∧
      t.mode.parkHold = false ∧ t.mot.park = none ∧ (∀ n, n < nSets s.part → bitOf (t.wardenWord n 452) 0 = s.mode.plugHold) ∧
      t.regs = s.regs) ∧
    (∀ x a, s.mot.park = some (x, a) → s.since a < 10000 * s.get R.MOT_PARK_CFG_TIMEOUT → exec .parkFail s = .next s) ∧
    (∀ x a, s.mot.park = some (x, a) → 10000 * s.get R.MOT_PARK_CFG_TIMEOUT ≤ s.since a → ∃ t, exec .parkFail s = .next t ∧ t.mot.park = none ∧ t.mode = s.mode ∧ Raised s t 0x0F10 0 0x0F ∧ t.fe = s.fe) ∧
    (s.parkMotor = none ∨ s.flag R.SYS_MODE_PARK = false → exec .parkRecheck s = .next s) ∧
    (∀ m, s.parkMotor = some m → s.flag R.SYS_MODE_PARK = true → s.mot.park = none →
      (fLt (s.rd R.MOT_PARK_TOL) (fAbs (fSub ((s.eng (actEngine m)).seen (actOut m)) (s.actWord m 13))) = false →
        exec .parkRecheck s = .next { s with mot := { s.mot with parkOut := 0 } }) ∧
      (fLt (s.rd R.MOT_PARK_TOL) (fAbs (fSub ((s.eng (actEngine m)).seen (actOut m)) (s.actWord m 13))) = true →
        s.mot.parkOut + 1 < s.get R.MOT_PARK_CFG_SETTLE →
        exec .parkRecheck s = .next { s with mot := { s.mot with parkOut := s.mot.parkOut + 1 } }) ∧
      (fLt (s.rd R.MOT_PARK_TOL) (fAbs (fSub ((s.eng (actEngine m)).seen (actOut m)) (s.actWord m 13))) = true →
        s.get R.MOT_PARK_CFG_SETTLE ≤ s.mot.parkOut + 1 → ∃ t, exec .parkRecheck s = .next t ∧ t.flag R.SYS_MODE_PARK = false ∧
        t.mode.parkHold = true ∧ t.mot.parkOut = 0 ∧ Raised s t 0x0F11 1 0x0F ∧ OnlyRegs s t [R.SYS_MODE, R.LEDGER_SEQ]))

/-- Chapter 17.
The model's readings behind its clauses: log 12, 15, 41. -/
def Obligations.PositionInterfaces : Prop :=
  (∀ (s : State) (k : Nat),
      ((4 ≤ k ∨ s.motLive = false ∨ s.flag (R.MOT_ENC_CFG_EN k) = false) →
        (∀ (a b : Bool) (dt : Nat), exec (.encoderEdge k a b dt) s = .next s) ∧ exec (.encoderIndex k) s = .next s) ∧
      ((4 ≤ k ∨ s.running = false ∨ s.flag (R.MOT_ENC_CFG_EN k) = false ∨
        s.since (s.enc k).lastAt < 1000 * max 1 (s.get (R.MOT_ENC_CFG_STOP_TIME k))) → exec (.encoderStandstill k) s = .next s) ∧
      (k < 4 → s.motLive = true → s.flag (R.MOT_ENC_CFG_EN k) = true →
        (∀ dt : Nat, exec (.encoderEdge k (s.enc k).a (s.enc k).b dt) s = .next s) ∧
        (∀ (a b : Bool) (dt : Nat), (a ≠ (s.enc k).a ↔ b = (s.enc k).b) → ∃ t, exec (.encoderEdge k a b dt) s = .next t ∧
          t.rd (R.MOT_ENC_COUNT k) = s.rd (R.MOT_ENC_COUNT k) + (if (quadPos a b + 4 - quadPos (s.enc k).a (s.enc k).b) % 4 = 1 then 1 else -1) ∧
          t.flag (R.MOT_ENC_STAT_DIR k) = ((quadPos a b + 4 - quadPos (s.enc k).a (s.enc k).b) % 4 == 3) ∧
          t.flag (R.MOT_ENC_STAT_STANDSTILL k) = false ∧ (t.enc k).a = a ∧ (t.enc k).b = b ∧
          (∀ j, j < 4 → j ≠ k → t.rd (R.MOT_ENC_COUNT j) = s.rd (R.MOT_ENC_COUNT j)) ∧ t.mem = s.mem ∧ t.edge = s.edge) ∧
        (∀ (a b : Bool) (dt : Nat), a ≠ (s.enc k).a → b ≠ (s.enc k).b → ∃ t, exec (.encoderEdge k a b dt) s = .next t ∧
          t.rd (R.MOT_ENC_COUNT k) = s.rd (R.MOT_ENC_COUNT k) ∧ t.flag (R.MOT_ENC_STAT_QERR_FLAG k) = true ∧ (t.enc k).a = a ∧ (t.enc k).b = b ∧
          OnlyRegs s t [R.MOT_ENC_STAT k, R.LEDGER_SEQ] ∧ t.fe = s.fe) ∧
        ((s.flag (R.MOT_ENC_CFG_Z_GATE k) = false ∨ ((s.enc k).a = true ∧ (s.enc k).b = true)) → ∃ t, exec (.encoderIndex k) s = .next t ∧
          t.rd (R.MOT_ENC_INDEX k) = s.rd (R.MOT_ENC_COUNT k) ∧ (t.enc k).since = 0 ∧ (t.enc k).indexed = true ∧
          t.rd (R.MOT_ENC_COUNT k) = (if s.flag (R.MOT_ENC_CFG_INDEX_RESET k) then 0 else s.rd (R.MOT_ENC_COUNT k)) ∧
          OnlyRegs s t [R.MOT_ENC_INDEX k, R.MOT_ENC_COUNT k, R.MOT_ENC_STAT k, R.LEDGER_SEQ]) ∧
        (1000 * max 1 (s.get (R.MOT_ENC_CFG_STOP_TIME k)) ≤ s.since (s.enc k).lastAt → ∃ t, exec (.encoderStandstill k) s = .next t ∧ t.flag (R.MOT_ENC_STAT_STANDSTILL k) = true ∧
          t.flag (R.MOT_ENC_STAT_SPEED_VALID k) = false ∧ fIsZero (t.enc k).speed = true ∧ OnlyRegs s t [R.MOT_ENC_STAT k])) ∧
      (∀ w v, s.mayWrite w 0x0F = false → w ≠ .service → exec (.encoderEnable w k v) s = .next s) ∧
      (∀ v, s.running = true → s.mayWrite .service 0x0F = false →
        exec (.encoderEnable .service k v) s = .next (s.satInc R.OWN_SVC_STAT_REFUSED)) ∧
      (∀ w v, k < 4 → s.running = true → s.writerLive w = true → s.mayWrite w 0x0F = true → s.md = .commission → s.flag (R.MOT_ENC_CFG_EN k) = false →
        bitOf v (R.MOT_ENC_CFG_EN k).lo = true → ∃ t, exec (.encoderEnable w k v) s = .next t ∧ t.flag (R.MOT_ENC_CFG_EN k) = true ∧
        t.rd (R.MOT_ENC_COUNT k) = 0 ∧ t.get (R.MOT_ENC_STAT_QERR k) = 0 ∧ t.flag (R.MOT_ENC_STAT_STANDSTILL k) = true ∧
        t.mem = s.mem ∧ t.edge = s.edge ∧ (w.stores = false → OnlyRegs s t [R.MOT_ENC_CFG k, R.MOT_ENC_COUNT k, R.MOT_ENC_STAT k])) ∧
      (∀ w v, s.md ≠ .commission → ∃ t, exec (.encoderEnable w k v) s = .next t ∧
        t.flag (R.MOT_ENC_CFG_EN k) = s.flag (R.MOT_ENC_CFG_EN k) ∧ t.rd (R.MOT_ENC_COUNT k) = s.rd (R.MOT_ENC_COUNT k))) ∧
  (∀ (s : State) (k : Nat),
      (∀ code, (3 ≤ k ∨ s.motLive = false ∨ s.flag (R.MOT_HALL_CFG_EN k) = false) → exec (.hallCodeChange k code) s = .next s) ∧
      (∀ code, k < 3 → s.motLive = true → s.flag (R.MOT_HALL_CFG_EN k) = true → s.get (R.MOT_HALL_MAP_SECT k (code % 8)) ≠ 7 → ∃ t,
        exec (.hallCodeChange k code) s = .next t ∧
        (∀ n, n ∈ s.engines → Sparse.get (always 0) (t.eng n).samples (0x7A + k) = fOfNat (s.get (R.MOT_HALL_MAP_SECT k (code % 8)))) ∧
        t.regs = s.regs ∧ t.led = s.led ∧ t = { s with mot := t.mot, fe := t.fe }) ∧
      (∀ code, k < 3 → s.motLive = true → s.flag (R.MOT_HALL_CFG_EN k) = true → s.get (R.MOT_HALL_MAP_SECT k (code % 8)) = 7 →
        Sparse.get (always false) s.mot.hallBad k = false → ∃ t, exec (.hallCodeChange k code) s = .next t ∧ Raised s t 0x0F03 0 0x0F ∧
        Sparse.get (always false) t.mot.hallBad k = true ∧ OnlyRegs s t [R.LEDGER_SEQ]) ∧
      (∀ code, k < 3 → s.motLive = true → s.flag (R.MOT_HALL_CFG_EN k) = true → s.get (R.MOT_HALL_MAP_SECT k (code % 8)) = 7 →
        Sparse.get (always false) s.mot.hallBad k = true → ∃ t, exec (.hallCodeChange k code) s = .next t ∧ t.led = s.led ∧ t.regs = s.regs) ∧
      (∀ (y : Nat) (l : List Nat) (c : Bool) (o : Option Nat), (2 ≤ k ∨ s.motLive = false ∨ s.flag (R.MOT_SENT_CFG_EN k) = false) →
        exec (.sentFrame k y l c o) s = .next s) ∧
      ((2 ≤ k ∨ s.running = false ∨ s.flag (R.MOT_SENT_CFG_EN k) = false ∨ Sparse.get (always false) s.mot.sentTold k = true ∨
        s.since (Sparse.get (always 0) s.mot.sentAt k) < 1000 * s.get (R.MOT_SENT_CFG_TO k)) → exec (.sentLost k) s = .next s) ∧
      (∀ (y : Nat) (l : List Nat) (o : Option Nat), k < 2 → s.motLive = true → s.flag (R.MOT_SENT_CFG_EN k) = true → ∃ t, exec (.sentFrame k y l false o) s = .next t ∧
        t.flag (R.MOT_SENT_STAT_VALID k) = false ∧ OnlyRegs s t [R.MOT_SENT_STAT k] ∧ t.fe = s.fe ∧ t.led = s.led) ∧
      (∀ (y : Nat) (l : List Nat) (m : Nat), k < 2 → s.motLive = true → s.flag (R.MOT_SENT_CFG_EN k) = true → s.syncFits k y = true → l.all (fun x => decide (x < 16)) = true →
        l.length = s.get (R.MOT_SENT_CFG_NIBBLES k) → ∃ t, exec (.sentFrame k y l true (some m)) s = .next t ∧
        t.flag (R.MOT_SENT_STAT_VALID k) = true ∧ t.rd (R.MOT_SENT_SLOW k) = w32 m ∧ t.flag (R.MOT_SENT_STAT_SLOW_RDY k) = true ∧
        t.get (R.MOT_SENT_STAT_ERRORS k) = s.get (R.MOT_SENT_STAT_ERRORS k) ∧
        (∀ n, n ∈ s.engines → Sparse.get (always 0) (t.eng n).samples (0x7D + k) = fOfNat (l.foldl (fun a x => 16 * a + x) 0))) ∧
      (k < 2 → s.running = true → s.flag (R.MOT_SENT_CFG_EN k) = true → Sparse.get (always false) s.mot.sentTold k = false →
        1000 * s.get (R.MOT_SENT_CFG_TO k) ≤ s.since (Sparse.get (always 0) s.mot.sentAt k) → ∃ t, exec (.sentLost k) s = .next t ∧
        t.flag (R.MOT_SENT_STAT_LOST k) = true ∧ Sparse.get (always false) t.mot.sentTold k = true ∧ (∀ n, n ∈ s.engines → Sparse.get (always 0) (t.eng n).sampleFlags (0x7D + k) = 4) ∧
        Raised s t 0x0F04 0 0x0F ∧ OnlyRegs s t [R.MOT_SENT_STAT k, R.LEDGER_SEQ]) ∧
      ((2 ≤ k ∨ s.running = false ∨ s.flag (R.MOT_RES_CFG_EN k) = false) → exec (.resSignal k) s = .next s) ∧
      (k < 2 → s.running = true → s.flag (R.MOT_RES_CFG_EN k) = true → ∃ t, exec (.resSignal k) s = .next t ∧
        Sparse.get (always false) t.mot.resBad k = true ∧ (∀ n, n ∈ s.engines → Sparse.get (always 0) (t.eng n).sampleFlags (0x78 + k) = 4) ∧
        Raised s t 0x0F05 0 0x0F ∧ OnlyRegs s t [R.LEDGER_SEQ]) ∧
      (∀ w v, s.mayWrite w 0x0F = false → w ≠ .service → exec (.resolverEnable w k v) s = .next s) ∧
      (∀ v, s.running = true → s.mayWrite .service 0x0F = false →
        exec (.resolverEnable .service k v) s = .next (s.satInc R.OWN_SVC_STAT_REFUSED)) ∧
      (∀ w v, k < 2 → s.running = true → s.writerLive w = true → s.mayWrite w 0x0F = true → bitOf v 31 = true → bitsOf v 27 24 = bitsOf v 23 20 → s.md = .commission →
        ∃ t, exec (.resolverEnable w k v) s = .next t ∧ t.flag (R.MOT_RES_CFG_CFG_ERR k) = true ∧
        t.flag (R.MOT_RES_CFG_EN k) = s.flag (R.MOT_RES_CFG_EN k) ∧ OnlyRegs s t [R.MOT_RES_CFG k] ∧ t = { s with regs := t.regs }) ∧
      (∀ w v, k < 2 → s.running = true → s.writerLive w = true → s.mayWrite w 0x0F = true → bitOf v 31 = false → s.md = .commission → ∃ t,
        exec (.resolverEnable w k v) s = .next t ∧ t.flag (R.MOT_RES_CFG_EN k) = false ∧ t.mem = s.mem ∧ t.edge = s.edge ∧
        (w.stores = false → OnlyRegs s t [R.MOT_RES_CFG k] ∧ t = { s with regs := t.regs })) ∧
      (∀ w v, k < 2 → s.running = true → s.writerLive w = true → s.mayWrite w 0x0F = true → s.md = .commission → bitOf v 31 = true →
        s.flag (R.EDGE_FC_CFG_EN (bitsOf v 27 24)) = false → s.flag (R.EDGE_FC_CFG_EN (bitsOf v 23 20)) = false → bitsOf v 27 24 < nFast s.part →
        bitsOf v 23 20 < nFast s.part → bitsOf v 27 24 ≠ bitsOf v 23 20 → ∃ t, exec (.resolverEnable w k v) s = .next t ∧
        t.flag (R.MOT_RES_CFG_EN k) = true ∧ t.get (R.MOT_RES_CFG_FC_COS k) = bitsOf v 27 24 ∧ t.get (R.MOT_RES_CFG_FC_SIN k) = bitsOf v 23 20))

/-- Chapter 18.
The model's readings behind its clauses: log 42, 52. -/
def Obligations.SequencedAcquisition : Prop :=
  (∀ (s : State) (k raw sub : Nat),
      ((2 ≤ k ∨ s.running = false ∨ s.flag (R.ACQ_SEQ_CTRL_RUN k) = false ∨ s.seqWaits k = true) → exec (.seqConversion k raw sub) s = .next s) ∧
      (k < 2 → s.running = true → s.flag (R.ACQ_SEQ_CTRL_RUN k) = true → s.seqWaits k = false →
        s.diagnosed (s.get (R.ACQ_SEQ_ENTRY_CHANNEL k (s.get (R.ACQ_SEQ_CTRL_CUR k)))) = true →
        exec (.seqConversion k raw sub) s = .next (s.seqAdvance k)) ∧
      (∀ ch e, k < 2 → s.running = true → s.flag (R.ACQ_SEQ_CTRL_RUN k) = true → s.seqWaits k = false → s.get (R.ACQ_SEQ_CTRL_CUR k) = e → s.diagnosed ch = false →
        s.get (R.ACQ_SEQ_ENTRY_CHANNEL k e) = ch → s.get (R.ACQ_SEQ_ENTRY_GROUP k e) = 15 → ∃ u,
        exec (.seqConversion k raw sub) s = .next (u.seqAdvance k) ∧ u.get (R.ACQ_CH_LAST_CODE ch) = s.seqCode ch raw ∧
        u.get (R.ACQ_CH_LAST_CONV ch) = k ∧
        u.get (R.ACQ_CH_LAST_FLAGS ch) = bit (!s.flag R.ACQ_REF_REF_RDY) + 8 * bit (raw % 65536 = 0 || raw % 65536 = 65535) ∧
        OnlyRegs s u [R.ACQ_CH_LAST ch] ∧ u = { s with regs := u.regs, fe := u.fe }) ∧
      (∀ ch, s.seqCode ch raw ≤ 65535) ∧
      (Sparse.get (always 0) s.acq.reps k + 1 ≤ s.get (R.ACQ_SEQ_ENTRY_REPEAT_M1 k (s.get (R.ACQ_SEQ_CTRL_CUR k))) →
        (s.seqAdvance k).regs = s.regs ∧ Sparse.get (always 0) (s.seqAdvance k).acq.reps k = Sparse.get (always 0) s.acq.reps k + 1 ∧
        s.seqAdvance k = { s with acq := (s.seqAdvance k).acq }) ∧
      (∀ e, k < 2 → s.get (R.ACQ_SEQ_CTRL_CUR k) = e → e < 63 → s.get (R.ACQ_SEQ_ENTRY_REPEAT_M1 k e) ≤ Sparse.get (always 0) s.acq.reps k →
        s.get (R.ACQ_SEQ_ENTRY_GROUP k e) = 15 → s.flag (R.ACQ_SEQ_ENTRY_END k e) = false →
        (s.seqAdvance k).get (R.ACQ_SEQ_CTRL_CUR k) = e + 1 ∧ Sparse.get (always 0) (s.seqAdvance k).acq.reps k = 0 ∧
        OnlyRegs s (s.seqAdvance k) [R.ACQ_SEQ_CTRL k]) ∧
      (∀ e, k < 2 → s.get (R.ACQ_SEQ_CTRL_CUR k) = e → s.get (R.ACQ_SEQ_ENTRY_REPEAT_M1 k e) ≤ Sparse.get (always 0) s.acq.reps k →
        s.get (R.ACQ_SEQ_ENTRY_GROUP k e) = 15 → (s.flag (R.ACQ_SEQ_ENTRY_END k e) = true ∨ e = 63) → s.flag (R.ACQ_SEQ_CTRL_SWAP k) = false →
        (s.seqAdvance k).get (R.ACQ_SEQ_CTRL_CUR k) = 0 ∧
        (s.seqAdvance k).get (R.ACQ_SEQ_CTRL_PASS k) =
          (s.get (R.ACQ_SEQ_CTRL_PASS k) + 1) % 2 ^ ((R.ACQ_SEQ_CTRL_PASS k).hi + 1 - (R.ACQ_SEQ_CTRL_PASS k).lo) ∧
        OnlyRegs s (s.seqAdvance k) [R.ACQ_SEQ_CTRL k])) ∧
  (∀ s : State,
      (∀ (w : Writer) (k e : Nat) (d : Bool) (v : Word), s.mayWrite w 0x0C = false → w ≠ .service → exec (.seqEntryWrite w k e d v) s = .next s ∧ exec (.seqSwap w k) s = .next s) ∧
      (∀ (k e : Nat) (d : Bool) (v : Word), s.running = true → s.mayWrite .service 0x0C = false →
        exec (.seqEntryWrite .service k e d v) s = .next (s.satInc R.OWN_SVC_STAT_REFUSED) ∧
        exec (.seqSwap .service k) s = .next (s.satInc R.OWN_SVC_STAT_REFUSED)) ∧
      (∀ w k e v, s.running = true → s.writerLive w = true → s.mayWrite w 0x0C = true → k < 2 → e < 64 → s.md ≠ .commission → s.entryOk v = true →
        exec (.seqEntryWrite w k e false v) s = .next (s.setShadow (R.ACQ_SEQ_ENTRY k e) (v &&& 0x00FFF1FF#32))) ∧
      (∀ w k e v, s.running = true → s.writerLive w = true → s.mayWrite w 0x0C = true → k < 2 → e < 64 → s.entryOk v = false → ∃ t, exec (.seqEntryWrite w k e false v) s = .next t ∧
        t.flag (R.ACQ_SEQ_CTRL_CFG_ERR k) = true ∧ t.acq = s.acq ∧ OnlyRegs s t [R.ACQ_SEQ_CTRL k] ∧ t = { s with regs := t.regs }) ∧
      (∀ w k e v, s.running = true → s.writerLive w = true → s.mayWrite w 0x0C = true → k < 2 → e < 64 → s.md ≠ .commission →
        exec (.seqEntryWrite w k e true v) s = .next (s.setShadow (R.ACQ_SEQ_DELAY k e) (v &&& 0x0000FFFF#32))) ∧
      (∀ w k, s.running = true → s.writerLive w = true → s.mayWrite w 0x0C = true → k < 2 → s.flag (R.ACQ_SEQ_CTRL_RUN k) = true → ∃ t, exec (.seqSwap w k) s = .next t ∧
        t.flag (R.ACQ_SEQ_CTRL_SWAP k) = true ∧ OnlyRegs s t [R.ACQ_SEQ_CTRL k] ∧ t = { s with regs := t.regs }) ∧
      (∀ w k, s.running = true → s.writerLive w = true → s.mayWrite w 0x0C = true → k < 2 → s.flag (R.ACQ_SEQ_CTRL_RUN k) = false → ∃ t, exec (.seqSwap w k) s = .next t ∧
        t.flag (R.ACQ_SEQ_CTRL_SWAP k) = false ∧ (∀ e, e < 64 → t.rd (R.ACQ_SEQ_ENTRY k e) = s.shadow (R.ACQ_SEQ_ENTRY k e) ∧
        t.rd (R.ACQ_SEQ_DELAY k e) = s.shadow (R.ACQ_SEQ_DELAY k e)) ∧
        (∃ e, t.host.events = s.host.events ++ [e] ∧ e.code = 0x50F1 ∧ e.source = 0x0C) ∧ t = { s with regs := t.regs, host := t.host, free := t.free }) ∧
      (∀ c : Cmd, c.target = 0x0C → s.startable c 0x5000 = true → s.modeOk 0x5000 false = true → arg c 16 1 ≤ 1 → 1 ≤ arg c 18 1 → arg c 17 1 + arg c 18 1 ≤ 64 →
        4 + 8 * arg c 18 1 ≤ c.payload.length →
        (s.md ≠ .commission → arg c 19 1 = 0 → (∀ i, i < arg c 18 1 → s.entryOk (argW c (20 + 8 * i)) = true) → ∃ t,
          exec (.acqSeqWrite c) s = .next t ∧ (∀ i, i < arg c 18 1 →
            t.shadow (R.ACQ_SEQ_ENTRY (arg c 16 1) (arg c 17 1 + i)) = argW c (20 + 8 * i) &&& 0x00FFF1FF#32 ∧
            t.shadow (R.ACQ_SEQ_DELAY (arg c 16 1) (arg c 17 1 + i)) = argW c (24 + 8 * i) &&& 0x0000FFFF#32) ∧
          Answered s t c .ok ∧ t.regs = s.regs ∧ t = { s with acq := t.acq, host := t.host }) ∧
        (∀ i, i < arg c 18 1 → s.entryOk (argW c (20 + 8 * i)) = false → exec (.acqSeqWrite c) s = .next (s.finish c .badParam))) ∧
      (∀ c : Cmd, c.target = 0x0C → s.startable c 0x5001 = true → s.modeOk 0x5001 false = true → 2 ≤ c.payload.length → arg c 16 1 ≤ 1 → arg c 17 1 = 1 →
        s.flag (R.ACQ_SEQ_CTRL_RUN (arg c 16 1)) = false → ∃ t, exec (.acqSeqRun c) s = .next t ∧
        t.flag (R.ACQ_SEQ_CTRL_RUN (arg c 16 1)) = true ∧ t.get (R.ACQ_SEQ_CTRL_CUR (arg c 16 1)) = 0 ∧
        t.get (R.ACQ_SEQ_CTRL_PASS (arg c 16 1)) = 0 ∧ Answered s t c .ok ∧ OnlyRegs s t [R.ACQ_SEQ_CTRL (arg c 16 1)]) ∧
      (∀ c : Cmd, c.target = 0x0C → s.startable c 0x5001 = true → s.modeOk 0x5001 false = true → 2 ≤ c.payload.length → arg c 16 1 ≤ 1 → arg c 17 1 = 1 →
        s.flag (R.ACQ_SEQ_CTRL_RUN (arg c 16 1)) = true → exec (.acqSeqRun c) s = .next (s.finish c .ok)) ∧
      (∀ c : Cmd, c.target = 0x0C → s.startable c 0x5002 = true → s.modeOk 0x5002 true = true → 1 ≤ c.payload.length → arg c 16 1 ≤ 7 → ∃ t, exec (.acqGrpFetch c) s = .next t ∧
        Answered s t c .ok (pair64 (takeHandles (Sparse.get (always []) s.mkt.queues (grpChan (arg c 16 1))) c.len).length
          (s.readGood (takeHandles (Sparse.get (always []) s.mkt.queues (grpChan (arg c 16 1))) c.len)).2.length) true ∧
        Sparse.get (always []) t.mkt.queues (grpChan (arg c 16 1)) = (Sparse.get (always []) s.mkt.queues (grpChan (arg c 16 1))).drop
          (takeHandles (Sparse.get (always []) s.mkt.queues (grpChan (arg c 16 1))) c.len).length ∧
        (c.master < 2 → t.mem.sram = s.mem.sram) ∧ t.mem.mram = s.mem.mram ∧ t.acq = s.acq) ∧
      (∀ (q : List (Bool × Nat × Nat)) (n : Nat), takeHandles q n <+: q ∧ ((takeHandles q n).map (·.2.1)).sum ≤ n))

/-- Chapter 18.
The model's readings behind its clauses: log 58. -/
def Obligations.ReferenceCalibrationDiagnosis : Prop :=
  ∀ s : State,
    (s.running = true → s.flag R.ACQ_REF_REF_BUF_EN = true → 2000 ≤ s.since s.acq.refAt → exec (.refReady true) s = .next (s.putB R.ACQ_REF_REF_RDY true)) ∧
    (exec (.refReady false) s = .next s) ∧ (s.since s.acq.refAt < 2000 → exec (.refReady true) s = .next s) ∧
    ((s.running = false ∨ s.flag R.ACQ_REF_REF_BUF_EN = false) → exec (.refReady true) s = .next s ∧ exec .refFault s = .next s) ∧
    (s.flag R.ACQ_REF_REF_RDY = false → exec .refFault s = .next s) ∧
    (s.running = true → s.flag R.ACQ_REF_REF_BUF_EN = true → s.flag R.ACQ_REF_REF_RDY = true → ∃ t, exec .refFault s = .next t ∧ t.flag R.ACQ_REF_REF_RDY = false ∧
      t.flag R.ACQ_REF_FAULT = true ∧ Raised s t 0x0C01 2 0x0C ∧ OnlyRegs s t [R.ACQ_REF, R.LEDGER_SEQ] ∧
      t = { s with regs := t.regs, led := t.led, free := t.free }) ∧
    (∀ w v, s.mayWrite w 0x0C = false → w ≠ .service → exec (.refBufferWrite w v) s = .next s) ∧
    (∀ v, s.running = true → s.mayWrite .service 0x0C = false → exec (.refBufferWrite .service v) s = .next (s.satInc R.OWN_SVC_STAT_REFUSED)) ∧
    (∀ w v, s.running = true → s.writerLive w = true → s.mayWrite w 0x0C = true → bitOf v 0 = true → ∃ t, exec (.refBufferWrite w v) s = .next t ∧ t.flag R.ACQ_REF_REF_BUF_EN = true ∧
      (bitOf v 2 = true → t.flag R.ACQ_REF_FAULT = false) ∧
      t.acq.refAt = (if s.flag R.ACQ_REF_REF_BUF_EN then s.acq.refAt else s.atime) ∧ OnlyRegs s t [R.ACQ_REF] ∧ t = { s with regs := t.regs, acq := t.acq }) ∧
    (∀ w v, s.running = true → s.writerLive w = true → s.mayWrite w 0x0C = true → bitOf v 0 = false → bitOf v 2 = false → s.md ≠ .service → exec (.refBufferWrite w v) s = .next s) ∧
    (∀ w v, s.running = true → s.writerLive w = true → s.mayWrite w 0x0C = true → bitOf v 0 = false → s.md = .service → ∃ t, exec (.refBufferWrite w v) s = .next t ∧
      t.flag R.ACQ_REF_REF_BUF_EN = false ∧ t.flag R.ACQ_REF_REF_RDY = false ∧ OnlyRegs s t [R.ACQ_REF]) ∧
    (∀ c : Cmd, c.target = 0x0C → s.calPayload c = true → s.fastInUse (arg c 16 2) = false →
      (s.startable c 0x5003 = true → (s.md = .commission ∨ s.md = .service) → s.flag R.ACQ_REF_REF_RDY = true →
        s.insertBusy (arg c 16 2) (arg c 18 1) = false → ∃ t, exec (.acqCalZero c) s = .next t ∧ t = { s.begin c with acq := t.acq } ∧
        t.acq.inserts = s.acq.inserts ++ [{ kind := 0, chan := arg c 16 2, conv := arg c 18 1, master := c.master, tag := c.tag, y := 0 }]) ∧
      (s.startable c 0x5004 = true → (s.md = .commission ∨ s.md = .service) → s.flag R.ACQ_REF_REF_RDY = true → s.insertBusy (arg c 16 2) (arg c 18 1) = false →
        8 ≤ c.payload.length → fFinite (argW c 20) = true → (Sparse.get (always none) s.acq.zeros (arg c 16 2)).isSome = true → ∃ t,
        exec (.acqCalSpan c) s = .next t ∧ t = { s.begin c with acq := t.acq } ∧
        t.acq.inserts = s.acq.inserts ++
          [{ kind := 1, chan := arg c 16 2, conv := arg c 18 1, master := c.master, tag := c.tag, y := argW c 20 }]) ∧
      (s.startable c 0x5006 = true → s.md = .standby → s.flag R.ACQ_REF_REF_RDY = true → (s.acq.inserts.filter fun i => i.kind = 2).length < 2 →
        s.insertBusy (arg c 16 2) (arg c 18 1) = false → ∃ t, exec (.acqDiag c) s = .next t ∧ t = { s.begin c with acq := t.acq } ∧
        t.acq.inserts = s.acq.inserts ++ [{ kind := 2, chan := arg c 16 2, conv := arg c 18 1, master := c.master, tag := c.tag, y := 0 }]) ∧
      ((s.md = .commission ∨ s.md = .service) → s.flag R.ACQ_REF_REF_RDY = false →
        (s.startable c 0x5003 = true → exec (.acqCalZero c) s = .next (s.finish c .busyRetry)) ∧
        (s.startable c 0x5006 = true → exec (.acqDiag c) s = .next (s.finish c .busyRetry)))) ∧
    (∀ c : Cmd, c.target = 0x0C → s.calPayload c = true → s.fastInUse (arg c 16 2) = true → s.md = .service →
      (s.startable c 0x5003 = true → exec (.acqCalZero c) s = .next (s.finish c .safetyBlocked)) ∧
      (s.startable c 0x5006 = true → exec (.acqDiag c) s = .next (s.finish c .safetyBlocked))) ∧
    (∀ c : Cmd, c.target = 0x0C → s.startable c 0x5005 = true → s.md = .commission → ∃ t, exec (.acqCalStore c) s = .next t ∧ t.led.present = true ∧
      t.flag R.LEDGER_COMM_STATUS_CHANGED = true ∧ t.flag R.LEDGER_COMM_STATUS_CONFIRMED = false ∧
      (∀ a, a ∈ s.calRegs → Sparse.get (resetValue s.part) t.led.stored.cal a = s.rd a) ∧ Answered s t c .ok ∧ t.acq = s.acq) ∧
    (∀ (ch : Nat) (a b : Int) (g : Bool), s.acq.inserts.find? (fun i => i.chan = ch) = none → exec (.acqInsertionDone ch a b g) s = .next s) ∧
    (∀ (ch : Nat) (a b : Int) (g : Bool) (i : Insert), s.acq.inserts.find? (fun i => i.chan = ch) = some i → i.kind = 0 → i.master < 3 → ∃ t,
      exec (.acqInsertionDone ch a b g) s = .next t ∧ Sparse.get (always none) t.acq.zeros ch = some (a, g) ∧
      t.acq.inserts = s.acq.inserts.erase i ∧ t.regs = s.regs ∧
      (∃ r, t.host.results = s.host.results ++ [r] ∧ r.tag = i.tag ∧ r.status = .ok ∧ r.value = (fDiv (fOfInt a) (fOfNat 256)).toNat)) ∧
    (∀ (ch : Nat) (a b : Int) (g : Bool) (i : Insert), s.acq.inserts.find? (fun i => i.chan = ch) = some i → i.kind = 2 → i.chan < 0x100 →
      1000 * (a - 16384 * 16).natAbs > s.get R.ACQ_DIAG_CFG_DIAG_TOL * 65536 * 16 → ∃ t,
      exec (.acqInsertionDone ch a b g) s = .next t ∧ Raised s t 0x0C02 0 0x0C ∧ t.acq.inserts = s.acq.inserts.erase i ∧
      OnlyRegs s t [R.LEDGER_SEQ])

/-- Chapter 19.
The model's readings behind its clauses: log 45, 46, 57. -/
def Obligations.WardenPairs : Prop :=
  ∀ s : State,
    (∀ (k : Nat) (x : WindowIn), (2 ≤ k ∨ s.running = false ∨ s.inService k = false) → exec (.wardenWindowClose k x) s = .next s) ∧
    (∀ (k : Nat) (x : WindowIn), k < 2 → s.running = true → s.inService k = true → gateCause x.gate = none →
      exec (.wardenWindowClose k x) s = .next (((s.windowCounts k x).releaseWindow k x).wardenCanary k x.gate) ∧
      (s.windowCounts k x).rd (R.PAIR_W_RETIRED k) = s.rd (R.PAIR_W_RETIRED k) + w32 x.retired ∧
      (s.windowCounts k x).get (R.PAIR_W_STAT_TS_NOW k) = 0 ∧ ((s.windowCounts k x).warden k).window = (s.warden k).window + 1) ∧
    (∀ (k : Nat) (x : WindowIn) (cs : Nat), k < 2 → s.running = true → s.inService k = true → gateCause x.gate = some cs →
      exec (.wardenWindowClose k x) s = .next (s.wardenDiverge k cs x.gate.main x.gate.checker)) ∧
    (∀ g : GateIn, (g.main % 2 ^ 64 ≠ g.checker % 2 ^ 64 → gateCause g = some 0) ∧
      (gateCause g = none → g.main % 2 ^ 64 = g.checker % 2 ^ 64 ∧ g.parity = false ∧ g.ueRead = false ∧ g.comparator = false)) ∧
    (∀ k cause m ck, k < 2 → s.inService k = true → s.pairSt (1 - k) ≠ 6 →
      (s.wardenDiverge k cause m ck).pairSt k = (if (s.warden k).divergences = 0 then 2 else 8) ∧
      (∀ u, (k, u) ∉ (s.wardenDiverge k cause m ck).edge.grants ∧ (k, u) ∉ (s.wardenDiverge k cause m ck).edge.synced) ∧
      (∃ r, r ∈ (s.wardenDiverge k cause m ck).led.arriving ∧ r.code = 0x1001 ∧ r.sev = (if s.inService (1 - k) then 1 else 2) ∧ r.unit = 0x10) ∧
      (s.wardenDiverge k cause m ck).mem = s.mem) ∧
    (∀ u cause m ck, u < 2 → s.running = true → s.inService u = true →
      exec (.divergence u cause m ck) s = .next (s.wardenDiverge u (cause % 4) m ck)) ∧
    (∀ u cause m ck, (u < 2 → s.inService u = false) → (0x80 ≤ u → u < 0x88 → s.bitAt R.PAIR_STATUS_FE_IN_SERVICE (u - 0x80) = false) →
      exec (.divergence u cause m ck) s = .next s) ∧
    (∀ n cause m ck, n < 8 → s.running = true → s.bitAt R.PAIR_STATUS_FE_IN_SERVICE n = true → (s.eng n).inTick = false → ∃ t,
      exec (.divergence (0x80 + n) cause m ck) s = .next t ∧ t.bitAt R.PAIR_STATUS_FE_IN_SERVICE n = false ∧
      t.bitAt R.PAIR_STATUS_FE_DIVERGED n = true ∧ Raised s t 0x1002 (s.missSeverity n) (0x80 + n) ∧ t.mem = s.mem ∧ t.edge = s.edge) ∧
    (∀ c : Cmd, c.target = 0x10 → s.startable c 0x0140 = true → s.md = .standby → 2 ≤ c.payload.length → arg c 16 1 = 0 → arg c 17 1 = 0 →
      natBit (s.get R.SYS_STRAP_LATCHED) 2 = false → s.pairSt 0 = 1 → s.inService 1 = true → ∃ t, exec (.pairSplit c) s = .next t ∧
      t.pairSt 0 = 3 ∧ t.get (R.PAIR_CHECKIN_TOKEN 0) = 0 ∧ t.get (R.PAIR_CHECKIN_TOKEN 1) = 0 ∧
      (∀ u, u < 10 → (t.lines 0 u).enable = false) ∧ (∃ r, r ∈ t.led.arriving ∧ r.code = 0x1005 ∧ r.sev = 0) ∧ Answered s t c .ok 3) ∧
    (∀ c : Cmd, c.target = 0x10 → s.startable c 0x0140 = true → s.md = .drive → arg c 16 1 = 0 → exec (.pairSplit c) s = .next (s.finish c .rejectedMode)) ∧
    (∀ c : Cmd, c.target = 0x10 → s.startable c 0x0140 = true → s.md.fromDiscover = true → 2 ≤ c.payload.length → arg c 16 1 = 1 → arg c 17 1 = 0 →
      natBit (s.get R.SYS_STRAP_LATCHED) 2 = false → s.pairSt 0 = 3 → ∃ t, exec (.pairRejoin c true) s = .next t ∧ t.pairSt 0 = 1 ∧
      (∀ u, u < 10 → s.forceOn u = none → t.lines 0 u = s.lines 1 u) ∧ t.counts 0 = false ∧ (∃ r, r ∈ t.led.arriving ∧ r.code = 0x1006 ∧ r.sev = 0) ∧ Answered s t c .ok 1) ∧
    (∀ c : Cmd, c.target = 0x10 → s.startable c 0x0141 = true → s.md.fromDiscover = true →
      exec (.pairStatus c) s = .next (s.finish c .ok (pair64 (s.rd R.PAIR_STATUS).toNat (s.rd R.PAIR_DIV_INFO).toNat))) ∧
    (∀ w j v, ¬(j = 0 ∧ w = .coreA0) → ¬(j = 1 ∧ w = .coreA1) → w ≠ .service → exec (.pairCheckin w j v) s = .next s) ∧
    (∀ j v, s.running = true → s.mayWrite .service 0x10 = false →
      exec (.pairCheckin .service j v) s = .next (s.satInc R.OWN_SVC_STAT_REFUSED)) ∧
    (∀ w j v, s.running = true → ((j = 0 ∧ w = .coreA0) ∨ (j = 1 ∧ w = .coreA1)) → s.coreRuns j = true → s.inService 1 = true →
      (bitsOf v 15 0 = (s.get (R.PAIR_CHECKIN_TOKEN j) + 1) % 65536 → ∃ t, exec (.pairCheckin w j v) s = .next t ∧
        t.get (R.PAIR_CHECKIN_TOKEN j) = bitsOf v 15 0 ∧ Sparse.get (always 0) t.pair.checkAt j = s.atime ∧ t.coreRuns j = true ∧ t.led = s.led) ∧
      (bitsOf v 15 0 ≠ (s.get (R.PAIR_CHECKIN_TOKEN j) + 1) % 65536 → ∃ t, exec (.pairCheckin w j v) s = .next t ∧ t.coreRuns j = false ∧
        Raised s t 0x1008 1 0x10)) ∧
    (∀ j, s.coreRuns j = true → s.inService 1 = true → s.get R.PAIR_SUP_CFG_SUP_TIME ≤ s.since (Sparse.get (always 0) s.pair.checkAt j) → ∃ t,
      exec (.supervisionMiss j) s = .next t ∧ t.coreRuns j = false ∧ Raised s t 0x1008 1 0x10 ∧
      t = { s with regs := t.regs, pair := t.pair, led := t.led, free := t.free }) ∧
    (∀ j, (s.coreRuns j = false ∨ s.since (Sparse.get (always 0) s.pair.checkAt j) < s.get R.PAIR_SUP_CFG_SUP_TIME) → exec (.supervisionMiss j) s = .next s)

/-- Chapters 19 and 24.
The model's readings behind its clauses: log 45, 49. -/
def Obligations.Debugger : Prop :=
  ∀ (s : State) (w : Writer),
    (∀ t v, ((s.mayWrite w 0x16 = false ∧ w ≠ .service) ∨ s.running = false) → exec (.dbgHalt w t) s = .next s ∧ exec (.dbgStep w t) s = .next s ∧
      exec (.dbgResume w t) s = .next s ∧ exec (.dbgMemWrite w v) s = .next s ∧ exec (.dbgRegWrite w v) s = .next s) ∧
    (∀ t v, s.running = true → s.mayWrite .service 0x16 = false → exec (.dbgHalt .service t) s = .next (s.satInc R.OWN_SVC_STAT_REFUSED) ∧
      exec (.dbgStep .service t) s = .next (s.satInc R.OWN_SVC_STAT_REFUSED) ∧
      exec (.dbgResume .service t) s = .next (s.satInc R.OWN_SVC_STAT_REFUSED) ∧
      exec (.dbgMemWrite .service v) s = .next (s.satInc R.OWN_SVC_STAT_REFUSED) ∧
      exec (.dbgRegWrite .service v) s = .next (s.satInc R.OWN_SVC_STAT_REFUSED)) ∧
    (∀ t, t < 2 → s.running = true → s.writerLive w = true → s.mayWrite w 0x16 = true → (s.dbgMayChange = false ∨ s.inService (1 - t) = false) → ∃ u,
      exec (.dbgHalt w t) s = .next u ∧ u.flag R.DBG_STATUS_REFUSED = true ∧ u.pair = s.pair ∧ u.pairSt t = s.pairSt t ∧
      OnlyRegs s u [R.DBG_CTRL, R.DBG_STATUS] ∧ u = { s with regs := u.regs }) ∧
    (∀ t, t < 2 → s.running = true → s.writerLive w = true → s.mayWrite w 0x16 = true → s.dbgMayChange = true → s.inService (1 - t) = true → s.inService t = true →
      s.dbgIsHalted t = false → ∃ u, exec (.dbgHalt w t) s = .next u ∧ u.pairSt t = 6 ∧ u.dbgIsHalted t = true ∧
      u.flag R.DBG_STATUS_HALTED = true ∧ u.get R.DBG_CTRL_TARGET = t ∧ (∀ n, (t, n) ∉ u.edge.grants) ∧ u.mem = s.mem) ∧
    (∀ t, t < 2 → s.running = true → s.writerLive w = true → s.mayWrite w 0x16 = true → s.dbgMayChange = true → s.dbgIsHalted t = true → ∃ u,
      exec (.dbgStep w t) s = .next u ∧ u.rd (R.PAIR_W_RETIRED t) = s.rd (R.PAIR_W_RETIRED t) + 1 ∧ (u.warden t).replay = [] ∧
      u.get (R.PAIR_W_STAT_REPLAY t) = 0 ∧ u.dbgIsHalted t = true ∧ u.mem = s.mem) ∧
    (∀ t, t < 2 → s.running = true → s.writerLive w = true → s.mayWrite w 0x16 = true → s.dbgIsHalted t = false → ∃ u, exec (.dbgResume w t) s = .next u ∧
      u.flag R.DBG_STATUS_REFUSED = true ∧ OnlyRegs s u [R.DBG_CTRL, R.DBG_STATUS] ∧ u = { s with regs := u.regs }) ∧
    (∀ t, t < 2 → s.running = true → s.writerLive w = true → s.mayWrite w 0x16 = true → s.dbgIsHalted t = true → ∃ u, exec (.dbgResume w t) s = .next u ∧
      u.pairSt t = 1 ∧ u.dbgIsHalted t = false ∧ u.flag R.DBG_STATUS_HALTED = false ∧ (u.warden t).replay = [] ∧
      u.counts t = false ∧
      (∀ n, n < 10 → s.forceOn n = none → s.inService (1 - t) = true → u.lines t n = s.lines (1 - t) n)) ∧
    (s.running = true → s.md.fromDiscover = false → exec .dbgMemRead s = .next (s.putB R.DBG_STATUS_REFUSED true) ∧
      exec .dbgRegRead s = .next (s.putB R.DBG_STATUS_REFUSED true)) ∧
    (s.running = true → s.md.fromDiscover = true → s.dbgTargetOk (s.get R.DBG_CTRL_TARGET) = true → ∃ u, exec .dbgMemRead s = .next u ∧
      u.rd R.DBG_DATA = (if (s.dbgAccess (s.get R.DBG_CTRL_TARGET) false 0).store.resp = respOk
        then w32 (s.dbgAccess (s.get R.DBG_CTRL_TARGET) false 0).store.data else 0)) ∧
    (∀ v, s.running = true → s.writerLive w = true → s.mayWrite w 0x16 = true → (s.dbgMayChange = false ∨ s.dbgTargetOk (s.get R.DBG_CTRL_TARGET) = false) →
      exec (.dbgMemWrite w v) s = .next (s.putB R.DBG_STATUS_REFUSED true)) ∧
    (∀ v, s.running = true → s.writerLive w = true → s.mayWrite w 0x16 = true → s.dbgMayChange = true → s.dbgTargetOk (s.get R.DBG_CTRL_TARGET) = true → ∃ u,
      exec (.dbgMemWrite w v) s = .next u ∧ u.rd R.DBG_DATA = v ∧
      u.mem = ((s.wr R.DBG_DATA v).dbgAccess (s.get R.DBG_CTRL_TARGET) true v).mem) ∧
    (s.running = true → s.md.fromDiscover = true → s.dbgTargetOk (s.get R.DBG_CTRL_TARGET) = true → ∃ u, exec .dbgRegRead s = .next u ∧
      u.rd R.DBG_REG_DATA = s.dbgReg (s.get R.DBG_CTRL_TARGET) (s.get R.DBG_REG_INDEX_INDEX) ∧ u.mem = s.mem) ∧
    (∀ v, s.running = true → s.writerLive w = true → s.mayWrite w 0x16 = true → s.dbgIsHalted (s.get R.DBG_CTRL_TARGET) = false →
      exec (.dbgRegWrite w v) s = .next (s.putB R.DBG_STATUS_REFUSED true)) ∧
    (∀ v, s.running = true → s.writerLive w = true → s.mayWrite w 0x16 = true → s.dbgMayChange = true → s.dbgTargetOk (s.get R.DBG_CTRL_TARGET) = true →
      s.dbgIsHalted (s.get R.DBG_CTRL_TARGET) = true → (s.warden (s.get R.DBG_CTRL_TARGET)).replay.length < 64 → ∃ u,
      exec (.dbgRegWrite w v) s = .next u ∧ u.rd R.DBG_REG_DATA = v ∧
      u.dbgReg (s.get R.DBG_CTRL_TARGET) (s.get R.DBG_REG_INDEX_INDEX) = v ∧ u.mem = s.mem)

/-- Chapter 20.
The model's readings behind its clauses: log 47. -/
def Obligations.SafetyInputsAndOutputs : Prop :=
  (∀ (s : State) (n : Nat),
      (8 ≤ n → (∀ b l : Bool, exec (.sinContactChange n b l) s = .next s) ∧ (∀ b : Bool, exec (.sinFiltered n b) s = .next s) ∧
        exec (.sinDiscrepancy n) s = .next s) ∧
      (∀ b l : Bool, n < 8 → ∃ t, exec (.sinContactChange n b l) s = .next t ∧ (if b then (t.sin n).rawB = l else (t.sin n).rawA = l) ∧
        (t.sin n).a = (s.sin n).a ∧ (t.sin n).b = (s.sin n).b ∧ (∀ m, m ≠ n → t.sin m = s.sin m) ∧ t.regs = s.regs ∧ t = { s with safe := t.safe }) ∧
      (((s.sin n).rawA = (s.sin n).a ∨ s.running = false ∨ s.bankLive 1 = false ∨ s.since (s.sin n).atA < 100 * s.get (R.SAFE_SIN_CFG_FILT n)) →
        exec (.sinFiltered n false) s = .next s) ∧
      (((s.sin n).rawB = (s.sin n).b ∨ s.running = false ∨ s.bankLive 1 = false ∨ s.since (s.sin n).atB < 100 * s.get (R.SAFE_SIN_CFG_FILT n)) →
        exec (.sinFiltered n true) s = .next s) ∧
      (n < 8 → s.running = true → s.flag (R.SAFE_SIN_CFG_EN n) = true → s.flag (R.SAFE_SIN_CFG_FAST n) = false →
        s.bitAt R.SAFE_SIN_STATUS_DISC n = false → s.bankLive 1 = true →
        100 * s.get (R.SAFE_SIN_CFG_FILT n) ≤ s.since (s.sin n).atA → (s.sin n).rawA ≠ (s.sin n).a → ∃ t, exec (.sinFiltered n false) s = .next t ∧
        (t.sin n).a = (s.sin n).rawA ∧ t.bitAt R.SAFE_SIN_STATUS_DEMAND n = (!(s.sin n).rawA || s.demandB n) ∧
        OnlyRegs s t [R.SAFE_SIN_STATUS] ∧ t = { s with regs := t.regs, safe := t.safe }) ∧
      (n < 8 → s.running = true → s.flag (R.SAFE_SIN_CFG_EN n) = true → s.flag (R.SAFE_SIN_CFG_FAST n) = false →
        s.bitAt R.SAFE_SIN_STATUS_DISC n = false → s.bankLive 1 = true →
        100 * s.get (R.SAFE_SIN_CFG_FILT n) ≤ s.since (s.sin n).atB → (s.sin n).rawB ≠ (s.sin n).b → ∃ t, exec (.sinFiltered n true) s = .next t ∧
        (t.sin n).b = (s.sin n).rawB ∧
        t.bitAt R.SAFE_SIN_STATUS_DEMAND n = (s.demandA n || ((s.sin n).rawB == s.flag (R.SAFE_SIN_CFG_ANTI n))) ∧ OnlyRegs s t [R.SAFE_SIN_STATUS]) ∧
      (n < 8 → s.running = true → s.flag (R.SAFE_SIN_CFG_EN n) = true → s.flag (R.SAFE_SIN_CFG_FAST n) = true →
        s.bitAt R.SAFE_SIN_STATUS_DEMAND n = false → s.bitAt R.SAFE_SIN_STATUS_FAST_FIRED n = false → s.bankLive 1 = true →
        100 * s.get (R.SAFE_SIN_CFG_FILT n) ≤ s.since (s.sin n).atA → (s.sin n).rawA = false → (s.sin n).a = true → ∃ t,
        exec (.sinFiltered n false) s = .next t ∧ t.bitAt R.SAFE_SIN_STATUS_DEMAND n = true ∧ t.bitAt R.SAFE_SIN_STATUS_FAST_FIRED n = true ∧
        (∀ u, u ∈ mapUnits (s.get (R.SAFE_SIN_MAP_FUNC n)) → (t.forceOn u).isSome = true ∧
          ∀ m, m ∈ s.unitChans u → (t.chan m).high = false)) ∧
      (((s.sin n).timer = none ∨ s.since (s.sin n).timerAt < 1000 * s.get (R.SAFE_SIN_CFG_DISC n)) → exec (.sinDiscrepancy n) s = .next s) ∧
      (∀ b : Bool, n < 8 → s.running = true → s.flag (R.SAFE_SIN_CFG_EN n) = true → s.flag (R.SAFE_SIN_CFG_FAST n) = false → (s.sin n).timer = some b →
        1000 * s.get (R.SAFE_SIN_CFG_DISC n) ≤ s.since (s.sin n).timerAt → ∃ t,
        exec (.sinDiscrepancy n) s = .next t ∧ t.bitAt R.SAFE_SIN_STATUS_DISC n = true ∧ t.bitAt R.SAFE_SIN_STATUS_DEMAND n = true ∧
        (t.sin n).timer = none ∧ Raised s t 0x1101 0 0x11 ∧ OnlyRegs s t [R.SAFE_SIN_STATUS, R.LEDGER_SEQ]) ∧
      (∀ w v, w.isWarden = false → w ≠ .service → exec (.fastClear w v) s = .next s) ∧
      (∀ v, s.running = true → s.mayWrite .service 0x11 = false → exec (.fastClear .service v) s = .next (s.satInc R.OWN_SVC_STAT_REFUSED)) ∧
      (∀ w v, w.isWarden = true → s.running = true → s.writerLive w = true → n < 8 → ∃ t, exec (.fastClear w v) s = .next t ∧ t.bitAt R.SAFE_SIN_STATUS_FAST_FIRED n =
        (s.bitAt R.SAFE_SIN_STATUS_FAST_FIRED n && (!bitOf v n || s.bitAt R.SAFE_SIN_STATUS_DEMAND n)) ∧
        t.bitAt R.SAFE_SIN_STATUS_DEMAND n = s.bitAt R.SAFE_SIN_STATUS_DEMAND n)) ∧
  (∀ (s : State) (n : Nat),
      ((6 ≤ n ∨ s.soutOn n = false ∨ s.flag (R.SAFE_SOUT_CFG_TEST_EN n) = false ∨ (s.sout n).stage ≠ 0 ∨
        s.since (s.sout n).at_ < 1000000 * s.get (R.SAFE_SOUT_CFG_TP_PERIOD n)) → exec (.soutTestPulse n) s = .next s) ∧
      (n < 6 → s.soutOn n = true → s.flag (R.SAFE_SOUT_CFG_TEST_EN n) = true → (s.sout n).stage = 0 →
        1000000 * s.get (R.SAFE_SOUT_CFG_TP_PERIOD n) ≤ s.since (s.sout n).at_ → s.soutPending n = false → ∃ t,
        exec (.soutTestPulse n) s = .next t ∧ (t.sout n).stage = 1 ∧ t.bitAt R.SAFE_SOUT_STATUS_READBACK n = false ∧ t.soutOn n = true ∧
        OnlyRegs s t [R.SAFE_SOUT_STATUS] ∧ t = { s with regs := t.regs, safe := t.safe }) ∧
      (n < 6 → s.soutOn n = true → s.flag (R.SAFE_SOUT_CFG_TEST_EN n) = true → (s.sout n).stage = 0 →
        1000000 * s.get (R.SAFE_SOUT_CFG_TP_PERIOD n) ≤ s.since (s.sout n).at_ → s.soutPending n = true → ∃ t,
        exec (.soutTestPulse n) s = .next t ∧ (t.sout n).owed = true ∧ (t.sout n).defers = (s.sout n).defers + 1 ∧ (t.sout n).stage = 0 ∧
        (((s.sout n).defers + 1) % 3 = 0 → Raised s t 0x1103 1 0x11) ∧ (((s.sout n).defers + 1) % 3 ≠ 0 → t.led = s.led) ∧
        OnlyRegs s t [R.LEDGER_SEQ]) ∧
      (∀ low : Bool, ((s.sout n).stage = 0 ∨ (s.sout n).stage = 3 ∨
        ((s.sout n).stage = 1 ∧ s.since (s.sout n).at_ < s.get (R.SAFE_SOUT_CFG_TP_WIDTH n))) → exec (.soutTestPulseEnd n low) s = .next s) ∧
      (∀ low : Bool, n < 6 → (s.sout n).stage = 1 → s.get (R.SAFE_SOUT_CFG_TP_WIDTH n) ≤ s.since (s.sout n).at_ → ∃ t, exec (.soutTestPulseEnd n low) s = .next t ∧ (t.sout n).stage = 3 ∧ (t.sout n).low = low ∧
        t.bitAt R.SAFE_SOUT_STATUS_READBACK n = true ∧ OnlyRegs s t [R.SAFE_SOUT_STATUS] ∧ t = { s with regs := t.regs, safe := t.safe }) ∧
      (∀ high : Bool, ((s.sout n).stage ≠ 3 ∨ s.since (s.sout n).at_ < 200) → exec (.soutTestJudge n high) s = .next s) ∧
      (n < 6 → (s.sout n).stage = 3 → 200 ≤ s.since (s.sout n).at_ → (s.sout n).low = true → ∃ t, exec (.soutTestJudge n true) s = .next t ∧ (t.sout n).stage = 0 ∧
        (t.sout n).failed = false ∧ t.led = s.led ∧ OnlyRegs s t [R.SAFE_SOUT_STATUS]) ∧
      (∀ high : Bool, n < 6 → (s.sout n).stage = 3 → 200 ≤ s.since (s.sout n).at_ → (s.sout n).low = false → ∃ t, exec (.soutTestJudge n high) s = .next t ∧ (t.sout n).failed = true ∧
        t.bitAt R.SAFE_SOUT_STATUS_TEST_FAIL n = true ∧ Raised s t 0x1102 2 0x11 ∧ OnlyRegs s t [R.SAFE_SOUT_STATUS, R.LEDGER_SEQ]) ∧
      (n < 6 → (s.sout n).stage = 3 → 200 ≤ s.since (s.sout n).at_ → (s.sout n).low = true → ∃ t, exec (.soutTestJudge n false) s = .next t ∧
        t.bitAt R.SAFE_SOUT_STATUS_STUCK n = true ∧ Raised s t 0x1105 0 0x11 ∧ OnlyRegs s t [R.SAFE_SOUT_STATUS, R.LEDGER_SEQ]) ∧
      ((6 ≤ n ∨ s.running = false ∨ (s.sout n).stage = 1 ∨ (s.sout n).stage = 3) → exec (.soutReadbackFault n) s = .next s) ∧
      (n < 6 → s.running = true → (s.sout n).stage = 0 → ∃ t, exec (.soutReadbackFault n) s = .next t ∧ t.bitAt R.SAFE_SOUT_STATUS_STUCK n = true ∧
        t.bitAt R.SAFE_SOUT_STATUS_READBACK n = (!s.soutOn n) ∧
        Raised s t (if s.soutOn n then 0x1105 else 0x1104) (if s.soutOn n then 0 else 2) 0x11 ∧ OnlyRegs s t [R.SAFE_SOUT_STATUS, R.LEDGER_SEQ]))

/-- Chapter 20.
The model's readings behind its clauses: log 46, 47, 58. -/
def Obligations.SafetyTableAndLatch : Prop :=
  ∀ s : State,
    (∀ k, (2 ≤ k ∨ s.running = false ∨ s.md.fromDiscover = false ∨ s.inService k = false) → exec (.safetyScan k) s = .next s) ∧
    (∀ k, k < 2 → s.running = true → s.md.fromDiscover = true → s.inService k = true →
      exec (.safetyScan k) s = .next ((((if ((s.tallyScan k).scanTable k).stop
          then ((s.tallyScan k).scanOutputs k ((s.tallyScan k).scanTable k)).trigger 0 precStop 0
          else (s.tallyScan k).scanOutputs k ((s.tallyScan k).scanTable k)).scanPark k ((s.tallyScan k).scanTable k)).soutOwed))) ∧
    (∀ (a b : Bool) (rs : RowState), rowResult 1 a b rs = (a && b) ∧ rowResult 2 a b rs = (a || b) ∧ rowResult 3 a b rs = (a && !b) ∧ rowResult 4 a b rs = a ∧
      rowResult 5 a b rs = rs.on ∧ rowResult 6 a b rs = rs.on ∧ rowResult 7 a b rs = rs.on) ∧
    (∀ (tm : Nat) (b late : Bool) (now : Time) (rs : RowState), rowNext 5 0 true b now late rs = RowState.still true ∧
      rowNext 5 tm true b now true rs = RowState.still true ∧ rowNext 5 tm false b now late rs = RowState.init ∧
      (rs.on = false → tm ≠ 0 → rowNext 5 tm true b now false rs = rs.runs false now) ∧
      rowNext 6 tm true b now late rs = RowState.still true ∧ rowNext 6 tm false b now true rs = RowState.init ∧
      (rs.on = true → tm ≠ 0 → rowNext 6 tm false b now false rs = rs.runs true now)) ∧
    (∀ (tm : Nat) (a late : Bool) (now : Time) (rs : RowState), rowNext 7 tm a true now late rs = RowState.still false ∧
      rowNext 7 tm true false now late rs = RowState.still true ∧ rowNext 7 tm false false now late rs = RowState.still rs.on) ∧
    (∀ (k : Nat) (x : Scan) (r i : Nat), x.ended = true → s.scanRow k x r i = x) ∧
    (∀ (k : Nat) (x : Scan) (r i : Nat), rowOp r = 0 → (s.scanRow k x r i).sout = x.sout) ∧
    (∀ k r, ((Sparse.get (always RowState.init) (s.safePair k).rows r).running = false ∨
      s.since (Sparse.get (always RowState.init) (s.safePair k).rows r).at_ < 1000 * rowTime (s.safe.table.getD r 0)) → exec (.safetyRowTimerExpiry k r) s = .next s) ∧
    (∀ k r, k < 2 → (Sparse.get (always RowState.init) (s.safePair k).rows r).running = true →
      1000 * rowTime (s.safe.table.getD r 0) ≤ s.since (Sparse.get (always RowState.init) (s.safePair k).rows r).at_ → ∃ t, exec (.safetyRowTimerExpiry k r) s = .next t ∧
      Sparse.get (always RowState.init) (t.safePair k).rows r = RowState.still (rowOp (s.safe.table.getD r 0) == 5) ∧
      (t.safePair k).sout = (s.safePair k).sout ∧ t = { s with safe := t.safe }) ∧
    (∀ k, k < 2 → s.running = true → s.inService k = true → exec (.wardenKick k) s = .next { s with safe := { s.safe with kickAt := s.atime } }) ∧
    (∀ k, s.inService k = false → exec (.wardenKick k) s = .next s) ∧
    ((s.running = false ∨ s.flag R.SAFE_LATCH_FIRED = true ∨ (natBit s.pwr.clkLost 4 = false ∧ s.pairsLost = false ∧ s.latchDue = false)) → exec .safeLatchFire s = .next s) ∧
    (s.running = true → s.flag R.SAFE_LATCH_FIRED = false → natBit s.pwr.clkLost 4 = false → (s.pairsLost = true ∨ s.latchDue = true) → ∃ t, exec .safeLatchFire s = .next t ∧
      t.flag R.SAFE_LATCH_FIRED = true ∧ t.get R.SAFE_LATCH_CAUSE = (if s.pairsLost then 1 else 2) ∧ t.pwr.latchDrives = true ∧
      (∀ n, n < nChan s.part → (t.chan n).high = false) ∧ (∀ n, n < 6 → t.soutOn n = false) ∧ t.mem = s.mem ∧ t.fe = s.fe) ∧
    (∀ c : Cmd, c.target = 0x11 → s.startable c 0x6020 = true → s.md = .commission → 8 ≤ c.len → c.len ≤ 2048 → c.len % 8 = 0 → c.len ≤ c.payload.length →
      (tableOk (tableRows c.payload c.len) = true → s.mramWorn 0x6020 = false → ∃ t, exec (.safeTableWrite c) s = .next t ∧ t.safe.table = tableRows c.payload c.len ∧
        t.led.stored.table = tableRows c.payload c.len ∧ (t.safePair 0).rows = [] ∧ (t.safePair 1).rows = [] ∧
        t.flag R.LEDGER_COMM_STATUS_CHANGED = true ∧ t.flag R.LEDGER_COMM_STATUS_CONFIRMED = false ∧ Answered s t c .ok) ∧
      ((tableOk (tableRows c.payload c.len) = false ∨ s.mramWorn 0x6020 = true) → exec (.safeTableWrite c) s = .next (s.finish c .badParam))) ∧
    (∀ c : Cmd, c.target = 0x11 → s.startable c 0x6020 = true → s.md = .standby → exec (.safeTableWrite c) s = .next (s.finish c .rejectedMode)) ∧
    (∀ c : Cmd, c.target = 0x11 → s.startable c 0x6021 = true → s.md.fromDiscover = true →
      exec (.safeIoStatus c) s = .next (s.finish c .ok (pair64 (s.rd R.SAFE_SIN_STATUS).toNat (s.rd R.SAFE_SOUT_STATUS).toNat)))

/-- Chapter 21.
The model's readings behind its clauses: log 48. -/
def Obligations.Tally : Prop :=
  (∀ (s : State) (k j : Nat), k < 2 → j < 32 →
      (∀ bs : List Byte, (bs.length < 12 + s.get (R.TALLY_CONN_CFG_LEN j) ∨ fieldAt bs 0 1 ≠ 0x11 ∨ fieldAt bs 1 1 ≠ s.get (R.TALLY_CONN_CFG_LEN j)) →
        s.pduOf j bs = .inl 5) ∧
      (∀ (sq stamp : Nat) (payload : List Byte), payload.length = s.get (R.TALLY_CONN_CFG_LEN j) → payload.length ≤ 48 → sq < 65536 → stamp < 2 ^ 32 →
        s.pduOf j (pduBytes (s.rd (R.TALLY_CONN_ID j)) sq stamp payload) = .inr (sq, stamp, payload)) ∧
      (∀ (gap sq : Nat) (payload : List Byte) (at_ : Time), ((s.rx k j).st = tallyRun ∨ (s.rx k j).st = tallyWait) →
        ((s.tallyAccept k j gap sq payload at_).rx k j).st = tallyRun ∧ ((s.tallyAccept k j gap sq payload at_).rx k j).data = payload ∧
        ((s.tallyAccept k j gap sq payload at_).rx k j).last = at_ ∧ ((s.tallyAccept k j gap sq payload at_).rx k j).seq = (sq + 1) % 65536 ∧
        (s.tallyAccept k j gap sq payload at_).led = s.led) ∧
      (∀ cause, s.get (R.TALLY_CONN_CFG_REACT j) = 0 → ((s.tallyFail k j cause).rx k j).st = tallySafe ∧
        ((s.tallyFail k j cause).rx k j).cause = cause ∧
        ((s.tallyFail k j cause).rx k j).data = List.replicate (s.get (R.TALLY_CONN_CFG_LEN j)) 0 ∧
        ((s.tallyFail k j cause).rx k j).fails = min ((s.rx k j).fails + 1) 0xFF ∧
        (k = s.tallyPair → (s.rx k j).st ≠ tallyRestart → Raised s (s.tallyFail k j cause) 0x1201 0 0x12) ∧
        (k ≠ s.tallyPair → (s.tallyFail k j cause).led = s.led)) ∧
      (∀ (bs : List Byte) (at_ : Time), s.flag (R.TALLY_CONN_CFG_AUTO j) = false → ((s.judgeSafe k j bs at_).rx k j).st = (s.rx k j).st ∧
        ((s.judgeSafe k j bs at_).rx k j).ignored = min ((s.rx k j).ignored + 1) 0xFFFF ∧ (s.judgeSafe k j bs at_).led = s.led) ∧
      (s.running = true → s.md.fromDiscover = true → s.inService k = true → (s.rx k j).st = tallyRun → s.transmits j = false →
        10 * s.get (R.TALLY_CONN_TIME_WD_TIME j) < s.since (s.rx k j).last → s.tally.frames = [] →
        exec (.tallyWatchdogExpiry k j) s = .next (s.tallyFail k j 4)) ∧
      ((s.running = false ∨ s.inService k = false ∨ (s.rx k j).st ≠ tallyRun ∨ s.transmits j = true ∨
        s.since (s.rx k j).last ≤ 10 * s.get (R.TALLY_CONN_TIME_WD_TIME j)) → exec (.tallyWatchdogExpiry k j) s = .next s)) ∧
  (∀ s : State,
      (∀ n, (32 ≤ n ∨ s.running = false ∨ s.atime.toNat < (s.tx n).due.toNat ∨ s.transmits n = false ∨ s.flag (R.TALLY_CONN_CFG_EN n) = false ∨ s.inService s.tallyPair = false) →
        exec (.tallyTransmit n) s = .next s) ∧
      (∀ n, n < 32 → s.running = true → s.md.fromDiscover = true → s.transmits n = true → s.flag (R.TALLY_CONN_CFG_EN n) = true → s.inService s.tallyPair = true →
        (s.rx s.tallyPair n).st = tallyRun → (s.tx n).due.toNat ≤ s.atime.toNat → 6 ≤ s.get (R.TALLY_CONN_CFG_PATH n) →
        s.get (R.TALLY_CONN_CFG_PATH n) < 0x20 → ∃ t, exec (.tallyTransmit n) s = .next t ∧
        (∃ f, t.net.turnstile = s.net.turnstile ++ [f] ∧ f.1 = s.tallyPair ∧ f.2.path = s.get (R.TALLY_CONN_CFG_PATH n) ∧ f.2.what = 0 ∧
          f.2.tag = s.get (R.TALLY_CONN_TAG_TAG n) % 65536 ∧ f.2.bytes = pduBytes (s.rd (R.TALLY_CONN_ID n)) (s.tx n).seq (s.atime.toNat % 2 ^ 32) (s.txPayload n)) ∧
        (t.tx n).seq = ((s.tx n).seq + 1) % 65536 ∧ (t.tx n).image = (s.tx n).image ∧
        (t.tx n).due = (s.tx n).due + BitVec.ofNat 64 (10 * s.get (R.TALLY_CONN_TIME_WD_TIME n)) ∧ t.net.sent = s.net.sent ∧ t.led = s.led ∧ t.mem = s.mem) ∧
      (∀ w n v, w ≠ .service → (s.mayWrite w 0x12 = false ∨ s.md ≠ .commission ∨ 32 ≤ n) → exec (.tallyEnable w n v) s = .next s) ∧
      (∀ n v, s.running = true → s.mayWrite .service 0x12 = false → exec (.tallyEnable .service n v) s = .next (s.satInc R.OWN_SVC_STAT_REFUSED)) ∧
      (∀ w n v, s.running = true → s.writerLive w = true → s.mayWrite w 0x12 = true → s.md = .commission → n < 32 → bitOf v 31 = true → s.rd (R.TALLY_CONN_ID n) = 0 → ∃ t,
        exec (.tallyEnable w n v) s = .next t ∧ t.flag (R.TALLY_CONN_CFG_EN n) = false ∧ t.flag R.TALLY_CFG_CFG_ERR = true ∧ t.mem = s.mem) ∧
      (∀ c : Cmd, c.target = 0x12 → s.startable c 0x0150 = true → s.modeOk 0x0150 false = true → 1 ≤ c.payload.length → arg c 16 1 < 32 → s.transmits (arg c 16 1) = false →
        (s.rx s.tallyPair (arg c 16 1)).st ≠ tallyClosed → ∃ t, exec (.tallyRearm c) s = .next t ∧
        (∀ k, k < 2 → (t.rx k (arg c 16 1)).st =
          (if (s.rx k (arg c 16 1)).st = tallySafe then tallyWait else (s.rx k (arg c 16 1)).st)) ∧ Answered s t c .ok ∧ t.led = s.led) ∧
      (∀ c : Cmd, c.target = 0x12 → s.startable c 0x0150 = true → s.modeOk 0x0150 false = true → 32 ≤ arg c 16 1 → exec (.tallyRearm c) s = .next (s.finish c .badParam)) ∧
      (∀ c : Cmd, c.target = 0x12 → s.startable c 0x0151 = true → s.modeOk 0x0151 false = true → arg c 17 1 ≤ 48 → 4 + arg c 17 1 ≤ c.payload.length → arg c 16 1 < 32 →
        s.transmits (arg c 16 1) = true → ∃ t, exec (.tallyTxSet c) s = .next t ∧
        (t.txImage (arg c 16 1)).take (arg c 17 1) = (c.payload.drop 4).take (arg c 17 1) ∧
        (t.txImage (arg c 16 1)).drop (arg c 17 1) = (s.txImage (arg c 16 1)).drop (arg c 17 1) ∧ Answered s t c .ok ∧
        t = { s with tally := t.tally, host := t.host }) ∧
      (∀ c : Cmd, c.target = 0x12 → s.startable c 0x6030 = true → s.md.fromDiscover = true → 1 ≤ c.payload.length → arg c 16 1 < 32 → 48 ≤ c.len →
        (s.rx s.tallyPair (arg c 16 1)).data.length = s.get (R.TALLY_CONN_CFG_LEN (arg c 16 1)) →
        exec (.tallyRead c) s =
          .next (s.finishData c .ok (s.rx s.tallyPair (arg c 16 1)).data (s.rd (R.TALLY_CONN_STAT (arg c 16 1))).toNat)))

/-- R417. -/
def Obligations.TallySequenceCheck : Prop :=
  ∀ (s : State) (k c sq stamp : Nat) (payload bs : List Byte) (at_ : Time), k < 2 → c < 32 →
    s.pduOf c bs = .inr (sq, stamp, payload) → s.tooOld c stamp at_ = false →
    ((s.rx k c).st = tallyRun → (sq + 65536 - (s.rx k c).seq) % 65536 ≤ s.get (R.TALLY_CONN_CFG_WINDOW c) →
      ((s.judgeOpen k c bs at_).rx k c).st = tallyRun ∧ ((s.judgeOpen k c bs at_).rx k c).seq = (sq + 1) % 65536 ∧
      ((s.judgeOpen k c bs at_).rx k c).lost = min ((s.rx k c).lost + (sq + 65536 - (s.rx k c).seq) % 65536) 0xFFFF ∧
      ((s.judgeOpen k c bs at_).rx k c).data = payload ∧ (s.judgeOpen k c bs at_).led = s.led ∧
      (∀ k' c', 32 * k' + c' ≠ 32 * k + c → (s.judgeOpen k c bs at_).rx k' c' = s.rx k' c') ∧ (s.judgeOpen k c bs at_).mem = s.mem ∧
      (s.judgeOpen k c bs at_).edge = s.edge) ∧
    ((s.rx k c).st = tallyRun → s.get (R.TALLY_CONN_CFG_WINDOW c) < (sq + 65536 - (s.rx k c).seq) % 65536 →
      s.judgeOpen k c bs at_ = s.tallyFail k c 2) ∧
    ((s.rx k c).st = tallyRun → (s.rx k c).seq = (sq + 1) % 65536 → sq < 65536 → s.judgeOpen k c bs at_ = s.tallyFail k c 2) ∧
    ((s.tallyFail k c 2).rx k c).st = tallySafe ∧ ((s.tallyFail k c 2).rx k c).cause = 2 ∧
    ((s.rx k c).st = tallyWait ∨ (s.rx k c).st = tallyRestart →
      ((s.judgeOpen k c bs at_).rx k c).seq = (sq + 1) % 65536 ∧ ((s.judgeOpen k c bs at_).rx k c).lost =
        (if (s.rx k c).st = tallyRestart ∧ (s.rx k c).run + 1 < s.get (R.TALLY_CONN_CFG_AUTO_N c) then (s.rx k c).lost else min (s.rx k c).lost 0xFFFF) ∧
      ((s.judgeOpen k c bs at_).rx k c).st ≠ tallySafe ∧ (s.judgeOpen k c bs at_).led = s.led)

/-- Chapter 22.
The model's readings behind its clauses: log 21, 51, 58. -/
def Obligations.Ledger : Prop :=
  (∀ s : State,
      (∀ (ri : Option RecIn) (w : Nat), (s.running = false ∨ (s.pairsLost = true ∧ tellsInterlock ri = false)) → exec (.ledgerRecord ri w) s = .next s) ∧
      (∀ (x : RecIn) (w : Nat), s.running = true → s.pairsLost = true → x.code = 0x0A04 →
        exec (.ledgerRecord (some x) w) s = .next (s.putB R.EDGE_STATUS_INTERLOCK true)) ∧
      (∀ cut : Bool, (s.running = false ∨ s.pairsLost = true) → exec (.ledgerRecordStart cut) s = .next s) ∧
      (∀ (w : Nat) (hr : Rec) (l : List Rec), s.running = true → s.pairsLost = false → s.led.arriving = hr :: l → hr.sev < 3 → exec (.ledgerRecord none w) s =
        .next (State.receive { s with led := { s.led with arriving := l } } hr)) ∧
      (∀ w : Nat, s.running = true → s.pairsLost = false → s.led.arriving = [] → exec (.ledgerRecord none w) s = .next s) ∧
      (∀ (w : Nat) (x : RecIn), s.running = true → s.pairsLost = false → codeKnown x.code = false → s.led.arriving = [] → exec (.ledgerRecord (some x) w) s = .next s) ∧
      (∀ r : Rec, r.sev = 0 → r.code ≠ 0x0846 → s.led.buffer.length < 256 → (s.receive r).led.buffer = s.led.buffer ++ [r] ∧
        (s.receive r).led.queue = s.led.queue ∧ (s.receive r).led.faultN = s.led.faultN ∧
        (∃ e, (s.receive r).host.events = s.host.events ++ [e] ∧ e.code = 0x6001 ∧ e.c0 = r.head)) ∧
      (∀ r : Rec, (r.sev = 1 ∨ r.sev = 2) → r.code ≠ 0x1301 → (s.led.queue.any fun x => x.code = r.code && x.unit = r.unit) = false →
        s.led.queue.length < 64 → s.led.inHand = none → (s.receive r).led.queue = s.led.queue ++ [r] ∧ (s.receive r).led.faultN = true ∧
        (s.receive r).get R.LEDGER_STATUS_QUEUE = s.led.queue.length + 1 ∧ (s.receive r).led.buffer = s.led.buffer) ∧
      (∀ r : Rec, (r.sev = 1 ∨ r.sev = 2) → r.code ≠ 0x1301 → (s.led.queue.any fun x => x.code = r.code && x.unit = r.unit) = true →
        s.led.buffer.length < 256 → (s.receive r).led.queue = s.led.queue ∧ (s.receive r).led.buffer = s.led.buffer ++ [r.mark 8]) ∧
      (∀ r : Rec, (r.sev = 1 ∨ r.sev = 2) → r.code ≠ 0x1301 → (s.led.queue.any fun x => x.code = r.code && x.unit = r.unit) = false →
        64 ≤ s.led.queue.length → (s.receive r).flag R.LEDGER_STATUS_OVERFLOW = true ∧
        (∃ x, x ∈ (s.receive r).led.arriving ∧ x.code = 0x1301 ∧ x.sev = 2)) ∧
      (∀ l : List Rec, (∀ x, x ∈ l → x.sev ≠ 2) → nextRec l = l.head?) ∧
      (∀ (l : List Rec) (r : Rec), l.find? (fun x => x.sev = 2) = some r → nextRec l = some r) ∧
      (∀ cut : Bool, s.running = true → s.pairsLost = false → s.led.queue = [] → s.led.inHand = none → s.led.buffer.length < 256 → ∃ t,
        exec (.ledgerRecordStart cut) s = .next t ∧ t.led = s.led ∧ t.get R.LEDGER_STATUS_IN_HAND = 0 ∧ t.get R.LEDGER_STATUS_QUEUE = 0 ∧
        OnlyRegs s t [R.LEDGER_STATUS]) ∧
      (∀ r : Rec, s.running = true → s.pairsLost = false → s.led.inHand = none → nextRec s.led.queue = some r → exec (.ledgerRecordStart true) s =
        .next ((State.recAct { s with led := { s.led with queue := s.led.queue.erase r, inHand := some r } } r).showQueue)) ∧
      ((s.led.buffer = [] ∨ s.running = false) → exec .ledgerMramWrite s = .next s) ∧
      (∀ (r : Rec) (l : List Rec), s.running = true → s.led.buffer = r :: l → s.led.waiting = [] → s.led.dropped = false → exec .ledgerMramWrite s =
        .next { s with led := { s.led with log := logPut s.led.log r, buffer := l } }) ∧
      (∀ (l : List Rec) (r : Rec), l.length ≤ 15360 → (logPut l r).length ≤ 15360 ∧ (logPut l r).getLast? = some r)) ∧
  (∀ (s : State) (c : Cmd), c.target = 0x13 →
      (∀ l : List Rec, s.startable c 0x7000 = true → s.md.fromDiscover = true → 8 ≤ c.payload.length → 1 ≤ arg c 22 2 → arg c 22 2 ≤ 2047 → 32 * arg c 22 2 ≤ c.len →
        logSpan s.led.log (arg c 20 2) (arg c 16 4) (arg c 22 2) = l → ∃ t, exec (.logRead c) s = .next t ∧
        Answered s t c (if l.length = arg c 22 2 then .ok else .partialDone) (pair64 l.length ((l.head?.map (·.seq)).getD 0xFFFFFFFF)) true ∧
        (c.master < 2 → t.led = s.led ∧ t.regs = s.regs ∧ t.mem.sram = s.mem.sram ∧ t.mem.mram = s.mem.mram)) ∧
      (s.startable c 0x7000 = true → s.md.fromDiscover = true → arg c 22 2 = 0 → exec (.logRead c) s = .next (s.finish c .badParam)) ∧
      (s.startable c 0x7001 = true → s.md = .service → ∃ t, exec (.logErase c) s = .next t ∧ t.led.log = [] ∧ t.led.boots = 0 ∧ t.led.queue = s.led.queue ∧ Answered s t c .ok ∧
        t = { s with led := t.led, host := t.host }) ∧
      (s.startable c 0x7001 = true → s.md ≠ .service → exec (.logErase c) s = .next (s.finish c .rejectedMode)) ∧
      (s.startable c 0x7002 = true → s.modeOk 0x7002 false = true → ∃ t, exec (.faultClear c) s = .next t ∧ t.led.faultN = false ∧ t.led.queue = s.led.queue ∧
        Answered s t c .ok ∧ t = { s with led := t.led, host := t.host }) ∧
      (s.startable c 0x0160 = true → s.inPark = false → exec (.commAuth c) s = .next (s.finish c .rejectedMode)) ∧
      (s.startable c 0x0160 = true → s.inPark = true → (natBit (s.get R.SYS_STRAP_LATCHED) 0 = false ∨ 3 ≤ s.led.wrongCodes ∨ s.rd R.LEDGER_COMM_AUTH = 0) →
        exec (.commAuth c) s = .next (s.finish c .safetyBlocked)) ∧
      (s.startable c 0x0160 = true → s.inPark = true → natBit (s.get R.SYS_STRAP_LATCHED) 0 = true → s.led.wrongCodes < 3 → s.rd R.LEDGER_COMM_AUTH ≠ 0 → 8 ≤ c.payload.length →
        (argW c 20 = s.rd R.LEDGER_COMM_AUTH → exec (.commAuth c) s = .next (State.finish { s with led := { s.led with auth := some s.atime } } c .ok)) ∧
        (argW c 20 ≠ s.rd R.LEDGER_COMM_AUTH → ∃ t, exec (.commAuth c) s = .next t ∧ t.led.wrongCodes = s.led.wrongCodes + 1 ∧
          t.led.auth = s.led.auth ∧ Raised s t 0x1306 0 0x13 ∧ Answered s t c .badParam)) ∧
      (∀ a : Time, s.led.auth = some a → 10000000 ≤ s.since a → exec .commAuthExpiry s = .next { s with led := { s.led with auth := none } }) ∧
      (s.led.auth = none → exec .commAuthExpiry s = .next s) ∧
      (∀ a : Time, s.led.auth = some a → s.since a < 10000000 → exec .commAuthExpiry s = .next s) ∧
      (s.startable c 0x6000 = true → s.md = .commission → ∃ t, exec (.commCheck c) s = .next t ∧ t.rd R.LEDGER_COMM_CHECK = s.checkNow ∧
        t.flag R.LEDGER_COMM_STATUS_CHANGED = false ∧ Answered s t c .ok s.checkNow.toNat ∧
        OnlyRegs s t [R.LEDGER_COMM_CHECK, R.LEDGER_COMM_STATUS] ∧ t = { s with regs := t.regs, host := t.host }) ∧
      (s.md ≠ .commission → (s.startable c 0x6000 = true → exec (.commCheck c) s = .next (s.finish c .rejectedMode)) ∧
        (s.startable c 0x6001 = true → exec (.commConfirm c) s = .next (s.finish c .rejectedMode))) ∧
      (s.startable c 0x6001 = true → s.md = .commission → (argW c 20 ≠ s.rd R.LEDGER_COMM_CHECK ∨ s.flag R.LEDGER_COMM_STATUS_CHANGED = true ∨ s.mramWorn 0x6001 = true) →
        exec (.commConfirm c) s = .next (s.finish c .badParam)) ∧
      (s.startable c 0x6001 = true → s.md = .commission → s.pwr.power = .run → 8 ≤ c.payload.length → argW c 20 = s.rd R.LEDGER_COMM_CHECK →
        s.flag R.LEDGER_COMM_STATUS_CHANGED = false → s.mramWorn 0x6001 = false → ∃ t, exec (.commConfirm c) s = .next t ∧ t.led.confirmed = some (argW c 20) ∧
        t.pwr.power = .reset ∧ t.flag R.SYS_RESET_CAUSE_CMD = true ∧ t.pending = s.pending))

/-- Chapters 01 and 23.
The model's readings behind its clauses: log 22, 50. -/
def Obligations.LinksUpAndDown : Prop :=
  ∀ s : State,
    (s.running = false → (∀ p gen x, exec (.pcieLinkUp p gen x) s = .next s) ∧ (∀ p, exec (.pcieLinkDown p) s = .next s) ∧
      (∀ m, exec (.ethLinkUp m) s = .next s ∧ exec (.ethLinkDown m) s = .next s ∧ exec (.glLinkTrained m) s = .next s ∧
        exec (.glPortDown m) s = .next s) ∧ (∀ k, exec (.clockMonitorTrip k) s = .next s) ∧ (∀ m acc f, exec (.ethFrameRx m acc f) s = .next s) ∧
      (∀ p tag f, exec (.glFrameRx p tag f) s = .next s)) ∧
    (∀ p gen x, s.running = true → p < 2 → 1 ≤ gen → gen ≤ 4 → ∃ t, exec (.pcieLinkUp p gen x) s = .next t ∧ t.get (portGen p) = gen ∧
      t.flag (portX2 p) = x ∧ t.get (portGen (1 - p)) = s.get (portGen (1 - p)) ∧ natBit t.pwr.perst p = false ∧ OnlyRegs s t [R.LINK_STATUS] ∧
      t = { s with regs := t.regs, pwr := t.pwr }) ∧
    (∀ p, s.running = true → p < 2 → s.get (portGen p) = 0 → exec (.pcieLinkDown p) s = .next s) ∧
    (∀ p, s.running = true → p < 2 → s.get (portGen p) ≠ 0 → ∃ t, exec (.pcieLinkDown p) s = .next t ∧ t.get (portGen p) = 0 ∧
      t.flag (portX2 p) = false ∧ (∃ r, r ∈ t.led.arriving ∧ r.code = 0x1401 ∧ r.sev = 0 ∧ r.unit = 0x14 ∧ r.ctx0 = w32 p)) ∧
    (∀ k, k % 32 = 0 → exec (.clockMonitorTrip k) s = .next s) ∧
    (s.pairsLost = true → ∀ k, exec (.clockMonitorTrip k) s = .next s) ∧
    (s.running = true → s.pairsLost = false → ∃ t, exec (.clockMonitorTrip 7) s = .next t ∧ natBit t.pwr.clkLost 3 = true ∧
      t.get (portGen 0) = s.get (portGen 0) ∧ t.get (portGen 1) = s.get (portGen 1) ∧
      (∃ r, r ∈ t.led.arriving ∧ r.unit = 0 ∧ r.sev = 2 ∧ r.code = 0x0008)) ∧
    (∀ k, k < 5 → s.running = true → s.pairsLost = false → ∃ t, exec (.clockMonitorTrip (2 ^ k)) s = .next t ∧ natBit t.pwr.clkLost k = true ∧
      (∃ r, r ∈ t.led.arriving ∧ r.unit = 0 ∧ r.sev = (if k = 2 then 1 else 2) ∧
        r.code = (if k = 0 then 0x0001 else if k = 1 then 0x0002 else if k = 2 then 0x0003 else if k = 3 then 0x0008 else 0x0004)) ∧
      (k = 2 → t.get (portGen 0) = 0 ∧ t.get (portGen 1) = 0)) ∧
    (∀ m, s.running = true → m < 3 → ∃ t, exec (.ethLinkUp m) s = .next t ∧ t.bitAt R.LINK_STATUS_ETH_UP m = true ∧
      (∀ j, j < 3 → j ≠ m → t.bitAt R.LINK_STATUS_ETH_UP j = s.bitAt R.LINK_STATUS_ETH_UP j) ∧ OnlyRegs s t [R.LINK_STATUS] ∧ t = { s with regs := t.regs }) ∧
    (∀ m, s.running = true → m < 3 → s.bitAt R.LINK_STATUS_ETH_UP m = true → ∃ t, exec (.ethLinkDown m) s = .next t ∧
      t.bitAt R.LINK_STATUS_ETH_UP m = false ∧ Raised s t 0x1405 0 0x14 ∧ OnlyRegs s t [R.LINK_STATUS, R.LEDGER_SEQ] ∧
      t = { s with regs := t.regs, led := t.led, free := t.free }) ∧
    (∀ m, s.bitAt R.LINK_STATUS_ETH_UP m = false → exec (.ethLinkDown m) s = .next s ∧ ∀ acc f, exec (.ethFrameRx m acc f) s = .next s) ∧
    (∀ m acc f, s.running = true → m < 3 → s.bitAt R.LINK_STATUS_ETH_UP m = true → 1518 < f.length →
      exec (.ethFrameRx m acc f) s = .next (s.satInc (R.LINK_ETH_STAT_DROP m))) ∧
    (∀ m f, s.running = true → m < 3 → s.bitAt R.LINK_STATUS_ETH_UP m = true → f.length ≤ 1518 → (etherType f).1 ≠ s.get R.TALLY_CFG_ETYPE →
      (etherType f).1 = 0x88F7 → s.timeMac m = false → exec (.ethFrameRx m true f) s = .next (s.satInc (R.LINK_ETH_STAT_DROP m))) ∧
    (∀ m f, s.running = true → m < 3 → s.bitAt R.LINK_STATUS_ETH_UP m = true → f.length ≤ 1518 → (etherType f).1 ≠ s.get R.TALLY_CFG_ETYPE →
      (etherType f).1 ≠ 0x88F7 → (etherType f).1 ≠ s.get R.LINK_ETH_CFG_SVC_ETYPE →
      exec (.ethFrameRx m true f) s = .next (s.toChannel (40 + m) f (R.LINK_ETH_STAT_DROP m)) ∧
      (broadcast f = false → exec (.ethFrameRx m false f) s = .next s)) ∧
    (∀ p, s.running = true → p < nGl s.part → ∃ t, exec (.glLinkTrained p) s = .next t ∧ t.glUp p = true ∧ OnlyRegs s t [R.LINK_STATUS] ∧
      t = { s with regs := t.regs }) ∧
    (∀ p, s.running = true → s.glUp p = true → ∃ t, exec (.glPortDown p) s = .next t ∧ t.glUp p = false ∧ Raised s t 0x1402 0 0x14 ∧
      OnlyRegs s t [R.LINK_STATUS, R.LEDGER_SEQ]) ∧
    (∀ p, s.glUp p = false → exec (.glPortDown p) s = .next s ∧ exec (.glTimeSend p) s = .next s ∧ ∀ tag f, exec (.glFrameRx p tag f) s = .next s)

/-- Chapter 23.
The model's readings behind its clauses: log 50. -/
def Obligations.CanGalleryTime : Prop :=
  ∀ s : State,
    (∀ k i x hit d tec rxc, (s.running = false ∨ 6 ≤ k ∨ s.bankLive 5 = false) → exec (.canFrameRx k i x hit d tec rxc) s = .next s) ∧
    (∀ k i x d tec rxc, s.running = true → k < 6 → s.bankLive 5 = true → (s.canCounts k tec rxc).tallyMatch k i x = none →
      exec (.canFrameRx k i x false d tec rxc) s = .next (s.canCounts k tec rxc) ∧
      exec (.canFrameRx k i x true d tec rxc) s = .next ((s.canCounts k tec rxc).toChannel (32 + k)
        (canStored s.atime i x d) (R.LINK_CAN_STAT_RX_DROP k))) ∧
    (∀ k tec rxc cn, s.running = true → k < 6 → s.bankLive 5 = true → (s.canCounts k tec rxc).tallyMatch k 5 false = some cn →
      exec (.canFrameRx k 5 false false [] tec rxc) s = .next ((s.canCounts k tec rxc).toTally cn k [] (R.LINK_CAN_STAT_RX_DROP k))) ∧
    (∀ k tec rxc, tec < 256 → rxc < 256 → k < 6 → (s.canCounts k tec rxc).get (R.LINK_CAN_STAT_TEC k) = tec ∧ (s.canCounts k tec rxc).get (R.LINK_CAN_STAT_REC k) = rxc ∧
      OnlyRegs s (s.canCounts k tec rxc) [R.LINK_CAN_STAT k]) ∧
    (∀ k tec rxc, s.running = true → k < 6 → s.flag (R.LINK_CAN_STAT_BUS_OFF k) = false → ∃ t, exec (.canBusOff k tec rxc) s = .next t ∧
      t.flag (R.LINK_CAN_STAT_BUS_OFF k) = true ∧ Raised s t 0x1404 0 0x14 ∧ OnlyRegs s t [R.LINK_CAN_STAT k, R.LEDGER_SEQ]) ∧
    (∀ k tec rxc, s.flag (R.LINK_CAN_STAT_BUS_OFF k) = true → exec (.canBusOff k tec rxc) s = .next s) ∧
    (∀ k, s.running = true → k < 6 → s.flag (R.LINK_CAN_STAT_BUS_OFF k) = true → s.flag (R.LINK_CAN_STAT_AUTO_REC k) = true → ∃ t,
      exec (.canBusOffRecovery k) s = .next t ∧ t.flag (R.LINK_CAN_STAT_BUS_OFF k) = false ∧ t.get (R.LINK_CAN_STAT_TEC k) = 0 ∧
      t.get (R.LINK_CAN_STAT_REC k) = 0 ∧ t.net.sent = s.net.sent ++ Sparse.get (always []) s.net.canQueue k ∧
      Sparse.get (always []) t.net.canQueue k = [] ∧ OnlyRegs s t [R.LINK_CAN_STAT k] ∧ t = { s with regs := t.regs, net := t.net }) ∧
    (∀ k, (s.flag (R.LINK_CAN_STAT_BUS_OFF k) = false ∨ s.flag (R.LINK_CAN_STAT_AUTO_REC k) = false) → exec (.canBusOffRecovery k) s = .next s) ∧
    (∀ p tag f, s.running = true → s.glUp p = true → fieldAt f 4 2 ≤ 512 → 20 + fieldAt f 4 2 ≤ f.length →
      (crc32c 0xFFFFFFFF#32 (f.take (16 + fieldAt f 4 2))).toNat ≠ fieldAt f (16 + fieldAt f 4 2) 4 →
      exec (.glFrameRx p tag f) s = .next (s.satInc (R.LINK_GL_STAT_CRC_ERR p))) ∧
    (∀ p tag f, s.running = true → s.glUp p = true → fieldAt f 4 2 ≤ 512 → 20 + fieldAt f 4 2 ≤ f.length →
      (crc32c 0xFFFFFFFF#32 (f.take (16 + fieldAt f 4 2))).toNat = fieldAt f (16 + fieldAt f 4 2) 4 → fieldAt f 0 1 / 16 = 1 →
      fieldAt f 0 1 % 16 ≤ 2 → s.get R.LINK_GL_CFG_ADDR ≠ 0 → s.get R.LINK_GL_CFG_ADDR ≠ 0xFF →
      (fieldAt f 3 1 = s.get R.LINK_GL_CFG_ADDR → exec (.glFrameRx p tag f) s = .next (s.satInc (R.LINK_GL_STAT_FWD_DROP p))) ∧
      (fieldAt f 3 1 ≠ s.get R.LINK_GL_CFG_ADDR → fieldAt f 2 1 ≠ s.get R.LINK_GL_CFG_ADDR → fieldAt f 2 1 ≠ 0xFF → fieldAt f 1 1 = 0 →
        exec (.glFrameRx p tag f) s = .next (s.satInc (R.LINK_GL_STAT_FWD_DROP p))) ∧
      (fieldAt f 3 1 ≠ s.get R.LINK_GL_CFG_ADDR → fieldAt f 2 1 ≠ s.get R.LINK_GL_CFG_ADDR → fieldAt f 2 1 ≠ 0xFF → fieldAt f 1 1 ≠ 0 →
        s.glRoute (fieldAt f 2 1) ≠ [] → ∃ t, exec (.glFrameRx p tag f) s = .next t ∧ t = { s with net := t.net } ∧
        t.net.sent = s.net.sent ++ ((s.glRoute (fieldAt f 2 1)).filter s.glUp).map fun q =>
          { path := 0x20 + q, what := 3, tag := fieldAt f 2 1, bytes := glForwarded f (16 + fieldAt f 4 2) }) ∧
      (fieldAt f 3 1 ≠ s.get R.LINK_GL_CFG_ADDR → fieldAt f 2 1 = s.get R.LINK_GL_CFG_ADDR →
        exec (.glFrameRx p tag f) s = .next (s.glLocal p (fieldAt f 0 1 % 16) tag ((f.drop 16).take (fieldAt f 4 2))))) ∧
    (∀ p, s.running = true → s.glUp p = true → s.bitAt R.LINK_TIME_CFG_GM p = true →
      1000 ≤ s.since (Sparse.get (always 0) s.net.timeAt p) → ∃ t, exec (.glTimeSend p) s = .next t ∧
      t.net.sent = s.net.sent ++ [{ path := 0x20 + p, what := 2, tag := 0xFF, bytes := s.glOwn 0 0xFF (leBytes 8 (1000 * s.atime.toNat)) }] ∧
      Sparse.get (always 0) t.net.timeAt p = s.atime ∧ t.net.glSeq = (s.net.glSeq + 1) % 65536 ∧ t = { s with net := t.net }) ∧
    (∀ p, (s.bitAt R.LINK_TIME_CFG_GM p = false ∨ s.since (Sparse.get (always 0) s.net.timeAt p) < 1000) → exec (.glTimeSend p) s = .next s) ∧
    (∀ p o, (s.running = false ∨ s.timePath ≠ some p ∨ s.timeUp p = false) → exec (.timeSyncMessage p o) s = .next s) ∧
    (∀ p o, s.running = true → s.timePath = some p → s.timeUp p = true → s.net.locked = false → s.net.leftWait = false → ∃ t,
      exec (.timeSyncMessage p o) s = .next t ∧ t.atime = stepTime s.atime o ∧ t.net.locked = true ∧ t.flag R.LINK_TIME_STAT_LOCKED = true ∧
      t.flag R.LINK_STATUS_TIME_LOCK = true ∧ t.get R.LINK_TIME_STAT_OFFSET = 0 ∧ OnlyRegs s t [R.LINK_TIME_STAT, R.LINK_STATUS] ∧
      t = { s with regs := t.regs, atime := t.atime, net := t.net }) ∧
    (∀ p o, s.running = true → s.timePath = some p → s.timeUp p = true → s.net.locked = true → s.flag R.LINK_TIME_STAT_LOCKED = true →
      o.natAbs < 1000 → ∃ t, exec (.timeSyncMessage p o) s = .next t ∧ t.atime = s.atime ∧ t.net.slew = 5 * o ∧
      t.flag R.LINK_TIME_STAT_LOCKED = true ∧ t.led = s.led) ∧
    (∀ p o, s.running = true → s.timePath = some p → s.timeUp p = true → s.net.locked = true → s.flag R.LINK_TIME_STAT_LOCKED = true →
      100000 < o.natAbs → ∃ t, exec (.timeSyncMessage p o) s = .next t ∧ t.atime = s.atime ∧ t.flag R.LINK_TIME_STAT_LOCKED = false ∧
      t.flag R.LINK_STATUS_TIME_LOCK = false ∧ Raised s t 0x1403 0 0x14) ∧
    (s.running = true → s.flag R.LINK_TIME_STAT_LOCKED = true → s.syncQuiet = true → ∃ t, exec (.timeUnsync none) s = .next t ∧
      t.flag R.LINK_TIME_STAT_LOCKED = false ∧ t.atime = s.atime ∧ t.net.slew = 0 ∧ Raised s t 0x1403 0 0x14 ∧
      OnlyRegs s t [R.LINK_TIME_STAT, R.LINK_STATUS, R.LEDGER_SEQ]) ∧
    (s.syncQuiet = false → exec (.timeUnsync none) s = .next s) ∧
    (∀ o : Int, o.natAbs ≤ 100000 → exec (.timeUnsync (some o)) s = .next s)

/-- Chapters 00, 04, 06, 23 and 24; the bytes of the discovery records are free values (log 43).
The model's readings behind its clauses: log 22, 49. -/
def Obligations.RegistersAndServicePath : Prop :=
  (∀ s : State,
      (∀ w a v, a < 0x1000000 → findReg a = none → w ≠ .service → exec (.registerWrite w a v) s = .next s) ∧
      (∀ w a v, s.running = false → exec (.registerWrite w a v) s = .next s) ∧
      (∀ a v, (s.inService 0 = false → exec (.registerWrite .wardenA a v) s = .next s) ∧
        (s.inService 1 = false → exec (.registerWrite .wardenB a v) s = .next s)) ∧
      (∀ w a v f i, s.running = true → s.writerLive w = true → a < 0x1000000 → (w = .service → s.mayWrite .service (a / 0x10000) = true) →
        findReg a = some (f, i) → regPresent s.part f i = true → exec (.registerWrite w a v) s = .next (s.regWriteAt w a v f i)) ∧
      (∀ n v, s.running = true → n < 1024 → ∃ t, exec (.registerWrite .hostA (0x2000000 + 4 * n) v) s = .next t ∧ (2 < n → t.pcieCfgWord 0 n = v) ∧
        t = { s with host := t.host } ∧ t.host.pcieCfg = Sparse.set (always 0) s.host.pcieCfg n v) ∧
      (∀ a v, s.running = true → a < 0x1000000 → s.mayWrite .service (a / 0x10000) = false →
        exec (.registerWrite .service a v) s = .next (s.satInc R.OWN_SVC_STAT_REFUSED)) ∧
      (∀ w a v f i, s.mayWrite w (a / 0x10000) = false → s.plainWrite w a v f i = s) ∧
      (∀ a v (fd : FieldDef), fd.lo ≤ fd.hi → fd.hi < 32 →
        (s.writeField a v fd).get ⟨a, fd.hi, fd.lo⟩ =
          fieldValue fd.ty (s.get ⟨a, fd.hi, fd.lo⟩) (bitsOf v fd.hi fd.lo) % 2 ^ (fd.hi + 1 - fd.lo) ∧
        OnlyRegs s (s.writeField a v fd) [a] ∧ s.writeField a v fd = { s with regs := (s.writeField a v fd).regs } ∧
        (∀ hi lo, lo ≤ hi → hi < 32 → (hi < fd.lo ∨ fd.hi < lo) → (s.writeField a v fd).get ⟨a, hi, lo⟩ = s.get ⟨a, hi, lo⟩)) ∧
      (∀ x y, fieldValue .rw x y = y ∧ fieldValue .rws x y = y ∧ fieldValue .w1s x y = x ||| y ∧ fieldValue .w1c x y = x - (x &&& y) ∧
        fieldValue .ro x y = x ∧ fieldValue .rov x y = x) ∧
      (∀ a v l ok, s.md ≠ .commission → (∀ fd, fd ∈ l → fd.ty = .rws) → s.applyWrite a v l ok = s) ∧
      (∀ v, s.md ≠ .commission → exec (.registerWrite .steward R.SYS_MODE_CFG v) s = .next s) ∧
      (∀ v, s.running = true → s.md = .commission → 1 ≤ bitsOf v 23 16 → bitsOf v 9 0 ≤ 1000 → ∃ t,
        exec (.registerWrite .steward R.SYS_MODE_CFG v) s = .next t ∧ bitsOf (t.rd R.SYS_MODE_CFG) 23 16 = bitsOf v 23 16 ∧
        bitsOf (t.rd R.SYS_MODE_CFG) 9 0 = bitsOf v 9 0 ∧ t.mem = s.mem ∧ t.edge = s.edge ∧
        (s.rd R.SYS_MODE_CFG ≠ t.rd R.SYS_MODE_CFG → bitsOf (s.rd R.SYS_MODE_CFG) 23 16 ≠ bitsOf v 23 16 ∨ bitsOf (s.rd R.SYS_MODE_CFG) 9 0 ≠ bitsOf v 9 0 →
          t.flag R.LEDGER_COMM_STATUS_CHANGED = true ∧ t.flag R.LEDGER_COMM_STATUS_CONFIRMED = false)) ∧
      (∀ a, findReg a = none → s.readReg a = 0) ∧ (∀ n, n < 32 → s.readReg (R.TALLY_CONN_ID n) = 0) ∧ s.readReg R.LEDGER_COMM_AUTH = 0) ∧
  (∀ s : State,
      (s.net.svcMac = [] → exec .serviceRequest s = .next s) ∧
      (∀ m rest hs left t frame u, s.net.svcMac = m :: rest → firstFrame (Sparse.get (always []) s.mkt.queues 56) = (hs, left) →
        State.readHandles { s with mkt.queues := Sparse.set (always []) s.mkt.queues 56 left, net.svcMac := rest } hs = (t, some frame) →
        (t.each hs fun t h => t.freeStall 56 h.2.2) = u →
        ((u.svcServe (etherType frame).2).2 = none → exec .serviceRequest s = .next (u.svcServe (etherType frame).2).1) ∧
        (∀ b, (u.svcServe (etherType frame).2).2 = some b → exec .serviceRequest s = .next
          ((u.svcServe (etherType frame).2).1.sendFrame { path := 0x10 + m, what := 1, tag := fieldAt frame 6 6, bytes := b }))) ∧
      (∀ q, fieldAt q 0 1 ≠ 1 → s.svcServe q = (s, none)) ∧
      (∀ q, fieldAt q 0 1 = 1 → (fieldAt q 4 2 = 0 ∨ 64 < fieldAt q 4 2 ∨ fieldAt q 8 4 % 4 ≠ 0 ∨ 1 < fieldAt q 1 1) →
        s.svcServe q = (s, some (svcReply q 2 []))) ∧
      (∀ q, fieldAt q 0 1 = 1 → fieldAt q 1 1 = 0 → 1 ≤ fieldAt q 4 2 → fieldAt q 4 2 ≤ 64 → fieldAt q 8 4 % 4 = 0 →
        fieldAt q 8 4 + 4 * fieldAt q 4 2 ≤ 0x1000000 → ∃ b, s.svcServe q = (s, some b) ∧ b.length = 12 + 4 * fieldAt q 4 2 ∧ fieldAt b 1 1 = 0 ∧
        fieldAt b 12 4 = (s.readReg (fieldAt q 8 4)).toNat) ∧
      (∀ q, fieldAt q 0 1 = 1 → fieldAt q 1 1 = 1 → 1 ≤ fieldAt q 4 2 → fieldAt q 4 2 ≤ 64 → fieldAt q 8 4 % 4 = 0 →
        fieldAt q 8 4 + 4 * fieldAt q 4 2 ≤ 0x1000000 → 12 + 4 * fieldAt q 4 2 ≤ q.length →
        s.mayWrite .service (fieldAt q 8 4 / 0x10000) = false →
        s.svcServe q = (s.satInc R.OWN_SVC_STAT_REFUSED, some (svcReply q 1 []))) ∧
      (∀ c : Cmd, s.startable c 0x6012 = true → c.target = 0x15 → s.md.fromDiscover = true → 4096 ≤ c.len →
        exec (.discRead c) s = .next (s.finishData c .ok (s.recordBytes 1024)) ∧ (s.recordBytes 1024).length = 4096) ∧
      (∀ c : Cmd, s.startable c 0x6012 = true → c.target = 0x15 → s.md.fromDiscover = true → c.len < 4096 → exec (.discRead c) s = .next (s.finish c .badParam)))

/-- A command never changes which commands wait, nor which part it runs on; that no command stops is the model's reading of every chapter.
The model's readings behind its clauses: log 25. -/
def Obligations.ExecAnswersAndKeepsQueueAndPart : Prop :=
  ∀ (c : Instr) (s : State), ∃ t, exec c s = .next t ∧ t.pending = s.pending ∧ t.part = s.part

/-- Keys strictly rising, no entry equal to what an unlisted address reads as; that State.reset has it is part of StateAfterReset.
The model's readings behind its clauses: log 6. -/
def Obligations.StepKeepsCanonical : Prop := ∀ s t : State, s.canonical = true → step s = .next t → t.canonical = true

/-- Chapter 10: never both pads of a half-bridge high; that State.reset has it is part of StateAfterReset.
The model's readings behind its clauses: log 31. -/
def Obligations.StepKeepsPadsApart : Prop := ∀ s t : State, s.noShootThrough = true → step s = .next t → t.noShootThrough = true

end Claims
end

