-- ==== Sys2Proof/Laws/Bits.lean ====
section
/-! SUPPORT. Laws of bit fields: a field read after a write of it, and of another one. -/

namespace Sys2Proof.Machine

theorem bitsOf_lt (w : Word) (hi lo : Nat) : bitsOf w hi lo < 2 ^ (hi + 1 - lo) := Nat.mod_lt _ (Nat.two_pow_pos _)

theorem bitsOf_eq (w : Word) (hi lo : Nat) : bitsOf w hi lo = w.toNat / 2 ^ lo % 2 ^ (hi + 1 - lo) := by
  simp [bitsOf, Nat.shiftRight_eq_div_pow]

/-- A word split at a field: what stands above it, in it and below it. -/
theorem word_split (w : Word) (hi lo : Nat) (h : lo ≤ hi) :
    w.toNat = w.toNat / 2 ^ (hi + 1) * 2 ^ (hi + 1) + bitsOf w hi lo * 2 ^ lo + w.toNat % 2 ^ lo := by
  have hp : 2 ^ (hi + 1) = 2 ^ lo * 2 ^ (hi + 1 - lo) := by rw [← pow_add]; congr 1; omega
  have h1 := Nat.div_add_mod w.toNat (2 ^ lo)
  have h2 := Nat.div_add_mod (w.toNat / 2 ^ lo) (2 ^ (hi + 1 - lo))
  rw [bitsOf_eq, hp, ← Nat.div_div_eq_div_mul]
  have h3 := congrArg (2 ^ lo * ·) h2
  simp only [Nat.mul_add] at h3
  linarith

/-- The number that `withBits` writes. -/
theorem withBits_toNat (w : Word) (hi lo v : Nat) (h : lo ≤ hi) (h32 : hi < 32) :
    (withBits w hi lo v).toNat = w.toNat / 2 ^ (hi + 1) * 2 ^ (hi + 1) + v % 2 ^ (hi + 1 - lo) * 2 ^ lo + w.toNat % 2 ^ lo := by
  have hs := word_split w hi lo h
  have hv : v % 2 ^ (hi + 1 - lo) < 2 ^ (hi + 1 - lo) := Nat.mod_lt _ (Nat.two_pow_pos _)
  have hr : w.toNat % 2 ^ lo < 2 ^ lo := Nat.mod_lt _ (Nat.two_pow_pos _)
  have hp : 2 ^ (hi + 1) = 2 ^ lo * 2 ^ (hi + 1 - lo) := by rw [← pow_add]; congr 1; omega
  have h2 : 2 ^ 32 = 2 ^ (hi + 1) * 2 ^ (31 - hi) := by rw [← pow_add]; congr 1; omega
  have hq : w.toNat / 2 ^ (hi + 1) < 2 ^ (31 - hi) := by
    rw [Nat.div_lt_iff_lt_mul (Nat.two_pow_pos _), mul_comm, ← h2]; exact w.isLt
  have hmid : v % 2 ^ (hi + 1 - lo) * 2 ^ lo + w.toNat % 2 ^ lo < 2 ^ (hi + 1) := by
    rw [hp]; nlinarith [Nat.two_pow_pos lo]
  have hlt : w.toNat / 2 ^ (hi + 1) * 2 ^ (hi + 1) + v % 2 ^ (hi + 1 - lo) * 2 ^ lo + w.toNat % 2 ^ lo < 2 ^ 32 := by
    rw [h2]; nlinarith [Nat.two_pow_pos (hi + 1)]
  have heq : w.toNat - bitsOf w hi lo * 2 ^ lo + v % 2 ^ (hi + 1 - lo) * 2 ^ lo =
      w.toNat / 2 ^ (hi + 1) * 2 ^ (hi + 1) + v % 2 ^ (hi + 1 - lo) * 2 ^ lo + w.toNat % 2 ^ lo := by omega
  rw [withBits, w32, BitVec.toNat_ofNat, heq, Nat.mod_eq_of_lt hlt]

/-- A field just written reads as the value, cut to the field's width. -/
theorem bitsOf_withBits_same (w : Word) (hi lo v : Nat) (h : lo ≤ hi) (h32 : hi < 32) :
    bitsOf (withBits w hi lo v) hi lo = v % 2 ^ (hi + 1 - lo) := by
  have hp : 2 ^ (hi + 1) = 2 ^ lo * 2 ^ (hi + 1 - lo) := by rw [← pow_add]; congr 1; omega
  have hr : w.toNat % 2 ^ lo < 2 ^ lo := Nat.mod_lt _ (Nat.two_pow_pos _)
  rw [bitsOf_eq, withBits_toNat w hi lo v h h32]
  have : w.toNat / 2 ^ (hi + 1) * 2 ^ (hi + 1) + v % 2 ^ (hi + 1 - lo) * 2 ^ lo + w.toNat % 2 ^ lo =
      w.toNat % 2 ^ lo + 2 ^ lo * (v % 2 ^ (hi + 1 - lo) + 2 ^ (hi + 1 - lo) * (w.toNat / 2 ^ (hi + 1))) := by rw [hp]; ring
  rw [this, Nat.add_mul_div_left _ _ (Nat.two_pow_pos lo), Nat.div_eq_of_lt hr, zero_add, Nat.add_mul_mod_self_left, Nat.mod_mod]

/-- A field below the one written keeps its value. -/
theorem bitsOf_withBits_below (w : Word) (hi lo v hi' lo' : Nat) (h : lo ≤ hi) (h32 : hi < 32) (hb : hi' < lo) :
    bitsOf (withBits w hi lo v) hi' lo' = bitsOf w hi' lo' := by
  by_cases hl : lo' ≤ hi'
  · have hk : ∀ x : Nat, x / 2 ^ lo' % 2 ^ (hi' + 1 - lo') = x % 2 ^ (hi' + 1) / 2 ^ lo' := by
      intro x
      have e1 : hi' + 1 = lo' + (hi' + 1 - lo') := by omega
      conv_rhs => rw [e1, pow_add, Nat.mod_mul_right_div_self]
    have hd : (withBits w hi lo v).toNat % 2 ^ (hi' + 1) = w.toNat % 2 ^ (hi' + 1) := by
      rw [withBits_toNat w hi lo v h h32]
      conv_rhs => rw [word_split w hi lo h]
      have e1 : 2 ^ (hi + 1) = 2 ^ (hi' + 1) * 2 ^ (hi - hi') := by rw [← pow_add]; congr 1; omega
      have e2 : 2 ^ lo = 2 ^ (hi' + 1) * 2 ^ (lo - (hi' + 1)) := by rw [← pow_add]; congr 1; omega
      have a1 : ∀ q x y : Nat, (q * 2 ^ (hi + 1) + x * 2 ^ lo + y) % 2 ^ (hi' + 1) = y % 2 ^ (hi' + 1) := by
        intro q x y
        have : q * 2 ^ (hi + 1) + x * 2 ^ lo + y = y + 2 ^ (hi' + 1) * (q * 2 ^ (hi - hi') + x * 2 ^ (lo - (hi' + 1))) := by
          rw [e1, e2]; ring
        rw [this, Nat.add_mul_mod_self_left]
      rw [a1, a1]
    rw [bitsOf_eq, bitsOf_eq, hk, hk, hd]
  · have h0 : hi' + 1 - lo' = 0 := by omega
    simp [bitsOf, h0, Nat.mod_one]

/-- A field above the one written keeps its value. -/
theorem bitsOf_withBits_above (w : Word) (hi lo v hi' lo' : Nat) (h : lo ≤ hi) (h32 : hi < 32) (hb : hi < lo') :
    bitsOf (withBits w hi lo v) hi' lo' = bitsOf w hi' lo' := by
  have hp : 2 ^ (hi + 1) = 2 ^ lo * 2 ^ (hi + 1 - lo) := by rw [← pow_add]; congr 1; omega
  have hv : v % 2 ^ (hi + 1 - lo) < 2 ^ (hi + 1 - lo) := Nat.mod_lt _ (Nat.two_pow_pos _)
  have hr : w.toNat % 2 ^ lo < 2 ^ lo := Nat.mod_lt _ (Nat.two_pow_pos _)
  have hmid : v % 2 ^ (hi + 1 - lo) * 2 ^ lo + w.toNat % 2 ^ lo < 2 ^ (hi + 1) := by
    rw [hp]; nlinarith [Nat.two_pow_pos lo]
  have e : 2 ^ lo' = 2 ^ (hi + 1) * 2 ^ (lo' - (hi + 1)) := by rw [← pow_add]; congr 1; omega
  have hd : (withBits w hi lo v).toNat / 2 ^ lo' = w.toNat / 2 ^ lo' := by
    rw [e, ← Nat.div_div_eq_div_mul, ← Nat.div_div_eq_div_mul, withBits_toNat w hi lo v h h32]
    have : w.toNat / 2 ^ (hi + 1) * 2 ^ (hi + 1) + v % 2 ^ (hi + 1 - lo) * 2 ^ lo + w.toNat % 2 ^ lo =
        (v % 2 ^ (hi + 1 - lo) * 2 ^ lo + w.toNat % 2 ^ lo) + 2 ^ (hi + 1) * (w.toNat / 2 ^ (hi + 1)) := by ring
    rw [this, Nat.add_mul_div_left _ _ (Nat.two_pow_pos _), Nat.div_eq_of_lt hmid, zero_add]
  rw [bitsOf_eq, bitsOf_eq, hd]

end Sys2Proof.Machine
end

