-- ==== Sys2Proof/Laws/Sparse.lean ====
section
/-! SUPPORT. Laws of sparse tables: reads after writes, and the canonical form. -/

namespace Sys2Proof.Machine

variable {α : Type}

theorem Sparse.get_insert_same (d : Nat → α) (k : Nat) (v : α) (m : Sparse α) : Sparse.get d (Sparse.insert k v m) k = v := by
  induction m with
  | nil => simp [Sparse.insert, Sparse.get]
  | cons e t ih =>
    obtain ⟨j, w⟩ := e
    by_cases h1 : k < j
    · simp [Sparse.insert, Sparse.get, h1]
    · by_cases h2 : k = j
      · simp [Sparse.insert, Sparse.get, h2]
      · simpa [Sparse.insert, Sparse.get, h1, h2] using ih

theorem Sparse.get_insert_ne (d : Nat → α) (k : Nat) (v : α) (m : Sparse α) {k' : Nat} (h : k' ≠ k) :
    Sparse.get d (Sparse.insert k v m) k' = Sparse.get d m k' := by
  induction m with
  | nil => simp [Sparse.insert, Sparse.get, h]
  | cons e t ih =>
    obtain ⟨j, w⟩ := e
    by_cases h1 : k < j
    · simp [Sparse.insert, Sparse.get, h1, h]
    · by_cases h2 : k = j
      · subst h2; simp [Sparse.insert, Sparse.get, h]
      · simp [Sparse.insert, Sparse.get, h1, h2, ih]

theorem Sparse.get_erase_ne (d : Nat → α) (k : Nat) (m : Sparse α) {k' : Nat} (h : k' ≠ k) :
    Sparse.get d (Sparse.erase k m) k' = Sparse.get d m k' := by
  induction m with
  | nil => rfl
  | cons e t ih =>
    obtain ⟨j, w⟩ := e
    by_cases h2 : k = j
    · subst h2; simp [Sparse.erase, Sparse.get, h, ih]
    · simp [Sparse.erase, Sparse.get, h2, ih]

theorem Sparse.get_erase_same (d : Nat → α) (k : Nat) (m : Sparse α) : Sparse.get d (Sparse.erase k m) k = d k := by
  induction m with
  | nil => rfl
  | cons e t ih =>
    obtain ⟨j, w⟩ := e
    by_cases h2 : k = j
    · subst h2; simp [Sparse.erase, ih]
    · simp [Sparse.erase, Sparse.get, h2, ih]

theorem Sparse.above_iff (b : Nat) (m : Sparse α) : Sparse.above b m = true ↔ ∀ e ∈ m, b < e.1 := by
  simp [Sparse.above]

theorem Sparse.mem_insert (k : Nat) (v : α) (m : Sparse α) (e : Nat × α) (h : e ∈ Sparse.insert k v m) : e = (k, v) ∨ e ∈ m := by
  induction m with
  | nil => simpa [Sparse.insert] using h
  | cons a t ih =>
    obtain ⟨j, w⟩ := a
    unfold Sparse.insert at h
    split at h
    · simpa using h
    · split at h
      · rcases List.mem_cons.1 h with h | h
        · exact .inl h
        · exact .inr (List.mem_cons_of_mem _ h)
      · rcases List.mem_cons.1 h with h | h
        · exact .inr (by simp [h])
        · exact (ih h).imp id (List.mem_cons_of_mem _)

theorem Sparse.mem_erase (k : Nat) (m : Sparse α) (e : Nat × α) (h : e ∈ Sparse.erase k m) : e ∈ m := by
  induction m with
  | nil => simp [Sparse.erase] at h
  | cons a t ih =>
    obtain ⟨j, w⟩ := a
    unfold Sparse.erase at h
    split at h
    · exact List.mem_cons_of_mem _ (ih h)
    · rcases List.mem_cons.1 h with h | h
      · simp [h]
      · exact List.mem_cons_of_mem _ (ih h)

section

variable [DecidableEq α]

theorem Sparse.wf_cons (d : Nat → α) (j : Nat) (v : α) (t : Sparse α) :
    Sparse.wf d ((j, v) :: t) = true ↔ v ≠ d j ∧ Sparse.above j t = true ∧ Sparse.wf d t = true := by
  simp [Sparse.wf, and_assoc]

/-- A read of the key just written answers the value written. -/
@[simp] theorem Sparse.get_set_same (d : Nat → α) (m : Sparse α) (k : Nat) (v : α) : Sparse.get d (Sparse.set d m k v) k = v := by
  unfold Sparse.set
  split
  · rename_i hv; rw [Sparse.get_erase_same d k m, hv]
  · exact Sparse.get_insert_same d k v m

/-- A write leaves every other key alone. -/
@[simp] theorem Sparse.get_set_ne (d : Nat → α) (m : Sparse α) (k : Nat) (v : α) {k' : Nat} (h : k' ≠ k) :
    Sparse.get d (Sparse.set d m k v) k' = Sparse.get d m k' := by
  unfold Sparse.set
  split
  · exact Sparse.get_erase_ne d k m h
  · exact Sparse.get_insert_ne d k v m h

theorem Sparse.mem_set (d : Nat → α) (m : Sparse α) (k : Nat) (v : α) (e : Nat × α) (h : e ∈ Sparse.set d m k v) : e = (k, v) ∨ e ∈ m := by
  unfold Sparse.set at h
  split at h
  · exact .inr (Sparse.mem_erase k m e h)
  · exact Sparse.mem_insert k v m e h

theorem Sparse.insert_wf (d : Nat → α) (k : Nat) (v : α) (m : Sparse α) (hv : v ≠ d k) (h : Sparse.wf d m = true) :
    Sparse.wf d (Sparse.insert k v m) = true := by
  induction m with
  | nil => simp [Sparse.insert, Sparse.wf, Sparse.above, hv]
  | cons e t ih =>
    obtain ⟨j, w⟩ := e
    obtain ⟨hw, ha, ht⟩ := (Sparse.wf_cons d j w t).1 h
    rw [Sparse.above_iff] at ha
    by_cases h1 : k < j
    · simp only [Sparse.insert, h1, if_true]
      refine (Sparse.wf_cons d k v _).2 ⟨hv, (Sparse.above_iff k _).2 fun e he => ?_, h⟩
      rcases List.mem_cons.1 he with he | he
      · simpa [he] using h1
      · exact Nat.lt_trans h1 (ha e he)
    · by_cases h2 : k = j
      · subst h2
        simpa [Sparse.insert] using (Sparse.wf_cons d k v t).2 ⟨hv, (Sparse.above_iff k t).2 ha, ht⟩
      · simp only [Sparse.insert, h1, h2, if_false]
        refine (Sparse.wf_cons d j w _).2 ⟨hw, (Sparse.above_iff j _).2 fun e he => ?_, ih ht⟩
        rcases Sparse.mem_insert k v t e he with he | he
        · simp only [he]; omega
        · exact ha e he

theorem Sparse.erase_wf (d : Nat → α) (k : Nat) (m : Sparse α) (h : Sparse.wf d m = true) : Sparse.wf d (Sparse.erase k m) = true := by
  induction m with
  | nil => rfl
  | cons e t ih =>
    obtain ⟨j, w⟩ := e
    obtain ⟨hw, ha, ht⟩ := (Sparse.wf_cons d j w t).1 h
    rw [Sparse.above_iff] at ha
    unfold Sparse.erase
    split
    · exact ih ht
    · exact (Sparse.wf_cons d j w _).2 ⟨hw, (Sparse.above_iff j _).2 fun e he => ha e (Sparse.mem_erase k t e he), ih ht⟩

/-- Every write keeps the canonical form. -/
theorem Sparse.set_wf (d : Nat → α) (m : Sparse α) (k : Nat) (v : α) (h : Sparse.wf d m = true) : Sparse.wf d (Sparse.set d m k v) = true := by
  unfold Sparse.set
  split
  · exact Sparse.erase_wf d k m h
  · rename_i hv; exact Sparse.insert_wf d k v m hv h

/-- Dropping entries keeps the canonical form. -/
theorem Sparse.filter_wf (d : Nat → α) (p : Nat × α → Bool) (m : Sparse α) (h : Sparse.wf d m = true) : Sparse.wf d (List.filter p m) = true := by
  induction m with
  | nil => rfl
  | cons e t ih =>
    obtain ⟨j, w⟩ := e
    obtain ⟨hw, ha, ht⟩ := (Sparse.wf_cons d j w t).1 h
    rw [Sparse.above_iff] at ha
    by_cases hp : p (j, w) = true
    · rw [List.filter_cons_of_pos hp]
      exact (Sparse.wf_cons d j w _).2 ⟨hw, (Sparse.above_iff j _).2 fun e he => ha e ((List.mem_filter.1 he).1), ih ht⟩
    · rw [List.filter_cons_of_neg hp]; exact ih ht

end

end Sys2Proof.Machine
end

