-- ==== Sys2Proof/Laws/State.lean ====
section
/-! SUPPORT. Each shared update of the state, field by field: what it leaves as it was. -/

namespace Sys2Proof.Machine

@[simp] theorem State.wr_part (s : State) (a : Nat) (w : Word) : (s.wr a w).part = s.part := rfl
@[simp] theorem State.wr_pending (s : State) (a : Nat) (w : Word) : (s.wr a w).pending = s.pending := rfl
@[simp] theorem State.wr_atime (s : State) (a : Nat) (w : Word) : (s.wr a w).atime = s.atime := rfl
@[simp] theorem State.wr_free (s : State) (a : Nat) (w : Word) : (s.wr a w).free = s.free := rfl
@[simp] theorem State.wr_mem (s : State) (a : Nat) (w : Word) : (s.wr a w).mem = s.mem := rfl
@[simp] theorem State.wr_pwr (s : State) (a : Nat) (w : Word) : (s.wr a w).pwr = s.pwr := rfl
@[simp] theorem State.wr_mode (s : State) (a : Nat) (w : Word) : (s.wr a w).mode = s.mode := rfl
@[simp] theorem State.wr_host (s : State) (a : Nat) (w : Word) : (s.wr a w).host = s.host := rfl
@[simp] theorem State.wr_own (s : State) (a : Nat) (w : Word) : (s.wr a w).own = s.own := rfl
@[simp] theorem State.wr_store (s : State) (a : Nat) (w : Word) : (s.wr a w).store = s.store := rfl
@[simp] theorem State.wr_mkt (s : State) (a : Nat) (w : Word) : (s.wr a w).mkt = s.mkt := rfl
@[simp] theorem State.wr_led (s : State) (a : Nat) (w : Word) : (s.wr a w).led = s.led := rfl
@[simp] theorem State.wr_fe (s : State) (a : Nat) (w : Word) : (s.wr a w).fe = s.fe := rfl
@[simp] theorem State.wr_edge (s : State) (a : Nat) (w : Word) : (s.wr a w).edge = s.edge := rfl
@[simp] theorem State.wr_pair (s : State) (a : Nat) (w : Word) : (s.wr a w).pair = s.pair := rfl
@[simp] theorem State.wr_dcl (s : State) (a : Nat) (w : Word) : (s.wr a w).dcl = s.dcl := rfl
@[simp] theorem State.wr_acq (s : State) (a : Nat) (w : Word) : (s.wr a w).acq = s.acq := rfl
@[simp] theorem State.wr_trac (s : State) (a : Nat) (w : Word) : (s.wr a w).trac = s.trac := rfl
@[simp] theorem State.wr_conv (s : State) (a : Nat) (w : Word) : (s.wr a w).conv = s.conv := rfl
@[simp] theorem State.wr_chg (s : State) (a : Nat) (w : Word) : (s.wr a w).chg = s.chg := rfl
@[simp] theorem State.wr_mot (s : State) (a : Nat) (w : Word) : (s.wr a w).mot = s.mot := rfl
@[simp] theorem State.wr_disc (s : State) (a : Nat) (w : Word) : (s.wr a w).disc = s.disc := rfl
@[simp] theorem State.wr_safe (s : State) (a : Nat) (w : Word) : (s.wr a w).safe = s.safe := rfl
@[simp] theorem State.wr_tally (s : State) (a : Nat) (w : Word) : (s.wr a w).tally = s.tally := rfl
@[simp] theorem State.wr_net (s : State) (a : Nat) (w : Word) : (s.wr a w).net = s.net := rfl

@[simp] theorem State.put_part (s : State) (F : Fld) (v : Nat) : (s.put F v).part = s.part := rfl
@[simp] theorem State.put_pending (s : State) (F : Fld) (v : Nat) : (s.put F v).pending = s.pending := rfl
@[simp] theorem State.put_atime (s : State) (F : Fld) (v : Nat) : (s.put F v).atime = s.atime := rfl
@[simp] theorem State.put_free (s : State) (F : Fld) (v : Nat) : (s.put F v).free = s.free := rfl
@[simp] theorem State.put_mem (s : State) (F : Fld) (v : Nat) : (s.put F v).mem = s.mem := rfl
@[simp] theorem State.put_pwr (s : State) (F : Fld) (v : Nat) : (s.put F v).pwr = s.pwr := rfl
@[simp] theorem State.put_mode (s : State) (F : Fld) (v : Nat) : (s.put F v).mode = s.mode := rfl
@[simp] theorem State.put_host (s : State) (F : Fld) (v : Nat) : (s.put F v).host = s.host := rfl
@[simp] theorem State.put_own (s : State) (F : Fld) (v : Nat) : (s.put F v).own = s.own := rfl
@[simp] theorem State.put_store (s : State) (F : Fld) (v : Nat) : (s.put F v).store = s.store := rfl
@[simp] theorem State.put_mkt (s : State) (F : Fld) (v : Nat) : (s.put F v).mkt = s.mkt := rfl
@[simp] theorem State.put_led (s : State) (F : Fld) (v : Nat) : (s.put F v).led = s.led := rfl
@[simp] theorem State.put_fe (s : State) (F : Fld) (v : Nat) : (s.put F v).fe = s.fe := rfl
@[simp] theorem State.put_edge (s : State) (F : Fld) (v : Nat) : (s.put F v).edge = s.edge := rfl
@[simp] theorem State.put_pair (s : State) (F : Fld) (v : Nat) : (s.put F v).pair = s.pair := rfl
@[simp] theorem State.put_dcl (s : State) (F : Fld) (v : Nat) : (s.put F v).dcl = s.dcl := rfl
@[simp] theorem State.put_acq (s : State) (F : Fld) (v : Nat) : (s.put F v).acq = s.acq := rfl
@[simp] theorem State.put_trac (s : State) (F : Fld) (v : Nat) : (s.put F v).trac = s.trac := rfl
@[simp] theorem State.put_conv (s : State) (F : Fld) (v : Nat) : (s.put F v).conv = s.conv := rfl
@[simp] theorem State.put_chg (s : State) (F : Fld) (v : Nat) : (s.put F v).chg = s.chg := rfl
@[simp] theorem State.put_mot (s : State) (F : Fld) (v : Nat) : (s.put F v).mot = s.mot := rfl
@[simp] theorem State.put_disc (s : State) (F : Fld) (v : Nat) : (s.put F v).disc = s.disc := rfl
@[simp] theorem State.put_safe (s : State) (F : Fld) (v : Nat) : (s.put F v).safe = s.safe := rfl
@[simp] theorem State.put_tally (s : State) (F : Fld) (v : Nat) : (s.put F v).tally = s.tally := rfl
@[simp] theorem State.put_net (s : State) (F : Fld) (v : Nat) : (s.put F v).net = s.net := rfl

@[simp] theorem State.putB_part (s : State) (F : Fld) (b : Bool) : (s.putB F b).part = s.part := rfl
@[simp] theorem State.putB_pending (s : State) (F : Fld) (b : Bool) : (s.putB F b).pending = s.pending := rfl
@[simp] theorem State.putB_atime (s : State) (F : Fld) (b : Bool) : (s.putB F b).atime = s.atime := rfl
@[simp] theorem State.putB_free (s : State) (F : Fld) (b : Bool) : (s.putB F b).free = s.free := rfl
@[simp] theorem State.putB_mem (s : State) (F : Fld) (b : Bool) : (s.putB F b).mem = s.mem := rfl
@[simp] theorem State.putB_pwr (s : State) (F : Fld) (b : Bool) : (s.putB F b).pwr = s.pwr := rfl
@[simp] theorem State.putB_mode (s : State) (F : Fld) (b : Bool) : (s.putB F b).mode = s.mode := rfl
@[simp] theorem State.putB_host (s : State) (F : Fld) (b : Bool) : (s.putB F b).host = s.host := rfl
@[simp] theorem State.putB_own (s : State) (F : Fld) (b : Bool) : (s.putB F b).own = s.own := rfl
@[simp] theorem State.putB_store (s : State) (F : Fld) (b : Bool) : (s.putB F b).store = s.store := rfl
@[simp] theorem State.putB_mkt (s : State) (F : Fld) (b : Bool) : (s.putB F b).mkt = s.mkt := rfl
@[simp] theorem State.putB_led (s : State) (F : Fld) (b : Bool) : (s.putB F b).led = s.led := rfl
@[simp] theorem State.putB_fe (s : State) (F : Fld) (b : Bool) : (s.putB F b).fe = s.fe := rfl
@[simp] theorem State.putB_edge (s : State) (F : Fld) (b : Bool) : (s.putB F b).edge = s.edge := rfl
@[simp] theorem State.putB_pair (s : State) (F : Fld) (b : Bool) : (s.putB F b).pair = s.pair := rfl
@[simp] theorem State.putB_dcl (s : State) (F : Fld) (b : Bool) : (s.putB F b).dcl = s.dcl := rfl
@[simp] theorem State.putB_acq (s : State) (F : Fld) (b : Bool) : (s.putB F b).acq = s.acq := rfl
@[simp] theorem State.putB_trac (s : State) (F : Fld) (b : Bool) : (s.putB F b).trac = s.trac := rfl
@[simp] theorem State.putB_conv (s : State) (F : Fld) (b : Bool) : (s.putB F b).conv = s.conv := rfl
@[simp] theorem State.putB_chg (s : State) (F : Fld) (b : Bool) : (s.putB F b).chg = s.chg := rfl
@[simp] theorem State.putB_mot (s : State) (F : Fld) (b : Bool) : (s.putB F b).mot = s.mot := rfl
@[simp] theorem State.putB_disc (s : State) (F : Fld) (b : Bool) : (s.putB F b).disc = s.disc := rfl
@[simp] theorem State.putB_safe (s : State) (F : Fld) (b : Bool) : (s.putB F b).safe = s.safe := rfl
@[simp] theorem State.putB_tally (s : State) (F : Fld) (b : Bool) : (s.putB F b).tally = s.tally := rfl
@[simp] theorem State.putB_net (s : State) (F : Fld) (b : Bool) : (s.putB F b).net = s.net := rfl

@[simp] theorem State.putBit_part (s : State) (F : Fld) (b : Nat) (v : Bool) : (s.putBit F b v).part = s.part := rfl
@[simp] theorem State.putBit_pending (s : State) (F : Fld) (b : Nat) (v : Bool) : (s.putBit F b v).pending = s.pending := rfl
@[simp] theorem State.putBit_atime (s : State) (F : Fld) (b : Nat) (v : Bool) : (s.putBit F b v).atime = s.atime := rfl
@[simp] theorem State.putBit_free (s : State) (F : Fld) (b : Nat) (v : Bool) : (s.putBit F b v).free = s.free := rfl
@[simp] theorem State.putBit_mem (s : State) (F : Fld) (b : Nat) (v : Bool) : (s.putBit F b v).mem = s.mem := rfl
@[simp] theorem State.putBit_pwr (s : State) (F : Fld) (b : Nat) (v : Bool) : (s.putBit F b v).pwr = s.pwr := rfl
@[simp] theorem State.putBit_mode (s : State) (F : Fld) (b : Nat) (v : Bool) : (s.putBit F b v).mode = s.mode := rfl
@[simp] theorem State.putBit_host (s : State) (F : Fld) (b : Nat) (v : Bool) : (s.putBit F b v).host = s.host := rfl
@[simp] theorem State.putBit_own (s : State) (F : Fld) (b : Nat) (v : Bool) : (s.putBit F b v).own = s.own := rfl
@[simp] theorem State.putBit_store (s : State) (F : Fld) (b : Nat) (v : Bool) : (s.putBit F b v).store = s.store := rfl
@[simp] theorem State.putBit_mkt (s : State) (F : Fld) (b : Nat) (v : Bool) : (s.putBit F b v).mkt = s.mkt := rfl
@[simp] theorem State.putBit_led (s : State) (F : Fld) (b : Nat) (v : Bool) : (s.putBit F b v).led = s.led := rfl
@[simp] theorem State.putBit_fe (s : State) (F : Fld) (b : Nat) (v : Bool) : (s.putBit F b v).fe = s.fe := rfl
@[simp] theorem State.putBit_edge (s : State) (F : Fld) (b : Nat) (v : Bool) : (s.putBit F b v).edge = s.edge := rfl
@[simp] theorem State.putBit_pair (s : State) (F : Fld) (b : Nat) (v : Bool) : (s.putBit F b v).pair = s.pair := rfl
@[simp] theorem State.putBit_dcl (s : State) (F : Fld) (b : Nat) (v : Bool) : (s.putBit F b v).dcl = s.dcl := rfl
@[simp] theorem State.putBit_acq (s : State) (F : Fld) (b : Nat) (v : Bool) : (s.putBit F b v).acq = s.acq := rfl
@[simp] theorem State.putBit_trac (s : State) (F : Fld) (b : Nat) (v : Bool) : (s.putBit F b v).trac = s.trac := rfl
@[simp] theorem State.putBit_conv (s : State) (F : Fld) (b : Nat) (v : Bool) : (s.putBit F b v).conv = s.conv := rfl
@[simp] theorem State.putBit_chg (s : State) (F : Fld) (b : Nat) (v : Bool) : (s.putBit F b v).chg = s.chg := rfl
@[simp] theorem State.putBit_mot (s : State) (F : Fld) (b : Nat) (v : Bool) : (s.putBit F b v).mot = s.mot := rfl
@[simp] theorem State.putBit_disc (s : State) (F : Fld) (b : Nat) (v : Bool) : (s.putBit F b v).disc = s.disc := rfl
@[simp] theorem State.putBit_safe (s : State) (F : Fld) (b : Nat) (v : Bool) : (s.putBit F b v).safe = s.safe := rfl
@[simp] theorem State.putBit_tally (s : State) (F : Fld) (b : Nat) (v : Bool) : (s.putBit F b v).tally = s.tally := rfl
@[simp] theorem State.putBit_net (s : State) (F : Fld) (b : Nat) (v : Bool) : (s.putBit F b v).net = s.net := rfl

@[simp] theorem State.satInc_part (s : State) (F : Fld) : (s.satInc F).part = s.part := rfl
@[simp] theorem State.satInc_pending (s : State) (F : Fld) : (s.satInc F).pending = s.pending := rfl
@[simp] theorem State.satInc_atime (s : State) (F : Fld) : (s.satInc F).atime = s.atime := rfl
@[simp] theorem State.satInc_free (s : State) (F : Fld) : (s.satInc F).free = s.free := rfl
@[simp] theorem State.satInc_mem (s : State) (F : Fld) : (s.satInc F).mem = s.mem := rfl
@[simp] theorem State.satInc_pwr (s : State) (F : Fld) : (s.satInc F).pwr = s.pwr := rfl
@[simp] theorem State.satInc_mode (s : State) (F : Fld) : (s.satInc F).mode = s.mode := rfl
@[simp] theorem State.satInc_host (s : State) (F : Fld) : (s.satInc F).host = s.host := rfl
@[simp] theorem State.satInc_own (s : State) (F : Fld) : (s.satInc F).own = s.own := rfl
@[simp] theorem State.satInc_store (s : State) (F : Fld) : (s.satInc F).store = s.store := rfl
@[simp] theorem State.satInc_mkt (s : State) (F : Fld) : (s.satInc F).mkt = s.mkt := rfl
@[simp] theorem State.satInc_led (s : State) (F : Fld) : (s.satInc F).led = s.led := rfl
@[simp] theorem State.satInc_fe (s : State) (F : Fld) : (s.satInc F).fe = s.fe := rfl
@[simp] theorem State.satInc_edge (s : State) (F : Fld) : (s.satInc F).edge = s.edge := rfl
@[simp] theorem State.satInc_pair (s : State) (F : Fld) : (s.satInc F).pair = s.pair := rfl
@[simp] theorem State.satInc_dcl (s : State) (F : Fld) : (s.satInc F).dcl = s.dcl := rfl
@[simp] theorem State.satInc_acq (s : State) (F : Fld) : (s.satInc F).acq = s.acq := rfl
@[simp] theorem State.satInc_trac (s : State) (F : Fld) : (s.satInc F).trac = s.trac := rfl
@[simp] theorem State.satInc_conv (s : State) (F : Fld) : (s.satInc F).conv = s.conv := rfl
@[simp] theorem State.satInc_chg (s : State) (F : Fld) : (s.satInc F).chg = s.chg := rfl
@[simp] theorem State.satInc_mot (s : State) (F : Fld) : (s.satInc F).mot = s.mot := rfl
@[simp] theorem State.satInc_disc (s : State) (F : Fld) : (s.satInc F).disc = s.disc := rfl
@[simp] theorem State.satInc_safe (s : State) (F : Fld) : (s.satInc F).safe = s.safe := rfl
@[simp] theorem State.satInc_tally (s : State) (F : Fld) : (s.satInc F).tally = s.tally := rfl
@[simp] theorem State.satInc_net (s : State) (F : Fld) : (s.satInc F).net = s.net := rfl

@[simp] theorem State.wrapInc_part (s : State) (F : Fld) : (s.wrapInc F).part = s.part := rfl
@[simp] theorem State.wrapInc_pending (s : State) (F : Fld) : (s.wrapInc F).pending = s.pending := rfl
@[simp] theorem State.wrapInc_atime (s : State) (F : Fld) : (s.wrapInc F).atime = s.atime := rfl
@[simp] theorem State.wrapInc_free (s : State) (F : Fld) : (s.wrapInc F).free = s.free := rfl
@[simp] theorem State.wrapInc_mem (s : State) (F : Fld) : (s.wrapInc F).mem = s.mem := rfl
@[simp] theorem State.wrapInc_pwr (s : State) (F : Fld) : (s.wrapInc F).pwr = s.pwr := rfl
@[simp] theorem State.wrapInc_mode (s : State) (F : Fld) : (s.wrapInc F).mode = s.mode := rfl
@[simp] theorem State.wrapInc_host (s : State) (F : Fld) : (s.wrapInc F).host = s.host := rfl
@[simp] theorem State.wrapInc_own (s : State) (F : Fld) : (s.wrapInc F).own = s.own := rfl
@[simp] theorem State.wrapInc_store (s : State) (F : Fld) : (s.wrapInc F).store = s.store := rfl
@[simp] theorem State.wrapInc_mkt (s : State) (F : Fld) : (s.wrapInc F).mkt = s.mkt := rfl
@[simp] theorem State.wrapInc_led (s : State) (F : Fld) : (s.wrapInc F).led = s.led := rfl
@[simp] theorem State.wrapInc_fe (s : State) (F : Fld) : (s.wrapInc F).fe = s.fe := rfl
@[simp] theorem State.wrapInc_edge (s : State) (F : Fld) : (s.wrapInc F).edge = s.edge := rfl
@[simp] theorem State.wrapInc_pair (s : State) (F : Fld) : (s.wrapInc F).pair = s.pair := rfl
@[simp] theorem State.wrapInc_dcl (s : State) (F : Fld) : (s.wrapInc F).dcl = s.dcl := rfl
@[simp] theorem State.wrapInc_acq (s : State) (F : Fld) : (s.wrapInc F).acq = s.acq := rfl
@[simp] theorem State.wrapInc_trac (s : State) (F : Fld) : (s.wrapInc F).trac = s.trac := rfl
@[simp] theorem State.wrapInc_conv (s : State) (F : Fld) : (s.wrapInc F).conv = s.conv := rfl
@[simp] theorem State.wrapInc_chg (s : State) (F : Fld) : (s.wrapInc F).chg = s.chg := rfl
@[simp] theorem State.wrapInc_mot (s : State) (F : Fld) : (s.wrapInc F).mot = s.mot := rfl
@[simp] theorem State.wrapInc_disc (s : State) (F : Fld) : (s.wrapInc F).disc = s.disc := rfl
@[simp] theorem State.wrapInc_safe (s : State) (F : Fld) : (s.wrapInc F).safe = s.safe := rfl
@[simp] theorem State.wrapInc_tally (s : State) (F : Fld) : (s.wrapInc F).tally = s.tally := rfl
@[simp] theorem State.wrapInc_net (s : State) (F : Fld) : (s.wrapInc F).net = s.net := rfl

@[simp] theorem State.useFree_part (s : State) : (s.useFree).part = s.part := rfl
@[simp] theorem State.useFree_pending (s : State) : (s.useFree).pending = s.pending := rfl
@[simp] theorem State.useFree_atime (s : State) : (s.useFree).atime = s.atime := rfl
@[simp] theorem State.useFree_regs (s : State) : (s.useFree).regs = s.regs := rfl
@[simp] theorem State.useFree_mem (s : State) : (s.useFree).mem = s.mem := rfl
@[simp] theorem State.useFree_pwr (s : State) : (s.useFree).pwr = s.pwr := rfl
@[simp] theorem State.useFree_mode (s : State) : (s.useFree).mode = s.mode := rfl
@[simp] theorem State.useFree_host (s : State) : (s.useFree).host = s.host := rfl
@[simp] theorem State.useFree_own (s : State) : (s.useFree).own = s.own := rfl
@[simp] theorem State.useFree_store (s : State) : (s.useFree).store = s.store := rfl
@[simp] theorem State.useFree_mkt (s : State) : (s.useFree).mkt = s.mkt := rfl
@[simp] theorem State.useFree_led (s : State) : (s.useFree).led = s.led := rfl
@[simp] theorem State.useFree_fe (s : State) : (s.useFree).fe = s.fe := rfl
@[simp] theorem State.useFree_edge (s : State) : (s.useFree).edge = s.edge := rfl
@[simp] theorem State.useFree_pair (s : State) : (s.useFree).pair = s.pair := rfl
@[simp] theorem State.useFree_dcl (s : State) : (s.useFree).dcl = s.dcl := rfl
@[simp] theorem State.useFree_acq (s : State) : (s.useFree).acq = s.acq := rfl
@[simp] theorem State.useFree_trac (s : State) : (s.useFree).trac = s.trac := rfl
@[simp] theorem State.useFree_conv (s : State) : (s.useFree).conv = s.conv := rfl
@[simp] theorem State.useFree_chg (s : State) : (s.useFree).chg = s.chg := rfl
@[simp] theorem State.useFree_mot (s : State) : (s.useFree).mot = s.mot := rfl
@[simp] theorem State.useFree_disc (s : State) : (s.useFree).disc = s.disc := rfl
@[simp] theorem State.useFree_safe (s : State) : (s.useFree).safe = s.safe := rfl
@[simp] theorem State.useFree_tally (s : State) : (s.useFree).tally = s.tally := rfl
@[simp] theorem State.useFree_net (s : State) : (s.useFree).net = s.net := rfl
@[simp] theorem State.useFree_rd (s : State) (x : Nat) : (s.useFree).rd x = s.rd x := rfl
@[simp] theorem State.useFree_get (s : State) (X : Fld) : (s.useFree).get X = s.get X := rfl
@[simp] theorem State.useFree_flag (s : State) (X : Fld) : (s.useFree).flag X = s.flag X := rfl
@[simp] theorem State.useFree_md (s : State) : (s.useFree).md = s.md := rfl

@[simp] theorem State.raiseFor_part (s : State) (code sev unit own : Nat) (c0 c1 : Option Word) : (s.raiseFor code sev unit own c0 c1).part = s.part := rfl
@[simp] theorem State.raiseFor_pending (s : State) (code sev unit own : Nat) (c0 c1 : Option Word) : (s.raiseFor code sev unit own c0 c1).pending = s.pending := rfl
@[simp] theorem State.raiseFor_atime (s : State) (code sev unit own : Nat) (c0 c1 : Option Word) : (s.raiseFor code sev unit own c0 c1).atime = s.atime := rfl
@[simp] theorem State.raiseFor_mem (s : State) (code sev unit own : Nat) (c0 c1 : Option Word) : (s.raiseFor code sev unit own c0 c1).mem = s.mem := rfl
@[simp] theorem State.raiseFor_pwr (s : State) (code sev unit own : Nat) (c0 c1 : Option Word) : (s.raiseFor code sev unit own c0 c1).pwr = s.pwr := rfl
@[simp] theorem State.raiseFor_mode (s : State) (code sev unit own : Nat) (c0 c1 : Option Word) : (s.raiseFor code sev unit own c0 c1).mode = s.mode := rfl
@[simp] theorem State.raiseFor_host (s : State) (code sev unit own : Nat) (c0 c1 : Option Word) : (s.raiseFor code sev unit own c0 c1).host = s.host := rfl
@[simp] theorem State.raiseFor_own (s : State) (code sev unit own : Nat) (c0 c1 : Option Word) : (s.raiseFor code sev unit own c0 c1).own = s.own := rfl
@[simp] theorem State.raiseFor_store (s : State) (code sev unit own : Nat) (c0 c1 : Option Word) : (s.raiseFor code sev unit own c0 c1).store = s.store := rfl
@[simp] theorem State.raiseFor_mkt (s : State) (code sev unit own : Nat) (c0 c1 : Option Word) : (s.raiseFor code sev unit own c0 c1).mkt = s.mkt := rfl
@[simp] theorem State.raiseFor_fe (s : State) (code sev unit own : Nat) (c0 c1 : Option Word) : (s.raiseFor code sev unit own c0 c1).fe = s.fe := rfl
@[simp] theorem State.raiseFor_edge (s : State) (code sev unit own : Nat) (c0 c1 : Option Word) : (s.raiseFor code sev unit own c0 c1).edge = s.edge := rfl
@[simp] theorem State.raiseFor_pair (s : State) (code sev unit own : Nat) (c0 c1 : Option Word) : (s.raiseFor code sev unit own c0 c1).pair = s.pair := rfl
@[simp] theorem State.raiseFor_dcl (s : State) (code sev unit own : Nat) (c0 c1 : Option Word) : (s.raiseFor code sev unit own c0 c1).dcl = s.dcl := rfl
@[simp] theorem State.raiseFor_acq (s : State) (code sev unit own : Nat) (c0 c1 : Option Word) : (s.raiseFor code sev unit own c0 c1).acq = s.acq := rfl
@[simp] theorem State.raiseFor_trac (s : State) (code sev unit own : Nat) (c0 c1 : Option Word) : (s.raiseFor code sev unit own c0 c1).trac = s.trac := rfl
@[simp] theorem State.raiseFor_conv (s : State) (code sev unit own : Nat) (c0 c1 : Option Word) : (s.raiseFor code sev unit own c0 c1).conv = s.conv := rfl
@[simp] theorem State.raiseFor_chg (s : State) (code sev unit own : Nat) (c0 c1 : Option Word) : (s.raiseFor code sev unit own c0 c1).chg = s.chg := rfl
@[simp] theorem State.raiseFor_mot (s : State) (code sev unit own : Nat) (c0 c1 : Option Word) : (s.raiseFor code sev unit own c0 c1).mot = s.mot := rfl
@[simp] theorem State.raiseFor_disc (s : State) (code sev unit own : Nat) (c0 c1 : Option Word) : (s.raiseFor code sev unit own c0 c1).disc = s.disc := rfl
@[simp] theorem State.raiseFor_safe (s : State) (code sev unit own : Nat) (c0 c1 : Option Word) : (s.raiseFor code sev unit own c0 c1).safe = s.safe := rfl
@[simp] theorem State.raiseFor_tally (s : State) (code sev unit own : Nat) (c0 c1 : Option Word) : (s.raiseFor code sev unit own c0 c1).tally = s.tally := rfl
@[simp] theorem State.raiseFor_net (s : State) (code sev unit own : Nat) (c0 c1 : Option Word) : (s.raiseFor code sev unit own c0 c1).net = s.net := rfl

@[simp] theorem State.raise_part (s : State) (code sev unit : Nat) (c0 c1 : Option Word) : (s.raise code sev unit c0 c1).part = s.part := rfl
@[simp] theorem State.raise_pending (s : State) (code sev unit : Nat) (c0 c1 : Option Word) : (s.raise code sev unit c0 c1).pending = s.pending := rfl
@[simp] theorem State.raise_atime (s : State) (code sev unit : Nat) (c0 c1 : Option Word) : (s.raise code sev unit c0 c1).atime = s.atime := rfl
@[simp] theorem State.raise_mem (s : State) (code sev unit : Nat) (c0 c1 : Option Word) : (s.raise code sev unit c0 c1).mem = s.mem := rfl
@[simp] theorem State.raise_pwr (s : State) (code sev unit : Nat) (c0 c1 : Option Word) : (s.raise code sev unit c0 c1).pwr = s.pwr := rfl
@[simp] theorem State.raise_mode (s : State) (code sev unit : Nat) (c0 c1 : Option Word) : (s.raise code sev unit c0 c1).mode = s.mode := rfl
@[simp] theorem State.raise_host (s : State) (code sev unit : Nat) (c0 c1 : Option Word) : (s.raise code sev unit c0 c1).host = s.host := rfl
@[simp] theorem State.raise_own (s : State) (code sev unit : Nat) (c0 c1 : Option Word) : (s.raise code sev unit c0 c1).own = s.own := rfl
@[simp] theorem State.raise_store (s : State) (code sev unit : Nat) (c0 c1 : Option Word) : (s.raise code sev unit c0 c1).store = s.store := rfl
@[simp] theorem State.raise_mkt (s : State) (code sev unit : Nat) (c0 c1 : Option Word) : (s.raise code sev unit c0 c1).mkt = s.mkt := rfl
@[simp] theorem State.raise_fe (s : State) (code sev unit : Nat) (c0 c1 : Option Word) : (s.raise code sev unit c0 c1).fe = s.fe := rfl
@[simp] theorem State.raise_edge (s : State) (code sev unit : Nat) (c0 c1 : Option Word) : (s.raise code sev unit c0 c1).edge = s.edge := rfl
@[simp] theorem State.raise_pair (s : State) (code sev unit : Nat) (c0 c1 : Option Word) : (s.raise code sev unit c0 c1).pair = s.pair := rfl
@[simp] theorem State.raise_dcl (s : State) (code sev unit : Nat) (c0 c1 : Option Word) : (s.raise code sev unit c0 c1).dcl = s.dcl := rfl
@[simp] theorem State.raise_acq (s : State) (code sev unit : Nat) (c0 c1 : Option Word) : (s.raise code sev unit c0 c1).acq = s.acq := rfl
@[simp] theorem State.raise_trac (s : State) (code sev unit : Nat) (c0 c1 : Option Word) : (s.raise code sev unit c0 c1).trac = s.trac := rfl
@[simp] theorem State.raise_conv (s : State) (code sev unit : Nat) (c0 c1 : Option Word) : (s.raise code sev unit c0 c1).conv = s.conv := rfl
@[simp] theorem State.raise_chg (s : State) (code sev unit : Nat) (c0 c1 : Option Word) : (s.raise code sev unit c0 c1).chg = s.chg := rfl
@[simp] theorem State.raise_mot (s : State) (code sev unit : Nat) (c0 c1 : Option Word) : (s.raise code sev unit c0 c1).mot = s.mot := rfl
@[simp] theorem State.raise_disc (s : State) (code sev unit : Nat) (c0 c1 : Option Word) : (s.raise code sev unit c0 c1).disc = s.disc := rfl
@[simp] theorem State.raise_safe (s : State) (code sev unit : Nat) (c0 c1 : Option Word) : (s.raise code sev unit c0 c1).safe = s.safe := rfl
@[simp] theorem State.raise_tally (s : State) (code sev unit : Nat) (c0 c1 : Option Word) : (s.raise code sev unit c0 c1).tally = s.tally := rfl
@[simp] theorem State.raise_net (s : State) (code sev unit : Nat) (c0 c1 : Option Word) : (s.raise code sev unit c0 c1).net = s.net := rfl

@[simp] theorem State.raiseOwn_part (s : State) (code sev unit own : Nat) (c0 c1 : Option Word) : (s.raiseOwn code sev unit own c0 c1).part = s.part := rfl
@[simp] theorem State.raiseOwn_pending (s : State) (code sev unit own : Nat) (c0 c1 : Option Word) : (s.raiseOwn code sev unit own c0 c1).pending = s.pending := rfl
@[simp] theorem State.raiseOwn_atime (s : State) (code sev unit own : Nat) (c0 c1 : Option Word) : (s.raiseOwn code sev unit own c0 c1).atime = s.atime := rfl
@[simp] theorem State.raiseOwn_mem (s : State) (code sev unit own : Nat) (c0 c1 : Option Word) : (s.raiseOwn code sev unit own c0 c1).mem = s.mem := rfl
@[simp] theorem State.raiseOwn_pwr (s : State) (code sev unit own : Nat) (c0 c1 : Option Word) : (s.raiseOwn code sev unit own c0 c1).pwr = s.pwr := rfl
@[simp] theorem State.raiseOwn_mode (s : State) (code sev unit own : Nat) (c0 c1 : Option Word) : (s.raiseOwn code sev unit own c0 c1).mode = s.mode := rfl
@[simp] theorem State.raiseOwn_host (s : State) (code sev unit own : Nat) (c0 c1 : Option Word) : (s.raiseOwn code sev unit own c0 c1).host = s.host := rfl
@[simp] theorem State.raiseOwn_own (s : State) (code sev unit own : Nat) (c0 c1 : Option Word) : (s.raiseOwn code sev unit own c0 c1).own = s.own := rfl
@[simp] theorem State.raiseOwn_store (s : State) (code sev unit own : Nat) (c0 c1 : Option Word) : (s.raiseOwn code sev unit own c0 c1).store = s.store := rfl
@[simp] theorem State.raiseOwn_mkt (s : State) (code sev unit own : Nat) (c0 c1 : Option Word) : (s.raiseOwn code sev unit own c0 c1).mkt = s.mkt := rfl
@[simp] theorem State.raiseOwn_fe (s : State) (code sev unit own : Nat) (c0 c1 : Option Word) : (s.raiseOwn code sev unit own c0 c1).fe = s.fe := rfl
@[simp] theorem State.raiseOwn_edge (s : State) (code sev unit own : Nat) (c0 c1 : Option Word) : (s.raiseOwn code sev unit own c0 c1).edge = s.edge := rfl
@[simp] theorem State.raiseOwn_pair (s : State) (code sev unit own : Nat) (c0 c1 : Option Word) : (s.raiseOwn code sev unit own c0 c1).pair = s.pair := rfl
@[simp] theorem State.raiseOwn_dcl (s : State) (code sev unit own : Nat) (c0 c1 : Option Word) : (s.raiseOwn code sev unit own c0 c1).dcl = s.dcl := rfl
@[simp] theorem State.raiseOwn_acq (s : State) (code sev unit own : Nat) (c0 c1 : Option Word) : (s.raiseOwn code sev unit own c0 c1).acq = s.acq := rfl
@[simp] theorem State.raiseOwn_trac (s : State) (code sev unit own : Nat) (c0 c1 : Option Word) : (s.raiseOwn code sev unit own c0 c1).trac = s.trac := rfl
@[simp] theorem State.raiseOwn_conv (s : State) (code sev unit own : Nat) (c0 c1 : Option Word) : (s.raiseOwn code sev unit own c0 c1).conv = s.conv := rfl
@[simp] theorem State.raiseOwn_chg (s : State) (code sev unit own : Nat) (c0 c1 : Option Word) : (s.raiseOwn code sev unit own c0 c1).chg = s.chg := rfl
@[simp] theorem State.raiseOwn_mot (s : State) (code sev unit own : Nat) (c0 c1 : Option Word) : (s.raiseOwn code sev unit own c0 c1).mot = s.mot := rfl
@[simp] theorem State.raiseOwn_disc (s : State) (code sev unit own : Nat) (c0 c1 : Option Word) : (s.raiseOwn code sev unit own c0 c1).disc = s.disc := rfl
@[simp] theorem State.raiseOwn_safe (s : State) (code sev unit own : Nat) (c0 c1 : Option Word) : (s.raiseOwn code sev unit own c0 c1).safe = s.safe := rfl
@[simp] theorem State.raiseOwn_tally (s : State) (code sev unit own : Nat) (c0 c1 : Option Word) : (s.raiseOwn code sev unit own c0 c1).tally = s.tally := rfl
@[simp] theorem State.raiseOwn_net (s : State) (code sev unit own : Nat) (c0 c1 : Option Word) : (s.raiseOwn code sev unit own c0 c1).net = s.net := rfl

@[simp] theorem State.eventTo_part (s : State) (only : Option Nat) (code source : Nat) (c0 c1 c2 c3 : Option Word) : (s.eventTo only code source c0 c1 c2 c3).part = s.part := rfl
@[simp] theorem State.eventTo_pending (s : State) (only : Option Nat) (code source : Nat) (c0 c1 c2 c3 : Option Word) : (s.eventTo only code source c0 c1 c2 c3).pending = s.pending := rfl
@[simp] theorem State.eventTo_atime (s : State) (only : Option Nat) (code source : Nat) (c0 c1 c2 c3 : Option Word) : (s.eventTo only code source c0 c1 c2 c3).atime = s.atime := rfl
@[simp] theorem State.eventTo_regs (s : State) (only : Option Nat) (code source : Nat) (c0 c1 c2 c3 : Option Word) : (s.eventTo only code source c0 c1 c2 c3).regs = s.regs := rfl
@[simp] theorem State.eventTo_mem (s : State) (only : Option Nat) (code source : Nat) (c0 c1 c2 c3 : Option Word) : (s.eventTo only code source c0 c1 c2 c3).mem = s.mem := rfl
@[simp] theorem State.eventTo_pwr (s : State) (only : Option Nat) (code source : Nat) (c0 c1 c2 c3 : Option Word) : (s.eventTo only code source c0 c1 c2 c3).pwr = s.pwr := rfl
@[simp] theorem State.eventTo_mode (s : State) (only : Option Nat) (code source : Nat) (c0 c1 c2 c3 : Option Word) : (s.eventTo only code source c0 c1 c2 c3).mode = s.mode := rfl
@[simp] theorem State.eventTo_own (s : State) (only : Option Nat) (code source : Nat) (c0 c1 c2 c3 : Option Word) : (s.eventTo only code source c0 c1 c2 c3).own = s.own := rfl
@[simp] theorem State.eventTo_store (s : State) (only : Option Nat) (code source : Nat) (c0 c1 c2 c3 : Option Word) : (s.eventTo only code source c0 c1 c2 c3).store = s.store := rfl
@[simp] theorem State.eventTo_mkt (s : State) (only : Option Nat) (code source : Nat) (c0 c1 c2 c3 : Option Word) : (s.eventTo only code source c0 c1 c2 c3).mkt = s.mkt := rfl
@[simp] theorem State.eventTo_led (s : State) (only : Option Nat) (code source : Nat) (c0 c1 c2 c3 : Option Word) : (s.eventTo only code source c0 c1 c2 c3).led = s.led := rfl
@[simp] theorem State.eventTo_fe (s : State) (only : Option Nat) (code source : Nat) (c0 c1 c2 c3 : Option Word) : (s.eventTo only code source c0 c1 c2 c3).fe = s.fe := rfl
@[simp] theorem State.eventTo_edge (s : State) (only : Option Nat) (code source : Nat) (c0 c1 c2 c3 : Option Word) : (s.eventTo only code source c0 c1 c2 c3).edge = s.edge := rfl
@[simp] theorem State.eventTo_pair (s : State) (only : Option Nat) (code source : Nat) (c0 c1 c2 c3 : Option Word) : (s.eventTo only code source c0 c1 c2 c3).pair = s.pair := rfl
@[simp] theorem State.eventTo_dcl (s : State) (only : Option Nat) (code source : Nat) (c0 c1 c2 c3 : Option Word) : (s.eventTo only code source c0 c1 c2 c3).dcl = s.dcl := rfl
@[simp] theorem State.eventTo_acq (s : State) (only : Option Nat) (code source : Nat) (c0 c1 c2 c3 : Option Word) : (s.eventTo only code source c0 c1 c2 c3).acq = s.acq := rfl
@[simp] theorem State.eventTo_trac (s : State) (only : Option Nat) (code source : Nat) (c0 c1 c2 c3 : Option Word) : (s.eventTo only code source c0 c1 c2 c3).trac = s.trac := rfl
@[simp] theorem State.eventTo_conv (s : State) (only : Option Nat) (code source : Nat) (c0 c1 c2 c3 : Option Word) : (s.eventTo only code source c0 c1 c2 c3).conv = s.conv := rfl
@[simp] theorem State.eventTo_chg (s : State) (only : Option Nat) (code source : Nat) (c0 c1 c2 c3 : Option Word) : (s.eventTo only code source c0 c1 c2 c3).chg = s.chg := rfl
@[simp] theorem State.eventTo_mot (s : State) (only : Option Nat) (code source : Nat) (c0 c1 c2 c3 : Option Word) : (s.eventTo only code source c0 c1 c2 c3).mot = s.mot := rfl
@[simp] theorem State.eventTo_disc (s : State) (only : Option Nat) (code source : Nat) (c0 c1 c2 c3 : Option Word) : (s.eventTo only code source c0 c1 c2 c3).disc = s.disc := rfl
@[simp] theorem State.eventTo_safe (s : State) (only : Option Nat) (code source : Nat) (c0 c1 c2 c3 : Option Word) : (s.eventTo only code source c0 c1 c2 c3).safe = s.safe := rfl
@[simp] theorem State.eventTo_tally (s : State) (only : Option Nat) (code source : Nat) (c0 c1 c2 c3 : Option Word) : (s.eventTo only code source c0 c1 c2 c3).tally = s.tally := rfl
@[simp] theorem State.eventTo_net (s : State) (only : Option Nat) (code source : Nat) (c0 c1 c2 c3 : Option Word) : (s.eventTo only code source c0 c1 c2 c3).net = s.net := rfl
@[simp] theorem State.eventTo_rd (s : State) (only : Option Nat) (code source : Nat) (c0 c1 c2 c3 : Option Word) (x : Nat) : (s.eventTo only code source c0 c1 c2 c3).rd x = s.rd x := rfl
@[simp] theorem State.eventTo_get (s : State) (only : Option Nat) (code source : Nat) (c0 c1 c2 c3 : Option Word) (X : Fld) : (s.eventTo only code source c0 c1 c2 c3).get X = s.get X := rfl
@[simp] theorem State.eventTo_flag (s : State) (only : Option Nat) (code source : Nat) (c0 c1 c2 c3 : Option Word) (X : Fld) : (s.eventTo only code source c0 c1 c2 c3).flag X = s.flag X := rfl
@[simp] theorem State.eventTo_md (s : State) (only : Option Nat) (code source : Nat) (c0 c1 c2 c3 : Option Word) : (s.eventTo only code source c0 c1 c2 c3).md = s.md := rfl

@[simp] theorem State.event_part (s : State) (code source : Nat) (c0 c1 c2 c3 : Option Word) : (s.event code source c0 c1 c2 c3).part = s.part := rfl
@[simp] theorem State.event_pending (s : State) (code source : Nat) (c0 c1 c2 c3 : Option Word) : (s.event code source c0 c1 c2 c3).pending = s.pending := rfl
@[simp] theorem State.event_atime (s : State) (code source : Nat) (c0 c1 c2 c3 : Option Word) : (s.event code source c0 c1 c2 c3).atime = s.atime := rfl
@[simp] theorem State.event_regs (s : State) (code source : Nat) (c0 c1 c2 c3 : Option Word) : (s.event code source c0 c1 c2 c3).regs = s.regs := rfl
@[simp] theorem State.event_mem (s : State) (code source : Nat) (c0 c1 c2 c3 : Option Word) : (s.event code source c0 c1 c2 c3).mem = s.mem := rfl
@[simp] theorem State.event_pwr (s : State) (code source : Nat) (c0 c1 c2 c3 : Option Word) : (s.event code source c0 c1 c2 c3).pwr = s.pwr := rfl
@[simp] theorem State.event_mode (s : State) (code source : Nat) (c0 c1 c2 c3 : Option Word) : (s.event code source c0 c1 c2 c3).mode = s.mode := rfl
@[simp] theorem State.event_own (s : State) (code source : Nat) (c0 c1 c2 c3 : Option Word) : (s.event code source c0 c1 c2 c3).own = s.own := rfl
@[simp] theorem State.event_store (s : State) (code source : Nat) (c0 c1 c2 c3 : Option Word) : (s.event code source c0 c1 c2 c3).store = s.store := rfl
@[simp] theorem State.event_mkt (s : State) (code source : Nat) (c0 c1 c2 c3 : Option Word) : (s.event code source c0 c1 c2 c3).mkt = s.mkt := rfl
@[simp] theorem State.event_led (s : State) (code source : Nat) (c0 c1 c2 c3 : Option Word) : (s.event code source c0 c1 c2 c3).led = s.led := rfl
@[simp] theorem State.event_fe (s : State) (code source : Nat) (c0 c1 c2 c3 : Option Word) : (s.event code source c0 c1 c2 c3).fe = s.fe := rfl
@[simp] theorem State.event_edge (s : State) (code source : Nat) (c0 c1 c2 c3 : Option Word) : (s.event code source c0 c1 c2 c3).edge = s.edge := rfl
@[simp] theorem State.event_pair (s : State) (code source : Nat) (c0 c1 c2 c3 : Option Word) : (s.event code source c0 c1 c2 c3).pair = s.pair := rfl
@[simp] theorem State.event_dcl (s : State) (code source : Nat) (c0 c1 c2 c3 : Option Word) : (s.event code source c0 c1 c2 c3).dcl = s.dcl := rfl
@[simp] theorem State.event_acq (s : State) (code source : Nat) (c0 c1 c2 c3 : Option Word) : (s.event code source c0 c1 c2 c3).acq = s.acq := rfl
@[simp] theorem State.event_trac (s : State) (code source : Nat) (c0 c1 c2 c3 : Option Word) : (s.event code source c0 c1 c2 c3).trac = s.trac := rfl
@[simp] theorem State.event_conv (s : State) (code source : Nat) (c0 c1 c2 c3 : Option Word) : (s.event code source c0 c1 c2 c3).conv = s.conv := rfl
@[simp] theorem State.event_chg (s : State) (code source : Nat) (c0 c1 c2 c3 : Option Word) : (s.event code source c0 c1 c2 c3).chg = s.chg := rfl
@[simp] theorem State.event_mot (s : State) (code source : Nat) (c0 c1 c2 c3 : Option Word) : (s.event code source c0 c1 c2 c3).mot = s.mot := rfl
@[simp] theorem State.event_disc (s : State) (code source : Nat) (c0 c1 c2 c3 : Option Word) : (s.event code source c0 c1 c2 c3).disc = s.disc := rfl
@[simp] theorem State.event_safe (s : State) (code source : Nat) (c0 c1 c2 c3 : Option Word) : (s.event code source c0 c1 c2 c3).safe = s.safe := rfl
@[simp] theorem State.event_tally (s : State) (code source : Nat) (c0 c1 c2 c3 : Option Word) : (s.event code source c0 c1 c2 c3).tally = s.tally := rfl
@[simp] theorem State.event_net (s : State) (code source : Nat) (c0 c1 c2 c3 : Option Word) : (s.event code source c0 c1 c2 c3).net = s.net := rfl
@[simp] theorem State.event_rd (s : State) (code source : Nat) (c0 c1 c2 c3 : Option Word) (x : Nat) : (s.event code source c0 c1 c2 c3).rd x = s.rd x := rfl
@[simp] theorem State.event_get (s : State) (code source : Nat) (c0 c1 c2 c3 : Option Word) (X : Fld) : (s.event code source c0 c1 c2 c3).get X = s.get X := rfl
@[simp] theorem State.event_flag (s : State) (code source : Nat) (c0 c1 c2 c3 : Option Word) (X : Fld) : (s.event code source c0 c1 c2 c3).flag X = s.flag X := rfl
@[simp] theorem State.event_md (s : State) (code source : Nat) (c0 c1 c2 c3 : Option Word) : (s.event code source c0 c1 c2 c3).md = s.md := rfl

@[simp] theorem State.eventFor_part (s : State) (m code source : Nat) (c0 c1 c2 c3 : Option Word) : (s.eventFor m code source c0 c1 c2 c3).part = s.part := rfl
@[simp] theorem State.eventFor_pending (s : State) (m code source : Nat) (c0 c1 c2 c3 : Option Word) : (s.eventFor m code source c0 c1 c2 c3).pending = s.pending := rfl
@[simp] theorem State.eventFor_atime (s : State) (m code source : Nat) (c0 c1 c2 c3 : Option Word) : (s.eventFor m code source c0 c1 c2 c3).atime = s.atime := rfl
@[simp] theorem State.eventFor_regs (s : State) (m code source : Nat) (c0 c1 c2 c3 : Option Word) : (s.eventFor m code source c0 c1 c2 c3).regs = s.regs := rfl
@[simp] theorem State.eventFor_mem (s : State) (m code source : Nat) (c0 c1 c2 c3 : Option Word) : (s.eventFor m code source c0 c1 c2 c3).mem = s.mem := rfl
@[simp] theorem State.eventFor_pwr (s : State) (m code source : Nat) (c0 c1 c2 c3 : Option Word) : (s.eventFor m code source c0 c1 c2 c3).pwr = s.pwr := rfl
@[simp] theorem State.eventFor_mode (s : State) (m code source : Nat) (c0 c1 c2 c3 : Option Word) : (s.eventFor m code source c0 c1 c2 c3).mode = s.mode := rfl
@[simp] theorem State.eventFor_own (s : State) (m code source : Nat) (c0 c1 c2 c3 : Option Word) : (s.eventFor m code source c0 c1 c2 c3).own = s.own := rfl
@[simp] theorem State.eventFor_store (s : State) (m code source : Nat) (c0 c1 c2 c3 : Option Word) : (s.eventFor m code source c0 c1 c2 c3).store = s.store := rfl
@[simp] theorem State.eventFor_mkt (s : State) (m code source : Nat) (c0 c1 c2 c3 : Option Word) : (s.eventFor m code source c0 c1 c2 c3).mkt = s.mkt := rfl
@[simp] theorem State.eventFor_led (s : State) (m code source : Nat) (c0 c1 c2 c3 : Option Word) : (s.eventFor m code source c0 c1 c2 c3).led = s.led := rfl
@[simp] theorem State.eventFor_fe (s : State) (m code source : Nat) (c0 c1 c2 c3 : Option Word) : (s.eventFor m code source c0 c1 c2 c3).fe = s.fe := rfl
@[simp] theorem State.eventFor_edge (s : State) (m code source : Nat) (c0 c1 c2 c3 : Option Word) : (s.eventFor m code source c0 c1 c2 c3).edge = s.edge := rfl
@[simp] theorem State.eventFor_pair (s : State) (m code source : Nat) (c0 c1 c2 c3 : Option Word) : (s.eventFor m code source c0 c1 c2 c3).pair = s.pair := rfl
@[simp] theorem State.eventFor_dcl (s : State) (m code source : Nat) (c0 c1 c2 c3 : Option Word) : (s.eventFor m code source c0 c1 c2 c3).dcl = s.dcl := rfl
@[simp] theorem State.eventFor_acq (s : State) (m code source : Nat) (c0 c1 c2 c3 : Option Word) : (s.eventFor m code source c0 c1 c2 c3).acq = s.acq := rfl
@[simp] theorem State.eventFor_trac (s : State) (m code source : Nat) (c0 c1 c2 c3 : Option Word) : (s.eventFor m code source c0 c1 c2 c3).trac = s.trac := rfl
@[simp] theorem State.eventFor_conv (s : State) (m code source : Nat) (c0 c1 c2 c3 : Option Word) : (s.eventFor m code source c0 c1 c2 c3).conv = s.conv := rfl
@[simp] theorem State.eventFor_chg (s : State) (m code source : Nat) (c0 c1 c2 c3 : Option Word) : (s.eventFor m code source c0 c1 c2 c3).chg = s.chg := rfl
@[simp] theorem State.eventFor_mot (s : State) (m code source : Nat) (c0 c1 c2 c3 : Option Word) : (s.eventFor m code source c0 c1 c2 c3).mot = s.mot := rfl
@[simp] theorem State.eventFor_disc (s : State) (m code source : Nat) (c0 c1 c2 c3 : Option Word) : (s.eventFor m code source c0 c1 c2 c3).disc = s.disc := rfl
@[simp] theorem State.eventFor_safe (s : State) (m code source : Nat) (c0 c1 c2 c3 : Option Word) : (s.eventFor m code source c0 c1 c2 c3).safe = s.safe := rfl
@[simp] theorem State.eventFor_tally (s : State) (m code source : Nat) (c0 c1 c2 c3 : Option Word) : (s.eventFor m code source c0 c1 c2 c3).tally = s.tally := rfl
@[simp] theorem State.eventFor_net (s : State) (m code source : Nat) (c0 c1 c2 c3 : Option Word) : (s.eventFor m code source c0 c1 c2 c3).net = s.net := rfl
@[simp] theorem State.eventFor_rd (s : State) (m code source : Nat) (c0 c1 c2 c3 : Option Word) (x : Nat) : (s.eventFor m code source c0 c1 c2 c3).rd x = s.rd x := rfl
@[simp] theorem State.eventFor_get (s : State) (m code source : Nat) (c0 c1 c2 c3 : Option Word) (X : Fld) : (s.eventFor m code source c0 c1 c2 c3).get X = s.get X := rfl
@[simp] theorem State.eventFor_flag (s : State) (m code source : Nat) (c0 c1 c2 c3 : Option Word) (X : Fld) : (s.eventFor m code source c0 c1 c2 c3).flag X = s.flag X := rfl
@[simp] theorem State.eventFor_md (s : State) (m code source : Nat) (c0 c1 c2 c3 : Option Word) : (s.eventFor m code source c0 c1 c2 c3).md = s.md := rfl

@[simp] theorem State.result_part (s : State) (m tag g : Nat) (st : Status) (value : Nat) (data superseded : Bool) : (s.result m tag g st value data superseded).part = s.part := rfl
@[simp] theorem State.result_pending (s : State) (m tag g : Nat) (st : Status) (value : Nat) (data superseded : Bool) : (s.result m tag g st value data superseded).pending = s.pending := rfl
@[simp] theorem State.result_atime (s : State) (m tag g : Nat) (st : Status) (value : Nat) (data superseded : Bool) : (s.result m tag g st value data superseded).atime = s.atime := rfl
@[simp] theorem State.result_free (s : State) (m tag g : Nat) (st : Status) (value : Nat) (data superseded : Bool) : (s.result m tag g st value data superseded).free = s.free := rfl
@[simp] theorem State.result_regs (s : State) (m tag g : Nat) (st : Status) (value : Nat) (data superseded : Bool) : (s.result m tag g st value data superseded).regs = s.regs := rfl
@[simp] theorem State.result_mem (s : State) (m tag g : Nat) (st : Status) (value : Nat) (data superseded : Bool) : (s.result m tag g st value data superseded).mem = s.mem := rfl
@[simp] theorem State.result_pwr (s : State) (m tag g : Nat) (st : Status) (value : Nat) (data superseded : Bool) : (s.result m tag g st value data superseded).pwr = s.pwr := rfl
@[simp] theorem State.result_mode (s : State) (m tag g : Nat) (st : Status) (value : Nat) (data superseded : Bool) : (s.result m tag g st value data superseded).mode = s.mode := rfl
@[simp] theorem State.result_own (s : State) (m tag g : Nat) (st : Status) (value : Nat) (data superseded : Bool) : (s.result m tag g st value data superseded).own = s.own := rfl
@[simp] theorem State.result_store (s : State) (m tag g : Nat) (st : Status) (value : Nat) (data superseded : Bool) : (s.result m tag g st value data superseded).store = s.store := rfl
@[simp] theorem State.result_mkt (s : State) (m tag g : Nat) (st : Status) (value : Nat) (data superseded : Bool) : (s.result m tag g st value data superseded).mkt = s.mkt := rfl
@[simp] theorem State.result_led (s : State) (m tag g : Nat) (st : Status) (value : Nat) (data superseded : Bool) : (s.result m tag g st value data superseded).led = s.led := rfl
@[simp] theorem State.result_fe (s : State) (m tag g : Nat) (st : Status) (value : Nat) (data superseded : Bool) : (s.result m tag g st value data superseded).fe = s.fe := rfl
@[simp] theorem State.result_edge (s : State) (m tag g : Nat) (st : Status) (value : Nat) (data superseded : Bool) : (s.result m tag g st value data superseded).edge = s.edge := rfl
@[simp] theorem State.result_pair (s : State) (m tag g : Nat) (st : Status) (value : Nat) (data superseded : Bool) : (s.result m tag g st value data superseded).pair = s.pair := rfl
@[simp] theorem State.result_dcl (s : State) (m tag g : Nat) (st : Status) (value : Nat) (data superseded : Bool) : (s.result m tag g st value data superseded).dcl = s.dcl := rfl
@[simp] theorem State.result_acq (s : State) (m tag g : Nat) (st : Status) (value : Nat) (data superseded : Bool) : (s.result m tag g st value data superseded).acq = s.acq := rfl
@[simp] theorem State.result_trac (s : State) (m tag g : Nat) (st : Status) (value : Nat) (data superseded : Bool) : (s.result m tag g st value data superseded).trac = s.trac := rfl
@[simp] theorem State.result_conv (s : State) (m tag g : Nat) (st : Status) (value : Nat) (data superseded : Bool) : (s.result m tag g st value data superseded).conv = s.conv := rfl
@[simp] theorem State.result_chg (s : State) (m tag g : Nat) (st : Status) (value : Nat) (data superseded : Bool) : (s.result m tag g st value data superseded).chg = s.chg := rfl
@[simp] theorem State.result_mot (s : State) (m tag g : Nat) (st : Status) (value : Nat) (data superseded : Bool) : (s.result m tag g st value data superseded).mot = s.mot := rfl
@[simp] theorem State.result_disc (s : State) (m tag g : Nat) (st : Status) (value : Nat) (data superseded : Bool) : (s.result m tag g st value data superseded).disc = s.disc := rfl
@[simp] theorem State.result_safe (s : State) (m tag g : Nat) (st : Status) (value : Nat) (data superseded : Bool) : (s.result m tag g st value data superseded).safe = s.safe := rfl
@[simp] theorem State.result_tally (s : State) (m tag g : Nat) (st : Status) (value : Nat) (data superseded : Bool) : (s.result m tag g st value data superseded).tally = s.tally := rfl
@[simp] theorem State.result_net (s : State) (m tag g : Nat) (st : Status) (value : Nat) (data superseded : Bool) : (s.result m tag g st value data superseded).net = s.net := rfl
@[simp] theorem State.result_rd (s : State) (m tag g : Nat) (st : Status) (value : Nat) (data superseded : Bool) (x : Nat) : (s.result m tag g st value data superseded).rd x = s.rd x := rfl
@[simp] theorem State.result_get (s : State) (m tag g : Nat) (st : Status) (value : Nat) (data superseded : Bool) (X : Fld) : (s.result m tag g st value data superseded).get X = s.get X := rfl
@[simp] theorem State.result_flag (s : State) (m tag g : Nat) (st : Status) (value : Nat) (data superseded : Bool) (X : Fld) : (s.result m tag g st value data superseded).flag X = s.flag X := rfl
@[simp] theorem State.result_md (s : State) (m tag g : Nat) (st : Status) (value : Nat) (data superseded : Bool) : (s.result m tag g st value data superseded).md = s.md := rfl

@[simp] theorem State.finish_part (s : State) (c : Cmd) (st : Status) (value : Nat) (data : Bool) : (s.finish c st value data).part = s.part := rfl
@[simp] theorem State.finish_pending (s : State) (c : Cmd) (st : Status) (value : Nat) (data : Bool) : (s.finish c st value data).pending = s.pending := rfl
@[simp] theorem State.finish_atime (s : State) (c : Cmd) (st : Status) (value : Nat) (data : Bool) : (s.finish c st value data).atime = s.atime := rfl
@[simp] theorem State.finish_free (s : State) (c : Cmd) (st : Status) (value : Nat) (data : Bool) : (s.finish c st value data).free = s.free := rfl
@[simp] theorem State.finish_regs (s : State) (c : Cmd) (st : Status) (value : Nat) (data : Bool) : (s.finish c st value data).regs = s.regs := rfl
@[simp] theorem State.finish_mem (s : State) (c : Cmd) (st : Status) (value : Nat) (data : Bool) : (s.finish c st value data).mem = s.mem := rfl
@[simp] theorem State.finish_pwr (s : State) (c : Cmd) (st : Status) (value : Nat) (data : Bool) : (s.finish c st value data).pwr = s.pwr := rfl
@[simp] theorem State.finish_mode (s : State) (c : Cmd) (st : Status) (value : Nat) (data : Bool) : (s.finish c st value data).mode = s.mode := rfl
@[simp] theorem State.finish_own (s : State) (c : Cmd) (st : Status) (value : Nat) (data : Bool) : (s.finish c st value data).own = s.own := rfl
@[simp] theorem State.finish_store (s : State) (c : Cmd) (st : Status) (value : Nat) (data : Bool) : (s.finish c st value data).store = s.store := rfl
@[simp] theorem State.finish_mkt (s : State) (c : Cmd) (st : Status) (value : Nat) (data : Bool) : (s.finish c st value data).mkt = s.mkt := rfl
@[simp] theorem State.finish_led (s : State) (c : Cmd) (st : Status) (value : Nat) (data : Bool) : (s.finish c st value data).led = s.led := rfl
@[simp] theorem State.finish_fe (s : State) (c : Cmd) (st : Status) (value : Nat) (data : Bool) : (s.finish c st value data).fe = s.fe := rfl
@[simp] theorem State.finish_edge (s : State) (c : Cmd) (st : Status) (value : Nat) (data : Bool) : (s.finish c st value data).edge = s.edge := rfl
@[simp] theorem State.finish_pair (s : State) (c : Cmd) (st : Status) (value : Nat) (data : Bool) : (s.finish c st value data).pair = s.pair := rfl
@[simp] theorem State.finish_dcl (s : State) (c : Cmd) (st : Status) (value : Nat) (data : Bool) : (s.finish c st value data).dcl = s.dcl := rfl
@[simp] theorem State.finish_acq (s : State) (c : Cmd) (st : Status) (value : Nat) (data : Bool) : (s.finish c st value data).acq = s.acq := rfl
@[simp] theorem State.finish_trac (s : State) (c : Cmd) (st : Status) (value : Nat) (data : Bool) : (s.finish c st value data).trac = s.trac := rfl
@[simp] theorem State.finish_conv (s : State) (c : Cmd) (st : Status) (value : Nat) (data : Bool) : (s.finish c st value data).conv = s.conv := rfl
@[simp] theorem State.finish_chg (s : State) (c : Cmd) (st : Status) (value : Nat) (data : Bool) : (s.finish c st value data).chg = s.chg := rfl
@[simp] theorem State.finish_mot (s : State) (c : Cmd) (st : Status) (value : Nat) (data : Bool) : (s.finish c st value data).mot = s.mot := rfl
@[simp] theorem State.finish_disc (s : State) (c : Cmd) (st : Status) (value : Nat) (data : Bool) : (s.finish c st value data).disc = s.disc := rfl
@[simp] theorem State.finish_safe (s : State) (c : Cmd) (st : Status) (value : Nat) (data : Bool) : (s.finish c st value data).safe = s.safe := rfl
@[simp] theorem State.finish_tally (s : State) (c : Cmd) (st : Status) (value : Nat) (data : Bool) : (s.finish c st value data).tally = s.tally := rfl
@[simp] theorem State.finish_net (s : State) (c : Cmd) (st : Status) (value : Nat) (data : Bool) : (s.finish c st value data).net = s.net := rfl
@[simp] theorem State.finish_rd (s : State) (c : Cmd) (st : Status) (value : Nat) (data : Bool) (x : Nat) : (s.finish c st value data).rd x = s.rd x := rfl
@[simp] theorem State.finish_get (s : State) (c : Cmd) (st : Status) (value : Nat) (data : Bool) (X : Fld) : (s.finish c st value data).get X = s.get X := rfl
@[simp] theorem State.finish_flag (s : State) (c : Cmd) (st : Status) (value : Nat) (data : Bool) (X : Fld) : (s.finish c st value data).flag X = s.flag X := rfl
@[simp] theorem State.finish_md (s : State) (c : Cmd) (st : Status) (value : Nat) (data : Bool) : (s.finish c st value data).md = s.md := rfl

@[simp] theorem State.setChan_part (s : State) (n : Nat) (c : Chan) : (s.setChan n c).part = s.part := rfl
@[simp] theorem State.setChan_pending (s : State) (n : Nat) (c : Chan) : (s.setChan n c).pending = s.pending := rfl
@[simp] theorem State.setChan_atime (s : State) (n : Nat) (c : Chan) : (s.setChan n c).atime = s.atime := rfl
@[simp] theorem State.setChan_free (s : State) (n : Nat) (c : Chan) : (s.setChan n c).free = s.free := rfl
@[simp] theorem State.setChan_regs (s : State) (n : Nat) (c : Chan) : (s.setChan n c).regs = s.regs := rfl
@[simp] theorem State.setChan_mem (s : State) (n : Nat) (c : Chan) : (s.setChan n c).mem = s.mem := rfl
@[simp] theorem State.setChan_pwr (s : State) (n : Nat) (c : Chan) : (s.setChan n c).pwr = s.pwr := rfl
@[simp] theorem State.setChan_mode (s : State) (n : Nat) (c : Chan) : (s.setChan n c).mode = s.mode := rfl
@[simp] theorem State.setChan_host (s : State) (n : Nat) (c : Chan) : (s.setChan n c).host = s.host := rfl
@[simp] theorem State.setChan_own (s : State) (n : Nat) (c : Chan) : (s.setChan n c).own = s.own := rfl
@[simp] theorem State.setChan_store (s : State) (n : Nat) (c : Chan) : (s.setChan n c).store = s.store := rfl
@[simp] theorem State.setChan_mkt (s : State) (n : Nat) (c : Chan) : (s.setChan n c).mkt = s.mkt := rfl
@[simp] theorem State.setChan_led (s : State) (n : Nat) (c : Chan) : (s.setChan n c).led = s.led := rfl
@[simp] theorem State.setChan_fe (s : State) (n : Nat) (c : Chan) : (s.setChan n c).fe = s.fe := rfl
@[simp] theorem State.setChan_pair (s : State) (n : Nat) (c : Chan) : (s.setChan n c).pair = s.pair := rfl
@[simp] theorem State.setChan_dcl (s : State) (n : Nat) (c : Chan) : (s.setChan n c).dcl = s.dcl := rfl
@[simp] theorem State.setChan_acq (s : State) (n : Nat) (c : Chan) : (s.setChan n c).acq = s.acq := rfl
@[simp] theorem State.setChan_trac (s : State) (n : Nat) (c : Chan) : (s.setChan n c).trac = s.trac := rfl
@[simp] theorem State.setChan_conv (s : State) (n : Nat) (c : Chan) : (s.setChan n c).conv = s.conv := rfl
@[simp] theorem State.setChan_chg (s : State) (n : Nat) (c : Chan) : (s.setChan n c).chg = s.chg := rfl
@[simp] theorem State.setChan_mot (s : State) (n : Nat) (c : Chan) : (s.setChan n c).mot = s.mot := rfl
@[simp] theorem State.setChan_disc (s : State) (n : Nat) (c : Chan) : (s.setChan n c).disc = s.disc := rfl
@[simp] theorem State.setChan_safe (s : State) (n : Nat) (c : Chan) : (s.setChan n c).safe = s.safe := rfl
@[simp] theorem State.setChan_tally (s : State) (n : Nat) (c : Chan) : (s.setChan n c).tally = s.tally := rfl
@[simp] theorem State.setChan_net (s : State) (n : Nat) (c : Chan) : (s.setChan n c).net = s.net := rfl
@[simp] theorem State.setChan_rd (s : State) (n : Nat) (c : Chan) (x : Nat) : (s.setChan n c).rd x = s.rd x := rfl
@[simp] theorem State.setChan_get (s : State) (n : Nat) (c : Chan) (X : Fld) : (s.setChan n c).get X = s.get X := rfl
@[simp] theorem State.setChan_flag (s : State) (n : Nat) (c : Chan) (X : Fld) : (s.setChan n c).flag X = s.flag X := rfl
@[simp] theorem State.setChan_md (s : State) (n : Nat) (c : Chan) : (s.setChan n c).md = s.md := rfl

@[simp] theorem State.setLeg_part (s : State) (n : Nat) (l : Leg) : (s.setLeg n l).part = s.part := rfl
@[simp] theorem State.setLeg_pending (s : State) (n : Nat) (l : Leg) : (s.setLeg n l).pending = s.pending := rfl
@[simp] theorem State.setLeg_atime (s : State) (n : Nat) (l : Leg) : (s.setLeg n l).atime = s.atime := rfl
@[simp] theorem State.setLeg_free (s : State) (n : Nat) (l : Leg) : (s.setLeg n l).free = s.free := rfl
@[simp] theorem State.setLeg_regs (s : State) (n : Nat) (l : Leg) : (s.setLeg n l).regs = s.regs := rfl
@[simp] theorem State.setLeg_mem (s : State) (n : Nat) (l : Leg) : (s.setLeg n l).mem = s.mem := rfl
@[simp] theorem State.setLeg_pwr (s : State) (n : Nat) (l : Leg) : (s.setLeg n l).pwr = s.pwr := rfl
@[simp] theorem State.setLeg_mode (s : State) (n : Nat) (l : Leg) : (s.setLeg n l).mode = s.mode := rfl
@[simp] theorem State.setLeg_host (s : State) (n : Nat) (l : Leg) : (s.setLeg n l).host = s.host := rfl
@[simp] theorem State.setLeg_own (s : State) (n : Nat) (l : Leg) : (s.setLeg n l).own = s.own := rfl
@[simp] theorem State.setLeg_store (s : State) (n : Nat) (l : Leg) : (s.setLeg n l).store = s.store := rfl
@[simp] theorem State.setLeg_mkt (s : State) (n : Nat) (l : Leg) : (s.setLeg n l).mkt = s.mkt := rfl
@[simp] theorem State.setLeg_led (s : State) (n : Nat) (l : Leg) : (s.setLeg n l).led = s.led := rfl
@[simp] theorem State.setLeg_fe (s : State) (n : Nat) (l : Leg) : (s.setLeg n l).fe = s.fe := rfl
@[simp] theorem State.setLeg_pair (s : State) (n : Nat) (l : Leg) : (s.setLeg n l).pair = s.pair := rfl
@[simp] theorem State.setLeg_dcl (s : State) (n : Nat) (l : Leg) : (s.setLeg n l).dcl = s.dcl := rfl
@[simp] theorem State.setLeg_acq (s : State) (n : Nat) (l : Leg) : (s.setLeg n l).acq = s.acq := rfl
@[simp] theorem State.setLeg_trac (s : State) (n : Nat) (l : Leg) : (s.setLeg n l).trac = s.trac := rfl
@[simp] theorem State.setLeg_conv (s : State) (n : Nat) (l : Leg) : (s.setLeg n l).conv = s.conv := rfl
@[simp] theorem State.setLeg_chg (s : State) (n : Nat) (l : Leg) : (s.setLeg n l).chg = s.chg := rfl
@[simp] theorem State.setLeg_mot (s : State) (n : Nat) (l : Leg) : (s.setLeg n l).mot = s.mot := rfl
@[simp] theorem State.setLeg_disc (s : State) (n : Nat) (l : Leg) : (s.setLeg n l).disc = s.disc := rfl
@[simp] theorem State.setLeg_safe (s : State) (n : Nat) (l : Leg) : (s.setLeg n l).safe = s.safe := rfl
@[simp] theorem State.setLeg_tally (s : State) (n : Nat) (l : Leg) : (s.setLeg n l).tally = s.tally := rfl
@[simp] theorem State.setLeg_net (s : State) (n : Nat) (l : Leg) : (s.setLeg n l).net = s.net := rfl
@[simp] theorem State.setLeg_rd (s : State) (n : Nat) (l : Leg) (x : Nat) : (s.setLeg n l).rd x = s.rd x := rfl
@[simp] theorem State.setLeg_get (s : State) (n : Nat) (l : Leg) (X : Fld) : (s.setLeg n l).get X = s.get X := rfl
@[simp] theorem State.setLeg_flag (s : State) (n : Nat) (l : Leg) (X : Fld) : (s.setLeg n l).flag X = s.flag X := rfl
@[simp] theorem State.setLeg_md (s : State) (n : Nat) (l : Leg) : (s.setLeg n l).md = s.md := rfl

@[simp] theorem State.setBand_part (s : State) (u : Nat) (b : BandSet) : (s.setBand u b).part = s.part := rfl
@[simp] theorem State.setBand_pending (s : State) (u : Nat) (b : BandSet) : (s.setBand u b).pending = s.pending := rfl
@[simp] theorem State.setBand_atime (s : State) (u : Nat) (b : BandSet) : (s.setBand u b).atime = s.atime := rfl
@[simp] theorem State.setBand_free (s : State) (u : Nat) (b : BandSet) : (s.setBand u b).free = s.free := rfl
@[simp] theorem State.setBand_regs (s : State) (u : Nat) (b : BandSet) : (s.setBand u b).regs = s.regs := rfl
@[simp] theorem State.setBand_mem (s : State) (u : Nat) (b : BandSet) : (s.setBand u b).mem = s.mem := rfl
@[simp] theorem State.setBand_pwr (s : State) (u : Nat) (b : BandSet) : (s.setBand u b).pwr = s.pwr := rfl
@[simp] theorem State.setBand_mode (s : State) (u : Nat) (b : BandSet) : (s.setBand u b).mode = s.mode := rfl
@[simp] theorem State.setBand_host (s : State) (u : Nat) (b : BandSet) : (s.setBand u b).host = s.host := rfl
@[simp] theorem State.setBand_own (s : State) (u : Nat) (b : BandSet) : (s.setBand u b).own = s.own := rfl
@[simp] theorem State.setBand_store (s : State) (u : Nat) (b : BandSet) : (s.setBand u b).store = s.store := rfl
@[simp] theorem State.setBand_mkt (s : State) (u : Nat) (b : BandSet) : (s.setBand u b).mkt = s.mkt := rfl
@[simp] theorem State.setBand_led (s : State) (u : Nat) (b : BandSet) : (s.setBand u b).led = s.led := rfl
@[simp] theorem State.setBand_fe (s : State) (u : Nat) (b : BandSet) : (s.setBand u b).fe = s.fe := rfl
@[simp] theorem State.setBand_pair (s : State) (u : Nat) (b : BandSet) : (s.setBand u b).pair = s.pair := rfl
@[simp] theorem State.setBand_dcl (s : State) (u : Nat) (b : BandSet) : (s.setBand u b).dcl = s.dcl := rfl
@[simp] theorem State.setBand_acq (s : State) (u : Nat) (b : BandSet) : (s.setBand u b).acq = s.acq := rfl
@[simp] theorem State.setBand_trac (s : State) (u : Nat) (b : BandSet) : (s.setBand u b).trac = s.trac := rfl
@[simp] theorem State.setBand_conv (s : State) (u : Nat) (b : BandSet) : (s.setBand u b).conv = s.conv := rfl
@[simp] theorem State.setBand_chg (s : State) (u : Nat) (b : BandSet) : (s.setBand u b).chg = s.chg := rfl
@[simp] theorem State.setBand_mot (s : State) (u : Nat) (b : BandSet) : (s.setBand u b).mot = s.mot := rfl
@[simp] theorem State.setBand_disc (s : State) (u : Nat) (b : BandSet) : (s.setBand u b).disc = s.disc := rfl
@[simp] theorem State.setBand_safe (s : State) (u : Nat) (b : BandSet) : (s.setBand u b).safe = s.safe := rfl
@[simp] theorem State.setBand_tally (s : State) (u : Nat) (b : BandSet) : (s.setBand u b).tally = s.tally := rfl
@[simp] theorem State.setBand_net (s : State) (u : Nat) (b : BandSet) : (s.setBand u b).net = s.net := rfl
@[simp] theorem State.setBand_rd (s : State) (u : Nat) (b : BandSet) (x : Nat) : (s.setBand u b).rd x = s.rd x := rfl
@[simp] theorem State.setBand_get (s : State) (u : Nat) (b : BandSet) (X : Fld) : (s.setBand u b).get X = s.get X := rfl
@[simp] theorem State.setBand_flag (s : State) (u : Nat) (b : BandSet) (X : Fld) : (s.setBand u b).flag X = s.flag X := rfl
@[simp] theorem State.setBand_md (s : State) (u : Nat) (b : BandSet) : (s.setBand u b).md = s.md := rfl

@[simp] theorem State.setLines_part (s : State) (k u : Nat) (l : Lines) : (s.setLines k u l).part = s.part := rfl
@[simp] theorem State.setLines_pending (s : State) (k u : Nat) (l : Lines) : (s.setLines k u l).pending = s.pending := rfl
@[simp] theorem State.setLines_atime (s : State) (k u : Nat) (l : Lines) : (s.setLines k u l).atime = s.atime := rfl
@[simp] theorem State.setLines_free (s : State) (k u : Nat) (l : Lines) : (s.setLines k u l).free = s.free := rfl
@[simp] theorem State.setLines_regs (s : State) (k u : Nat) (l : Lines) : (s.setLines k u l).regs = s.regs := rfl
@[simp] theorem State.setLines_mem (s : State) (k u : Nat) (l : Lines) : (s.setLines k u l).mem = s.mem := rfl
@[simp] theorem State.setLines_pwr (s : State) (k u : Nat) (l : Lines) : (s.setLines k u l).pwr = s.pwr := rfl
@[simp] theorem State.setLines_mode (s : State) (k u : Nat) (l : Lines) : (s.setLines k u l).mode = s.mode := rfl
@[simp] theorem State.setLines_host (s : State) (k u : Nat) (l : Lines) : (s.setLines k u l).host = s.host := rfl
@[simp] theorem State.setLines_own (s : State) (k u : Nat) (l : Lines) : (s.setLines k u l).own = s.own := rfl
@[simp] theorem State.setLines_store (s : State) (k u : Nat) (l : Lines) : (s.setLines k u l).store = s.store := rfl
@[simp] theorem State.setLines_mkt (s : State) (k u : Nat) (l : Lines) : (s.setLines k u l).mkt = s.mkt := rfl
@[simp] theorem State.setLines_led (s : State) (k u : Nat) (l : Lines) : (s.setLines k u l).led = s.led := rfl
@[simp] theorem State.setLines_fe (s : State) (k u : Nat) (l : Lines) : (s.setLines k u l).fe = s.fe := rfl
@[simp] theorem State.setLines_pair (s : State) (k u : Nat) (l : Lines) : (s.setLines k u l).pair = s.pair := rfl
@[simp] theorem State.setLines_dcl (s : State) (k u : Nat) (l : Lines) : (s.setLines k u l).dcl = s.dcl := rfl
@[simp] theorem State.setLines_acq (s : State) (k u : Nat) (l : Lines) : (s.setLines k u l).acq = s.acq := rfl
@[simp] theorem State.setLines_trac (s : State) (k u : Nat) (l : Lines) : (s.setLines k u l).trac = s.trac := rfl
@[simp] theorem State.setLines_conv (s : State) (k u : Nat) (l : Lines) : (s.setLines k u l).conv = s.conv := rfl
@[simp] theorem State.setLines_chg (s : State) (k u : Nat) (l : Lines) : (s.setLines k u l).chg = s.chg := rfl
@[simp] theorem State.setLines_mot (s : State) (k u : Nat) (l : Lines) : (s.setLines k u l).mot = s.mot := rfl
@[simp] theorem State.setLines_disc (s : State) (k u : Nat) (l : Lines) : (s.setLines k u l).disc = s.disc := rfl
@[simp] theorem State.setLines_safe (s : State) (k u : Nat) (l : Lines) : (s.setLines k u l).safe = s.safe := rfl
@[simp] theorem State.setLines_tally (s : State) (k u : Nat) (l : Lines) : (s.setLines k u l).tally = s.tally := rfl
@[simp] theorem State.setLines_net (s : State) (k u : Nat) (l : Lines) : (s.setLines k u l).net = s.net := rfl
@[simp] theorem State.setLines_rd (s : State) (k u : Nat) (l : Lines) (x : Nat) : (s.setLines k u l).rd x = s.rd x := rfl
@[simp] theorem State.setLines_get (s : State) (k u : Nat) (l : Lines) (X : Fld) : (s.setLines k u l).get X = s.get X := rfl
@[simp] theorem State.setLines_flag (s : State) (k u : Nat) (l : Lines) (X : Fld) : (s.setLines k u l).flag X = s.flag X := rfl
@[simp] theorem State.setLines_md (s : State) (k u : Nat) (l : Lines) : (s.setLines k u l).md = s.md := rfl

@[simp] theorem State.hold_part (s : State) (u : Nat) : (s.hold u).part = s.part := rfl
@[simp] theorem State.hold_pending (s : State) (u : Nat) : (s.hold u).pending = s.pending := rfl
@[simp] theorem State.hold_atime (s : State) (u : Nat) : (s.hold u).atime = s.atime := rfl
@[simp] theorem State.hold_free (s : State) (u : Nat) : (s.hold u).free = s.free := rfl
@[simp] theorem State.hold_regs (s : State) (u : Nat) : (s.hold u).regs = s.regs := rfl
@[simp] theorem State.hold_mem (s : State) (u : Nat) : (s.hold u).mem = s.mem := rfl
@[simp] theorem State.hold_pwr (s : State) (u : Nat) : (s.hold u).pwr = s.pwr := rfl
@[simp] theorem State.hold_mode (s : State) (u : Nat) : (s.hold u).mode = s.mode := rfl
@[simp] theorem State.hold_host (s : State) (u : Nat) : (s.hold u).host = s.host := rfl
@[simp] theorem State.hold_own (s : State) (u : Nat) : (s.hold u).own = s.own := rfl
@[simp] theorem State.hold_store (s : State) (u : Nat) : (s.hold u).store = s.store := rfl
@[simp] theorem State.hold_mkt (s : State) (u : Nat) : (s.hold u).mkt = s.mkt := rfl
@[simp] theorem State.hold_led (s : State) (u : Nat) : (s.hold u).led = s.led := rfl
@[simp] theorem State.hold_fe (s : State) (u : Nat) : (s.hold u).fe = s.fe := rfl
@[simp] theorem State.hold_pair (s : State) (u : Nat) : (s.hold u).pair = s.pair := rfl
@[simp] theorem State.hold_dcl (s : State) (u : Nat) : (s.hold u).dcl = s.dcl := rfl
@[simp] theorem State.hold_acq (s : State) (u : Nat) : (s.hold u).acq = s.acq := rfl
@[simp] theorem State.hold_trac (s : State) (u : Nat) : (s.hold u).trac = s.trac := rfl
@[simp] theorem State.hold_conv (s : State) (u : Nat) : (s.hold u).conv = s.conv := rfl
@[simp] theorem State.hold_chg (s : State) (u : Nat) : (s.hold u).chg = s.chg := rfl
@[simp] theorem State.hold_mot (s : State) (u : Nat) : (s.hold u).mot = s.mot := rfl
@[simp] theorem State.hold_disc (s : State) (u : Nat) : (s.hold u).disc = s.disc := rfl
@[simp] theorem State.hold_safe (s : State) (u : Nat) : (s.hold u).safe = s.safe := rfl
@[simp] theorem State.hold_tally (s : State) (u : Nat) : (s.hold u).tally = s.tally := rfl
@[simp] theorem State.hold_net (s : State) (u : Nat) : (s.hold u).net = s.net := rfl
@[simp] theorem State.hold_rd (s : State) (u : Nat) (x : Nat) : (s.hold u).rd x = s.rd x := rfl
@[simp] theorem State.hold_get (s : State) (u : Nat) (X : Fld) : (s.hold u).get X = s.get X := rfl
@[simp] theorem State.hold_flag (s : State) (u : Nat) (X : Fld) : (s.hold u).flag X = s.flag X := rfl
@[simp] theorem State.hold_md (s : State) (u : Nat) : (s.hold u).md = s.md := rfl

@[simp] theorem State.unhold_part (s : State) (u : Nat) : (s.unhold u).part = s.part := rfl
@[simp] theorem State.unhold_pending (s : State) (u : Nat) : (s.unhold u).pending = s.pending := rfl
@[simp] theorem State.unhold_atime (s : State) (u : Nat) : (s.unhold u).atime = s.atime := rfl
@[simp] theorem State.unhold_free (s : State) (u : Nat) : (s.unhold u).free = s.free := rfl
@[simp] theorem State.unhold_regs (s : State) (u : Nat) : (s.unhold u).regs = s.regs := rfl
@[simp] theorem State.unhold_mem (s : State) (u : Nat) : (s.unhold u).mem = s.mem := rfl
@[simp] theorem State.unhold_pwr (s : State) (u : Nat) : (s.unhold u).pwr = s.pwr := rfl
@[simp] theorem State.unhold_mode (s : State) (u : Nat) : (s.unhold u).mode = s.mode := rfl
@[simp] theorem State.unhold_host (s : State) (u : Nat) : (s.unhold u).host = s.host := rfl
@[simp] theorem State.unhold_own (s : State) (u : Nat) : (s.unhold u).own = s.own := rfl
@[simp] theorem State.unhold_store (s : State) (u : Nat) : (s.unhold u).store = s.store := rfl
@[simp] theorem State.unhold_mkt (s : State) (u : Nat) : (s.unhold u).mkt = s.mkt := rfl
@[simp] theorem State.unhold_led (s : State) (u : Nat) : (s.unhold u).led = s.led := rfl
@[simp] theorem State.unhold_fe (s : State) (u : Nat) : (s.unhold u).fe = s.fe := rfl
@[simp] theorem State.unhold_pair (s : State) (u : Nat) : (s.unhold u).pair = s.pair := rfl
@[simp] theorem State.unhold_dcl (s : State) (u : Nat) : (s.unhold u).dcl = s.dcl := rfl
@[simp] theorem State.unhold_acq (s : State) (u : Nat) : (s.unhold u).acq = s.acq := rfl
@[simp] theorem State.unhold_trac (s : State) (u : Nat) : (s.unhold u).trac = s.trac := rfl
@[simp] theorem State.unhold_conv (s : State) (u : Nat) : (s.unhold u).conv = s.conv := rfl
@[simp] theorem State.unhold_chg (s : State) (u : Nat) : (s.unhold u).chg = s.chg := rfl
@[simp] theorem State.unhold_mot (s : State) (u : Nat) : (s.unhold u).mot = s.mot := rfl
@[simp] theorem State.unhold_disc (s : State) (u : Nat) : (s.unhold u).disc = s.disc := rfl
@[simp] theorem State.unhold_safe (s : State) (u : Nat) : (s.unhold u).safe = s.safe := rfl
@[simp] theorem State.unhold_tally (s : State) (u : Nat) : (s.unhold u).tally = s.tally := rfl
@[simp] theorem State.unhold_net (s : State) (u : Nat) : (s.unhold u).net = s.net := rfl
@[simp] theorem State.unhold_rd (s : State) (u : Nat) (x : Nat) : (s.unhold u).rd x = s.rd x := rfl
@[simp] theorem State.unhold_get (s : State) (u : Nat) (X : Fld) : (s.unhold u).get X = s.get X := rfl
@[simp] theorem State.unhold_flag (s : State) (u : Nat) (X : Fld) : (s.unhold u).flag X = s.flag X := rfl
@[simp] theorem State.unhold_md (s : State) (u : Nat) : (s.unhold u).md = s.md := rfl

@[simp] theorem State.setEng_part (s : State) (n : Nat) (e : Engine) : (s.setEng n e).part = s.part := rfl
@[simp] theorem State.setEng_pending (s : State) (n : Nat) (e : Engine) : (s.setEng n e).pending = s.pending := rfl
@[simp] theorem State.setEng_atime (s : State) (n : Nat) (e : Engine) : (s.setEng n e).atime = s.atime := rfl
@[simp] theorem State.setEng_free (s : State) (n : Nat) (e : Engine) : (s.setEng n e).free = s.free := rfl
@[simp] theorem State.setEng_regs (s : State) (n : Nat) (e : Engine) : (s.setEng n e).regs = s.regs := rfl
@[simp] theorem State.setEng_mem (s : State) (n : Nat) (e : Engine) : (s.setEng n e).mem = s.mem := rfl
@[simp] theorem State.setEng_pwr (s : State) (n : Nat) (e : Engine) : (s.setEng n e).pwr = s.pwr := rfl
@[simp] theorem State.setEng_mode (s : State) (n : Nat) (e : Engine) : (s.setEng n e).mode = s.mode := rfl
@[simp] theorem State.setEng_host (s : State) (n : Nat) (e : Engine) : (s.setEng n e).host = s.host := rfl
@[simp] theorem State.setEng_own (s : State) (n : Nat) (e : Engine) : (s.setEng n e).own = s.own := rfl
@[simp] theorem State.setEng_store (s : State) (n : Nat) (e : Engine) : (s.setEng n e).store = s.store := rfl
@[simp] theorem State.setEng_mkt (s : State) (n : Nat) (e : Engine) : (s.setEng n e).mkt = s.mkt := rfl
@[simp] theorem State.setEng_led (s : State) (n : Nat) (e : Engine) : (s.setEng n e).led = s.led := rfl
@[simp] theorem State.setEng_edge (s : State) (n : Nat) (e : Engine) : (s.setEng n e).edge = s.edge := rfl
@[simp] theorem State.setEng_pair (s : State) (n : Nat) (e : Engine) : (s.setEng n e).pair = s.pair := rfl
@[simp] theorem State.setEng_dcl (s : State) (n : Nat) (e : Engine) : (s.setEng n e).dcl = s.dcl := rfl
@[simp] theorem State.setEng_acq (s : State) (n : Nat) (e : Engine) : (s.setEng n e).acq = s.acq := rfl
@[simp] theorem State.setEng_trac (s : State) (n : Nat) (e : Engine) : (s.setEng n e).trac = s.trac := rfl
@[simp] theorem State.setEng_conv (s : State) (n : Nat) (e : Engine) : (s.setEng n e).conv = s.conv := rfl
@[simp] theorem State.setEng_chg (s : State) (n : Nat) (e : Engine) : (s.setEng n e).chg = s.chg := rfl
@[simp] theorem State.setEng_mot (s : State) (n : Nat) (e : Engine) : (s.setEng n e).mot = s.mot := rfl
@[simp] theorem State.setEng_disc (s : State) (n : Nat) (e : Engine) : (s.setEng n e).disc = s.disc := rfl
@[simp] theorem State.setEng_safe (s : State) (n : Nat) (e : Engine) : (s.setEng n e).safe = s.safe := rfl
@[simp] theorem State.setEng_tally (s : State) (n : Nat) (e : Engine) : (s.setEng n e).tally = s.tally := rfl
@[simp] theorem State.setEng_net (s : State) (n : Nat) (e : Engine) : (s.setEng n e).net = s.net := rfl
@[simp] theorem State.setEng_rd (s : State) (n : Nat) (e : Engine) (x : Nat) : (s.setEng n e).rd x = s.rd x := rfl
@[simp] theorem State.setEng_get (s : State) (n : Nat) (e : Engine) (X : Fld) : (s.setEng n e).get X = s.get X := rfl
@[simp] theorem State.setEng_flag (s : State) (n : Nat) (e : Engine) (X : Fld) : (s.setEng n e).flag X = s.flag X := rfl
@[simp] theorem State.setEng_md (s : State) (n : Nat) (e : Engine) : (s.setEng n e).md = s.md := rfl

@[simp] theorem State.modEng_part (s : State) (n : Nat) (f : Engine → Engine) : (s.modEng n f).part = s.part := rfl
@[simp] theorem State.modEng_pending (s : State) (n : Nat) (f : Engine → Engine) : (s.modEng n f).pending = s.pending := rfl
@[simp] theorem State.modEng_atime (s : State) (n : Nat) (f : Engine → Engine) : (s.modEng n f).atime = s.atime := rfl
@[simp] theorem State.modEng_free (s : State) (n : Nat) (f : Engine → Engine) : (s.modEng n f).free = s.free := rfl
@[simp] theorem State.modEng_regs (s : State) (n : Nat) (f : Engine → Engine) : (s.modEng n f).regs = s.regs := rfl
@[simp] theorem State.modEng_mem (s : State) (n : Nat) (f : Engine → Engine) : (s.modEng n f).mem = s.mem := rfl
@[simp] theorem State.modEng_pwr (s : State) (n : Nat) (f : Engine → Engine) : (s.modEng n f).pwr = s.pwr := rfl
@[simp] theorem State.modEng_mode (s : State) (n : Nat) (f : Engine → Engine) : (s.modEng n f).mode = s.mode := rfl
@[simp] theorem State.modEng_host (s : State) (n : Nat) (f : Engine → Engine) : (s.modEng n f).host = s.host := rfl
@[simp] theorem State.modEng_own (s : State) (n : Nat) (f : Engine → Engine) : (s.modEng n f).own = s.own := rfl
@[simp] theorem State.modEng_store (s : State) (n : Nat) (f : Engine → Engine) : (s.modEng n f).store = s.store := rfl
@[simp] theorem State.modEng_mkt (s : State) (n : Nat) (f : Engine → Engine) : (s.modEng n f).mkt = s.mkt := rfl
@[simp] theorem State.modEng_led (s : State) (n : Nat) (f : Engine → Engine) : (s.modEng n f).led = s.led := rfl
@[simp] theorem State.modEng_edge (s : State) (n : Nat) (f : Engine → Engine) : (s.modEng n f).edge = s.edge := rfl
@[simp] theorem State.modEng_pair (s : State) (n : Nat) (f : Engine → Engine) : (s.modEng n f).pair = s.pair := rfl
@[simp] theorem State.modEng_dcl (s : State) (n : Nat) (f : Engine → Engine) : (s.modEng n f).dcl = s.dcl := rfl
@[simp] theorem State.modEng_acq (s : State) (n : Nat) (f : Engine → Engine) : (s.modEng n f).acq = s.acq := rfl
@[simp] theorem State.modEng_trac (s : State) (n : Nat) (f : Engine → Engine) : (s.modEng n f).trac = s.trac := rfl
@[simp] theorem State.modEng_conv (s : State) (n : Nat) (f : Engine → Engine) : (s.modEng n f).conv = s.conv := rfl
@[simp] theorem State.modEng_chg (s : State) (n : Nat) (f : Engine → Engine) : (s.modEng n f).chg = s.chg := rfl
@[simp] theorem State.modEng_mot (s : State) (n : Nat) (f : Engine → Engine) : (s.modEng n f).mot = s.mot := rfl
@[simp] theorem State.modEng_disc (s : State) (n : Nat) (f : Engine → Engine) : (s.modEng n f).disc = s.disc := rfl
@[simp] theorem State.modEng_safe (s : State) (n : Nat) (f : Engine → Engine) : (s.modEng n f).safe = s.safe := rfl
@[simp] theorem State.modEng_tally (s : State) (n : Nat) (f : Engine → Engine) : (s.modEng n f).tally = s.tally := rfl
@[simp] theorem State.modEng_net (s : State) (n : Nat) (f : Engine → Engine) : (s.modEng n f).net = s.net := rfl
@[simp] theorem State.modEng_rd (s : State) (n : Nat) (f : Engine → Engine) (x : Nat) : (s.modEng n f).rd x = s.rd x := rfl
@[simp] theorem State.modEng_get (s : State) (n : Nat) (f : Engine → Engine) (X : Fld) : (s.modEng n f).get X = s.get X := rfl
@[simp] theorem State.modEng_flag (s : State) (n : Nat) (f : Engine → Engine) (X : Fld) : (s.modEng n f).flag X = s.flag X := rfl
@[simp] theorem State.modEng_md (s : State) (n : Nat) (f : Engine → Engine) : (s.modEng n f).md = s.md := rfl

@[simp] theorem State.stage_part (s : State) (n p : Nat) (w : Word) : (s.stage n p w).part = s.part := rfl
@[simp] theorem State.stage_pending (s : State) (n p : Nat) (w : Word) : (s.stage n p w).pending = s.pending := rfl
@[simp] theorem State.stage_atime (s : State) (n p : Nat) (w : Word) : (s.stage n p w).atime = s.atime := rfl
@[simp] theorem State.stage_free (s : State) (n p : Nat) (w : Word) : (s.stage n p w).free = s.free := rfl
@[simp] theorem State.stage_regs (s : State) (n p : Nat) (w : Word) : (s.stage n p w).regs = s.regs := rfl
@[simp] theorem State.stage_mem (s : State) (n p : Nat) (w : Word) : (s.stage n p w).mem = s.mem := rfl
@[simp] theorem State.stage_pwr (s : State) (n p : Nat) (w : Word) : (s.stage n p w).pwr = s.pwr := rfl
@[simp] theorem State.stage_mode (s : State) (n p : Nat) (w : Word) : (s.stage n p w).mode = s.mode := rfl
@[simp] theorem State.stage_host (s : State) (n p : Nat) (w : Word) : (s.stage n p w).host = s.host := rfl
@[simp] theorem State.stage_own (s : State) (n p : Nat) (w : Word) : (s.stage n p w).own = s.own := rfl
@[simp] theorem State.stage_store (s : State) (n p : Nat) (w : Word) : (s.stage n p w).store = s.store := rfl
@[simp] theorem State.stage_mkt (s : State) (n p : Nat) (w : Word) : (s.stage n p w).mkt = s.mkt := rfl
@[simp] theorem State.stage_led (s : State) (n p : Nat) (w : Word) : (s.stage n p w).led = s.led := rfl
@[simp] theorem State.stage_edge (s : State) (n p : Nat) (w : Word) : (s.stage n p w).edge = s.edge := rfl
@[simp] theorem State.stage_pair (s : State) (n p : Nat) (w : Word) : (s.stage n p w).pair = s.pair := rfl
@[simp] theorem State.stage_dcl (s : State) (n p : Nat) (w : Word) : (s.stage n p w).dcl = s.dcl := rfl
@[simp] theorem State.stage_acq (s : State) (n p : Nat) (w : Word) : (s.stage n p w).acq = s.acq := rfl
@[simp] theorem State.stage_trac (s : State) (n p : Nat) (w : Word) : (s.stage n p w).trac = s.trac := rfl
@[simp] theorem State.stage_conv (s : State) (n p : Nat) (w : Word) : (s.stage n p w).conv = s.conv := rfl
@[simp] theorem State.stage_chg (s : State) (n p : Nat) (w : Word) : (s.stage n p w).chg = s.chg := rfl
@[simp] theorem State.stage_mot (s : State) (n p : Nat) (w : Word) : (s.stage n p w).mot = s.mot := rfl
@[simp] theorem State.stage_disc (s : State) (n p : Nat) (w : Word) : (s.stage n p w).disc = s.disc := rfl
@[simp] theorem State.stage_safe (s : State) (n p : Nat) (w : Word) : (s.stage n p w).safe = s.safe := rfl
@[simp] theorem State.stage_tally (s : State) (n p : Nat) (w : Word) : (s.stage n p w).tally = s.tally := rfl
@[simp] theorem State.stage_net (s : State) (n p : Nat) (w : Word) : (s.stage n p w).net = s.net := rfl
@[simp] theorem State.stage_rd (s : State) (n p : Nat) (w : Word) (x : Nat) : (s.stage n p w).rd x = s.rd x := rfl
@[simp] theorem State.stage_get (s : State) (n p : Nat) (w : Word) (X : Fld) : (s.stage n p w).get X = s.get X := rfl
@[simp] theorem State.stage_flag (s : State) (n p : Nat) (w : Word) (X : Fld) : (s.stage n p w).flag X = s.flag X := rfl
@[simp] theorem State.stage_md (s : State) (n p : Nat) (w : Word) : (s.stage n p w).md = s.md := rfl

@[simp] theorem State.setSafePair_part (s : State) (k : Nat) (p : SafePair) : (s.setSafePair k p).part = s.part := rfl
@[simp] theorem State.setSafePair_pending (s : State) (k : Nat) (p : SafePair) : (s.setSafePair k p).pending = s.pending := rfl
@[simp] theorem State.setSafePair_atime (s : State) (k : Nat) (p : SafePair) : (s.setSafePair k p).atime = s.atime := rfl
@[simp] theorem State.setSafePair_free (s : State) (k : Nat) (p : SafePair) : (s.setSafePair k p).free = s.free := rfl
@[simp] theorem State.setSafePair_regs (s : State) (k : Nat) (p : SafePair) : (s.setSafePair k p).regs = s.regs := rfl
@[simp] theorem State.setSafePair_mem (s : State) (k : Nat) (p : SafePair) : (s.setSafePair k p).mem = s.mem := rfl
@[simp] theorem State.setSafePair_pwr (s : State) (k : Nat) (p : SafePair) : (s.setSafePair k p).pwr = s.pwr := rfl
@[simp] theorem State.setSafePair_mode (s : State) (k : Nat) (p : SafePair) : (s.setSafePair k p).mode = s.mode := rfl
@[simp] theorem State.setSafePair_host (s : State) (k : Nat) (p : SafePair) : (s.setSafePair k p).host = s.host := rfl
@[simp] theorem State.setSafePair_own (s : State) (k : Nat) (p : SafePair) : (s.setSafePair k p).own = s.own := rfl
@[simp] theorem State.setSafePair_store (s : State) (k : Nat) (p : SafePair) : (s.setSafePair k p).store = s.store := rfl
@[simp] theorem State.setSafePair_mkt (s : State) (k : Nat) (p : SafePair) : (s.setSafePair k p).mkt = s.mkt := rfl
@[simp] theorem State.setSafePair_led (s : State) (k : Nat) (p : SafePair) : (s.setSafePair k p).led = s.led := rfl
@[simp] theorem State.setSafePair_fe (s : State) (k : Nat) (p : SafePair) : (s.setSafePair k p).fe = s.fe := rfl
@[simp] theorem State.setSafePair_edge (s : State) (k : Nat) (p : SafePair) : (s.setSafePair k p).edge = s.edge := rfl
@[simp] theorem State.setSafePair_pair (s : State) (k : Nat) (p : SafePair) : (s.setSafePair k p).pair = s.pair := rfl
@[simp] theorem State.setSafePair_dcl (s : State) (k : Nat) (p : SafePair) : (s.setSafePair k p).dcl = s.dcl := rfl
@[simp] theorem State.setSafePair_acq (s : State) (k : Nat) (p : SafePair) : (s.setSafePair k p).acq = s.acq := rfl
@[simp] theorem State.setSafePair_trac (s : State) (k : Nat) (p : SafePair) : (s.setSafePair k p).trac = s.trac := rfl
@[simp] theorem State.setSafePair_conv (s : State) (k : Nat) (p : SafePair) : (s.setSafePair k p).conv = s.conv := rfl
@[simp] theorem State.setSafePair_chg (s : State) (k : Nat) (p : SafePair) : (s.setSafePair k p).chg = s.chg := rfl
@[simp] theorem State.setSafePair_mot (s : State) (k : Nat) (p : SafePair) : (s.setSafePair k p).mot = s.mot := rfl
@[simp] theorem State.setSafePair_disc (s : State) (k : Nat) (p : SafePair) : (s.setSafePair k p).disc = s.disc := rfl
@[simp] theorem State.setSafePair_tally (s : State) (k : Nat) (p : SafePair) : (s.setSafePair k p).tally = s.tally := rfl
@[simp] theorem State.setSafePair_net (s : State) (k : Nat) (p : SafePair) : (s.setSafePair k p).net = s.net := rfl
@[simp] theorem State.setSafePair_rd (s : State) (k : Nat) (p : SafePair) (x : Nat) : (s.setSafePair k p).rd x = s.rd x := rfl
@[simp] theorem State.setSafePair_get (s : State) (k : Nat) (p : SafePair) (X : Fld) : (s.setSafePair k p).get X = s.get X := rfl
@[simp] theorem State.setSafePair_flag (s : State) (k : Nat) (p : SafePair) (X : Fld) : (s.setSafePair k p).flag X = s.flag X := rfl
@[simp] theorem State.setSafePair_md (s : State) (k : Nat) (p : SafePair) : (s.setSafePair k p).md = s.md := rfl

end Sys2Proof.Machine
end

