-- ==== Sys2Proof/Laws/Ops.lean ====
section
/-! SUPPORT. What each shared operation does: registers and their fields, completions, events, records, bytes of memory. -/

namespace Sys2Proof.Machine

/-! ### Registers -/

theorem State.canonical_regs {s : State} (h : s.canonical = true) : Sparse.wf (resetValue s.part) s.regs = true := by
  simp [State.canonical] at h; exact h.2

theorem State.canonical_mem {s : State} (h : s.canonical = true) : s.mem.wf = true := by
  simp [State.canonical] at h; exact h.1

/-- The register just written reads as the word written. -/
@[simp] theorem State.rd_wr_same (s : State) (a : Nat) (w : Word) : (s.wr a w).rd a = w :=
  Sparse.get_set_same _ _ _ _

/-- Every other register keeps its word. -/
@[simp] theorem State.rd_wr_ne (s : State) (a : Nat) (w : Word) {b : Nat} (h : b ≠ a) : (s.wr a w).rd b = s.rd b :=
  Sparse.get_set_ne _ _ _ _ h

@[simp] theorem State.rd_put_ne (s : State) (F : Fld) (v : Nat) {b : Nat} (h : b ≠ F.addr) : (s.put F v).rd b = s.rd b :=
  State.rd_wr_ne _ _ _ h

@[simp] theorem State.rd_putB_ne (s : State) (F : Fld) (v : Bool) {b : Nat} (h : b ≠ F.addr) : (s.putB F v).rd b = s.rd b :=
  State.rd_wr_ne _ _ _ h

/-- Writing a register keeps the canonical form. -/
theorem State.wr_canonical (s : State) (a : Nat) (w : Word) (h : s.canonical = true) : (s.wr a w).canonical = true := by
  have h1 := State.canonical_regs h
  have h2 := State.canonical_mem h
  simp only [State.canonical, Bool.and_eq_true]
  exact ⟨h2, Sparse.set_wf _ _ _ _ h1⟩

theorem State.put_canonical (s : State) (F : Fld) (v : Nat) (h : s.canonical = true) : (s.put F v).canonical = true := s.wr_canonical _ _ h

theorem State.putB_canonical (s : State) (F : Fld) (b : Bool) (h : s.canonical = true) : (s.putB F b).canonical = true := s.wr_canonical _ _ h

/-- A field just written reads as the value, cut to the field's width. -/
theorem State.get_put_same (s : State) (F : Fld) (v : Nat) (hw : F.lo ≤ F.hi) (h32 : F.hi < 32) :
    (s.put F v).get F = v % 2 ^ (F.hi + 1 - F.lo) := by
  rw [State.get, State.put, State.rd_wr_same s _ _, bitsOf_withBits_same _ _ _ _ hw h32]

theorem State.flag_putB_same (s : State) (F : Fld) (b : Bool) (hw : F.lo = F.hi) (h32 : F.hi < 32) :
    (s.putB F b).flag F = b := by
  have h1 : F.hi + 1 - F.lo = 1 := by omega
  rw [State.flag, State.putB, State.get_put_same s F _ (le_of_eq hw) h32, h1]
  cases b <;> rfl

/-- A field of another register keeps its value. -/
theorem State.get_put_ne (s : State) (F G : Fld) (v : Nat) (h : G.addr ≠ F.addr) : (s.put F v).get G = s.get G := by
  rw [State.get, State.rd_put_ne s F v h, State.get]

/-- Another field of the same register keeps its value. -/
theorem State.get_put_apart (s : State) (F G : Fld) (v : Nat) (hw : F.lo ≤ F.hi) (h32 : F.hi < 32)
    (hd : G.hi < F.lo ∨ F.hi < G.lo) : (s.put F v).get G = s.get G := by
  by_cases ha : G.addr = F.addr
  · rw [State.get, State.put, ha, State.rd_wr_same s _ _, State.get, ha]
    rcases hd with hd | hd
    · exact bitsOf_withBits_below _ _ _ _ _ _ hw h32 hd
    · exact bitsOf_withBits_above _ _ _ _ _ _ hw h32 hd
  · exact State.get_put_ne s F G v ha

/-! ### Bytes of memory -/

/-- Storing one byte of the SRAM or MRAM: that address reads the byte. -/
theorem State.readByte_setByte_same (s : State) (a : Nat) (b : Byte) (hm : inSram a = true ∨ inMram a = true) :
    (s.setByte a b).readByte a = b := by
  by_cases h1 : inSram a = true
  · simp [State.setByte, State.readByte, h1, Sparse.get_set_same]
  · have h2 : inMram a = true := hm.resolve_left h1
    simp [State.setByte, State.readByte, h1, h2, Sparse.get_set_same]

/-- Every other byte stays. -/
@[simp] theorem State.readByte_setByte_ne (s : State) (a : Nat) (b : Byte) {x : Nat} (h : x ≠ a) :
    (s.setByte a b).readByte x = s.readByte x := by
  unfold State.setByte
  split
  · simp [State.readByte, h]
  · split
    · simp [State.readByte, h]
    · rfl

/-- Settling a word without damage changes nothing. -/
theorem State.settle_clean (s : State) (o : Nat) (h : s.flipsAt o = 0) : s.settle o = s := if_pos h

/-- A byte written where its word has no damage is stored. -/
theorem State.writeByte_clean (s : State) (a : Nat) (b : Byte) (h : inSram a = true → s.flipsAt (a - sramBase) = 0 ∧ s.parityAt (a - sramBase) = false) :
    s.writeByte a b = s.setByte a b := by
  unfold State.writeByte
  split
  · rfl
  · rename_i hs
    obtain ⟨hf, hp⟩ := h (by simpa using hs)
    have hc : s.classAt (a - sramBase) 0 = 0 := by
      simp [State.classAt, State.synAt, hp, hf, syndromeOf, classOf]
    simp [hc, State.settle_clean s _ hf]

/-- The clauses of the canonical form of the memories. -/
theorem State.canonical_iff (s : State) : s.canonical = true ↔
    (Sparse.wf (always 0) s.mem.sram = true ∧ Sparse.wf (always false) s.mem.valid = true ∧ Sparse.wf (always 0) s.mem.flips = true ∧
      Sparse.wf (always false) s.mem.parityBad = true ∧ Sparse.wf (always 0) s.mem.mram = true ∧ Sparse.wf (always 0) s.mem.mramFlips = true ∧
      Sparse.wf (always 0) s.mem.host0 = true ∧ Sparse.wf (always 0) s.mem.host1 = true) ∧ Sparse.wf (resetValue s.part) s.regs = true := by
  simp only [State.canonical, Memory.wf, Bool.and_eq_true, and_assoc]

/-- A byte stored keeps the canonical form. -/
theorem State.setByte_canonical (s : State) (a : Nat) (b : Byte) (h : s.canonical = true) : (s.setByte a b).canonical = true := by
  rw [State.canonical_iff] at h ⊢
  obtain ⟨⟨h1, h2, h3, h4, h5, h6, h7, h8⟩, h9⟩ := h
  unfold State.setByte
  split
  · exact ⟨⟨Sparse.set_wf _ _ a b h1, Sparse.set_wf _ _ ((a - sramBase) / 8) true h2, h3, h4, h5, h6, h7, h8⟩, h9⟩
  · split
    · exact ⟨⟨h1, h2, h3, h4, Sparse.set_wf _ _ _ _ h5, h6, h7, h8⟩, h9⟩
    · exact ⟨⟨h1, h2, h3, h4, h5, h6, h7, h8⟩, h9⟩

/-- Bytes stored keep the canonical form. -/
theorem State.setBytes_canonical (s : State) (a : Nat) (bs : List Byte) (h : s.canonical = true) : (s.setBytes a bs).canonical = true := by
  induction bs generalizing s a with
  | nil => exact h
  | cons b t ih => exact ih _ _ (s.setByte_canonical a b h)

/-- Damage of one word written keeps the canonical form. -/
theorem State.flips_canonical (s : State) (k v : Nat) (h : s.canonical = true) :
    ({ s with mem.flips := Sparse.set (always 0) s.mem.flips k v } : State).canonical = true := by
  rw [State.canonical_iff] at h ⊢
  obtain ⟨⟨h1, h2, h3, h4, h5, h6, h7, h8⟩, h9⟩ := h
  exact ⟨⟨h1, h2, Sparse.set_wf _ _ _ _ h3, h4, h5, h6, h7, h8⟩, h9⟩

/-- A word settled keeps the canonical form. -/
theorem State.settle_canonical (s : State) (o : Nat) (h : s.canonical = true) : (s.settle o).canonical = true := by
  have h1 := State.setBytes_canonical s (sramBase + (o - o % 8)) (leBytes 8 (s.checkedWord o)) h
  unfold State.settle
  split
  · exact h
  · generalize s.setBytes (sramBase + (o - o % 8)) (leBytes 8 (s.checkedWord o)) = u at h1
    rw [State.canonical_iff] at h h1 ⊢
    obtain ⟨⟨h1, h2, _, h4, h5, h6, h7, h8⟩, h9⟩ := h1
    exact ⟨⟨h1, h2, Sparse.set_wf (always 0) s.mem.flips (o / 8) 0 h.1.2.2.1, h4, h5, h6, h7, h8⟩, h9⟩

/-- Damage forgotten keeps the canonical form. -/
theorem State.renew_canonical (s : State) (a n : Nat) (h : s.canonical = true) : (s.renew a n).canonical = true := by
  rw [State.canonical_iff] at h ⊢
  obtain ⟨⟨h1, h2, h3, h4, h5, h6, h7, h8⟩, h9⟩ := h
  exact ⟨⟨h1, h2, Sparse.filter_wf _ _ _ h3, Sparse.filter_wf _ _ _ h4, h5, h6, h7, h8⟩, h9⟩

/-- A byte written keeps the canonical form. -/
theorem State.writeByte_canonical (s : State) (a : Nat) (b : Byte) (h : s.canonical = true) : (s.writeByte a b).canonical = true := by
  unfold State.writeByte
  split
  · exact s.setByte_canonical a b h
  · dsimp only
    split
    · exact h
    · exact State.setByte_canonical _ _ _ (s.settle_canonical _ h)

theorem State.writeEach_canonical (s : State) (a : Nat) (bs : List Byte) (h : s.canonical = true) : (s.writeEach a bs).canonical = true := by
  induction bs generalizing s a with
  | nil => exact h
  | cons b t ih => exact ih _ _ (s.writeByte_canonical a b h)

theorem putBytes_wf (m : Sparse Byte) (a : Nat) (bs : List Byte) (h : Sparse.wf (always 0) m = true) : Sparse.wf (always 0) (putBytes m a bs) = true := by
  induction bs generalizing m a with
  | nil => exact h
  | cons b t ih => exact ih _ _ (Sparse.set_wf _ _ _ _ h)

/-- Bytes written keep the canonical form. -/
theorem State.writeBytes_canonical (s : State) (a : Nat) (bs : List Byte) (h : s.canonical = true) : (s.writeBytes a bs).canonical = true :=
  State.writeEach_canonical _ _ _ (s.renew_canonical _ _ h)

/-- A record raised keeps the canonical form. -/
theorem State.raise_canonical (s : State) (code sev unit : Nat) (c0 c1 : Option Word) (h : s.canonical = true) :
    (s.raise code sev unit c0 c1).canonical = true :=
  s.wr_canonical R.LEDGER_SEQ (s.rd R.LEDGER_SEQ + 1) h

/-- A write that R130 refuses keeps the canonical form. -/
theorem State.regionErr_canonical (s : State) (a who : Nat) (h : s.canonical = true) : (s.regionErr a who).canonical = true :=
  State.raise_canonical _ _ _ _ _ _ (s.putB_canonical _ _ h)

/-- A host's memory, or the SRAM, written keeps the canonical form. -/
theorem State.putHost_canonical (s : State) (m a : Nat) (bs : List Byte) (h : s.canonical = true) : (s.putHost m a bs).canonical = true := by
  unfold State.putHost
  split
  · rw [State.canonical_iff] at h ⊢
    obtain ⟨⟨h1, h2, h3, h4, h5, h6, h7, h8⟩, h9⟩ := h
    exact ⟨⟨h1, h2, h3, h4, h5, h6, putBytes_wf _ _ _ h7, h8⟩, h9⟩
  · rw [State.canonical_iff] at h ⊢
    obtain ⟨⟨h1, h2, h3, h4, h5, h6, h7, h8⟩, h9⟩ := h
    exact ⟨⟨h1, h2, h3, h4, h5, h6, h7, putBytes_wf _ _ _ h8⟩, h9⟩
  · split
    · exact s.regionErr_canonical a 3 h
    · exact s.writeBytes_canonical a bs h

/-! ### Half-bridge channels -/

/-- Driving a channel's pads keeps the two apart where the pads given are apart. -/
theorem Chan.drive_apart (c : Chan) (p : Bool × Bool) (h : (p.1 && p.2) = false) : ((c.drive p).high && (c.drive p).low) = false := h

/-- The pads of R205 are never both high for a channel that has not both pads high. -/
theorem padsOf_apart (func mode : Nat) (f : Option Bool) (c : Chan) : ((padsOf func mode f c).1 && (padsOf func mode f c).2) = false := by
  unfold padsOf
  repeat' split
  all_goals first | rfl | skip
  all_goals simp
  all_goals (intro h; simp [h])

/-- Writing a channel whose pads are apart keeps every channel apart. -/
theorem State.setChan_apart (s : State) (n : Nat) (c : Chan) (h : s.noShootThrough = true) (hc : (c.high && c.low) = false) :
    (s.setChan n c).noShootThrough = true := by
  simp only [State.noShootThrough, State.setChan, List.all_eq_true] at h ⊢
  intro e he
  rcases Sparse.mem_set _ _ _ _ e he with he | he
  · simp [he, hc]
  · exact h e he

end Sys2Proof.Machine
end

