-- ==== Sys2Proof/Laws/Edge.lean ====
section
/-! SUPPORT. What renewing the pads may change, said once for each operation of the Banister (R12-R15, R205). -/

namespace Sys2Proof.Machine

/-- From `s` to `t` nothing but the Edge Placer has changed. -/
def EdgeOnly (s t : State) : Prop := ∃ e, t = { s with edge := e }

theorem EdgeOnly.refl (s : State) : EdgeOnly s s := ⟨s.edge, rfl⟩

theorem EdgeOnly.trans {s t u : State} (h : EdgeOnly s t) (k : EdgeOnly t u) : EdgeOnly s u := by
  obtain ⟨e, rfl⟩ := h
  obtain ⟨f, rfl⟩ := k
  exact ⟨f, rfl⟩

/-- A fold of steps that change nothing but the Edge Placer changes nothing but the Edge Placer. -/
theorem EdgeOnly.each {α : Type} (f : State → α → State) (hf : ∀ s a, EdgeOnly s (f s a)) (s : State) (l : List α) : EdgeOnly s (s.each l f) := by
  induction l generalizing s with
  | nil => exact EdgeOnly.refl s
  | cons a t ih => exact (hf s a).trans (ih (f s a))

theorem State.setLines_edgeOnly (s : State) (k u : Nat) (l : Lines) : EdgeOnly s (s.setLines k u l) := ⟨_, rfl⟩
theorem State.setChan_edgeOnly (s : State) (n : Nat) (c : Chan) : EdgeOnly s (s.setChan n c) := ⟨_, rfl⟩
theorem State.clearLeg_edgeOnly (s : State) (n u : Nat) : EdgeOnly s (s.clearLeg n u) := ⟨_, rfl⟩

theorem EdgeOnly.ite {s t : State} (b : Bool) (h : EdgeOnly s t) : EdgeOnly s (if b then t else s) := by
  cases b
  · exact EdgeOnly.refl s
  · exact h

/-- A channel that takes its pads changes the Edge Placer alone. -/
theorem State.refreshChan_edgeOnly (s : State) (n : Nat) : EdgeOnly s (s.refreshChan n) := by
  unfold State.refreshChan
  split
  · exact s.setChan_edgeOnly _ _
  · split
    · exact s.setChan_edgeOnly _ _
    · exact (EdgeOnly.ite _ (s.clearLeg_edgeOnly _ _)).trans (State.setChan_edgeOnly _ _ _)

theorem State.dropForced_edgeOnly (s : State) (u : Nat) : EdgeOnly s (s.dropForced u) := by
  unfold State.dropForced
  split
  · exact (s.setLines_edgeOnly _ _ _).trans (State.setLines_edgeOnly _ _ _ _)
  · exact EdgeOnly.refl s

/-- What an operation of the Banister may change: the Edge Placer, and, through a converter that stops, CONV_STATUS with its event and what
the CONV block keeps. -/
def Refreshed (s t : State) : Prop :=
  (∃ e c r ev f, t = { s with edge := e, conv := c, regs := r, host.events := ev, free := f }) ∧ OnlyRegs s t [R.CONV_STATUS]

theorem Refreshed.refl (s : State) : Refreshed s s := ⟨⟨_, _, _, _, _, rfl⟩, fun _ _ => rfl⟩

theorem Refreshed.trans {s t u : State} (h : Refreshed s t) (k : Refreshed t u) : Refreshed s u := by
  obtain ⟨⟨e, c, r, ev, f, rfl⟩, h2⟩ := h
  obtain ⟨⟨e', c', r', ev', f', rfl⟩, k2⟩ := k
  exact ⟨⟨e', c', r', ev', f', rfl⟩, fun a ha => (k2 a ha).trans (h2 a ha)⟩

theorem EdgeOnly.refreshed {s t : State} (h : EdgeOnly s t) : Refreshed s t := by
  obtain ⟨e, rfl⟩ := h
  exact ⟨⟨e, s.conv, s.regs, s.host.events, s.free, rfl⟩, fun _ _ => rfl⟩

/-- An event adds to the events and draws. -/
theorem State.event_refreshed (s : State) (code source : Nat) (c0 c1 c2 c3 : Option Word) : Refreshed s (s.event code source c0 c1 c2 c3) :=
  ⟨⟨s.edge, s.conv, s.regs, (s.event code source c0 c1 c2 c3).host.events, s.free + 1, rfl⟩, fun _ _ => rfl⟩

theorem State.convState_refreshed (s : State) (v : Nat) : Refreshed s (s.convState v) := by
  unfold State.convState
  dsimp only
  split
  · exact Refreshed.refl s
  · refine Refreshed.trans (t := s.put R.CONV_STATUS_STATE v) ⟨⟨s.edge, s.conv, (s.put R.CONV_STATUS_STATE v).regs, s.host.events, s.free, rfl⟩, ?_⟩
      (State.event_refreshed _ _ _ _ _ _ _)
    intro a ha
    exact s.rd_put_ne R.CONV_STATUS_STATE v (fun h => ha (by simp [h, R.CONV_STATUS_STATE]))

theorem State.convFollow_refreshed (s : State) : Refreshed s s.convFollow := by
  unfold State.convFollow
  dsimp only
  split
  · refine (s.convState_refreshed 0).trans ?_
    generalize s.convState 0 = t
    exact ⟨⟨t.edge, { t.conv with withheld := false, padsLow := false }, t.regs, t.host.events, t.free, rfl⟩, fun _ _ => rfl⟩
  · exact Refreshed.refl s

theorem State.refreshUnit_refreshed (s : State) (u : Nat) : Refreshed s (s.refreshUnit u) := by
  unfold State.refreshUnit
  dsimp only
  have h (t : State) : Refreshed t ((t.dropForced u).each ((t.dropForced u).unitChans u) State.refreshChan) :=
    ((t.dropForced_edgeOnly u).trans (EdgeOnly.each _ State.refreshChan_edgeOnly _ _)).refreshed
  split
  · exact s.convFollow_refreshed.trans (h _)
  · exact h s

theorem State.refreshAll_refreshed (s : State) : Refreshed s s.refreshAll := by
  unfold State.refreshAll
  exact s.convFollow_refreshed.trans
    ((EdgeOnly.each _ State.dropForced_edgeOnly _ _).trans (EdgeOnly.each _ State.refreshChan_edgeOnly _ _)).refreshed

theorem State.removeEnable_refreshed (s : State) (u : Nat) : Refreshed s (s.removeEnable u) := by
  unfold State.removeEnable
  refine Refreshed.trans ?_ (State.refreshUnit_refreshed _ u)
  generalize hl : (s.setLines 0 u { s.lines 0 u with enable := false }) = t
  have h1 : EdgeOnly s t := hl ▸ s.setLines_edgeOnly _ _ _
  generalize hm : (t.setLines 1 u { t.lines 1 u with enable := false }) = v
  have h2 : EdgeOnly t v := hm ▸ t.setLines_edgeOnly _ _ _
  exact ((h1.trans h2).trans ⟨_, rfl⟩).refreshed

theorem State.forceUnit_refreshed (s : State) (u : Nat) (asc : Bool) : Refreshed s (s.forceUnit u asc) := by
  unfold State.forceUnit
  exact Refreshed.trans ((s.setLines_edgeOnly _ _ _).trans (State.setLines_edgeOnly _ _ _ _)).refreshed (State.refreshUnit_refreshed _ u)

theorem State.unforceUnit_refreshed (s : State) (u : Nat) : Refreshed s (s.unforceUnit u) := by
  unfold State.unforceUnit
  exact Refreshed.trans ((s.setLines_edgeOnly _ _ _).trans (State.setLines_edgeOnly _ _ _ _)).refreshed (State.refreshUnit_refreshed _ u)

/-- What does not change when pads are renewed. -/
theorem Refreshed.pwr {s t : State} (h : Refreshed s t) : t.pwr = s.pwr := by obtain ⟨⟨_, _, _, _, _, rfl⟩, _⟩ := h; rfl
theorem Refreshed.mem {s t : State} (h : Refreshed s t) : t.mem = s.mem := by obtain ⟨⟨_, _, _, _, _, rfl⟩, _⟩ := h; rfl
theorem Refreshed.part {s t : State} (h : Refreshed s t) : t.part = s.part := by obtain ⟨⟨_, _, _, _, _, rfl⟩, _⟩ := h; rfl
theorem Refreshed.pending {s t : State} (h : Refreshed s t) : t.pending = s.pending := by obtain ⟨⟨_, _, _, _, _, rfl⟩, _⟩ := h; rfl
theorem Refreshed.led {s t : State} (h : Refreshed s t) : t.led = s.led := by obtain ⟨⟨_, _, _, _, _, rfl⟩, _⟩ := h; rfl
theorem Refreshed.fe {s t : State} (h : Refreshed s t) : t.fe = s.fe := by obtain ⟨⟨_, _, _, _, _, rfl⟩, _⟩ := h; rfl
theorem Refreshed.mode {s t : State} (h : Refreshed s t) : t.mode = s.mode := by obtain ⟨⟨_, _, _, _, _, rfl⟩, _⟩ := h; rfl
theorem Refreshed.rd {s t : State} (h : Refreshed s t) {a : Nat} (ha : a ≠ R.CONV_STATUS) : t.rd a = s.rd a := h.2 a (by simpa using ha)

end Sys2Proof.Machine
end

