-- ==== Sys2Proof/Machine/Pins.lean ====
section
/-! DEFINITION. What each pin group shows (R53, R54, R57, R58, R66-R68, R71, 03_supplies_reset_hibernate.md): a view of the state, which
no command reads. -/

namespace Sys2Proof.Machine

/-- What an output pin shows. `inactive`: a clock or select line that idles (R67); `active`: it carries its traffic; `idle`: electrical
idle of a serial lane. -/
inductive Pin
  | low | high | hiZ | inactive | active | idle | off
  deriving DecidableEq, Repr

/-- A driven level. -/
def Pin.ofBool (b : Bool) : Pin := if b then .high else .low

/-- A reset, or a BOOT in which no runtime has taken Landing 0: the first column of R67. -/
def State.preLanding (s : State) : Bool := s.pwr.power = .reset || s.pwr.noRuntime

/-- The pins of half-bridge channel `n`, HB_n_H and HB_n_L. -/
def State.hbPins (s : State) (n : Nat) : Pin × Pin :=
  if s.padDriven n then (Pin.ofBool (s.chan n).high, Pin.ofBool (s.chan n).low) else (.hiZ, .hiZ)

/-- The clock and select wires, and the data wires, of gate link `n`. -/
def State.gatePins (s : State) (n : Nat) : Pin × Pin :=
  if !s.bankLive (hbBank n) then (.hiZ, .hiZ) else if s.preLanding then (.inactive, .hiZ) else (.active, .active)

/-- SOUT_n: low in a reset and in a light test's pulse, else as the safety logic table commands. -/
def State.soutPin (s : State) (n : Nat) : Pin :=
  if !s.bankLive 1 then .hiZ else Pin.ofBool (!s.preLanding && s.soutOn n && (s.sout n).stage != 1)

/-- CP_DRV: low in a reset and in SAFE_STOP, else per pilot state. -/
def State.cpDrvPin (s : State) : Pin :=
  if !s.bankLive 1 then .hiZ else Pin.ofBool (!s.preLanding && s.md ≠ .safeStop && s.cpDrv)

/-- FAULT_N, an open drain. -/
def State.faultNPin (s : State) : Pin := if s.faultPin then .low else .hiZ

/-- RAIL_EN, on VSTBY (R57). -/
def State.railEnPin (s : State) : Pin := if s.pwr.vstby then Pin.ofBool s.pwr.railEn else .off

/-- A group that is low before Landing 0 and active after it: the encoder emulation outputs on VIO_4, CONV_SYNC as an output on VIO_0. -/
def State.latePin (s : State) (bank : Nat) : Pin := if !s.bankLive bank then .hiZ else if s.preLanding then .low else .active

/-- A network group: CAN on VIO_5, Ethernet management on VIO_6, encoder and SENT inputs on VIO_4. -/
def State.netPin (s : State) (bank : Nat) : Pin := if !s.bankLive bank || s.preLanding then .hiZ else .active

/-- The PCIe, SGMII and Gallery Link lanes. -/
def State.lanePin (s : State) : Pin :=
  match s.pwr.power with
  | .run => if s.pwr.noRuntime then .idle else .active
  | .reset => .idle
  | _ => .off

end Sys2Proof.Machine
end

