-- ==== Sys2Proof/Tests/Slice0.lean ====
section
/-! SUPPORT. Tests: which terms WellFormed refuses, words written out from the spec's encoding, and for every obligation with premises a
state and operands that meet the premises of each of its clauses. -/

namespace Sys2Proof.Tests

open Sys2Proof Sys2Proof.Machine

set_option Elab.async false
set_option linter.unusedVariables false

/-- Running in the mode with code `m`, every supply good, both Warden pairs and every engine in service. -/
def up (m : Nat) : State :=
  ((({ State.reset with pwr.power := .run, pwr.isolated := false, pwr.isolatedVio3 := false, pwr.latchDrives := false }).put R.SYS_MODE_MODE m).wr
    R.PAIR_STATUS 0xFF000011).wr R.PWR_STATUS 0xFF1E

/-- The state after reset in another power state. -/
def pw (p : Power) : State := { State.reset with pwr.power := p }

/-- A command of master 0 with tag 7 and its payload. -/
def cm (target : Nat) (payload : List Byte) : Cmd :=
  { master := 0, tag := 7, target := target, len := payload.length, hostAddr := 0x1000, payload := payload }

/-- The state with a half-bridge channel assigned to a function and a unit. -/
def withChan (s : State) (h func unit : Nat) : State := (s.put (R.EDGE_CH_CFG_FUNC h) func).put (R.EDGE_CH_CFG_UNIT h) unit

/-- The state with unit `u` enabled by both pairs. -/
def withUnit (s : State) (u : Nat) : State := (s.setLines 0 u ⟨true, false, false⟩).setLines 1 u ⟨true, false, false⟩

/-- Engine `n` in its tick with `w` as the first word of a user program. -/
def loopW (n : Nat) (w : Word) (e : Engine := Engine.init) : State :=
  (up 6).setEng n { e with inTick := true, loop := [(0, w)] }

/-- Engine `n` about to issue the instruction with these fields. -/
def isa (n op d a b x : Nat) (e : Engine := Engine.init) : State := loopW n (loopWord op d a b x) e

/-- Set `n` running the modulated program, with a program state. -/
def trc (n : Nat) (t : Trac) (m : Nat := 6) : State :=
  { ((up m).setEng n { Engine.init with prog := .modulated }).putB (R.FE_STATUS_RUNNING n) true with trac := [(n, t)] }

/-- An access of the Steward cluster. -/
def acc (addr size : Nat) (write : Bool := false) : Access :=
  { who := .steward, gallery := none, engine := none, portD := false, write := write, addr := addr, size := size, data := 0x55,
    other := none, ecc := ⟨0, 0, 0, false⟩ }

/-- A pending transition from DRIVE to STANDBY. -/
def tr0 : Trigger := { dest := .standby, kind := 0, prec := 0, code := 0, seq := 1, src := .drive, started := 0, ticks := 0 }

/-- A command in flight, a result of it, an event, a record. -/
def op0 : Op :=
  { master := 0, tag := 7, ring := 0, opcode := 0x0100, cls := 1, target := 0, irq := false, fence := false, isRead := true, len := 0,
    hostAddr := 0x1000, payload := [], stalls := [], started := false, start := 0, reported := 0, done := false }

/-- The state with the operation of command `c` in flight, fetched and checked, and not yet started. -/
def fly (s : State) (opcode : Nat) (c : Cmd) (cls : Nat := 1) : State :=
  { s with host.ops := [{ op0 with master := c.master, tag := c.tag, opcode := opcode, cls := cls, target := c.target, len := c.len,
                                   hostAddr := c.hostAddr, payload := c.payload }] }
def res0 : Result := { master := 0, tag := 7, status := .ok, superseded := false, data := false, value := 0, at_ := 0, gallery := 0 }
def ev0 : Event := { code := 0x6001, source := 0, at_ := 0, c0 := 0, c1 := 0, c2 := 0, c3 := 0, only := none }
def rec0 (sev : Nat) : Rec :=
  { code := 0x1401, sev := sev, scope := 0, func := 0, unit := 0x14, at_ := 0, tick := 0, ctx0 := 0, ctx1 := 0, seq := 1, boot := 1,
    flags := 0, own := 0 }

/-- Two equal signatures, and nothing else found. -/
def gate0 : GateIn := { main := 5, checker := 5, parity := false, ueRead := false, comparator := false, canarySees := true }

/-- A boot that finds nothing wrong. -/
def boot0 : BootIn := { straps := 0xA5, wardenAuth := true, stewardAuth := true, selfTest := [], badSpares := [], badCanary := [], copiesIntact := true }

/-- A wrong check bit is of class 1 or 2, whatever the columns drawn (R148, R149). -/
theorem checkBit_class : classOf (syndromeOf (2 ^ 64) 0) = 1 ∨ classOf (syndromeOf (2 ^ 64) 0) = 2 := by
  have h (c : List Nat) : xorCols c 0 = 0 := by induction c with | nil => rfl | cons x t ih => simp [xorCols, ih]
  have hs : syndromeOf (2 ^ 64) 0 = 1 := by simp [syndromeOf, h]
  have hc : ∀ n, n = 1 → classOf n = 1 ∨ classOf n = 2 := by
    intro n hn; subst hn; unfold classOf; split
    · simp_all
    · split <;> simp_all [weight]
  exact hc _ hs

theorem test_meets_StepRunsFrontCommand :
    let c : Instr := .parkVerified; let rest : List Instr := [.resetPin]; let s : State := { up 5 with pending := [.parkVerified, .resetPin] }; s.pending = c :: rest := by decide +kernel

theorem test_meets_EmptyQueueLetsTimePass :
    (let s : State := up 5; s.pending = [] ∧ s.pwr.power = .run ∧ s.net.slew = 0 ∧ -5000 < s.net.frac ∧ s.net.frac < 5000) ∧
    (let s : State := State.reset; s.pending = [] ∧ s.pwr.power ≠ .run) := by
  and_intros <;> decide +kernel

theorem test_meets_StateAfterReset :
    let n := 7; n < 8 := by decide +kernel

theorem test_meets_PowerUpRailWaitAndWake :
    (let s : State := State.reset; s.pwr.power = .off) ∧
    (let s : State := up 5; s.pwr.power ≠ .off) ∧
    (let s : State := pw .railWait; s.pwr.power = .railWait ∧ s.railsGood = false ∧ s.pwr.afterWake = false) ∧
    (let s : State := { pw .railWait with pwr.afterWake := true }; s.pwr.power = .railWait ∧ s.railsGood = false ∧ s.pwr.afterWake = true) ∧
    (let s : State := up 5; s.pwr.power ≠ .railWait) ∧
    (let s : State := (pw .hibernate).wr R.PWR_WAKE_CFG 0x8; let n := 3; n < 4 ∧ s.pwr.power = .hibernate ∧ s.pwr.entering = false ∧ s.pwr.earlyDelay = false ∧ s.wakeEnabled n true = true ∧ s.railsGood = false) ∧
    (let s : State := up 5; let n := 3; n < 4 ∧ s.wakeEnabled n true = false) ∧
    (let s : State := { (pw .run).wr R.PWR_WAKE_CFG 0x1 with pwr.entering := true }; let n := 0; n < 4 ∧ s.pwr.entering = true ∧ s.wakeEnabled n true = true) ∧
    (let s : State := { pw .hibernate with pwr.resetN := false }; s.pwr.power = .hibernate ∧ s.pwr.entering = false ∧ s.pwr.earlyDelay = false ∧ s.pwr.resetN = false ∧ s.railsGood = false) ∧
    (let s : State := ((pw .hibernate).wr R.PWR_WAKE_CFG 0x8).wr R.PWR_STATUS 0xFF1E; let n := 3; n < 4 ∧ s.pwr.power = .hibernate ∧ s.pwr.entering = false ∧ s.pwr.earlyDelay = false ∧ s.wakeEnabled n true = true ∧ s.railsGood = true ∧ s.pwr.resetN = true) ∧
    (let s : State := { pw .hibernate with pwr.timerArmed := true }; s.pwr.power = .hibernate ∧ s.pwr.timerArmed = true ∧ s.pwr.earlyDelay = false ∧ s.railsGood = false) ∧
    (let s : State := up 5; s.pwr.timerArmed = false) ∧
    (let s : State := { pw .hibernate with pwr.earlyDelay := true }; s.pwr.power = .hibernate ∧ s.pwr.earlyDelay = true ∧ s.railsGood = false) ∧
    (let s : State := up 5; s.pwr.earlyDelay = false) := by
  and_intros <;> decide +kernel

theorem test_meets_SupplyLossAndResetSources :
    (let s : State := up 5; (s.pwr.power = .hibernate ∨ s.pwr.power = .reset ∨ s.pwr.power = .run)) ∧
    (let s : State := up 5; let k := 4; 1 ≤ k ∧ k ≤ 4 ∧ s.pwr.power = .run) ∧
    (let s : State := { up 5 with pwr.supervised := 0xFF }; let n := 7; n < 8 ∧ s.pwr.power = .run ∧ natBit s.pwr.supervised n = true) ∧
    (let s : State := up 5; s.pwr.power ≠ .off) ∧
    (let s : State := up 5; s.pwr.power = .run) ∧
    (let s : State := State.reset; let k := 12; s.pwr.power = .off) := by
  and_intros <;> decide +kernel

theorem test_meets_BootStrapsAndPerst :
    (let s : State := (pw .reset).wr R.PWR_STATUS 0xFFFFFFFF; let b := boot0; s.pwr.power = .reset ∧ s.mainGood = true ∧ s.pwr.resetN = true) ∧
    (let s : State := (pw .reset).wr R.PWR_STATUS 0xFFFFFFFF; let b := boot0; s.pwr.power = .reset ∧ s.mainGood = true ∧ s.pwr.resetN = true ∧ s.pwr.cold = true) ∧
    (let s : State := { (pw .reset).wr R.PWR_STATUS 0xFFFFFFFF with pwr.cold := false }; let b := boot0; s.pwr.power = .reset ∧ s.mainGood = true ∧ s.pwr.resetN = true ∧ s.pwr.cold = false) ∧
    (let s : State := { (pw .reset).wr R.PWR_STATUS 0xFFFFFFFF with pwr.resetN := false }; let b := boot0; (s.pwr.power ≠ .reset ∨ s.mainGood = false ∨ s.pwr.resetN = false)) ∧
    (let s : State := up 5; let live := 5; s.pwr.power = .run ∧ live % 256 ≠ s.get R.SYS_STRAP_LATCHED) ∧
    (let s : State := pw .reset; let p := 1; p < 2 ∧ s.pwr.power ≠ .run) ∧
    (let s : State := pw .reset; let p := 2; 2 ≤ p) := by
  and_intros <;> decide +kernel

theorem test_meets_ModeRequestsAreJudged :
    (let s : State := fly ((up 5).putB R.SAFE_DCL_STATUS_UV false) 0x0101 (cm 0 [6, 0]); let c := cm 0 [6, 0]; s.startable c 0x0101 = true ∧ s.triggerWaits = false ∧ c.target = 0 ∧ 2 ≤ c.payload.length ∧ s.md = .standby ∧ s.mode.trans = none ∧ s.flag R.SYS_MODE_DEGRADE_MARK = false ∧ s.driveOk = true ∧ arg c 16 1 = 6 ∧ arg c 17 1 = 0) ∧
    (let s : State := fly ((up 5).putB R.SYS_MODE_DRIVE_BLOCK true) 0x0101 (cm 0 [6, 0]); let c := cm 0 [6, 0]; s.startable c 0x0101 = true ∧ s.triggerWaits = false ∧ c.target = 0 ∧ 2 ≤ c.payload.length ∧ s.md = .standby ∧ s.mode.trans = none ∧ s.driveOk = false ∧ arg c 16 1 = 6 ∧ arg c 17 1 = 0) ∧
    (let s : State := fly ((up 6).setEng 3 { Engine.init with committed := [(385, 0x461C4000)] }) 0x0101 (cm 0 [5, 0]); let c := cm 0 [5, 0]; s.startable c 0x0101 = true ∧ s.triggerWaits = false ∧ c.target = 0 ∧ 2 ≤ c.payload.length ∧ s.md = .drive ∧ s.mode.trans = none ∧ s.standstill = false ∧ arg c 16 1 = 5 ∧ arg c 17 1 = 0) ∧
    (let s : State := fly ({ up 6 with mode.trans := some tr0 }) 0x0101 (cm 0 [5, 0]); let c := cm 0 [5, 0]; s.startable c 0x0101 = true ∧ s.triggerWaits = false ∧ c.target = 0 ∧ 2 ≤ c.payload.length ∧ s.md.fromDiscover = true ∧ s.mode.trans ≠ none ∧ arg c 16 1 = 5 ∧ arg c 17 1 = 0) ∧
    (let s : State := fly (up 5) 0x0101 (cm 0 [10, 0]); let c := cm 0 [10, 0]; s.startable c 0x0101 = true ∧ s.triggerWaits = false ∧ c.target = 0 ∧ 2 ≤ c.payload.length ∧ s.md.fromDiscover = true ∧ (arg c 16 1 = 0 ∨ arg c 16 1 = 2 ∨ arg c 16 1 = 3 ∨ 10 ≤ arg c 16 1)) := by
  and_intros <;> decide +kernel

theorem test_meets_SafeStopResetAndTimers :
    (let s : State := fly (up 5) 0x0100 (cm 0 []); let c := cm 0 []; s.startable c 0x0100 = true ∧ c.target = 0 ∧ s.md.fromDiscover = true) ∧
    (let s : State := fly (up 5) 0x0104 (cm 0 []); let c := cm 0 []; s.startable c 0x0104 = true ∧ c.target = 0 ∧ s.md = .standby ∧ s.mode.trans = none ∧ s.flag R.DISC_STATUS_BUSY = false) ∧
    (let s : State := fly (up 11) 0x0104 (cm 0 []); let c := cm 0 []; s.startable c 0x0104 = true ∧ c.target = 0 ∧ s.md = .safeStop) ∧
    (let s : State := fly (up 5) 0x0105 (cm 0 []); let c := cm 0 []; s.startable c 0x0105 = true ∧ c.target = 0 ∧ s.standstill = true ∧ (s.md = .standby ∨ s.md = .service ∨ s.md = .commission ∨ s.md = .safeStop)) ∧
    (let s : State := fly (up 6) 0x0105 (cm 0 []); let c := cm 0 []; s.startable c 0x0105 = true ∧ c.target = 0 ∧ s.md = .drive) ∧
    (let s : State := { up 10 with mode.degrStart := some 0, mode.degrTold := true }; let t0 : Time := 0; s.pwr.power = .run ∧ s.mode.degrStart = some t0 ∧ s.mode.degrTold = true ∧ s.mode.degrExpired = false) ∧
    (let s : State := { up 6 with mode.degrStart := some 0, mode.degrTime := 0 }; s.pwr.power = .run ∧ s.degrLeft = some 0 ∧ s.mode.degrExpired = false ∧ s.md ≠ .degraded ∧ s.md ≠ .standby) ∧
    (let s : State := { up 10 with mode.degrStart := some 0, mode.degrTime := 0 }; s.degrLeft = some 0 ∧ s.mode.degrExpired = false ∧ (s.md = .degraded ∨ s.md = .standby) ∧ s.mode.trans = none) ∧
    (let s : State := { up 6 with mode.degrExpired := true }; s.mode.degrExpired = true) := by
  and_intros <;> decide +kernel

theorem test_meets_TransitionEnd :
    (let s : State := up 5; let d := 0; let f := false; s.mode.trans = none) ∧
    (let s : State := up 5; let fromCode := 15; let kind := 7; let dest := Mode.drive; let code := 70000; fromCode < 16 ∧ kind < 8) ∧
    (let tr := tr0; let s : State := { up 6 with mode.trans := some tr0 }; let d := 0; let f := false; s.mode.trans = some tr ∧ s.md ≠ .standby ∧ tr.dest ≠ .hibernate ∧ tr.kind ≠ 3) ∧
    (let tr := { tr0 with dest := .drive }; let s : State := { (up 5).putB R.SAFE_DCL_STATUS_UV false with mode.trans := some { tr0 with dest := .drive } }; let d := 0; let f := false; s.mode.trans = some tr ∧ s.md = .standby ∧ (tr.dest = .drive ∨ tr.dest = .degraded) ∧ s.flag R.SAFE_DCL_STATUS_UV = false) ∧
    (let tr := { tr0 with dest := .safeStop, kind := 3 }; let s : State := { up 10 with mode.trans := some { tr0 with dest := .safeStop, kind := 3 } }; let d := 0; let f := false; s.mode.trans = some tr ∧ s.md = .degraded ∧ tr.kind = 3 ∧ tr.dest ≠ .hibernate) ∧
    (let tr := { tr0 with dest := .hibernate }; let s : State := { up 5 with mode.trans := some { tr0 with dest := .hibernate } }; let d := 0; let f := false; s.mode.trans = some tr ∧ tr.dest = .hibernate) := by
  and_intros <;> decide +kernel

theorem test_meets_DiscoveryRuns :
    (let s : State := up 3; s.md = .discover ∧ s.flag R.DISC_STATUS_BUSY = false) ∧
    (let s : State := up 5; s.md ≠ .discover) ∧
    (let s : State := ((up 3).putB R.DISC_STATUS_BUSY true).putB R.SAFE_DCL_STATUS_UV true; s.flag R.DISC_STATUS_BUSY = true ∧ s.flag R.SAFE_DCL_STATUS_UV = true ∧ s.disc.noLink = false ∧ s.disc.linkUp = false) ∧
    (let s : State := up 3; let emf : List Nat := []; s.flag R.DISC_STATUS_BUSY = false) ∧
    (let s : State := (up 3).putB R.DISC_STATUS_BUSY true; let emf : List Nat := []; s.flag R.DISC_STATUS_BUSY = true ∧ s.md = .discover) ∧
    (let s : State := fly (up 4) 0x6010 (cm 0x15 []); let c := cm 0x15 []; s.startable c 0x6010 = true ∧ c.target = 0x15 ∧ s.md = .commission ∧ s.flag R.DISC_STATUS_BUSY = false) ∧
    (let s : State := fly ((up 4).putB R.DISC_STATUS_BUSY true) 0x6010 (cm 0x15 []); let c := cm 0x15 []; s.startable c 0x6010 = true ∧ c.target = 0x15 ∧ s.md = .commission ∧ s.flag R.DISC_STATUS_BUSY = true) ∧
    (let s : State := fly { up 4 with disc.ran := true, disc.meas := (List.range 96).map fun n => (n, some ⟨5, []⟩) } 0x6011 (cm 0x15 []); let c := cm 0x15 []; s.startable c 0x6011 = true ∧ c.target = 0x15 ∧ s.md = .commission ∧ s.disc.ran = true ∧ s.flag R.DISC_STATUS_BUSY = false ∧ (∀ n, n ∈ discItems → s.itemStatus n ≠ 3) ∧ s.mramWorn 0x6011 = false) ∧
    (let s : State := fly (up 4) 0x6011 (cm 0x15 []); let c := cm 0x15 []; s.startable c 0x6011 = true ∧ c.target = 0x15 ∧ s.md = .commission ∧ (s.disc.ran = false ∨ s.mramWorn 0x6011 = true)) := by
  and_intros <;> decide +kernel

/-- Master 0's window on ring (`kind`, `i`), which is `r`. -/
def sel (kind i : Nat) (r : Ring) : State := (((up 5).put (R.RING_SEL_KIND 0) kind).put (R.RING_SEL_INDEX 0) i).setRing 0 kind i r

theorem test_meets_RingSetUp :
    (let w := Writer.hostA; let m := 1; let v : Word := 5; let s : State := up 5; w.master ≠ some m ∧ w ≠ .service) ∧
    (let s : State := up 5; let m := 2; let v : Word := 5; let w := Writer.tap; s.running = true) ∧
    (let w := Writer.hostA; let m := 0; let v : Word := 0x3F; let s : State := sel 0 15 Ring.init; w.master = some m ∧ s.md.fromDiscover = true) ∧
    (let w := Writer.hostA; let m := 0; let v : Word := 5; let s : State := ((up 5).put (R.RING_SEL_KIND 0) 2).put (R.RING_SEL_INDEX 0) 15; w.master = some m ∧ s.selected m = none) ∧
    (let w := Writer.hostA; let m := 0; let kind := 0; let i := 15; let v : Word := 0x8000000C; let s : State := sel 0 15 Ring.init; w.master = some m ∧ s.md.fromDiscover = true ∧ s.selected m = some (kind, i) ∧ (s.ring m kind i).en = false ∧ bitOf v 31 = true ∧ 4 ≤ bitsOf v 3 0 ∧ bitsOf v 3 0 ≤ 12) ∧
    (let w := Writer.hostA; let m := 0; let kind := 1; let i := 15; let v : Word := 0x80000004; let s : State := sel 1 15 Ring.init; w.master = some m ∧ s.md.fromDiscover = true ∧ s.selected m = some (kind, i) ∧ (s.ring m kind i).en = false ∧ bitOf v 31 = true ∧ 4 ≤ bitsOf v 3 0 ∧ bitsOf v 3 0 ≤ 12) ∧
    (let w := Writer.hostA; let m := 0; let kind := 3; let i := 7; let v : Word := 0x80020004; let s : State := sel 3 7 { Ring.init with cfg := 0x80000004 }; w.master = some m ∧ s.md.fromDiscover = true ∧ s.selected m = some (kind, i) ∧ (s.ring m kind i).en = true ∧ (v &&& cfgLocked) = ((s.ring m kind i).cfg &&& cfgLocked)) ∧
    (let w := Writer.hostA; let m := 0; let kind := 0; let i := 15; let v : Word := 0x80000005; let s : State := sel 0 15 { Ring.init with cfg := 0x80000004 }; w.master = some m ∧ s.md.fromDiscover = true ∧ s.selected m = some (kind, i) ∧ kind ≠ 1 ∧ (s.ring m kind i).en = true ∧ (v &&& cfgLocked) ≠ ((s.ring m kind i).cfg &&& cfgLocked)) ∧
    (let w := Writer.hostA; let m := 0; let i := 15; let v : Word := 0x80000005; let s : State := sel 1 15 { Ring.init with cfg := 0x80000004 }; w.master = some m ∧ s.md.fromDiscover = true ∧ s.selected m = some (1, i) ∧ (s.ring m 1 i).en = true ∧ (v &&& cfgLocked) ≠ ((s.ring m 1 i).cfg &&& cfgLocked)) ∧
    (let w := Writer.hostA; let m := 0; let kind := 2; let i := 3; let v : Word := 0x80000003; let s : State := sel 2 3 Ring.init; w.master = some m ∧ s.md.fromDiscover = true ∧ s.selected m = some (kind, i) ∧ kind ≠ 1 ∧ (s.ring m kind i).en = false ∧ bitOf v 31 = true ∧ (bitsOf v 3 0 < 4 ∨ 12 < bitsOf v 3 0)) ∧
    (let w := Writer.hostA; let m := 0; let kind := 0; let i := 15; let v : Word := 1; let s : State := sel 0 15 Ring.init; w.master = some m ∧ s.md.fromDiscover = true ∧ s.selected m = some (kind, i) ∧ bitOf v 0 = true ∧ (kind ≠ 1 ∨ s.cplBusy m i = false)) ∧
    (let w := Writer.hostA; let m := 0; let i := 15; let v : Word := 1; let s : State := (sel 1 15 Ring.init).setRing 0 0 0 { Ring.init with cfg := 0x8F000004 }; w.master = some m ∧ s.md.fromDiscover = true ∧ s.selected m = some (1, i) ∧ bitOf v 0 = true ∧ s.cplBusy m i = true) := by
  and_intros <;> decide +kernel

theorem test_meets_Doorbells :
    (let w := Writer.hostA; let m := 1; let k := 0; let v : Word := 1; let s : State := up 5; w.master ≠ some m ∧ w ≠ .service) ∧
    (let w := Writer.hostA; let m := 0; let k := 0; let v : Word := 1; let s : State := up 5; s.running = true) ∧
    (let w := Writer.hostA; let m := 0; let v : Word := 1; let s : State := up 5; let k := 16; w ≠ .service ∧ 16 ≤ k) ∧
    (let w := Writer.hostA; let m := 0; let v : Word := 1; let s : State := up 5; let k := 4; w ≠ .service ∧ 4 ≤ k) ∧
    (let w := Writer.hostA; let m := 0; let v : Word := 1; let s : State := up 5; let k := 8; w ≠ .service ∧ 8 ≤ k) ∧
    (let w := Writer.hostA; let m := 0; let k := 0; let v : Word := 1; let s : State := pw .reset; s.running = false) ∧
    (let w := Writer.hostA; let m := 0; let s : State := up 5; let k := 15; let v : Word := 16; s.running = true ∧ w.master = some m ∧ k < 16 ∧ (bitsOf v 15 0 + 65536 - (s.ring m 0 k).elx) % 65536 ≤ (s.ring m 0 k).size) ∧
    (let w := Writer.hostA; let m := 0; let s : State := up 5; let k := 15; let v : Word := 17; s.running = true ∧ w.master = some m ∧ k < 16 ∧ (s.ring m 0 k).size < (bitsOf v 15 0 + 65536 - (s.ring m 0 k).elx) % 65536) ∧
    (let w := Writer.hostA; let m := 0; let s : State := up 5; let k := 7; let v : Word := 0xFFF0; s.running = true ∧ w.master = some m ∧ k < 8 ∧ ((s.ring m 3 k).elx + 65536 - bitsOf v 15 0) % 65536 ≤ (s.ring m 3 k).size) ∧
    (let w := Writer.hostA; let m := 0; let s : State := up 5; let k := 7; let v : Word := 0xFFEF; s.running = true ∧ w.master = some m ∧ k < 8 ∧ (s.ring m 3 k).size < ((s.ring m 3 k).elx + 65536 - bitsOf v 15 0) % 65536) ∧
    (let w := Writer.hostA; let m := 0; let s : State := up 5; let k := 3; let v : Word := 0xFFF0; s.running = true ∧ w.master = some m ∧ k < 4 ∧ ((s.ring m 2 k).elx + 65536 - bitsOf v 15 0) % 65536 ≤ (s.ring m 2 k).size ∧ (s.ring m 2 k).drops = 0) ∧
    (let w := Writer.hostA; let m := 0; let s : State := up 5; let k := 3; let v : Word := 0xFFEF; s.running = true ∧ w.master = some m ∧ k < 4 ∧ (s.ring m 2 k).size < ((s.ring m 2 k).elx + 65536 - bitsOf v 15 0) % 65536) ∧
    (let w := Writer.hostA; let m := 0; let s : State := up 5; let k := 15; let v : Word := 0xFFF0; s.running = true ∧ w.master = some m ∧ k < 16 ∧ ((s.ring m 1 k).elx + 65536 - bitsOf v 15 0) % 65536 ≤ (s.ring m 1 k).size) ∧
    (let w := Writer.hostA; let m := 0; let s : State := up 5; let k := 15; let v : Word := 0xFFEF; s.running = true ∧ w.master = some m ∧ k < 16 ∧ (s.ring m 1 k).size < ((s.ring m 1 k).elx + 65536 - bitsOf v 15 0) % 65536) := by
  and_intros <;> decide +kernel

/-- The Steward cluster's command ring 0 with one descriptor read out. -/
def rd1 (s : State) (cfg : Word) : State :=
  { s.setRing 2 0 0 { Ring.init with cfg := cfg, mst := 3 } with host.reads := [⟨2, 0, 0, 1⟩] }

/-- A descriptor with these first eight bytes, HOST_ADDR 0 and zero payload. -/
def desc8 (b : List Byte) : List Byte := b ++ List.replicate (64 - b.length) 0

theorem test_meets_DescriptorsFetchedAndChecked :
    (let s : State := up 5; (∀ g, g < 48 → s.fetchCount (g / 16) (g % 16) = 0)) ∧
    (let s : State := (up 5).setRing 2 0 0 { Ring.init with cfg := 0x80000004, mst := 16 }; let g := 32; g < 48 ∧ 0 < s.fetchCount (g / 16) (g % 16)) ∧
    (let s : State := up 5; let data : Option (List Byte) := none; let p : List (Option (List Byte)) := []; s.host.reads = []) ∧
    (let f := Fetch.mk 2 0 0 1; let rest : List Fetch := []; let p : List (Option (List Byte)) := []; let s : State := rd1 (up 5) 0x80000004; s.host.reads = f :: rest ∧ (s.ring f.master 0 f.ring).run = true) ∧
    (let f := Fetch.mk 2 0 0 1; let rest : List Fetch := []; let p : List (Option (List Byte)) := []; let data : Option (List Byte) := none; let s : State := rd1 (up 5) 4; s.host.reads = f :: rest ∧ (s.ring f.master 0 f.ring).run = false) ∧
    (let f := Fetch.mk 2 0 0 1; let rest : List Fetch := []; let p : List (Option (List Byte)) := []; let bs : List Byte := desc8 [0, 0, 0, 2]; let s : State := rd1 (up 5) 0x80000004; let v1 := (s.ring f.master 0 f.ring).v1; let d := Desc.ofBytes (bs.take (if v1 then 32 else 64)); s.host.reads = f :: rest ∧ f.count = 1 ∧ (s.ring f.master 0 f.ring).run = true ∧ 512 ≤ d.tagWord) ∧
    (let f := Fetch.mk 2 0 0 1; let rest : List Fetch := []; let p : List (Option (List Byte)) := []; let bs : List Byte := desc8 [0, 0, 2, 0, 1, 0, 16, 0]; let s : State := rd1 (up 5) 0x80010004; let v1 := (s.ring f.master 0 f.ring).v1; let d := Desc.ofBytes (bs.take (if v1 then 32 else 64)); s.host.reads = f :: rest ∧ f.count = 1 ∧ (s.ring f.master 0 f.ring).run = true ∧ s.check1 f.master v1 d = none ∧ check2 v1 d = false) ∧
    (let f := Fetch.mk 2 0 0 1; let rest : List Fetch := []; let p : List (Option (List Byte)) := []; let bs : List Byte := desc8 [1, 1, 2, 0, 1, 0, 16, 0]; let s : State := rd1 ((up 5).put R.OWN_STATUS_OWNER 0) 0x80000004; let v1 := (s.ring f.master 0 f.ring).v1; let d := Desc.ofBytes (bs.take (if v1 then 32 else 64)); s.host.reads = f :: rest ∧ f.count = 1 ∧ (s.ring f.master 0 f.ring).run = true ∧ s.check1 f.master v1 d = none ∧ check2 v1 d = true ∧ s.check3 f.master d = false) ∧
    (let f := Fetch.mk 2 0 0 1; let rest : List Fetch := []; let p : List (Option (List Byte)) := []; let bs : List Byte := desc8 [3, 16, 2, 0, 5, 130, 16, 0]; let s : State := rd1 ({ up 5 with part := .elx9430 }.put R.OWN_STATUS_OWNER 2) 0x80000004; let v1 := (s.ring f.master 0 f.ring).v1; let d := Desc.ofBytes (bs.take (if v1 then 32 else 64)); s.host.reads = f :: rest ∧ f.count = 1 ∧ (s.ring f.master 0 f.ring).run = true ∧ s.check1 f.master v1 d = none ∧ check2 v1 d = true ∧ s.check3 f.master d = true ∧ s.check4 d = false) ∧
    (let f := Fetch.mk 2 0 0 1; let rest : List Fetch := []; let p : List (Option (List Byte)) := []; let bs : List Byte := desc8 [4, 16, 2, 0, 1, 128, 16, 0]; let s : State := rd1 ((up 11).put R.OWN_STATUS_OWNER 2) 0x80000004; let v1 := (s.ring f.master 0 f.ring).v1; let d := Desc.ofBytes (bs.take (if v1 then 32 else 64)); s.host.reads = f :: rest ∧ f.count = 1 ∧ (s.ring f.master 0 f.ring).run = true ∧ s.check1 f.master v1 d = none ∧ check2 v1 d = true ∧ s.check3 f.master d = true ∧ s.check4 d = true ∧ d.ind = false ∧ s.check6 d = false) ∧
    (let f := Fetch.mk 2 0 0 1; let rest : List Fetch := []; let p : List (Option (List Byte)) := [some (List.replicate 16 1)]; let bs : List Byte := desc8 [4, 16, 2, 0, 9, 128, 16, 0]; let s : State := rd1 ((up 6).put R.OWN_STATUS_OWNER 2) 0x80000004; let v1 := (s.ring f.master 0 f.ring).v1; let d := Desc.ofBytes (bs.take (if v1 then 32 else 64)); s.host.reads = f :: rest ∧ f.count = 1 ∧ (s.ring f.master 0 f.ring).run = true ∧ s.check1 f.master v1 d = none ∧ check2 v1 d = true ∧ s.check3 f.master d = true ∧ s.check4 d = true ∧ d.ind = true) ∧
    (let f := Fetch.mk 2 0 0 1; let rest : List Fetch := []; let p : List (Option (List Byte)) := []; let bs : List Byte := desc8 [1, 1, 2, 0, 1, 0, 16, 0]; let s : State := rd1 ((up 5).put R.OWN_STATUS_OWNER 2) 0x80000004; let v1 := (s.ring f.master 0 f.ring).v1; let d := Desc.ofBytes (bs.take (if v1 then 32 else 64)); s.host.reads = f :: rest ∧ f.count = 1 ∧ (s.ring f.master 0 f.ring).run = true ∧ s.check1 f.master v1 d = none ∧ check2 v1 d = true ∧ s.check3 f.master d = true ∧ s.check4 d = true ∧ d.ind = false ∧ s.check6 d = true) := by
  and_intros <;> decide +kernel

theorem test_meets_ResultsAndCompletions :
    (let s : State := up 5; s.host.results = []) ∧
    (let s : State := { up 5 with host.results := [res0], host.intake := [(0, List.replicate 31 res0)], host.ops := [op0] }; let r := res0; let rest : List Result := []; s.host.results = r :: rest ∧ (Sparse.get (always []) s.host.intake r.gallery).length < 32 ∧ (∀ o, s.opOf r.master r.tag = some o → o.stalls = [])) ∧
    (let s : State := { up 5 with host.results := [res0], host.intake := [(0, List.replicate 32 res0)], host.ops := [op0] }; let r := res0; let rest : List Result := []; s.host.results = r :: rest ∧ 32 ≤ (Sparse.get (always []) s.host.intake r.gallery).length ∧ (∀ o, s.opOf r.master r.tag = some o → o.stalls = [])) ∧
    (let s : State := up 5; (∀ g, g < 5 → Sparse.get (always []) s.host.intake g = []) ∧ s.host.pendingSlots = []) ∧
    (let s : State := { up 5 with host.pendingSlots := [res0] }; let r := res0; (∀ g, g < 5 → Sparse.get (always []) s.host.intake g = []) ∧ s.host.pendingSlots = [r]) ∧
    (let s : State := { up 5 with host.intake := [(4, [res0])] }; let g : Nat := 4; let r := res0; let rest : List Result := []; g < 5 ∧ Sparse.get (always []) s.host.intake g = r :: rest ∧ (∀ g', g' < 5 → g' ≠ g → Sparse.get (always []) s.host.intake g' = [])) ∧
    (let s : State := { up 5 with host.ops := [op0] }; let r := res0; let o := op0; s.opOf r.master r.tag = some o ∧ s.host.events = [] ∧ s.linkUp r.master = false) ∧
    (let s : State := { ((up 5).put R.LINK_STATUS_PCIE_A_GEN 4).setRing 0 1 0 { Ring.init with cfg := 0x80000004, elx := 15 } with host.ops := [op0] }; let r := res0; let o := op0; s.opOf r.master r.tag = some o ∧ s.linkUp r.master = true ∧ (s.ring r.master 1 (s.cplOf o)).run = true ∧ (s.ring r.master 1 (s.cplOf o)).used < (s.ring r.master 1 (s.cplOf o)).size) ∧
    (let r := res0; let s : State := up 5; let k : Nat := 15; let ph := true; (cplBytes r k ph).length = 16) ∧
    (let s : State := { up 5 with host.ops := [op0], atime := 2000 }; let o := op0; let m : Nat := 0; let tag : Nat := 7; s.opOf m tag = some o ∧ o.cls = 1 ∧ o.done = false ∧ 2000 ≤ s.since o.start) ∧
    (let s : State := { up 5 with host.ops := [op0], atime := 1999 }; let o := op0; let m : Nat := 0; let tag : Nat := 7; s.opOf m tag = some o ∧ (o.cls ≠ 1 ∨ o.done = true ∨ s.since o.start < 2000)) ∧
    (let s : State := { up 5 with host.ops := [{ op0 with cls := 2 }], atime := 10000 }; let o : Op := { op0 with cls := 2 }; let m : Nat := 0; let tag : Nat := 7; let pm : Nat := 1; let b : Nat := 2; s.opOf m tag = some o ∧ o.cls = 2 ∧ o.done = false ∧ 10000 ≤ s.since o.reported) ∧
    (let s : State := { up 5 with host.ops := [{ op0 with cls := 2 }], atime := 9999 }; let o : Op := { op0 with cls := 2 }; let m : Nat := 0; let tag : Nat := 7; let pm : Nat := 1; let b : Nat := 2; s.opOf m tag = some o ∧ (o.cls ≠ 2 ∨ o.done = true ∨ s.since o.reported < 10000)) ∧
    (let s : State := { (up 5).setRing 0 1 0 { Ring.init with cfg := 0x80000004, elx := 16, fullAt := some 0 } with host.ops := [op0], host.held := [res0], atime := 100000 }; let m : Nat := 0; let k : Nat := 0; let t0 : Time := 0; (s.ring m 1 k).fullAt = some t0 ∧ 100000 ≤ s.since t0 ∧ (s.ring m 1 k).run = true ∧ (s.ring m 1 k).size ≤ (s.ring m 1 k).used ∧ s.heldFor m k ≠ []) ∧
    (let s : State := up 5; let m : Nat := 0; let k : Nat := 15; (s.ring m 1 k).fullAt = none) := by
  and_intros <;> decide +kernel

theorem test_meets_EventsInterruptsTelemetry :
    (let s : State := up 5; s.host.events = []) ∧
    (let s : State := { up 5 with host.events := [ev0] }; let e := ev0; let rest : List Event := []; s.host.events = e :: rest) ∧
    (let s : State := { (up 5).setRing 1 3 7 { Ring.init with cfg := 0x80020004, unsig := 1, irq := 0x10005 } with atime := 5 }; let m : Nat := 1; let k : Nat := 7; let kind : Nat := 3; (s.ring m kind k).irqEn = true ∧ 0 < (s.ring m kind k).unsig ∧ bitsOf (s.ring m kind k).irq 15 0 ≠ 0 ∧ m < 2 ∧ bitsOf (s.ring m kind k).irq 15 0 ≤ s.since (s.ring m kind k).unsigAt ∧ Sparse.get (always false) s.host.msixOpen (64 * m + (s.ring m kind k).vec) = false) ∧
    (let s : State := { (up 5).setRing 2 3 7 { Ring.init with cfg := 0x80020004, unsig := 1, irq := 0x10005 } with atime := 5 }; let m : Nat := 2; let k : Nat := 7; let kind : Nat := 3; (s.ring m kind k).irqEn = true ∧ 0 < (s.ring m kind k).unsig ∧ bitsOf (s.ring m kind k).irq 15 0 ≠ 0 ∧ bitsOf (s.ring m kind k).irq 15 0 ≤ s.since (s.ring m kind k).unsigAt ∧ (2 ≤ m ∨ Sparse.get (always false) s.host.msixOpen (64 * m + (s.ring m kind k).vec) = true)) ∧
    (let s : State := up 5; let m : Nat := 2; let k : Nat := 7; let kind : Nat := 3; (s.ring m kind k).unsig = 0) ∧
    (let s : State := fly (up 5) 0x0110 (cm 0 ([7, 16] ++ List.replicate 32 1)); let c := cm 0 ([7, 16] ++ List.replicate 32 1); s.startable c 0x0110 = true ∧ s.md.fromDiscover = true ∧ arg c 16 1 < 8 ∧ 1 ≤ arg c 17 1 ∧ arg c 17 1 ≤ 16 ∧ 2 + 2 * arg c 17 1 ≤ c.payload.length ∧ (s.ring c.master 3 (arg c 16 1)).en = false ∧ (∀ p, p ∈ tlmSignals c (arg c 17 1) → p ≤ 511)) ∧
    (let s : State := fly ((up 5).setRing 0 3 7 { Ring.init with cfg := 0x80000004 }) 0x0110 (cm 0 [7, 1, 0, 0]); let c := cm 0 [7, 1, 0, 0]; s.startable c 0x0110 = true ∧ s.md.fromDiscover = true ∧ (s.ring c.master 3 (arg c 16 1)).en = true) ∧
    (let s : State := { ((up 5).setRing 2 3 7 { Ring.init with tlm := 1 }).setStream 2 7 { Machine.Stream.init with stall := some 9, used := 8 } with atime := 100 }; let m : Nat := 2; let k : Nat := 7; let n : Nat := 9; (s.ring m 3 k).tlmFlush ≠ 0 ∧ (s.stream m k).stall = some n ∧ (s.stream m k).used ≠ 0 ∧ 100 * (s.ring m 3 k).tlmFlush ≤ s.since (s.stream m k).firstAt) ∧
    (let s : State := up 5; let m : Nat := 2; let k : Nat := 7; ((s.stream m k).used = 0 ∨ s.since (s.stream m k).firstAt < 100 * (s.ring m 3 k).tlmFlush)) ∧
    (let s : State := up 5; let m : Nat := 2; let k : Nat := 7; (s.stream m k).full = []) ∧
    (let s : State := { ((up 5).setRing 2 3 7 { Ring.init with cfg := 0x80000004 }).setStream 2 7 { Machine.Stream.init with full := [0] } with mkt.queues := [(31, [(false, 8, 3)])] }; let m : Nat := 2; let k : Nat := 7; let rest : List Time := []; let h : Bool × Nat × Nat := (false, 8, 3); let left : List (Bool × Nat × Nat) := []; let at_ : Time := 0; let u : State := { s.setStream m k { s.stream m k with full := rest } with mkt.queues := Sparse.set (always []) s.mkt.queues (tlmChan m k) left }; let bs : List Byte := [0,0,0,0,0,0,0,0]; (s.stream m k).full = at_ :: rest ∧ Sparse.get (always []) s.mkt.queues (tlmChan m k) = h :: left ∧ (s.ring m 3 k).run = true ∧ (s.ring m 3 k).full = false ∧ s.linkUp m = true ∧ ({ s.setStream m k { s.stream m k with full := rest } with mkt.queues := Sparse.set (always []) s.mkt.queues (tlmChan m k) left }).readStall h.2.2 h.2.1 = (u, some bs)) := by
  and_intros <;> decide +kernel

theorem test_meets_ClaimsAndWindow :
    (let c := cm 0 [15, 0, 0, 0, 1, 0, 0, 0]; let s : State := fly ((up 5).put R.OWN_STATUS_STATE 2) 0x0200 c; s.startable c 0x0200 = true ∧ c.target = 0 ∧ s.md.fromDiscover = true) ∧
    (let c := cm 0 [15, 0, 0, 0, 1, 0, 0, 0]; let s : State := fly ((up 5).put R.OWN_STATUS_STATE 4) 0x0201 c; s.startable c 0x0201 = true ∧ c.target = 0 ∧ s.md.fromDiscover = true ∧ 8 ≤ c.payload.length ∧ arg c 16 1 ≤ 15 ∧ c.master < 2 ∧ (s.get R.OWN_STATUS_STATE = 0 ∨ s.get R.OWN_STATUS_STATE = 4)) ∧
    (let c := cm 0 [15, 0, 0, 0, 1, 0, 0, 0]; let s : State := fly { (up 5).put R.OWN_STATUS_STATE 1 with own.claims := [⟨0, 9, 1, 3, false⟩] } 0x0201 c; s.startable c 0x0201 = true ∧ c.target = 0 ∧ s.md.fromDiscover = true ∧ 8 ≤ c.payload.length ∧ arg c 16 1 ≤ 15 ∧ c.master < 2 ∧ s.get R.OWN_STATUS_STATE = 1 ∧ s.own.barred ≠ some c.master) ∧
    (let c := cm 0 [15, 0, 0, 0, 1, 0, 0, 0]; let s : State := fly ((up 5).put R.OWN_STATUS_STATE 2) 0x0201 c; s.startable c 0x0201 = true ∧ c.target = 0 ∧ s.md.fromDiscover = true ∧ 8 ≤ c.payload.length ∧ arg c 16 1 ≤ 15 ∧ c.master < 2 ∧ s.get R.OWN_STATUS_STATE = 2) ∧
    (let c := cm 0 [15, 0, 0, 0, 1, 0, 0, 0]; let s : State := fly ((up 5).put R.OWN_STATUS_STATE 3) 0x0201 c; s.startable c 0x0201 = true ∧ c.target = 0 ∧ s.md.fromDiscover = true ∧ 8 ≤ c.payload.length ∧ arg c 16 1 ≤ 15 ∧ c.master < 2 ∧ s.get R.OWN_STATUS_STATE = 3) ∧
    (let c := { cm 0 [15, 0, 0, 0, 1, 0, 0, 0] with master := 2 }; let s : State := fly ((up 5).put R.OWN_STATUS_STATE 2) 0x0201 c; s.startable c 0x0201 = true ∧ c.target = 0 ∧ s.md.fromDiscover = true ∧ c.master = 2) ∧
    (let s : State := (up 5).put R.OWN_STATUS_STATE 2; s.get R.OWN_STATUS_STATE ≠ 1) ∧
    (let s : State := (up 5).put R.OWN_STATUS_STATE 1; s.get R.OWN_STATUS_STATE = 1 ∧ s.own.claims = []) ∧
    (let s : State := { (up 5).put R.OWN_STATUS_STATE 1 with own.claims := [⟨1, 7, 15, 3, false⟩] }; let x : Claim := ⟨1, 7, 15, 3, false⟩; s.get R.OWN_STATUS_STATE = 1 ∧ s.own.claims = [x] ∧ x.replaced = false ∧ x.master < 2 ∧ x.prio ≤ 15) ∧
    (let a : Claim := ⟨0, 7, 3, 1, false⟩; let b : Claim := ⟨1, 8, 3, 1, false⟩; let s : State := { (up 5).put R.OWN_STATUS_STATE 1 with own.claims := [a, b] }; s.get R.OWN_STATUS_STATE = 1 ∧ s.own.claims = [a, b] ∧ a.replaced = false ∧ b.replaced = false ∧ a.master < 2 ∧ b.master < 2) ∧
    (let a : Claim := ⟨0, 7, 3, 1, false⟩; let b : Claim := ⟨1, 8, 4, 1, false⟩; a.prio < b.prio) ∧
    (let a : Claim := ⟨1, 7, 4, 1, false⟩; let b : Claim := ⟨0, 8, 3, 1, false⟩; b.prio < a.prio) ∧
    (let a : Claim := ⟨0, 7, 4, 1, false⟩; let b : Claim := ⟨0, 8, 4, 1, false⟩; a.prio = b.prio ∧ a.master ≤ b.master) ∧
    (let a : Claim := ⟨1, 7, 4, 1, false⟩; let b : Claim := ⟨0, 8, 4, 1, false⟩; a.prio = b.prio ∧ b.master < a.master) := by
  and_intros <;> decide +kernel

/-- STATE, OWNER and SUCCESSOR of the ownership block. -/
def owns (st owner succ : Nat) : State := (((up 5).put R.OWN_STATUS_STATE st).put R.OWN_STATUS_OWNER owner).put R.OWN_STATUS_SUCCESSOR succ

theorem test_meets_OwnershipHandOver :
    (let c := cm 0 [2, 0, 0, 0, 1, 0, 0, 0]; let s : State := fly (owns 2 2 0) 0x0202 c; s.startable c 0x0202 = true ∧ c.target = 0 ∧ s.md.fromDiscover = true ∧ s.get R.OWN_STATUS_STATE ≠ 3 ∧ 8 ≤ c.payload.length ∧ c.master < 2 ∧ arg c 16 1 ≤ 2 ∧ arg c 16 1 ≠ c.master ∧ s.linkUp (arg c 16 1) = true ∧ c.master ≠ s.owner) ∧
    (let c := cm 0 [2, 0, 0, 0, 1, 0, 0, 0]; let s : State := fly (owns 2 0 0) 0x0202 c; s.startable c 0x0202 = true ∧ c.target = 0 ∧ s.md.fromDiscover = true ∧ s.get R.OWN_STATUS_STATE = 2 ∧ 8 ≤ c.payload.length ∧ c.master < 2 ∧ arg c 16 1 ≤ 2 ∧ arg c 16 1 ≠ c.master ∧ s.linkUp (arg c 16 1) = true ∧ c.master = s.owner ∧ (∀ o, o ∈ s.host.ops → o.cls ≠ 2)) ∧
    (let c := cm 0 [2, 0, 0, 0, 1, 0, 0, 0]; let s : State := fly { owns 3 1 0 with own.succNonce := 1 } 0x0203 c; s.startable c 0x0203 = true ∧ c.target = 0 ∧ s.md.fromDiscover = true ∧ s.get R.OWN_STATUS_STATE = 3 ∧ 8 ≤ c.payload.length ∧ c.master = s.get R.OWN_STATUS_SUCCESSOR ∧ (c.master = 2 ∨ arg c 20 4 = s.own.succNonce)) ∧
    (let c := cm 0 [2, 0, 0, 0, 1, 0, 0, 0]; let s : State := fly (owns 3 1 0) 0x0203 c; s.startable c 0x0203 = true ∧ c.target = 0 ∧ s.md.fromDiscover = true ∧ c.master ≠ 2 ∧ arg c 20 4 ≠ s.own.succNonce) ∧
    (let s : State := owns 2 0 0; (s.get R.OWN_STATUS_STATE ≠ 3 ∨ s.own.confirmed = false ∨ s.drained = false)) ∧
    (let k := 1; let s : State := { owns 3 0 1 with own.confirmed := true }; k < 2 ∧ s.get R.OWN_STATUS_STATE = 3 ∧ s.own.confirmed = true ∧ s.drained = true ∧ s.get R.OWN_STATUS_SUCCESSOR = k) ∧
    (let s : State := { owns 3 0 2 with own.confirmed := true }; s.get R.OWN_STATUS_STATE = 3 ∧ s.own.confirmed = true ∧ s.drained = true ∧ s.get R.OWN_STATUS_SUCCESSOR = 2) ∧
    (let s : State := { owns 3 0 2 with host.ops := [{ op0 with cls := 0 }] }; s.get R.OWN_STATUS_STATE = 3 ∧ s.get R.OWN_STATUS_SUCCESSOR = 2 ∧ s.drained = false) ∧
    (let s : State := owns 3 0 2; s.get R.OWN_STATUS_STATE = 3 ∧ s.get R.OWN_STATUS_SUCCESSOR = 2 ∧ s.drained = true) ∧
    (let s : State := owns 2 0 0; s.get R.OWN_STATUS_STATE ≠ 3) ∧
    (let s : State := { owns 3 0 1 with own.holds := true, atime := 2000 }; s.own.holds = true ∧ 2000 ≤ s.since s.own.handAt) ∧
    (let s : State := { owns 3 0 1 with own.holds := true, atime := 1999 }; (s.own.holds = false ∨ s.since s.own.handAt < 2000)) ∧
    (let s : State := { owns 3 0 1 with atime := 50000 }; s.get R.OWN_STATUS_STATE = 3 ∧ s.own.confirmed = false ∧ s.own.oldLost = false ∧ 50000 ≤ s.since s.own.handAt) ∧
    (let s : State := { owns 3 0 1 with own.oldLost := true, atime := 50000 }; s.get R.OWN_STATUS_STATE = 3 ∧ s.own.confirmed = false ∧ s.own.oldLost = true ∧ 50000 ≤ s.since s.own.handAt) ∧
    (let s : State := { owns 3 0 1 with atime := 49999 }; (s.own.confirmed = true ∨ s.since s.own.handAt < 50000)) := by
  and_intros <;> decide +kernel

theorem test_meets_HeartbeatAndItsLoss :
    (let w := Writer.hostB; let m := 1; let v : Word := 5; let s : State := up 5; m < 2 ∧ w.master = some m ∧ s.pwr.power = .run) ∧
    (let w := Writer.hostB; let m := 0; let v : Word := 5; let s : State := up 5; w ≠ .service ∧ (w.master ≠ some m ∨ 2 ≤ m)) ∧
    (let w := Writer.steward; let m := 2; let v : Word := 5; let s : State := up 5; w ≠ .service ∧ (w.master ≠ some m ∨ 2 ≤ m)) ∧
    (let m := 0; let v : Word := 5; let s : State := up 5; s.running = true) ∧
    (let s : State := { ((up 5).put R.OWN_STATUS_STATE 2).put R.OWN_STATUS_OWNER 1 with atime := 10000000 }; s.owner < 2 ∧ s.get R.OWN_STATUS_STATE = 2 ∧ s.own.oldLost = false ∧ 1000 * s.get R.OWN_CFG_HB_TIMEOUT ≤ s.since s.own.hbAt ∧ s.host.ops = []) ∧
    (let s : State := { ((up 5).put R.OWN_STATUS_STATE 3).put R.OWN_STATUS_OWNER 1 with atime := 10000000 }; s.owner < 2 ∧ s.get R.OWN_STATUS_STATE = 3 ∧ s.own.oldLost = false ∧ 1000 * s.get R.OWN_CFG_HB_TIMEOUT ≤ s.since s.own.hbAt ∧ s.host.ops = []) ∧
    (let s : State := up 5; s.since s.own.hbAt < 1000 * s.get R.OWN_CFG_HB_TIMEOUT) ∧
    (let s : State := (up 5).put R.OWN_STATUS_OWNER 2; 2 ≤ s.owner) := by
  and_intros <;> decide +kernel

theorem test_meets_SramAccesses :
    (let a := { acc 0x20200000 4 with who := .hostA }; let s : State := up 5; s.mayAccess a = false) ∧
    (let a := acc 0x1FFFFFFC 4; let s : State := up 5; s.mayAccess a = true ∧ inSram a.addr = false ∧ inMram a.addr = false) ∧
    (let a := acc 0x20000005 4; let s : State := up 5; s.mayAccess a = true ∧ (inSram a.addr = true ∨ inMram a.addr = true) ∧ 8 < a.addr % 8 + a.size) ∧
    (let a := acc 0x200FFFF8 8 true; let s : State := up 5; s.mayAccess a = true ∧ inSram a.addr = true ∧ a.addr % 8 + a.size ≤ 8 ∧ a.write = true ∧ a.addr < 0x20100000 ∧ (a.gallery ≠ none ∨ a.who.isWarden = false)) ∧
    (let s : State := (up 5).setBankState (bankOf 0x200000) 2; let a := acc 0x20200000 8; s.mayAccess a = true ∧ inSram a.addr = true ∧ a.addr % 8 + a.size ≤ 8 ∧ regionBad a = false ∧ s.bankState (bankOf (a.addr - sramBase)) = 2) ∧
    (let s : State := up 5; let a := acc 0x20200000 8 true; s.mayAccess a = true ∧ inSram a.addr = true ∧ a.addr % 8 = 0 ∧ a.size = 8 ∧ a.write = true ∧ a.other = none ∧ regionBad a = false ∧ s.bankState (bankOf (a.addr - sramBase)) ≠ 2) ∧
    (let s : State := { up 5 with mem.valid := [(0x40000, true)] }; let a := acc 0x20200004 4; s.mayAccess a = true ∧ inSram a.addr = true ∧ a.addr % 8 + a.size ≤ 8 ∧ a.write = false ∧ a.other = none ∧ s.bankState (bankOf (a.addr - sramBase)) ≠ 2 ∧ (s.upset (a.addr - sramBase) a.ecc).classAt (a.addr - sramBase) a.ecc.addr ≤ 2 ∧ (s.upset (a.addr - sramBase) a.ecc).flipsAt (a.addr - sramBase) = 0) ∧
    (let s : State := { up 5 with mem.valid := [(0x40000, true)] }; let a := { acc 0x20200004 4 with ecc := ⟨0, 0, 0, true⟩ }; s.mayAccess a = true ∧ inSram a.addr = true ∧ a.addr % 8 + a.size ≤ 8 ∧ a.write = false ∧ a.other = none ∧ s.bankState (bankOf (a.addr - sramBase)) ≠ 2 ∧ 3 ≤ (s.upset (a.addr - sramBase) a.ecc).classAt (a.addr - sramBase) a.ecc.addr) ∧
    (let s : State := up 5; let a := acc 0x420FFFF8 8; s.mayAccess a = true ∧ inMram a.addr = true ∧ a.addr % 8 + a.size ≤ 8 ∧ a.write = false ∧ s.mramFlipsAt a.addr = 0 ∧ a.ecc.flips = 0) ∧
    (let s : State := up 5; let a := acc 0x41FFFFF8 8 true; s.mayAccess a = true ∧ inMram a.addr = true ∧ a.addr % 8 + a.size ≤ 8 ∧ a.write = true ∧ a.addr < mramLog ∧ a.ecc.flips = 0 ∧ (a.gallery ≠ none ∨ a.who.isWarden = false)) ∧
    (let a := acc 0x1FFFFFFC 4; let s : State := up 5; s.mayAccess a = true ∧ a.portD = false ∧ a.gallery ≠ some 0 ∧ inSram a.addr = false) ∧
    (let a := acc 0x20200000 2; let s : State := up 5; s.mayAccess a = true ∧ a.portD = false ∧ a.gallery ≠ some 0 ∧ inSram a.addr = true ∧ a.size ≠ 4 ∧ a.size ≠ 8) ∧
    (let a := acc 0x200FFFF8 8; let s : State := up 5; s.mayAccess a = true ∧ a.portD = false ∧ a.gallery ≠ some 0 ∧ inSram a.addr = true ∧ (a.size = 4 ∨ a.size = 8) ∧ a.addr % a.size = 0 ∧ regionBad { a with write := true } = true) ∧
    (let a := { acc 0x20200000 8 with gallery := some 0, portD := true }; let s : State := up 5; (s.mayAccess a = false ∨ a.portD = true ∨ a.gallery = some 0)) := by
  and_intros <;> decide +kernel

/-- A check bit of a valid word that is wrong is corrected, whatever the columns drawn. -/
theorem test_corrected_SramAccesses :
    (let s : State := { up 5 with mem.valid := [(1, true)], mem.flips := [(1, 2 ^ 64)] }; let a := acc 0x2000000C 4; (s.upset (a.addr - sramBase) a.ecc).classAt (a.addr - sramBase) a.ecc.addr = 1 ∨ (s.upset (a.addr - sramBase) a.ecc).classAt (a.addr - sramBase) a.ecc.addr = 2) := by
  intro s a
  have ha : a.addr - sramBase = 12 := by decide
  have hu : s.upset 12 a.ecc = s := by simp [State.upset, a, acc]
  have h1 : s.parityAt 12 = false := by decide
  have h2 : s.wordValid 12 = true := by decide
  have h3 : s.synAt 12 0 = syndromeOf (2 ^ 64) 0 := rfl
  have h4 : a.ecc.addr = 0 := rfl
  rw [ha, hu, h4]
  unfold State.classAt
  rw [h1, h2, h3]
  exact checkBit_class

theorem test_meets_Atomics :
    (let a := acc 0x20200002 4; let s : State := up 5; s.mayAccess a = true ∧ a.portD = false ∧ a.gallery ≠ some 0 ∧ inSram a.addr = true ∧ (a.size = 4 ∨ a.size = 8) ∧ a.addr % a.size ≠ 0) ∧
    (let s : State := { up 5 with mem.valid := [(0x40000, true)], mem.sram := [(0x20200000, 7), (0x20200005, 9)] }; let a := acc 0x20200000 8; s.mayAccess a = true ∧ a.portD = false ∧ a.gallery ≠ some 0 ∧ inSram a.addr = true ∧ (a.size = 4 ∨ a.size = 8) ∧ a.addr % a.size = 0 ∧ regionBad { a with write := true } = false ∧ s.bankState (bankOf (a.addr - sramBase)) ≠ 2 ∧ a.other = none ∧ (s.upset (a.addr - sramBase) a.ecc).classAt (a.addr - sramBase) a.ecc.addr ≤ 2 ∧ (s.upset (a.addr - sramBase) a.ecc).flipsAt (a.addr - sramBase) = 0) ∧
    (let s : State := { up 5 with mem.valid := [(0x40000, true)], mem.sram := [(0x20200000, 7), (0x20200005, 9)] }; let a := acc 0x20200004 4; s.mayAccess a = true ∧ a.portD = false ∧ a.gallery ≠ some 0 ∧ inSram a.addr = true ∧ (a.size = 4 ∨ a.size = 8) ∧ a.addr % a.size = 0 ∧ regionBad { a with write := true } = false ∧ s.bankState (bankOf (a.addr - sramBase)) ≠ 2 ∧ a.other = none ∧ (s.upset (a.addr - sramBase) a.ecc).classAt (a.addr - sramBase) a.ecc.addr ≤ 2) ∧
    (let s : State := up 5; let a := acc 0x20200000 8; s.mayAccess a = true ∧ a.portD = false ∧ a.gallery ≠ some 0 ∧ inSram a.addr = true ∧ (a.size = 4 ∨ a.size = 8) ∧ a.addr % a.size = 0 ∧ regionBad { a with write := true } = false ∧ s.bankState (bankOf (a.addr - sramBase)) ≠ 2 ∧ a.other = none ∧ s.wordValid (a.addr - sramBase) = false ∧ s.readNat (a.addr / 8 * 8) 8 = 0 ∧ (s.upset (a.addr - sramBase) a.ecc).parityAt (a.addr - sramBase) = false) ∧
    (let s : State := { up 5 with mem.valid := [(0x40000, true)] }; let a := { acc 0x20200000 4 with ecc := ⟨0, 0, 0, true⟩ }; s.mayAccess a = true ∧ a.portD = false ∧ a.gallery ≠ some 0 ∧ inSram a.addr = true ∧ (a.size = 4 ∨ a.size = 8) ∧ a.addr % a.size = 0 ∧ regionBad { a with write := true } = false ∧ s.bankState (bankOf (a.addr - sramBase)) ≠ 2 ∧ a.other = none ∧ 3 ≤ (s.upset (a.addr - sramBase) a.ecc).classAt (a.addr - sramBase) a.ecc.addr) := by
  and_intros <;> decide +kernel

theorem test_meets_MarketStalls :
    (let s : State := up 5; let ch := 57; mktPresent s.part ch = false) ∧
    (let s : State := (up 5).wr (R.MKT_CH_QUOTA 32) 0; let ch := 32; s.running = true ∧ mktPresent s.part ch = true ∧ s.ceilOf ch ≤ s.held ch) ∧
    (let s : State := (up 5).wr (R.MKT_CH_QUOTA 9) 0; let ch := 9; s.running = true ∧ mktPresent s.part ch = true ∧ s.ceilOf ch ≤ s.held ch) ∧
    (let s : State := (up 5).wr (R.MKT_CH_QUOTA 0) 0x10001; let ch := 0; let n := 0; s.running = true ∧ mktPresent s.part ch = true ∧ s.held ch < s.minOf ch ∧ s.held ch < s.ceilOf ch ∧ s.nextStall = some n) ∧
    (let s : State := { (up 5).put (R.MKT_CH_STAT_HELD 0) 1 with mkt.owner := [(5, some 0)] }; let ch := 0; let n := 5; s.running = true ∧ mktPresent s.part ch = true ∧ Sparse.get (always none) s.mkt.owner (n % 4096) = some ch ∧ 1 ≤ s.held ch) ∧
    (let s : State := up 5; let ch := 0; let n := 0; s.running = true ∧ mktPresent s.part ch = true ∧ Sparse.get (always none) s.mkt.owner (n % 4096) ≠ some ch) ∧
    (let s : State := (up 5).put R.OWN_STATUS_OWNER 0; let ch := 0; let v : Word := 0x1001; s.running = true ∧ mktPresent s.part ch = true ∧ s.owner = 0 ∧ (4096 < bitsOf v 28 16 ∨ 4096 < bitsOf v 12 0 ∨ bitsOf v 12 0 < bitsOf v 28 16)) ∧
    (let s : State := (up 5).put R.OWN_STATUS_OWNER 0; let ch := 0; let v : Word := 0x11000; s.running = true ∧ mktPresent s.part ch = true ∧ s.owner = 0 ∧ bitsOf v 28 16 ≤ bitsOf v 12 0 ∧ bitsOf v 12 0 ≤ 4096 ∧ s.reserved - max (s.held ch) (s.minOf ch) + max (s.held ch) (bitsOf v 28 16) ≤ 4096) ∧
    (let s : State := (up 5).put R.OWN_STATUS_OWNER 2; let ch := 0; let v : Word := 5; s.owner = 2 ∧ (ch < 16 ∨ 24 ≤ ch) ∧ ch ≠ 1) := by
  and_intros <;> decide +kernel

theorem test_meets_BankPower :
    (let s : State := up 5; let k := 1; let v : Word := 0; let w := Writer.hostB; w ≠ .service ∧ (s.mayWrite w 0x06 = false ∨ 2 ≤ k)) ∧
    (let s : State := up 5; let k := 1; let v : Word := 0; s.running = true ∧ s.mayWrite .service 0x06 = false) ∧
    (let s : State := (up 5).setBankState 31 1; let k := 1; s.running = true ∧ k < 2) ∧
    (let s : State := up 5; let k := 1; let v : Word := 0x40000000; let j := 15; s.running = true ∧ k < 2 ∧ j < 16 ∧ bitsOf v (2 * j + 1) (2 * j) = 1) ∧
    (let s : State := up 5; let k := 1; let v : Word := 0x80000000; let j := 15; s.running = true ∧ k < 2 ∧ j < 16 ∧ 2 ≤ bitsOf v (2 * j + 1) (2 * j)) ∧
    (let s : State := (up 5).put (R.STORE_BANK_PWR_REQ 1 15) 1; let b := 31; s.running = true ∧ b < 32 ∧ s.get (R.STORE_BANK_PWR_REQ (b / 16) (b % 16)) = 1 ∧ s.bankState b = 0) ∧
    (let s : State := (up 5).setBankState 31 2; let b := 31; (s.running = false ∨ s.bankState b ≠ 0)) := by
  and_intros <;> decide +kernel

theorem test_meets_ScrubRepairAndTests :
    (let s : State := up 5; s.running = true ∧ s.mem.flips = [] ∧ s.mem.parityBad = []) ∧
    (let s : State := up 5; s.store.prio = []) ∧
    (let s : State := { up 5 with store.tracker := [⟨8, 2, 0⟩], atime := 3600000000 }; let w := 12; s.running = true) ∧
    (let s : State := { up 5 with store.hard := [(0x7FFFF8, 1)] }; let w := 0x7FFFF8; let c := 1; s.running = true ∧ (w, c) ∈ s.store.hard ∧ w < 2 ^ 23 ∧ w % 8 = 0 ∧ s.get (R.STORE_SPARE_USED (bankOf w / 8) (bankOf w % 8)) < 8) ∧
    (let s : State := { (up 5).put (R.STORE_SPARE_USED 0 0) 8 with store.hard := [(0, 0)] }; let w := 0; let c := 0; s.running = true ∧ (w, c) ∈ s.store.hard ∧ w < 2 ^ 23 ∧ w % 8 = 0 ∧ 8 ≤ s.get (R.STORE_SPARE_USED (bankOf w / 8) (bankOf w % 8))) ∧
    (let s : State := up 5; let w := 0; let c := 0; s.store.hard = []) ∧
    (let s : State := up 5; s.running = true ∧ s.store.borrowed = none) ∧
    (let s : State := { (up 5).put R.STORE_BGT_STATUS_WINDOW 131070 with store.borrowed := some 131070 }; let w := 131070; let k := 7; s.running = true ∧ s.store.borrowed = some w ∧ k < 8 ∧ s.get R.STORE_BGT_STATUS_WINDOW < 131071) ∧
    (let s : State := { up 5 with store.borrowed := some (windowOf 0x200000), store.aborts := 6 }; let a := acc 0x20200000 8; s.mayAccess a = true ∧ a.portD = false ∧ inSram a.addr = true ∧ a.addr % 8 + a.size ≤ 8 ∧ regionBad a = false ∧ a.other = none ∧ s.bankState (bankOf (a.addr - sramBase)) ≠ 2 ∧ s.store.borrowed = some (windowOf (a.addr - sramBase)) ∧ s.store.aborts < 7) ∧
    (let s : State := up 5; let ad := 0x3FFFFFFF; let b := 0; inMram ad = false) ∧
    (let s : State := up 5; let ad := 0x420FFFFF; let f := 7; s.running = true ∧ inMram ad = true ∧ (s.mramUpset ad f).mramClass ad = 2) ∧
    (let s : State := up 5; let ad := 0x42000000; let f := 3; s.running = true ∧ inMram ad = true ∧ mramLog ≤ ad ∧ (s.mramUpset ad f).mramClass ad = 1) := by
  and_intros <;> decide +kernel

/-- A queued word with a wrong check bit is corrected, whatever the columns drawn. -/
theorem test_queued_ScrubRepairAndTests :
    (let s : State := { up 5 with store.prio := [8], mem.valid := [(1, true)], mem.flips := [(1, 2 ^ 64)], store.tracker := [⟨8, 2, 0⟩] }; let o := 8; let rest : List Nat := []; let t0 : Time := 0; s.store.prio = o :: rest ∧ o < 2 ^ 23 ∧ o % 8 = 0 ∧ (s.classAt o 0 = 1 ∨ s.classAt o 0 = 2) ∧ s.store.tracker = [⟨8, 2, t0⟩] ∧ s.since t0 < trackTime) ∧
    (let s : State := { up 5 with store.prio := [8], mem.valid := [(1, true)], mem.flips := [(1, 2 ^ 64)] }; let o := 8; let rest : List Nat := []; s.store.prio = o :: rest ∧ o < 2 ^ 23 ∧ o % 8 = 0 ∧ (s.classAt o 0 = 1 ∨ s.classAt o 0 = 2) ∧ s.store.tracker = []) := by
  exact ⟨⟨rfl, by decide, rfl, checkBit_class, rfl, by decide +kernel⟩, rfl, by decide, rfl, checkBit_class, rfl⟩

theorem test_meets_FloatInstructions :
    (let n := 7; let d := 31; let a := 30; let b := 29; let x := 0; let s : State := isa n 0x01 d a b x; Issuing s n 0x01 d a b x) ∧
    (let n := 7; let d := 31; let a := 30; let b := 29; let x := 0; let s : State := isa n 0x02 d a b x; Issuing s n 0x02 d a b x) ∧
    (let n := 7; let d := 31; let a := 30; let b := 29; let x := 0; let s : State := isa n 0x03 d a b x; Issuing s n 0x03 d a b x) ∧
    (let n := 7; let d := 31; let a := 30; let b := 29; let x := 0; let s : State := isa n 0x04 d a b x; Issuing s n 0x04 d a b x) ∧
    (let n := 7; let d := 31; let a := 30; let b := 29; let x := 0; let s : State := isa n 0x05 d a b x; Issuing s n 0x05 d a b x) ∧
    (let n := 7; let d := 31; let a := 30; let b := 29; let x := 0; let s : State := isa n 0x06 d a b x; Issuing s n 0x06 d a b x) ∧
    (let n := 7; let d := 31; let a := 30; let b := 29; let x := 0; let s : State := isa n 0x07 d a b x; Issuing s n 0x07 d a b x) ∧
    (let n := 7; let d := 31; let a := 30; let b := 29; let x := 0; let s : State := isa n 0x08 d a b x; Issuing s n 0x08 d a b x) ∧
    (let n := 7; let d := 31; let a := 30; let b := 29; let x := 0; let s : State := isa n 0x09 d a b x; Issuing s n 0x09 d a b x) ∧
    (let n := 7; let d := 31; let a := 30; let b := 29; let x := 0; let s : State := isa n 0x0E d a b x; Issuing s n 0x0E d a b x) ∧
    (let n := 7; let d := 31; let a := 30; let b := 29; let x := 0; let s : State := isa n 0x0F d a b x; Issuing s n 0x0F d a b x) ∧
    (let n := 7; let d := 31; let a := 15; let b := 29; let x := 0; let s : State := isa n 0x0C d a b x; Issuing s n 0x0C d a b x ∧ a < 16) ∧
    (let n := 7; let d := 31; let a := 30; let b := 29; let x := 15; let s : State := isa n 0x1A d a b x; Issuing s n 0x1A d a b x) ∧
    (let n := 7; let d := 31; let a := 30; let b := 29; let x := 511; let s : State := isa n 0x18 d a b x; Issuing s n 0x18 d a b x ∧ natBit x 9 = false ∧ natBit x 10 = false) ∧
    (let n := 7; let d := 31; let a := 16; let b := 29; let x := 0; let s : State := isa n 0x0C d a b x; 16 ≤ a ∧ Issuing s n 0x0C d a b x) ∧
    (let n := 7; let d := 31; let a := 15; let b := 29; let x := 0; let s : State := up 5; s.canIssue n = false) := 
  ⟨by unfold Issuing; decide +kernel, by unfold Issuing; decide +kernel, by unfold Issuing; decide +kernel,
    by unfold Issuing; decide +kernel, by unfold Issuing; decide +kernel, by unfold Issuing; decide +kernel,
    by unfold Issuing; decide +kernel, by unfold Issuing; decide +kernel, by unfold Issuing; decide +kernel,
    by unfold Issuing; decide +kernel, by unfold Issuing; decide +kernel, by unfold Issuing; decide +kernel,
    by unfold Issuing; decide +kernel, by unfold Issuing; decide +kernel, by unfold Issuing; decide +kernel, by decide +kernel⟩

theorem test_meets_IntegerInstructions :
    (let n := 7; let d := 15; let a := 14; let b := 13; let x := 31; let s : State := isa n 0x10 d a b x; d < 16 ∧ a < 16 ∧ b < 16 ∧ Issuing s n 0x10 d a b x) ∧
    (let n := 7; let d := 15; let a := 14; let b := 13; let x := 31; let s : State := isa n 0x11 d a b x; d < 16 ∧ a < 16 ∧ b < 16 ∧ Issuing s n 0x11 d a b x) ∧
    (let n := 7; let d := 15; let a := 14; let b := 13; let x := 31; let s : State := isa n 0x12 d a b x; d < 16 ∧ a < 16 ∧ b < 16 ∧ Issuing s n 0x12 d a b x) ∧
    (let n := 7; let d := 15; let a := 14; let b := 13; let x := 31; let s : State := isa n 0x13 d a b x; d < 16 ∧ a < 16 ∧ b < 16 ∧ Issuing s n 0x13 d a b x) ∧
    (let n := 7; let d := 15; let a := 14; let b := 13; let x := 31; let s : State := isa n 0x14 d a b x; d < 16 ∧ a < 16 ∧ b < 16 ∧ Issuing s n 0x14 d a b x) ∧
    (let n := 7; let d := 15; let a := 14; let b := 13; let x := 31; let s : State := isa n 0x15 d a b x; d < 16 ∧ a < 16 ∧ b < 16 ∧ Issuing s n 0x15 d a b x) ∧
    (let n := 7; let d := 15; let a := 14; let b := 13; let x := 31; let s : State := isa n 0x16 d a b x; d < 16 ∧ a < 16 ∧ b < 16 ∧ Issuing s n 0x16 d a b x) ∧
    (let n := 7; let d := 15; let a := 14; let b := 13; let x := 1024 + 511; let s : State := isa n 0x18 d a b x; d < 16 ∧ a < 16 ∧ b < 16 ∧ Issuing s n 0x18 d a b x ∧ natBit x 9 = false ∧ natBit x 10 = true) ∧
    (let n := 7; let d := 15; let a := 14; let b := 13; let x := 31; let s : State := isa n 0x0A d a b x; d < 16 ∧ Issuing s n 0x0A d a b x ∧ fCmp ((s.eng n).fr a) ((s.eng n).fr b) ≠ 2) ∧
    (let n := 7; let d := 15; let a := 14; let b := 13; let x := 31; let s : State := isa n 0x0A d a b x { Engine.init with f := [(14, 0x7FC00000)] }; d < 16 ∧ d ≠ 0 ∧ Issuing s n 0x0A d a b x ∧ fCmp ((s.eng n).fr a) ((s.eng n).fr b) = 2) ∧
    (let n := 7; let d := 15; let a := 14; let b := 13; let x := 31; let s : State := isa n 0x0B d a b x; d < 16 ∧ Issuing s n 0x0B d a b x ∧ fIsNaN ((s.eng n).fr a) = false) ∧
    (let n := 7; let d := 15; let a := 14; let b := 13; let x := 31; let s : State := isa n 0x0B d a b x { Engine.init with f := [(14, 0x7FC00000)] }; d < 16 ∧ d ≠ 0 ∧ Issuing s n 0x0B d a b x ∧ fIsNaN ((s.eng n).fr a) = true) ∧
    (let n := 7; let d := 15; let a := 14; let b := 13; let x := 31; let w := w32 (0x17 * 2 ^ 26 + 15 * 2 ^ 21 + 0xFFFF); let imm := 0xFFFF; let s : State := loopW n w; n < 8 ∧ d < 16 ∧ s.canIssue n = true ∧ s.loopAt n = some w ∧ bitsOf w 31 26 = 0x17 ∧ bitsOf w 25 21 = d ∧ bitsOf w 15 0 = imm) ∧
    (let n := 7; let d := 15; let a := 16; let b := 13; let x := 31; let s : State := isa n 0x10 d a b x; 16 ≤ a ∧ Issuing s n 0x10 d a b x) ∧
    (let n := 7; let d := 16; let a := 14; let b := 13; let x := 31; let s : State := isa n 0x11 d a b x; 16 ≤ d ∧ a < 16 ∧ b < 16 ∧ Issuing s n 0x11 d a b x) := 
  ⟨by unfold Issuing; decide +kernel, by unfold Issuing; decide +kernel, by unfold Issuing; decide +kernel,
    by unfold Issuing; decide +kernel, by unfold Issuing; decide +kernel, by unfold Issuing; decide +kernel,
    by unfold Issuing; decide +kernel, by unfold Issuing; decide +kernel, by unfold Issuing; decide +kernel,
    by unfold Issuing; decide +kernel, by unfold Issuing; decide +kernel, by unfold Issuing; decide +kernel, by decide +kernel, by unfold Issuing; decide +kernel,
    by unfold Issuing; decide +kernel⟩

theorem test_meets_VectorInstructions :
    (let n := 7; let d := 30; let a := 30; let b := 30; let x := 510; let s : State := isa n 0x0D d a b x; Issuing s n 0x0D d a b x ∧ d + 1 ≤ 31) ∧
    (let n := 7; let d := 31; let a := 30; let b := 30; let x := 510; let s : State := isa n 0x0D d a b x; Issuing s n 0x0D d a b x ∧ d = 31) ∧
    (let n := 7; let d := 30; let a := 30; let b := 30; let x := 510; let s : State := isa n 0x20 d a b x; Issuing s n 0x20 d a b x ∧ d + 1 ≤ 31) ∧
    (let n := 7; let d := 29; let a := 30; let b := 30; let x := 510; let s : State := isa n 0x21 d a b x; Issuing s n 0x21 d a b x ∧ d + 2 ≤ 31 ∧ a + 1 ≤ 31) ∧
    (let n := 7; let d := 30; let a := 30; let b := 30; let x := 510; let s : State := isa n 0x22 d a b x; Issuing s n 0x22 d a b x ∧ d + 1 ≤ 31 ∧ a + 1 ≤ 31 ∧ b + 1 ≤ 31) ∧
    (let n := 7; let d := 30; let a := 30; let b := 30; let x := 510; let s : State := isa n 0x23 d a b x; Issuing s n 0x23 d a b x ∧ d + 1 ≤ 31 ∧ a + 1 ≤ 31 ∧ b + 1 ≤ 31) ∧
    (let n := 7; let d := 30; let a := 30; let b := 30; let x := 510; let s : State := isa n 0x25 d a b x; Issuing s n 0x25 d a b x ∧ natBit x 10 = false ∧ x % 512 ≠ 511) ∧
    (let n := 7; let d := 30; let a := 30; let b := 30; let x := 1024; let s : State := isa n 0x25 d a b x; let e := s.eng n; Issuing s n 0x25 d a b x ∧ natBit x 10 = true ∧ d + 1 ≤ 31 ∧ a + 1 ≤ 31 ∧ fIsZero (e.fr a) = true ∧ fIsZero (e.fr (a + 1)) = true) ∧
    (let n := 7; let d := 30; let a := 30; let b := 30; let x := 511; let s : State := isa n 0x25 d a b x; Issuing s n 0x25 d a b x ∧ natBit x 10 = false ∧ x % 512 = 511) ∧
    (let n := 7; let d := 30; let a := 30; let b := 29; let x := 1024; let s : State := isa n 0x25 d a b x { Engine.init with f := [(30, 0x40400000), (31, 0x40800000), (29, 0x40000000)] }; let e := s.eng n; Issuing s n 0x25 d a b x ∧ natBit x 10 = true ∧ d + 1 ≤ 31 ∧ a + 1 ≤ 31 ∧ fIsZero (e.fr a) = false) ∧
    (let n := 7; let d := 30; let a := 31; let b := 29; let x := 1024; let s : State := isa n 0x25 d a b x; Issuing s n 0x25 d a b x ∧ natBit x 10 = true ∧ (31 < d + 1 ∨ 31 < a + 1)) ∧
    (let n := 7; let d := 31; let a := 30; let b := 31; let x := 0; let s : State := isa n 0x20 d a b x; Issuing s n 0x20 d a b x ∧ 31 < d + 1) ∧
    (let n := 7; let d := 30; let a := 30; let b := 31; let x := 0; let s : State := isa n 0x21 d a b x; Issuing s n 0x21 d a b x ∧ (31 < d + 2 ∨ 31 < a + 1)) ∧
    (let n := 7; let d := 30; let a := 30; let b := 31; let x := 0; let s : State := isa n 0x22 d a b x; Issuing s n 0x22 d a b x ∧ (31 < d + 1 ∨ 31 < a + 1 ∨ 31 < b + 1)) ∧
    (let n := 7; let d := 30; let a := 30; let b := 31; let x := 0; let s : State := isa n 0x23 d a b x; Issuing s n 0x23 d a b x ∧ (31 < d + 1 ∨ 31 < a + 1 ∨ 31 < b + 1)) := 
  ⟨by unfold Issuing; decide +kernel, by unfold Issuing; decide +kernel, by unfold Issuing; decide +kernel,
    by unfold Issuing; decide +kernel, by unfold Issuing; decide +kernel, by unfold Issuing; decide +kernel,
    by unfold Issuing; decide +kernel, by unfold Issuing; decide +kernel, by unfold Issuing; decide +kernel,
    by unfold Issuing; decide +kernel, by unfold Issuing; decide +kernel, by unfold Issuing; decide +kernel,
    by unfold Issuing; decide +kernel, by unfold Issuing; decide +kernel, by unfold Issuing; decide +kernel⟩

theorem test_meets_ControlAndCommandInstructions :
    (let n := 3; let d := 31; let a := 30; let b := 15; let x := 1023; let s : State := isa n 0x00 d a b x; Issuing s n 0x00 d a b x) ∧
    (let n := 3; let d := 31; let a := 30; let b := 15; let x := 1023; let s : State := isa n 0x30 d a b x; Issuing s n 0x30 d a b x) ∧
    (let n := 3; let d := 5; let a := 15; let b := 15; let x := 1023; let s : State := isa n 0x31 d a b x; Issuing s n 0x31 d a b x ∧ d < 6 ∧ a < 16) ∧
    (let n := 3; let d := 6; let a := 30; let b := 15; let x := 1023; let s : State := isa n 0x31 d a b x; Issuing s n 0x31 d a b x ∧ (6 ≤ d ∨ 16 ≤ a)) ∧
    (let n := 3; let d := 31; let a := 30; let b := 15; let x := 447; let s : State := isa n 0x19 d a b x; Issuing s n 0x19 d a b x ∧ natBit x 9 = false ∧ natBit x 10 = false ∧ 384 ≤ x % 512 ∧ x % 512 ≤ 447) ∧
    (let n := 3; let d := 31; let a := 30; let b := 15; let x := 383; let s : State := isa n 0x19 d a b x; Issuing s n 0x19 d a b x ∧ natBit x 9 = false ∧ natBit x 10 = false ∧ x % 512 < 384) ∧
    (let n := 3; let d := 31; let a := 30; let b := 15; let x := 47; let s : State := withChan (isa n 0x29 d a b x) 47 1 3; Issuing s n 0x29 d a b x ∧ s.chanEngine (x % 64) = some n ∧ x % 64 < nChan s.part ∧ fFinite (fFlush ((s.eng n).fr a)) = true ∧ (s.eng n).stage.length < 64) ∧
    (let n := 3; let d := 31; let a := 30; let b := 15; let x := 512 + 47; let s : State := withChan (isa n 0x2B d a b x) 47 1 3; Issuing s n 0x2B d a b x ∧ natBit x 10 = false ∧ natBit x 9 = true ∧ s.chanEngine (x % 64) = some n ∧ x % 64 < nChan s.part ∧ fFinite (fFlush ((s.eng n).fr a)) = true ∧ (s.eng n).stage.length < 64) ∧
    (let n := 3; let d := 31; let a := 30; let b := 15; let x := 0; let s : State := isa n 0x2B d a b x; Issuing s n 0x2B d a b x ∧ natBit x 10 = false ∧ s.chanEngine (x % 64) ≠ some n) ∧
    (let n := 3; let d := 31; let a := 30; let b := 15; let x := 47; let s : State := withChan (isa n 0x29 d a b x { Engine.init with f := [(30, 0x7F800000)] }) 47 1 3; Issuing s n 0x29 d a b x ∧ s.chanEngine (x % 64) = some n ∧ x % 64 < nChan s.part ∧ fFinite (fFlush ((s.eng n).fr a)) = false) ∧
    (let n := 3; let d := 31; let a := 30; let b := 15; let x := 0xB2; let s : State := isa n 0x2A d a b x; Issuing s n 0x2A d a b x ∧ b < 16 ∧ sldAbsent s.part (x % 256) = true) ∧
    (let n := 3; let d := 31; let a := 30; let b := 15; let x := 0x0F; let s : State := isa n 0x2A d a b x; Issuing s n 0x2A d a b x ∧ b < 16 ∧ sldAbsent s.part (x % 256) = false ∧ x % 256 < 0x10 ∧ (s.eng n).hasSample (x % 256) = false) ∧
    (let n := 3; let d := 31; let a := 30; let b := 15; let x := 0x0F; let s : State := isa n 0x2A d a b x { Engine.init with samples := [(15, 0x7F800000)], sampleFlags := [(15, 3)], fresh := [(15, true)] }; Issuing s n 0x2A d a b x ∧ b < 16 ∧ b ≠ 0 ∧ sldAbsent s.part (x % 256) = false ∧ (s.eng n).hasSample (x % 256) = true) ∧
    (let n := 3; let d := 31; let a := 30; let b := 15; let x := 0; let src := 0x6F; let s : State := (up 6).setEng n { Engine.init with waiting := some (d, b, src) }; n < 8 ∧ (s.eng n).waiting = some (d, b, src) ∧ b ≠ 0 ∧ src < 0xB0 ∧ (s.eng n).hasSample src = false) ∧
    (let n := 3; let s : State := up 6; (s.eng n).waiting = none) ∧
    (let n := 3; let d := 31; let a := 30; let b := 15; let x := 0; let s : State := isa n 0x2C d a b x { Engine.init with evts := List.replicate 3 ⟨0, 0, 0⟩ }; Issuing s n 0x2C d a b x ∧ natBit x 10 = false ∧ (s.eng n).evts.length < 4) ∧
    (let n := 3; let d := 31; let a := 30; let b := 15; let x := 0; let s : State := isa n 0x2C d a b x { Engine.init with evts := List.replicate 4 ⟨0, 0, 0⟩ }; Issuing s n 0x2C d a b x ∧ natBit x 10 = false ∧ 4 ≤ (s.eng n).evts.length) := 
  ⟨by unfold Issuing; decide +kernel, by unfold Issuing; decide +kernel, by unfold Issuing; decide +kernel,
    by unfold Issuing; decide +kernel, by unfold Issuing; decide +kernel, by unfold Issuing; decide +kernel,
    by unfold Issuing; decide +kernel, by unfold Issuing; decide +kernel, by unfold Issuing; decide +kernel,
    by unfold Issuing; decide +kernel, by unfold Issuing; decide +kernel, by unfold Issuing; decide +kernel, by unfold Issuing; decide +kernel, by decide +kernel,
    by decide +kernel, by unfold Issuing; decide +kernel, by unfold Issuing; decide +kernel⟩

theorem test_meets_ControllerInstructions :
    (let n := 7; let d := 31; let a := 30; let b := 15; let x := 0; let s : State := isa n 0x24 d a b x { Engine.init with act := [(256, 0x3F800000)] }; let e := s.eng n; Issuing s n 0x24 d a b x ∧ e.piOk (x / 256 % 8) = false) ∧
    (let n := 7; let d := 31; let a := 30; let b := 15; let x := 0x700; let s : State := isa n 0x24 d a b x; let e := s.eng n; Issuing s n 0x24 d a b x ∧ e.piOk (x / 256 % 8) = true ∧ d < 32 ∧ b < 32 ∧ d ≠ b) ∧
    (let n := 7; let d := 15; let a := 30; let b := 15; let x := 0x700; let s : State := isa n 0x26 d a b x { Engine.init with act := [(320, 0x3F800000), (321, 0x40000000), (322, 0x40400000), (324, 0x3F800000), (325, 0x40000000), (326, 0x40400000)] }; let e := s.eng n; Issuing s n 0x26 d a b x ∧ d < 16 ∧ d ≠ 0 ∧ e.regionOk = true) ∧
    (let n := 7; let d := 29; let a := 30; let b := 15; let x := 0x600; let s : State := isa n 0x27 d a b x; let e := s.eng n; Issuing s n 0x27 d a b x ∧ d + 2 ≤ 31 ∧ fFinite (e.fr a) = true ∧ natBit x 9 = true) ∧
    (let n := 7; let d := 29; let a := 30; let b := 15; let x := 0x400; let s : State := isa n 0x27 d a b x { Engine.init with f := [(30, 0x3F800000)], act := [(332, 0x41200000), (333, 0x42C80000), (334, 0x447A0000)] }; let e := s.eng n; Issuing s n 0x27 d a b x ∧ d + 2 ≤ 31 ∧ fFinite (e.fr a) = true ∧ natBit x 9 = false ∧ (∀ k < 3, limOk (e.word (328 + 4 * bit (natBit x 10) + k)) = true)) ∧
    (let n := 7; let d := 29; let a := 30; let b := 15; let x := 0x700; let s : State := isa n 0x27 d a b x { Engine.init with f := [(30, 0x7F800000)] }; let e := s.eng n; Issuing s n 0x27 d a b x ∧ d + 2 ≤ 31 ∧ fFinite (e.fr a) = false) ∧
    (let n := 7; let d := 29; let a := 30; let b := 15; let x := 0x400; let s : State := isa n 0x27 d a b x; let e := s.eng n; Issuing s n 0x27 d a b x ∧ d + 2 ≤ 31 ∧ fFinite (e.fr a) = true ∧ natBit x 9 = false ∧ limOk (e.word (328 + 4 * bit (natBit x 10))) = false) ∧
    (let n := 7; let d := 31; let a := 30; let b := 15; let x := 0x7FF; let s : State := isa n 0x28 d a b x; let e := s.eng n; Issuing s n 0x28 d a b x ∧ 1 ≤ b ∧ b < 16 ∧ x % 256 ≠ 0 ∧ e.plausDone.contains (x / 256 % 8) = false ∧ fLe (fAbs (e.fr a)) (e.fr d) = true) ∧
    (let n := 7; let d := 31; let a := 30; let b := 15; let x := 0x701; let s : State := isa n 0x28 d a b x { Engine.init with f := [(30, 0x3F800000)] }; let e := s.eng n; Issuing s n 0x28 d a b x ∧ 1 ≤ b ∧ b < 16 ∧ x % 256 ≠ 0 ∧ e.plausDone.contains (x / 256 % 8) = false ∧ fLe (fAbs (e.fr a)) (e.fr d) = false ∧ x % 256 ≤ Sparse.get (always 0) e.plausCount (x / 256 % 8) + 1 ∧ Sparse.get (always false) e.plausTold (x / 256 % 8) = false) ∧
    (let n := 7; let d := 0; let a := 0; let b := 0; let x := 0; let w := w32 (0x3F * 2 ^ 26); let s : State := loopW n w; n < 8 ∧ s.canIssue n = true ∧ s.loopAt n = some w ∧ loopOpcode (bitsOf w 31 26) = false) ∧
    (let n := 7; let d := 0; let a := 0; let b := 0; let x := 0; let s : State := (up 6).setEng n { Engine.init with inTick := true, pc := 1024 }; let e := s.eng n; n < 8 ∧ s.canIssue n = true ∧ s.loopAt n = none ∧ 1024 ≤ e.pc) ∧
    (let n := 7; let d := 0; let a := 0; let b := 0; let x := 0; let w := w32 (0x3E * 2 ^ 26); let s : State := loopW n w; s.loopAt n = some w ∧ loopOpcode (bitsOf w 31 26) = true) := 
  ⟨by unfold Issuing; decide +kernel, by unfold Issuing; decide +kernel, by unfold Issuing; decide +kernel,
    by unfold Issuing; decide +kernel, by unfold Issuing; decide +kernel, by unfold Issuing; decide +kernel,
    by unfold Issuing; decide +kernel, by unfold Issuing; decide +kernel, by unfold Issuing; decide +kernel, by decide +kernel,
    by decide +kernel, by decide +kernel⟩

theorem test_meets_LoopInstructionsRoundTrip :
    (let i : Instr := .stp 7 31 30 29 2047; let w : Word := loopWord 0x19 31 30 29 2047; i.wf = true ∧ loopEncode i = some w) ∧
    (let i : Instr := .stp 7 31 30 29 2047; let w : Word := loopWord 0x19 31 30 29 2047; let n := 7; loopDecode n w = some i ∧ bitsOf w 31 26 ≠ 0x17) ∧
    (let w : Word := 0xFC000000; loopOpcode (bitsOf w 31 26) = false) := by
  and_intros <;> decide +kernel

theorem test_meets_FieldEngineTick :
    (let n := 7; let s : State := up 5; n < 8 ∧ s.hasStrobe n = false) ∧
    (let n := 3; let s : State := ((up 5).putB (R.FE_STATUS_RUNNING 3) true).putB (R.EDGE_TB_CFG_EN 3) true; n < 8 ∧ s.hasStrobe n = true ∧ n ≠ 4 ∧ s.secondary n = none ∧ s.primary n = none ∧ (s.eng n).stopping = false ∧ (s.eng n).setpoints = [] ∧ (s.eng n).prog = .user ∧ s.flag (R.FE_CTRL_PSTAGE_HOLD n) = false) ∧
    (let n := 7; let s : State := loopW n 0; n < 8 ∧ (s.eng n).inTick = true) ∧
    (let n := 7; let s : State := up 5; n < 8 ∧ (s.eng n).inTick = false) ∧
    (let n := 7; let s : State := up 5; n < 8 ∧ (s.canIssue n = false ∨ s.atCommit n = false)) ∧
    (let n := 7; let s : State := loopW n (loopWord 0x3E 0 0 0 0); let cy := 19937; n < 8 ∧ s.canIssue n = true ∧ s.atCommit n = true ∧ s.get (R.FE_TICK_PERIOD (s.timer n)) < cy + 64) ∧
    (let n := 7; let s : State := loopW n (loopWord 0x3E 0 0 0 0); let cy := 19936; let g := gate0; n < 8 ∧ s.canIssue n = true ∧ s.atCommit n = true ∧ cy + 64 ≤ s.get (R.FE_TICK_PERIOD (s.timer n)) ∧ gateCause g = none ∧ (s.eng n).dataErr = false ∧ (s.eng n).faulted = false) ∧
    (let n := 7; let s : State := loopW n (loopWord 0x3E 0 0 0 0) { Engine.init with faulted := true }; let cy := 19936; let g := gate0; n < 8 ∧ s.canIssue n = true ∧ s.atCommit n = true ∧ cy + 64 ≤ s.get (R.FE_TICK_PERIOD (s.timer n)) ∧ gateCause g = none ∧ (s.eng n).dataErr = false ∧ (s.eng n).faulted = true) ∧
    (let n := 7; let s : State := loopW n (loopWord 0x3E 0 0 0 0); let cy := 19936; let g := { gate0 with checker := 4 }; n < 8 ∧ s.canIssue n = true ∧ s.atCommit n = true ∧ cy + 64 ≤ s.get (R.FE_TICK_PERIOD (s.timer n)) ∧ (gateCause g ≠ none ∨ (s.eng n).dataErr = true)) ∧
    (let n := 7; let s : State := loopW n (loopWord 0x3E 0 0 0 0) { Engine.init with dataErr := true }; let cy := 0; let g := gate0; n < 8 ∧ s.canIssue n = true ∧ s.atCommit n = true ∧ cy + 64 ≤ s.get (R.FE_TICK_PERIOD (s.timer n)) ∧ (gateCause g ≠ none ∨ (s.eng n).dataErr = true)) := by
  and_intros <;> decide +kernel

theorem test_meets_FieldEngineControl :
    (let n := 7; let s : State := up 5; n < 8 ∧ s.running = true ∧ fePresent s.part n = true ∧ s.flag (R.FE_CTRL_RUN n) = false ∧ (s.eng n).stopping = false ∧ (s.eng n).prog = .user ∧ s.bitAt R.PAIR_STATUS_FE_DIVERGED n = false) ∧
    (let n := 7; let s : State := ((up 5).putB (R.FE_STATUS_RUNNING 7) true).setEng 7 { Engine.init with stopping := true }; n < 8 ∧ s.running = true ∧ fePresent s.part n = true ∧ s.flag (R.FE_CTRL_RUN n) = false ∧ (s.eng n).stopping = true ∧ s.engineUp n = true) ∧
    (let n := 7; let w := Writer.tap; let s : State := (up 5).putB (R.FE_CTRL_RUN 7) true; w ≠ .service ∧ n < 8 ∧ s.flag (R.FE_CTRL_RUN n) = true) ∧
    (let n := 7; let s : State := ((up 5).putB (R.FE_CTRL_RUN 7) true).putB (R.FE_STATUS_RUNNING 7) true; n < 8 ∧ s.running = true ∧ fePresent s.part n = true ∧ s.flag (R.FE_CTRL_RUN n) = true ∧ s.engineUp n = true ∧ (∀ u, u ∈ s.unitsOf n → s.enabled u = false)) ∧
    (let n := 3; let s : State := withUnit (withChan (up 6) 47 1 3) 3; let u := 3; let w := Writer.steward; w ≠ .service ∧ n < 8 ∧ s.engineChans n ≠ [] ∧ u ∈ s.unitsOf n ∧ s.enabled u = true) ∧
    (let n := 7; let s : State := up 5; n < 8 ∧ s.running = true ∧ fePresent s.part n = true ∧ s.primary n = none) ∧
    (let n := 7; let s : State := up 5; n < 8 ∧ s.running = true ∧ fePresent s.part n = true) ∧
    (let n := 7; let s : State := (up 5).put R.OWN_STATUS_OWNER 0; let p := 382; let vs : List Word := [5, 6]; n < 8 ∧ s.running = true ∧ fePresent s.part n = true ∧ s.owner = 0 ∧ s.flag (R.FE_CTRL_RUN n) = false ∧ p + vs.length ≤ 384 ∧ s.md ≠ .commission) ∧
    (let n := 7; let s : State := up 5; let p := 511; n < 8 ∧ s.running = true ∧ fePresent s.part n = true ∧ s.inService 0 = true ∧ 448 ≤ p ∧ p < 512 ∧ s.md ≠ .commission) ∧
    (let n := 7; let p := 447; n < 8 ∧ 384 ≤ p ∧ p ≤ 447) ∧
    (let n := 7; let p := 448; n < 8 ∧ 448 ≤ p) ∧
    (let n := 7; let s : State := up 9; let a := 1023; n < 8 ∧ s.running = true ∧ fePresent s.part n = true ∧ s.md = .service ∧ s.flag (R.FE_CTRL_RUN n) = false ∧ a < 1024) ∧
    (let n := 7; let s : State := up 6; let w := Writer.hostA; w ≠ .service ∧ n < 8 ∧ s.md = .drive) ∧
    (let n := 3; let s : State := { up 5 with part := .elx9430 }; let w := Writer.hostA; w ≠ .service ∧ n < 8 ∧ fePresent s.part n = false) := by
  and_intros <;> decide +kernel

theorem test_meets_BanisterActsAtThePads :
    (let p := 2; let u := 0; (2 ≤ p ∨ 10 ≤ u)) ∧
    (let p := 0; let u := 0; let s : State := pw .reset; s.running = false) ∧
    (let s : State := up 5; let p := 1; let u := 9; s.running = true ∧ p < 2 ∧ u < 10 ∧ s.counts p = true ∧ s.inService p = true) ∧
    (let s : State := up 5; let p := 1; let u := 7; s.running = true ∧ p < 2 ∧ u < 8 ∧ s.inService p = true) ∧
    (let s : State := up 5; let p := 1; let u := 9; (p, u) ∉ s.edge.synced) ∧
    (let s : State := { up 5 with edge.synced := [(1, 9)] }; let p := 1; let u := 9; p < 2 ∧ u < 10 ∧ (p, u) ∈ s.edge.synced ∧ s.forceOn u = none) ∧
    (let s : State := up 5; let c := 48; nChan s.part ≤ c) ∧
    (let s : State := { ((withChan (up 5) 47 1 3).setLines 0 3 ⟨true, false, true⟩).wr R.PWR_STATUS 0xFFFFFFFF with pwr.latchDrives := false, pwr.isolated := false, pwr.isolatedVio3 := false }; let u := 3; let c := 47; c < nChan s.part ∧ (s.chan c).high = false ∧ (s.chan c).faultLow = false ∧ s.banUnit c = some u ∧ s.chanFunc c = 1 ∧ s.padForce u = some true ∧ s.padDriven c = true ∧ s.blockLow c = false) := by
  and_intros <;> decide +kernel

theorem test_meets_WhatDecidesAPad :
    (let s : State := (up 5).setLines 0 7 ⟨true, false, true⟩; let u := 7; u < 8 ∧ s.ascForced u = true) ∧
    (let s : State := { up 5 with edge.hwForce := [(7, some true)] }; let u := 7; u < 8 ∧ Sparse.get (always none) s.edge.hwForce u = some true) ∧
    (let s : State := (up 5).putB R.SAFE_DCL_STATUS_OV3_LATCH true; let u := 7; u < 8 ∧ s.flag R.SAFE_DCL_STATUS_OV3_LATCH = true) ∧
    (let s : State := (up 5).putB R.SAFE_DCL_STATUS_OV3_LATCH true; s.flag R.SAFE_DCL_STATUS_OV3_LATCH = true) ∧
    (let s : State := (up 5).wr R.PAIR_STATUS 0; s.inService 0 = false ∧ s.inService 1 = false) ∧
    (let s : State := up 5; let u := 7; let p := 1; p < 2 ∧ s.counts p = true ∧ (s.lines p u).enable = false) ∧
    (let s : State := (up 5).wr R.PWR_STATUS 0; let n := 47; s.padDriven n = false) ∧
    (let s : State := { (withChan (up 5) 47 1 3).setLines 0 3 ⟨true, false, true⟩ with pwr.latchDrives := false }; let u := 3; let n := 47; s.banUnit n = some u ∧ (s.padForce u).isSome = true) ∧
    (let s : State := withChan (up 5) 47 1 3; let u := 3; let n := 47; s.banUnit n = some u ∧ s.enabled u = false) ∧
    (let s : State := (withChan (up 5) 47 1 3).setChan 47 { Chan.init with faultLow := true }; let u := 3; let n := 47; s.banUnit n = some u ∧ (s.chan n).faultLow = true) ∧
    (let n := 0; let m := 47; m ≠ n) := by
  and_intros <;> decide +kernel

theorem test_meets_TimebasesConversionsGateLinks :
    (let s : State := up 5; let n := 7; let v : Word := 0; n < 8 ∧ s.running = true ∧ fePresent s.part n = true ∧ bitOf v 31 = false) ∧
    (let s : State := up 5; let n := 7; let v : Word := 0x80000000 ||| w32 (2 ^ (R.EDGE_TB_CFG_KIND 7).lo); n < 8 ∧ s.running = true ∧ n ≠ 4 ∧ fePresent s.part n = true ∧ s.flag (R.EDGE_TB_CFG_EN n) = false ∧ bitOf v 31 = true ∧ bitsOf v (R.EDGE_TB_CFG_KIND n).hi (R.EDGE_TB_CFG_KIND n).lo = 1) ∧
    (let s : State := up 5; let n := 4; let v : Word := 0x80000000 ||| w32 (3 * 2 ^ (R.EDGE_TB_CFG_M 4).lo); n < 8 ∧ s.running = true ∧ fePresent s.part n = true ∧ s.primary n = none ∧ s.flag (R.EDGE_TB_CFG_EN n) = false ∧ bitOf v 31 = true ∧ bitsOf v (R.EDGE_TB_CFG_KIND n).hi (R.EDGE_TB_CFG_KIND n).lo = 0 ∧ 8 * s.get (R.FE_TICK_PERIOD n) ≠ 5 * s.get (R.EDGE_TB_HALF_A_HALF n) * max 1 (bitsOf v (R.EDGE_TB_CFG_M n).hi (R.EDGE_TB_CFG_M n).lo)) ∧
    (let s : State := up 5; let n := 7; let p := true; let q := true; let b := 5; s.flag (R.EDGE_TB_CFG_EN n) = false) ∧
    (let s : State := (up 5).putB R.FE_PAIR_CFG_PAIR_23 true; let n := 3; let p := true; let q := true; let b := 5; (s.primary n).isSome = true) ∧
    (let s : State := ((up 5).putB (R.EDGE_TB_CFG_EN 7) true).putB (R.EDGE_TB_CFG_UPD_PEAK 7) true; let n := 7; let q := true; let b := 5; n % 2 = 1 ∧ fePresent s.part n = true ∧ s.flag (R.EDGE_TB_CFG_EN n) = true ∧ s.primary n = none ∧ s.flag (R.EDGE_TB_CFG_UPD_PEAK n) = true) ∧
    (let s : State := up 5; let k := 16; let t := 4; let r := 3; let i := 0; let e := false; (nFast s.part ≤ k ∨ s.running = false)) ∧
    (let s : State := withChan ((up 5).put (R.EDGE_FC_CFG_CH 15) 47) 47 0 0; let k := 15; let a := 9; let r := 0x3FFF; let e := true; k < nFast s.part ∧ s.running = true ∧ s.acq.inserts = [] ∧ s.banUnit (s.get (R.EDGE_FC_CFG_CH k)) = none) ∧
    (let s : State := up 5; let c := 47; (s.leg c).pend = none) ∧
    (let s : State := (up 5).setLeg 47 { Leg.init with pend := some true }; let c := 47; let x : Bool := true; (s.leg c).pend = some x) ∧
    (let s : State := up 5; let n := 7; let f : List Word := []; s.flag (R.GATE_CH_CFG_EN n) = false) ∧
    (let s : State := (up 5).putB (R.GATE_CH_CFG_EN 47) true; let n := 47; let fr : Word := w32 (0x040002 * 256 + gateCrc 0x040002); let e := 2; n < nChan s.part ∧ s.flag (R.GATE_CH_CFG_EN n) = true ∧ s.bankLive (hbBank n) = true ∧ bitsOf fr 7 0 = gateCrc (bitsOf fr 31 8) ∧ bitsOf fr 31 30 = 0 ∧ bitsOf fr 29 24 = 4 ∧ bitsOf fr 23 8 = e ∧ natDist (((s.chan n).edges + 65536 - (s.chan n).edgesAt) % 65536) ((e + 65536 - (s.link n).drvEdges) % 65536) ≤ 2) ∧
    (let s : State := ((up 5).putB (R.GATE_CH_CFG_EN 47) true).setLink 47 { Link.init with fails := 1 }; let n := 47; let fr : Word := w32 (0x040002 * 256 + gateCrc 0x040002 + 1); n < nChan s.part ∧ s.flag (R.GATE_CH_CFG_EN n) = true ∧ s.bankLive (hbBank n) = true ∧ bitsOf fr 7 0 ≠ gateCrc (bitsOf fr 31 8) ∧ (s.link n).fails < 2) ∧
    (let s : State := up 5; let n := 48; (nChan s.part ≤ n ∨ s.running = false)) ∧
    (let s : State := up 5; let n := 47; n < nChan s.part ∧ s.running = true ∧ s.bankLive (hbBank n) = true) := by
  and_intros <;> decide +kernel

theorem test_meets_TractionCommands :
    (let c := cm 0x84 []; let s : State := fly (up 6) 0x1000 c; s.targets c tractionTargets = false ∧ s.startable c 0x1000 = true) ∧
    (let c := cm 0x84 []; let s : State := fly (up 6) 0x1001 c; s.targets c tractionTargets = false ∧ s.startable c 0x1001 = true) ∧
    (let c := cm 0x84 []; let s : State := fly (up 6) 0x1002 c; s.targets c tractionTargets = false ∧ s.startable c 0x1002 = true) ∧
    (let c := cm 0x84 []; let s : State := fly (up 6) 0x1003 c; s.targets c tractionTargets = false ∧ s.startable c 0x1003 = true) ∧
    (let c := cm 0x84 []; let s : State := fly (up 6) 0x1100 c; s.targets c tractionTargets = false ∧ s.startable c 0x1100 = true) ∧
    (let c := cm 0x84 []; let s : State := fly (up 6) 0x1101 c; s.targets c tractionTargets = false ∧ s.startable c 0x1101 = true) ∧
    (let c := cm 0x84 []; let s : State := fly (up 6) 0x1004 c; s.targets c tractionTargets = false ∧ s.startable c 0x1004 = true) ∧
    (let c := cm 0x81 []; let s : State := fly ((up 6).putB R.FE_PAIR_CFG_PAIR_01 true) 0x1000 c; (s.primary (c.target - 0x80)).isSome = true ∧ s.startable c 0x1000 = true) ∧
    (let c := cm 0x81 []; let s : State := fly ((up 6).putB R.FE_PAIR_CFG_PAIR_01 true) 0x1001 c; (s.primary (c.target - 0x80)).isSome = true ∧ s.startable c 0x1001 = true) ∧
    (let c := cm 0x81 []; let s : State := fly ((up 6).putB R.FE_PAIR_CFG_PAIR_01 true) 0x1002 c; (s.primary (c.target - 0x80)).isSome = true ∧ s.startable c 0x1002 = true) ∧
    (let c := cm 0x81 []; let s : State := fly ((up 6).putB R.FE_PAIR_CFG_PAIR_01 true) 0x1100 c; (s.primary (c.target - 0x80)).isSome = true ∧ s.startable c 0x1100 = true) ∧
    (let c := cm 0x81 []; let s : State := fly ((up 6).putB R.FE_PAIR_CFG_PAIR_01 true) 0x1004 c; (s.primary (c.target - 0x80)).isSome = true ∧ s.startable c 0x1004 = true) ∧
    (let c := cm 0x83 (List.replicate 4 0); let s : State := fly (up 6) 0x1000 c; s.targets c tractionTargets = true ∧ s.primary (c.target - 0x80) = none ∧ s.startable c 0x1000 = true ∧ 4 ≤ c.payload.length) ∧
    (let c := cm 0x83 (List.replicate 8 0); let s : State := fly (up 6) 0x1001 c; s.targets c tractionTargets = true ∧ s.primary (c.target - 0x80) = none ∧ s.startable c 0x1001 = true ∧ 8 ≤ c.payload.length) ∧
    (let c := cm 0x83 (List.replicate 1 0); let s : State := fly (up 6) 0x1002 c; s.targets c tractionTargets = true ∧ s.primary (c.target - 0x80) = none ∧ s.startable c 0x1002 = true ∧ 1 ≤ c.payload.length) ∧
    (let c := cm 0x83 []; let s : State := fly (up 6) 0x1003 c; s.targets c tractionTargets = true ∧ s.modeOk 0x1003 true = true ∧ s.startable c 0x1003 = true) ∧
    (let c := cm 0x83 ([0x78, 1, 8, 0] ++ List.replicate 32 1); let s : State := fly (up 9) 0x1100 c; s.targets c tractionTargets = true ∧ s.primary (c.target - 0x80) = none ∧ s.modeOk 0x1100 false = true ∧ s.startable c 0x1100 = true ∧ 1 ≤ arg c 18 1 ∧ arg c 18 1 ≤ 8 ∧ arg c 16 2 + arg c 18 1 ≤ 384 ∧ 4 + 4 * arg c 18 1 ≤ c.payload.length) ∧
    (let c := cm 0x83 ([0x78, 1, 8, 0] ++ List.replicate 32 1); let s : State := fly (up 6) 0x1101 c; s.targets c tractionTargets = true ∧ s.modeOk 0x1101 true = true ∧ s.startable c 0x1101 = true ∧ 3 ≤ c.payload.length ∧ 1 ≤ arg c 18 1 ∧ arg c 18 1 ≤ 8 ∧ arg c 16 2 + arg c 18 1 ≤ 384 ∧ 4 * arg c 18 1 ≤ c.len) ∧
    (let c := cm 0x83 [1]; let s : State := fly ((trc 3 Trac.init).putB (R.EDGE_BAND_CFG_LIVE_SW 3) true) 0x1004 c; let law := 1; law < 2 ∧ s.targets c tractionTargets = true ∧ s.primary (c.target - 0x80) = none ∧ s.modeOk 0x1004 false = true ∧ s.startable c 0x1004 = true ∧ 1 ≤ c.payload.length ∧ arg c 16 1 = law ∧ s.lawNow (s.addressed (c.target - 0x80)) = 1 - law ∧ s.flag (R.EDGE_BAND_CFG_LIVE_SW (c.target - 0x80)) = true ∧ s.get (R.EDGE_TB_CFG_KIND (c.target - 0x80)) ≠ 1 ∧ s.lawBusy (s.addressed (c.target - 0x80)) = false) := by
  and_intros <;> decide +kernel

theorem test_meets_TractionRecordsAndRotorPosition :
    (let n := 4; let s : State := trc 3 Trac.init; s.tracUp n = false) ∧
    (let n := 3; let s : State := { trc 3 { Trac.init with overRun := 10 } with atime := 200000 }; s.tracUp n = true ∧ 10 ≤ (s.tr n).overRun ∧ (s.tr n).overTold = false) ∧
    (let n := 3; let s : State := { trc 3 { Trac.init with overRun := 9, vdcBad := 1 } with atime := 200000 }; ((s.tr n).overRun < 10 ∨ (s.tr n).overTold = true) ∧ ((s.tr n).vdcBad < 2 ∨ (s.tr n).vdcTold = true) ∧ ((s.tr n).hlimAt = none ∨ (s.tr n).hlimTold = true) ∧ ((s.tr n).bsatTold = true ∨ (s.tr n).bsatRun = 0)) ∧
    (let n := 3; let s : State := { trc 3 { Trac.init with vdcBad := 2 } with atime := 200000 }; s.tracUp n = true ∧ 2 ≤ (s.tr n).vdcBad ∧ (s.tr n).vdcTold = false) ∧
    (let n := 3; let s : State := { trc 3 { Trac.init with law := 1, hlimAt := some 100000 } with atime := 200000 }; let a : Time := 100000; s.tracUp n = true ∧ (s.tr n).law = 1 ∧ (s.tr n).hlimAt = some a ∧ 100000 ≤ s.since a ∧ (s.tr n).hlimTold = false) ∧
    (let n := 3; let s : State := { trc 3 Trac.init with atime := 200000 }; s.tracUp n = true ∧ (s.md = .drive ∨ s.md = .degraded ∨ s.md = .service) ∧ (s.tr n).swd = false ∧ fLe (fMul ((s.eng n).word 341) (fOfNat 1000)) (fOfNat (s.since (s.tr n).seqAt)) = true) ∧
    (let n := 3; let s : State := { trc 3 { Trac.init with swd := true } with atime := 200000 }; ((s.tr n).swd = true ∨ fLe (fMul ((s.eng n).word 341) (fOfNat 1000)) (fOfNat (s.since (s.tr n).seqAt)) = false)) ∧
    (let n := 3; let s : State := { trc 3 { Trac.init with law := 1, bsatRun := 1 } with atime := 200000 }; s.tracUp n = true ∧ (s.tr n).law = 1 ∧ ((s.eng n).word 367).toNat ≤ (s.tr n).bsatRun ∧ 0 < (s.tr n).bsatRun ∧ (s.tr n).bsatTold = false) ∧
    (let n := 3; let s : State := { trc 3 { Trac.init with est := { Est.init with st := estAcquire, polKnown := true, lockRun := 40 } } with atime := 200000 }; s.tracUp n = true ∧ (s.tr n).est.st = estAcquire ∧ 40 ≤ (s.tr n).est.lockRun ∧ (s.tr n).est.polKnown = true) ∧
    (let n := 3; let s : State := { trc 3 { Trac.init with est := { Est.init with st := estAcquire, lockRun := 40 } } with atime := 200000 }; s.tracUp n = true ∧ (s.tr n).est.st = estAcquire ∧ 40 ≤ (s.tr n).est.lockRun ∧ (s.tr n).est.polKnown = false) ∧
    (let n := 3; let s : State := { trc 3 { Trac.init with est := { Est.init with st := estAcquire, lockRun := 39 } } with atime := 200000 }; s.tracUp n = true ∧ (s.tr n).est.st = estAcquire ∧ ((s.tr n).est.st ≠ estAcquire ∨ (s.tr n).est.lockRun < 40) ∧ (s.tr n).est.lockRun < 40 ∧ 15000 ≤ s.since (s.tr n).est.acqAt) ∧
    (let n := 3; let s : State := { trc 3 { Trac.init with est := { Est.init with st := estRecapFw } } with atime := 200000 }; s.tracUp n = true ∧ (s.tr n).est.st = estRecapFw ∧ (s.tr n).est.fwTicks = 0 ∧ 1000 ≤ s.since (s.tr n).est.lossAt) ∧
    (let n := 3; let s : State := { trc 3 { Trac.init with est := { Est.init with st := estRecapFw, fwTicks := 1000 } } with atime := 200000 }; s.tracUp n = true ∧ (s.tr n).est.st = estRecapFw ∧ 0 < (s.tr n).est.fwTicks ∧ (s.tr n).est.freewheelTicks (s.ts (s.timer n)) ≤ (s.tr n).est.fwTicks) ∧
    (let n := 3; let s : State := { trc 3 Trac.init with atime := 200000 }; (s.tr n).est.st ≠ estRecapFw) ∧
    (let n := 3; let s : State := { trc 3 { Trac.init with est := { Est.init with st := estRecapAsc, ascTicks := 100 } } with atime := 200000 }; s.tracUp n = true ∧ (s.tr n).est.st = estRecapAsc ∧ (s.tr n).est.ascOver (s.eng n) (s.ts (s.timer n)) = true) ∧
    (let n := 3; let s : State := { trc 3 { Trac.init with est := { Est.init with st := estRelock, lossAt := 195000 } } with atime := 200000 }; s.tracUp n = true ∧ ((s.tr n).est.st = estRecapFw ∨ (s.tr n).est.st = estRecapAsc ∨ (s.tr n).est.st = estRelock) ∧ 5000 ≤ s.since (s.tr n).est.lossAt) ∧
    (let n := 3; let s : State := { trc 3 { Trac.init with est := { Est.init with st := estRelock, lossAt := 195001 } } with atime := 200000 }; s.since (s.tr n).est.lossAt < 5000) ∧
    (let n := 3; let s : State := trc 3 Trac.init; n < 4 ∧ s.partner n = none) ∧
    (let n := 3; let s : State := (trc 3 Trac.init).putB R.FE_PAIR_CFG_PAIR_23 true; let m := 2; n < 4 ∧ s.partner n = some m ∧ s.isOut m = false ∧ s.bitAt R.PAIR_STATUS_FE_IN_SERVICE m = true) := by
  and_intros <;> decide +kernel

theorem test_meets_DcLinkThresholds :
    (let s : State := State.reset; s.running = false) ∧
    (let s : State := up 5; let code := 4095; s.running = true ∧ code < 4096) ∧
    (let s : State := ((up 5).putB R.SAFE_DCL_STATUS_UV false).put R.SAFE_DCL_THR_B_UV 9; let code := 8; code < s.get R.SAFE_DCL_THR_B_UV ∧ s.flag R.SAFE_DCL_STATUS_UV = false ∧ s.md = .standby) ∧
    (let s : State := (up 6).putB R.SAFE_DCL_STATUS_UV true; let code := 4095; s.get R.SAFE_DCL_THR_B_UV + s.get R.SAFE_DCL_CFG_HYST < code ∧ s.flag R.SAFE_DCL_STATUS_UV = true) ∧
    (let s : State := (up 5).putB R.SAFE_DCL_STATUS_UV true; let code := 0; s.flag R.SAFE_DCL_STATUS_UV = true ∧ code ≤ s.get R.SAFE_DCL_THR_B_UV + s.get R.SAFE_DCL_CFG_HYST) ∧
    (let s : State := (up 5).putB R.SAFE_DCL_STATUS_UV false; let code := 4095; s.flag R.SAFE_DCL_STATUS_UV = false ∧ s.get R.SAFE_DCL_THR_B_UV ≤ code) ∧
    (let s : State := up 5; let code := 4095; s.get R.SAFE_DCL_THR_A_OV2 < code ∧ s.dcl.ov2Hold = false) ∧
    (let s : State := up 5; let code := 0; code ≤ s.get R.SAFE_DCL_THR_A_OV2) ∧
    (let s : State := { up 5 with dcl.ov3Run := 14 }; let code := 4095; s.get R.SAFE_DCL_THR_B_OV3 < code ∧ s.get R.SAFE_DCL_CFG_OV3_N ≤ s.dcl.ov3Run + 1 ∧ s.flag R.SAFE_DCL_STATUS_OV3_LATCH = false) ∧
    (let s : State := up 5; let code := 0; code ≤ s.get R.SAFE_DCL_THR_B_OV3) ∧
    (let s : State := (up 5).putB R.SAFE_DCL_STATUS_OV3_LATCH true; s.flag R.SAFE_DCL_STATUS_OV3_LATCH = true) ∧
    (let s : State := { up 5 with dcl.ov2Hold := true, atime := 10000 }; s.dcl.ov2Hold = true ∧ s.get R.SAFE_DCL_STATUS_VALUE + s.get R.SAFE_DCL_CFG_HYST < s.get R.SAFE_DCL_THR_A_OV2 ∧ 10000 ≤ s.since s.dcl.ov2At) ∧
    (let s : State := up 5; (s.dcl.ov2Hold = false ∨ s.get R.SAFE_DCL_THR_A_OV2 ≤ s.get R.SAFE_DCL_STATUS_VALUE + s.get R.SAFE_DCL_CFG_HYST ∨ s.since s.dcl.ov2At < 10000)) ∧
    (let s : State := { (up 5).put R.SAFE_DCL_CHOP_BUDGET 10 with dcl.chopTimes := [(0, 1000000)], atime := 1000000 }; s.running = true ∧ s.chopOver = true ∧ s.flag R.SAFE_DCL_STATUS_CHOP_HELD = false) ∧
    (let s : State := (up 5).putB R.SAFE_DCL_STATUS_CHOP_HELD true; (s.flag R.SAFE_DCL_STATUS_CHOP_HELD = true ∨ s.chopOver = false)) := by
  and_intros <;> decide +kernel

theorem test_meets_SelectorLatchAndDcLinkCommands :
    (let s : State := up 5; s.running = true ∧ s.dcl.mismatch ≠ 9) ∧
    (let s : State := { up 5 with dcl.mismatch := 9 }; s.running = true ∧ s.dcl.mismatch = 9) ∧
    (let s : State := up 5; s.running = true ∧ fLt (fAdd (fMul (fOfRatio 2 100) (s.linkVolts (s.get R.SAFE_DCL_STATUS_VALUE))) (s.linkVolts 4)) (fAbs (fSub (s.linkVolts (s.get R.SAFE_DCL_STATUS_VALUE)) ((s.eng 0).sample 0x6F).1)) = false) ∧
    (let s : State := up 5; s.running = true ∧ s.pairsLost = false ∧ (∀ n, n ∈ s.sets → s.selChoice n = s.selAsc n)) ∧
    (let s : State := up 5; s.running = true ∧ s.pairsLost = false) ∧
    (let s : State := trc 3 { Trac.init with est := { Est.init with st := estFailed } }; let n := 3; ((s.tr n).est.st = estFailed ∨ Sparse.get (always false) s.dcl.tracked n = false)) ∧
    (let s : State := (up 5).putB R.SAFE_DCL_STATUS_OV3_LATCH true; s.running = true ∧ s.flag R.SAFE_DCL_STATUS_OV3_LATCH = true ∧ s.pairsLost = false ∧ s.get R.SAFE_DCL_STATUS_VALUE + s.get R.SAFE_DCL_CFG_HYST < s.get R.SAFE_DCL_THR_A_OV1) ∧
    (let s : State := up 5; (s.flag R.SAFE_DCL_STATUS_OV3_LATCH = false ∨ s.pairsLost = true ∨ s.get R.SAFE_DCL_THR_A_OV1 ≤ s.get R.SAFE_DCL_STATUS_VALUE + s.get R.SAFE_DCL_CFG_HYST)) ∧
    (let c := cm 0x11 [0, 0, 0, 0]; let s : State := fly (up 5) 0x0130 c; c.target = 0x11 ∧ s.startable c 0x0130 = true ∧ s.modeOk 0x0130 true = true) ∧
    (let c := cm 0x11 [0, 0, 0, 0]; let s : State := fly (up 2) 0x0130 c; c.target = 0x11 ∧ s.startable c 0x0130 = true ∧ s.modeOk 0x0130 true = false) ∧
    (let c := cm 0x11 [0, 0, 0, 0]; let s : State := fly (up 5) 0x0131 c; c.target = 0x11 ∧ s.startable c 0x0131 = true ∧ (s.md = .standby ∨ s.md = .service ∨ s.md = .safeStop) ∧ 4 ≤ c.payload.length ∧ fFinite (argW c 16) = true ∧ s.dcl.discharge = none) ∧
    (let c := cm 0x11 [0, 0, 0, 0]; let s : State := fly (up 6) 0x0131 c; c.target = 0x11 ∧ s.startable c 0x0131 = true ∧ s.md = .drive) ∧
    (let c := cm 0x11 [0, 0, 0, 0]; let drop := 0; let fault := false; let s : State := fly (up 6) 0x0132 c; c.target = 0x11 ∧ s.startable c 0x0132 = true ∧ s.md = .drive) ∧
    (let c := cm 0x11 [0, 0, 0, 0]; let m := 0; let tag := 7; let target : F32 := 0x42480000; let start : F32 := 0x43960000; let at_ : Time := 0; let code := 0; let s : State := { up 5 with dcl.discharge := some (m, tag, target, start, at_) }; c.target = 0x11 ∧ s.dcl.discharge = some (m, tag, target, start, at_) ∧ fLt (s.linkVolts code) target = true) ∧
    (let c := cm 0x11 [0, 0, 0, 0]; let m := 0; let tag := 7; let target : F32 := 0; let start : F32 := 0x43960000; let at_ : Time := 0; let code := 4095; let s : State := { up 5 with dcl.discharge := some (m, tag, target, start, at_), atime := 100000 }; c.target = 0x11 ∧ s.dcl.discharge = some (m, tag, target, start, at_) ∧ fLt (s.linkVolts code) target = false ∧ 100000 ≤ s.since at_ ∧ fLt (fMul (fOfRatio 9 10) start) (s.linkVolts code) = true) ∧
    (let c := cm 0x11 [0, 0, 0, 0]; let m := 0; let tag := 7; let target : F32 := 0; let start : F32 := 0x43960000; let at_ : Time := 0; let code := 4095; let s : State := { up 5 with dcl.discharge := some (m, tag, target, start, at_), atime := 99999 }; c.target = 0x11 ∧ s.dcl.discharge = some (m, tag, target, start, at_) ∧ fLt (s.linkVolts code) target = false ∧ s.since at_ < 100000) ∧
    (let c := cm 0x11 [0, 0, 0, 0]; let drop := 4095; let s : State := fly ((up 5).putB R.SAFE_DCL_STATUS_UV false) 0x0132 c; c.target = 0x11 ∧ s.startable c 0x0132 = true ∧ s.md ≠ .drive ∧ s.md ≠ .degraded ∧ s.md ≠ .charge ∧ s.md ≠ .supply ∧ s.modeOk 0x0132 false = true ∧ s.flag R.SAFE_DCL_STATUS_UV = false ∧ s.get R.SAFE_DCL_CHOP_TEST_DV ≤ drop) ∧
    (let c := cm 0x11 [0, 0, 0, 0]; let drop := 4095; let fault := true; let s : State := fly ((up 5).putB R.SAFE_DCL_STATUS_UV false) 0x0132 c; c.target = 0x11 ∧ s.startable c 0x0132 = true ∧ s.md ≠ .drive ∧ s.md ≠ .degraded ∧ s.md ≠ .charge ∧ s.md ≠ .supply ∧ s.modeOk 0x0132 false = true ∧ s.flag R.SAFE_DCL_STATUS_UV = false ∧ (drop < s.get R.SAFE_DCL_CHOP_TEST_DV ∨ fault = true)) ∧
    (let c := cm 0x11 [0, 0, 0, 0]; let drop := 0; let fault := false; let s : State := fly ((up 5).putB R.SAFE_DCL_STATUS_UV true) 0x0132 c; c.target = 0x11 ∧ s.startable c 0x0132 = true ∧ s.md ≠ .drive ∧ s.md ≠ .degraded ∧ s.md ≠ .charge ∧ s.md ≠ .supply ∧ s.modeOk 0x0132 false = true ∧ s.flag R.SAFE_DCL_STATUS_UV = true) := by
  and_intros <;> decide +kernel

theorem test_meets_Converter :
    (let c := cm 0xD [0, 0, 0x40, 0x41]; let e4 : Engine := { Engine.init with act := [(336, 0x41400000), (344, 0x7C)], prog := .converter }; let s : State := fly (withUnit ((up 6).setEng 4 e4) 8) 0x2000 c; c.target = 0x0D ∧ s.startable c 0x2000 = true ∧ s.lvArmed = false ∧ 4 ≤ c.payload.length ∧ s.convVset (argW c 16) = true ∧ s.get R.CONV_STATUS_STATE ≠ 3) ∧
    (let c := cm 0xD [0, 0, 0x40, 0x41]; let s : State := fly (withUnit ((up 6).put R.CONV_STATUS_STATE 3) 8) 0x2000 c; c.target = 0x0D ∧ s.startable c 0x2000 = true ∧ s.lvArmed = false ∧ 4 ≤ c.payload.length ∧ s.convVset (argW c 16) = true ∧ s.get R.CONV_STATUS_STATE = 3 ∧ s.enabled unitConv = true ∧ s.forceOn unitConv = none) ∧
    (let c := cm 0xD [0, 0, 0x40, 0x41]; let s : State := fly ((up 6).setEng 5 { Engine.init with act := [(348, 2)] }) 0x2000 c; c.target = 0x0D ∧ s.startable c 0x2000 = true ∧ s.lvArmed = true ∧ s.modeOk 0x2000 false = true) ∧
    (let c := cm 0xD [0, 0, 0x40, 0x41]; let e4 : Engine := { Engine.init with act := [(336, 0x41400000), (344, 0x7C)], prog := .converter }; let s : State := fly (withUnit ((up 6).setEng 4 e4) 8) 0x2001 c; c.target = 0x0D ∧ s.startable c 0x2001 = true ∧ s.modeOk 0x2001 true = true) ∧
    (let c := cm 0xD [0, 0, 0x40, 0x41]; let e4 : Engine := { Engine.init with act := [(336, 0x41400000), (344, 0x7C)], prog := .converter }; let s : State := fly (withUnit (((up 6).setEng 4 e4).put R.CONV_STATUS_STATE 5) 8) 0x2002 c; c.target = 0x0D ∧ s.startable c 0x2002 = true ∧ s.modeOk 0x2002 false = true ∧ s.get R.CONV_STATUS_STATE = 5 ∧ s.enabled unitConv = true ∧ s.forceOn unitConv = none ∧ fLe ((s.eng 4).nextWord 336) ((s.eng 4).sample ((s.eng 4).word 344).toNat).1 = false) ∧
    (let c := cm 0xD [0, 0, 0x40, 0x41]; let e4 : Engine := { Engine.init with act := [(336, 0x41400000), (344, 0x7C)], prog := .converter }; let s : State := fly (withUnit ((up 6).setEng 4 e4) 8) 0x2002 c; c.target = 0x0D ∧ s.startable c 0x2002 = true ∧ s.modeOk 0x2002 false = true ∧ s.get R.CONV_STATUS_STATE ≠ 5) ∧
    (let c := cm 0xD [1]; let s : State := fly (up 9) 0x2003 c; c.target = 0x0D ∧ s.startable c 0x2003 = true ∧ s.pairsLost = false ∧ s.md = .service ∧ 1 ≤ c.payload.length ∧ arg c 16 1 = 1) ∧
    (let c := cm 0xD [0, 0, 0x40, 0x41]; let e4 : Engine := { Engine.init with act := [(336, 0x41400000), (344, 0x7C)], prog := .converter }; let s : State := fly (withUnit ((up 6).setEng 4 e4) 8) 0x2003 c; c.target = 0x0D ∧ s.startable c 0x2003 = true ∧ s.md ≠ .service) ∧
    (let c := cm 0xD ([1, 0, 0, 0] ++ [0x20, 0xA1, 7, 0]); let e4 : Engine := { Engine.init with act := [(336, 0x41400000), (344, 0x7C)], prog := .converter }; let s : State := fly (withUnit ((up 6).setEng 4 e4) 8) 0x2004 c; c.target = 0x0D ∧ s.startable c 0x2004 = true ∧ s.modeOk 0x2004 false = true ∧ 8 ≤ c.payload.length ∧ arg c 16 1 ≤ 1 ∧ 50000 ≤ arg c 20 4 ∧ arg c 20 4 ≤ 500000) ∧
    (let s : State := (up 6).putB R.CONV_SYNC_CFG_DIR true; s.flag R.CONV_SYNC_CFG_DIR = true) ∧
    (let s : State := up 6; let i := 409601; s.flag R.CONV_SYNC_CFG_DIR = false ∧ s.running = true ∧ (i < 40960 ∨ 409600 < i)) ∧
    (let s : State := { (up 6).putB R.CONV_SYNC_CFG_FOLLOW true with conv.edges := 1 }; let i := 409600; s.following = true ∧ s.running = true ∧ 40960 ≤ i ∧ i ≤ 409600 ∧ s.get R.CONV_SYNC_STAT_STATE = 0 ∧ 1 ≤ s.conv.edges) ∧
    (let s : State := { (up 6).put R.CONV_SYNC_STAT_STATE 2 with conv.quiet := 2 }; (s.get R.CONV_SYNC_STAT_STATE = 1 ∨ s.get R.CONV_SYNC_STAT_STATE = 2) ∧ 2 ≤ s.conv.quiet) ∧
    (let e4 : Engine := { Engine.init with act := [(336, 0x41400000), (344, 0x7C)], prog := .converter }; let s : State := withUnit ((up 6).setEng 4 e4) 8; (s.get R.CONV_SYNC_STAT_STATE = 0 ∨ s.get R.CONV_SYNC_STAT_STATE = 3 ∨ s.conv.quiet < 2)) ∧
    (let e4 : Engine := { Engine.init with act := [(336, 0x41400000), (344, 0x7C)], prog := .converter }; let s : State := withUnit ((up 6).setEng 4 e4) 8; s.enabled unitConv = true ∧ s.forceOn unitConv = none ∧ s.get R.CONV_STATUS_STATE = 0) ∧
    (let s : State := up 6; s.enabled unitConv = false) ∧
    (let s : State := withUnit ((up 6).put R.CONV_STATUS_STATE 3) 8; s.get R.CONV_STATUS_STATE = 3 ∧ s.enabled unitConv = true ∧ s.forceOn unitConv = none) ∧
    (let e4 : Engine := { Engine.init with act := [(336, 0x41400000), (344, 0x7C)], prog := .converter }; let s : State := withUnit ((up 6).setEng 4 e4) 8; s.get R.CONV_STATUS_STATE ≠ 3) ∧
    (let s : State := withUnit (((up 6).put R.CONV_STATUS_STATE 2).put R.CONV_STATUS_RETRIES 2) 8; (s.get R.CONV_STATUS_STATE = 1 ∨ s.get R.CONV_STATUS_STATE = 2) ∧ s.enabled unitConv = true ∧ s.forceOn unitConv = none ∧ s.get R.CONV_STATUS_RETRIES < 3) ∧
    (let s : State := withUnit (((up 6).put R.CONV_STATUS_STATE 1).put R.CONV_STATUS_RETRIES 3) 8; (s.get R.CONV_STATUS_STATE = 1 ∨ s.get R.CONV_STATUS_STATE = 2) ∧ s.enabled unitConv = true ∧ s.forceOn unitConv = none ∧ 3 ≤ s.get R.CONV_STATUS_RETRIES) ∧
    (let s : State := withUnit ({ up 6 with atime := 200000 }.put R.CONV_STATUS_STATE 4) 8; s.get R.CONV_STATUS_STATE = 4 ∧ 200000 ≤ s.since s.conv.stopAt ∧ s.enabled unitConv = true ∧ s.forceOn unitConv = none ∧ s.get R.CONV_STATUS_RETRIES < 3) ∧
    (let e4 : Engine := { Engine.init with act := [(336, 0x41400000), (344, 0x7C)], prog := .converter }; let s : State := withUnit ((up 6).setEng 4 e4) 8; (s.get R.CONV_STATUS_STATE ≠ 4 ∨ s.since s.conv.stopAt < 200000)) ∧
    (let s : State := up 6; let k := 3; let a := 21; let b := 22; (s.unitChans unitConv).find? (fun h => s.chanFunc h = 2 && s.chanUnit h = k && s.chanLeg h = 0) = some a ∧ (s.unitChans unitConv).find? (fun h => s.chanFunc h = 2 && s.chanUnit h = k && s.chanLeg h = 1) = some b) ∧
    (let s : State := (List.range 48).foldl (fun t h => t.wr (R.EDGE_CH_CFG h) 0) (up 6); s.unitChans unitConv = []) ∧
    (let e4 : Engine := { Engine.init with act := [(336, 0x41400000), (344, 0x7C)], prog := .converter }; let s : State := withUnit ((up 6).setEng 4 e4) 8; s.running = true ∧ s.enabled unitConv = true ∧ s.forceOn unitConv = none) ∧
    (let e4 : Engine := { Engine.init with act := [(336, 0x41400000), (344, 0x7C)], prog := .converter }; let s : State := { ((up 6).setEng 4 e4).putB (R.FE_STATUS_RUNNING 4) true with conv.voBad := 2 }; s.flag (R.FE_STATUS_RUNNING 4) = true ∧ (s.eng 4).prog = .converter ∧ 2 ≤ s.conv.voBad ∧ s.conv.voTold = false) ∧
    (let s : State := up 6; (s.conv.voBad < 2 ∨ s.conv.voTold = true)) := by
  and_intros <;> decide +kernel

theorem test_meets_ChargerCommands :
    (let c := cm 0xD []; let s : State := fly (up 7) 0x3000 c; c.target ≠ 0x0E ∧ s.startable c 0x3000 = true) ∧
    (let c := cm 0xD []; let s : State := fly (up 7) 0x3001 c; c.target ≠ 0x0E ∧ s.startable c 0x3001 = true) ∧
    (let c := cm 0xD []; let s : State := fly (up 7) 0x3002 c; c.target ≠ 0x0E ∧ s.startable c 0x3002 = true) ∧
    (let c := cm 0xD []; let s : State := fly (up 7) 0x3003 c; c.target ≠ 0x0E ∧ s.startable c 0x3003 = true) ∧
    (let c := cm 0xD []; let s : State := fly (up 7) 0x3004 c; c.target ≠ 0x0E ∧ s.startable c 0x3004 = true) ∧
    (let c := cm 0xD []; let s : State := fly (up 7) 0x3005 c; c.target ≠ 0x0E ∧ s.startable c 0x3005 = true) ∧
    (let c := cm 0xE []; let s : State := fly (up 7) 0x2010 c; c.target ≠ 0x0D ∧ s.startable c 0x2010 = true) ∧
    (let c := cm 0xE []; let s : State := fly (up 7) 0x2011 c; c.target ≠ 0x0D ∧ s.startable c 0x2011 = true) ∧
    (let c := cm 0xE []; let s : State := fly (up 7) 0x2012 c; c.target ≠ 0x0D ∧ s.startable c 0x2012 = true) ∧
    (let e5 : Engine := { Engine.init with act := [(448, 0x42C80000)] }; let c := cm 0xE [0, 0, 0x20, 0x41, 0, 0, 0xC8, 0x43, 0, 0, 0, 0x41, 0, 0, 0x80, 0x40, 0, 0, 0x20, 0x41, 0, 0, 0x80, 0x3F]; let s : State := fly (((up 7).setEng 5 e5).put R.CHG_OVP_VMAX 4000) 0x3000 c; c.target = 0x0E ∧ s.startable c 0x3000 = true ∧ s.modeOk 0x3000 false = true ∧ 24 ≤ c.payload.length ∧ phaseWordsOk c = true ∧ fLe fOne (argW c 16) = true ∧ fLe (argW c 16) ((s.eng 5).nextWord 448) = true ∧ fLe (argW c 20) s.vbattMax = true ∧ s.get R.CHG_OVP_VMAX ≠ 0 ∧ s.flag R.CHG_STATUS_TIMER_HV = false) ∧
    (let e5 : Engine := { Engine.init with act := [(448, 0x42C80000)] }; let c := cm 0xE [0, 0, 0x20, 0x41, 0, 0, 0xC8, 0x43, 0, 0, 0, 0x41, 0, 0, 0x80, 0x40, 0, 0, 0x20, 0x41, 0, 0, 0x80, 0x3F]; let s : State := fly ((((up 7).setEng 5 e5).put R.CHG_OVP_VMAX 4000).putB R.CHG_STATUS_TIMER_HV true) 0x3000 c; c.target = 0x0E ∧ s.startable c 0x3000 = true ∧ s.modeOk 0x3000 false = true ∧ 24 ≤ c.payload.length ∧ phaseWordsOk c = true ∧ fLe fOne (argW c 16) = true ∧ fLe (argW c 16) ((s.eng 5).nextWord 448) = true ∧ fLe (argW c 20) s.vbattMax = true ∧ s.get R.CHG_OVP_VMAX ≠ 0 ∧ s.flag R.CHG_STATUS_TIMER_HV = true) ∧
    (let e5 : Engine := { Engine.init with act := [(448, 0x42C80000)] }; let c := cm 0xE (List.replicate 24 0); let s : State := fly (((up 7).setEng 5 e5).put R.CHG_OVP_VMAX 4000) 0x3000 c; c.target = 0x0E ∧ s.startable c 0x3000 = true ∧ s.modeOk 0x3000 false = true ∧ phaseWordsOk c = false) ∧
    (let e5 : Engine := { Engine.init with act := [(448, 0x42C80000)] }; let c := cm 0xE [0, 0, 0x20, 0x41, 0, 0, 0xC8, 0x43, 0, 0, 0, 0x41, 0, 0, 0x80, 0x40, 0, 0, 0x20, 0x41, 0, 0, 0x80, 0x3F]; let s : State := fly (((up 7).setEng 5 e5).put R.CHG_OVP_VMAX 4000) 0x3001 c; c.target = 0x0E ∧ s.startable c 0x3001 = true ∧ s.modeOk 0x3001 false = true) ∧
    (let c := cm 0xE [0, 0, 0x20, 0x41, 0, 0, 0xC8, 0x43, 0, 0, 0, 0x41, 0, 0, 0x80, 0x40, 0, 0, 0x20, 0x41, 0, 0, 0x80, 0x3F]; let s : State := fly ({ (up 7).put R.CHG_OVP_VMAX 4000 with chg.hv.phase := 6 }) 0x3004 c; c.target = 0x0E ∧ s.startable c 0x3004 = true ∧ s.modeOk 0x3004 false = true ∧ s.pairsLost = false ∧ s.chg.hv.phase = 6 ∧ fLe s.vbattMax (s.linkVolts (s.get R.SAFE_DCL_STATUS_VALUE)) = false) ∧
    (let e5 : Engine := { Engine.init with act := [(448, 0x42C80000)] }; let c := cm 0xE [0, 0, 0x20, 0x41, 0, 0, 0xC8, 0x43, 0, 0, 0, 0x41, 0, 0, 0x80, 0x40, 0, 0, 0x20, 0x41, 0, 0, 0x80, 0x3F]; let s : State := fly (((up 7).setEng 5 e5).put R.CHG_OVP_VMAX 4000) 0x3004 c; c.target = 0x0E ∧ s.startable c 0x3004 = true ∧ s.modeOk 0x3004 false = true ∧ s.chg.hv.phase ≠ 6) ∧
    (let e5 : Engine := { Engine.init with act := [(448, 0x42C80000)] }; let c := cm 0xE [0, 0, 0x20, 0x41, 0, 0, 0xC8, 0x43, 0, 0, 0, 0x41, 0, 0, 0x80, 0x40, 0, 0, 0x20, 0x41, 0, 0, 0x80, 0x3F]; let s : State := fly (((up 7).setEng 5 e5).put R.CHG_OVP_VMAX 4000) 0x3003 c; c.target = 0x0E ∧ s.startable c 0x3003 = true ∧ s.modeOk 0x3003 true = true) ∧
    (let c := cm 0xE [0, 0, 0xA0, 0x42, 0, 0, 0x80, 0x3F]; let s : State := fly (up 7) 0x3002 c; c.target = 0x0E ∧ s.startable c 0x3002 = true ∧ 8 ≤ c.payload.length ∧ fLe (fZero false) (argW c 16) = true ∧ fLe (argW c 16) (fOfNat 80) = true ∧ fLe (fZero false) (argW c 20) = true ∧ fLe (argW c 20) fOne = true) ∧
    (let c := cm 0xE [0, 0, 0, 0x42]; let s : State := fly (up 7) 0x3005 c; c.target = 0x0E ∧ s.startable c 0x3005 = true ∧ 4 ≤ c.payload.length ∧ fLe fOne (argW c 16) = true ∧ fLe (argW c 16) (fOfNat 32) = true) ∧
    (let c := cm 0xD [0, 0, 0x48, 0x43]; let s : State := fly (up 7) 0x2012 c; c.target = 0x0D ∧ s.startable c 0x2012 = true ∧ 4 ≤ c.payload.length ∧ fLe fOne (argW c 16) = true ∧ fLe (argW c 16) (fOfNat 200) = true) ∧
    (let e5 : Engine := { Engine.init with act := [(448, 0x42C80000)] }; let c := cm 0xD [0, 0, 0x48, 0x43, 0, 0, 0x40, 0x41, 0, 0, 0, 0x41, 0, 0, 0x80, 0x40, 0, 0, 0x20, 0x41, 0, 0, 0x80, 0x3F]; let s : State := fly (((up 7).setEng 5 e5).put R.CHG_OVP_VMAX 4000) 0x2010 c; c.target = 0x0D ∧ s.startable c 0x2010 = true ∧ s.lvMode = true ∧ 24 ≤ c.payload.length ∧ phaseWordsOk c = true ∧ fLe fOne (argW c 16) = true ∧ fLe (argW c 16) (fOfNat 200) = true ∧ s.convVset (argW c 20) = true ∧ s.flag R.CHG_STATUS_TIMER_LV = false) ∧
    (let e5 : Engine := { Engine.init with act := [(448, 0x42C80000)] }; let c := cm 0xD []; let s : State := fly (((up 7).setEng 5 e5).put R.CHG_OVP_VMAX 4000) 0x2011 c; c.target = 0x0D ∧ s.startable c 0x2011 = true ∧ s.modeOk 0x2011 false = true) := by
  and_intros <;> decide +kernel

theorem test_meets_PilotsAndChargePhases :
    (let s : State := State.reset; let vh : Int := 0; let vl : Int := 0; let f : Nat := 0; let mv : Nat := 0; (s.running = false ∨ s.md = .discover ∨ s.md = .commission ∨ s.md = .safeStop)) ∧
    (let s : State := up 11; let vh : Int := 0; let vl : Int := 0; let f : Nat := 0; let mv : Nat := 0; (s.running = false ∨ s.md = .discover ∨ s.md = .commission ∨ s.md = .safeStop)) ∧
    (let s : State := (up 7).put R.CHG_STATUS_PILOT 0; let vh : Int := 120; let vl : Int := -120; let f : Nat := 1000; s.chgMonitors = true ∧ s.md ≠ .supply ∧ pilotOf vh = s.get R.CHG_STATUS_PILOT) ∧
    (let s : State := (up 5).put R.CHG_STATUS_PILOT 1; let vh : Int := 105; let vl : Int := 0; let f : Nat := 0; s.running = true ∧ s.md = .standby ∧ s.mode.trans = none ∧ pilotOf vh ≠ s.get R.CHG_STATUS_PILOT) ∧
    (let s : State := (up 7).put R.CHG_STATUS_PILOT 2; let vh : Int := 15; let vl : Int := 0; let f : Nat := 0; s.running = true ∧ s.md = .charge ∧ s.pairsLost = false ∧ pilotOf vh ≠ s.get R.CHG_STATUS_PILOT ∧ 1 ≤ pilotOf vh ∧ pilotOf vh ≤ 3) ∧
    (let s : State := (up 7).put R.CHG_STATUS_PILOT 2; let vh : Int := 75; let vl : Int := 0; let f : Nat := 0; s.running = true ∧ s.md = .charge ∧ s.pairsLost = false ∧ pilotOf vh ≠ s.get R.CHG_STATUS_PILOT ∧ 1 ≤ pilotOf vh ∧ pilotOf vh ≤ 3) ∧
    (let vh : Int := 105; 105 ≤ vh) ∧
    (let vh : Int := 75; 75 ≤ vh ∧ vh < 105) ∧
    (let vh : Int := 45; 45 ≤ vh ∧ vh < 75) ∧
    (let vh : Int := 15; 15 ≤ vh ∧ vh < 45) ∧
    (let vh : Int := (-15); -15 ≤ vh ∧ vh < 15) ∧
    (let vh : Int := (-16); vh < -15) ∧
    (let s : State := up 5; let mv := 1800; s.running = true ∧ s.md = .standby ∧ s.mode.plugHold = false ∧ ppCode (s.get R.CHG_PILOT_CFG_PP_PU) mv = s.get R.CHG_STATUS_PP) ∧
    (let s : State := up 6; let mv := 0; s.running = true ∧ s.md = .drive ∧ s.pairsLost = false ∧ s.mode.trans = none ∧ s.mode.plugHold = false ∧ s.get R.CHG_STATUS_PP = 0 ∧ 1 ≤ ppCode (s.get R.CHG_PILOT_CFG_PP_PU) mv) ∧
    (let pu : Nat := 470; let mv : Nat := 1800; 1800 ≤ mv) ∧
    (let s : State := up 7; let vh : Int := 75; (75 ≤ vh ∨ s.md ≠ .supply ∨ s.mode.v2v = false ∨ s.chg.cpHigh = false ∨ s.since s.chg.cpAt < 100000)) ∧
    (let s : State := { up 8 with atime := 99999, mode.v2v := true, chg.cpHigh := true }; let vh : Int := 74; (75 ≤ vh ∨ s.md ≠ .supply ∨ s.mode.v2v = false ∨ s.chg.cpHigh = false ∨ s.since s.chg.cpAt < 100000)) ∧
    (let s : State := { up 8 with atime := 100000, mode.v2v := true, chg.cpHigh := true }; let vh : Int := 74; vh < 75 ∧ s.md = .supply ∧ s.mode.v2v = true ∧ s.chg.cpHigh = true ∧ 100000 ≤ s.since s.chg.cpAt) ∧
    (let s : State := up 7; let lv := true; let m : F32 := 0; ((s.chg.target lv).onTime = false ∨ s.passed5 (s.chg.target lv).at_ (if lv then 346 else 340) = false)) ∧
    (let s : State := { up 7 with chg := (up 7).chg.setTarget true { Charge.init with phase := 2, armed := true } }; let lv := true; let m : F32 := 0; (s.chg.target lv).onTime = true ∧ s.passed5 (s.chg.target lv).at_ (if lv then 346 else 340) = true ∧ (s.chg.target lv).phase = 2) ∧
    (let s : State := { (up 7).setEng 5 { Engine.init with act := [(344, 0x3F800000)] } with chg := (up 7).chg.setTarget true { Charge.init with phase := 3, armed := true } }; let lv := true; let m : F32 := 0; (s.chg.target lv).onTime = true ∧ s.passed5 (s.chg.target lv).at_ (if lv then 346 else 340) = true ∧ (s.chg.target lv).phase = 3 ∧ fLt m ((s.eng 5).word (if lv then 344 else 338)) = true) ∧
    (let s : State := up 7; let lv := true; let a : F32 := 0; let b : F32 := 0; let d : F32 := 0; let i : F32 := 0; let z := true; ((s.chg.target lv).rest = false ∨ s.passed5 (s.chg.target lv).at_ (if lv then 347 else 341) = false)) ∧
    (let s : State := { up 7 with chg.lv.rest := true }; let lv := true; let a : F32 := 0x41600000; let b : F32 := 0x41500000; let d : F32 := 0x41400000; let i : F32 := 0x40000000; (s.chg.target lv).rest = true ∧ s.passed5 (s.chg.target lv).at_ (if lv then 347 else 341) = true ∧ (lv = false ∨ fLt (fSub a d) ((s.eng 5).word 362) = false ∨ fLe (fMul (fOfRatio 2 10) ((s.eng 5).word 342)) i = false)) ∧
    (let s : State := { (up 7).setEng 5 { Engine.init with act := [(362, 0x3F800000), (342, 0x40000000)] } with chg.lv.rest := true }; let lv := true; let a : F32 := 0; let b : F32 := 0; let d : F32 := 0; let i : F32 := 0x3F800000; let z := false; lv = true ∧ s.chg.lv.rest = true ∧ s.passed5 s.chg.lv.at_ 347 = true ∧ fLt (fSub a d) ((s.eng 5).word 362) = true ∧ fLe (fMul (fOfRatio 2 10) ((s.eng 5).word 342)) i = true) ∧
    (let s : State := { up 7 with atime := 1999999, chg.lv.phase := 1 }; let lv := true; ((s.chg.target lv).phase ≠ 1 ∨ s.since (s.chg.target lv).at_ < 2000000)) ∧
    (let s : State := { up 7 with atime := 2000000, chg.lv.phase := 1 }; let lv := true; (s.chg.target lv).phase = 1 ∧ 2000000 ≤ s.since (s.chg.target lv).at_) ∧
    (let s : State := up 7; let lv := true; ((s.chg.target lv).phase ≠ 4 ∨ (s.chg.target lv).low = none)) ∧
    (let s : State := { up 7 with atime := 9999999, chg.lv.phase := 4, chg.lv.low := some 0 }; let lv := true; let a : Time := 0; (s.chg.target lv).low = some a ∧ s.since a < 10000000) ∧
    (let s : State := { up 7 with atime := 10000000, chg.lv.phase := 4, chg.lv.low := some 0 }; let lv := true; let a : Time := 0; (s.chg.target lv).phase = 4 ∧ (s.chg.target lv).low = some a ∧ 10000000 ≤ s.since a) ∧
    (let s : State := up 7; let lv := true; ((s.chg.target lv).wd = true ∨ ((s.chg.target lv).armed = false ∧ (lv = true ∨ s.md ≠ .supply)) ∨ s.passed5 (s.chg.target lv).seqAt 451 = false)) ∧
    (let s : State := { up 7 with chg.lv.armed := true }; let lv := true; (s.chg.target lv).wd = false ∧ ((s.chg.target lv).armed = true ∨ (lv = false ∧ s.md = .supply)) ∧ s.passed5 (s.chg.target lv).seqAt 451 = true) ∧
    (let s : State := up 8; let lv := false; (s.chg.target lv).wd = false ∧ ((s.chg.target lv).armed = true ∨ (lv = false ∧ s.md = .supply)) ∧ s.passed5 (s.chg.target lv).seqAt 451 = true) ∧
    (let s : State := up 7; let lv := true; ((s.chg.target lv).timer = none ∨ s.flag (if lv then R.CHG_STATUS_TIMER_LV else R.CHG_STATUS_TIMER_HV) = true ∨ s.timerMin (s.chg.target lv).timer < s.get R.CHG_TIMERS_TIMER_MAX)) ∧
    (let s : State := { (up 7).put R.CHG_TIMERS_TIMER_MAX 1 with atime := 60000000, chg.lv.timer := some 0 }; let lv := true; (s.chg.target lv).timer.isSome = true ∧ s.flag (if lv then R.CHG_STATUS_TIMER_LV else R.CHG_STATUS_TIMER_HV) = false ∧ s.get R.CHG_TIMERS_TIMER_MAX ≤ s.timerMin (s.chg.target lv).timer ∧ s.pairsLost = false) ∧
    (let s : State := { (up 7).put R.CHG_TIMERS_TIMER_MAX 1 with atime := 60000000, chg.hv.timer := some 0, chg.hv.phase := 6 }; let lv := false; (s.chg.target lv).timer.isSome = true ∧ s.flag (if lv then R.CHG_STATUS_TIMER_LV else R.CHG_STATUS_TIMER_HV) = false ∧ s.get R.CHG_TIMERS_TIMER_MAX ≤ s.timerMin (s.chg.target lv).timer ∧ s.pairsLost = false) ∧
    (let s : State := up 7; let lv := true; (s.chg.lv.phase < 2 ∨ 4 < s.chg.lv.phase)) ∧
    (let s : State := { up 7 with chg.lv.phase := 4 }; let lv := true; 2 ≤ s.chg.lv.phase ∧ s.chg.lv.phase ≤ 4) ∧
    (let s : State := { (up 7).setEng 4 { Engine.init with act := [(336, 0x3F800000)] } with chg.lv.phase := 4, chg.lv.armed := true }; let lv := true; s.chg.lv.armed = true ∧ 1 ≤ s.chg.lv.phase ∧ s.chg.lv.phase ≤ 4 ∧ fLt (fAbs (fSub ((s.eng 5).seen 393) ((s.eng 4).nextWord 336))) (fOfRatio 1 1000) = false) ∧
    (let s : State := up 7; let lv := true; (s.chg.lv.armed = false ∨ s.chg.lv.phase = 0 ∨ 4 < s.chg.lv.phase ∨ fLt (fAbs (fSub ((s.eng 5).seen 393) ((s.eng 4).nextWord 336))) (fOfRatio 1 1000) = true)) ∧
    (let s : State := { up 8 with chg.sup := 3 }; let lv := true; s.md = .supply ∧ 1 ≤ s.chg.sup ∧ s.chg.sup ≤ 3) ∧
    (let s : State := up 7; let lv := true; (s.md ≠ .supply ∨ s.chg.sup = 0 ∨ 3 < s.chg.sup)) := by
  and_intros <;> decide +kernel

theorem test_meets_MotionCommands :
    (let m := 3; let c := cm 0xE [3]; let s : State := fly (up 6) 0x4000 c; arg c 16 1 = m ∧ s.startable c 0x4000 = true ∧ c.target ≠ 0x0F) ∧
    (let m := 3; let c := cm 0xE [3]; let s : State := fly (up 6) 0x4001 c; arg c 16 1 = m ∧ s.startable c 0x4001 = true ∧ c.target ≠ 0x0F) ∧
    (let m := 3; let c := cm 0xE [3]; let s : State := fly (up 6) 0x4002 c; arg c 16 1 = m ∧ s.startable c 0x4002 = true ∧ c.target ≠ 0x0F) ∧
    (let m := 3; let c := cm 0xE [3]; let s : State := fly (up 6) 0x4003 c; arg c 16 1 = m ∧ s.startable c 0x4003 = true ∧ c.target ≠ 0x0F) ∧
    (let m := 3; let c := cm 0xE [3]; let s : State := fly (up 6) 0x4010 c; arg c 16 1 = m ∧ s.startable c 0x4010 = true ∧ c.target ≠ 0x0F) ∧
    (let m := 3; let c := cm 0xF ([3, 0, 0, 0] ++ List.replicate 8 0); let s : State := fly ((up 6).setEng 7 { Engine.init with act := [(352, 1)] }) 0x4000 c; arg c 16 1 = m ∧ s.startable c 0x4000 = true ∧ c.target = 0x0F ∧ 12 ≤ c.payload.length ∧ m < nMotors s.part ∧ (s.actNext m 12).toNat ≠ 2 ∧ s.unitHeld (4 + m) = false ∧ (s.actNext m 0).toNat ≠ 0 ∧ fLe (fAbs (argW c 20)) ((s.eng (actEngine m)).nextWord (448 + m % 2)) = true) ∧
    (let m := 3; let c := cm 0xF ([3, 0, 0, 0] ++ List.replicate 8 0); let s : State := fly ((up 6).setEng 7 { Engine.init with act := [(352, 1)] }) 0x4001 c; arg c 16 1 = m ∧ s.startable c 0x4001 = true ∧ c.target = 0x0F ∧ 12 ≤ c.payload.length ∧ m < nMotors s.part ∧ (s.actNext m 12).toNat ≠ 2 ∧ s.unitHeld (4 + m) = false ∧ (s.actNext m 0).toNat ≠ 0 ∧ fLe (fAbs (argW c 20)) (fOfNat 2000) = true ∧ fLe (fZero false) (argW c 24) = true ∧ fLe (argW c 24) ((s.eng (actEngine m)).nextWord (448 + m % 2)) = true) ∧
    (let m := 3; let c := cm 0xF ([3, 0, 0, 0] ++ List.replicate 8 0); let s : State := fly ((up 6).setEng 7 { Engine.init with act := [(352, 1)] }) 0x4002 c; arg c 16 1 = m ∧ s.startable c 0x4002 = true ∧ c.target = 0x0F ∧ 12 ≤ c.payload.length ∧ m < nMotors s.part ∧ (s.actNext m 12).toNat ≠ 2 ∧ s.unitHeld (4 + m) = false ∧ (s.actNext m 0).toNat ≠ 0 ∧ fLe (fAbs (argW c 20)) (fOfNat 1000000) = true) ∧
    (let m := 3; let c := cm 0xF ([3, 0, 0, 0] ++ List.replicate 8 0); let s : State := fly ((up 6).setEng 7 { Engine.init with act := [(364, 2)] }) 0x4000 c; arg c 16 1 = m ∧ s.startable c 0x4000 = true ∧ c.target = 0x0F ∧ 12 ≤ c.payload.length ∧ m < nMotors s.part ∧ ((s.actNext m 12).toNat = 2 ∨ s.unitHeld (4 + m) = true)) ∧
    (let m := 3; let c := cm 0xF ([3, 0, 0, 0] ++ List.replicate 8 0); let s : State := fly ((up 6).setEng 7 { Engine.init with act := [(364, 2)] }) 0x4001 c; arg c 16 1 = m ∧ s.startable c 0x4001 = true ∧ c.target = 0x0F ∧ 12 ≤ c.payload.length ∧ m < nMotors s.part ∧ ((s.actNext m 12).toNat = 2 ∨ s.unitHeld (4 + m) = true)) ∧
    (let m := 3; let c := cm 0xF ([3, 0, 0, 0] ++ List.replicate 8 0); let s : State := fly ((up 6).setEng 7 { Engine.init with act := [(364, 2)] }) 0x4002 c; arg c 16 1 = m ∧ s.startable c 0x4002 = true ∧ c.target = 0x0F ∧ 12 ≤ c.payload.length ∧ m < nMotors s.part ∧ ((s.actNext m 12).toNat = 2 ∨ s.unitHeld (4 + m) = true)) ∧
    (let m := 4; let c := cm 0xF [4]; let s : State := fly ((up 6).setEng 7 { Engine.init with act := [(352, 1)] }) 0x4000 c; arg c 16 1 = m ∧ s.startable c 0x4000 = true ∧ c.target = 0x0F ∧ nMotors s.part ≤ m) ∧
    (let m := 4; let c := cm 0xF [4]; let s : State := fly ((up 6).setEng 7 { Engine.init with act := [(352, 1)] }) 0x4001 c; arg c 16 1 = m ∧ s.startable c 0x4001 = true ∧ c.target = 0x0F ∧ nMotors s.part ≤ m) ∧
    (let m := 4; let c := cm 0xF [4]; let s : State := fly ((up 6).setEng 7 { Engine.init with act := [(352, 1)] }) 0x4002 c; arg c 16 1 = m ∧ s.startable c 0x4002 = true ∧ c.target = 0x0F ∧ nMotors s.part ≤ m) ∧
    (let m := 3; let c := cm 0xF ([3, 0, 0, 0] ++ List.replicate 8 0); let s : State := fly ((up 6).setEng 7 { Engine.init with act := [(352, 1)] }) 0x4003 c; arg c 16 1 = m ∧ s.startable c 0x4003 = true ∧ c.target = 0x0F ∧ s.modeOk 0x4003 true = true ∧ 1 ≤ c.payload.length ∧ m < nMotors s.part ∧ (s.actWord m 0).toNat ≠ 0) ∧
    (let m := 3; let c := cm 0xF ([3, 0, 0, 0] ++ List.replicate 8 0); let s : State := fly ((up 6).setEng 7 { Engine.init with act := [(352, 1)] }) 0x4010 c; arg c 16 1 = m ∧ s.startable c 0x4010 = true ∧ c.target = 0x0F ∧ s.modeOk 0x4010 true = true ∧ 1 ≤ c.payload.length ∧ m < 4) := by
  and_intros <;> decide +kernel

theorem test_meets_ParkLock :
    (let c := cm 0 []; let s : State := fly (up 5) 0x0102 c; c.target = 0 ∧ (s.md = .standby ∨ s.md = .drive ∨ s.md = .degraded ∨ s.md = .service) ∧ s.startable c 0x0102 = true ∧ s.standstill = true ∧ s.pairsLost = false) ∧
    (let c := cm 0 []; let s : State := fly ((up 5).setEng 7 { Engine.init with act := [(364, 2)] }) 0x0102 c; c.target = 0 ∧ (s.md = .standby ∨ s.md = .drive ∨ s.md = .degraded ∨ s.md = .service) ∧ s.startable c 0x0102 = true ∧ s.standstill = true ∧ s.pairsLost = false) ∧
    (let c := cm 0 []; let s : State := fly ((up 6).setEng 3 { Engine.init with committed := [(385, 0x461C4000)] }) 0x0102 c; c.target = 0 ∧ s.startable c 0x0102 = true ∧ s.standstill = false) ∧
    (let c := cm 0 []; let s : State := fly ((up 5).setEng 7 { Engine.init with act := [(364, 2)] }) 0x0103 c; c.target = 0 ∧ s.startable c 0x0103 = true ∧ s.modeOk 0x0103 false = true ∧ s.md ≠ .charge ∧ s.md ≠ .supply ∧ s.md ≠ .safeStop ∧ s.pairsLost = false) ∧
    (let c := cm 0 []; let s : State := fly (up 11) 0x0103 c; c.target = 0 ∧ s.startable c 0x0103 = true ∧ s.md = .safeStop) ∧
    (let s : State := up 5; fIsZero (s.rd R.MOT_PARK_TOL) = true) ∧
    (let s : State := up 5; s.mot.park = none) ∧
    (let s : State := { (up 5).put R.MOT_PARK_CFG_SETTLE 1 with mot.park := some (true, 0), mot.parkSince := some 0, atime := 9999 }; let a : Time := 0; let b : Time := 0; s.mot.parkSince = some b ∧ s.since b < 10000 * s.get R.MOT_PARK_CFG_SETTLE ∧ s.mot.park = some (true, a)) ∧
    (let s : State := { (((up 5).put R.MOT_PARK_CFG_SETTLE 1).wr R.MOT_PARK_TOL 0x3F800000).setEng 7 { Engine.init with act := [(364, 2)] } with mot.park := some (true, 0), mot.parkSince := some 0, atime := 10000 }; let a : Time := 0; let b : Time := 0; s.parkOk = true ∧ s.mot.parkSince = some b ∧ 10000 * s.get R.MOT_PARK_CFG_SETTLE ≤ s.since b ∧ s.mot.park = some (true, a) ∧ s.md ≠ .safeStop ∧ s.pairsLost = false) ∧
    (let s : State := { (((up 5).put R.MOT_PARK_CFG_SETTLE 1).wr R.MOT_PARK_TOL 0x3F800000).setEng 7 { Engine.init with act := [(364, 2)] } with mot.park := some (false, 0), mot.parkSince := some 0, atime := 10000 }; let a : Time := 0; let b : Time := 0; s.parkOk = true ∧ s.mot.parkSince = some b ∧ 10000 * s.get R.MOT_PARK_CFG_SETTLE ≤ s.since b ∧ s.mot.park = some (false, a) ∧ s.md ≠ .safeStop ∧ s.pairsLost = false) ∧
    (let s : State := { (up 5).put R.MOT_PARK_CFG_TIMEOUT 2 with mot.park := some (true, 0), atime := 19999 }; let x := true; let a : Time := 0; s.mot.park = some (x, a) ∧ s.since a < 10000 * s.get R.MOT_PARK_CFG_TIMEOUT) ∧
    (let s : State := { (up 5).put R.MOT_PARK_CFG_TIMEOUT 2 with mot.park := some (true, 0), atime := 20000 }; let x := true; let a : Time := 0; s.mot.park = some (x, a) ∧ 10000 * s.get R.MOT_PARK_CFG_TIMEOUT ≤ s.since a) ∧
    (let s : State := up 5; (s.parkMotor = none ∨ s.flag R.SYS_MODE_PARK = false)) ∧
    (let s : State := ((up 5).putB R.SYS_MODE_PARK true).setEng 7 { Engine.init with act := [(364, 2)] }; let m := 3; s.parkMotor = some m ∧ s.flag R.SYS_MODE_PARK = true ∧ s.mot.park = none ∧ fLt (s.rd R.MOT_PARK_TOL) (fAbs (fSub ((s.eng (actEngine m)).seen (actOut m)) (s.actWord m 13))) = false) ∧
    (let s : State := { (((up 5).putB R.SYS_MODE_PARK true).put R.MOT_PARK_CFG_SETTLE 3).setEng 7 { Engine.init with act := [(364, 2), (365, 0x42C80000)] } with mot.parkOut := 1 }; let m := 3; s.parkMotor = some m ∧ s.flag R.SYS_MODE_PARK = true ∧ s.mot.park = none ∧ fLt (s.rd R.MOT_PARK_TOL) (fAbs (fSub ((s.eng (actEngine m)).seen (actOut m)) (s.actWord m 13))) = true ∧ s.mot.parkOut + 1 < s.get R.MOT_PARK_CFG_SETTLE) ∧
    (let s : State := { (((up 5).putB R.SYS_MODE_PARK true).put R.MOT_PARK_CFG_SETTLE 3).setEng 7 { Engine.init with act := [(364, 2), (365, 0x42C80000)] } with mot.parkOut := 2 }; let m := 3; s.parkMotor = some m ∧ s.flag R.SYS_MODE_PARK = true ∧ s.mot.park = none ∧ fLt (s.rd R.MOT_PARK_TOL) (fAbs (fSub ((s.eng (actEngine m)).seen (actOut m)) (s.actWord m 13))) = true ∧ s.get R.MOT_PARK_CFG_SETTLE ≤ s.mot.parkOut + 1) := by
  and_intros <;> decide +kernel

theorem test_meets_PositionInterfaces :
    (let k := 4; let s : State := up 6; let a := true; let b := true; let dt : Nat := 9; (4 ≤ k ∨ s.motLive = false ∨ s.flag (R.MOT_ENC_CFG_EN k) = false)) ∧
    (let k := 3; let s : State := { (up 6).putB (R.MOT_ENC_CFG_EN 3) true with atime := 999 }; (4 ≤ k ∨ s.running = false ∨ s.flag (R.MOT_ENC_CFG_EN k) = false ∨ s.since (s.enc k).lastAt < 1000 * max 1 (s.get (R.MOT_ENC_CFG_STOP_TIME k)))) ∧
    (let k := 3; let s : State := (up 6).putB (R.MOT_ENC_CFG_EN 3) true; let dt : Nat := 0; k < 4 ∧ s.motLive = true ∧ s.flag (R.MOT_ENC_CFG_EN k) = true) ∧
    (let k := 3; let s : State := (up 6).putB (R.MOT_ENC_CFG_EN 3) true; let a := true; let b := false; let dt : Nat := 0; k < 4 ∧ s.motLive = true ∧ s.flag (R.MOT_ENC_CFG_EN k) = true ∧ (a ≠ (s.enc k).a ↔ b = (s.enc k).b)) ∧
    (let k := 3; let s : State := (up 6).putB (R.MOT_ENC_CFG_EN 3) true; let a := true; let b := true; let dt : Nat := 0; k < 4 ∧ s.motLive = true ∧ s.flag (R.MOT_ENC_CFG_EN k) = true ∧ a ≠ (s.enc k).a ∧ b ≠ (s.enc k).b) ∧
    (let k := 3; let s : State := (up 6).putB (R.MOT_ENC_CFG_EN 3) true; k < 4 ∧ s.motLive = true ∧ s.flag (R.MOT_ENC_CFG_EN k) = true ∧ (s.flag (R.MOT_ENC_CFG_Z_GATE k) = false ∨ ((s.enc k).a = true ∧ (s.enc k).b = true))) ∧
    (let k := 3; let s : State := { (up 6).putB (R.MOT_ENC_CFG_EN 3) true with atime := 1000000 }; k < 4 ∧ s.motLive = true ∧ s.flag (R.MOT_ENC_CFG_EN k) = true ∧ 1000 * max 1 (s.get (R.MOT_ENC_CFG_STOP_TIME k)) ≤ s.since (s.enc k).lastAt) ∧
    (let k := 1; let s : State := (up 6).put R.OWN_STATUS_OWNER 1; let w := Writer.hostA; let v : Word := 1; s.mayWrite w 0x0F = false ∧ w ≠ .service) ∧
    (let k := 1; let s : State := up 6; let v : Word := 1; s.running = true ∧ s.mayWrite .service 0x0F = false) ∧
    (let k := 3; let s : State := up 4; let w := Writer.steward; let v : Word := 0xFFFFFFFF; k < 4 ∧ s.running = true ∧ s.writerLive w = true ∧ s.mayWrite w 0x0F = true ∧ s.md = .commission ∧ s.flag (R.MOT_ENC_CFG_EN k) = false ∧ bitOf v (R.MOT_ENC_CFG_EN k).lo = true) ∧
    (let k := 1; let s : State := up 6; let w := Writer.steward; let v : Word := 1; s.md ≠ .commission) ∧
    (let k := 3; let s : State := (up 6).putB (R.MOT_ENC_CFG_EN 3) true; let code : Nat := 1; (3 ≤ k ∨ s.motLive = false ∨ s.flag (R.MOT_HALL_CFG_EN k) = false)) ∧
    (let k := 2; let s : State := ((up 6).putB (R.MOT_HALL_CFG_EN 2) true).put (R.MOT_HALL_MAP_SECT 2 7) 5; let code := 7; k < 3 ∧ s.motLive = true ∧ s.flag (R.MOT_HALL_CFG_EN k) = true ∧ s.get (R.MOT_HALL_MAP_SECT k (code % 8)) ≠ 7) ∧
    (let k := 2; let s : State := ((up 6).putB (R.MOT_HALL_CFG_EN 2) true).put (R.MOT_HALL_MAP_SECT 2 7) 7; let code := 7; k < 3 ∧ s.motLive = true ∧ s.flag (R.MOT_HALL_CFG_EN k) = true ∧ s.get (R.MOT_HALL_MAP_SECT k (code % 8)) = 7 ∧ Sparse.get (always false) s.mot.hallBad k = false) ∧
    (let k := 2; let s : State := { ((up 6).putB (R.MOT_HALL_CFG_EN 2) true).put (R.MOT_HALL_MAP_SECT 2 7) 7 with mot.hallBad := [(2, true)] }; let code := 7; k < 3 ∧ s.motLive = true ∧ s.flag (R.MOT_HALL_CFG_EN k) = true ∧ s.get (R.MOT_HALL_MAP_SECT k (code % 8)) = 7 ∧ Sparse.get (always false) s.mot.hallBad k = true) ∧
    (let k := 2; let s : State := up 6; let y : Nat := 0; let l : List Nat := []; let c := true; let o : Option Nat := none; (2 ≤ k ∨ s.motLive = false ∨ s.flag (R.MOT_SENT_CFG_EN k) = false)) ∧
    (let k := 1; let s : State := { ((up 6).putB (R.MOT_SENT_CFG_EN 1) true).put (R.MOT_SENT_CFG_TO 1) 1 with atime := 999 }; (2 ≤ k ∨ s.running = false ∨ s.flag (R.MOT_SENT_CFG_EN k) = false ∨ Sparse.get (always false) s.mot.sentTold k = true ∨ s.since (Sparse.get (always 0) s.mot.sentAt k) < 1000 * s.get (R.MOT_SENT_CFG_TO k))) ∧
    (let k := 1; let s : State := (up 6).putB (R.MOT_SENT_CFG_EN 1) true; let y : Nat := 0; let l : List Nat := []; let o : Option Nat := none; k < 2 ∧ s.motLive = true ∧ s.flag (R.MOT_SENT_CFG_EN k) = true) ∧
    (let k := 1; let s : State := (((up 6).putB (R.MOT_SENT_CFG_EN 1) true).put (R.MOT_SENT_CFG_TICK 1) 100).put (R.MOT_SENT_CFG_NIBBLES 1) 6; let y : Nat := 5600; let m : Nat := 7; let l : List Nat := [15, 15, 15, 15, 15, 15]; k < 2 ∧ s.motLive = true ∧ s.flag (R.MOT_SENT_CFG_EN k) = true ∧ s.syncFits k y = true ∧ l.all (fun x => decide (x < 16)) = true ∧ l.length = s.get (R.MOT_SENT_CFG_NIBBLES k)) ∧
    (let k := 1; let s : State := { ((up 6).putB (R.MOT_SENT_CFG_EN 1) true).put (R.MOT_SENT_CFG_TO 1) 1 with atime := 1000 }; k < 2 ∧ s.running = true ∧ s.flag (R.MOT_SENT_CFG_EN k) = true ∧ Sparse.get (always false) s.mot.sentTold k = false ∧ 1000 * s.get (R.MOT_SENT_CFG_TO k) ≤ s.since (Sparse.get (always 0) s.mot.sentAt k)) ∧
    (let k := 2; let s : State := (up 6).putB (R.MOT_ENC_CFG_EN 3) true; (2 ≤ k ∨ s.running = false ∨ s.flag (R.MOT_RES_CFG_EN k) = false)) ∧
    (let k := 1; let s : State := (up 6).putB (R.MOT_RES_CFG_EN 1) true; k < 2 ∧ s.running = true ∧ s.flag (R.MOT_RES_CFG_EN k) = true) ∧
    (let k := 1; let s : State := up 4; let w := Writer.steward; let v : Word := 0x83300000; k < 2 ∧ s.running = true ∧ s.writerLive w = true ∧ s.mayWrite w 0x0F = true ∧ bitOf v 31 = true ∧ bitsOf v 27 24 = bitsOf v 23 20 ∧ s.md = .commission) ∧
    (let k := 1; let s : State := up 4; let w := Writer.steward; let v : Word := 0; k < 2 ∧ s.running = true ∧ s.writerLive w = true ∧ s.mayWrite w 0x0F = true ∧ bitOf v 31 = false ∧ s.md = .commission) ∧
    (let k := 1; let s : State := ((up 4).putB (R.EDGE_FC_CFG_EN 15) false).putB (R.EDGE_FC_CFG_EN 14) false; let w := Writer.steward; let v : Word := 0x8FE00000; k < 2 ∧ s.running = true ∧ s.writerLive w = true ∧ s.mayWrite w 0x0F = true ∧ s.md = .commission ∧ bitOf v 31 = true ∧ s.flag (R.EDGE_FC_CFG_EN (bitsOf v 27 24)) = false ∧ s.flag (R.EDGE_FC_CFG_EN (bitsOf v 23 20)) = false ∧ bitsOf v 27 24 < nFast s.part ∧ bitsOf v 23 20 < nFast s.part ∧ bitsOf v 27 24 ≠ bitsOf v 23 20) := by
  and_intros <;> decide +kernel

theorem test_meets_SequencedAcquisition :
    (let raw : Nat := 65535; let sub : Nat := 39; let ch : Nat := 95; let k := 2; let s : State := (((((up 6).putB (R.ACQ_SEQ_CTRL_RUN 1) true).put (R.ACQ_SEQ_CTRL_CUR 1) 63).put (R.ACQ_SEQ_ENTRY_CHANNEL 1 63) 95).put (R.ACQ_SEQ_ENTRY_GROUP 1 63) 15).put (R.ACQ_SEQ_ENTRY_REPEAT_M1 1 63) 0; (2 ≤ k ∨ s.running = false ∨ s.flag (R.ACQ_SEQ_CTRL_RUN k) = false ∨ s.seqWaits k = true)) ∧
    (let raw : Nat := 65535; let sub : Nat := 39; let ch : Nat := 95; let k := 1; let s : State := { ((((up 6).putB (R.ACQ_SEQ_CTRL_RUN 1) true).put (R.ACQ_SEQ_CTRL_CUR 1) 63).put (R.ACQ_SEQ_ENTRY_CHANNEL 1 63) 95) with acq.inserts := [⟨2, 95, 0, 0, 7, 0⟩] }; k < 2 ∧ s.running = true ∧ s.flag (R.ACQ_SEQ_CTRL_RUN k) = true ∧ s.seqWaits k = false ∧ s.diagnosed (s.get (R.ACQ_SEQ_ENTRY_CHANNEL k (s.get (R.ACQ_SEQ_CTRL_CUR k)))) = true) ∧
    (let raw : Nat := 65535; let sub : Nat := 39; let k := 1; let s : State := (((((up 6).putB (R.ACQ_SEQ_CTRL_RUN 1) true).put (R.ACQ_SEQ_CTRL_CUR 1) 63).put (R.ACQ_SEQ_ENTRY_CHANNEL 1 63) 95).put (R.ACQ_SEQ_ENTRY_GROUP 1 63) 15).put (R.ACQ_SEQ_ENTRY_REPEAT_M1 1 63) 0; let e := 63; let ch := 95; k < 2 ∧ s.running = true ∧ s.flag (R.ACQ_SEQ_CTRL_RUN k) = true ∧ s.seqWaits k = false ∧ s.get (R.ACQ_SEQ_CTRL_CUR k) = e ∧ s.diagnosed ch = false ∧ s.get (R.ACQ_SEQ_ENTRY_CHANNEL k e) = ch ∧ s.get (R.ACQ_SEQ_ENTRY_GROUP k e) = 15) ∧
    (let raw : Nat := 65535; let sub : Nat := 39; let ch : Nat := 95; let k := 1; let s : State := ((up 6).put (R.ACQ_SEQ_CTRL_CUR 1) 63).put (R.ACQ_SEQ_ENTRY_REPEAT_M1 1 63) 1; Sparse.get (always 0) s.acq.reps k + 1 ≤ s.get (R.ACQ_SEQ_ENTRY_REPEAT_M1 k (s.get (R.ACQ_SEQ_CTRL_CUR k)))) ∧
    (let raw : Nat := 65535; let sub : Nat := 39; let ch : Nat := 95; let k := 1; let s : State := ((((up 6).put (R.ACQ_SEQ_CTRL_CUR 1) 62).put (R.ACQ_SEQ_ENTRY_GROUP 1 62) 15).put (R.ACQ_SEQ_ENTRY_REPEAT_M1 1 62) 0).putB (R.ACQ_SEQ_ENTRY_END 1 62) false; let e := 62; k < 2 ∧ s.get (R.ACQ_SEQ_CTRL_CUR k) = e ∧ e < 63 ∧ s.get (R.ACQ_SEQ_ENTRY_REPEAT_M1 k e) ≤ Sparse.get (always 0) s.acq.reps k ∧ s.get (R.ACQ_SEQ_ENTRY_GROUP k e) = 15 ∧ s.flag (R.ACQ_SEQ_ENTRY_END k e) = false) ∧
    (let raw : Nat := 65535; let sub : Nat := 39; let ch : Nat := 95; let k := 1; let s : State := (((((up 6).putB (R.ACQ_SEQ_CTRL_RUN 1) true).put (R.ACQ_SEQ_CTRL_CUR 1) 63).put (R.ACQ_SEQ_ENTRY_CHANNEL 1 63) 95).put (R.ACQ_SEQ_ENTRY_GROUP 1 63) 15).put (R.ACQ_SEQ_ENTRY_REPEAT_M1 1 63) 0; let e := 63; k < 2 ∧ s.get (R.ACQ_SEQ_CTRL_CUR k) = e ∧ s.get (R.ACQ_SEQ_ENTRY_REPEAT_M1 k e) ≤ Sparse.get (always 0) s.acq.reps k ∧ s.get (R.ACQ_SEQ_ENTRY_GROUP k e) = 15 ∧ (s.flag (R.ACQ_SEQ_ENTRY_END k e) = true ∨ e = 63) ∧ s.flag (R.ACQ_SEQ_CTRL_SWAP k) = false) ∧
    (let s : State := (up 6).put R.OWN_STATUS_OWNER 1; let k : Nat := 1; let e : Nat := 3; let w := Writer.hostA; let d := false; let v : Word := 0xF05F; s.mayWrite w 0x0C = false ∧ w ≠ .service) ∧
    (let s : State := up 6; let k : Nat := 1; let e : Nat := 3; let d := false; let v : Word := 0xF05F; s.running = true ∧ s.mayWrite .service 0x0C = false) ∧
    (let k := 1; let s : State := (((((up 6).putB (R.ACQ_SEQ_CTRL_RUN 1) true).put (R.ACQ_SEQ_CTRL_CUR 1) 63).put (R.ACQ_SEQ_ENTRY_CHANNEL 1 63) 95).put (R.ACQ_SEQ_ENTRY_GROUP 1 63) 15).put (R.ACQ_SEQ_ENTRY_REPEAT_M1 1 63) 0; let e := 63; let w := Writer.steward; let v : Word := 0xF05F; s.running = true ∧ s.writerLive w = true ∧ s.mayWrite w 0x0C = true ∧ k < 2 ∧ e < 64 ∧ s.md ≠ .commission ∧ s.entryOk v = true) ∧
    (let k := 1; let s : State := (((((up 6).putB (R.ACQ_SEQ_CTRL_RUN 1) true).put (R.ACQ_SEQ_CTRL_CUR 1) 63).put (R.ACQ_SEQ_ENTRY_CHANNEL 1 63) 95).put (R.ACQ_SEQ_ENTRY_GROUP 1 63) 15).put (R.ACQ_SEQ_ENTRY_REPEAT_M1 1 63) 0; let e := 63; let w := Writer.steward; let v : Word := 0x8000; s.running = true ∧ s.writerLive w = true ∧ s.mayWrite w 0x0C = true ∧ k < 2 ∧ e < 64 ∧ s.entryOk v = false) ∧
    (let k := 1; let s : State := (((((up 6).putB (R.ACQ_SEQ_CTRL_RUN 1) true).put (R.ACQ_SEQ_CTRL_CUR 1) 63).put (R.ACQ_SEQ_ENTRY_CHANNEL 1 63) 95).put (R.ACQ_SEQ_ENTRY_GROUP 1 63) 15).put (R.ACQ_SEQ_ENTRY_REPEAT_M1 1 63) 0; let e := 63; let w := Writer.steward; s.running = true ∧ s.writerLive w = true ∧ s.mayWrite w 0x0C = true ∧ k < 2 ∧ e < 64 ∧ s.md ≠ .commission) ∧
    (let k := 1; let s : State := (((((up 6).putB (R.ACQ_SEQ_CTRL_RUN 1) true).put (R.ACQ_SEQ_CTRL_CUR 1) 63).put (R.ACQ_SEQ_ENTRY_CHANNEL 1 63) 95).put (R.ACQ_SEQ_ENTRY_GROUP 1 63) 15).put (R.ACQ_SEQ_ENTRY_REPEAT_M1 1 63) 0; let w := Writer.steward; s.running = true ∧ s.writerLive w = true ∧ s.mayWrite w 0x0C = true ∧ k < 2 ∧ s.flag (R.ACQ_SEQ_CTRL_RUN k) = true) ∧
    (let k := 1; let s : State := up 6; let w := Writer.steward; s.running = true ∧ s.writerLive w = true ∧ s.mayWrite w 0x0C = true ∧ k < 2 ∧ s.flag (R.ACQ_SEQ_CTRL_RUN k) = false) ∧
    (let c := cm 0xC ([1, 62, 2, 0] ++ [0x5F, 0xF0, 0, 0, 1, 0, 0, 0] ++ [0x5F, 0x70, 0, 0, 1, 0, 0, 0]); let s : State := fly (up 5) 0x5000 c; c.target = 0x0C ∧ s.startable c 0x5000 = true ∧ s.modeOk 0x5000 false = true ∧ arg c 16 1 ≤ 1 ∧ 1 ≤ arg c 18 1 ∧ arg c 17 1 + arg c 18 1 ≤ 64 ∧ 4 + 8 * arg c 18 1 ≤ c.payload.length ∧ s.md ≠ .commission ∧ arg c 19 1 = 0 ∧ (∀ i, i < arg c 18 1 → s.entryOk (argW c (20 + 8 * i)) = true)) ∧
    (let i := 1; let c := cm 0xC ([1, 62, 2, 0] ++ [0x5F, 0xF0, 0, 0, 1, 0, 0, 0] ++ [0x5F, 0x80, 0, 0, 1, 0, 0, 0]); let s : State := fly (up 5) 0x5000 c; c.target = 0x0C ∧ s.startable c 0x5000 = true ∧ s.modeOk 0x5000 false = true ∧ arg c 16 1 ≤ 1 ∧ 1 ≤ arg c 18 1 ∧ arg c 17 1 + arg c 18 1 ≤ 64 ∧ 4 + 8 * arg c 18 1 ≤ c.payload.length ∧ i < arg c 18 1 ∧ s.entryOk (argW c (20 + 8 * i)) = false) ∧
    (let c := cm 0xC [1, 1]; let s : State := fly (up 5) 0x5001 c; c.target = 0x0C ∧ s.startable c 0x5001 = true ∧ s.modeOk 0x5001 false = true ∧ 2 ≤ c.payload.length ∧ arg c 16 1 ≤ 1 ∧ arg c 17 1 = 1 ∧ s.flag (R.ACQ_SEQ_CTRL_RUN (arg c 16 1)) = false) ∧
    (let c := cm 0xC [1, 1]; let s : State := fly ((up 5).putB (R.ACQ_SEQ_CTRL_RUN 1) true) 0x5001 c; c.target = 0x0C ∧ s.startable c 0x5001 = true ∧ s.modeOk 0x5001 false = true ∧ 2 ≤ c.payload.length ∧ arg c 16 1 ≤ 1 ∧ arg c 17 1 = 1 ∧ s.flag (R.ACQ_SEQ_CTRL_RUN (arg c 16 1)) = true) ∧
    (let c := cm 0xC [7, 0, 0, 0]; let s : State := fly (up 5) 0x5002 c; c.target = 0x0C ∧ s.startable c 0x5002 = true ∧ s.modeOk 0x5002 true = true ∧ 1 ≤ c.payload.length ∧ arg c 16 1 ≤ 7) ∧
    (let raw : Nat := 0; let sub : Nat := 0; let k := 1; let s : State := { ((up 6).putB (R.ACQ_SEQ_CTRL_RUN 1) true).put (R.ACQ_SEQ_ENTRY_CHANNEL 1 0) 95 with acq.inserts := [⟨0, 95, 1, 0, 7, 0⟩] }; (2 ≤ k ∨ s.running = false ∨ s.flag (R.ACQ_SEQ_CTRL_RUN k) = false ∨ s.seqWaits k = true)) ∧
    (let q : List (Bool × Nat × Nat) := [(false, 16, 3), (false, 512, 4)]; let n : Nat := 17; takeHandles q n = [(false, 16, 3)]) := by
  and_intros <;> decide +kernel

theorem test_meets_ReferenceCalibrationDiagnosis :
    (let s : State := { (up 9).putB R.ACQ_REF_REF_BUF_EN true with atime := 2000 }; s.running = true ∧ s.flag R.ACQ_REF_REF_BUF_EN = true ∧ 2000 ≤ s.since s.acq.refAt) ∧
    (let s : State := { (up 9).putB R.ACQ_REF_REF_BUF_EN true with atime := 1999 }; s.since s.acq.refAt < 2000) ∧
    (let s : State := (up 9).putB R.ACQ_REF_REF_BUF_EN false; (s.running = false ∨ s.flag R.ACQ_REF_REF_BUF_EN = false)) ∧
    (let s : State := (up 9).putB R.ACQ_REF_REF_BUF_EN true; s.flag R.ACQ_REF_REF_RDY = false) ∧
    (let s : State := ((up 9).putB R.ACQ_REF_REF_BUF_EN true).putB R.ACQ_REF_REF_RDY true; s.running = true ∧ s.flag R.ACQ_REF_REF_BUF_EN = true ∧ s.flag R.ACQ_REF_REF_RDY = true) ∧
    (let s : State := (up 6).put R.OWN_STATUS_OWNER 1; let w := Writer.hostA; let v : Word := 1; s.mayWrite w 0x0C = false ∧ w ≠ .service) ∧
    (let s : State := up 6; let v : Word := 1; s.running = true ∧ s.mayWrite .service 0x0C = false) ∧
    (let s : State := ((up 9).putB R.ACQ_REF_REF_BUF_EN true).putB R.ACQ_REF_REF_RDY true; let w := Writer.steward; let v : Word := 5; s.running = true ∧ s.writerLive w = true ∧ s.mayWrite w 0x0C = true ∧ bitOf v 0 = true) ∧
    (let s : State := { (up 9).putB R.ACQ_REF_REF_BUF_EN false with atime := 9 }; let w := Writer.steward; let v : Word := 1; s.running = true ∧ s.writerLive w = true ∧ s.mayWrite w 0x0C = true ∧ bitOf v 0 = true) ∧
    (let s : State := up 5; let w := Writer.steward; let v : Word := 0; s.running = true ∧ s.writerLive w = true ∧ s.mayWrite w 0x0C = true ∧ bitOf v 0 = false ∧ bitOf v 2 = false ∧ s.md ≠ .service) ∧
    (let s : State := ((up 9).putB R.ACQ_REF_REF_BUF_EN true).putB R.ACQ_REF_REF_RDY true; let w := Writer.steward; let v : Word := 0; s.running = true ∧ s.writerLive w = true ∧ s.mayWrite w 0x0C = true ∧ bitOf v 0 = false ∧ s.md = .service) ∧
    (let c := cm 0xC ([79, 0, 1, 0] ++ List.replicate 4 0); let s : State := fly (((up 9).putB R.ACQ_REF_REF_BUF_EN true).putB R.ACQ_REF_REF_RDY true) 0x5003 c; s.startable c 0x5003 = true ∧ c.target = 0x0C ∧ s.calPayload c = true ∧ s.fastInUse (arg c 16 2) = false ∧ (s.md = .commission ∨ s.md = .service) ∧ s.flag R.ACQ_REF_REF_RDY = true ∧ s.insertBusy (arg c 16 2) (arg c 18 1) = false) ∧
    (let c := cm 0xC ([79, 0, 1, 0] ++ List.replicate 4 0); let s : State := fly ({ (up 9).putB R.ACQ_REF_REF_RDY true with acq.zeros := [(79, some (0, true))] }) 0x5004 c; s.startable c 0x5004 = true ∧ c.target = 0x0C ∧ s.calPayload c = true ∧ s.fastInUse (arg c 16 2) = false ∧ (s.md = .commission ∨ s.md = .service) ∧ s.flag R.ACQ_REF_REF_RDY = true ∧ s.insertBusy (arg c 16 2) (arg c 18 1) = false ∧ 8 ≤ c.payload.length ∧ fFinite (argW c 20) = true ∧ (Sparse.get (always none) s.acq.zeros (arg c 16 2)).isSome = true) ∧
    (let c := cm 0xC ([79, 0, 1, 0] ++ List.replicate 4 0); let s : State := fly ((up 5).putB R.ACQ_REF_REF_RDY true) 0x5006 c; s.startable c 0x5006 = true ∧ c.target = 0x0C ∧ s.calPayload c = true ∧ s.fastInUse (arg c 16 2) = false ∧ s.md = .standby ∧ s.flag R.ACQ_REF_REF_RDY = true ∧ (s.acq.inserts.filter fun i => i.kind = 2).length < 2 ∧ s.insertBusy (arg c 16 2) (arg c 18 1) = false) ∧
    (let c := cm 0xC ([79, 0, 1, 0] ++ List.replicate 4 0); let s : State := fly ((up 9).putB R.ACQ_REF_REF_RDY false) 0x5003 c; s.startable c 0x5003 = true ∧ c.target = 0x0C ∧ s.calPayload c = true ∧ s.fastInUse (arg c 16 2) = false ∧ (s.md = .commission ∨ s.md = .service) ∧ s.flag R.ACQ_REF_REF_RDY = false) ∧
    (let c := cm 0xC ([79, 0, 1, 0] ++ List.replicate 4 0); let s : State := fly ((up 9).putB R.ACQ_REF_REF_RDY false) 0x5006 c; s.startable c 0x5006 = true ∧ c.target = 0x0C ∧ s.calPayload c = true ∧ s.fastInUse (arg c 16 2) = false ∧ (s.md = .commission ∨ s.md = .service) ∧ s.flag R.ACQ_REF_REF_RDY = false) ∧
    (let c := cm 0xC ([15, 1, 0, 0] ++ List.replicate 4 0); let s : State := fly (withUnit (withChan ((up 9).put (R.EDGE_FC_CFG_CH 15) 47) 47 1 3) 3) 0x5003 c; s.startable c 0x5003 = true ∧ c.target = 0x0C ∧ s.calPayload c = true ∧ s.fastInUse (arg c 16 2) = true ∧ s.md = .service) ∧
    (let c := cm 0xC ([15, 1, 0, 0] ++ List.replicate 4 0); let s : State := fly (withUnit (withChan ((up 9).put (R.EDGE_FC_CFG_CH 15) 47) 47 1 3) 3) 0x5006 c; s.startable c 0x5006 = true ∧ c.target = 0x0C ∧ s.calPayload c = true ∧ s.fastInUse (arg c 16 2) = true ∧ s.md = .service) ∧
    (let c := cm 0xC ([79, 0, 1, 0] ++ List.replicate 4 0); let s : State := fly (up 4) 0x5005 c; s.startable c 0x5005 = true ∧ c.target = 0x0C ∧ s.md = .commission) ∧
    (let s : State := up 9; let ch := 79; let a : Int := 0; let b : Int := 0; let g := true; s.acq.inserts.find? (fun i => i.chan = ch) = none) ∧
    (let s : State := { up 9 with acq.inserts := [⟨0, 79, 1, 2, 7, 0⟩] }; let ch := 79; let a : Int := -5; let b : Int := 0; let g := true; let i : Insert := ⟨0, 79, 1, 2, 7, 0⟩; s.acq.inserts.find? (fun i => i.chan = ch) = some i ∧ i.kind = 0 ∧ i.master < 3) ∧
    (let s : State := { up 9 with acq.inserts := [⟨2, 79, 1, 2, 7, 0⟩] }; let ch := 79; let i : Insert := ⟨2, 79, 1, 2, 7, 0⟩; let a : Int := 0; let b : Int := 0; let g := true; s.acq.inserts.find? (fun i => i.chan = ch) = some i ∧ i.kind = 2 ∧ i.chan < 0x100 ∧ 1000 * (a - 16384 * 16).natAbs > s.get R.ACQ_DIAG_CFG_DIAG_TOL * 65536 * 16) := by
  and_intros <;> decide +kernel

theorem test_meets_WardenPairs :
    (let s : State := up 5; let k := 2; let x : WindowIn := ⟨[], 0, 0, 0, gate0⟩; (2 ≤ k ∨ s.running = false ∨ s.inService k = false)) ∧
    (let s : State := up 5; let k := 1; let x : WindowIn := ⟨[], 0, 0, 0, gate0⟩; k < 2 ∧ s.running = true ∧ s.inService k = true ∧ gateCause x.gate = none) ∧
    (let s : State := up 5; let k := 1; let x : WindowIn := ⟨[], 0, 0, 0, { gate0 with checker := 4 }⟩; let cs : Nat := 0; k < 2 ∧ s.running = true ∧ s.inService k = true ∧ gateCause x.gate = some cs) ∧
    (let g := { gate0 with checker := 4 }; g.main % 2 ^ 64 ≠ g.checker % 2 ^ 64) ∧
    (let g := gate0; gateCause g = none) ∧
    (let s : State := up 5; let k := 1; let cause : Nat := 9; let m : Nat := 1; let ck : Nat := 2; let u : Nat := 3; k < 2 ∧ s.inService k = true ∧ s.pairSt (1 - k) ≠ 6) ∧
    (let s : State := up 5; let u := 1; let cause : Nat := 9; let m : Nat := 1; let ck : Nat := 2; u < 2 ∧ s.running = true ∧ s.inService u = true) ∧
    (let s : State := (up 5).put R.PAIR_STATUS_FE_IN_SERVICE 0; let u := 0x87; let cause : Nat := 9; let m : Nat := 1; let ck : Nat := 2; (u < 2 → s.inService u = false) ∧ (0x80 ≤ u → u < 0x88 → s.bitAt R.PAIR_STATUS_FE_IN_SERVICE (u - 0x80) = false)) ∧
    (let s : State := up 5; let n := 7; let cause : Nat := 9; let m : Nat := 1; let ck : Nat := 2; n < 8 ∧ s.running = true ∧ s.bitAt R.PAIR_STATUS_FE_IN_SERVICE n = true ∧ (s.eng n).inTick = false) ∧
    (let c := cm 0x10 [0, 0]; let s : State := fly ((up 5).wr R.SYS_STRAP 0) 0x0140 c; c.target = 0x10 ∧ s.startable c 0x0140 = true ∧ s.md = .standby ∧ 2 ≤ c.payload.length ∧ arg c 16 1 = 0 ∧ arg c 17 1 = 0 ∧ natBit (s.get R.SYS_STRAP_LATCHED) 2 = false ∧ s.pairSt 0 = 1 ∧ s.inService 1 = true) ∧
    (let c := cm 0x10 [0, 0]; let s : State := fly (up 6) 0x0140 c; c.target = 0x10 ∧ s.startable c 0x0140 = true ∧ s.md = .drive ∧ arg c 16 1 = 0) ∧
    (let c := cm 0x10 [1, 0]; let s : State := fly (((up 5).wr R.SYS_STRAP 0).put R.PAIR_STATUS_A_STATE 3) 0x0140 c; c.target = 0x10 ∧ s.startable c 0x0140 = true ∧ s.md.fromDiscover = true ∧ 2 ≤ c.payload.length ∧ arg c 16 1 = 1 ∧ arg c 17 1 = 0 ∧ natBit (s.get R.SYS_STRAP_LATCHED) 2 = false ∧ s.pairSt 0 = 3) ∧
    (let c := cm 0x10 []; let s : State := fly (up 5) 0x0141 c; c.target = 0x10 ∧ s.startable c 0x0141 = true ∧ s.md.fromDiscover = true) ∧
    (let s : State := up 5; let v : Word := 1; let j := 0; let w := Writer.coreA1; ¬(j = 0 ∧ w = .coreA0) ∧ ¬(j = 1 ∧ w = .coreA1) ∧ w ≠ .service) ∧
    (let s : State := up 5; let v : Word := 1; let j := 0; s.running = true ∧ s.mayWrite .service 0x10 = false) ∧
    (let s : State := (up 5).put R.PAIR_STATUS_A_STATE 3; let j := 1; let w := Writer.coreA1; let v : Word := 1; s.running = true ∧ ((j = 0 ∧ w = .coreA0) ∨ (j = 1 ∧ w = .coreA1)) ∧ s.coreRuns j = true ∧ s.inService 1 = true ∧ bitsOf v 15 0 = (s.get (R.PAIR_CHECKIN_TOKEN j) + 1) % 65536) ∧
    (let s : State := ((up 5).put R.PAIR_STATUS_A_STATE 3).put (R.PAIR_CHECKIN_TOKEN 1) 65535; let j := 1; let w := Writer.coreA1; let v : Word := 1; s.running = true ∧ ((j = 0 ∧ w = .coreA0) ∨ (j = 1 ∧ w = .coreA1)) ∧ s.coreRuns j = true ∧ s.inService 1 = true ∧ bitsOf v 15 0 ≠ (s.get (R.PAIR_CHECKIN_TOKEN j) + 1) % 65536) ∧
    (let s : State := { (up 5).put R.PAIR_STATUS_A_STATE 3 with atime := 100000000 }; let j := 1; s.coreRuns j = true ∧ s.inService 1 = true ∧ s.get R.PAIR_SUP_CFG_SUP_TIME ≤ s.since (Sparse.get (always 0) s.pair.checkAt j)) ∧
    (let s : State := up 5; let j := 1; (s.coreRuns j = false ∨ s.since (Sparse.get (always 0) s.pair.checkAt j) < s.get R.PAIR_SUP_CFG_SUP_TIME)) := by
  and_intros <;> decide +kernel

theorem test_meets_Debugger :
    (let t : Nat := 1; let w := Writer.hostA; let s : State := (up 6).put R.OWN_STATUS_OWNER 1; ((s.mayWrite w 0x16 = false ∧ w ≠ .service) ∨ s.running = false)) ∧
    (let t : Nat := 1; let s : State := up 6; s.running = true ∧ s.mayWrite .service 0x16 = false) ∧
    (let t := 1; let w := Writer.steward; let s : State := up 6; t < 2 ∧ s.running = true ∧ s.writerLive w = true ∧ s.mayWrite w 0x16 = true ∧ (s.dbgMayChange = false ∨ s.inService (1 - t) = false)) ∧
    (let t := 1; let w := Writer.steward; let s : State := (up 9).wr R.SYS_STRAP 0xFFFFFFFF; t < 2 ∧ s.running = true ∧ s.writerLive w = true ∧ s.mayWrite w 0x16 = true ∧ s.dbgMayChange = true ∧ s.inService (1 - t) = true ∧ s.inService t = true ∧ s.dbgIsHalted t = false) ∧
    (let t := 1; let w := Writer.steward; let s : State := { (up 9).wr R.SYS_STRAP 0xFFFFFFFF with pair.dbgHalted := [(1, true)] }; t < 2 ∧ s.running = true ∧ s.writerLive w = true ∧ s.mayWrite w 0x16 = true ∧ s.dbgMayChange = true ∧ s.dbgIsHalted t = true) ∧
    (let t := 1; let w := Writer.steward; let s : State := (up 9).wr R.SYS_STRAP 0xFFFFFFFF; t < 2 ∧ s.running = true ∧ s.writerLive w = true ∧ s.mayWrite w 0x16 = true ∧ s.dbgIsHalted t = false) ∧
    (let t := 1; let w := Writer.steward; let s : State := { (up 9).wr R.SYS_STRAP 0xFFFFFFFF with pair.dbgHalted := [(1, true)] }; t < 2 ∧ s.running = true ∧ s.writerLive w = true ∧ s.mayWrite w 0x16 = true ∧ s.dbgIsHalted t = true) ∧
    (let s : State := up 0; s.running = true ∧ s.md.fromDiscover = false) ∧
    (let s : State := (up 9).wr R.SYS_STRAP 0xFFFFFFFF; s.running = true ∧ s.md.fromDiscover = true ∧ s.dbgTargetOk (s.get R.DBG_CTRL_TARGET) = true) ∧
    (let w := Writer.steward; let s : State := up 6; s.running = true ∧ s.writerLive w = true ∧ s.mayWrite w 0x16 = true ∧ (s.dbgMayChange = false ∨ s.dbgTargetOk (s.get R.DBG_CTRL_TARGET) = false)) ∧
    (let w := Writer.steward; let s : State := (up 9).wr R.SYS_STRAP 0xFFFFFFFF; s.running = true ∧ s.writerLive w = true ∧ s.mayWrite w 0x16 = true ∧ s.dbgMayChange = true ∧ s.dbgTargetOk (s.get R.DBG_CTRL_TARGET) = true) ∧
    (let w := Writer.steward; let s : State := (up 9).wr R.SYS_STRAP 0xFFFFFFFF; s.running = true ∧ s.writerLive w = true ∧ s.mayWrite w 0x16 = true ∧ s.dbgIsHalted (s.get R.DBG_CTRL_TARGET) = false) ∧
    (let w := Writer.steward; let s : State := { ((up 9).wr R.SYS_STRAP 0xFFFFFFFF).put R.DBG_CTRL_TARGET 1 with pair.dbgHalted := [(1, true)], pair.wardens := [(1, { Warden.init with replay := List.replicate 63 ⟨0, 0, 0, 0⟩ })] }; s.running = true ∧ s.writerLive w = true ∧ s.mayWrite w 0x16 = true ∧ s.dbgMayChange = true ∧ s.dbgTargetOk (s.get R.DBG_CTRL_TARGET) = true ∧ s.dbgIsHalted (s.get R.DBG_CTRL_TARGET) = true ∧ (s.warden (s.get R.DBG_CTRL_TARGET)).replay.length < 64) := by
  and_intros <;> decide +kernel

theorem test_meets_SafetyInputsAndOutputs :
    (let n := 8; let s : State := up 6; let b := true; let l := true; 8 ≤ n) ∧
    (let n := 7; let s : State := up 6; let b := true; let l := true; n < 8) ∧
    (let n := 7; let s : State := up 6; let b := false; let l := true; n < 8) ∧
    (let n := 7; let s : State := ((up 6).putB (R.SAFE_SIN_CFG_EN 7) true); ((s.sin n).rawA = (s.sin n).a ∨ s.running = false ∨ s.bankLive 1 = false ∨ s.since (s.sin n).atA < 100 * s.get (R.SAFE_SIN_CFG_FILT n))) ∧
    (let n := 7; let s : State := (((up 6).putB (R.SAFE_SIN_CFG_EN 7) true).put (R.SAFE_SIN_CFG_FILT 7) 1).setSin 7 { Sin.init with rawA := true, rawB := true }; ((s.sin n).rawB = (s.sin n).b ∨ s.running = false ∨ s.bankLive 1 = false ∨ s.since (s.sin n).atB < 100 * s.get (R.SAFE_SIN_CFG_FILT n))) ∧
    (let n := 7; let s : State := { ((up 6).putB (R.SAFE_SIN_CFG_EN 7) true).setSin 7 { Sin.init with rawA := true } with atime := 200000000 }; n < 8 ∧ s.running = true ∧ s.flag (R.SAFE_SIN_CFG_EN n) = true ∧ s.flag (R.SAFE_SIN_CFG_FAST n) = false ∧ s.bitAt R.SAFE_SIN_STATUS_DISC n = false ∧ s.bankLive 1 = true ∧ 100 * s.get (R.SAFE_SIN_CFG_FILT n) ≤ s.since (s.sin n).atA ∧ (s.sin n).rawA ≠ (s.sin n).a) ∧
    (let n := 7; let s : State := { ((up 6).putB (R.SAFE_SIN_CFG_EN 7) true).setSin 7 { Sin.init with rawB := true } with atime := 200000000 }; n < 8 ∧ s.running = true ∧ s.flag (R.SAFE_SIN_CFG_EN n) = true ∧ s.flag (R.SAFE_SIN_CFG_FAST n) = false ∧ s.bitAt R.SAFE_SIN_STATUS_DISC n = false ∧ s.bankLive 1 = true ∧ 100 * s.get (R.SAFE_SIN_CFG_FILT n) ≤ s.since (s.sin n).atB ∧ (s.sin n).rawB ≠ (s.sin n).b) ∧
    (let n := 7; let s : State := { ((((up 6).putB (R.SAFE_SIN_CFG_EN 7) true).putB (R.SAFE_SIN_CFG_FAST 7) true).setSin 7 { Sin.init with a := true }).put R.SAFE_SIN_STATUS_DEMAND 0 with atime := 200000000 }; n < 8 ∧ s.running = true ∧ s.flag (R.SAFE_SIN_CFG_EN n) = true ∧ s.flag (R.SAFE_SIN_CFG_FAST n) = true ∧ s.bitAt R.SAFE_SIN_STATUS_DEMAND n = false ∧ s.bitAt R.SAFE_SIN_STATUS_FAST_FIRED n = false ∧ s.bankLive 1 = true ∧ 100 * s.get (R.SAFE_SIN_CFG_FILT n) ≤ s.since (s.sin n).atA ∧ (s.sin n).rawA = false ∧ (s.sin n).a = true) ∧
    (let n := 7; let s : State := ((((up 6).putB (R.SAFE_SIN_CFG_EN 7) true).putB (R.SAFE_SIN_CFG_FAST 7) true).put (R.SAFE_SIN_MAP_FUNC 7) 0x21).setSin 7 { Sin.init with a := true } |>.put R.SAFE_SIN_STATUS_DEMAND 0 |>.put (R.SAFE_SIN_CFG_FILT 7) 0; n < 8 ∧ s.running = true ∧ s.flag (R.SAFE_SIN_CFG_EN n) = true ∧ s.flag (R.SAFE_SIN_CFG_FAST n) = true ∧ s.bitAt R.SAFE_SIN_STATUS_DEMAND n = false ∧ s.bitAt R.SAFE_SIN_STATUS_FAST_FIRED n = false ∧ s.bankLive 1 = true ∧ 100 * s.get (R.SAFE_SIN_CFG_FILT n) ≤ s.since (s.sin n).atA ∧ (s.sin n).rawA = false ∧ (s.sin n).a = true) ∧
    (let n := 7; let s : State := ((up 6).putB (R.SAFE_SIN_CFG_EN 7) true); ((s.sin n).timer = none ∨ s.since (s.sin n).timerAt < 1000 * s.get (R.SAFE_SIN_CFG_DISC n))) ∧
    (let n := 7; let s : State := { ((up 6).putB (R.SAFE_SIN_CFG_EN 7) true).setSin 7 { Sin.init with timer := some true } with atime := 200000000 }; let b := true; n < 8 ∧ s.running = true ∧ s.flag (R.SAFE_SIN_CFG_EN n) = true ∧ s.flag (R.SAFE_SIN_CFG_FAST n) = false ∧ (s.sin n).timer = some b ∧ 1000 * s.get (R.SAFE_SIN_CFG_DISC n) ≤ s.since (s.sin n).timerAt) ∧
    (let n : Nat := 7; let s : State := up 6; let w := Writer.hostA; let v : Word := 255; w.isWarden = false ∧ w ≠ .service) ∧
    (let n : Nat := 7; let s : State := up 6; let v : Word := 255; s.running = true ∧ s.mayWrite .service 0x11 = false) ∧
    (let n := 7; let s : State := (((up 6).putB (R.SAFE_SIN_CFG_EN 7) true).putBit R.SAFE_SIN_STATUS_FAST_FIRED 7 true).put R.SAFE_SIN_STATUS_DEMAND 0; let w := Writer.wardenA; let v : Word := 255; w.isWarden = true ∧ s.running = true ∧ s.writerLive w = true ∧ n < 8) ∧
    (let n := 6; let s : State := ((up 6).putB (R.SAFE_SIN_CFG_EN 7) true); (6 ≤ n ∨ s.soutOn n = false ∨ s.flag (R.SAFE_SOUT_CFG_TEST_EN n) = false ∨ (s.sout n).stage ≠ 0 ∨ s.since (s.sout n).at_ < 1000000 * s.get (R.SAFE_SOUT_CFG_TP_PERIOD n))) ∧
    (let n := 5; let s : State := { (((up 6).putBit R.SAFE_SOUT_STATUS_ON 5 true).putB (R.SAFE_SOUT_CFG_TEST_EN 5) true).put (R.SAFE_SOUT_CFG_TP_PERIOD 5) 1 with atime := 999999 }; (6 ≤ n ∨ s.soutOn n = false ∨ s.flag (R.SAFE_SOUT_CFG_TEST_EN n) = false ∨ (s.sout n).stage ≠ 0 ∨ s.since (s.sout n).at_ < 1000000 * s.get (R.SAFE_SOUT_CFG_TP_PERIOD n))) ∧
    (let n := 5; let s : State := { (((up 6).putBit R.SAFE_SOUT_STATUS_ON 5 true).putB (R.SAFE_SOUT_CFG_TEST_EN 5) true).put (R.SAFE_SOUT_CFG_TP_PERIOD 5) 1 with atime := 1000000 }; n < 6 ∧ s.soutOn n = true ∧ s.flag (R.SAFE_SOUT_CFG_TEST_EN n) = true ∧ (s.sout n).stage = 0 ∧ 1000000 * s.get (R.SAFE_SOUT_CFG_TP_PERIOD n) ≤ s.since (s.sout n).at_ ∧ s.soutPending n = false) ∧
    (let n := 5; let s : State := { ((((up 6).putBit R.SAFE_SOUT_STATUS_ON 5 true).putB (R.SAFE_SOUT_CFG_TEST_EN 5) true).setSafePair 1 { SafePair.init with rising := 32 }).put (R.SAFE_SOUT_CFG_TP_PERIOD 5) 1 with atime := 1000000 }; n < 6 ∧ s.soutOn n = true ∧ s.flag (R.SAFE_SOUT_CFG_TEST_EN n) = true ∧ (s.sout n).stage = 0 ∧ 1000000 * s.get (R.SAFE_SOUT_CFG_TP_PERIOD n) ≤ s.since (s.sout n).at_ ∧ s.soutPending n = true) ∧
    (let n := 5; let s : State := { (((((up 6).putBit R.SAFE_SOUT_STATUS_ON 5 true).putB (R.SAFE_SOUT_CFG_TEST_EN 5) true).setSafePair 1 { SafePair.init with rising := 32 }).put (R.SAFE_SOUT_CFG_TP_PERIOD 5) 1).setSout 5 { Sout.init with defers := 2 } with atime := 1000000 }; n < 6 ∧ s.soutOn n = true ∧ s.flag (R.SAFE_SOUT_CFG_TEST_EN n) = true ∧ (s.sout n).stage = 0 ∧ 1000000 * s.get (R.SAFE_SOUT_CFG_TP_PERIOD n) ≤ s.since (s.sout n).at_ ∧ s.soutPending n = true) ∧
    (let n : Nat := 5; let s : State := up 6; let low := true; ((s.sout n).stage = 0 ∨ (s.sout n).stage = 3 ∨ ((s.sout n).stage = 1 ∧ s.since (s.sout n).at_ < s.get (R.SAFE_SOUT_CFG_TP_WIDTH n)))) ∧
    (let n : Nat := 5; let s : State := { (up 6).setSout 5 { Sout.init with stage := 1 } with atime := 200000000 }; let low := true; n < 6 ∧ (s.sout n).stage = 1 ∧ s.get (R.SAFE_SOUT_CFG_TP_WIDTH n) ≤ s.since (s.sout n).at_) ∧
    (let n : Nat := 5; let s : State := { (up 6).setSout 5 { Sout.init with stage := 3 } with atime := 199 }; let high := true; ((s.sout n).stage ≠ 3 ∨ s.since (s.sout n).at_ < 200)) ∧
    (let n : Nat := 5; let s : State := { (up 6).setSout 5 { Sout.init with stage := 3, low := true } with atime := 200 }; n < 6 ∧ (s.sout n).stage = 3 ∧ 200 ≤ s.since (s.sout n).at_ ∧ (s.sout n).low = true) ∧
    (let n : Nat := 5; let s : State := { (up 6).setSout 5 { Sout.init with stage := 3 } with atime := 200 }; let high := true; n < 6 ∧ (s.sout n).stage = 3 ∧ 200 ≤ s.since (s.sout n).at_ ∧ (s.sout n).low = false) ∧
    (let n := 6; let s : State := ((up 6).putB (R.SAFE_SIN_CFG_EN 7) true); (6 ≤ n ∨ s.running = false ∨ (s.sout n).stage = 1 ∨ (s.sout n).stage = 3)) ∧
    (let n := 5; let s : State := ((up 6).putB (R.SAFE_SIN_CFG_EN 7) true); n < 6 ∧ s.running = true ∧ (s.sout n).stage = 0) := by
  and_intros <;> decide +kernel

theorem test_meets_SafetyTableAndLatch :
    (let s : State := up 6; let k := 2; (2 ≤ k ∨ s.running = false ∨ s.md.fromDiscover = false ∨ s.inService k = false)) ∧
    (let s : State := up 6; let k := 1; k < 2 ∧ s.running = true ∧ s.md.fromDiscover = true ∧ s.inService k = true) ∧
    (let s : State := up 6; let tm : Nat := 3; let a := true; let b := true; let late := false; let now : Time := 5; let rs : RowState := { on := false, running := true, at_ := 2 }; rs.on = false ∧ tm ≠ 0) ∧
    (let s : State := up 6; let tm : Nat := 3; let a := false; let b := false; let late := true; let now : Time := 5; let rs : RowState := { on := true, running := false, at_ := 0 }; rs.on = true ∧ tm ≠ 0) ∧
    (let s : State := up 6; let k := 1; let r : Nat := 0; let i : Nat := 3; let x : Scan := { marks := [], rows := [], sout := 63, wrote := 0, forces := 0, stop := false, park := false, ended := false }; rowOp r = 0) ∧
    (let s : State := up 6; let k := 1; let r : Nat := 2 ^ 56; let i : Nat := 3; let x : Scan := { marks := [], rows := [], sout := 63, wrote := 0, forces := 0, stop := false, park := false, ended := true }; x.ended = true) ∧
    (let s : State := up 6; let k := 1; let r : Nat := 255; ((Sparse.get (always RowState.init) (s.safePair k).rows r).running = false ∨ s.since (Sparse.get (always RowState.init) (s.safePair k).rows r).at_ < 1000 * rowTime (s.safe.table.getD r 0))) ∧
    (let s : State := (up 6).setSafePair 1 { SafePair.init with rows := [(255, { on := false, running := true, at_ := 0 })] }; let k := 1; let r : Nat := 255; k < 2 ∧ (Sparse.get (always RowState.init) (s.safePair k).rows r).running = true ∧ 1000 * rowTime (s.safe.table.getD r 0) ≤ s.since (Sparse.get (always RowState.init) (s.safePair k).rows r).at_) ∧
    (let s : State := up 6; let k := 1; k < 2 ∧ s.running = true ∧ s.inService k = true) ∧
    (let s : State := (up 6).wr R.PAIR_STATUS 0x01; let k := 1; s.inService k = false) ∧
    (let s : State := up 6; (s.running = false ∨ s.flag R.SAFE_LATCH_FIRED = true ∨ (natBit s.pwr.clkLost 4 = false ∧ s.pairsLost = false ∧ s.latchDue = false))) ∧
    (let s : State := (up 6).wr R.PAIR_STATUS 0x22; s.running = true ∧ s.flag R.SAFE_LATCH_FIRED = false ∧ natBit s.pwr.clkLost 4 = false ∧ (s.pairsLost = true ∨ s.latchDue = true)) ∧
    (let s : State := { up 6 with atime := 100000000 }; s.running = true ∧ s.flag R.SAFE_LATCH_FIRED = false ∧ natBit s.pwr.clkLost 4 = false ∧ (s.pairsLost = true ∨ s.latchDue = true)) ∧
    (let c := cm 0x11 [0, 0, 0, 0, 5, 1, 0, 4]; let s : State := fly (up 4) 0x6020 c; c.target = 0x11 ∧ s.startable c 0x6020 = true ∧ s.md = .commission ∧ 8 ≤ c.len ∧ c.len ≤ 2048 ∧ c.len % 8 = 0 ∧ c.len ≤ c.payload.length ∧ tableOk (tableRows c.payload c.len) = true ∧ s.mramWorn 0x6020 = false) ∧
    (let c := cm 0x11 [0, 0, 0, 0, 6, 1, 0, 4]; let s : State := fly (up 4) 0x6020 c; c.target = 0x11 ∧ s.startable c 0x6020 = true ∧ s.md = .commission ∧ 8 ≤ c.len ∧ c.len ≤ 2048 ∧ c.len % 8 = 0 ∧ c.len ≤ c.payload.length ∧ (tableOk (tableRows c.payload c.len) = false ∨ s.mramWorn 0x6020 = true)) ∧
    (let c := cm 0x11 []; let s : State := fly (up 5) 0x6020 c; c.target = 0x11 ∧ s.startable c 0x6020 = true ∧ s.md = .standby) ∧
    (let c := cm 0x11 []; let s : State := fly (up 6) 0x6021 c; c.target = 0x11 ∧ s.startable c 0x6021 = true ∧ s.md.fromDiscover = true) := by
  and_intros <;> decide +kernel

theorem test_meets_Tally :
    (let k := 0; let j : Nat := 31; let s : State := (up 6).put (R.TALLY_CONN_CFG_REACT 31) 0 |>.setRx 0 31 { TallyRx.init with st := tallyRun }; let bs : List Byte := [0x11]; k < 2 ∧ j < 32 ∧ (bs.length < 12 + s.get (R.TALLY_CONN_CFG_LEN j) ∨ fieldAt bs 0 1 ≠ 0x11 ∨ fieldAt bs 1 1 ≠ s.get (R.TALLY_CONN_CFG_LEN j))) ∧
    (let k := 0; let j : Nat := 31; let s : State := (up 6).put (R.TALLY_CONN_CFG_LEN 31) 48; let payload : List Byte := List.replicate 48 5; let sq : Nat := 65535; let stamp : Nat := 2 ^ 32 - 1; k < 2 ∧ j < 32 ∧ payload.length = s.get (R.TALLY_CONN_CFG_LEN j) ∧ payload.length ≤ 48 ∧ sq < 65536 ∧ stamp < 2 ^ 32) ∧
    (let k := 0; let j : Nat := 31; let s : State := (up 6).put (R.TALLY_CONN_CFG_REACT 31) 0 |>.setRx 0 31 { TallyRx.init with st := tallyRun }; let gap : Nat := 1; let sq : Nat := 65535; let payload : List Byte := [1, 2]; let at_ : Time := 7; k < 2 ∧ j < 32 ∧ ((s.rx k j).st = tallyRun ∨ (s.rx k j).st = tallyWait)) ∧
    (let k := 0; let j : Nat := 31; let s : State := (up 6).put (R.TALLY_CONN_CFG_REACT 31) 0 |>.setRx 0 31 { TallyRx.init with st := tallyRun }; let cause : Nat := 4; k < 2 ∧ j < 32 ∧ s.get (R.TALLY_CONN_CFG_REACT j) = 0) ∧
    (let k := 0; let j : Nat := 31; let s : State := (up 6).put (R.TALLY_CONN_CFG_REACT 31) 0 |>.setRx 0 31 { TallyRx.init with st := tallyRun }; let cause : Nat := 4; k < 2 ∧ j < 32 ∧ s.get (R.TALLY_CONN_CFG_REACT j) = 0 ∧ k = s.tallyPair ∧ (s.rx k j).st ≠ tallyRestart) ∧
    (let k := 1; let j : Nat := 31; let s : State := (up 6).put (R.TALLY_CONN_CFG_REACT 31) 0 |>.setRx 0 31 { TallyRx.init with st := tallyRun }; let cause : Nat := 4; k < 2 ∧ j < 32 ∧ s.get (R.TALLY_CONN_CFG_REACT j) = 0 ∧ k ≠ s.tallyPair) ∧
    (let k := 0; let j : Nat := 31; let s : State := (up 6).put (R.TALLY_CONN_CFG_REACT 31) 0 |>.setRx 0 31 { TallyRx.init with st := tallyRun }; let bs : List Byte := [0x11]; let at_ : Time := 7; k < 2 ∧ j < 32 ∧ s.flag (R.TALLY_CONN_CFG_AUTO j) = false) ∧
    (let k := 0; let j : Nat := 31; let s : State := { (up 6).put (R.TALLY_CONN_CFG_REACT 31) 0 |>.setRx 0 31 { TallyRx.init with st := tallyRun } with atime := 100000000 }; k < 2 ∧ j < 32 ∧ s.running = true ∧ s.md.fromDiscover = true ∧ s.inService k = true ∧ (s.rx k j).st = tallyRun ∧ s.transmits j = false ∧ 10 * s.get (R.TALLY_CONN_TIME_WD_TIME j) < s.since (s.rx k j).last ∧ s.tally.frames = []) ∧
    (let k := 0; let j : Nat := 31; let s : State := (up 6).put (R.TALLY_CONN_CFG_REACT 31) 0 |>.setRx 0 31 { TallyRx.init with st := tallyRun }; k < 2 ∧ j < 32 ∧ (s.running = false ∨ s.inService k = false ∨ (s.rx k j).st ≠ tallyRun ∨ s.transmits j = true ∨ s.since (s.rx k j).last ≤ 10 * s.get (R.TALLY_CONN_TIME_WD_TIME j))) ∧
    (let n := 32; let s : State := (up 6).put (R.TALLY_CONN_CFG_REACT 31) 0 |>.setRx 0 31 { TallyRx.init with st := tallyRun }; (32 ≤ n ∨ s.running = false ∨ s.atime.toNat < (s.tx n).due.toNat ∨ s.transmits n = false ∨ s.flag (R.TALLY_CONN_CFG_EN n) = false ∨ s.inService s.tallyPair = false)) ∧
    (let n := 31; let s : State := (((up 6).putB (R.TALLY_CONN_CFG_EN 31) true).putB (R.TALLY_CONN_CFG_DIR 31) true).put (R.TALLY_CONN_CFG_PATH 31) 0x12 |>.setRx 0 31 { TallyRx.init with st := tallyRun }; n < 32 ∧ s.running = true ∧ s.md.fromDiscover = true ∧ s.transmits n = true ∧ s.flag (R.TALLY_CONN_CFG_EN n) = true ∧ s.inService s.tallyPair = true ∧ (s.rx s.tallyPair n).st = tallyRun ∧ (s.tx n).due.toNat ≤ s.atime.toNat ∧ 6 ≤ s.get (R.TALLY_CONN_CFG_PATH n) ∧ s.get (R.TALLY_CONN_CFG_PATH n) < 0x20) ∧
    (let n := 32; let s : State := (up 6).put (R.TALLY_CONN_CFG_REACT 31) 0 |>.setRx 0 31 { TallyRx.init with st := tallyRun }; let w := Writer.steward; let v : Word := 1; w ≠ .service ∧ (s.mayWrite w 0x12 = false ∨ s.md ≠ .commission ∨ 32 ≤ n)) ∧
    (let n := 3; let s : State := up 6; let v : Word := 1; s.running = true ∧ s.mayWrite .service 0x12 = false) ∧
    (let n := 31; let s : State := up 4; let w := Writer.steward; let v : Word := 0x80000000; s.running = true ∧ s.writerLive w = true ∧ s.mayWrite w 0x12 = true ∧ s.md = .commission ∧ n < 32 ∧ bitOf v 31 = true ∧ s.rd (R.TALLY_CONN_ID n) = 0) ∧
    (let c := cm 0x12 [31]; let s : State := fly ((up 6).setRx 0 31 { TallyRx.init with st := tallySafe }) 0x0150 c; c.target = 0x12 ∧ s.startable c 0x0150 = true ∧ s.modeOk 0x0150 false = true ∧ 1 ≤ c.payload.length ∧ arg c 16 1 < 32 ∧ s.transmits (arg c 16 1) = false ∧ (s.rx s.tallyPair (arg c 16 1)).st ≠ tallyClosed) ∧
    (let c := cm 0x12 [32]; let s : State := fly (up 6) 0x0150 c; c.target = 0x12 ∧ s.startable c 0x0150 = true ∧ s.modeOk 0x0150 false = true ∧ 32 ≤ arg c 16 1) ∧
    (let c := cm 0x12 ([31, 48, 0, 0] ++ List.replicate 48 1); let s : State := fly ((up 6).putB (R.TALLY_CONN_CFG_DIR 31) true) 0x0151 c; c.target = 0x12 ∧ s.startable c 0x0151 = true ∧ s.modeOk 0x0151 false = true ∧ arg c 17 1 ≤ 48 ∧ 4 + arg c 17 1 ≤ c.payload.length ∧ arg c 16 1 < 32 ∧ s.transmits (arg c 16 1) = true) ∧
    (let c := cm 0x12 ([31] ++ List.replicate 47 0); let s : State := fly ((up 6).setRx 0 31 { TallyRx.init with data := List.replicate ((up 6).get (R.TALLY_CONN_CFG_LEN 31)) 0 }) 0x6030 c; c.target = 0x12 ∧ s.startable c 0x6030 = true ∧ s.md.fromDiscover = true ∧ 1 ≤ c.payload.length ∧ arg c 16 1 < 32 ∧ 48 ≤ c.len ∧ (s.rx s.tallyPair (arg c 16 1)).data.length = s.get (R.TALLY_CONN_CFG_LEN (arg c 16 1))) := by
  and_intros <;> decide +kernel

theorem test_meets_TallySequenceCheck :
    (let k := 1; let c := 31; let sq := 65535; let stamp := 0; let payload : List Byte := List.replicate 48 5; let s0 : State := ((up 6).put (R.TALLY_CONN_CFG_LEN 31) 48).put (R.TALLY_CONN_CFG_WINDOW 31) 2; let bs : List Byte := pduBytes (s0.rd (R.TALLY_CONN_ID 31)) 65535 0 payload; let at_ : Time := 0; let s : State := s0.setRx 1 31 { TallyRx.init with st := tallyRun, seq := 65533 }; k < 2 ∧ c < 32 ∧ s.pduOf c bs = .inr (sq, stamp, payload) ∧ s.tooOld c stamp at_ = false ∧ (s.rx k c).st = tallyRun ∧ (sq + 65536 - (s.rx k c).seq) % 65536 ≤ s.get (R.TALLY_CONN_CFG_WINDOW c)) ∧
    (let k := 1; let c := 31; let sq := 65535; let stamp := 0; let payload : List Byte := List.replicate 48 5; let s0 : State := ((up 6).put (R.TALLY_CONN_CFG_LEN 31) 48).put (R.TALLY_CONN_CFG_WINDOW 31) 2; let bs : List Byte := pduBytes (s0.rd (R.TALLY_CONN_ID 31)) 65535 0 payload; let at_ : Time := 0; let s : State := s0.setRx 1 31 { TallyRx.init with st := tallyRun, seq := 65533 }; let k' := 1; let c' := 30; k < 2 ∧ c < 32 ∧ s.pduOf c bs = .inr (sq, stamp, payload) ∧ s.tooOld c stamp at_ = false ∧ (s.rx k c).st = tallyRun ∧ (sq + 65536 - (s.rx k c).seq) % 65536 ≤ s.get (R.TALLY_CONN_CFG_WINDOW c) ∧ 32 * k' + c' ≠ 32 * k + c) ∧
    (let k := 1; let c := 31; let sq := 65535; let stamp := 0; let payload : List Byte := List.replicate 48 5; let s0 : State := ((up 6).put (R.TALLY_CONN_CFG_LEN 31) 48).put (R.TALLY_CONN_CFG_WINDOW 31) 2; let bs : List Byte := pduBytes (s0.rd (R.TALLY_CONN_ID 31)) 65535 0 payload; let at_ : Time := 0; let s : State := s0.setRx 1 31 { TallyRx.init with st := tallyRun, seq := 65532 }; k < 2 ∧ c < 32 ∧ s.pduOf c bs = .inr (sq, stamp, payload) ∧ s.tooOld c stamp at_ = false ∧ (s.rx k c).st = tallyRun ∧ s.get (R.TALLY_CONN_CFG_WINDOW c) < (sq + 65536 - (s.rx k c).seq) % 65536) ∧
    (let k := 1; let c := 31; let sq := 65535; let stamp := 0; let payload : List Byte := List.replicate 48 5; let s0 : State := ((up 6).put (R.TALLY_CONN_CFG_LEN 31) 48).put (R.TALLY_CONN_CFG_WINDOW 31) 2; let bs : List Byte := pduBytes (s0.rd (R.TALLY_CONN_ID 31)) 65535 0 payload; let at_ : Time := 0; let s : State := s0.setRx 1 31 { TallyRx.init with st := tallyRun, seq := 0 }; k < 2 ∧ c < 32 ∧ s.pduOf c bs = .inr (sq, stamp, payload) ∧ s.tooOld c stamp at_ = false ∧ (s.rx k c).st = tallyRun ∧ (s.rx k c).seq = (sq + 1) % 65536 ∧ sq < 65536) ∧
    (let k := 1; let c := 31; let sq := 65535; let stamp := 0; let payload : List Byte := List.replicate 48 5; let s0 : State := ((up 6).put (R.TALLY_CONN_CFG_LEN 31) 48).put (R.TALLY_CONN_CFG_WINDOW 31) 2; let bs : List Byte := pduBytes (s0.rd (R.TALLY_CONN_ID 31)) 65535 0 payload; let at_ : Time := 0; let s : State := s0.setRx 1 31 { TallyRx.init with st := tallyRun, seq := 65533 }; k < 2 ∧ c < 32 ∧ s.pduOf c bs = .inr (sq, stamp, payload) ∧ s.tooOld c stamp at_ = false) ∧
    (let k := 1; let c := 31; let sq := 65535; let stamp := 0; let payload : List Byte := List.replicate 48 5; let s0 : State := ((up 6).put (R.TALLY_CONN_CFG_LEN 31) 48).put (R.TALLY_CONN_CFG_WINDOW 31) 2; let bs : List Byte := pduBytes (s0.rd (R.TALLY_CONN_ID 31)) 65535 0 payload; let at_ : Time := 0; let s : State := s0.setRx 1 31 { TallyRx.init with st := tallyRestart }; k < 2 ∧ c < 32 ∧ s.pduOf c bs = .inr (sq, stamp, payload) ∧ s.tooOld c stamp at_ = false ∧ (s.rx k c).st = tallyWait ∨ (s.rx k c).st = tallyRestart) := by
  and_intros <;> decide +kernel

theorem test_meets_Ledger :
    (let s : State := State.reset; let ri : Option RecIn := none; let w : Nat := 0; (s.running = false ∨ (s.pairsLost = true ∧ tellsInterlock ri = false))) ∧
    (let s : State := (up 6).wr R.PAIR_STATUS 0x22; let ri : Option RecIn := none; let w : Nat := 0; (s.running = false ∨ (s.pairsLost = true ∧ tellsInterlock ri = false))) ∧
    (let s : State := (up 6).wr R.PAIR_STATUS 0x22; let x : RecIn := ⟨0x0A04, 0, 0, 0, 0, 0⟩; let w : Nat := 0; s.running = true ∧ s.pairsLost = true ∧ x.code = 0x0A04) ∧
    (let s : State := (up 6).wr R.PAIR_STATUS 0x22; let cut := true; (s.running = false ∨ s.pairsLost = true)) ∧
    (let s : State := { up 6 with led.arriving := [rec0 2, rec0 1] }; let l : List Rec := [rec0 1]; let w : Nat := 0; let hr := rec0 2; s.running = true ∧ s.pairsLost = false ∧ s.led.arriving = hr :: l ∧ hr.sev < 3) ∧
    (let s : State := up 6; let w : Nat := 0; s.running = true ∧ s.pairsLost = false ∧ s.led.arriving = []) ∧
    (let s : State := up 6; let w : Nat := 0; let x : RecIn := ⟨0xFFFF, 0, 0, 0, 0, 0⟩; s.running = true ∧ s.pairsLost = false ∧ codeKnown x.code = false ∧ s.led.arriving = []) ∧
    (let s : State := { up 6 with led.buffer := List.replicate 255 (rec0 0) }; let r := rec0 0; r.sev = 0 ∧ r.code ≠ 0x0846 ∧ s.led.buffer.length < 256) ∧
    (let s : State := { up 6 with led.queue := List.replicate 63 { rec0 1 with code := 1 } }; let r := rec0 2; (r.sev = 1 ∨ r.sev = 2) ∧ r.code ≠ 0x1301 ∧ (s.led.queue.any fun x => x.code = r.code && x.unit = r.unit) = false ∧ s.led.queue.length < 64 ∧ s.led.inHand = none) ∧
    (let s : State := { up 6 with led.queue := [rec0 1] }; let r := rec0 1; (r.sev = 1 ∨ r.sev = 2) ∧ r.code ≠ 0x1301 ∧ (s.led.queue.any fun x => x.code = r.code && x.unit = r.unit) = true ∧ s.led.buffer.length < 256) ∧
    (let s : State := { up 6 with led.queue := List.replicate 64 { rec0 1 with code := 1 } }; let r := rec0 2; (r.sev = 1 ∨ r.sev = 2) ∧ r.code ≠ 0x1301 ∧ (s.led.queue.any fun x => x.code = r.code && x.unit = r.unit) = false ∧ 64 ≤ s.led.queue.length) ∧
    (let l : List Rec := [rec0 1]; (∀ x, x ∈ l → x.sev ≠ 2)) ∧
    (let r := rec0 2; let l : List Rec := [rec0 1, rec0 2]; l.find? (fun x => x.sev = 2) = some r) ∧
    (let s : State := up 6; let cut := true; s.running = true ∧ s.pairsLost = false ∧ s.led.queue = [] ∧ s.led.inHand = none ∧ s.led.buffer.length < 256) ∧
    (let s : State := { up 6 with led.queue := [rec0 1] }; let r := rec0 1; s.running = true ∧ s.pairsLost = false ∧ s.led.inHand = none ∧ nextRec s.led.queue = some r) ∧
    (let s : State := up 6; (s.led.buffer = [] ∨ s.running = false)) ∧
    (let s : State := { up 6 with led.buffer := [rec0 1, rec0 1] }; let r := rec0 1; let l : List Rec := [rec0 1]; s.running = true ∧ s.led.buffer = r :: l ∧ s.led.waiting = [] ∧ s.led.dropped = false) ∧
    (let r : Rec := rec0 2; let l : List Rec := [rec0 1]; l.length ≤ 15360) ∧
    (let c := cm 0x13 ([0, 0, 0, 0, 1, 0, 1, 0] ++ List.replicate 24 0); let s : State := fly ({ up 6 with led.log := [rec0 0] }) 0x7000 c; let l : List Rec := logSpan s.led.log 1 0 1; c.target = 0x13 ∧ s.startable c 0x7000 = true ∧ s.md.fromDiscover = true ∧ 8 ≤ c.payload.length ∧ 1 ≤ arg c 22 2 ∧ arg c 22 2 ≤ 2047 ∧ 32 * arg c 22 2 ≤ c.len ∧ logSpan s.led.log (arg c 20 2) (arg c 16 4) (arg c 22 2) = l) ∧
    (let c := cm 0x13 (List.replicate 8 0); let s : State := fly (up 6) 0x7000 c; c.target = 0x13 ∧ s.startable c 0x7000 = true ∧ s.md.fromDiscover = true ∧ arg c 22 2 = 0) ∧
    (let c := cm 0x13 [0, 0, 0, 0, 0, 0, 1, 0]; let s : State := fly (up 9) 0x7001 c; c.target = 0x13 ∧ s.startable c 0x7001 = true ∧ s.md = .service) ∧
    (let c := cm 0x13 [0, 0, 0, 0, 0, 0, 1, 0]; let s : State := fly (up 6) 0x7001 c; c.target = 0x13 ∧ s.startable c 0x7001 = true ∧ s.md ≠ .service) ∧
    (let c := cm 0x13 [0, 0, 0, 0, 0, 0, 1, 0]; let s : State := fly (up 9) 0x7002 c; c.target = 0x13 ∧ s.startable c 0x7002 = true ∧ s.modeOk 0x7002 false = true) ∧
    (let c := cm 0x13 [0, 0, 0, 0, 0, 0, 1, 0]; let s : State := fly (up 5) 0x0160 c; c.target = 0x13 ∧ s.startable c 0x0160 = true ∧ s.inPark = false) ∧
    (let c := cm 0x13 [0, 0, 0, 0, 0, 0, 1, 0]; let s : State := fly ((up 5).putB R.SYS_MODE_PARK true) 0x0160 c; c.target = 0x13 ∧ s.startable c 0x0160 = true ∧ s.inPark = true ∧ (natBit (s.get R.SYS_STRAP_LATCHED) 0 = false ∨ 3 ≤ s.led.wrongCodes ∨ s.rd R.LEDGER_COMM_AUTH = 0)) ∧
    (let c := cm 0x13 [0, 0, 0, 0, 0, 0, 1, 0]; let s : State := fly (((up 5).putB R.SYS_MODE_PARK true).wr R.SYS_STRAP 0xFFFFFFFF |>.wr R.LEDGER_COMM_AUTH 0x10000) 0x0160 c; c.target = 0x13 ∧ s.startable c 0x0160 = true ∧ s.inPark = true ∧ natBit (s.get R.SYS_STRAP_LATCHED) 0 = true ∧ s.led.wrongCodes < 3 ∧ s.rd R.LEDGER_COMM_AUTH ≠ 0 ∧ 8 ≤ c.payload.length ∧ argW c 20 = s.rd R.LEDGER_COMM_AUTH) ∧
    (let c := cm 0x13 [0, 0, 0, 0, 0, 0, 1, 0]; let s : State := fly (((up 5).putB R.SYS_MODE_PARK true).wr R.SYS_STRAP 0xFFFFFFFF |>.wr R.LEDGER_COMM_AUTH 5) 0x0160 c; c.target = 0x13 ∧ s.startable c 0x0160 = true ∧ s.inPark = true ∧ natBit (s.get R.SYS_STRAP_LATCHED) 0 = true ∧ s.led.wrongCodes < 3 ∧ s.rd R.LEDGER_COMM_AUTH ≠ 0 ∧ 8 ≤ c.payload.length ∧ argW c 20 ≠ s.rd R.LEDGER_COMM_AUTH) ∧
    (let c := cm 0x13 [0, 0, 0, 0, 0, 0, 1, 0]; let s : State := { up 5 with led.auth := some 0, atime := 10000000 }; let a : Time := 0; c.target = 0x13 ∧ s.led.auth = some a ∧ 10000000 ≤ s.since a) ∧
    (let c := cm 0x13 [0, 0, 0, 0, 0, 0, 1, 0]; let s : State := { up 5 with led.auth := some 0, atime := 9999999 }; let a : Time := 0; c.target = 0x13 ∧ s.led.auth = some a ∧ s.since a < 10000000) ∧
    (let c := cm 0x13 [0, 0, 0, 0, 0, 0, 1, 0]; let s : State := fly (up 4) 0x6000 c; c.target = 0x13 ∧ s.startable c 0x6000 = true ∧ s.md = .commission) ∧
    (let c := cm 0x13 [0, 0, 0, 0, 0, 0, 1, 0]; let s : State := fly (up 6) 0x6000 c; c.target = 0x13 ∧ s.startable c 0x6000 = true ∧ s.md ≠ .commission) ∧
    (let c := cm 0x13 [0, 0, 0, 0, 0, 0, 1, 0]; let s : State := fly (up 6) 0x6001 c; c.target = 0x13 ∧ s.startable c 0x6001 = true ∧ s.md ≠ .commission) ∧
    (let c := cm 0x13 [0, 0, 0, 0, 0, 0, 1, 0]; let s : State := fly ((up 4).wr R.LEDGER_COMM_CHECK 5) 0x6001 c; c.target = 0x13 ∧ s.startable c 0x6001 = true ∧ s.md = .commission ∧ (argW c 20 ≠ s.rd R.LEDGER_COMM_CHECK ∨ s.flag R.LEDGER_COMM_STATUS_CHANGED = true ∨ s.mramWorn 0x6001 = true)) ∧
    (let c := cm 0x13 [0, 0, 0, 0, 0, 0, 1, 0]; let s : State := fly (((up 4).wr R.LEDGER_COMM_CHECK 0x10000).putB R.LEDGER_COMM_STATUS_CHANGED false) 0x6001 c; c.target = 0x13 ∧ s.startable c 0x6001 = true ∧ s.md = .commission ∧ s.pwr.power = .run ∧ 8 ≤ c.payload.length ∧ argW c 20 = s.rd R.LEDGER_COMM_CHECK ∧ s.flag R.LEDGER_COMM_STATUS_CHANGED = false ∧ s.mramWorn 0x6001 = false) := by
  and_intros <;> decide +kernel

theorem test_meets_LinksUpAndDown :
    (let s : State := State.reset; let p := 1; let m := 2; let gen := 3; let x := true; let acc := true; let f : List Byte := List.replicate 60 1; let tag := 3; s.running = false) ∧
    (let s : State := (up 6).wr R.LINK_STATUS 0xFFFFFFFF; let p := 1; let gen := 4; let x := true; s.running = true ∧ p < 2 ∧ 1 ≤ gen ∧ gen ≤ 4) ∧
    (let s : State := up 6; let p := 1; s.running = true ∧ p < 2 ∧ s.get (portGen p) = 0) ∧
    (let s : State := (up 6).wr R.LINK_STATUS 0xFFFFFFFF; let p := 1; s.running = true ∧ p < 2 ∧ s.get (portGen p) ≠ 0) ∧
    (let k := 32; k % 32 = 0) ∧
    (let s : State := (up 6).wr R.PAIR_STATUS 0x22; s.pairsLost = true) ∧
    (let s : State := (up 6).wr R.LINK_STATUS 0xFFFFFFFF; s.running = true ∧ s.pairsLost = false) ∧
    (let s : State := (up 6).wr R.LINK_STATUS 0xFFFFFFFF; let k := 4; k < 5 ∧ s.running = true ∧ s.pairsLost = false) ∧
    (let s : State := (up 6).wr R.LINK_STATUS 0xFFFFFFFF; let m := 2; s.running = true ∧ m < 3) ∧
    (let s : State := (up 6).wr R.LINK_STATUS 0xFFFFFFFF; let m := 2; s.running = true ∧ m < 3 ∧ s.bitAt R.LINK_STATUS_ETH_UP m = true) ∧
    (let s : State := up 6; let m := 2; let acc := true; let f : List Byte := List.replicate 60 1; s.bitAt R.LINK_STATUS_ETH_UP m = false) ∧
    (let s : State := (up 6).wr R.LINK_STATUS 0xFFFFFFFF; let m := 2; let acc := false; let f : List Byte := List.replicate 1519 0; s.running = true ∧ m < 3 ∧ s.bitAt R.LINK_STATUS_ETH_UP m = true ∧ 1518 < f.length) ∧
    (let s : State := (up 6).wr R.LINK_STATUS 0xFFFFFFFF; let m := 2; let f : List Byte := List.replicate 12 0 ++ [0x88, 0xF7] ++ List.replicate 40 1; s.running = true ∧ m < 3 ∧ s.bitAt R.LINK_STATUS_ETH_UP m = true ∧ f.length ≤ 1518 ∧ (etherType f).1 ≠ s.get R.TALLY_CFG_ETYPE ∧ (etherType f).1 = 0x88F7 ∧ s.timeMac m = false) ∧
    (let s : State := (up 6).wr R.LINK_STATUS 0xFFFFFFFF; let m := 2; let f : List Byte := List.replicate 12 0 ++ [0x08, 0] ++ List.replicate 1504 1; s.running = true ∧ m < 3 ∧ s.bitAt R.LINK_STATUS_ETH_UP m = true ∧ f.length ≤ 1518 ∧ (etherType f).1 ≠ s.get R.TALLY_CFG_ETYPE ∧ (etherType f).1 ≠ 0x88F7 ∧ (etherType f).1 ≠ s.get R.LINK_ETH_CFG_SVC_ETYPE) ∧
    (let s : State := (up 6).wr R.LINK_STATUS 0xFFFFFFFF; let m := 2; let f : List Byte := List.replicate 12 0 ++ [0x08, 0] ++ List.replicate 1504 1; s.running = true ∧ m < 3 ∧ s.bitAt R.LINK_STATUS_ETH_UP m = true ∧ f.length ≤ 1518 ∧ (etherType f).1 ≠ s.get R.TALLY_CFG_ETYPE ∧ (etherType f).1 ≠ 0x88F7 ∧ (etherType f).1 ≠ s.get R.LINK_ETH_CFG_SVC_ETYPE ∧ broadcast f = false) ∧
    (let s : State := (up 6).wr R.LINK_STATUS 0xFFFFFFFF; let p := 2; s.running = true ∧ p < nGl s.part) ∧
    (let s : State := (up 6).wr R.LINK_STATUS 0xFFFFFFFF; let p := 2; s.running = true ∧ s.glUp p = true) ∧
    (let s : State := up 6; let p := 1; let tag := 3; let f : List Byte := List.replicate 60 1; s.glUp p = false) := by
  and_intros <;> decide +kernel

theorem test_meets_CanGalleryTime :
    (let s : State := (up 6).wr R.LINK_STATUS 0xFFFFFFFF; let k := 6; let i := 5; let x := true; let hit := true; let d : List Byte := [1, 2]; let tec := 1; let rxc := 2; (s.running = false ∨ 6 ≤ k ∨ s.bankLive 5 = false)) ∧
    (let s : State := (up 6).wr R.LINK_STATUS 0xFFFFFFFF; let k := 5; let tec := 255; let rxc := 255; let i := 5; let x := false; let d : List Byte := [1, 2]; s.running = true ∧ k < 6 ∧ s.bankLive 5 = true ∧ (s.canCounts k tec rxc).tallyMatch k i x = none) ∧
    (let s : State := ((((up 6).wr (R.TALLY_CONN_TAG 0) 5).putB (R.TALLY_CONN_CFG_EN 0) true).putB (R.TALLY_CONN_CFG_DIR 0) false).put (R.TALLY_CONN_CFG_PATH 0) 5; let k := 5; let tec := 255; let rxc := 255; let cn := 0; s.running = true ∧ k < 6 ∧ s.bankLive 5 = true ∧ (s.canCounts k tec rxc).tallyMatch k 5 false = some cn) ∧
    (let s : State := up 6; let k := 5; let tec := 255; let rxc := 255; tec < 256 ∧ rxc < 256 ∧ k < 6) ∧
    (let s : State := (up 6).wr R.LINK_STATUS 0xFFFFFFFF; let k := 5; let tec := 255; let rxc := 3; s.running = true ∧ k < 6 ∧ s.flag (R.LINK_CAN_STAT_BUS_OFF k) = false) ∧
    (let s : State := (up 6).putB (R.LINK_CAN_STAT_BUS_OFF 5) true; let k := 5; let tec := 255; let rxc := 3; s.flag (R.LINK_CAN_STAT_BUS_OFF k) = true) ∧
    (let s : State := ((up 6).putB (R.LINK_CAN_STAT_BUS_OFF 5) true).putB (R.LINK_CAN_STAT_AUTO_REC 5) true; let k := 5; s.running = true ∧ k < 6 ∧ s.flag (R.LINK_CAN_STAT_BUS_OFF k) = true ∧ s.flag (R.LINK_CAN_STAT_AUTO_REC k) = true) ∧
    (let s : State := up 6; let k := 5; (s.flag (R.LINK_CAN_STAT_BUS_OFF k) = false ∨ s.flag (R.LINK_CAN_STAT_AUTO_REC k) = false)) ∧
    (let s : State := (up 6).wr R.LINK_STATUS 0xFFFFFFFF; let p := 2; let tag := 3; let f : List Byte := [0x11, 0, 1, 3, 0, 0, 0, 0, 0, 0, 0, 0, 0, 0, 0, 0] ++ [0, 0, 0, 0]; s.running = true ∧ s.glUp p = true ∧ fieldAt f 4 2 ≤ 512 ∧ 20 + fieldAt f 4 2 ≤ f.length ∧ (crc32c 0xFFFFFFFF#32 (f.take (16 + fieldAt f 4 2))).toNat ≠ fieldAt f (16 + fieldAt f 4 2) 4) ∧
    (let s : State := ((up 6).wr R.LINK_STATUS 0xFFFFFFFF).put R.LINK_GL_CFG_ADDR 3; let p := 2; let tag := 3; let h : List Byte := [0x12, 1, 1, 3, 0, 0, 0, 0, 0, 0, 0, 0, 0, 0, 0, 0]; let f : List Byte := h ++ leBytes 4 (crc32c 0xFFFFFFFF#32 h).toNat; s.running = true ∧ s.glUp p = true ∧ fieldAt f 4 2 ≤ 512 ∧ 20 + fieldAt f 4 2 ≤ f.length ∧ (crc32c 0xFFFFFFFF#32 (f.take (16 + fieldAt f 4 2))).toNat = fieldAt f (16 + fieldAt f 4 2) 4 ∧ fieldAt f 0 1 / 16 = 1 ∧ fieldAt f 0 1 % 16 ≤ 2 ∧ s.get R.LINK_GL_CFG_ADDR ≠ 0 ∧ s.get R.LINK_GL_CFG_ADDR ≠ 0xFF ∧ fieldAt f 3 1 = s.get R.LINK_GL_CFG_ADDR) ∧
    (let s : State := ((up 6).wr R.LINK_STATUS 0xFFFFFFFF).put R.LINK_GL_CFG_ADDR 2; let p := 2; let tag := 3; let h : List Byte := [0x12, 0, 1, 3, 0, 0, 0, 0, 0, 0, 0, 0, 0, 0, 0, 0]; let f : List Byte := h ++ leBytes 4 (crc32c 0xFFFFFFFF#32 h).toNat; s.running = true ∧ s.glUp p = true ∧ fieldAt f 4 2 ≤ 512 ∧ 20 + fieldAt f 4 2 ≤ f.length ∧ (crc32c 0xFFFFFFFF#32 (f.take (16 + fieldAt f 4 2))).toNat = fieldAt f (16 + fieldAt f 4 2) 4 ∧ fieldAt f 0 1 / 16 = 1 ∧ fieldAt f 0 1 % 16 ≤ 2 ∧ s.get R.LINK_GL_CFG_ADDR ≠ 0 ∧ s.get R.LINK_GL_CFG_ADDR ≠ 0xFF ∧ fieldAt f 3 1 ≠ s.get R.LINK_GL_CFG_ADDR ∧ fieldAt f 2 1 ≠ s.get R.LINK_GL_CFG_ADDR ∧ fieldAt f 2 1 ≠ 0xFF ∧ fieldAt f 1 1 = 0) ∧
    (let s : State := ((up 6).wr R.LINK_STATUS 0xFFFFFFFF).put R.LINK_GL_CFG_ADDR 2 |>.put (R.LINK_GL_ROUTE_PORTS 1) 7; let p := 2; let tag := 3; let h : List Byte := [0x12, 4, 1, 3, 0, 0, 0, 0, 0, 0, 0, 0, 0, 0, 0, 0]; let f : List Byte := h ++ leBytes 4 (crc32c 0xFFFFFFFF#32 h).toNat; s.running = true ∧ s.glUp p = true ∧ fieldAt f 4 2 ≤ 512 ∧ 20 + fieldAt f 4 2 ≤ f.length ∧ (crc32c 0xFFFFFFFF#32 (f.take (16 + fieldAt f 4 2))).toNat = fieldAt f (16 + fieldAt f 4 2) 4 ∧ fieldAt f 0 1 / 16 = 1 ∧ fieldAt f 0 1 % 16 ≤ 2 ∧ s.get R.LINK_GL_CFG_ADDR ≠ 0 ∧ s.get R.LINK_GL_CFG_ADDR ≠ 0xFF ∧ fieldAt f 3 1 ≠ s.get R.LINK_GL_CFG_ADDR ∧ fieldAt f 2 1 ≠ s.get R.LINK_GL_CFG_ADDR ∧ fieldAt f 2 1 ≠ 0xFF ∧ fieldAt f 1 1 ≠ 0 ∧ s.glRoute (fieldAt f 2 1) ≠ []) ∧
    (let s : State := ((up 6).wr R.LINK_STATUS 0xFFFFFFFF).put R.LINK_GL_CFG_ADDR 2; let p := 2; let tag := 3; let h : List Byte := [0x12, 1, 2, 3, 0, 0, 0, 0, 0, 0, 0, 0, 0, 0, 0, 0]; let f : List Byte := h ++ leBytes 4 (crc32c 0xFFFFFFFF#32 h).toNat; s.running = true ∧ s.glUp p = true ∧ fieldAt f 4 2 ≤ 512 ∧ 20 + fieldAt f 4 2 ≤ f.length ∧ (crc32c 0xFFFFFFFF#32 (f.take (16 + fieldAt f 4 2))).toNat = fieldAt f (16 + fieldAt f 4 2) 4 ∧ fieldAt f 0 1 / 16 = 1 ∧ fieldAt f 0 1 % 16 ≤ 2 ∧ s.get R.LINK_GL_CFG_ADDR ≠ 0 ∧ s.get R.LINK_GL_CFG_ADDR ≠ 0xFF ∧ fieldAt f 3 1 ≠ s.get R.LINK_GL_CFG_ADDR ∧ fieldAt f 2 1 = s.get R.LINK_GL_CFG_ADDR) ∧
    (let s : State := { ((up 6).wr R.LINK_STATUS 0xFFFFFFFF).wr R.LINK_TIME_CFG 0xFFFFFFFF with atime := 5000 }; let p := 2; s.running = true ∧ s.glUp p = true ∧ s.bitAt R.LINK_TIME_CFG_GM p = true ∧ 1000 ≤ s.since (Sparse.get (always 0) s.net.timeAt p)) ∧
    (let s : State := (up 6).wr R.LINK_TIME_CFG 0; let p := 2; (s.bitAt R.LINK_TIME_CFG_GM p = false ∨ s.since (Sparse.get (always 0) s.net.timeAt p) < 1000)) ∧
    (let s : State := State.reset; let p := 0; let o : Int := 5; (s.running = false ∨ s.timePath ≠ some p ∨ s.timeUp p = false)) ∧
    (let s : State := (((up 6).wr R.LINK_STATUS 0xFFFFFFFF).put R.LINK_TIME_CFG_SRC 2).put R.LINK_TIME_CFG_PORT 2; let p := 0x22; let o : Int := 12345; s.running = true ∧ s.timePath = some p ∧ s.timeUp p = true ∧ s.net.locked = false ∧ s.net.leftWait = false) ∧
    (let s : State := { (((up 6).wr R.LINK_STATUS 0xFFFFFFFF).put R.LINK_TIME_CFG_SRC 2).put R.LINK_TIME_CFG_PORT 2 |>.putB R.LINK_TIME_STAT_LOCKED true with net.locked := true }; let p := 0x22; let o : Int := (-999); s.running = true ∧ s.timePath = some p ∧ s.timeUp p = true ∧ s.net.locked = true ∧ s.flag R.LINK_TIME_STAT_LOCKED = true ∧ o.natAbs < 1000) ∧
    (let s : State := { (((up 6).wr R.LINK_STATUS 0xFFFFFFFF).put R.LINK_TIME_CFG_SRC 2).put R.LINK_TIME_CFG_PORT 2 |>.putB R.LINK_TIME_STAT_LOCKED true with net.locked := true }; let p := 0x22; let o : Int := (-100001); s.running = true ∧ s.timePath = some p ∧ s.timeUp p = true ∧ s.net.locked = true ∧ s.flag R.LINK_TIME_STAT_LOCKED = true ∧ 100000 < o.natAbs) ∧
    (let s : State := (up 6).putB R.LINK_TIME_STAT_LOCKED true; s.running = true ∧ s.flag R.LINK_TIME_STAT_LOCKED = true ∧ s.syncQuiet = true) ∧
    (let s : State := ((up 6).put R.LINK_TIME_CFG_SRC 2).putB R.LINK_TIME_STAT_LOCKED true; s.syncQuiet = false) ∧
    (let s : State := up 6; let o : Int := (-100000); o.natAbs ≤ 100000) := by
  and_intros <;> decide +kernel

theorem test_meets_RegistersAndServicePath :
    (let s : State := up 6; let a := 0xFFFFFC; let v : Word := 5; let w := Writer.hostA; a < 0x1000000 ∧ findReg a = none ∧ w ≠ .service) ∧
    (let s : State := State.reset; let a := 0x20004; let v : Word := 5; let w := Writer.hostA; s.running = false) ∧
    (let s : State := (up 6).wr R.PAIR_STATUS 0; let a := 0x20004; let v : Word := 5; s.inService 0 = false) ∧
    (let s : State := (up 6).wr R.PAIR_STATUS 0; let a := 0x1000100; let v : Word := 5; s.inService 1 = false) ∧
    (let s : State := up 4; let a := R.SYS_MODE_CFG; let v : Word := 0x103E8; let w := Writer.steward; let f : RegFam := ((findReg R.SYS_MODE_CFG).map (·.1)).getD ⟨.r_SYS_MODE_CFG, 0, 0, 0, 0, 0, []⟩; let i := 0; s.running = true ∧ s.writerLive w = true ∧ a < 0x1000000 ∧ (w = .service → s.mayWrite .service (a / 0x10000) = true) ∧ findReg a = some (f, i) ∧ regPresent s.part f i = true) ∧
    (let s : State := up 6; let n := 1023; let v : Word := 5; s.running = true ∧ n < 1024) ∧
    (let s : State := up 6; let n := 1; let v : Word := 5; s.running = true ∧ n < 1024) ∧
    (let s : State := up 6; let a := 0xFFFFFC; let v : Word := 5; s.running = true ∧ a < 0x1000000 ∧ s.mayWrite .service (a / 0x10000) = false) ∧
    (let s : State := (up 6).put R.OWN_STATUS_OWNER 1; let a := 0xFFFFFC; let w := Writer.hostA; let v : Word := 5; let i := 0; let f : RegFam := ⟨.r_SYS_MODE_CFG, 0, 0, 0, 0, 0, []⟩; s.mayWrite w (a / 0x10000) = false) ∧
    (let fd : FieldDef := ⟨15, 8, .rw⟩; fd.lo ≤ fd.hi ∧ fd.hi < 32) ∧
    (let fd : FieldDef := ⟨15, 8, .rw⟩; let hi := 7; let lo := 0; fd.lo ≤ fd.hi ∧ fd.hi < 32 ∧ lo ≤ hi ∧ hi < 32 ∧ (hi < fd.lo ∨ fd.hi < lo)) ∧
    (let s : State := up 6; let l : List FieldDef := [⟨15, 8, .rws⟩]; s.md ≠ .commission ∧ (∀ fd, fd ∈ l → fd.ty = .rws)) ∧
    (let s : State := up 6; s.md ≠ .commission) ∧
    (let s : State := up 4; let v : Word := 0x103E8; s.running = true ∧ s.md = .commission ∧ 1 ≤ bitsOf v 23 16 ∧ bitsOf v 9 0 ≤ 1000) ∧
    (let a := 0xFFFFFC; findReg a = none) ∧
    (let n := 31; n < 32) ∧
    (let s : State := up 6; s.net.svcMac = []) ∧
    (let s : State := { up 6 with net.svcMac := [1, 0] }; let m := 1; let rest : List Nat := [0]; let hs : List (Bool × Nat × Nat) := []; let left : List (Bool × Nat × Nat) := []; let t : State := { s with mkt.queues := Sparse.set (always []) s.mkt.queues 56 left, net.svcMac := rest }; let frame : List Byte := []; let u : State := t; s.net.svcMac = m :: rest ∧ firstFrame (Sparse.get (always []) s.mkt.queues 56) = (hs, left) ∧ State.readHandles { s with mkt.queues := Sparse.set (always []) s.mkt.queues 56 left, net.svcMac := rest } hs = (t, some frame) ∧ (t.each hs fun t h => t.freeStall 56 h.2.2) = u) ∧
    (let req : List Byte := [1, 0, 0, 0, 1, 0, 0, 0, 0, 0, 2, 0]; let frame : List Byte := List.replicate 12 3 ++ [0x88, 0xB5] ++ req; let s : State := { (((up 6).wr (R.MKT_CH_QUOTA 56) 0x10001).storeFrame 56 frame).1 with net.svcMac := [1] }; let m := 1; let rest : List Nat := []; let hs : List (Bool × Nat × Nat) := (firstFrame (Sparse.get (always []) s.mkt.queues 56)).1; let left : List (Bool × Nat × Nat) := []; let r : State × Option (List Byte) := State.readHandles { s with mkt.queues := Sparse.set (always []) s.mkt.queues 56 left, net.svcMac := rest } hs; let t : State := r.1; let u : State := t.each hs fun t h => t.freeStall 56 h.2.2; let b : List Byte := svcReply req 0 (wordBytes (u.readReg 0x20000)); s.net.svcMac = m :: rest ∧ firstFrame (Sparse.get (always []) s.mkt.queues 56) = (hs, left) ∧ State.readHandles { s with mkt.queues := Sparse.set (always []) s.mkt.queues 56 left, net.svcMac := rest } hs = (t, some frame) ∧ (t.each hs fun t h => t.freeStall 56 h.2.2) = u ∧ (u.svcServe (etherType frame).2).2 = some b) ∧
    (let q : List Byte := [2]; fieldAt q 0 1 ≠ 1) ∧
    (let q : List Byte := [1, 0, 0, 0, 65, 0, 0, 0, 0, 0, 0, 0]; fieldAt q 0 1 = 1 ∧ (fieldAt q 4 2 = 0 ∨ 64 < fieldAt q 4 2 ∨ fieldAt q 8 4 % 4 ≠ 0 ∨ 1 < fieldAt q 1 1)) ∧
    (let q : List Byte := [1, 0, 0, 0, 64, 0, 0, 0, 0, 0xFF, 0xFF, 0]; fieldAt q 0 1 = 1 ∧ fieldAt q 1 1 = 0 ∧ 1 ≤ fieldAt q 4 2 ∧ fieldAt q 4 2 ≤ 64 ∧ fieldAt q 8 4 % 4 = 0 ∧ fieldAt q 8 4 + 4 * fieldAt q 4 2 ≤ 0x1000000) ∧
    (let s : State := up 6; let q : List Byte := [1, 1, 0, 0, 1, 0, 0, 0, 0, 0, 2, 0] ++ [5, 0, 0, 0]; fieldAt q 0 1 = 1 ∧ fieldAt q 1 1 = 1 ∧ 1 ≤ fieldAt q 4 2 ∧ fieldAt q 4 2 ≤ 64 ∧ fieldAt q 8 4 % 4 = 0 ∧ fieldAt q 8 4 + 4 * fieldAt q 4 2 ≤ 0x1000000 ∧ 12 + 4 * fieldAt q 4 2 ≤ q.length ∧ s.mayWrite .service (fieldAt q 8 4 / 0x10000) = false) ∧
    (let c := { cm 0x15 [] with len := 4096 }; let s : State := fly (up 6) 0x6012 c; s.startable c 0x6012 = true ∧ c.target = 0x15 ∧ s.md.fromDiscover = true ∧ 4096 ≤ c.len) ∧
    (let c := { cm 0x15 [] with len := 4095 }; let s : State := fly (up 6) 0x6012 c; s.startable c 0x6012 = true ∧ c.target = 0x15 ∧ s.md.fromDiscover = true ∧ c.len < 4096) := by
  and_intros <;> decide +kernel

/-- EventsInterruptsTelemetry, an event with no event ring running. -/
theorem test_meets_event_without_ring : { up 5 with host.events := [ev0] }.host.events = ev0 :: [] ∧
    ∀ m k, ({ up 5 with host.events := [ev0] }.ring m 2 k).run = false :=
  ⟨rfl, fun _ _ => show Ring.init.run = false by decide +kernel⟩

/-- SafetyTableAndLatch, a scan that a row has ended. -/
theorem test_meets_ended_scan : (Scan.mk [] [] 0 0 0 false false true).ended = true ∧ rowOp 0 = 0 := by decide +kernel

/-- StepRunsFrontCommand and the two step invariants: a step that answers a next state, from states that meet them. -/
theorem test_meets_step : (up 5).canonical = true ∧ (up 5).noShootThrough = true ∧ (∃ t, step (up 5) = .next t ∧ t.atime = 1) ∧
    (∃ t, step { up 5 with pending := [.ethLinkUp 2] } = .next t ∧ t.pending = []) := by
  refine ⟨by decide +kernel, by decide +kernel, ⟨_, rfl, by decide +kernel⟩, ⟨_, rfl, by decide +kernel⟩⟩

/-! ## Well-formedness: one ill-formed term for each check of each command, and every command well-formed with its operands in range -/

/-- A well-formed command frame, and parts that fail a check. -/
def c0 : Cmd := cm 0 []
def cBad : Cmd := { c0 with master := 3 }
def bBad : BootIn := { boot0 with straps := 256 }
def gBad : GateIn := { gate0 with main := 2 ^ 64 }
def win0 : WindowIn := { writes := [(0x10, 5)], count := 64, retired := 9, stalled := 0, gate := gate0 }
def xBad : WindowIn := { win0 with count := 65 }

/-- Each check of a command frame. -/
theorem test_wf_cmd : c0.wf = true ∧ cBad.wf = false ∧ { c0 with tag := 65536 }.wf = false ∧ { c0 with target := 256 }.wf = false ∧
    { c0 with hostAddr := 2 ^ 64 }.wf = false ∧ { c0 with hostAddr := 4 }.wf = false ∧ { c0 with len := 65536 }.wf = false := by decide +kernel

/-- A payload longer than R91 allows, and a frame that no MAC delivers. -/
theorem test_wf_long_payload (p : List Byte) (h : 65536 ≤ p.length) : { c0 with payload := p }.wf = false ∧
    (Instr.descriptorReadDone none [some p]).wf = false ∧ (Instr.ethFrameRx 0 false p).wf = false := by
  have : ¬ p.length < 65536 := by omega
  refine ⟨?_, ?_, ?_⟩ <;> simp [Cmd.wf, Instr.wf, dataOk, this]

/-- Each check of what a BOOT finds, a checked word, an access, a gate input and a signature window. -/
theorem test_wf_parts : boot0.wf = true ∧ bBad.wf = false ∧ { boot0 with selfTest := [(32, 0, 0)] }.wf = false ∧
    { boot0 with selfTest := [(0, 284, 0)] }.wf = false ∧ { boot0 with selfTest := [(0, 0, 7)] }.wf = false ∧
    { boot0 with badSpares := [(32, 0)] }.wf = false ∧ { boot0 with badSpares := [(0, 8)] }.wf = false ∧
    { boot0 with badCanary := [10] }.wf = false ∧ (EccHit.mk 31 7 255 true).wf = true ∧ (EccHit.mk 32 0 0 false).wf = false ∧ (EccHit.mk 0 (2 ^ 145) 0 false).wf = false ∧
    (EccHit.mk 0 0 (2 ^ 20) false).wf = false ∧ (acc 0 4).wf = true ∧ (acc (2 ^ 32) 4).wf = false ∧ (acc 0 3).wf = false ∧ (acc 0 16).wf = false ∧
    { acc 0 4 with gallery := some 4 }.wf = false ∧ { acc 0 4 with engine := some 8 }.wf = false ∧ { acc 0 1 with data := 256 }.wf = false ∧
    { acc 0 4 with ecc := ⟨32, 0, 0, false⟩ }.wf = false ∧ { acc 0 4 with other := some ⟨.steward, none, true, 4, 4, 5, 3⟩ }.wf = true ∧
    { acc 0 4 with other := some ⟨.steward, none, true, 5, 4, 5, 3⟩ }.wf = false ∧ { acc 0 4 with other := some ⟨.steward, some 4, true, 4, 4, 5, 3⟩ }.wf = false ∧
    { acc 0 4 with other := some ⟨.steward, none, true, 4, 1, 256, 3⟩ }.wf = false ∧ { acc 0 4 with other := some ⟨.steward, none, true, 4, 4, 5, 4⟩ }.wf = false ∧ gate0.wf = true ∧ gBad.wf = false ∧ { gate0 with checker := 2 ^ 64 }.wf = false ∧
    win0.wf = true ∧ xBad.wf = false ∧ { win0 with writes := [(0x11, 5)] }.wf = false ∧ { win0 with writes := [(0x1000000, 5)] }.wf = false ∧
    { win0 with writes := List.replicate 65 (0, 0) }.wf = false ∧ { win0 with gate := gBad }.wf = false ∧
    recOk (some ⟨0x1401, 3, 255, 0, 0, 0⟩) = true ∧ recOk (some ⟨0, 4, 0, 0, 0, 0⟩) = false ∧ recOk (some ⟨0, 0, 256, 0, 0, 0⟩) = false ∧
    recOk (some ⟨0, 0, 0, 2 ^ 32, 0, 0⟩) = false := by decide +kernel

/-- Terms with one operand just outside its range: each is refused (part 1). -/
theorem test_wf_refuses_1 : ([
    .vstbyRise false 256 0, .vstbyRise false 0 16, .supplyGood 13, .supplyLost 13, .bootStart bBad, .perstAssert 2,
    .strapChangeDetected 256, .wakeEvent (some (4, false)), .modeStatus cBad, .modeRequest cBad, .parkEngage cBad, .parkRelease cBad,
    .safeStopRequest cBad, .sysReset cBad, .modeTransitionEnd 4096 false, .discoverStart [(96, ⟨0, []⟩)],
    .discoverEnd [(96, ⟨0, []⟩)] [], .discoverEnd [] [0, 0, 0, 0, 0], .discRun cBad [], .discRun c0 [(96, ⟨0, []⟩)], .discAdopt cBad, .discRead cBad,
    .ringSelect .hostA 3 0, .ringConfigWrite .hostA 3 0, .ringReset .hostA 3 0, .doorbellCmd .hostA 3 0 0, .doorbellCmd .hostA 0 16 0,
    .doorbellCpl .hostA 3 0 0, .doorbellCpl .hostA 0 16 0, .doorbellEvt .hostA 3 0 0, .doorbellEvt .hostA 0 16 0,
    .doorbellTlm .hostA 3 0 0, .doorbellTlm .hostA 0 16 0, .descriptorReadDone (some [0]) [], .crFullRepeat 3 0, .crFullRepeat 0 16,
    .classRTimeout 3 0, .classRTimeout 0 65536, .cmdProgress 3 0 0 0, .cmdProgress 0 65536 0 0, .cmdProgress 0 0 1001 0,
    .cmdProgress 0 0 0 (2 ^ 32), .irqTimeExpiry 3 0 0, .irqTimeExpiry 0 4 0, .irqTimeExpiry 0 0 16, .tlmSelect cBad, .tlmBufferCopy 3 0,
    .tlmBufferCopy 0 16, .tlmFlushExpiry 3 0, .tlmFlushExpiry 0 16, .ownQuery cBad, .ownClaim cBad, .ownHandover cBad, .ownConfirm cBad,
    .heartbeat .hostA 2 0, .sramAccess (acc 0 3), .aadd (acc 0 3), .aswp (acc 0 3), .bankPowerRequest .hostA 2 0, .bankIdleRetention 32,
    .marketRequest [57], .marketRelease none 57 0, .marketRelease none 0 4096, .marketQuotaWrite .hostA 57 0, .scrubLine [⟨32, 0, 0, false⟩],
    .trackerEntryExpiry (2 ^ 23), .rowRepair (2 ^ 23) 0, .rowRepair 0 2, .bgtWindowStep false (some 8),
    .mramDailyRead 0x3FFFFFFF 0, .mramDailyRead 0x42100000 0, .mramDailyRead 0x40000000 (2 ^ 145), .feTick 8, .tickOverrun 8, .nop 8 0 0 0 0, .nop 0 32 0 0 0,
    .nop 0 0 32 0 0, .nop 0 0 0 32 0, .nop 0 0 0 0 2048, .mov 8 0 0 0 0, .mov 0 32 0 0 0, .mov 0 0 32 0 0, .mov 0 0 0 32 0,
    .mov 0 0 0 0 2048, .fadd 8 0 0 0 0, .fadd 0 32 0 0 0, .fadd 0 0 32 0 0, .fadd 0 0 0 32 0, .fadd 0 0 0 0 2048, .fsub 8 0 0 0 0,
    .fsub 0 32 0 0 0, .fsub 0 0 32 0 0, .fsub 0 0 0 32 0, .fsub 0 0 0 0 2048, .fmul 8 0 0 0 0, .fmul 0 32 0 0 0] : List Instr).all (fun i => !i.wf) = true := by decide +kernel

/-- Terms with one operand just outside its range: each is refused (part 2). -/
theorem test_wf_refuses_2 : ([
    .fmul 0 0 32 0 0, .fmul 0 0 0 32 0, .fmul 0 0 0 0 2048, .fmac 8 0 0 0 0, .fmac 0 32 0 0 0, .fmac 0 0 32 0 0, .fmac 0 0 0 32 0,
    .fmac 0 0 0 0 2048, .fmin 8 0 0 0 0, .fmin 0 32 0 0 0, .fmin 0 0 32 0 0, .fmin 0 0 0 32 0, .fmin 0 0 0 0 2048, .fmax 8 0 0 0 0,
    .fmax 0 32 0 0 0, .fmax 0 0 32 0 0, .fmax 0 0 0 32 0, .fmax 0 0 0 0 2048, .fabs 8 0 0 0 0, .fabs 0 32 0 0 0, .fabs 0 0 32 0 0,
    .fabs 0 0 0 32 0, .fabs 0 0 0 0 2048, .fneg 8 0 0 0 0, .fneg 0 32 0 0 0, .fneg 0 0 32 0 0, .fneg 0 0 0 32 0, .fneg 0 0 0 0 2048,
    .fcmp 8 0 0 0 0, .fcmp 0 32 0 0 0, .fcmp 0 0 32 0 0, .fcmp 0 0 0 32 0, .fcmp 0 0 0 0 2048, .ftoi 8 0 0 0 0, .ftoi 0 32 0 0 0,
    .ftoi 0 0 32 0 0, .ftoi 0 0 0 32 0, .ftoi 0 0 0 0 2048, .itof 8 0 0 0 0, .itof 0 32 0 0 0, .itof 0 0 32 0 0, .itof 0 0 0 32 0,
    .itof 0 0 0 0 2048, .sincos 8 0 0 0 0, .sincos 0 32 0 0 0, .sincos 0 0 32 0 0, .sincos 0 0 0 32 0, .sincos 0 0 0 0 2048,
    .sqrt 8 0 0 0 0, .sqrt 0 32 0 0 0, .sqrt 0 0 32 0 0, .sqrt 0 0 0 32 0, .sqrt 0 0 0 0 2048, .div 8 0 0 0 0, .div 0 32 0 0 0,
    .div 0 0 32 0 0, .div 0 0 0 32 0, .div 0 0 0 0 2048, .iadd 8 0 0 0 0, .iadd 0 32 0 0 0, .iadd 0 0 32 0 0, .iadd 0 0 0 32 0,
    .iadd 0 0 0 0 2048, .isub 8 0 0 0 0, .isub 0 32 0 0 0, .isub 0 0 32 0 0, .isub 0 0 0 32 0, .isub 0 0 0 0 2048, .iand 8 0 0 0 0,
    .iand 0 32 0 0 0, .iand 0 0 32 0 0, .iand 0 0 0 32 0, .iand 0 0 0 0 2048, .ior 8 0 0 0 0, .ior 0 32 0 0 0, .ior 0 0 32 0 0,
    .ior 0 0 0 32 0, .ior 0 0 0 0 2048, .ixor 8 0 0 0 0, .ixor 0 32 0 0 0, .ixor 0 0 32 0 0, .ixor 0 0 0 32 0, .ixor 0 0 0 0 2048,
    .ishl 8 0 0 0 0, .ishl 0 32 0 0 0, .ishl 0 0 32 0 0, .ishl 0 0 0 32 0, .ishl 0 0 0 0 2048, .ishr 8 0 0 0 0, .ishr 0 32 0 0 0,
    .ishr 0 0 32 0 0, .ishr 0 0 0 32 0, .ishr 0 0 0 0 2048, .ili 8 0 0, .ili 0 32 0] : List Instr).all (fun i => !i.wf) = true := by decide +kernel

/-- Terms with one operand just outside its range: each is refused (part 3). -/
theorem test_wf_refuses_3 : ([
    .ili 0 0 65536, .ldp 8 0 0 0 0, .ldp 0 32 0 0 0, .ldp 0 0 32 0 0, .ldp 0 0 0 32 0, .ldp 0 0 0 0 2048, .stp 8 0 0 0 0,
    .stp 0 32 0 0 0, .stp 0 0 32 0 0, .stp 0 0 0 32 0, .stp 0 0 0 0 2048, .ldg 8 0 0 0 0, .ldg 0 32 0 0 0, .ldg 0 0 32 0 0,
    .ldg 0 0 0 32 0, .ldg 0 0 0 0 2048, .clarke 8 0 0 0 0, .clarke 0 32 0 0 0, .clarke 0 0 32 0 0, .clarke 0 0 0 32 0,
    .clarke 0 0 0 0 2048, .iclarke 8 0 0 0 0, .iclarke 0 32 0 0 0, .iclarke 0 0 32 0 0, .iclarke 0 0 0 32 0, .iclarke 0 0 0 0 2048,
    .park 8 0 0 0 0, .park 0 32 0 0 0, .park 0 0 32 0 0, .park 0 0 0 32 0, .park 0 0 0 0 2048, .ipark 8 0 0 0 0, .ipark 0 32 0 0 0,
    .ipark 0 0 32 0 0, .ipark 0 0 0 32 0, .ipark 0 0 0 0 2048, .pistep 8 0 0 0 0, .pistep 0 32 0 0 0, .pistep 0 0 32 0 0,
    .pistep 0 0 0 32 0, .pistep 0 0 0 0 2048, .limit 8 0 0 0 0, .limit 0 32 0 0 0, .limit 0 0 32 0 0, .limit 0 0 0 32 0,
    .limit 0 0 0 0 2048, .region 8 0 0 0 0, .region 0 32 0 0 0, .region 0 0 32 0 0, .region 0 0 0 32 0, .region 0 0 0 0 2048,
    .prof 8 0 0 0 0, .prof 0 32 0 0 0, .prof 0 0 32 0 0, .prof 0 0 0 32 0, .prof 0 0 0 0 2048, .plaus 8 0 0 0 0, .plaus 0 32 0 0 0,
    .plaus 0 0 32 0 0, .plaus 0 0 0 32 0, .plaus 0 0 0 0 2048, .bset 8 0 0 0 0, .bset 0 32 0 0 0, .bset 0 0 32 0 0, .bset 0 0 0 32 0,
    .bset 0 0 0 0 2048, .sld 8 0 0 0 0, .sld 0 32 0 0 0, .sld 0 0 32 0 0, .sld 0 0 0 32 0, .sld 0 0 0 0 2048, .sldSampleTimeout 8,
    .cst 8 0 0 0 0, .cst 0 32 0 0 0, .cst 0 0 32 0 0, .cst 0 0 0 32 0, .cst 0 0 0 0 2048, .evt 8 0 0 0 0, .evt 0 32 0 0 0,
    .evt 0 0 32 0 0, .evt 0 0 0 32 0, .evt 0 0 0 0 2048, .br 8 0 0 0 0, .br 0 32 0 0 0, .br 0 0 32 0 0, .br 0 0 0 32 0,
    .br 0 0 0 0 2048, .brc 8 0 0 0 0, .brc 0 32 0 0 0, .brc 0 0 32 0 0, .brc 0 0 0 32 0, .brc 0 0 0 0 2048, .commit 8 0 gate0,
    .commit 0 400000 gate0, .commit 0 0 gBad] : List Instr).all (fun i => !i.wf) = true := by decide +kernel

/-- Terms with one operand just outside its range: each is refused (part 4). -/
theorem test_wf_refuses_4 : ([
    .feRunStart .hostA 8, .feRunStop .hostA 8, .feEntryWrite .hostA 8 0, .feEntryWrite .hostA 0 1024, .fePstageHold .hostA 8 false,
    .feParamWrite .hostA 8 0 [0], .feParamWrite .hostA 0 512 [0], .feParamWrite .hostA 0 0 [], .feParamWrite .hostA 0 2 [0, 0, 0], .feLoopStoreWrite .hostA 8 0 0, .feLoopStoreWrite .hostA 0 1024 0,
    .banisterRemove 2 0 0, .banisterRemove 0 10 0, .banisterRemove 0 0 3, .banisterGrant 2 0, .banisterGrant 0 10,
    .ascInterlockExpiry 48, .timebaseStart .hostA 8 0, .updatePoint 8 ⟨false, 0⟩ false, .updatePoint 0 ⟨false, 65536⟩ false, .fastConversion 16 0 0 ⟨0, false⟩,
    .fastConversion 0 0 16384 ⟨0, false⟩, .fastConversion 0 0 0 ⟨4, false⟩,
    .bandDwellEnd 48, .gateLinkPoll 48 [] [] [], .driverFault 48, .trqSet cBad,
    .spdSet cBad, .ctrlSel cBad, .trqStatus cBad, .trcParamWrite cBad, .trcParamRead cBad, .setpointWdExpiry 4, .overspeed 4,
    .vdcAbsent 4, .lawSel cBad, .bandSat 4, .fswLimit 4, .estimatorLocked 4, .acquireFail 4, .recapDecayTimeout 4, .recapFwEnd 4,
    .recapAscEnd 4, .recaptureFail 4, .dclMonitorSample 4096, .dclQuery cBad, .dclDischarge cBad, .chopTest cBad 0 false,
    .chopTest c0 4096 false, .convSetV cBad, .convStatus cBad, .convRestart cBad, .convLightLoad cBad, .convSync cBad, .cbcLimit 4,
    .chgArm cBad, .chgDisarm cBad, .chgLimit cBad, .chgStatus cBad, .chgRestart cBad, .supSet cBad, .lvChgArm cBad, .lvChgDisarm cBad,
    .lvChgLimit cBad, .actCurrent cBad, .actSpeed cBad, .actMove cBad, .actStatus cBad, .encStatus cBad, .encoderEnable .hostA 4 0,
    .encoderEdge 4 false false 0, .encoderIndex 4, .encoderStandstill 4, .hallCodeChange 3 0, .hallCodeChange 0 8,
    .sentFrame 2 0 [] false none, .sentFrame 0 0 [16] false none, .sentFrame 0 0 [] false (some (2 ^ 32)), .sentLost 2,
    .resolverEnable .hostA 2 0, .resSignal 2, .seqConversion 2 0 0, .seqConversion 0 65536 0, .seqConversion 0 0 40,
    .seqEntryWrite .hostA 2 0 false 0, .seqEntryWrite .hostA 0 64 false 0, .seqSwap .hostA 2, .acqSeqWrite cBad, .acqSeqRun cBad,
    .acqGrpFetch cBad, .acqCalZero cBad, .acqCalSpan cBad, .acqCalStore cBad, .acqDiag cBad, .acqInsertionDone 0x110 0 0 false,
    .wardenWindowClose 2 win0, .wardenWindowClose 0 xBad] : List Instr).all (fun i => !i.wf) = true := by decide +kernel

/-- Terms with one operand just outside its range: each is refused (part 5). -/
theorem test_wf_refuses_5 : ([
    .divergence 0x88 0 0 0, .divergence 0 4 0 0, .divergence 0 0 (2 ^ 64) 0, .divergence 0 0 0 (2 ^ 64), .pairSplit cBad,
    .pairRejoin cBad false, .pairStatus cBad, .pairCheckin .hostA 2 0, .supervisionMiss 2, .dbgHalt .hostA 4, .dbgStep .hostA 4,
    .dbgResume .hostA 4, .sinContactChange 8 false false, .sinFiltered 8 false, .sinDiscrepancy 8, .safetyScan 2,
    .safetyRowTimerExpiry 2 0, .safetyRowTimerExpiry 0 256, .soutReadbackFault 6, .soutTestPulse 6, .soutTestPulseEnd 6 false,
    .soutTestJudge 6 false, .wardenKick 2, .safeTableWrite cBad, .safeIoStatus cBad, .tallyWatchdogExpiry 2 0,
    .tallyWatchdogExpiry 0 32, .tallyTransmit 32, .tallyEnable .hostA 32 0, .tallyRearm cBad, .tallyTxSet cBad, .tallyRead cBad,
    .ledgerRecord (some ⟨65536, 0, 0, 0, 0, 0⟩) 0, .logRead cBad, .logErase cBad, .faultClear cBad, .commAuth cBad, .commCheck cBad,
    .commConfirm cBad, .pcieLinkUp 2 1 false, .pcieLinkUp 0 0 false, .pcieLinkUp 0 5 false, .pcieLinkDown 2, .ethFrameRx 3 false [],
    .ethLinkDown 3, .canFrameRx 6 0 false false [] 0 0,
    .canFrameRx 0 (2 ^ 29) false false [] 0 0, .canFrameRx 0 0 false false (List.replicate 2049 0) 0 0,
    .canFrameRx 0 0 false false [] 512 0, .canFrameRx 0 0 false false [] 0 256, .canBusOff 6 0 0, .canBusOff 0 512 0,
    .canBusOff 0 0 256, .canBusOffRecovery 6, .timeSyncMessage 0x80 0, .glTimeSend 3, .glFrameRx 3 0 [], .glFrameRx 0 (2 ^ 32) [],
    .glFrameRx 0 0 (List.replicate 526 0), .glPortDown 3, .clockMonitorTrip 32, .registerWrite .hostA 0x2001000 0,
    .registerWrite .hostA 2 0, .illegalInstr 8, .ethLinkUp 3, .glLinkTrained 3] : List Instr).all (fun i => !i.wf) = true := by decide +kernel

/-- The same commands with every operand in its range (part 1). -/
theorem test_wf_accepts_1 : ([
    .vstbyRise false 0 0, .supplyGood 0, .supplyLost 0, .bootStart boot0, .perstAssert 0, .strapChangeDetected 0, .wakeEvent none,
    .modeStatus c0, .modeRequest c0, .parkEngage c0, .parkRelease c0, .safeStopRequest c0, .sysReset c0, .modeTransitionEnd 0 false,
    .discoverStart [], .discoverEnd [] [], .discRun c0 [], .discAdopt c0, .discRead c0, .ringSelect .hostA 0 0,
    .ringConfigWrite .hostA 0 0, .ringReset .hostA 0 0, .doorbellCmd .hostA 0 0 0, .doorbellCpl .hostA 0 0 0, .doorbellEvt .hostA 0 0 0,
    .doorbellTlm .hostA 0 0 0, .descriptorReadDone none [], .crFullRepeat 0 0, .classRTimeout 0 0, .cmdProgress 0 0 0 0,
    .irqTimeExpiry 0 0 0, .tlmSelect c0, .tlmBufferCopy 0 0, .tlmFlushExpiry 0 0, .ownQuery c0, .ownClaim c0, .ownHandover c0,
    .ownConfirm c0, .heartbeat .hostA 0 0, .sramAccess (acc 0 4), .aadd (acc 0 4), .aswp (acc 0 4), .bankPowerRequest .hostA 0 0,
    .bankIdleRetention 0, .marketRequest [0], .marketRelease none 0 0, .marketQuotaWrite .hostA 0 0, .scrubLine [], .trackerEntryExpiry 0,
    .rowRepair 0 0, .bgtWindowStep false none, .mramDailyRead 0x40000000 0, .feTick 0, .tickOverrun 0, .nop 0 0 0 0 0,
    .mov 0 0 0 0 0, .fadd 0 0 0 0 0, .fsub 0 0 0 0 0, .fmul 0 0 0 0 0, .fmac 0 0 0 0 0, .fmin 0 0 0 0 0, .fmax 0 0 0 0 0,
    .fabs 0 0 0 0 0, .fneg 0 0 0 0 0, .fcmp 0 0 0 0 0, .ftoi 0 0 0 0 0, .itof 0 0 0 0 0, .sincos 0 0 0 0 0, .sqrt 0 0 0 0 0,
    .div 0 0 0 0 0, .iadd 0 0 0 0 0, .isub 0 0 0 0 0, .iand 0 0 0 0 0, .ior 0 0 0 0 0, .ixor 0 0 0 0 0, .ishl 0 0 0 0 0,
    .ishr 0 0 0 0 0, .ili 0 0 0, .ldp 0 0 0 0 0, .stp 0 0 0 0 0, .ldg 0 0 0 0 0, .clarke 0 0 0 0 0, .iclarke 0 0 0 0 0, .park 0 0 0 0 0,
    .ipark 0 0 0 0 0, .pistep 0 0 0 0 0, .limit 0 0 0 0 0, .region 0 0 0 0 0, .prof 0 0 0 0 0, .plaus 0 0 0 0 0, .bset 0 0 0 0 0,
    .sld 0 0 0 0 0, .sldSampleTimeout 0, .cst 0 0 0 0 0, .evt 0 0 0 0 0] : List Instr).all Instr.wf = true := by decide +kernel

/-- The same commands with every operand in its range (part 2). -/
theorem test_wf_accepts_2 : ([
    .br 0 0 0 0 0, .brc 0 0 0 0 0, .commit 0 0 gate0, .feRunStart .hostA 0, .feRunStop .hostA 0, .feEntryWrite .hostA 0 0,
    .fePstageHold .hostA 0 false, .feParamWrite .hostA 0 0 [0], .feLoopStoreWrite .hostA 0 0 0, .banisterRemove 0 0 0, .banisterGrant 0 0,
    .ascInterlockExpiry 0, .timebaseStart .hostA 0 0, .updatePoint 0 ⟨false, 0⟩ false, .fastConversion 0 0 0 ⟨0, false⟩, .bandDwellEnd 0,
    .gateLinkPoll 0 [] [] [], .driverFault 0, .trqSet c0, .spdSet c0, .ctrlSel c0, .trqStatus c0, .trcParamWrite c0, .trcParamRead c0,
    .setpointWdExpiry 0, .overspeed 0, .vdcAbsent 0, .lawSel c0, .bandSat 0, .fswLimit 0, .estimatorLocked 0, .acquireFail 0,
    .recapDecayTimeout 0, .recapFwEnd 0, .recapAscEnd 0, .recaptureFail 0, .dclMonitorSample 0, .dclQuery c0, .dclDischarge c0,
    .chopTest c0 0 false, .convSetV c0, .convStatus c0, .convRestart c0, .convLightLoad c0, .convSync c0, .cbcLimit 0, .chgArm c0,
    .chgDisarm c0, .chgLimit c0, .chgStatus c0, .chgRestart c0, .supSet c0, .lvChgArm c0, .lvChgDisarm c0, .lvChgLimit c0,
    .actCurrent c0, .actSpeed c0, .actMove c0, .actStatus c0, .encStatus c0, .encoderEnable .hostA 0 0, .encoderEdge 0 false false 0,
    .encoderIndex 0, .encoderStandstill 0, .hallCodeChange 0 0, .sentFrame 0 0 [] false none, .sentLost 0, .resolverEnable .hostA 0 0,
    .resSignal 0, .seqConversion 0 0 0, .seqEntryWrite .hostA 0 0 false 0, .seqSwap .hostA 0, .acqSeqWrite c0, .acqSeqRun c0,
    .acqGrpFetch c0, .acqCalZero c0, .acqCalSpan c0, .acqCalStore c0, .acqDiag c0, .acqInsertionDone 0 0 0 false,
    .wardenWindowClose 0 win0, .divergence 0 0 0 0, .pairSplit c0, .pairRejoin c0 false, .pairStatus c0, .pairCheckin .hostA 0 0,
    .supervisionMiss 0, .dbgHalt .hostA 0, .dbgStep .hostA 0, .dbgResume .hostA 0, .sinContactChange 0 false false,
    .sinFiltered 0 false, .sinDiscrepancy 0, .safetyScan 0, .safetyRowTimerExpiry 0 0] : List Instr).all Instr.wf = true := by decide +kernel

/-- The same commands with every operand in its range (part 3). -/
theorem test_wf_accepts_3 : ([
    .soutReadbackFault 0, .soutTestPulse 0, .soutTestPulseEnd 0 false, .soutTestJudge 0 false, .wardenKick 0, .safeTableWrite c0,
    .safeIoStatus c0, .tallyWatchdogExpiry 0 0, .tallyTransmit 0, .tallyEnable .hostA 0 0, .tallyRearm c0, .tallyTxSet c0,
    .tallyRead c0, .ledgerRecord none 0, .logRead c0, .logErase c0, .faultClear c0, .commAuth c0, .commCheck c0, .commConfirm c0,
    .pcieLinkUp 0 1 false, .pcieLinkDown 0, .ethFrameRx 0 false [], .ethLinkDown 0, .canFrameRx 0 0 false false [] 0 0,
    .canBusOff 0 0 0, .canBusOffRecovery 0, .timeSyncMessage 0 0, .glTimeSend 0, .glFrameRx 0 0 [], .glPortDown 0, .clockMonitorTrip 0,
    .registerWrite .hostA 0 0, .illegalInstr 0, .ethLinkUp 0, .glLinkTrained 0] : List Instr).all Instr.wf = true := by decide +kernel

/-! ## Words of a user loop store, written out bit by bit from R177 and R178 (opcode, D, A, B, X) -/

/-- The two worked encodings of R182: PISTEP f12, f8, f20 on instance 1, and COMMIT with every other field zero. -/
theorem test_word_examples : loopDecode 3 0x9188A100 = some (.pistep 3 12 8 20 0x100) ∧
    loopEncode (.pistep 3 12 8 20 0x100) = some 0x9188A100 ∧ loopWord 0x3E 0 0 0 0 = 0xF8000000 ∧ loopDecode 0 0xF8000000 = none := by decide +kernel

/-- Moves and float arithmetic. -/
theorem test_words_float :
    loopDecode 0 0b000000_00000_00000_00000_00000000000 = some (.nop 0 0 0 0 0) ∧
    loopDecode 0 0b000001_00001_00010_00000_00000000000 = some (.mov 0 1 2 0 0) ∧
    loopDecode 0 0b000010_00001_00010_00011_00000000000 = some (.fadd 0 1 2 3 0) ∧
    loopDecode 0 0b000011_00001_00010_00011_00000000000 = some (.fsub 0 1 2 3 0) ∧
    loopDecode 0 0b000100_11111_11110_11101_00000000000 = some (.fmul 0 31 30 29 0) ∧
    loopDecode 0 0b000101_00001_00010_00011_00000000000 = some (.fmac 0 1 2 3 0) ∧
    loopDecode 0 0b000110_00001_00010_00011_00000000000 = some (.fmin 0 1 2 3 0) ∧
    loopDecode 0 0b000111_00001_00010_00011_00000000000 = some (.fmax 0 1 2 3 0) ∧
    loopDecode 0 0b001000_00001_00010_00000_00000000000 = some (.fabs 0 1 2 0 0) ∧
    loopDecode 0 0b001001_00001_00010_00000_00000000000 = some (.fneg 0 1 2 0 0) ∧
    loopDecode 0 0b001010_00001_00010_00011_00000000000 = some (.fcmp 0 1 2 3 0) ∧
    loopDecode 0 0b001011_00001_00010_00000_00000000000 = some (.ftoi 0 1 2 0 0) ∧
    loopDecode 0 0b001100_00001_00010_00000_00000000000 = some (.itof 0 1 2 0 0) ∧
    loopDecode 0 0b001101_00001_00010_00000_00000000000 = some (.sincos 0 1 2 0 0) ∧
    loopDecode 0 0b001110_00001_00010_00000_00000000000 = some (.sqrt 0 1 2 0 0) ∧
    loopDecode 0 0b001111_00001_00010_00011_00000000000 = some (.div 0 1 2 3 0) := by decide +kernel

/-- Integer operations and parameter memory. -/
theorem test_words_integer :
    loopDecode 7 0b010000_00001_00010_00011_00000000000 = some (.iadd 7 1 2 3 0) ∧
    loopDecode 7 0b010001_00001_00010_00011_00000000000 = some (.isub 7 1 2 3 0) ∧
    loopDecode 7 0b010010_00001_00010_00011_00000000000 = some (.iand 7 1 2 3 0) ∧
    loopDecode 7 0b010011_00001_00010_00011_00000000000 = some (.ior 7 1 2 3 0) ∧
    loopDecode 7 0b010100_00001_00010_00011_00000000000 = some (.ixor 7 1 2 3 0) ∧
    loopDecode 7 0b010101_00001_00010_00000_00000011111 = some (.ishl 7 1 2 0 31) ∧
    loopDecode 7 0b010110_00001_00010_00000_00000000100 = some (.ishr 7 1 2 0 4) ∧
    loopDecode 7 0b010111_00001_00000_1111111111111110 = some (.ili 7 1 0xFFFE) ∧
    loopDecode 7 0b011000_00001_00010_00000_11110000000 = some (.ldp 7 1 2 0 0x780) ∧
    loopDecode 7 0b011001_00000_00010_00011_01110000000 = some (.stp 7 0 2 3 0x380) ∧
    loopDecode 7 0b011010_00001_00000_00000_00000001111 = some (.ldg 7 1 0 0 15) := by decide +kernel

/-- Transforms and controllers. -/
theorem test_words_controller :
    loopDecode 5 0b100000_00001_00010_00011_00000000000 = some (.clarke 5 1 2 3 0) ∧
    loopDecode 5 0b100001_00001_00010_00000_00000000000 = some (.iclarke 5 1 2 0 0) ∧
    loopDecode 5 0b100010_00001_00010_00011_00000000000 = some (.park 5 1 2 3 0) ∧
    loopDecode 5 0b100011_00001_00010_00011_00000000000 = some (.ipark 5 1 2 3 0) ∧
    loopDecode 5 0b100101_00001_00010_00011_10000000000 = some (.limit 5 1 2 3 0x400) ∧
    loopDecode 5 0b100110_00001_00010_00011_00000000000 = some (.region 5 1 2 3 0) ∧
    loopDecode 5 0b100111_00001_00010_00000_11000000000 = some (.prof 5 1 2 0 0x600) ∧
    loopDecode 5 0b101000_00001_00010_00011_11100000101 = some (.plaus 5 1 2 3 0x705) := by decide +kernel

/-- Samples, commands, events and branches; an opcode that R178 does not list spells no instruction. -/
theorem test_words_command :
    loopDecode 1 0b101001_00000_00010_00000_00000101111 = some (.bset 1 0 2 0 47) ∧
    loopDecode 1 0b101010_00001_00000_00011_00000010000 = some (.sld 1 1 0 3 16) ∧
    loopDecode 1 0b101011_00000_00010_00000_01000000011 = some (.cst 1 0 2 0 0x203) ∧
    loopDecode 1 0b101100_00000_00010_00011_10101000000 = some (.evt 1 0 2 3 0x540) ∧
    loopDecode 1 0b110000_00000_00000_00000_01111111111 = some (.br 1 0 0 0 1023) ∧
    loopDecode 1 0b110001_00101_00010_00000_00000000111 = some (.brc 1 5 2 0 7) ∧
    loopDecode 1 0b011011_00000_00000_00000_00000000000 = none ∧ loopDecode 1 0b101101_00000_00000_00000_00000000000 = none ∧
    loopDecode 1 0b110010_00000_00000_00000_00000000000 = none ∧ loopDecode 1 0b111111_00000_00000_00000_00000000000 = none := by decide +kernel

/-! ## Results of single steps, from the spec's worked examples and tables -/

/-- What a step answers, where it answers a next state. -/
def after (o : Host.Outcome State Fault Refusal) : State := match o with | .next t => t | _ => State.reset

/-- R187's worked example with I_MAX = O_MAX = 460: from I = 460 and e = −20 the first tick gives I = 459.5 and u = 449.5. -/
theorem test_pistep_example :
    let s := (isa 0 0x24 1 2 3 0 { Engine.init with
      act := [(0, 0x3F000000), (1, 0x43FA0000), (256, 0xC3E60000), (257, 0x43E60000), (258, 0xC3E60000), (259, 0x43E60000)],
      kpLast := [(0, some 0x3F000000)], f := [(2, 0xC1A00000), (3, 0x43E60000)] }).put (R.FE_TICK_PERIOD 0) 20000
    ((after (exec (.pistep 0 1 2 3 0) s)).eng 0).fr 1 = 0x43E0C000 ∧ ((after (exec (.pistep 0 1 2 3 0) s)).eng 0).fr 3 = 0x43E5C000 := by
  decide +kernel

/-- 1 + 2 = 3, and the program counter moves on. -/
theorem test_fadd_result : let s := isa 0 0x02 3 1 2 0 { Engine.init with f := [(1, 0x3F800000), (2, 0x40000000)] }
    ((after (exec (.fadd 0 3 1 2 0) s)).eng 0).fr 3 = 0x40400000 ∧ ((after (exec (.fadd 0 3 1 2 0) s)).eng 0).pc = 1 := by decide +kernel

/-- FTOI saturates (R178), ISHR keeps the sign, ILI extends it. -/
theorem test_integer_results :
    ((after (exec (.ftoi 0 3 1 0 0) (isa 0 0x0B 3 1 0 0 { Engine.init with f := [(1, 0xFF7FFFFF)] }))).eng 0).ir 3 = 0x80000000 ∧
    ((after (exec (.ishr 0 3 1 0 4) (isa 0 0x16 3 1 0 4 { Engine.init with i := [(1, 0x80000010)] }))).eng 0).ir 3 = 0xF8000001 ∧
    ((after (exec (.ili 0 3 0xFFFE) (loopW 0 0b010111_00011_00000_1111111111111110))).eng 0).ir 3 = 0xFFFFFFFE := by decide +kernel

/-- The example of R130: offset 0x60_9668 lies in bank 13. -/
theorem test_bank_example : bankOf 0x609668 = 13 := by decide +kernel

/-- The table gives no row any bits: no word spells a command. -/
theorem test_command_word_table : decodeTableWord 32 0x9188A100 = none := rfl

end Sys2Proof.Tests
end

section
/-! SUPPORT. What no command changes (R3, R6, R47): the part and the queue of waiting commands. One lemma for each operation of the model, in
the order of its files, and from them one for each command's meaning: it answers a next state that keeps both. -/

namespace Sys2Proof.Machine

/-- What no command changes: the part, and the commands that wait. -/
def State.kept (s : State) : Part × List Instr := (s.part, s.pending)

/-- This and the next equation are proved by `(rfl)` so that simp does not take them for definitional unfoldings, which the kernel would check by
computing the register words of both states. -/
@[simp] theorem State.kept_pair (s : State) : (s.part, s.pending) = s.kept := (rfl)

@[simp] theorem State.mk_kept (part pending atime free regs mem pwr mode host own store mkt led fe edge pair dcl acq trac conv chg mot disc
    safe tally net) : (State.mk part pending atime free regs mem pwr mode host own store mkt led fe edge pair dcl acq trac conv chg mot disc
    safe tally net).kept = (part, pending) := (rfl)

@[simp] theorem State.ite_kept (p : Prop) [Decidable p] (a b : State) : (if p then a else b).kept = if p then a.kept else b.kept :=
  apply_ite State.kept p a b

@[simp] theorem State.foldl_kept {α : Type} {f : State → α → State} (h : ∀ t a, (f t a).kept = t.kept) (l : List α) (s : State) :
    (l.foldl f s).kept = s.kept := by
  induction l generalizing s with
  | nil => rfl
  | cons a l ih => rw [List.foldl_cons, ih, h]

@[simp] theorem State.each_kept {α : Type} {f : State → α → State} (h : ∀ t a, (f t a).kept = t.kept) (l : List α) (s : State) :
    (s.each l f).kept = s.kept := State.foldl_kept h l s

@[simp] theorem State.onlyIf_kept {f : State → State} (h : ∀ t, (f t).kept = t.kept) (b : Bool) (s : State) :
    (s.onlyIf b f).kept = s.kept := by
  cases b
  · rfl
  · exact h s

/-- The state of an answer, where the answer as a whole keeps what no command changes. -/
theorem State.kept_of_pair {α : Type} {p : State × α} {s t : State} {a : α} (h : p.1.kept = s.kept) (hp : p = (t, a)) : t.kept = s.kept := by
  rw [← h, hp]

/-- A meaning answers a next state, and keeps the queue and the part. -/
def AnswersFrom (s : State) (o : Out) : Prop := ∃ t, o = .next t ∧ t.kept = s.kept

@[simp] theorem answersFrom_next (s t : State) : AnswersFrom s (.next t) ↔ t.kept = s.kept := by simp [AnswersFrom]

@[simp] theorem answersFrom_ite (s : State) (p : Prop) [Decidable p] (a b : Out) :
    AnswersFrom s (if p then a else b) ↔ if p then AnswersFrom s a else AnswersFrom s b := by split <;> rfl

@[simp] theorem answersFrom_command (s : State) (c : Cmd) (op : Nat) (f : State → Out) (h : AnswersFrom s (f s)) :
    AnswersFrom s (s.command c op f) := by
  unfold State.command
  split
  · exact h
  · simp

/-- What an instruction of a field engine does keeps the queue and the part. -/
def Isa.Keeps (s : State) : Isa → Prop
  | .fault _ => True
  | .done t => t.kept = s.kept
  | .jump t _ => t.kept = s.kept

@[simp] theorem Isa.keeps_fault (s : State) (c : Nat) : (Isa.fault c).Keeps s := trivial
@[simp] theorem Isa.keeps_done (s t : State) : (Isa.done t).Keeps s ↔ t.kept = s.kept := Iff.rfl
@[simp] theorem Isa.keeps_jump (s t : State) (p : Nat) : (Isa.jump t p).Keeps s ↔ t.kept = s.kept := Iff.rfl
@[simp] theorem Isa.keeps_ite (s : State) (p : Prop) [Decidable p] (a b : Isa) :
    (if p then a else b).Keeps s ↔ if p then a.Keeps s else b.Keeps s := by split <;> rfl

/-! ### Sys2Proof/Machine/Ops.lean -/

@[simp] theorem State.wr_kept (s : State) (a : Nat) (w : Word) : (s.wr a w).kept = s.kept := by simp [State.wr]
@[simp] theorem State.put_kept (s : State) (F : Fld) (v : Nat) : (s.put F v).kept = s.kept := by simp [State.put]
@[simp] theorem State.putB_kept (s : State) (F : Fld) (b : Bool) : (s.putB F b).kept = s.kept := by simp [State.putB]
@[simp] theorem State.satInc_kept (s : State) (F : Fld) : (s.satInc F).kept = s.kept := by simp [State.satInc]
@[simp] theorem State.wrapInc_kept (s : State) (F : Fld) : (s.wrapInc F).kept = s.kept := by simp [State.wrapInc]
@[simp] theorem State.putBit_kept (s : State) (F : Fld) (b : Nat) (v : Bool) : (s.putBit F b v).kept = s.kept := by simp [State.putBit]
@[simp] theorem State.useFree_kept (s : State) : s.useFree.kept = s.kept := by simp [State.useFree]
@[simp] theorem State.raiseFor_kept (s : State) (code sev unit own : Nat) (c0 c1 : Option Word) :
    (s.raiseFor code sev unit own c0 c1).kept = s.kept := by simp [State.raiseFor]
@[simp] theorem State.raise_kept (s : State) (code sev unit : Nat) (c0 c1 : Option Word) : (s.raise code sev unit c0 c1).kept = s.kept := by
  simp [State.raise]
@[simp] theorem State.eventTo_kept (s : State) (only : Option Nat) (code source : Nat) (c0 c1 c2 c3 : Option Word) :
    (s.eventTo only code source c0 c1 c2 c3).kept = s.kept := by simp [State.eventTo]
@[simp] theorem State.event_kept (s : State) (code source : Nat) (c0 c1 c2 c3 : Option Word) : (s.event code source c0 c1 c2 c3).kept = s.kept := by
  simp [State.event]
@[simp] theorem State.eventFor_kept (s : State) (m code source : Nat) (c0 c1 c2 c3 : Option Word) :
    (s.eventFor m code source c0 c1 c2 c3).kept = s.kept := by simp [State.eventFor]
@[simp] theorem State.result_kept (s : State) (m tag g : Nat) (st : Status) (value : Nat) (data superseded : Bool) :
    (s.result m tag g st value data superseded).kept = s.kept := by simp [State.result]
@[simp] theorem State.begin_kept (s : State) (c : Cmd) : (s.begin c).kept = s.kept := by simp [State.begin]
@[simp] theorem State.finish_kept (s : State) (c : Cmd) (st : Status) (value : Nat) (data : Bool) : (s.finish c st value data).kept = s.kept := by
  simp [State.finish]
@[simp] theorem refuse_answers (s : State) (c : Cmd) (st : Status) : AnswersFrom s (refuse s c st) := by simp [refuse]
@[simp] theorem State.setByte_kept (s : State) (a : Nat) (b : Byte) : (s.setByte a b).kept = s.kept := by simp [State.setByte]
@[simp] theorem State.setBytes_kept (s : State) (a : Nat) (bs : List Byte) : (s.setBytes a bs).kept = s.kept := by
  induction bs generalizing s a with
  | nil => rfl
  | cons b t ih => simp [State.setBytes, ih]
@[simp] theorem State.settle_kept (s : State) (o : Nat) : (s.settle o).kept = s.kept := by simp [State.settle]
@[simp] theorem State.renew_kept (s : State) (a n : Nat) : (s.renew a n).kept = s.kept := by simp [State.renew]
@[simp] theorem State.writeByte_kept (s : State) (a : Nat) (b : Byte) : (s.writeByte a b).kept = s.kept := by simp [State.writeByte]
@[simp] theorem State.writeEach_kept (s : State) (a : Nat) (bs : List Byte) : (s.writeEach a bs).kept = s.kept := by
  induction bs generalizing s a with
  | nil => rfl
  | cons b t ih => simp [State.writeEach, ih]
@[simp] theorem State.writeBytes_kept (s : State) (a : Nat) (bs : List Byte) : (s.writeBytes a bs).kept = s.kept := by simp [State.writeBytes]
@[simp] theorem State.writeNat_kept (s : State) (a n v : Nat) : (s.writeNat a n v).kept = s.kept := by simp [State.writeNat]
@[simp] theorem State.regionErr_kept (s : State) (a who : Nat) : (s.regionErr a who).kept = s.kept := by simp [State.regionErr]
@[simp] theorem State.putHost_kept (s : State) (m a : Nat) (bs : List Byte) : (s.putHost m a bs).kept = s.kept := by
  unfold State.putHost
  split <;> simp
@[simp] theorem State.finishData_kept (s : State) (c : Cmd) (st : Status) (bs : List Byte) (value : Nat) :
    (s.finishData c st bs value).kept = s.kept := by simp [State.finishData]
@[simp] theorem State.setPairSt_kept (s : State) (k v : Nat) : (s.setPairSt k v).kept = s.kept := by simp [State.setPairSt]
@[simp] theorem State.setSafePair_kept (s : State) (k : Nat) (p : SafePair) : (s.setSafePair k p).kept = s.kept := by simp [State.setSafePair]
@[simp] theorem State.setLines_kept (s : State) (k u : Nat) (l : Lines) : (s.setLines k u l).kept = s.kept := by simp [State.setLines]
@[simp] theorem State.setChan_kept (s : State) (n : Nat) (c : Chan) : (s.setChan n c).kept = s.kept := by simp [State.setChan]
@[simp] theorem State.setLeg_kept (s : State) (n : Nat) (l : Leg) : (s.setLeg n l).kept = s.kept := by simp [State.setLeg]
@[simp] theorem State.setBand_kept (s : State) (u : Nat) (b : BandSet) : (s.setBand u b).kept = s.kept := by simp [State.setBand]
@[simp] theorem State.clearLeg_kept (s : State) (n u : Nat) : (s.clearLeg n u).kept = s.kept := by simp [State.clearLeg]
@[simp] theorem State.refreshChan_kept (s : State) (n : Nat) : (s.refreshChan n).kept = s.kept := by
  unfold State.refreshChan
  repeat' split
  all_goals simp
@[simp] theorem State.convState_kept (s : State) (v : Nat) : (s.convState v).kept = s.kept := by simp [State.convState]
@[simp] theorem State.convFollow_kept (s : State) : s.convFollow.kept = s.kept := by simp [State.convFollow]
@[simp] theorem State.dropForced_kept (s : State) (u : Nat) : (s.dropForced u).kept = s.kept := by simp [State.dropForced]
@[simp] theorem State.refreshUnit_kept (s : State) (u : Nat) : (s.refreshUnit u).kept = s.kept := by simp [State.refreshUnit]
@[simp] theorem State.refreshAll_kept (s : State) : s.refreshAll.kept = s.kept := by simp [State.refreshAll]
@[simp] theorem State.removeEnable_kept (s : State) (u : Nat) : (s.removeEnable u).kept = s.kept := by simp [State.removeEnable]
@[simp] theorem State.forceUnit_kept (s : State) (u : Nat) (asc : Bool) : (s.forceUnit u asc).kept = s.kept := by simp [State.forceUnit]
@[simp] theorem State.unforceUnit_kept (s : State) (u : Nat) : (s.unforceUnit u).kept = s.kept := by simp [State.unforceUnit]
@[simp] theorem State.hold_kept (s : State) (u : Nat) : (s.hold u).kept = s.kept := by simp [State.hold]
@[simp] theorem State.unhold_kept (s : State) (u : Nat) : (s.unhold u).kept = s.kept := by simp [State.unhold]
@[simp] theorem State.raiseOwn_kept (s : State) (code sev unit own : Nat) (c0 c1 : Option Word) :
    (s.raiseOwn code sev unit own c0 c1).kept = s.kept := by simp [State.raiseOwn]
@[simp] theorem State.askGrant_kept (s : State) (u : Nat) : (s.askGrant u).kept = s.kept := by simp [State.askGrant]
@[simp] theorem State.setEng_kept (s : State) (n : Nat) (e : Engine) : (s.setEng n e).kept = s.kept := by simp [State.setEng]
@[simp] theorem State.modEng_kept (s : State) (n : Nat) (f : Engine → Engine) : (s.modEng n f).kept = s.kept := by simp [State.modEng]
@[simp] theorem State.stage_kept (s : State) (n p : Nat) (w : Word) : (s.stage n p w).kept = s.kept := by simp [State.stage]
@[simp] theorem State.wardenStage_kept (s : State) (n p : Nat) (w : Word) : (s.wardenStage n p w).kept = s.kept := by simp [State.wardenStage]
@[simp] theorem State.flushTurnstile_kept (s : State) (k : Nat) : (s.flushTurnstile k).kept = s.kept := by simp [State.flushTurnstile]

/-! ### Sys2Proof/Machine/ModeOps.lean -/

@[simp] theorem State.writeLimits_kept (s : State) (n : Nat) : (s.writeLimits n).kept = s.kept := by simp [State.writeLimits]
@[simp] theorem State.refreshLimits_kept (s : State) : s.refreshLimits.kept = s.kept := by simp [State.refreshLimits]
@[simp] theorem State.refreshHold_kept (s : State) : s.refreshHold.kept = s.kept := by simp [State.refreshHold]
@[simp] theorem State.takeOut_kept (s : State) (u : Nat) : (s.takeOut u).kept = s.kept := by simp [State.takeOut]
@[simp] theorem State.loseSet_kept (s : State) (u : Nat) : (s.loseSet u).kept = s.kept := by
  simp only [State.loseSet]
  split <;> simp
@[simp] theorem State.disable_kept (s : State) (u : Nat) : (s.disable u).kept = s.kept := by simp [State.disable]
@[simp] theorem State.safeOutputs_kept (s : State) (code : Nat) : (s.safeOutputs code).kept = s.kept := by simp [State.safeOutputs]
@[simp] theorem State.regrant_kept (s : State) (k u : Nat) : (s.regrant k u).kept = s.kept := by simp [State.regrant]
@[simp] theorem State.degrEvent_kept (s : State) : s.degrEvent.kept = s.kept := by simp [State.degrEvent]
@[simp] theorem State.degradedEntry_kept (s : State) : s.degradedEntry.kept = s.kept := by
  simp only [State.degradedEntry]
  split <;> simp
@[simp] theorem State.stopEngine_kept (s : State) (n : Nat) : (s.stopEngine n).kept = s.kept := by simp [State.stopEngine]
@[simp] theorem State.haltEngine_kept (s : State) (n : Nat) : (s.haltEngine n).kept = s.kept := by simp [State.haltEngine]
@[simp] theorem State.stopDiscovery_kept (s : State) : s.stopDiscovery.kept = s.kept := by simp [State.stopDiscovery]
@[simp] theorem State.endDiscovery_kept (s : State) : s.endDiscovery.kept = s.kept := by simp [State.endDiscovery]
@[simp] theorem State.dropRamps_kept (s : State) : s.dropRamps.kept = s.kept := by simp [State.dropRamps]
@[simp] theorem State.accepted_kept (s : State) (dest : Mode) : (s.accepted dest).kept = s.kept := by simp [State.accepted]
@[simp] theorem State.startTrans_kept (s : State) (dest : Mode) (kind prec code : Nat) : (s.startTrans dest kind prec code).kept = s.kept := by
  simp -implicitDefEqProofs [State.startTrans]
@[simp] theorem State.abandon_kept (s : State) (cur : Trigger) (dest : Mode) : (s.abandon cur dest).kept = s.kept := by simp [State.abandon]
@[simp] theorem State.holdTrigger_kept (s : State) (kind prec code : Nat) : (s.holdTrigger kind prec code).kept = s.kept := by
  simp [State.holdTrigger]
@[simp] theorem State.sameTrigger_kept (s : State) (cur : Trigger) (kind code : Nat) : (s.sameTrigger cur kind code).kept = s.kept := by
  simp [State.sameTrigger]
@[simp] theorem State.trigger_kept (s : State) (kind prec code : Nat) : (s.trigger kind prec code).kept = s.kept := by
  unfold State.trigger
  repeat' split
  all_goals simp
@[simp] theorem State.abandonForReset_kept (s : State) : s.abandonForReset.kept = s.kept := by
  unfold State.abandonForReset
  split <;> simp
@[simp] theorem State.cleared_kept (s : State) : s.cleared.kept = s.kept := by simp [State.cleared]
@[simp] theorem State.enterReset_kept (s : State) (src : Nat) (cold : Bool) : (s.enterReset src cold).kept = s.kept := by simp [State.enterReset]

/-! ### Sys2Proof/Machine/FeOps.lean -/

@[simp] theorem State.missTick_kept (s : State) (n : Nat) : (s.missTick n).kept = s.kept := by simp [State.missTick]
@[simp] theorem State.loopFault_kept (s : State) (n code : Nat) : (s.loopFault n code).kept = s.kept := by simp [State.loopFault]
@[simp] theorem State.setPc_kept (s : State) (n p : Nat) : (s.setPc n p).kept = s.kept := by simp [State.setPc]
@[simp] theorem State.branch_kept (s : State) (n p : Nat) : (s.branch n p).kept = s.kept := by simp [State.branch]
@[simp] theorem isaRun_answers (n : Nat) (here : Bool) (s : State) (body : Engine → Isa) (h : ∀ e, (body e).Keeps s) :
    AnswersFrom s (isaRun n here s body) := by
  unfold isaRun
  have hb := h (s.eng n)
  cases e : body (s.eng n) <;> simp_all
@[simp] theorem isaStep_answers (n op d a b x : Nat) (s : State) (body : Engine → Isa) (h : ∀ e, (body e).Keeps s) :
    AnswersFrom s (isaStep n op d a b x s body) := isaRun_answers n _ s body h
@[simp] theorem State.noteFloat_kept (s : State) (n : Nat) (v : F32) : (s.noteFloat n v).kept = s.kept := by simp [State.noteFloat]
@[simp] theorem State.floatOut_kept (s : State) (n d : Nat) (v : F32) : (s.floatOut n d v).kept = s.kept := by simp [State.floatOut]
@[simp] theorem State.floatsOut_kept (s : State) (n d : Nat) (vs : List F32) : (s.floatsOut n d vs).kept = s.kept := by
  induction vs generalizing s d with
  | nil => rfl
  | cons v t ih => simp [State.floatsOut, ih]
@[simp] theorem State.intOut_keeps (s t : State) (n d : Nat) (v : Word) (h : t.kept = s.kept) : (t.intOut n d v).Keeps s := by
  simp [State.intOut, h]
@[simp] theorem floatOp_answers (n op d a b x : Nat) (s : State) (f : Engine → F32) : AnswersFrom s (floatOp n op d a b x s f) := by simp [floatOp]
@[simp] theorem floatsOp_answers (n op d a b x top : Nat) (s : State) (f : Engine → List F32) : AnswersFrom s (floatsOp n op d a b x top s f) := by
  simp [floatsOp]
@[simp] theorem intOp_answers (n op d a b x rb : Nat) (s : State) (f : Word → Word → Word) : AnswersFrom s (intOp n op d a b x rb s f) := by
  simp [intOp]
@[simp] theorem State.showRegion_kept (s : State) (n : Nat) : (s.showRegion n).kept = s.kept := by simp [State.showRegion]
@[simp] theorem State.regionLookup_kept (s : State) (n : Nat) (x y : F32) : (s.regionLookup n x y).1.kept = s.kept := by
  simp only [State.regionLookup]
  split <;> simp
@[simp] theorem State.plausCheck_kept (s : State) (n k : Nat) (v thr : F32) (cnt : Nat) : (s.plausCheck n k v thr cnt).1.kept = s.kept := by
  simp only [State.plausCheck]
  repeat' split
  all_goals simp
@[simp] theorem State.stageStore_keeps (s : State) (n hb kind : Nat) (v : F32) : (s.stageStore n hb kind v).Keeps s := by simp [State.stageStore]
@[simp] theorem State.queueEvt_kept (s : State) (n x : Nat) (fa fb : F32) : (s.queueEvt n x fa fb).kept = s.kept := by simp [State.queueEvt]
@[simp] theorem State.pushSample_kept (s : State) (src : Nat) (v : Word) (flags : Nat) : (s.pushSample src v flags).kept = s.kept := by
  simp [State.pushSample]
@[simp] theorem State.loadSample_kept (s : State) (n d b src : Nat) : (s.loadSample n d b src).kept = s.kept := by simp [State.loadSample]
@[simp] theorem State.wakeSld_kept (s : State) (n : Nat) : (s.wakeSld n).kept = s.kept := by
  simp only [State.wakeSld]
  split <;> simp

/-! ### Sys2Proof/Machine/TallyConn.lean -/

@[simp] theorem State.setRx_kept (s : State) (k c : Nat) (r : TallyRx) : (s.setRx k c r).kept = s.kept := by simp [State.setRx]
@[simp] theorem State.setTx_kept (s : State) (c : Nat) (t : TallyTx) : (s.setTx c t).kept = s.kept := by simp [State.setTx]
@[simp] theorem State.tallyShow_kept (s : State) (c : Nat) : (s.tallyShow c).kept = s.kept := by simp [State.tallyShow]
@[simp] theorem State.tallyShowAll_kept (s : State) : s.tallyShowAll.kept = s.kept := by simp [State.tallyShowAll]
@[simp] theorem State.tallySet_kept (s : State) (k c : Nat) (r : TallyRx) : (s.tallySet k c r).kept = s.kept := by simp [State.tallySet]
@[simp] theorem State.tallyOpen_kept (s : State) (c : Nat) : (s.tallyOpen c).kept = s.kept := by simp [State.tallyOpen]
@[simp] theorem State.tallyClose_kept (s : State) (c : Nat) : (s.tallyClose c).kept = s.kept := by simp [State.tallyClose]
@[simp] theorem State.tallyFollow_kept (s : State) (c : Nat) : (s.tallyFollow c).kept = s.kept := by simp [State.tallyFollow]
@[simp] theorem State.tallyReopen_kept (s : State) : s.tallyReopen.kept = s.kept := by simp [State.tallyReopen]

/-! ### Sys2Proof/Machine/RegOps.lean -/

@[simp] theorem State.windowWrite_answers (s : State) (w : Writer) (block : Nat) (f : State → Out) (h : AnswersFrom s (f s)) :
    AnswersFrom s (s.windowWrite w block f) := by
  simp [State.windowWrite, h]
@[simp] theorem State.writeField_kept (s : State) (a : Nat) (v : Word) (fd : FieldDef) : (s.writeField a v fd).kept = s.kept := by
  simp [State.writeField]
@[simp] theorem State.setChanged_kept (s : State) : s.setChanged.kept = s.kept := by simp [State.setChanged]
@[simp] theorem State.applyWrite_kept (s : State) (a : Nat) (v : Word) (fields : List FieldDef) (ok : FieldDef → Bool) :
    (s.applyWrite a v fields ok).kept = s.kept := by simp [State.applyWrite]
@[simp] theorem State.keepReg_kept (s before : State) (w : Writer) (a : Nat) : (s.keepReg before w a).kept = s.kept := by simp [State.keepReg]

/-! ### Sys2Proof/Machine/Checked.lean -/

@[simp] theorem State.setBankState_kept (s : State) (b v : Nat) : (s.setBankState b v).kept = s.kept := by simp [State.setBankState]
@[simp] theorem State.wakeBank_kept (s : State) (b : Nat) : (s.wakeBank b).kept = s.kept := by simp [State.wakeBank]
@[simp] theorem State.wakeFor_kept (s : State) (a n : Nat) : (s.wakeFor a n).kept = s.kept := by simp [State.wakeFor]
@[simp] theorem State.errInfo_kept (s : State) (o cls syn src : Nat) : (s.errInfo o cls syn src).kept = s.kept := by simp [State.errInfo]
@[simp] theorem State.corrected_kept (s : State) (o cls syn src : Nat) : (s.corrected o cls syn src).kept = s.kept := by simp [State.corrected]
@[simp] theorem State.ueRecord_kept (s : State) (o cls syn src : Nat) (engine : Option Nat) : (s.ueRecord o cls syn src engine).kept = s.kept := by
  simp [State.ueRecord]
@[simp] theorem State.queueWord_kept (s : State) (o : Nat) : (s.queueWord o).kept = s.kept := by simp [State.queueWord]
@[simp] theorem State.checkWord_kept (s : State) (o addr src : Nat) (engine : Option Nat) : (s.checkWord o addr src engine).1.kept = s.kept := by
  simp only [State.checkWord]
  repeat' split
  all_goals simp
@[simp] theorem State.readWords_kept (s : State) (a n : Nat) : (s.readWords a n).1.kept = s.kept := by
  induction n generalizing s a with
  | zero => rfl
  | succ n ih =>
    unfold State.readWords
    split
    · next t h => exact State.kept_of_pair (s.checkWord_kept ..) h
    · next t h =>
      have ht := State.kept_of_pair (s.checkWord_kept ..) h
      split
      · next u bs hu => rw [← ht]; exact State.kept_of_pair (ih t _) hu
      · next u hu => rw [← ht]; exact State.kept_of_pair (ih t _) hu

/-! ### Sys2Proof/Machine/Market.lean -/

@[simp] theorem State.mktStatus_kept (s : State) : s.mktStatus.kept = s.kept := by simp [State.mktStatus]
@[simp] theorem State.takeStall_kept (s0 : State) (ch : Nat) : (s0.takeStall ch).1.kept = s0.kept := by
  simp only [State.takeStall]
  repeat' split
  all_goals simp
@[simp] theorem State.freeStall_kept (s : State) (ch n : Nat) : (s.freeStall ch n).kept = s.kept := by simp [State.freeStall]
@[simp] theorem State.fillStall_kept (s : State) (n : Nat) (bs : List Byte) : (s.fillStall n bs).kept = s.kept := by simp [State.fillStall]
@[simp] theorem State.readStall_kept (s : State) (n len : Nat) : (s.readStall n len).1.kept = s.kept := by
  unfold State.readStall
  split
  · next t bs h => simpa using State.kept_of_pair (State.readWords_kept ..) h
  · next t h => simpa using State.kept_of_pair (State.readWords_kept ..) h
@[simp] theorem State.readHandles_kept (s : State) (hs : List (Bool × Nat × Nat)) : (s.readHandles hs).1.kept = s.kept := by
  induction hs generalizing s with
  | nil => rfl
  | cons h t ih =>
    unfold State.readHandles
    split
    · next u hu => exact State.kept_of_pair (s.readStall_kept ..) hu
    · next u bs hu =>
      have ht := State.kept_of_pair (s.readStall_kept ..) hu
      split
      · next v cs hv => rw [← ht]; exact State.kept_of_pair (ih u) hv
      · next v hv => rw [← ht]; exact State.kept_of_pair (ih u) hv
@[simp] theorem State.pushHandle_kept (s : State) (ch : Nat) (more : Bool) (len n : Nat) : (s.pushHandle ch more len n).kept = s.kept := by
  simp [State.pushHandle]
@[simp] theorem State.takeStalls_kept (s : State) (ch k : Nat) (got : List Nat) : (s.takeStalls ch k got).1.kept = s.kept := by
  induction k generalizing s got with
  | zero => rfl
  | succ k ih =>
    unfold State.takeStalls
    split
    · next t n h => rw [ih, State.kept_of_pair (s.takeStall_kept ch) h]
    · next t h => simp [State.kept_of_pair (s.takeStall_kept ch) h]
@[simp] theorem State.storeFrame_kept (s : State) (ch : Nat) (bs : List Byte) : (s.storeFrame ch bs).1.kept = s.kept := by
  unfold State.storeFrame
  simp only []
  split
  · next t h => exact State.kept_of_pair (s.takeStalls_kept ..) h
  · next t ns h => simp [State.kept_of_pair (s.takeStalls_kept ..) h]
@[simp] theorem State.setRing_kept (s : State) (m kind i : Nat) (r : Ring) : (s.setRing m kind i r).kept = s.kept := by simp [State.setRing]
@[simp] theorem State.setStream_kept (s : State) (m k : Nat) (t : Stream) : (s.setStream m k t).kept = s.kept := by simp [State.setStream]
@[simp] theorem State.tlmDrop_kept (s : State) (m k : Nat) : (s.tlmDrop m k).kept = s.kept := by simp [State.tlmDrop]
@[simp] theorem State.judgeRequest_kept (s : State) (ch : Nat) : (s.judgeRequest ch).kept = s.kept := by
  unfold State.judgeRequest
  split
  · next t n h => exact State.kept_of_pair (s.takeStall_kept ch) h
  · next t h => simp [State.kept_of_pair (s.takeStall_kept ch) h]
@[simp] theorem State.judgeRequests_kept (s : State) (n : Nat) (chs : List Nat) : (s.judgeRequests n chs).kept = s.kept := by
  induction n generalizing s chs with
  | zero => rfl
  | succ n ih =>
    unfold State.judgeRequests
    split
    · rfl
    · rw [ih, State.judgeRequest_kept]
@[simp] theorem execMarketRequest_answers (chs : List Nat) (s : State) : AnswersFrom s (execMarketRequest chs s) := by simp [execMarketRequest]
@[simp] theorem execMarketRelease_answers (w : Option Writer) (ch stall : Nat) (s0 : State) : AnswersFrom s0 (execMarketRelease w ch stall s0) := by
  unfold execMarketRelease
  split <;> simp
@[simp] theorem execMarketQuotaWrite_answers (w : Writer) (ch : Nat) (v : Word) (s0 : State) : AnswersFrom s0 (execMarketQuotaWrite w ch v s0) := by
  simp [execMarketQuotaWrite]

/-! ### Sys2Proof/Machine/Rings.lean -/

@[simp] theorem State.ringError_kept (s : State) (m kind i e : Nat) (slot : Option Nat) : (s.ringError m kind i e slot).kept = s.kept := by
  simp [State.ringError]
@[simp] theorem State.sendMsix_kept (s : State) (k : Nat) : (s.sendMsix k).kept = s.kept := by simp [State.sendMsix]
@[simp] theorem State.signal_kept (s : State) (m kind i : Nat) : (s.signal m kind i).kept = s.kept := by simp [State.signal]
@[simp] theorem State.msixWrite_kept (s : State) (p i : Nat) (v : Word) : (s.msixWrite p i v).kept = s.kept := by simp [State.msixWrite]
@[simp] theorem State.wrote_kept (s : State) (m kind i : Nat) (now : Bool) : (s.wrote m kind i now).kept = s.kept := by simp [State.wrote]
@[simp] theorem State.writeEntry_kept (s : State) (m kind i w : Nat) (now : Bool) (f : Bool → List Byte) :
    (s.writeEntry m kind i w now f).kept = s.kept := by simp [State.writeEntry]
@[simp] theorem State.dropOp_kept (s : State) (m tag : Nat) : (s.dropOp m tag).kept = s.kept := by simp [State.dropOp]
@[simp] theorem State.crFull_kept (s : State) (m k : Nat) : (s.crFull m k).kept = s.kept := by simp [State.crFull]
@[simp] theorem State.issue_kept (s : State) (r : Result) : (s.issue r).kept = s.kept := by
  unfold State.issue
  split <;> simp
@[simp] theorem State.drainHeld_kept (s : State) (m k : Nat) : (s.drainHeld m k).kept = s.kept := by simp [State.drainHeld]
@[simp] theorem execRingSelect_answers (w : Writer) (m : Nat) (v : Word) (s0 : State) : AnswersFrom s0 (execRingSelect w m v s0) := by
  simp [execRingSelect]
@[simp] theorem execRingConfigWrite_answers (w : Writer) (m : Nat) (v : Word) (s : State) : AnswersFrom s (execRingConfigWrite w m v s) := by
  refine State.windowWrite_answers _ _ _ _ ?_
  split
  · simp
  · split <;> simp -implicitDefEqProofs
@[simp] theorem execRingReset_answers (w : Writer) (m : Nat) (v : Word) (s : State) : AnswersFrom s (execRingReset w m v s) := by
  refine State.windowWrite_answers _ _ _ _ ?_
  split
  · simp
  · split <;> simp
@[simp] theorem State.ringDoorbell_kept (s : State) (m kind k : Nat) (v : Word) : (s.ringDoorbell m kind k v).kept = s.kept := by
  simp [State.ringDoorbell]
@[simp] theorem execDoorbellCmd_answers (w : Writer) (m k : Nat) (v : Word) (s0 : State) : AnswersFrom s0 (execDoorbellCmd w m k v s0) := by
  simp [execDoorbellCmd]
@[simp] theorem execDoorbellCpl_answers (w : Writer) (m k : Nat) (v : Word) (s0 : State) : AnswersFrom s0 (execDoorbellCpl w m k v s0) := by
  simp [execDoorbellCpl]
@[simp] theorem State.overflowEntry_kept (s : State) (m k : Nat) : (s.overflowEntry m k).kept = s.kept := by simp [State.overflowEntry]
@[simp] theorem execDoorbellEvt_answers (w : Writer) (m k : Nat) (v : Word) (s0 : State) : AnswersFrom s0 (execDoorbellEvt w m k v s0) := by
  simp [execDoorbellEvt]
@[simp] theorem execDoorbellTlm_answers (w : Writer) (m k : Nat) (v : Word) (s0 : State) : AnswersFrom s0 (execDoorbellTlm w m k v s0) := by
  simp [execDoorbellTlm]
@[simp] theorem execDescriptorFetch_answers (s : State) : AnswersFrom s (execDescriptorFetch s) := by
  unfold execDescriptorFetch
  split <;> simp
@[simp] theorem State.unstage_kept (s : State) (m : Nat) (ns : List Nat) : (s.unstage m ns).kept = s.kept := by simp [State.unstage]
@[simp] theorem State.check5_kept (s : State) (m : Nat) (d : Desc) (p : Option (List Byte)) : (s.check5 m d p).1.kept = s.kept := by
  unfold State.check5
  simp only []
  split
  · rfl
  · split
    · next t h => exact State.kept_of_pair (s.takeStalls_kept ..) h
    · next t ns h => split <;> simp [State.kept_of_pair (s.takeStalls_kept ..) h]
@[simp] theorem State.holdStalls_kept (s : State) (m tag : Nat) (ns : List Nat) : (s.holdStalls m tag ns).kept = s.kept := by
  simp [State.holdStalls]
@[simp] theorem State.takeDesc_kept (s : State) (m k : Nat) (b : List Byte) (p : Option (List Byte)) : (s.takeDesc m k b p).kept = s.kept := by
  unfold State.takeDesc
  dsimp only
  split
  · rfl
  split
  · simp
  iterate 3
    split
    · simp
  split
  · next t st ht => simp [State.kept_of_pair (State.check5_kept ..) ht]
  · next t ns ht => simp [State.kept_of_pair (State.check5_kept ..) ht]
@[simp] theorem State.takeDescs_kept (s : State) (m k w n : Nat) (bs : List Byte) (ps : List (Option (List Byte))) :
    (s.takeDescs m k w n bs ps).kept = s.kept := by
  induction n generalizing s bs ps with
  | zero => rfl
  | succ n ih => rw [State.takeDescs, ih, State.takeDesc_kept]
@[simp] theorem execDescriptorReadDone_answers (data : Option (List Byte)) (payloads : List (Option (List Byte))) (s : State) :
    AnswersFrom s (execDescriptorReadDone data payloads s) := by
  unfold execDescriptorReadDone
  repeat' split
  all_goals simp
@[simp] theorem State.toRing_kept (s : State) (e : Event) (m k : Nat) : (s.toRing e m k).kept = s.kept := by simp [State.toRing]
@[simp] theorem State.deliver_kept (s : State) (e : Event) : (s.deliver e).kept = s.kept := by simp [State.deliver]
@[simp] theorem execEventDelivery_answers (s : State) : AnswersFrom s (execEventDelivery s) := by
  unfold execEventDelivery
  split <;> simp
@[simp] theorem State.deliverAll_kept (s : State) : s.deliverAll.kept = s.kept := by simp [State.deliverAll]
@[simp] theorem State.progressFirst_kept (s : State) (r : Result) : (s.progressFirst r).kept = s.kept := by
  unfold State.progressFirst
  split <;> simp
@[simp] theorem State.useStage_kept (s : State) (m tag : Nat) : (s.useStage m tag).kept = s.kept := by
  unfold State.useStage
  split <;> simp
@[simp] theorem execResultIntake_answers (s : State) : AnswersFrom s (execResultIntake s) := by
  unfold execResultIntake
  split <;> simp
@[simp] theorem execCompletionIssue_answers (s : State) : AnswersFrom s (execCompletionIssue s) := by
  unfold execCompletionIssue
  repeat' split
  all_goals simp
@[simp] theorem execCrFullRepeat_answers (m k : Nat) (s : State) : AnswersFrom s (execCrFullRepeat m k s) := by simp [execCrFullRepeat]
@[simp] theorem State.cancelWaits_kept (s : State) (m tag : Nat) : (s.cancelWaits m tag).kept = s.kept := by simp [State.cancelWaits]
@[simp] theorem execClassRTimeout_answers (m tag : Nat) (s : State) : AnswersFrom s (execClassRTimeout m tag s) := by
  unfold execClassRTimeout
  split <;> simp
@[simp] theorem execCmdProgress_answers (m tag perMille bytes : Nat) (s : State) : AnswersFrom s (execCmdProgress m tag perMille bytes s) := by
  unfold execCmdProgress
  split <;> simp
@[simp] theorem execIrqTimeExpiry_answers (m kind k : Nat) (s : State) : AnswersFrom s (execIrqTimeExpiry m kind k s) := by simp [execIrqTimeExpiry]
@[simp] theorem execTlmSelect_answers (c : Cmd) (s0 : State) : AnswersFrom s0 (execTlmSelect c s0) := by simp [execTlmSelect]
@[simp] theorem State.tlmClose_kept (s : State) (m k : Nat) : (s.tlmClose m k).kept = s.kept := by
  simp only [State.tlmClose]
  split <;> simp
@[simp] theorem State.tlmPut_kept (s : State) (m k n : Nat) (bs : List Byte) : (s.tlmPut m k n bs).kept = s.kept := by simp [State.tlmPut]
@[simp] theorem State.tlmRecord_kept (s : State) (m k : Nat) (ws : List Word) : (s.tlmRecord m k ws).kept = s.kept := by
  unfold State.tlmRecord
  dsimp only
  split
  · simp
  · split
    · next u n hu => simp [State.kept_of_pair (State.takeStall_kept ..) hu]
    · next u hu => simp [State.kept_of_pair (State.takeStall_kept ..) hu]
@[simp] theorem State.tlmSample_kept (s : State) (n : Nat) : (s.tlmSample n).kept = s.kept := by simp [State.tlmSample]
@[simp] theorem execTlmBufferCopy_answers (m k : Nat) (s : State) : AnswersFrom s (execTlmBufferCopy m k s) := by
  unfold execTlmBufferCopy
  dsimp only
  split
  · split
    · simp
    · split
      · next u bs hu => simp [State.kept_of_pair (State.readStall_kept ..) hu]
      · next u hu => simp [State.kept_of_pair (State.readStall_kept ..) hu]
  · simp
@[simp] theorem execTlmFlushExpiry_answers (m k : Nat) (s : State) : AnswersFrom s (execTlmFlushExpiry m k s) := by simp [execTlmFlushExpiry]

/-! ### Sys2Proof/Machine/Setpoints.lean -/

@[simp] theorem State.queueSetpoint_kept (s : State) (c : Cmd) (n opcode u : Nat) (bad : Bool) (words : List (Nat × Word)) :
    (s.queueSetpoint c n opcode u bad words).kept = s.kept := by simp [State.queueSetpoint]
@[simp] theorem State.storeWord_kept (s : State) (n p : Nat) (v : Word) : (s.storeWord n p v).kept = s.kept := by simp [State.storeWord]
@[simp] theorem State.writeGroup_kept (s : State) (n p : Nat) (ws : List Word) : (s.writeGroup n p ws).kept = s.kept := by
  induction ws generalizing s p with
  | nil => rfl
  | cons v t ih => simp [State.writeGroup, ih]

/-! ### Sys2Proof/Machine/Acquisition.lean -/

@[simp] theorem State.setGrp_kept (s : State) (g : Nat) (x : Option GroupStall) : (s.setGrp g x).kept = s.kept := by simp [State.setGrp]
@[simp] theorem State.grpDeliver_kept (s : State) (g : Nat) : (s.grpDeliver g).kept = s.kept := by
  unfold State.grpDeliver
  split <;> simp
@[simp] theorem State.grpDrop_kept (s : State) (g : Nat) : (s.grpDrop g).kept = s.kept := by simp [State.grpDrop]
@[simp] theorem State.grpRecord_kept (s : State) (k g ch code flags t : Nat) : (s.grpRecord k g ch code flags t).kept = s.kept := by
  unfold State.grpRecord
  extract_lets r late s0 s1
  have h0 : s0.kept = s.kept := by simp [s0]
  have h1 : s1.kept = s.kept := by
    unfold s1
    split
    · simp [h0]
    · split
      · next u n hu => simp [State.kept_of_pair (s0.takeStall_kept _) hu, h0]
      · next u hu => simp [State.kept_of_pair (s0.takeStall_kept _) hu, h0]
  split <;> simp [h1]
@[simp] theorem State.setShadow_kept (s : State) (a : Nat) (v : Word) : (s.setShadow a v).kept = s.kept := by simp [State.setShadow]
@[simp] theorem State.swapTable_kept (s : State) (k : Nat) : (s.swapTable k).kept = s.kept := by simp [State.swapTable]
@[simp] theorem State.armSwap_kept (s : State) (k : Nat) : (s.armSwap k).kept = s.kept := by simp [State.armSwap]
@[simp] theorem State.tableWord_kept (s : State) (stores : Bool) (a : Nat) (v : Word) : (s.tableWord stores a v).kept = s.kept := by
  simp [State.tableWord]
@[simp] theorem State.entryWrite_kept (s : State) (stores : Bool) (k e : Nat) (delay : Bool) (v : Word) :
    (s.entryWrite stores k e delay v).kept = s.kept := by simp [State.entryWrite]
@[simp] theorem State.storedTable_kept (s : State) (k : Nat) : (s.storedTable k).kept = s.kept := by simp [State.storedTable]
@[simp] theorem State.discTable_kept (s : State) : s.discTable.kept = s.kept := by simp [State.discTable]
@[simp] theorem State.commTable_kept (s : State) : s.commTable.kept = s.kept := by simp [State.commTable]
@[simp] theorem State.defaultTable_kept (s : State) : s.defaultTable.kept = s.kept := by simp [State.defaultTable]
@[simp] theorem State.seqRun_kept (s : State) (k : Nat) (on : Bool) : (s.seqRun k on).kept = s.kept := by
  simp -implicitDefEqProofs [State.seqRun]
@[simp] theorem State.seqAdvance_kept (s : State) (k : Nat) : (s.seqAdvance k).kept = s.kept := by simp [State.seqAdvance]
@[simp] theorem execSeqConversion_answers (k raw sub : Nat) (s : State) : AnswersFrom s (execSeqConversion k raw sub s) := by
  simp [execSeqConversion]
@[simp] theorem execSeqEntryWrite_answers (w : Writer) (k e : Nat) (delay : Bool) (v : Word) (s0 : State) :
    AnswersFrom s0 (execSeqEntryWrite w k e delay v s0) := by simp [execSeqEntryWrite]
@[simp] theorem execSeqSwap_answers (w : Writer) (k : Nat) (s0 : State) : AnswersFrom s0 (execSeqSwap w k s0) := by simp [execSeqSwap]
@[simp] theorem execRefReady_answers (ok : Bool) (s : State) : AnswersFrom s (execRefReady ok s) := by simp [execRefReady]
@[simp] theorem execRefFault_answers (s : State) : AnswersFrom s (execRefFault s) := by simp [execRefFault]
@[simp] theorem State.refOn_kept (s : State) : s.refOn.kept = s.kept := by simp [State.refOn]
@[simp] theorem State.refWrite_kept (s : State) (v : Word) : (s.refWrite v).kept = s.kept := by simp [State.refWrite]
@[simp] theorem execRefBufferWrite_answers (w : Writer) (v : Word) (s0 : State) : AnswersFrom s0 (execRefBufferWrite w v s0) := by
  simp [execRefBufferWrite]
@[simp] theorem execAcqSeqWrite_answers (c : Cmd) (s0 : State) : AnswersFrom s0 (execAcqSeqWrite c s0) := by simp [execAcqSeqWrite]
@[simp] theorem execAcqSeqRun_answers (c : Cmd) (s0 : State) : AnswersFrom s0 (execAcqSeqRun c s0) := by simp [execAcqSeqRun]
@[simp] theorem State.readGood_kept (s : State) (hs : List (Bool × Nat × Nat)) : (s.readGood hs).1.kept = s.kept := by
  induction hs generalizing s with
  | nil => rfl
  | cons h t ih =>
    unfold State.readGood
    split
    · next u bs hu => simp [ih, State.kept_of_pair (s.readStall_kept ..) hu]
    · next u hu => simp [ih, State.kept_of_pair (s.readStall_kept ..) hu]
@[simp] theorem execAcqGrpFetch_answers (c : Cmd) (s0 : State) : AnswersFrom s0 (execAcqGrpFetch c s0) := by simp [execAcqGrpFetch]
@[simp] theorem State.insertFor_kept (s : State) (c : Cmd) (kind : Nat) (y : Word) : (s.insertFor c kind y).kept = s.kept := by
  simp [State.insertFor]
@[simp] theorem execAcqCalZero_answers (c : Cmd) (s0 : State) : AnswersFrom s0 (execAcqCalZero c s0) := by simp [execAcqCalZero]
@[simp] theorem execAcqCalSpan_answers (c : Cmd) (s0 : State) : AnswersFrom s0 (execAcqCalSpan c s0) := by simp [execAcqCalSpan]
@[simp] theorem execAcqCalStore_answers (c : Cmd) (s0 : State) : AnswersFrom s0 (execAcqCalStore c s0) := by simp [execAcqCalStore]
@[simp] theorem execAcqDiag_answers (c : Cmd) (s0 : State) : AnswersFrom s0 (execAcqDiag c s0) := by simp [execAcqDiag]
@[simp] theorem State.acqResult_kept (s : State) (i : Insert) (st : Status) (v : Nat) : (s.acqResult i st v).kept = s.kept := by
  simp [State.acqResult]
@[simp] theorem State.zeroDone_kept (s : State) (i : Insert) (sum : Int) (good : Bool) : (s.zeroDone i sum good).kept = s.kept := by
  simp [State.zeroDone]
@[simp] theorem State.spanDone_kept (s : State) (i : Insert) (sum : Int) (good : Bool) : (s.spanDone i sum good).kept = s.kept := by
  unfold State.spanDone
  split <;> simp
@[simp] theorem State.diagDone_kept (s : State) (i : Insert) (sum1 sum2 : Int) : (s.diagDone i sum1 sum2).kept = s.kept := by simp [State.diagDone]
@[simp] theorem execAcqInsertionDone_answers (chan : Nat) (sum1 sum2 : Int) (good : Bool) (s : State) :
    AnswersFrom s (execAcqInsertionDone chan sum1 sum2 good s) := by
  unfold execAcqInsertionDone
  repeat' split
  all_goals simp

/-! ### Sys2Proof/Machine/Position.lean -/

@[simp] theorem State.setEmu_kept (s : State) (k : Nat) (e : Emu) : (s.setEmu k e).kept = s.kept := by simp [State.setEmu]
@[simp] theorem State.emuMove_kept (s : State) (k : Nat) (target : Int) (budget : Nat) : (s.emuMove k target budget).kept = s.kept := by
  simp [State.emuMove]
@[simp] theorem State.emuFollow_kept (s : State) (src : Nat) (num : Int) (den cycles : Nat) : (s.emuFollow src num den cycles).kept = s.kept := by
  simp [State.emuFollow]
@[simp] theorem State.setEnc_kept (s : State) (k : Nat) (e : Enc) : (s.setEnc k e).kept = s.kept := by simp [State.setEnc]
@[simp] theorem State.encShow_kept (s : State) (k : Nat) : (s.encShow k).kept = s.kept := by simp [State.encShow]
@[simp] theorem State.encQerr_kept (s : State) (k : Nat) : (s.encQerr k).kept = s.kept := by simp [State.encQerr]
@[simp] theorem State.encIllegal_kept (s : State) (k : Nat) (a b : Bool) : (s.encIllegal k a b).kept = s.kept := by simp [State.encIllegal]
@[simp] theorem State.encMove_kept (s : State) (k : Nat) (a b rev : Bool) (dt : Nat) : (s.encMove k a b rev dt).kept = s.kept := by
  simp [State.encMove]
@[simp] theorem execEncoderEdge_answers (k : Nat) (a b : Bool) (dt : Nat) (s : State) : AnswersFrom s (execEncoderEdge k a b dt s) := by
  simp [execEncoderEdge]
@[simp] theorem execEncoderIndex_answers (k : Nat) (s : State) : AnswersFrom s (execEncoderIndex k s) := by simp [execEncoderIndex]
@[simp] theorem State.encStill_kept (s : State) (k : Nat) : (s.encStill k).kept = s.kept := by simp [State.encStill]
@[simp] theorem execEncoderStandstill_answers (k : Nat) (s : State) : AnswersFrom s (execEncoderStandstill k s) := by simp [execEncoderStandstill]
@[simp] theorem State.encCap_kept (s0 : State) (k : Nat) : (s0.encCap k).kept = s0.kept := by simp [State.encCap]
@[simp] theorem State.encWrite_kept (s : State) (k : Nat) (v : Word) : (s.encWrite k v).kept = s.kept := by simp [State.encWrite]
@[simp] theorem execEncoderEnable_answers (w : Writer) (k : Nat) (v : Word) (s0 : State) : AnswersFrom s0 (execEncoderEnable w k v s0) := by
  simp [execEncoderEnable]
@[simp] theorem execHallCodeChange_answers (k code : Nat) (s : State) : AnswersFrom s (execHallCodeChange k code s) := by simp [execHallCodeChange]
@[simp] theorem State.staleSource_kept (s : State) (src : Nat) : (s.staleSource src).kept = s.kept := by simp [State.staleSource]
@[simp] theorem execSentFrame_answers (k sync : Nat) (nibbles : List Nat) (crcOk : Bool) (slow : Option Nat) (s : State) :
    AnswersFrom s (execSentFrame k sync nibbles crcOk slow s) := by
  unfold execSentFrame
  repeat' split
  all_goals simp
@[simp] theorem execSentLost_answers (k : Nat) (s : State) : AnswersFrom s (execSentLost k s) := by simp [execSentLost]
@[simp] theorem State.resWrite_kept (s : State) (k : Nat) (v : Word) : (s.resWrite k v).kept = s.kept := by simp [State.resWrite]
@[simp] theorem execResolverEnable_answers (w : Writer) (k : Nat) (v : Word) (s0 : State) : AnswersFrom s0 (execResolverEnable w k v s0) := by
  simp [execResolverEnable]
@[simp] theorem execResSignal_answers (k : Nat) (s : State) : AnswersFrom s (execResSignal k s) := by simp [execResSignal]
@[simp] theorem State.resConversion_kept (s : State) (c : Nat) : (s.resConversion c).kept = s.kept := by simp [State.resConversion]

/-! ### Sys2Proof/Machine/Sync.lean -/

@[simp] theorem State.carrier_kept (s : State) (p : Nat) : (s.carrier p).kept = s.kept := by simp [State.carrier]
@[simp] theorem State.syncState_kept (s : State) (v : Nat) : (s.syncState v).kept = s.kept := by simp [State.syncState]
@[simp] theorem State.carrierStart_kept (s : State) : s.carrierStart.kept = s.kept := by simp [State.carrierStart]
@[simp] theorem State.glide_kept (s : State) : s.glide.kept = s.kept := by simp [State.glide]
@[simp] theorem State.syncLoss_kept (s : State) : s.syncLoss.kept = s.kept := by simp [State.syncLoss]
@[simp] theorem State.syncStep_kept (s0 : State) : s0.syncStep.kept = s0.kept := by simp [State.syncStep]
@[simp] theorem State.syncWrite_kept (s : State) (follow : Bool) (freq : Nat) : (s.syncWrite follow freq).kept = s.kept := by simp [State.syncWrite]

/-! ### Sys2Proof/Machine/Edge.lean -/

@[simp] theorem execBanisterRemove_answers (pair unit line : Nat) (s : State) : AnswersFrom s (execBanisterRemove pair unit line s) := by
  simp [execBanisterRemove]
@[simp] theorem execBanisterGrant_answers (pair unit : Nat) (s : State) : AnswersFrom s (execBanisterGrant pair unit s) := by
  simp [execBanisterGrant]
@[simp] theorem execAscInterlockExpiry_answers (ch : Nat) (s : State) : AnswersFrom s (execAscInterlockExpiry ch s) := by
  simp [execAscInterlockExpiry]
@[simp] theorem State.tbEnable_kept (s : State) (n : Nat) : (s.tbEnable n).kept = s.kept := by simp [State.tbEnable]
@[simp] theorem State.tbWrite_kept (s : State) (n : Nat) (v : Word) : (s.tbWrite n v).kept = s.kept := by simp [State.tbWrite]
@[simp] theorem execTimebaseStart_answers (w : Writer) (n : Nat) (v : Word) (s0 : State) : AnswersFrom s0 (execTimebaseStart w n v s0) := by
  simp [execTimebaseStart]
@[simp] theorem State.toggle_kept (s : State) (ch : Nat) : (s.toggle ch).kept = s.kept := by simp [State.toggle]
@[simp] theorem State.schedRun_kept (s : State) (m ch : Nat) (p : CarrierPt) : (s.schedRun m ch p).kept = s.kept := by
  unfold State.schedRun
  split <;> simp
@[simp] theorem State.schedPoint_kept (s : State) (m ch : Nat) (p : CarrierPt) : (s.schedPoint m ch p).kept = s.kept := by
  simp only [State.schedPoint]
  split <;> simp
@[simp] theorem State.quietChan_kept (s : State) (m ch : Nat) (p : CarrierPt) (both : Bool) : (s.quietChan m ch p both).kept = s.kept := by
  simp [State.quietChan]
@[simp] theorem State.settleCmds_kept (s : State) (ch : Nat) : (s.settleCmds ch).kept = s.kept := by simp [State.settleCmds]
@[simp] theorem State.newRef_kept (s : State) (k ch : Nat) (r : F32) (asStep : Bool) : (s.newRef k ch r asStep).kept = s.kept := by
  simp [State.newRef]
@[simp] theorem State.applyChan_kept (s : State) (k ch : Nat) (band switched : Bool) : (s.applyChan k ch band switched).kept = s.kept := by
  simp only [State.applyChan]
  repeat' split
  all_goals simp
@[simp] theorem State.applyUnit_kept (s : State) (k u : Nat) : (s.applyUnit k u).kept = s.kept := by simp [State.applyUnit]
@[simp] theorem State.updateEngine_kept (s : State) (m k : Nat) (p : CarrierPt) (settled : Bool) :
    (s.updateEngine m k p settled).kept = s.kept := by simp [State.updateEngine]
@[simp] theorem execUpdatePoint_answers (n : Nat) (at_ : CarrierAt) (settled : Bool) (s : State) :
    AnswersFrom s (execUpdatePoint n at_ settled s) := by
  simp only [execUpdatePoint]
  repeat' split
  all_goals simp
@[simp] theorem State.legChange_kept (s : State) (u h t : Nat) (hi : Bool) : (s.legChange u h t hi).kept = s.kept := by simp [State.legChange]
@[simp] theorem State.judgeLeg_kept (s : State) (u h t : Nat) (scale i : F32) : (s.judgeLeg u h t scale i).kept = s.kept := by
  simp only [State.judgeLeg]
  repeat' split
  all_goals simp
@[simp] theorem State.cleanPair_kept (s : State) (u t : Nat) (a b : Int) : (s.cleanPair u t a b).kept = s.kept := by simp [State.cleanPair]
@[simp] theorem State.compare_kept (s : State) (k ch m u t : Nat) (count : Int) (edge invalid : Bool) : (s.compare k ch m u t count edge invalid).kept = s.kept := by
  unfold State.compare
  extract_lets +onlyGivenNames blank sensor scale cur mate other otherBlank n s0 s1
  have h1 : s1.kept = s.kept := by
    unfold s1 s0
    split <;> simp
  clear_value s1 otherBlank other mate
  split
  · dsimp only
    simp only [State.ite_kept, State.cleanPair_kept, ite_self]
    split <;> simp [h1]
  · exact h1
@[simp] theorem State.tickSample_kept (s : State) (k ch m t inst : Nat) (count : Int) (flags : Nat) :
    (s.tickSample k ch m t inst count flags).kept = s.kept := by
  simp only [State.tickSample]
  split <;> simp
@[simp] theorem execFastConversion_answers (k t raw : Nat) (inst : Instant) (s : State) : AnswersFrom s (execFastConversion k t raw inst s) := by
  simp only [execFastConversion]
  repeat' split
  all_goals simp
@[simp] theorem execBandDwellEnd_answers (ch : Nat) (s : State) : AnswersFrom s (execBandDwellEnd ch s) := by
  simp only [execBandDwellEnd]
  split <;> simp
@[simp] theorem State.gateFault_kept (s : State) (code n : Nat) : (s.gateFault code n).kept = s.kept := by
  unfold State.gateFault
  split <;> simp
@[simp] theorem State.setLink_kept (s : State) (n : Nat) (l : Link) : (s.setLink n l).kept = s.kept := by simp [State.setLink]
@[simp] theorem State.sendFrames_kept (s : State) (n : Nat) (l : List Word) : (s.sendFrames n l).kept = s.kept := by simp [State.sendFrames]
@[simp] theorem State.linkFrame_kept (s : State) (n : Nat) (w : Word) : (s.linkFrame n w).kept = s.kept := by simp [State.linkFrame]
@[simp] theorem State.derate_kept (s : State) : s.derate.kept = s.kept := by
  unfold State.derate
  split <;> simp
@[simp] theorem State.edgeCompare_kept (s : State) (n edges : Nat) : (s.edgeCompare n edges).kept = s.kept := by simp [State.edgeCompare]
@[simp] theorem State.statusRead_kept (s : State) (n status : Nat) : (s.statusRead n status).kept = s.kept := by simp [State.statusRead]
@[simp] theorem execGateLinkPoll_answers (n : Nat) (status count poll : List Word) (s : State) :
    AnswersFrom s (execGateLinkPoll n status count poll s) := by
  simp only [execGateLinkPoll]
  repeat' split
  all_goals simp
@[simp] theorem execDriverFault_answers (n : Nat) (s : State) : AnswersFrom s (execDriverFault n s) := by simp [execDriverFault]

/-! ### Sys2Proof/Machine/FeIsa.lean -/

@[simp] theorem execNop_answers (n d a b x : Nat) (s : State) : AnswersFrom s (execNop n d a b x s) := by simp [execNop]
@[simp] theorem execMov_answers (n d a b x : Nat) (s : State) : AnswersFrom s (execMov n d a b x s) := by simp [execMov]
@[simp] theorem execFadd_answers (n d a b x : Nat) (s : State) : AnswersFrom s (execFadd n d a b x s) := by simp [execFadd]
@[simp] theorem execFsub_answers (n d a b x : Nat) (s : State) : AnswersFrom s (execFsub n d a b x s) := by simp [execFsub]
@[simp] theorem execFmul_answers (n d a b x : Nat) (s : State) : AnswersFrom s (execFmul n d a b x s) := by simp [execFmul]
@[simp] theorem execFmac_answers (n d a b x : Nat) (s : State) : AnswersFrom s (execFmac n d a b x s) := by simp [execFmac]
@[simp] theorem execFmin_answers (n d a b x : Nat) (s : State) : AnswersFrom s (execFmin n d a b x s) := by simp [execFmin]
@[simp] theorem execFmax_answers (n d a b x : Nat) (s : State) : AnswersFrom s (execFmax n d a b x s) := by simp [execFmax]
@[simp] theorem execFabs_answers (n d a b x : Nat) (s : State) : AnswersFrom s (execFabs n d a b x s) := by simp [execFabs]
@[simp] theorem execFneg_answers (n d a b x : Nat) (s : State) : AnswersFrom s (execFneg n d a b x s) := by simp [execFneg]
@[simp] theorem execSqrt_answers (n d a b x : Nat) (s : State) : AnswersFrom s (execSqrt n d a b x s) := by simp [execSqrt]
@[simp] theorem execDiv_answers (n d a b x : Nat) (s : State) : AnswersFrom s (execDiv n d a b x s) := by simp [execDiv]
@[simp] theorem execFcmp_answers (n d a b x : Nat) (s : State) : AnswersFrom s (execFcmp n d a b x s) := by simp [execFcmp]
@[simp] theorem execFtoi_answers (n d a b x : Nat) (s : State) : AnswersFrom s (execFtoi n d a b x s) := by simp [execFtoi]
@[simp] theorem execItof_answers (n d a b x : Nat) (s : State) : AnswersFrom s (execItof n d a b x s) := by simp [execItof]
@[simp] theorem execSincos_answers (n d a b x : Nat) (s : State) : AnswersFrom s (execSincos n d a b x s) := by simp [execSincos]
@[simp] theorem execIadd_answers (n d a b x : Nat) (s : State) : AnswersFrom s (execIadd n d a b x s) := by simp [execIadd]
@[simp] theorem execIsub_answers (n d a b x : Nat) (s : State) : AnswersFrom s (execIsub n d a b x s) := by simp [execIsub]
@[simp] theorem execIand_answers (n d a b x : Nat) (s : State) : AnswersFrom s (execIand n d a b x s) := by simp [execIand]
@[simp] theorem execIor_answers (n d a b x : Nat) (s : State) : AnswersFrom s (execIor n d a b x s) := by simp [execIor]
@[simp] theorem execIxor_answers (n d a b x : Nat) (s : State) : AnswersFrom s (execIxor n d a b x s) := by simp [execIxor]
@[simp] theorem execIshl_answers (n d a b x : Nat) (s : State) : AnswersFrom s (execIshl n d a b x s) := by simp [execIshl]
@[simp] theorem execIshr_answers (n d a b x : Nat) (s : State) : AnswersFrom s (execIshr n d a b x s) := by simp [execIshr]
@[simp] theorem execIli_answers (n d imm : Nat) (s : State) : AnswersFrom s (execIli n d imm s) := by simp [execIli]
@[simp] theorem execLdp_answers (n d a b x : Nat) (s : State) : AnswersFrom s (execLdp n d a b x s) := by simp [execLdp]
@[simp] theorem execStp_answers (n d a b x : Nat) (s : State) : AnswersFrom s (execStp n d a b x s) := by simp [execStp]
@[simp] theorem execLdg_answers (n d a b x : Nat) (s : State) : AnswersFrom s (execLdg n d a b x s) := by simp [execLdg]
@[simp] theorem execClarke_answers (n d a b x : Nat) (s : State) : AnswersFrom s (execClarke n d a b x s) := by simp [execClarke]
@[simp] theorem execIclarke_answers (n d a b x : Nat) (s : State) : AnswersFrom s (execIclarke n d a b x s) := by simp [execIclarke]
@[simp] theorem execPark_answers (n d a b x : Nat) (s : State) : AnswersFrom s (execPark n d a b x s) := by simp [execPark]
@[simp] theorem execIpark_answers (n d a b x : Nat) (s : State) : AnswersFrom s (execIpark n d a b x s) := by simp [execIpark]
@[simp] theorem execPistep_answers (n d a b x : Nat) (s : State) : AnswersFrom s (execPistep n d a b x s) := by simp [execPistep]
@[simp] theorem execLimit_answers (n d a b x : Nat) (s : State) : AnswersFrom s (execLimit n d a b x s) := by simp [execLimit]
@[simp] theorem execRegion_answers (n d a b x : Nat) (s : State) : AnswersFrom s (execRegion n d a b x s) := by simp [execRegion]
@[simp] theorem execProf_answers (n d a b x : Nat) (s : State) : AnswersFrom s (execProf n d a b x s) := by simp [execProf]
@[simp] theorem execPlaus_answers (n d a b x : Nat) (s : State) : AnswersFrom s (execPlaus n d a b x s) := by simp [execPlaus]
@[simp] theorem execBset_answers (n d a b x : Nat) (s : State) : AnswersFrom s (execBset n d a b x s) := by simp [execBset]
@[simp] theorem execSld_answers (n d a b x : Nat) (s : State) : AnswersFrom s (execSld n d a b x s) := by simp [execSld]
@[simp] theorem execSldSampleTimeout_answers (n : Nat) (s : State) : AnswersFrom s (execSldSampleTimeout n s) := by
  unfold execSldSampleTimeout
  split <;> simp
@[simp] theorem execCst_answers (n d a b x : Nat) (s : State) : AnswersFrom s (execCst n d a b x s) := by simp [execCst]
@[simp] theorem execEvt_answers (n d a b x : Nat) (s : State) : AnswersFrom s (execEvt n d a b x s) := by simp [execEvt]
@[simp] theorem execBr_answers (n d a b x : Nat) (s : State) : AnswersFrom s (execBr n d a b x s) := by simp [execBr]
@[simp] theorem execBrc_answers (n d a b x : Nat) (s : State) : AnswersFrom s (execBrc n d a b x s) := by simp [execBrc]
@[simp] theorem execIllegalInstr_answers (n : Nat) (s : State) : AnswersFrom s (execIllegalInstr n s) := by
  unfold execIllegalInstr
  split <;> simp

/-! ### Sys2Proof/Machine/TracEst.lean -/

@[simp] theorem State.setTr_kept (s : State) (n : Nat) (t : Trac) : (s.setTr n t).kept = s.kept := by simp [State.setTr]
@[simp] theorem State.modTr_kept (s : State) (n : Nat) (f : Trac → Trac) : (s.modTr n f).kept = s.kept := by simp [State.modTr]

/-! ### Sys2Proof/Machine/TracTick.lean -/

@[simp] theorem State.checks_kept (s : State) (n : Nat) (e : Engine) (t : Trac) (i : TickIn) (id iq : F32) :
    (s.checks n e t i id iq).1.kept = s.kept := by
  unfold State.checks
  repeat' split
  all_goals simp
@[simp] theorem State.tracRun_kept (s : State) (n law : Nat) : (s.tracRun n law).kept = s.kept := by simp [State.tracRun]
@[simp] theorem State.tracTick_kept (s : State) (n : Nat) : (s.tracTick n).kept = s.kept := by
  simp only [State.tracTick]
  repeat' split
  all_goals simp
@[simp] theorem State.tracRelease_kept (s : State) (n : Nat) : (s.tracRelease n).kept = s.kept := by simp [State.tracRelease]

/-! ### Sys2Proof/Machine/Converter.lean -/

@[simp] theorem State.convWake_kept (s : State) : s.convWake.kept = s.kept := by simp [State.convWake]
@[simp] theorem State.burstRefresh_kept (s : State) : s.burstRefresh.kept = s.kept := by simp [State.burstRefresh]
@[simp] theorem State.burstDv_kept (s : State) : s.burstDv.kept = s.kept := by simp [State.burstDv]
@[simp] theorem State.convStart_kept (s : State) : s.convStart.kept = s.kept := by simp [State.convStart]
@[simp] theorem State.convPadsLow_kept (s : State) : s.convPadsLow.kept = s.kept := by simp [State.convPadsLow]
@[simp] theorem State.convRun_kept (s : State) : s.convRun.kept = s.kept := by
  simp only [State.convRun]
  split <;> simp
@[simp] theorem State.convTick_kept (s : State) : s.convTick.kept = s.kept := by
  unfold State.convTick
  repeat' split
  all_goals simp
@[simp] theorem State.tellVoutAbsent_kept (s : State) : s.tellVoutAbsent.kept = s.kept := by simp [State.tellVoutAbsent]
@[simp] theorem State.convRelease_kept (s : State) : s.convRelease.kept = s.kept := by simp [State.convRelease]
@[simp] theorem execConvSetV_answers (c : Cmd) (s0 : State) : AnswersFrom s0 (execConvSetV c s0) := by simp [execConvSetV]
@[simp] theorem execConvStatus_answers (c : Cmd) (s0 : State) : AnswersFrom s0 (execConvStatus c s0) := by simp [execConvStatus]
@[simp] theorem execConvRestart_answers (c : Cmd) (s0 : State) : AnswersFrom s0 (execConvRestart c s0) := by simp [execConvRestart]
@[simp] theorem execConvLightLoad_answers (c : Cmd) (s0 : State) : AnswersFrom s0 (execConvLightLoad c s0) := by simp [execConvLightLoad]
@[simp] theorem execConvSync_answers (c : Cmd) (s0 : State) : AnswersFrom s0 (execConvSync c s0) := by simp [execConvSync]
@[simp] theorem execSyncEdge_answers (interval : Nat) (phase : Int) (s : State) : AnswersFrom s (execSyncEdge interval phase s) := by
  simp -implicitDefEqProofs [execSyncEdge]
@[simp] theorem execSyncLost_answers (s : State) : AnswersFrom s (execSyncLost s) := by simp [execSyncLost]
@[simp] theorem execConvStart_answers (s : State) : AnswersFrom s (execConvStart s) := by simp [execConvStart]
@[simp] theorem execBurstWakeSample_answers (low : Bool) (s : State) : AnswersFrom s (execBurstWakeSample low s) := by simp [execBurstWakeSample]
@[simp] theorem execConvShort_answers (s : State) : AnswersFrom s (execConvShort s) := by simp [execConvShort]
@[simp] theorem execConvRetryWaitExpiry_answers (s : State) : AnswersFrom s (execConvRetryWaitExpiry s) := by simp [execConvRetryWaitExpiry]
@[simp] theorem execCbcLimit_answers (k : Nat) (s : State) : AnswersFrom s (execCbcLimit k s) := by
  simp only [execCbcLimit]
  split <;> simp
@[simp] theorem execConvOvp_answers (s : State) : AnswersFrom s (execConvOvp s) := by simp [execConvOvp]
@[simp] theorem execConvVoutAbsent_answers (s : State) : AnswersFrom s (execConvVoutAbsent s) := by simp [execConvVoutAbsent]

/-! ### Sys2Proof/Machine/Charger.lean -/

@[simp] theorem State.chgFlush_kept (s : State) : s.chgFlush.kept = s.kept := by simp [State.chgFlush]
@[simp] theorem State.chgShow_kept (s : State) : s.chgShow.kept = s.kept := by simp [State.chgShow]
@[simp] theorem State.chgDone_kept (s : State) : s.chgDone.kept = s.kept := by simp [State.chgDone]
@[simp] theorem State.chgHold_kept (s : State) (b : Nat) (v : Bool) : (s.chgHold b v).kept = s.kept := by simp [State.chgHold]
@[simp] theorem State.armWord_kept (s : State) (b : Nat) (v new : Bool) : (s.armWord b v new).kept = s.kept := by simp [State.armWord]
@[simp] theorem State.contact_kept (s : State) (lv : Bool) : (s.contact lv).kept = s.kept := by simp [State.contact]
@[simp] theorem State.lvEnd_kept (s : State) : s.lvEnd.kept = s.kept := by
  simp only [State.lvEnd]
  split <;> simp
@[simp] theorem State.supplyEvent_kept (s : State) (k : Nat) : (s.supplyEvent k).kept = s.kept := by simp [State.supplyEvent]
@[simp] theorem State.stageLeg_kept (s : State) (n u l : Nat) (v : F32) : (s.stageLeg n u l v).kept = s.kept := by
  unfold State.stageLeg
  split <;> simp
@[simp] theorem State.chgStage_kept (s : State) (shift : F32) : (s.chgStage shift).kept = s.kept := by simp [State.chgStage]
@[simp] theorem State.supStep_kept (s : State) (okBus : Bool) : (s.supStep okBus).kept = s.kept := by simp [State.supStep]
@[simp] theorem State.chgHv_kept (s : State) (i : ChgIn) : (s.chgHv i).1.kept = s.kept := by
  simp only [State.chgHv]
  split <;> simp
@[simp] theorem State.chgLv_kept (s : State) (i : ChgIn) : (s.chgLv i).kept = s.kept := by simp [State.chgLv]
@[simp] theorem State.chgDab_kept (s : State) (i : ChgIn) (iref : F32) : (s.chgDab i iref).kept = s.kept := by simp [State.chgDab]
@[simp] theorem State.chgPlaus_kept (s : State) (i : ChgIn) (on : Bool) : (s.chgPlaus i on).kept = s.kept := by simp [State.chgPlaus]
@[simp] theorem State.chgWords_kept (s : State) (i : ChgIn) (iref : F32) (acl : Bool) : (s.chgWords i iref acl).kept = s.kept := by
  simp [State.chgWords]
@[simp] theorem State.chgRun_kept (s : State) : s.chgRun.kept = s.kept := by simp [State.chgRun]
@[simp] theorem State.chgTick_kept (s : State) : s.chgTick.kept = s.kept := by
  unfold State.chgTick
  repeat' split
  all_goals simp
@[simp] theorem State.supplyEntry_kept (s : State) : s.supplyEntry.kept = s.kept := by simp [State.supplyEntry]
@[simp] theorem State.chargeEntry_kept (s : State) : s.chargeEntry.kept = s.kept := by simp [State.chargeEntry]
@[simp] theorem State.chargeLeaving_kept (s : State) : s.chargeLeaving.kept = s.kept := by simp [State.chargeLeaving]
@[simp] theorem State.chargeLeft_kept (s : State) : s.chargeLeft.kept = s.kept := by simp [State.chargeLeft]
@[simp] theorem State.lvStop_kept (s : State) (cause : Nat) : (s.lvStop cause).kept = s.kept := by simp [State.lvStop]
@[simp] theorem State.phaseWords_kept (s : State) (c : Cmd) (first : Nat) : (s.phaseWords c first).kept = s.kept := by simp [State.phaseWords]
@[simp] theorem execChgArm_answers (c : Cmd) (s0 : State) : AnswersFrom s0 (execChgArm c s0) := by simp [execChgArm]
@[simp] theorem execChgDisarm_answers (c : Cmd) (s0 : State) : AnswersFrom s0 (execChgDisarm c s0) := by simp [execChgDisarm]
@[simp] theorem execChgLimit_answers (c : Cmd) (s0 : State) : AnswersFrom s0 (execChgLimit c s0) := by simp [execChgLimit]
@[simp] theorem execChgStatus_answers (c : Cmd) (s0 : State) : AnswersFrom s0 (execChgStatus c s0) := by simp [execChgStatus]
@[simp] theorem execChgRestart_answers (c : Cmd) (s0 : State) : AnswersFrom s0 (execChgRestart c s0) := by simp [execChgRestart]
@[simp] theorem execSupSet_answers (c : Cmd) (s0 : State) : AnswersFrom s0 (execSupSet c s0) := by simp [execSupSet]
@[simp] theorem execLvChgArm_answers (c : Cmd) (s0 : State) : AnswersFrom s0 (execLvChgArm c s0) := by simp [execLvChgArm]
@[simp] theorem execLvChgDisarm_answers (c : Cmd) (s0 : State) : AnswersFrom s0 (execLvChgDisarm c s0) := by simp [execLvChgDisarm]
@[simp] theorem execLvChgLimit_answers (c : Cmd) (s0 : State) : AnswersFrom s0 (execLvChgLimit c s0) := by simp [execLvChgLimit]
@[simp] theorem State.supApplied_kept (s : State) : s.supApplied.kept = s.kept := by simp [State.supApplied]
@[simp] theorem State.pilotEvent_kept (s : State) : s.pilotEvent.kept = s.kept := by simp [State.pilotEvent]
@[simp] theorem State.pilotCharge_kept (s : State) (st : Nat) : (s.pilotCharge st).kept = s.kept := by simp [State.pilotCharge]
@[simp] theorem State.pilotSupply_kept (s : State) (old st : Nat) : (s.pilotSupply old st).kept = s.kept := by
  unfold State.pilotSupply
  split <;> simp
@[simp] theorem execPilotStateChange_answers (vh vl : Int) (freq duty : Nat) (s : State) :
    AnswersFrom s (execPilotStateChange vh vl freq duty s) := by simp [execPilotStateChange]
@[simp] theorem State.plugCheck_kept (s : State) : s.plugCheck.kept = s.kept := by simp [State.plugCheck]
@[simp] theorem execPpSample_answers (mv : Nat) (s : State) : AnswersFrom s (execPpSample mv s) := by simp [execPpSample]
@[simp] theorem execPilotRouteCheck_answers (vh : Int) (s : State) : AnswersFrom s (execPilotRouteCheck vh s) := by simp [execPilotRouteCheck]
@[simp] theorem execChgOnTimeEnd_answers (lv : Bool) (mean : F32) (s : State) : AnswersFrom s (execChgOnTimeEnd lv mean s) := by
  simp [execChgOnTimeEnd]
@[simp] theorem State.lvAbsent_kept (s : State) : s.lvAbsent.kept = s.kept := by simp [State.lvAbsent]
@[simp] theorem execChgRestEnd_answers (lv : Bool) (vOn v10 vEnd iOn : F32) (zero : Bool) (s : State) :
    AnswersFrom s (execChgRestEnd lv vOn v10 vEnd iOn zero s) := by simp [execChgRestEnd]
@[simp] theorem State.tellPrepFail_kept (s : State) (lv : Bool) : (s.tellPrepFail lv).kept = s.kept := by simp [State.tellPrepFail]
@[simp] theorem execChgPrepFail_answers (lv : Bool) (s : State) : AnswersFrom s (execChgPrepFail lv s) := by simp [execChgPrepFail]
@[simp] theorem State.tellDone_kept (s : State) (lv : Bool) : (s.tellDone lv).kept = s.kept := by
  simp only [State.tellDone]
  split <;> simp
@[simp] theorem execChgTerminate_answers (lv : Bool) (s : State) : AnswersFrom s (execChgTerminate lv s) := by simp [execChgTerminate]
@[simp] theorem State.chgWatch_kept (s : State) (lv : Bool) : (s.chgWatch lv).kept = s.kept := by simp [State.chgWatch]
@[simp] theorem State.tellWatch_kept (s : State) (lv : Bool) : (s.tellWatch lv).kept = s.kept := by simp [State.tellWatch]
@[simp] theorem execChgWatchdog_answers (lv : Bool) (s : State) : AnswersFrom s (execChgWatchdog lv s) := by simp [execChgWatchdog]
@[simp] theorem State.chgRelease_kept (s : State) : s.chgRelease.kept = s.kept := by simp [State.chgRelease]
@[simp] theorem execChgTimer_answers (lv : Bool) (s : State) : AnswersFrom s (execChgTimer lv s) := by simp [execChgTimer]
@[simp] theorem execLvBatteryAbsent_answers (s : State) : AnswersFrom s (execLvBatteryAbsent s) := by simp [execLvBatteryAbsent]
@[simp] theorem execLvVsetForward_answers (s : State) : AnswersFrom s (execLvVsetForward s) := by simp [execLvVsetForward]
@[simp] theorem State.supplyStop_kept (s : State) : s.supplyStop.kept = s.kept := by simp [State.supplyStop]
@[simp] theorem execSupplyOverload_answers (s : State) : AnswersFrom s (execSupplyOverload s) := by simp [execSupplyOverload]
@[simp] theorem State.batteryLost_kept (s : State) : s.batteryLost.kept = s.kept := by simp [State.batteryLost]

/-! ### Sys2Proof/Machine/Motion.lean -/

@[simp] theorem State.setAct_kept (s : State) (m : Nat) (a : Act) : (s.setAct m a).kept = s.kept := by simp [State.setAct]
@[simp] theorem State.actSay_kept (s : State) (n : Nat) (isRec : Bool) (code : Nat) (c0 c1 : Word) :
    (s.actSay n isRec code c0 c1).kept = s.kept := by simp [State.actSay]
@[simp] theorem State.actLoops_kept (s : State) (m : Nat) (a : Act) : (s.actLoops m a).st.kept = s.kept := by
  simp only [State.actLoops]
  split <;> simp
@[simp] theorem State.actMotor_kept (s : State) (m : Nat) : (s.actMotor m).kept = s.kept := by
  simp only [State.actMotor]
  repeat' split
  all_goals simp
@[simp] theorem State.actRun_kept (s : State) (n : Nat) : (s.actRun n).kept = s.kept := by simp [State.actRun]
@[simp] theorem State.actTick_kept (s : State) (n : Nat) : (s.actTick n).kept = s.kept := by
  simp only [State.actTick]
  repeat' split
  all_goals simp
@[simp] theorem State.parkWatch_kept (s : State) : s.parkWatch.kept = s.kept := by simp [State.parkWatch]
@[simp] theorem State.actRelease_kept (s0 : State) (n : Nat) : (s0.actRelease n).kept = s0.kept := by simp [State.actRelease]
@[simp] theorem State.motSetpoint_answers (s : State) (c : Cmd) (opcode bytes mode : Nat) (ok : Nat → Bool) (words : Nat → List (Nat × Word)) :
    AnswersFrom s (s.motSetpoint c opcode bytes mode ok words) := by simp [State.motSetpoint]
@[simp] theorem execActCurrent_answers (c : Cmd) (s0 : State) : AnswersFrom s0 (execActCurrent c s0) := by simp [execActCurrent]
@[simp] theorem execActSpeed_answers (c : Cmd) (s0 : State) : AnswersFrom s0 (execActSpeed c s0) := by simp [execActSpeed]
@[simp] theorem execActMove_answers (c : Cmd) (s0 : State) : AnswersFrom s0 (execActMove c s0) := by simp [execActMove]
@[simp] theorem execActStatus_answers (c : Cmd) (s0 : State) : AnswersFrom s0 (execActStatus c s0) := by simp [execActStatus]
@[simp] theorem execEncStatus_answers (c : Cmd) (s0 : State) : AnswersFrom s0 (execEncStatus c s0) := by simp [execEncStatus]
@[simp] theorem State.parkEvent_kept (s : State) (k : Nat) : (s.parkEvent k).kept = s.kept := by simp [State.parkEvent]
@[simp] theorem State.parkHoldBit_kept (s : State) (v : Bool) : (s.parkHoldBit v).kept = s.kept := by
  unfold State.parkHoldBit
  split <;> simp
@[simp] theorem State.parkRequest_kept (s : State) (engage : Bool) : (s.parkRequest engage).kept = s.kept := by
  simp only [State.parkRequest]
  repeat' split
  all_goals simp
@[simp] theorem State.parkOver_kept (s : State) : s.parkOver.kept = s.kept := by
  simp only [State.parkOver]
  split <;> simp
@[simp] theorem execParkVerified_answers (s : State) : AnswersFrom s (execParkVerified s) := by
  unfold execParkVerified
  repeat' split
  all_goals simp
@[simp] theorem execParkFail_answers (s : State) : AnswersFrom s (execParkFail s) := by
  unfold execParkFail
  split <;> simp
@[simp] theorem execParkRecheck_answers (s : State) : AnswersFrom s (execParkRecheck s) := by
  unfold execParkRecheck
  split <;> simp

/-! ### Sys2Proof/Machine/Traction.lean -/

@[simp] theorem State.tracSetpoint_answers (s : State) (c : Cmd) (opcode : Nat) (bad : Bool) (words : List (Nat × Word)) :
    AnswersFrom s (s.tracSetpoint c opcode bad words) := by simp [State.tracSetpoint]
@[simp] theorem execTrqSet_answers (c : Cmd) (s0 : State) : AnswersFrom s0 (execTrqSet c s0) := by simp [execTrqSet]
@[simp] theorem execSpdSet_answers (c : Cmd) (s0 : State) : AnswersFrom s0 (execSpdSet c s0) := by simp [execSpdSet]
@[simp] theorem execCtrlSel_answers (c : Cmd) (s0 : State) : AnswersFrom s0 (execCtrlSel c s0) := by simp [execCtrlSel]
@[simp] theorem execTrqStatus_answers (c : Cmd) (s0 : State) : AnswersFrom s0 (execTrqStatus c s0) := by simp [execTrqStatus]
@[simp] theorem execTrcParamWrite_answers (c : Cmd) (s0 : State) : AnswersFrom s0 (execTrcParamWrite c s0) := by simp [execTrcParamWrite]
@[simp] theorem execTrcParamRead_answers (c : Cmd) (s0 : State) : AnswersFrom s0 (execTrcParamRead c s0) := by simp [execTrcParamRead]
@[simp] theorem execLawSel_answers (c : Cmd) (s0 : State) : AnswersFrom s0 (execLawSel c s0) := by simp [execLawSel]
@[simp] theorem State.lawRelease_kept (s : State) (n : Nat) : (s.lawRelease n).kept = s.kept := by
  simp only [State.lawRelease]
  repeat' split
  all_goals simp
@[simp] theorem State.rampAll_kept (s : State) (kind ms : Nat) : (s.rampAll kind ms).kept = s.kept := by simp [State.rampAll]
@[simp] theorem State.rampHandover_kept (s : State) : s.rampHandover.kept = s.kept := by simp [State.rampHandover]
@[simp] theorem State.endRamp_kept (s : State) (kind : Nat) : (s.endRamp kind).kept = s.kept := by simp [State.endRamp]
@[simp] theorem State.modEst_kept (s : State) (n : Nat) (f : Est → Est) : (s.modEst n f).kept = s.kept := by simp [State.modEst]
@[simp] theorem State.tellSetpointWd_kept (s : State) (n : Nat) : (s.tellSetpointWd n).kept = s.kept := by simp [State.tellSetpointWd]
@[simp] theorem State.tellOverspeed_kept (s : State) (n : Nat) : (s.tellOverspeed n).kept = s.kept := by simp [State.tellOverspeed]
@[simp] theorem State.tellVdcAbsent_kept (s : State) (n : Nat) : (s.tellVdcAbsent n).kept = s.kept := by simp [State.tellVdcAbsent]
@[simp] theorem State.tellBandSat_kept (s : State) (n : Nat) : (s.tellBandSat n).kept = s.kept := by simp [State.tellBandSat]
@[simp] theorem State.tellFswLimit_kept (s : State) (n : Nat) : (s.tellFswLimit n).kept = s.kept := by
  simp only [State.tellFswLimit]
  split <;> simp
@[simp] theorem State.tellLocked_kept (s : State) (n : Nat) : (s.tellLocked n).kept = s.kept := by simp [State.tellLocked]
@[simp] theorem State.tellAcquireFail_kept (s : State) (n : Nat) : (s.tellAcquireFail n).kept = s.kept := by simp [State.tellAcquireFail]
@[simp] theorem State.tellDecayTimeout_kept (s : State) (n : Nat) : (s.tellDecayTimeout n).kept = s.kept := by simp [State.tellDecayTimeout]
@[simp] theorem State.tellFwEnd_kept (s : State) (n : Nat) : (s.tellFwEnd n).kept = s.kept := by simp [State.tellFwEnd]
@[simp] theorem State.tellAscEnd_kept (s : State) (n : Nat) : (s.tellAscEnd n).kept = s.kept := by simp [State.tellAscEnd]
@[simp] theorem State.tellRecaptureFail_kept (s : State) (n : Nat) : (s.tellRecaptureFail n).kept = s.kept := by simp [State.tellRecaptureFail]
@[simp] theorem State.tellAll_kept (s : State) (n : Nat) : (s.tellAll n).kept = s.kept := by simp [State.tellAll]
@[simp] theorem State.condition_answers (s : State) (n : Nat) (f : State → Nat → State) (h : (f s n).kept = s.kept) :
    AnswersFrom s (s.condition n f) := by
  simp [State.condition, h]
@[simp] theorem execSetpointWdExpiry_answers (n : Nat) (s : State) : AnswersFrom s (execSetpointWdExpiry n s) := by simp [execSetpointWdExpiry]
@[simp] theorem execOverspeed_answers (n : Nat) (s : State) : AnswersFrom s (execOverspeed n s) := by simp [execOverspeed]
@[simp] theorem execVdcAbsent_answers (n : Nat) (s : State) : AnswersFrom s (execVdcAbsent n s) := by simp [execVdcAbsent]
@[simp] theorem execBandSat_answers (n : Nat) (s : State) : AnswersFrom s (execBandSat n s) := by simp [execBandSat]
@[simp] theorem execFswLimit_answers (n : Nat) (s : State) : AnswersFrom s (execFswLimit n s) := by simp [execFswLimit]
@[simp] theorem execEstimatorLocked_answers (n : Nat) (s : State) : AnswersFrom s (execEstimatorLocked n s) := by simp [execEstimatorLocked]
@[simp] theorem execAcquireFail_answers (n : Nat) (s : State) : AnswersFrom s (execAcquireFail n s) := by simp [execAcquireFail]
@[simp] theorem execRecapDecayTimeout_answers (n : Nat) (s : State) : AnswersFrom s (execRecapDecayTimeout n s) := by simp [execRecapDecayTimeout]
@[simp] theorem execRecapFwEnd_answers (n : Nat) (s : State) : AnswersFrom s (execRecapFwEnd n s) := by simp [execRecapFwEnd]
@[simp] theorem execRecapAscEnd_answers (n : Nat) (s : State) : AnswersFrom s (execRecapAscEnd n s) := by simp [execRecapAscEnd]
@[simp] theorem execRecaptureFail_answers (n : Nat) (s : State) : AnswersFrom s (execRecaptureFail n s) := by simp [execRecaptureFail]

/-! ### Sys2Proof/Machine/FieldEngine.lean -/

@[simp] theorem State.setpointResult_kept (s : State) (n : Nat) (p : Setpoint) (st : Status) (v : Nat) :
    (s.setpointResult n p st v).kept = s.kept := by simp [State.setpointResult]
@[simp] theorem State.bump_kept (s : State) (n p : Nat) : (s.bump n p).kept = s.kept := by simp [State.bump]
@[simp] theorem State.actSetpoint_kept (s : State) (group : List Nat) (p : Setpoint) : (s.actSetpoint group p).kept = s.kept := by
  simp [State.actSetpoint]
@[simp] theorem State.takeSetpoints_kept (s : State) (group : List Nat) (n : Nat) : (s.takeSetpoints group n).kept = s.kept := by
  simp [State.takeSetpoints]
@[simp] theorem State.edgeSamples_kept (s : State) (n : Nat) : (s.edgeSamples n).kept = s.kept := by simp [State.edgeSamples]
@[simp] theorem State.strobe_kept (s : State) (n : Nat) : (s.strobe n).kept = s.kept := by simp [State.strobe]
@[simp] theorem State.breakHold_kept (s : State) (n : Nat) : (s.breakHold n).kept = s.kept := by simp [State.breakHold]
@[simp] theorem State.transferGroup_kept (s : State) (group : List Nat) (n : Nat) : (s.transferGroup group n).kept = s.kept := by
  simp [State.transferGroup]
@[simp] theorem State.tickStart_kept (s : State) (n : Nat) : (s.tickStart n).kept = s.kept := by simp [State.tickStart]
@[simp] theorem State.discTick_kept (s : State) (n : Nat) : (s.discTick n).kept = s.kept := by simp [State.discTick]
@[simp] theorem State.program_kept (s : State) (n : Nat) : (s.program n).kept = s.kept := by
  unfold State.program
  split <;> simp
@[simp] theorem State.runProgram_kept (s : State) (n : Nat) : (s.runProgram n).kept = s.kept := by simp [State.runProgram]
@[simp] theorem State.tracStart_kept (s : State) (n : Nat) : (s.tracStart n).kept = s.kept := by simp [State.tracStart]
@[simp] theorem State.programStart_kept (s : State) (n : Nat) : (s.programStart n).kept = s.kept := by
  unfold State.programStart
  split <;> simp
@[simp] theorem State.returnEngine_kept (s : State) (n : Nat) : (s.returnEngine n).kept = s.kept := by simp [State.returnEngine]
@[simp] theorem State.startNow_kept (s : State) (n : Nat) : (s.startNow n).kept = s.kept := by simp [State.startNow]
@[simp] theorem State.startEngine_kept (s : State) (n : Nat) : (s.startEngine n).kept = s.kept := by simp [State.startEngine]
@[simp] theorem State.stopOrRestart_kept (s : State) (n : Nat) : (s.stopOrRestart n).kept = s.kept := by simp [State.stopOrRestart]
@[simp] theorem State.cbcStrobe_kept (s : State) (n : Nat) : (s.cbcStrobe n).kept = s.kept := by simp [State.cbcStrobe]
@[simp] theorem execFeTick_answers (n : Nat) (s : State) : AnswersFrom s (execFeTick n s) := by simp [execFeTick]
@[simp] theorem State.abortTick_kept (s : State) (n : Nat) : (s.abortTick n).kept = s.kept := by simp [State.abortTick]
@[simp] theorem execTickOverrun_answers (n : Nat) (s : State) : AnswersFrom s (execTickOverrun n s) := by simp [execTickOverrun]
@[simp] theorem State.divNote_kept (s : State) (unit cause when_ main checker : Nat) : (s.divNote unit cause when_ main checker).kept = s.kept := by
  simp [State.divNote]
@[simp] theorem State.feDiverge_kept (s : State) (n cause main checker : Nat) : (s.feDiverge n cause main checker).kept = s.kept := by
  simp [State.feDiverge]
@[simp] theorem State.releaseEvt_kept (s : State) (n : Nat) (v : EvtReq) : (s.releaseEvt n v).kept = s.kept := by simp [State.releaseEvt]
@[simp] theorem State.arrive_kept (s : State) (c : StageCmd) : (s.arrive c).kept = s.kept := by simp [State.arrive]
@[simp] theorem State.programRelease_kept (s : State) (n : Nat) : (s.programRelease n).kept = s.kept := by
  unfold State.programRelease
  split <;> simp
@[simp] theorem State.emuTheta_kept (s : State) (n : Nat) : (s.emuTheta n).kept = s.kept := by simp [State.emuTheta]
@[simp] theorem State.completeSetpoints_kept (s : State) (n : Nat) : (s.completeSetpoints n).kept = s.kept := by simp [State.completeSetpoints]
@[simp] theorem State.release_kept (s : State) (n : Nat) : (s.release n).kept = s.kept := by simp [State.release]
@[simp] theorem State.loadCycle_kept (s : State) (n cycle : Nat) : (s.loadCycle n cycle).kept = s.kept := by simp [State.loadCycle]
@[simp] theorem State.feCanary_kept (s : State) (n : Nat) (g : GateIn) : (s.feCanary n g).kept = s.kept := by simp [State.feCanary]
@[simp] theorem execCommit_answers (n cycle : Nat) (g : GateIn) (s : State) : AnswersFrom s (execCommit n cycle g s) := by
  simp only [execCommit]
  repeat' split
  all_goals simp
@[simp] theorem execFeRunStart_answers (w : Writer) (n : Nat) (s0 : State) : AnswersFrom s0 (execFeRunStart w n s0) := by simp [execFeRunStart]
@[simp] theorem State.askStop_kept (s : State) (n : Nat) : (s.askStop n).kept = s.kept := by simp [State.askStop]
@[simp] theorem execFeRunStop_answers (w : Writer) (n : Nat) (s0 : State) : AnswersFrom s0 (execFeRunStop w n s0) := by simp [execFeRunStop]
@[simp] theorem State.entryTo_kept (s : State) (n entry : Nat) : (s.entryTo n entry).kept = s.kept := by simp [State.entryTo]
@[simp] theorem execFeEntryWrite_answers (w : Writer) (n entry : Nat) (s0 : State) : AnswersFrom s0 (execFeEntryWrite w n entry s0) := by
  simp [execFeEntryWrite]
@[simp] theorem execFePstageHold_answers (w : Writer) (n : Nat) (hold : Bool) (s0 : State) : AnswersFrom s0 (execFePstageHold w n hold s0) := by
  simp [execFePstageHold]
@[simp] theorem State.paramTo_kept (s : State) (w : Writer) (n p : Nat) (v : Word) : (s.paramTo w n p v).kept = s.kept := by simp [State.paramTo]
@[simp] theorem execFeParamWrite_answers (w : Writer) (n p : Nat) (vs : List Word) (s0 : State) :
    AnswersFrom s0 (execFeParamWrite w n p vs s0) := by simp [execFeParamWrite]
@[simp] theorem State.loopTo_kept (s : State) (w : Writer) (n a : Nat) (v : Word) : (s.loopTo w n a v).kept = s.kept := by simp [State.loopTo]
@[simp] theorem execFeLoopStoreWrite_answers (w : Writer) (n a : Nat) (v : Word) (s0 : State) :
    AnswersFrom s0 (execFeLoopStoreWrite w n a v s0) := by simp [execFeLoopStoreWrite]

/-! ### Sys2Proof/Machine/Discovery.lean -/

@[simp] theorem State.loadEngine_kept (s : State) (n : Nat) : (s.loadEngine n).kept = s.kept := by simp [State.loadEngine]
@[simp] theorem State.loadVendor_kept (s : State) (n : Nat) : (s.loadVendor n).kept = s.kept := by simp [State.loadVendor]
@[simp] theorem State.loadEngines_kept (s : State) : s.loadEngines.kept = s.kept := by simp [State.loadEngines]
@[simp] theorem State.takeMeas_kept (s : State) (l : List (Nat × DiscMeas)) (ok : Nat → Bool) : (s.takeMeas l ok).kept = s.kept := by
  simp [State.takeMeas]
@[simp] theorem State.discLink_kept (s : State) : s.discLink.kept = s.kept := by simp [State.discLink]
@[simp] theorem State.readCap_kept (s : State) (h cap : Nat) : (s.readCap h cap).kept = s.kept := by simp [State.readCap]
@[simp] theorem State.configDriver_kept (s : State) (h : Nat) : (s.configDriver h).kept = s.kept := by simp [State.configDriver]
@[simp] theorem State.discEngine_kept (s : State) (n : Nat) : (s.discEngine n).kept = s.kept := by simp [State.discEngine]
@[simp] theorem State.discStart_kept (s : State) (meas : List (Nat × DiscMeas)) : (s.discStart meas).kept = s.kept := by simp [State.discStart]
@[simp] theorem execDiscoverStart_answers (meas : List (Nat × DiscMeas)) (s : State) : AnswersFrom s (execDiscoverStart meas s) := by
  simp [execDiscoverStart]
@[simp] theorem execDiscLinkWaitExpiry_answers (s : State) : AnswersFrom s (execDiscLinkWaitExpiry s) := by simp [execDiscLinkWaitExpiry]
@[simp] theorem State.gateDelay_kept (s : State) (h : Nat) (m : DiscMeas) : (s.gateDelay h m).kept = s.kept := by simp [State.gateDelay]
@[simp] theorem State.gateDelays_kept (s : State) : s.gateDelays.kept = s.kept :=
  State.each_kept (fun t h => by split <;> simp) _ _
@[simp] theorem State.judgeItem_kept (s : State) (n : Nat) : (s.judgeItem n).kept = s.kept := by
  unfold State.judgeItem
  split <;> simp
@[simp] theorem State.windings_kept (s : State) (meas : List (Nat × DiscMeas)) (emf : List Nat) : (s.windings meas emf).kept = s.kept := by
  simp [State.windings]
@[simp] theorem State.discFlags_kept (s : State) : s.discFlags.kept = s.kept := by simp [State.discFlags]
@[simp] theorem State.discJudge_kept (s : State) (meas : List (Nat × DiscMeas)) (emf : List Nat) : (s.discJudge meas emf).kept = s.kept := by
  simp [State.discJudge]
@[simp] theorem execDiscoverEnd_answers (meas : List (Nat × DiscMeas)) (emf : List Nat) (s : State) :
    AnswersFrom s (execDiscoverEnd meas emf s) := by
  simp only [execDiscoverEnd]
  repeat' split
  all_goals simp
@[simp] theorem execDiscRun_answers (c : Cmd) (meas : List (Nat × DiscMeas)) (s0 : State) : AnswersFrom s0 (execDiscRun c meas s0) := by
  simp [execDiscRun]
@[simp] theorem execDiscAdopt_answers (c : Cmd) (s0 : State) : AnswersFrom s0 (execDiscAdopt c s0) := by simp [execDiscAdopt]
@[simp] theorem execDiscRead_answers (c : Cmd) (s0 : State) : AnswersFrom s0 (execDiscRead c s0) := by simp [execDiscRead]

/-! ### Sys2Proof/Machine/DcLink.lean -/

@[simp] theorem State.setChop_kept (s : State) (on : Bool) : (s.setChop on).kept = s.kept := by
  simp only [State.setChop]
  repeat' split
  all_goals simp
@[simp] theorem State.chopHold_kept (s : State) : s.chopHold.kept = s.kept := by simp [State.chopHold]
@[simp] theorem State.chopSample_kept (s : State) (code : Nat) : (s.chopSample code).kept = s.kept := by simp [State.chopSample]
@[simp] theorem execChopperBudget_answers (s : State) : AnswersFrom s (execChopperBudget s) := by simp [execChopperBudget]
@[simp] theorem State.dclTell_kept (s : State) : s.dclTell.kept = s.kept := by simp [State.dclTell]
@[simp] theorem State.uvSample_kept (s : State) (code : Nat) : (s.uvSample code).kept = s.kept := by simp [State.uvSample]
@[simp] theorem State.ov2Sample_kept (s : State) (code : Nat) : (s.ov2Sample code).kept = s.kept := by simp [State.ov2Sample]
@[simp] theorem State.ov3Sample_kept (s : State) (code : Nat) : (s.ov3Sample code).kept = s.kept := by simp [State.ov3Sample]
@[simp] theorem State.dischargeSample_kept (s : State) (code : Nat) : (s.dischargeSample code).kept = s.kept := by
  unfold State.dischargeSample
  split <;> simp
@[simp] theorem State.battSample_kept (s : State) (code : Nat) : (s.battSample code).kept = s.kept := by simp [State.battSample]
@[simp] theorem execDclMonitorSample_answers (code : Nat) (s : State) : AnswersFrom s (execDclMonitorSample code s) := by
  simp [execDclMonitorSample]
@[simp] theorem execOv2Restore_answers (s : State) : AnswersFrom s (execOv2Restore s) := by simp [execOv2Restore]
@[simp] theorem execDclMonCompare_answers (s : State) : AnswersFrom s (execDclMonCompare s) := by simp [execDclMonCompare]
@[simp] theorem State.followChoice_kept (s : State) (n : Nat) (asc : Bool) : (s.followChoice n asc).kept = s.kept := by simp [State.followChoice]
@[simp] theorem execSelectorEvaluation_answers (s : State) : AnswersFrom s (execSelectorEvaluation s) := by simp [execSelectorEvaluation]
@[simp] theorem State.ov3Release_kept (s : State) : s.ov3Release.kept = s.kept := by simp [State.ov3Release]
@[simp] theorem execOv3LatchRelease_answers (s : State) : AnswersFrom s (execOv3LatchRelease s) := by simp [execOv3LatchRelease]
@[simp] theorem execDclQuery_answers (c : Cmd) (s0 : State) : AnswersFrom s0 (execDclQuery c s0) := by simp [execDclQuery]
@[simp] theorem execDclDischarge_answers (c : Cmd) (s0 : State) : AnswersFrom s0 (execDclDischarge c s0) := by simp [execDclDischarge]
@[simp] theorem State.endDischarge_kept (s : State) (st : Status) : (s.endDischarge st).kept = s.kept := by
  unfold State.endDischarge
  split <;> simp
@[simp] theorem State.chopTest_kept (s : State) (drop : Nat) (fault : Bool) : (s.chopTest drop fault).1.kept = s.kept := by
  simp only [State.chopTest]
  split <;> simp
@[simp] theorem execChopTest_answers (c : Cmd) (drop : Nat) (fault : Bool) (s0 : State) : AnswersFrom s0 (execChopTest c drop fault s0) := by
  simp [execChopTest]

/-! ### Sys2Proof/Machine/Tally.lean -/

@[simp] theorem State.tallyFail_kept (s : State) (k c cause : Nat) : (s.tallyFail k c cause).kept = s.kept := by
  simp only [State.tallyFail]
  repeat' split
  all_goals simp
@[simp] theorem State.judgeSafe_kept (s : State) (k c : Nat) (bs : List Byte) (at_ : Time) : (s.judgeSafe k c bs at_).kept = s.kept := by
  unfold State.judgeSafe
  split <;> simp
@[simp] theorem State.tallyAccept_kept (s : State) (k c gap sq : Nat) (payload : List Byte) (at_ : Time) :
    (s.tallyAccept k c gap sq payload at_).kept = s.kept := by simp [State.tallyAccept]
@[simp] theorem State.judgeOpen_kept (s : State) (k c : Nat) (bs : List Byte) (at_ : Time) : (s.judgeOpen k c bs at_).kept = s.kept := by
  unfold State.judgeOpen
  split <;> simp
@[simp] theorem State.judgeFrame_kept (s : State) (k : Nat) (f : TallyFrame) : (s.judgeFrame k f).kept = s.kept := by
  unfold State.judgeFrame
  dsimp only
  split
  · next t h => exact State.kept_of_pair (s.readStall_kept ..) h
  · next t bs h => simp [State.kept_of_pair (s.readStall_kept ..) h]
@[simp] theorem State.tallyFree_kept (s : State) : s.tallyFree.kept = s.kept := by simp [State.tallyFree]
@[simp] theorem State.tallyDeadline_kept (s : State) (k c : Nat) : (s.tallyDeadline k c).kept = s.kept := by simp [State.tallyDeadline]
@[simp] theorem State.tallyScan_kept (s : State) (k : Nat) : (s.tallyScan k).kept = s.kept := by simp [State.tallyScan]
@[simp] theorem execTallyWatchdogExpiry_answers (pair c : Nat) (s : State) : AnswersFrom s (execTallyWatchdogExpiry pair c s) := by
  simp [execTallyWatchdogExpiry]
@[simp] theorem State.tallyArrive_kept (s : State) (c path : Nat) (bs : List Byte) : (s.tallyArrive c path bs).kept = s.kept := by
  unfold State.tallyArrive
  dsimp only
  split
  · next t h => exact State.kept_of_pair (s.takeStall_kept _) h
  · next t n h => simp [State.kept_of_pair (s.takeStall_kept _) h]
@[simp] theorem State.sendFrame_kept (s : State) (f : OutFrame) : (s.sendFrame f).kept = s.kept := by simp [State.sendFrame]
@[simp] theorem State.releaseFrames_kept (s : State) (k : Nat) : (s.releaseFrames k).kept = s.kept := by simp [State.releaseFrames]
@[simp] theorem State.glCount_kept (s : State) (path : Nat) : (s.glCount path).kept = s.kept := by simp [State.glCount]
@[simp] theorem execTallyTransmit_answers (c : Nat) (s : State) : AnswersFrom s (execTallyTransmit c s) := by simp [execTallyTransmit]
@[simp] theorem State.tallyCfgPut_kept (s : State) (c : Nat) (v : Word) : (s.tallyCfgPut c v).kept = s.kept := by simp [State.tallyCfgPut]
@[simp] theorem State.tallyWrite_kept (s : State) (w : Writer) (c : Nat) (v : Word) : (s.tallyWrite w c v).kept = s.kept := by
  simp [State.tallyWrite]
@[simp] theorem execTallyEnable_answers (w : Writer) (c : Nat) (v : Word) (s0 : State) : AnswersFrom s0 (execTallyEnable w c v s0) := by
  simp [execTallyEnable]
@[simp] theorem execTallyRearm_answers (c : Cmd) (s0 : State) : AnswersFrom s0 (execTallyRearm c s0) := by simp [execTallyRearm]
@[simp] theorem execTallyTxSet_answers (c : Cmd) (s0 : State) : AnswersFrom s0 (execTallyTxSet c s0) := by simp [execTallyTxSet]
@[simp] theorem execTallyRead_answers (c : Cmd) (s0 : State) : AnswersFrom s0 (execTallyRead c s0) := by simp [execTallyRead]

/-! ### Sys2Proof/Machine/SafetyIo.lean -/

@[simp] theorem State.setSin_kept (s : State) (n : Nat) (x : Sin) : (s.setSin n x).kept = s.kept := by simp [State.setSin]
@[simp] theorem State.setSout_kept (s : State) (n : Nat) (x : Sout) : (s.setSout n x).kept = s.kept := by simp [State.setSout]
@[simp] theorem State.soutVerdict_kept (s : State) (n : Nat) (low high : Bool) : (s.soutVerdict n low high).kept = s.kept := by
  simp [State.soutVerdict]
@[simp] theorem State.soutCommand_kept (s : State) (n : Nat) (on : Bool) : (s.soutCommand n on).kept = s.kept := by simp [State.soutCommand]
@[simp] theorem State.refreshSout_kept (s : State) : s.refreshSout.kept = s.kept := by simp [State.refreshSout]
@[simp] theorem State.soutPulse_kept (s : State) (n : Nat) : (s.soutPulse n).kept = s.kept := by simp [State.soutPulse]
@[simp] theorem execSoutTestPulse_answers (n : Nat) (s : State) : AnswersFrom s (execSoutTestPulse n s) := by simp [execSoutTestPulse]
@[simp] theorem State.soutOwed_kept (s : State) : s.soutOwed.kept = s.kept := by simp [State.soutOwed]
@[simp] theorem execSoutTestPulseEnd_answers (n : Nat) (low : Bool) (s : State) : AnswersFrom s (execSoutTestPulseEnd n low s) := by
  simp [execSoutTestPulseEnd]
@[simp] theorem execSoutTestJudge_answers (n : Nat) (high : Bool) (s : State) : AnswersFrom s (execSoutTestJudge n high s) := by
  simp [execSoutTestJudge]
@[simp] theorem execSoutReadbackFault_answers (n : Nat) (s : State) : AnswersFrom s (execSoutReadbackFault n s) := by simp [execSoutReadbackFault]
@[simp] theorem State.hwForces_kept (s : State) : s.hwForces.kept = s.kept := by simp [State.hwForces]
@[simp] theorem State.fastFire_kept (s : State) (n : Nat) : (s.fastFire n).kept = s.kept := by simp [State.fastFire]
@[simp] theorem State.fastEnd_kept (s : State) (n : Nat) : (s.fastEnd n).kept = s.kept := by simp [State.fastEnd]
@[simp] theorem State.fastClear_kept (s : State) (v : Word) : (s.fastClear v).kept = s.kept := by simp [State.fastClear]
@[simp] theorem execFastClear_answers (w : Writer) (v : Word) (s0 : State) : AnswersFrom s0 (execFastClear w v s0) := by simp [execFastClear]
@[simp] theorem State.demandRefresh_kept (s : State) (n : Nat) : (s.demandRefresh n).kept = s.kept := by simp [State.demandRefresh]
@[simp] theorem State.discChange_kept (s : State) (n : Nat) (b : Bool) : (s.discChange n b).kept = s.kept := by simp [State.discChange]
@[simp] theorem execSinContactChange_answers (n : Nat) (b level : Bool) (s : State) : AnswersFrom s (execSinContactChange n b level s) := by
  simp [execSinContactChange]
@[simp] theorem execSinFiltered_answers (n : Nat) (b : Bool) (s : State) : AnswersFrom s (execSinFiltered n b s) := by simp [execSinFiltered]
@[simp] theorem execSinDiscrepancy_answers (n : Nat) (s : State) : AnswersFrom s (execSinDiscrepancy n s) := by
  simp only [execSinDiscrepancy]
  split <;> simp
@[simp] theorem State.tableUnit_kept (s : State) (k u : Nat) (now : Bool) : (s.tableUnit k u now).kept = s.kept := by simp [State.tableUnit]
@[simp] theorem State.scanOutputs_kept (s : State) (k : Nat) (x : Scan) : (s.scanOutputs k x).kept = s.kept := by simp [State.scanOutputs]
@[simp] theorem State.scanPark_kept (s : State) (k : Nat) (x : Scan) : (s.scanPark k x).kept = s.kept := by simp [State.scanPark]
@[simp] theorem execSafetyScan_answers (pair : Nat) (s : State) : AnswersFrom s (execSafetyScan pair s) := by simp [execSafetyScan]
@[simp] theorem execSafetyRowTimerExpiry_answers (pair row : Nat) (s : State) : AnswersFrom s (execSafetyRowTimerExpiry pair row s) := by
  simp [execSafetyRowTimerExpiry]
@[simp] theorem State.soutRelease_kept (s : State) (k : Nat) : (s.soutRelease k).kept = s.kept := by simp [State.soutRelease]
@[simp] theorem execWardenKick_answers (pair : Nat) (s : State) : AnswersFrom s (execWardenKick pair s) := by simp [execWardenKick]
@[simp] theorem State.latchFire_kept (s : State) (cause : Nat) : (s.latchFire cause).kept = s.kept := by
  simp -implicitDefEqProofs [State.latchFire]
@[simp] theorem execSafeLatchFire_answers (s : State) : AnswersFrom s (execSafeLatchFire s) := by simp [execSafeLatchFire]
@[simp] theorem State.loadTable_kept (s : State) (t : List Nat) : (s.loadTable t).kept = s.kept := by simp [State.loadTable]
@[simp] theorem execSafeTableWrite_answers (c : Cmd) (s0 : State) : AnswersFrom s0 (execSafeTableWrite c s0) := by simp [execSafeTableWrite]
@[simp] theorem execSafeIoStatus_answers (c : Cmd) (s0 : State) : AnswersFrom s0 (execSafeIoStatus c s0) := by simp [execSafeIoStatus]

/-! ### Sys2Proof/Machine/Store.lean -/

@[simp] theorem State.answer_kept (s : State) (resp data : Nat) : (s.answer resp data).kept = s.kept := by simp [State.answer]
@[simp] theorem State.upset_kept (s : State) (o : Nat) (e : EccHit) : (s.upset o e).kept = s.kept := by simp [State.upset]
@[simp] theorem State.serve_kept (s : State) (a : Access) (e : EccHit) : (s.serve a e).kept = s.kept := by
  unfold State.serve
  dsimp only
  split
  · simp
  · split
    · next t h => simpa using State.kept_of_pair (State.checkWord_kept ..) h
    · next t h => simpa using State.kept_of_pair (State.checkWord_kept ..) h
@[simp] theorem State.otherWrite_kept (s : State) (a : Access) (x : Side) : (s.otherWrite a x).kept = s.kept := by simp [State.otherWrite]
@[simp] theorem State.busy_kept (s : State) : s.busy.kept = s.kept := by simp [State.busy]
@[simp] theorem State.collide_kept (s : State) : s.collide.kept = s.kept := by simp [State.collide]
@[simp] theorem State.serveBoth_kept (s : State) (a : Access) : (s.serveBoth a).kept = s.kept := by
  unfold State.serveBoth
  split <;> simp
@[simp] theorem State.regionRefused_kept (s : State) (a : Access) : (s.regionRefused a).kept = s.kept := by simp [State.regionRefused]
@[simp] theorem State.bankOff_kept (s : State) : s.bankOff.kept = s.kept := by simp [State.bankOff]
@[simp] theorem State.sectorWritten_kept (s : State) (a : Nat) : (s.sectorWritten a).kept = s.kept := by simp [State.sectorWritten]
@[simp] theorem State.fwWrite_kept (s : State) : s.fwWrite.kept = s.kept := by simp [State.fwWrite]
@[simp] theorem State.mramUpset_kept (s : State) (a flips : Nat) : (s.mramUpset a flips).kept = s.kept := by simp [State.mramUpset]
@[simp] theorem State.mramChecked_kept (s : State) (a : Nat) : (s.mramChecked a).kept = s.kept := by
  unfold State.mramChecked
  split <;> simp
@[simp] theorem State.mramWrite_kept (s : State) (a n v : Nat) : (s.mramWrite a n v).kept = s.kept := by simp [State.mramWrite]
@[simp] theorem State.mramAccess_kept (s0 : State) (a : Access) : (s0.mramAccess a).kept = s0.kept := by simp [State.mramAccess]
@[simp] theorem State.nextWindow_kept (s : State) : s.nextWindow.kept = s.kept := by simp [State.nextWindow]
@[simp] theorem State.abortWindow_kept (s : State) (w : Nat) : (s.abortWindow w).kept = s.kept := by
  simp -implicitDefEqProofs [State.abortWindow]
@[simp] theorem State.meetWindow_kept (s : State) (o : Nat) (portD : Bool) : (s.meetWindow o portD).kept = s.kept := by
  unfold State.meetWindow
  split <;> simp
@[simp] theorem State.sramAccess_kept (s : State) (a : Access) : (s.sramAccess a).kept = s.kept := by simp [State.sramAccess]
@[simp] theorem execSramAccess_answers (a : Access) (s : State) : AnswersFrom s (execSramAccess a s) := by simp [execSramAccess]
@[simp] theorem State.lockedOut_kept (s : State) (a : Access) : (s.lockedOut a).kept = s.kept := by
  unfold State.lockedOut
  split <;> simp
@[simp] theorem State.atomic_kept (s : State) (a : Access) (f : Nat → Nat) : (s.atomic a f).kept = s.kept := by
  unfold State.atomic
  dsimp only
  iterate 5
    split
    · simp
  split
  · next t h => simp [State.kept_of_pair (State.checkWord_kept ..) h]
  · next t h => simp [State.kept_of_pair (State.checkWord_kept ..) h]
@[simp] theorem execAadd_answers (a : Access) (s : State) : AnswersFrom s (execAadd a s) := by simp [execAadd]
@[simp] theorem execAswp_answers (a : Access) (s : State) : AnswersFrom s (execAswp a s) := by simp [execAswp]
@[simp] theorem execBankPowerRequest_answers (w : Writer) (k : Nat) (v : Word) (s0 : State) : AnswersFrom s0 (execBankPowerRequest w k v s0) := by
  simp [execBankPowerRequest]
@[simp] theorem execBankIdleRetention_answers (bank : Nat) (s : State) : AnswersFrom s (execBankIdleRetention bank s) := by
  simp [execBankIdleRetention]
@[simp] theorem State.track_kept (s : State) (o : Nat) : (s.track o).kept = s.kept := by
  simp only [State.track]
  split <;> simp
@[simp] theorem State.scrubWord_kept (s : State) (o addr : Nat) : (s.scrubWord o addr).kept = s.kept := by simp [State.scrubWord]
@[simp] theorem execScrubLine_answers (found : List EccHit) (s : State) : AnswersFrom s (execScrubLine found s) := by simp [execScrubLine]
@[simp] theorem execScrubPriorityWriteback_answers (s : State) : AnswersFrom s (execScrubPriorityWriteback s) := by
  unfold execScrubPriorityWriteback
  split <;> simp
@[simp] theorem execTrackerEntryExpiry_answers (word : Nat) (s : State) : AnswersFrom s (execTrackerEntryExpiry word s) := by
  simp [execTrackerEntryExpiry]
@[simp] theorem State.copyRow_kept (s : State) (b r : Nat) : (s.copyRow b r).kept = s.kept := by simp [State.copyRow]
@[simp] theorem State.repair_kept (s : State) (o cause : Nat) : (s.repair o cause).kept = s.kept := by simp [State.repair]
@[simp] theorem execRowRepair_answers (word cause : Nat) (s : State) : AnswersFrom s (execRowRepair word cause s) := by simp [execRowRepair]
@[simp] theorem execBgtWindowStep_answers (ends : Bool) (fails : Option Nat) (s : State) : AnswersFrom s (execBgtWindowStep ends fails s) := by
  unfold execBgtWindowStep
  repeat' split
  all_goals simp
@[simp] theorem execMramDailyRead_answers (addr flips : Nat) (s : State) : AnswersFrom s (execMramDailyRead addr flips s) := by
  simp [execMramDailyRead]

/-! ### Sys2Proof/Machine/PairOps.lean -/

@[simp] theorem State.setWarden_kept (s : State) (k : Nat) (w : Warden) : (s.setWarden k w).kept = s.kept := by simp [State.setWarden]
@[simp] theorem State.pairsChanged_kept (s : State) : s.pairsChanged.kept = s.kept := by simp [State.pairsChanged]
@[simp] theorem State.dropTurnstile_kept (s : State) (k : Nat) : (s.dropTurnstile k).kept = s.kept := by simp [State.dropTurnstile]
@[simp] theorem State.pairJoins_kept (s : State) (k : Nat) : (s.pairJoins k).kept = s.kept := by simp [State.pairJoins]
@[simp] theorem State.dbgEnd_kept (s : State) (t : Nat) : (s.dbgEnd t).kept = s.kept := by simp [State.dbgEnd]
@[simp] theorem State.dbgShow_kept (s : State) : s.dbgShow.kept = s.kept := by simp [State.dbgShow]
@[simp] theorem State.replayed_kept (s : State) (k : Nat) : (s.replayed k).kept = s.kept := by simp [State.replayed]
@[simp] theorem State.wardenDiverge_kept (s : State) (k cause main checker : Nat) : (s.wardenDiverge k cause main checker).kept = s.kept := by
  simp only [State.wardenDiverge]
  split <;> simp
@[simp] theorem State.splitA_kept (s : State) : s.splitA.kept = s.kept := by
  simp -implicitDefEqProofs [State.splitA]
@[simp] theorem State.rejoinA_kept (s : State) (good : Bool) : (s.rejoinA good).kept = s.kept := by simp [State.rejoinA]
@[simp] theorem State.pairCtrl_answers (s : State) (c : Cmd) (good : Bool) : AnswersFrom s (s.pairCtrl c good) := by simp [State.pairCtrl]
@[simp] theorem execPairSplit_answers (c : Cmd) (s0 : State) : AnswersFrom s0 (execPairSplit c s0) := by simp [execPairSplit]
@[simp] theorem execPairRejoin_answers (c : Cmd) (good : Bool) (s0 : State) : AnswersFrom s0 (execPairRejoin c good s0) := by simp [execPairRejoin]
@[simp] theorem execPairStatus_answers (c : Cmd) (s0 : State) : AnswersFrom s0 (execPairStatus c s0) := by simp [execPairStatus]
@[simp] theorem State.coreMiss_kept (s : State) (j : Nat) : (s.coreMiss j).kept = s.kept := by simp [State.coreMiss]
@[simp] theorem State.checkIn_kept (s : State) (w : Writer) (j : Nat) (v : Word) : (s.checkIn w j v).kept = s.kept := by simp [State.checkIn]
@[simp] theorem execPairCheckin_answers (w : Writer) (j : Nat) (v : Word) (s0 : State) : AnswersFrom s0 (execPairCheckin w j v s0) := by
  simp [execPairCheckin]
@[simp] theorem execSupervisionMiss_answers (j : Nat) (s : State) : AnswersFrom s (execSupervisionMiss j s) := by simp [execSupervisionMiss]
@[simp] theorem State.engineDiverge_kept (s : State) (n cause main checker : Nat) : (s.engineDiverge n cause main checker).kept = s.kept := by
  simp [State.engineDiverge]
@[simp] theorem execDivergence_answers (unit cause main checker : Nat) (s : State) : AnswersFrom s (execDivergence unit cause main checker s) := by
  simp [execDivergence]
@[simp] theorem State.dbgRefuse_kept (s : State) : s.dbgRefuse.kept = s.kept := by simp [State.dbgRefuse]
@[simp] theorem State.replayAct_kept (s : State) (t kind addr : Nat) (data : Word) : (s.replayAct t kind addr data).kept = s.kept := by
  simp [State.replayAct]
@[simp] theorem State.dbgSelect_kept (s : State) (t : Nat) : (s.dbgSelect t).1.kept = s.kept := by
  unfold State.dbgSelect
  split <;> simp
@[simp] theorem State.dbgHalt_kept (s : State) (t : Nat) : (s.dbgHalt t).kept = s.kept := by simp [State.dbgHalt]
@[simp] theorem State.dbgStep_kept (s : State) (t : Nat) : (s.dbgStep t).kept = s.kept := by simp [State.dbgStep]
@[simp] theorem State.dbgResume_kept (s : State) (t : Nat) : (s.dbgResume t).kept = s.kept := by simp [State.dbgResume]
@[simp] theorem State.dbgCtrl_kept (s : State) (w : Writer) (t : Nat) (act : State → Nat → State) (h : ∀ u k, (act u k).kept = u.kept) :
    (s.dbgCtrl w t act).kept = s.kept := by
  unfold State.dbgCtrl
  split
  · rfl
  · split
    · next u hu => simp [h, State.kept_of_pair (s.dbgSelect_kept _) hu]
    · next u hu => exact State.kept_of_pair (s.dbgSelect_kept _) hu
@[simp] theorem execDbgHalt_answers (w : Writer) (t : Nat) (s0 : State) : AnswersFrom s0 (execDbgHalt w t s0) := by simp [execDbgHalt]
@[simp] theorem execDbgStep_answers (w : Writer) (t : Nat) (s0 : State) : AnswersFrom s0 (execDbgStep w t s0) := by simp [execDbgStep]
@[simp] theorem execDbgResume_answers (w : Writer) (t : Nat) (s0 : State) : AnswersFrom s0 (execDbgResume w t s0) := by simp [execDbgResume]
@[simp] theorem State.dbgAccess_kept (s : State) (t : Nat) (write : Bool) (v : Word) : (s.dbgAccess t write v).kept = s.kept := by
  simp [State.dbgAccess]
@[simp] theorem execDbgMemRead_answers (s : State) : AnswersFrom s (execDbgMemRead s) := by simp [execDbgMemRead]
@[simp] theorem State.dbgMemWrite_kept (s : State) (w : Writer) (v : Word) : (s.dbgMemWrite w v).kept = s.kept := by simp [State.dbgMemWrite]
@[simp] theorem execDbgMemWrite_answers (w : Writer) (v : Word) (s0 : State) : AnswersFrom s0 (execDbgMemWrite w v s0) := by simp [execDbgMemWrite]
@[simp] theorem execDbgRegRead_answers (s : State) : AnswersFrom s (execDbgRegRead s) := by simp [execDbgRegRead]
@[simp] theorem State.dbgRegWrite_kept (s : State) (w : Writer) (v : Word) : (s.dbgRegWrite w v).kept = s.kept := by simp [State.dbgRegWrite]
@[simp] theorem execDbgRegWrite_answers (w : Writer) (v : Word) (s0 : State) : AnswersFrom s0 (execDbgRegWrite w v s0) := by simp [execDbgRegWrite]

/-! ### Sys2Proof/Machine/Ledger.lean -/

@[simp] theorem State.logDropped_kept (s : State) : s.logDropped.kept = s.kept := by simp [State.logDropped]
@[simp] theorem State.logRec_kept (s : State) (r : Rec) : (s.logRec r).kept = s.kept := by
  unfold State.logRec
  repeat' split
  all_goals simp
@[simp] theorem State.tellDrop_kept (s : State) : s.tellDrop.kept = s.kept := by simp [State.tellDrop]
@[simp] theorem State.ledgerDrain_kept (s : State) : s.ledgerDrain.kept = s.kept := by
  unfold State.ledgerDrain
  split <;> simp
@[simp] theorem execLedgerMramWrite_answers (s : State) : AnswersFrom s (execLedgerMramWrite s) := by simp [execLedgerMramWrite]
@[simp] theorem State.report_kept (s : State) (r : Rec) : (s.report r).kept = s.kept := by simp [State.report]
@[simp] theorem State.recaptureEnd_kept (s : State) (u : Nat) : (s.recaptureEnd u).kept = s.kept := by simp [State.recaptureEnd]
@[simp] theorem State.noteAct_kept (s : State) (r : Rec) : (s.noteAct r).kept = s.kept := by simp [State.noteAct]
@[simp] theorem State.degradeAct_kept (s : State) (r : Rec) : (s.degradeAct r).kept = s.kept := by simp [State.degradeAct]
@[simp] theorem State.recAct_kept (s : State) (r : Rec) : (s.recAct r).kept = s.kept := by simp [State.recAct]
@[simp] theorem State.showQueue_kept (s : State) : s.showQueue.kept = s.kept := by simp [State.showQueue]
@[simp] theorem State.preempt_kept (s : State) (sev : Nat) : (s.preempt sev).kept = s.kept := by
  unfold State.preempt
  split <;> simp
@[simp] theorem State.enqueue_kept (s : State) (r : Rec) : (s.enqueue r).kept = s.kept := by simp [State.enqueue]
@[simp] theorem State.receive_kept (s : State) (r : Rec) : (s.receive r).kept = s.kept := by simp [State.receive]
@[simp] theorem State.receiveReset_kept (s : State) (r : Rec) (written : Nat) : (s.receiveReset r written).kept = s.kept := by
  simp [State.receiveReset]
@[simp] theorem State.raiseIn_kept (s : State) (x : RecIn) : (s.raiseIn x).kept = s.kept := by simp [State.raiseIn]
@[simp] theorem execLedgerRecord_answers (r : Option RecIn) (written : Nat) (s0 : State) : AnswersFrom s0 (execLedgerRecord r written s0) := by
  simp only [execLedgerRecord]
  repeat' split
  all_goals simp
@[simp] theorem State.finishRec_kept (s : State) : s.finishRec.kept = s.kept := by
  unfold State.finishRec
  split <;> simp
@[simp] theorem State.startRecord_kept (s : State) : s.startRecord.kept = s.kept := by
  unfold State.startRecord
  split <;> simp
@[simp] theorem execLedgerRecordStart_answers (cut : Bool) (s : State) : AnswersFrom s (execLedgerRecordStart cut s) := by
  simp only [execLedgerRecordStart]
  repeat' split
  all_goals simp
@[simp] theorem State.receiveAll_kept (s : State) : s.receiveAll.kept = s.kept := by simp [State.receiveAll]
@[simp] theorem State.writeOut_kept (s : State) : s.writeOut.kept = s.kept := by simp [State.writeOut]
@[simp] theorem State.writeQueue_kept (s : State) : s.writeQueue.kept = s.kept := by simp [State.writeQueue]
@[simp] theorem State.issueAll_kept (s : State) : s.issueAll.kept = s.kept := by simp [State.issueAll]
@[simp] theorem State.commandReset_kept (s : State) : s.commandReset.kept = s.kept := by simp [State.commandReset]
@[simp] theorem execLogRead_answers (c : Cmd) (s0 : State) : AnswersFrom s0 (execLogRead c s0) := by simp [execLogRead]
@[simp] theorem execLogErase_answers (c : Cmd) (s0 : State) : AnswersFrom s0 (execLogErase c s0) := by simp [execLogErase]
@[simp] theorem execFaultClear_answers (c : Cmd) (s0 : State) : AnswersFrom s0 (execFaultClear c s0) := by simp [execFaultClear]
@[simp] theorem execCommAuth_answers (c : Cmd) (s0 : State) : AnswersFrom s0 (execCommAuth c s0) := by simp [execCommAuth]
@[simp] theorem execCommAuthExpiry_answers (s : State) : AnswersFrom s (execCommAuthExpiry s) := by
  unfold execCommAuthExpiry
  split <;> simp
@[simp] theorem execCommCheck_answers (c : Cmd) (s0 : State) : AnswersFrom s0 (execCommCheck c s0) := by simp [execCommCheck]
@[simp] theorem State.confirmSet_kept (s : State) (v : Word) : (s.confirmSet v).kept = s.kept := by
  simp -implicitDefEqProofs [State.confirmSet]
@[simp] theorem execCommConfirm_answers (c : Cmd) (s0 : State) : AnswersFrom s0 (execCommConfirm c s0) := by simp [execCommConfirm]

/-! ### Sys2Proof/Machine/Ownership.lean -/

@[simp] theorem State.ownerAgent_kept (s : State) : s.ownerAgent.kept = s.kept := by simp [State.ownerAgent]
@[simp] theorem State.changeOwner_kept (s : State) (m st prio : Nat) (nonce : Word) : (s.changeOwner m st prio nonce).kept = s.kept := by
  simp -implicitDefEqProofs [State.changeOwner]
@[simp] theorem State.handEvent_kept (s : State) (outcome : Nat) : (s.handEvent outcome).kept = s.kept := by simp [State.handEvent]
@[simp] theorem State.abortOp_kept (s : State) (o : Op) : (s.abortOp o).kept = s.kept := by simp [State.abortOp]
@[simp] theorem State.abortB_kept (s : State) (m : Nat) : (s.abortB m).kept = s.kept := by simp [State.abortB]
@[simp] theorem State.discardHeld_kept (s : State) (m : Nat) : (s.discardHeld m).kept = s.kept := by simp [State.discardHeld]
@[simp] theorem State.openWindow_kept (s : State) (barred : Option Nat) : (s.openWindow barred).kept = s.kept := by simp [State.openWindow]
@[simp] theorem State.seizeOwner_kept (s : State) (m : Nat) : (s.seizeOwner m).kept = s.kept := by simp [State.seizeOwner]
@[simp] theorem State.handOver_kept (s : State) : s.handOver.kept = s.kept := by simp [State.handOver]
@[simp] theorem State.revert_kept (s : State) : s.revert.kept = s.kept := by simp [State.revert]
@[simp] theorem State.ownerLost_kept (s : State) (cause : Nat) : (s.ownerLost cause).kept = s.kept := by simp [State.ownerLost]
@[simp] theorem State.hostGone_kept (s : State) (m : Nat) : (s.hostGone m).kept = s.kept := by simp [State.hostGone]
@[simp] theorem execOwnQuery_answers (c : Cmd) (s0 : State) : AnswersFrom s0 (execOwnQuery c s0) := by simp [execOwnQuery]
@[simp] theorem execOwnClaim_answers (c : Cmd) (s0 : State) : AnswersFrom s0 (execOwnClaim c s0) := by simp [execOwnClaim]
@[simp] theorem execOwnHandover_answers (c : Cmd) (s0 : State) : AnswersFrom s0 (execOwnHandover c s0) := by simp [execOwnHandover]
@[simp] theorem execOwnConfirm_answers (c : Cmd) (s0 : State) : AnswersFrom s0 (execOwnConfirm c s0) := by simp [execOwnConfirm]
@[simp] theorem execClaimWindowClose_answers (s : State) : AnswersFrom s (execClaimWindowClose s) := by
  simp only [execClaimWindowClose]
  repeat' split
  all_goals simp
@[simp] theorem State.pass_kept (s : State) : s.pass.kept = s.kept := by simp [State.pass]
@[simp] theorem State.tryPass_kept (s : State) : s.tryPass.kept = s.kept := by simp [State.tryPass]
@[simp] theorem execOwnershipPass_answers (s : State) : AnswersFrom s (execOwnershipPass s) := by simp [execOwnershipPass]
@[simp] theorem execStewardSuccessorConfirm_answers (s : State) : AnswersFrom s (execStewardSuccessorConfirm s) := by
  simp [execStewardSuccessorConfirm]
@[simp] theorem execHandoverHoldExpiry_answers (s : State) : AnswersFrom s (execHandoverHoldExpiry s) := by simp [execHandoverHoldExpiry]
@[simp] theorem execHandoverConfirmTimeout_answers (s : State) : AnswersFrom s (execHandoverConfirmTimeout s) := by
  simp [execHandoverConfirmTimeout]
@[simp] theorem State.beat_kept (s : State) (m : Nat) (v : Word) : (s.beat m v).kept = s.kept := by simp [State.beat]
@[simp] theorem execHeartbeat_answers (w : Writer) (m : Nat) (v : Word) (s0 : State) : AnswersFrom s0 (execHeartbeat w m v s0) := by
  simp [execHeartbeat]
@[simp] theorem execHeartbeatTimeout_answers (s : State) : AnswersFrom s (execHeartbeatTimeout s) := by simp [execHeartbeatTimeout]

/-! ### Sys2Proof/Machine/Links.lean -/

@[simp] theorem execPcieLinkUp_answers (port gen : Nat) (x2 : Bool) (s : State) : AnswersFrom s (execPcieLinkUp port gen x2 s) := by
  simp [execPcieLinkUp]
@[simp] theorem State.portDown_kept (s : State) (p : Nat) : (s.portDown p).kept = s.kept := by simp [State.portDown]
@[simp] theorem State.linkLoss_kept (s : State) (p : Nat) : (s.linkLoss p).kept = s.kept := by simp [State.linkLoss]
@[simp] theorem execPcieLinkDown_answers (port : Nat) (s : State) : AnswersFrom s (execPcieLinkDown port s) := by simp [execPcieLinkDown]
@[simp] theorem execPerstAssert_answers (port : Nat) (s : State) : AnswersFrom s (execPerstAssert port s) := by simp [execPerstAssert]
@[simp] theorem State.clockLost_kept (s : State) (clk : Nat) : (s.clockLost clk).kept = s.kept := by
  unfold State.clockLost
  split <;> simp
@[simp] theorem execClockMonitorTrip_answers (trips : Nat) (s : State) : AnswersFrom s (execClockMonitorTrip trips s) := by
  simp [execClockMonitorTrip]
@[simp] theorem State.toChannel_kept (s : State) (ch : Nat) (bs : List Byte) (drop : Fld) : (s.toChannel ch bs drop).kept = s.kept := by
  unfold State.toChannel
  split
  · next t h => exact State.kept_of_pair (s.storeFrame_kept ..) h
  · next t h => simp [State.kept_of_pair (s.storeFrame_kept ..) h]
@[simp] theorem State.toTally_kept (s : State) (c path : Nat) (bs : List Byte) (drop : Fld) : (s.toTally c path bs drop).kept = s.kept := by
  simp [State.toTally]
@[simp] theorem execEthFrameRx_answers (m : Nat) (accept : Bool) (frame : List Byte) (s : State) :
    AnswersFrom s (execEthFrameRx m accept frame s) := by
  simp only [execEthFrameRx, answersFrom_ite, answersFrom_next, State.satInc_kept, State.toChannel_kept]
  split
  · trivial
  · split
    · trivial
    · split
      · split <;> simp
      · split
        · simp
        · split
          · split
            · next t h => simp [State.kept_of_pair (s.storeFrame_kept ..) h]
            · next t h => simp [State.kept_of_pair (s.storeFrame_kept ..) h]
          · simp
@[simp] theorem execEthLinkUp_answers (m : Nat) (s : State) : AnswersFrom s (execEthLinkUp m s) := by simp [execEthLinkUp]
@[simp] theorem execEthLinkDown_answers (m : Nat) (s : State) : AnswersFrom s (execEthLinkDown m s) := by simp [execEthLinkDown]
@[simp] theorem State.canCounts_kept (s : State) (k tec rec : Nat) : (s.canCounts k tec rec).kept = s.kept := by simp [State.canCounts]
@[simp] theorem execCanFrameRx_answers (k id : Nat) (xtd hit : Bool) (data : List Byte) (tec rec : Nat) (s : State) :
    AnswersFrom s (execCanFrameRx k id xtd hit data tec rec s) := by
  simp only [execCanFrameRx]
  repeat' split
  all_goals simp
@[simp] theorem execCanBusOff_answers (k tec rec : Nat) (s : State) : AnswersFrom s (execCanBusOff k tec rec s) := by simp [execCanBusOff]
@[simp] theorem execCanBusOffRecovery_answers (k : Nat) (s : State) : AnswersFrom s (execCanBusOffRecovery k s) := by simp [execCanBusOffRecovery]
@[simp] theorem State.showOffset_kept (s : State) (o : Int) : (s.showOffset o).kept = s.kept := by simp [State.showOffset]
@[simp] theorem State.setLocked_kept (s : State) (v : Bool) : (s.setLocked v).kept = s.kept := by simp [State.setLocked]
@[simp] theorem State.timeLost_kept (s : State) (ns : Int) : (s.timeLost ns).kept = s.kept := by simp [State.timeLost]
@[simp] theorem execTimeSyncMessage_answers (path : Nat) (offset : Int) (s : State) : AnswersFrom s (execTimeSyncMessage path offset s) := by
  simp [execTimeSyncMessage]
@[simp] theorem execTimeUnsync_answers (offset : Option Int) (s : State) : AnswersFrom s (execTimeUnsync offset s) := by
  unfold execTimeUnsync
  repeat' split
  all_goals simp
@[simp] theorem execGlTimeSend_answers (p : Nat) (s : State) : AnswersFrom s (execGlTimeSend p s) := by simp [execGlTimeSend]
@[simp] theorem State.glLocal_kept (s : State) (p cls tag : Nat) (payload : List Byte) : (s.glLocal p cls tag payload).kept = s.kept := by
  unfold State.glLocal
  repeat' split
  all_goals simp
@[simp] theorem execGlFrameRx_answers (p tag : Nat) (frame : List Byte) (s : State) : AnswersFrom s (execGlFrameRx p tag frame s) := by
  simp [execGlFrameRx]
@[simp] theorem execGlLinkTrained_answers (p : Nat) (s : State) : AnswersFrom s (execGlLinkTrained p s) := by simp [execGlLinkTrained]
@[simp] theorem execGlPortDown_answers (p : Nat) (s : State) : AnswersFrom s (execGlPortDown p s) := by simp [execGlPortDown]

/-! ### Sys2Proof/Machine/RegWrite.lean -/

@[simp] theorem State.after_kept (s : State) (o : Out) (h : AnswersFrom s o) : (s.after o).kept = s.kept := by
  obtain ⟨u, rfl, hu⟩ := h
  exact hu
@[simp] theorem State.afterWrite_kept (s b : State) (n : RegName) (i : Nat) : (s.afterWrite b n i).kept = s.kept := by
  unfold State.afterWrite
  repeat' split
  all_goals simp
@[simp] theorem State.plainWrite_kept (s : State) (w : Writer) (a : Nat) (v : Word) (f : RegFam) (i : Nat) :
    (s.plainWrite w a v f i).kept = s.kept := by simp [State.plainWrite]
@[simp] theorem State.thresholdWrite_kept (s : State) (w : Writer) (a : Nat) (v : Word) (f : RegFam) (i : Nat) :
    (s.thresholdWrite w a v f i).kept = s.kept := by simp [State.thresholdWrite]
@[simp] theorem State.dclWrite_kept (s : State) (w : Writer) (a : Nat) (v : Word) (f : RegFam) (i : Nat) :
    (s.dclWrite w a v f i).kept = s.kept := by simp [State.dclWrite]
@[simp] theorem State.feCtrlWrite_kept (s : State) (w : Writer) (n : Nat) (v : Word) : (s.feCtrlWrite w n v).kept = s.kept := by
  simp [State.feCtrlWrite]
@[simp] theorem State.convCtrlWrite_kept (s : State) (w : Writer) (v : Word) : (s.convCtrlWrite w v).kept = s.kept := by simp [State.convCtrlWrite]
@[simp] theorem State.syncCfgWrite_kept (s : State) (w : Writer) (a : Nat) (v : Word) (f : RegFam) (i : Nat) :
    (s.syncCfgWrite w a v f i).kept = s.kept := by simp [State.syncCfgWrite]
@[simp] theorem State.seqCtrlWrite_kept (s : State) (w : Writer) (k : Nat) (v : Word) : (s.seqCtrlWrite w k v).kept = s.kept := by
  simp [State.seqCtrlWrite]
@[simp] theorem State.dbgCtrlWrite_kept (s : State) (w : Writer) (v : Word) : (s.dbgCtrlWrite w v).kept = s.kept := by simp [State.dbgCtrlWrite]
@[simp] theorem State.ringWord_kept (s : State) (w : Writer) (m : Nat) (f : Ring → Ring × Bool) : (s.ringWord w m f).kept = s.kept := by
  unfold State.ringWord
  repeat' split
  all_goals simp
@[simp] theorem State.regWriteAt_kept (s : State) (w : Writer) (a : Nat) (v : Word) (f : RegFam) (i : Nat) :
    (s.regWriteAt w a v f i).kept = s.kept := by
  unfold State.regWriteAt
  split <;> simp
@[simp] theorem State.regWrite_kept (s : State) (w : Writer) (a : Nat) (v : Word) : (s.regWrite w a v).kept = s.kept := by
  unfold State.regWrite
  repeat' split
  all_goals simp
@[simp] theorem State.portWrite_kept (s : State) (w : Writer) (addr : Nat) (v : Word) : (s.portWrite w addr v).kept = s.kept := by
  unfold State.portWrite
  split <;> simp
@[simp] theorem execRegisterWrite_answers (w : Writer) (addr : Nat) (v : Word) (s : State) : AnswersFrom s (execRegisterWrite w addr v s) := by
  simp [execRegisterWrite]
@[simp] theorem State.svcWrites_kept (s : State) (a n : Nat) (bs : List Byte) : (s.svcWrites a n bs).kept = s.kept := by
  induction n generalizing s a bs with
  | zero => rfl
  | succ n ih => rw [State.svcWrites, ih, State.regWrite_kept]
@[simp] theorem State.svcServe_kept (s : State) (req : List Byte) : (s.svcServe req).1.kept = s.kept := by
  simp only [State.svcServe]
  repeat' split
  all_goals simp
@[simp] theorem execServiceRequest_answers (s : State) : AnswersFrom s (execServiceRequest s) := by
  unfold execServiceRequest
  split
  · simp
  · dsimp only
    split
    · simp
    · split
      · next t h => simp [State.kept_of_pair (State.svcServe_kept ..) h]
      · next t b h => simp [State.kept_of_pair (State.svcServe_kept ..) h]

/-! ### Sys2Proof/Machine/Modes.lean -/

@[simp] theorem State.judge_kept (s : State) (kind prec code : Nat) : (s.judge kind prec code).kept = s.kept := by simp [State.judge]
@[simp] theorem State.modeSet_kept (s : State) (fromCode : Nat) (dest : Mode) (kind code : Nat) :
    (s.modeSet fromCode dest kind code).kept = s.kept := by
  simp -implicitDefEqProofs [State.modeSet]
@[simp] theorem State.modeEnables_kept (s : State) : s.modeEnables.kept = s.kept := by simp [State.modeEnables]
@[simp] theorem State.modeRights_kept (s : State) : s.modeRights.kept = s.kept := by simp [State.modeRights]
@[simp] theorem State.modeCharger_kept (s : State) (old : Mode) : (s.modeCharger old).kept = s.kept := by simp [State.modeCharger]
@[simp] theorem State.modeAborts_kept (s : State) : s.modeAborts.kept = s.kept := by simp [State.modeAborts]
@[simp] theorem State.degrFirst_kept (s : State) : s.degrFirst.kept = s.kept := by simp [State.degrFirst]
@[simp] theorem State.startEngines_kept (s : State) : s.startEngines.kept = s.kept := by simp [State.startEngines]
@[simp] theorem State.modeEffects_kept (s : State) (old : Mode) : (s.modeEffects old).kept = s.kept := by simp [State.modeEffects]
@[simp] theorem State.judgeHeld_kept (s : State) : s.judgeHeld.kept = s.kept := by simp [State.judgeHeld]
@[simp] theorem State.hibernate_kept (s : State) : s.hibernate.kept = s.kept := by simp [State.hibernate]
@[simp] theorem execModeTransitionEnd_answers (drop : Nat) (fault : Bool) (s : State) : AnswersFrom s (execModeTransitionEnd drop fault s) := by
  unfold execModeTransitionEnd
  split <;> simp
@[simp] theorem execModeStatus_answers (c : Cmd) (s0 : State) : AnswersFrom s0 (execModeStatus c s0) := by simp [execModeStatus]
@[simp] theorem State.acceptRequest_kept (s : State) (dest : Mode) (option : Nat) : (s.acceptRequest dest option).kept = s.kept := by
  simp [State.acceptRequest]
@[simp] theorem State.triggersFirst_kept (s : State) : s.triggersFirst.kept = s.kept := by simp [State.triggersFirst]
@[simp] theorem execModeRequest_answers (c : Cmd) (s : State) : AnswersFrom s (execModeRequest c s) := by
  refine answersFrom_command _ _ _ _ ?_
  extract_lets target option s'
  have h : s'.kept = s.kept := by simp [s']
  iterate 6
    split
    · simp [refuse, h]
  split <;> simp [refuse, h]
@[simp] theorem execParkEngage_answers (c : Cmd) (s0 : State) : AnswersFrom s0 (execParkEngage c s0) := by simp [execParkEngage]
@[simp] theorem execParkRelease_answers (c : Cmd) (s0 : State) : AnswersFrom s0 (execParkRelease c s0) := by simp [execParkRelease]
@[simp] theorem execSafeStopRequest_answers (c : Cmd) (s0 : State) : AnswersFrom s0 (execSafeStopRequest c s0) := by simp [execSafeStopRequest]
@[simp] theorem execSysReset_answers (c : Cmd) (s0 : State) : AnswersFrom s0 (execSysReset c s0) := by simp [execSysReset]
@[simp] theorem execDegradedTimerExpiry_answers (s : State) : AnswersFrom s (execDegradedTimerExpiry s) := by simp [execDegradedTimerExpiry]
@[simp] theorem execDegradedTimer_answers (s : State) : AnswersFrom s (execDegradedTimer s) := by simp [execDegradedTimer]

/-! ### Sys2Proof/Machine/Supply.lean -/

@[simp] theorem State.setGood_kept (s : State) (k : Nat) (v : Bool) : (s.setGood k v).kept = s.kept := by
  unfold State.setGood
  split <;> simp
@[simp] theorem State.backToHibernate_kept (s : State) : s.backToHibernate.kept = s.kept := by simp [State.backToHibernate]
@[simp] theorem State.railsUp_kept (s : State) : s.railsUp.kept = s.kept := by simp [State.railsUp]
@[simp] theorem State.waitRails_kept (s : State) : s.waitRails.kept = s.kept := by simp [State.waitRails]
@[simp] theorem execVstbyRise_answers (resetN : Bool) (straps wake : Nat) (s : State) : AnswersFrom s (execVstbyRise resetN straps wake s) := by
  simp [execVstbyRise]
@[simp] theorem execSupplyGood_answers (supply : Nat) (s : State) : AnswersFrom s (execSupplyGood supply s) := by simp [execSupplyGood]
@[simp] theorem State.powerOff_kept (s : State) : s.powerOff.kept = s.kept := by simp [State.powerOff]
@[simp] theorem execSupplyLost_answers (supply : Nat) (s : State) : AnswersFrom s (execSupplyLost supply s) := by simp [execSupplyLost]
@[simp] theorem execRailWaitExpiry_answers (s : State) : AnswersFrom s (execRailWaitExpiry s) := by simp [execRailWaitExpiry]
@[simp] theorem execResetPin_answers (s : State) : AnswersFrom s (execResetPin s) := by
  unfold execResetPin
  split <;> simp
@[simp] theorem execStrapChangeDetected_answers (live : Nat) (s : State) : AnswersFrom s (execStrapChangeDetected live s) := by
  simp [execStrapChangeDetected]
@[simp] theorem State.wake_kept (s : State) : s.wake.kept = s.kept := by simp [State.wake]
@[simp] theorem execWakeEvent_answers (pin : Option (Nat × Bool)) (s : State) : AnswersFrom s (execWakeEvent pin s) := by
  unfold execWakeEvent
  split <;> simp
@[simp] theorem execWakeTimerExpiry_answers (s : State) : AnswersFrom s (execWakeTimerExpiry s) := by simp [execWakeTimerExpiry]
@[simp] theorem execEarlyWakeDelayExpiry_answers (s : State) : AnswersFrom s (execEarlyWakeDelayExpiry s) := by simp [execEarlyWakeDelayExpiry]

/-! ### Sys2Proof/Machine/Boot.lean -/

@[simp] theorem State.bootBegin_kept (s : State) (b : BootIn) : (s.bootBegin b).kept = s.kept := by simp [State.bootBegin]
@[simp] theorem State.showWear_kept (s : State) : s.showWear.kept = s.kept := by simp [State.showWear]
@[simp] theorem State.bootStore_kept (s0 : State) (b : BootIn) : (s0.bootStore b).kept = s0.kept := by simp [State.bootStore]
@[simp] theorem State.bootLanding_kept (s : State) : s.bootLanding.kept = s.kept := by
  simp -implicitDefEqProofs [State.bootLanding]
@[simp] theorem State.bootComm_kept (s : State) (b : BootIn) : (s.bootComm b).kept = s.kept := by
  unfold State.bootComm
  dsimp only
  split <;> simp -implicitDefEqProofs
@[simp] theorem State.loadReg_kept (s : State) (a : Nat) (v : Word) : (s.loadReg a v).kept = s.kept := by
  unfold State.loadReg
  split <;> simp
@[simp] theorem State.loadTally_kept (s : State) : s.loadTally.kept = s.kept := by simp [State.loadTally]
@[simp] theorem State.loadFollow_kept (s : State) : s.loadFollow.kept = s.kept := by simp [State.loadFollow]
@[simp] theorem State.loadSet_kept (s : State) : s.loadSet.kept = s.kept := by simp [State.loadSet]
@[simp] theorem State.loadNone_kept (s : State) : s.loadNone.kept = s.kept := by simp [State.loadNone]
@[simp] theorem State.loadFactory_kept (s : State) : s.loadFactory.kept = s.kept := by simp [State.loadFactory]
@[simp] theorem State.setupConv_kept (s : State) : s.setupConv.kept = s.kept := by simp [State.setupConv]
@[simp] theorem State.setupCharger_kept (s : State) : s.setupCharger.kept = s.kept := by simp [State.setupCharger]
@[simp] theorem State.setupMotors_kept (s : State) : s.setupMotors.kept = s.kept := by simp [State.setupMotors]
@[simp] theorem State.bootLoad_kept (s : State) : s.bootLoad.kept = s.kept := by simp [State.bootLoad]
@[simp] theorem State.bootLog_kept (s : State) : s.bootLog.kept = s.kept := by simp [State.bootLog]
@[simp] theorem State.flushAll_kept (s : State) : s.flushAll.kept = s.kept := by simp [State.flushAll]
@[simp] theorem State.bootEnd_kept (s : State) (b : BootIn) : (s.bootEnd b).kept = s.kept := by simp [State.bootEnd]
@[simp] theorem State.bootRecords_kept (s : State) (b : BootIn) : (s.bootRecords b).kept = s.kept := by simp [State.bootRecords]
@[simp] theorem State.bootNoRuntime_kept (s : State) : s.bootNoRuntime.kept = s.kept := by simp [State.bootNoRuntime]
@[simp] theorem execBootStart_answers (b : BootIn) (s : State) : AnswersFrom s (execBootStart b s) := by simp [execBootStart]

/-! ### Sys2Proof/Machine/Pairing.lean -/

@[simp] theorem State.windowCounts_kept (s : State) (k : Nat) (x : WindowIn) : (s.windowCounts k x).kept = s.kept := by simp [State.windowCounts]
@[simp] theorem State.releaseWindow_kept (s : State) (k : Nat) (x : WindowIn) : (s.releaseWindow k x).kept = s.kept := by simp [State.releaseWindow]
@[simp] theorem State.wardenCanary_kept (s : State) (k : Nat) (g : GateIn) : (s.wardenCanary k g).kept = s.kept := by simp [State.wardenCanary]
@[simp] theorem execWardenWindowClose_answers (k : Nat) (x : WindowIn) (s : State) : AnswersFrom s (execWardenWindowClose k x s) := by
  unfold execWardenWindowClose
  repeat' split
  all_goals simp

/-! ### The dispatch -/

/-- Every command answers a next state, and keeps the queue and the part. -/
theorem exec_answers (c : Instr) (s : State) : AnswersFrom s (exec c s) := by
  cases c <;> simp [exec]

end Sys2Proof.Machine

/-- Settles O58: what `exec` answers is the answer of one meaning, and every meaning answers a next state that keeps queue and part. -/
theorem execAnswersAndKeepsQueueAndPart : Obligations.ExecAnswersAndKeepsQueueAndPart := by
  intro c s
  obtain ⟨t, ht, hk⟩ := Sys2Proof.Machine.exec_answers c s
  exact ⟨t, ht, congrArg Prod.snd hk, congrArg Prod.fst hk⟩
end

section
/-! SUPPORT. The step of an empty queue (R5, R24, R453). -/

namespace Sys2Proof.Machine

/-- With no slew to make, a microsecond leaves the slew and its fraction as they are. -/
theorem LinkState.slewStep_of_zero (l : LinkState) (h : l.slew = 0) : l.slewStep = l := by simp [LinkState.slewStep, h]

theorem step_of_empty (s : State) (h : s.pending = []) : step s = .next (idle s) := by simp [step, h]

theorem idle_of_not_run (s : State) (h : s.pwr.power ≠ .run) : idle s = s := by simp [idle, State.running, h]

/-- While the part runs and its time base makes no slew, only ATIME moves. -/
theorem idle_of_run (s : State) (hr : s.pwr.power = .run) (h0 : s.net.slew = 0) (hlo : -5000 < s.net.frac) (hhi : s.net.frac < 5000) :
    idle s = { s with atime := s.atime + 1 } := by
  have hl := LinkState.slewStep_of_zero s.net h0
  simp [idle, State.running, hr, hl, Int.not_le.mpr hlo, Int.not_le.mpr hhi]

end Sys2Proof.Machine

open Sys2Proof.Machine in
/-- Settles O2: the step of an empty queue is `idle`, which moves ATIME alone, and that only while the part runs. -/
theorem emptyQueueLetsTimePass : Obligations.EmptyQueueLetsTimePass := fun s h =>
  ⟨fun hr h0 hlo hhi => by rw [step_of_empty s h, idle_of_run s hr h0 hlo hhi],
   fun hr => by rw [step_of_empty s h, idle_of_not_run s hr]⟩
end

section
/-! SUPPORT. The fetch and the checks of descriptors (R90, R95, R96). -/

namespace Sys2Proof.Machine

/-! ### The read that is issued (R90, R95) -/

/-- A ring number with a descriptor to fetch stands in the order in which the rings are served. -/
theorem State.mem_order (s : State) (g : Nat) (hg : g < 48) : g ∈ s.ownOrder ++ s.ringOrder := by
  by_cases ho : g / 16 = s.owner
  · refine List.mem_append_left _ ?_
    have h3 : s.owner < 3 := by omega
    simp only [State.ownOrder, h3, if_true, List.mem_map, List.mem_range]
    exact ⟨(g % 16 + 15 - s.host.lastOwn % 16) % 16, by omega, by omega⟩
  · refine List.mem_append_right _ ?_
    simp only [State.ringOrder, List.mem_filter, List.mem_map, List.mem_range, decide_eq_true_eq]
    exact ⟨⟨(g + 47 - s.host.lastRing % 48) % 48, by omega, by omega⟩, ho⟩

theorem State.order_lt (s : State) (g : Nat) (h : g ∈ s.ownOrder ++ s.ringOrder) : g < 48 := by
  rcases List.mem_append.mp h with h | h
  · unfold State.ownOrder at h
    split at h
    · simp only [List.mem_map, List.mem_range] at h
      omega
    · simp at h
  · simp only [State.ringOrder, List.mem_filter, List.mem_map, List.mem_range] at h
    omega

/-- A ring of the owner's rank is the owner's. -/
theorem State.ownOrder_owner (s : State) (g : Nat) (h : g ∈ s.ownOrder) : g / 16 = s.owner := by
  unfold State.ownOrder at h
  split at h
  · simp only [List.mem_map, List.mem_range] at h
    omega
  · simp at h

theorem State.mem_ownOrder (s : State) (k : Nat) (ho : s.owner < 3) (hk : k < 16) : 16 * s.owner + k ∈ s.ownOrder := by
  have h := s.mem_order (16 * s.owner + k) (by omega)
  refine (List.mem_append.mp h).resolve_right fun hr => ?_
  simp only [State.ringOrder, List.mem_filter, decide_eq_true_eq] at hr
  omega

theorem State.fetchCount_le (s : State) (m k : Nat) : s.fetchCount m k ≤ 8 := by
  unfold State.fetchCount
  dsimp only
  split <;> omega

/-- The ring served next is the owner's where a ring of the owner is ready. -/
theorem State.served_owner (s : State) (g k : Nat) (hf : (s.ownOrder ++ s.ringOrder).find? s.fetchable = some g) (ho : s.owner < 3)
    (hk : k < 16) (hc : 0 < s.fetchCount s.owner k) : g / 16 = s.owner := by
  have hx : s.fetchable (16 * s.owner + k) = true := by
    have h1 : (16 * s.owner + k) / 16 = s.owner := by omega
    have h2 : (16 * s.owner + k) % 16 = k := by omega
    simp [State.fetchable, h1, h2, hc]
  obtain ⟨x, hs⟩ := Option.isSome_iff_exists.mp (List.find?_isSome.mpr ⟨_, s.mem_ownOrder k ho hk, hx⟩)
  rw [List.find?_append, hs] at hf
  obtain rfl : x = g := by simpa using hf
  exact s.ownOrder_owner x (List.mem_of_find?_eq_some hs)

theorem execDescriptorFetch_none (s : State) (h : ∀ g, g < 48 → s.fetchCount (g / 16) (g % 16) = 0) : execDescriptorFetch s = .next s := by
  have hf : (s.ownOrder ++ s.ringOrder).find? s.fetchable = none := by
    rw [List.find?_eq_none]
    intro g hg
    simp [State.fetchable, h g (s.order_lt g hg)]
  simp [execDescriptorFetch, hf]

/-- The read issued for ring `g`. -/
theorem execDescriptorFetch_some (s : State) (g : Nat) (hg : g < 48) (h : 0 < s.fetchCount (g / 16) (g % 16)) :
    ∃ t, execDescriptorFetch s = .next t ∧ ∃ f, t.host.reads = s.host.reads ++ [f] ∧ 1 ≤ f.count ∧ f.count ≤ 8 ∧ t = { s with host := t.host } ∧
      (s.owner < 3 → (∃ k, k < 16 ∧ 0 < s.fetchCount s.owner k) → f.master = s.owner) := by
  have hx : s.fetchable g = true := by simpa [State.fetchable] using h
  obtain ⟨x, hs⟩ := Option.isSome_iff_exists.mp (List.find?_isSome.mpr ⟨g, s.mem_order g hg, hx⟩)
  have hc : 0 < s.fetchCount (x / 16) (x % 16) := by simpa [State.fetchable] using List.find?_some hs
  unfold execDescriptorFetch
  rw [hs]
  exact ⟨_, rfl, _, rfl, hc, s.fetchCount_le _ _, rfl, fun ho ⟨k, hk, hck⟩ => s.served_owner x k hs ho hk hck⟩


/-! ### The Market and the memories leave the rings alone -/

/-- A part of a state. It stands between a state and its field, so that the equation of two fields is checked by the states' terms and not by
computing the fields. -/
def State.view {β : Type} (g : State → β) (s : State) : β := g s

@[simp] theorem State.ite_view {β : Type} (g : State → β) (p : Prop) [Decidable p] (a b : State) :
    (if p then a else b).view g = if p then a.view g else b.view g := apply_ite (State.view g) p a b

@[simp] theorem State.each_view {α β : Type} {g : State → β} {f : State → α → State} (h : ∀ t a, (f t a).view g = t.view g) (l : List α)
    (s : State) : (s.each l f).view g = s.view g := by
  unfold State.each
  induction l generalizing s with
  | nil => rfl
  | cons a l ih => rw [List.foldl_cons, ih, h]

/-- The rings and what waits at them. -/
abbrev State.hosts : State → HostState := State.view State.host

theorem State.host_hosts (s : State) : s.host = s.hosts := (rfl)
@[simp] theorem State.mk_hosts (part pending atime free regs mem pwr mode host own store mkt led fe edge pair dcl acq trac conv chg mot disc
    safe tally net) : (State.mk part pending atime free regs mem pwr mode host own store mkt led fe edge pair dcl acq trac conv chg mot disc
    safe tally net).view State.host = host := (rfl)

@[simp] theorem State.wr_hosts (s : State) (a : Nat) (w : Word) : (s.wr a w).hosts = s.hosts := by simp [State.wr, State.host_hosts]
@[simp] theorem State.put_hosts (s : State) (F : Fld) (v : Nat) : (s.put F v).hosts = s.hosts := by simp [State.put]
@[simp] theorem State.putB_hosts (s : State) (F : Fld) (b : Bool) : (s.putB F b).hosts = s.hosts := by simp [State.putB]
@[simp] theorem State.satInc_hosts (s : State) (F : Fld) : (s.satInc F).hosts = s.hosts := by simp [State.satInc]
@[simp] theorem State.raise_hosts (s : State) (code sev unit : Nat) (c0 c1 : Option Word) : (s.raise code sev unit c0 c1).hosts = s.hosts := by
  simp [State.raise, State.raiseFor, State.host_hosts]
@[simp] theorem State.wakeBank_hosts (s : State) (b : Nat) : (s.wakeBank b).hosts = s.hosts := by simp [State.wakeBank, State.setBankState]
@[simp] theorem State.wakeFor_hosts (s : State) (a n : Nat) : (s.wakeFor a n).hosts = s.hosts := by simp [State.wakeFor]
@[simp] theorem State.setByte_hosts (s : State) (a : Nat) (b : Byte) : (s.setByte a b).hosts = s.hosts := by simp [State.setByte, State.host_hosts]
@[simp] theorem State.setBytes_hosts (s : State) (a : Nat) (bs : List Byte) : (s.setBytes a bs).hosts = s.hosts := by
  induction bs generalizing s a with
  | nil => rfl
  | cons b t ih => simp [State.setBytes, ih]
@[simp] theorem State.settle_hosts (s : State) (o : Nat) : (s.settle o).hosts = s.hosts := by simp [State.settle, State.host_hosts]
@[simp] theorem State.writeByte_hosts (s : State) (a : Nat) (b : Byte) : (s.writeByte a b).hosts = s.hosts := by simp [State.writeByte]
@[simp] theorem State.writeEach_hosts (s : State) (a : Nat) (bs : List Byte) : (s.writeEach a bs).hosts = s.hosts := by
  induction bs generalizing s a with
  | nil => rfl
  | cons b t ih => simp [State.writeEach, ih]
@[simp] theorem State.writeBytes_hosts (s : State) (a : Nat) (bs : List Byte) : (s.writeBytes a bs).hosts = s.hosts := by
  simp [State.writeBytes, State.renew, State.host_hosts]
@[simp] theorem State.mktStatus_hosts (s : State) : s.mktStatus.hosts = s.hosts := by simp [State.mktStatus]
@[simp] theorem State.freeStall_hosts (s : State) (ch n : Nat) : (s.freeStall ch n).hosts = s.hosts := by simp [State.freeStall, State.host_hosts]
@[simp] theorem State.fillStall_hosts (s : State) (n : Nat) (bs : List Byte) : (s.fillStall n bs).hosts = s.hosts := by simp [State.fillStall, State.host_hosts]
@[simp] theorem State.pushHandle_hosts (s : State) (ch : Nat) (more : Bool) (len n : Nat) : (s.pushHandle ch more len n).hosts = s.hosts := by
  simp [State.pushHandle, State.host_hosts]
@[simp] theorem State.unstage_hosts (s : State) (m : Nat) (ns : List Nat) : (s.unstage m ns).hosts = s.hosts := by simp [State.unstage, State.host_hosts]
@[simp] theorem State.takeStall_hosts (s : State) (ch : Nat) : (s.takeStall ch).1.hosts = s.hosts := by
  unfold State.takeStall
  dsimp only
  split
  · simp [State.host_hosts]
  · split <;> simp [State.host_hosts]
@[simp] theorem State.takeStalls_hosts (s : State) (ch k : Nat) (got : List Nat) : (s.takeStalls ch k got).1.hosts = s.hosts := by
  induction k generalizing s got with
  | zero => rfl
  | succ k ih =>
    have hs := s.takeStall_hosts ch
    unfold State.takeStalls
    split
    · next t n h => rw [ih, ← hs, h]
    · next t h => simp [← hs, h]

/-- Check 5 leaves the rings alone, and the refusals of an indirect payload are BUSY_RETRY and BAD_PARAM. -/
@[simp] theorem State.check5_hosts (s : State) (m : Nat) (d : Desc) (p : Option (List Byte)) : (s.check5 m d p).1.hosts = s.hosts := by
  have hs (k : Nat) := s.takeStalls_hosts m k []
  unfold State.check5
  dsimp only
  split
  · rfl
  · split
    · next t h => rw [← hs, h]
    · next t ns h =>
      have ht : t.hosts = s.hosts := by rw [← hs, h]
      split <;> simp [ht]

theorem State.check5_error (s t : State) (m : Nat) (d : Desc) (p : Option (List Byte)) (st : Status) (h : s.check5 m d p = (t, .error st)) :
    st = .busyRetry ∨ st = .badParam := by
  unfold State.check5 at h
  dsimp only at h
  split at h
  · simp at h
  · split at h
    · simp at h
      exact .inl h.2.symm
    · split at h
      · simp at h
        exact .inr h.2.symm
      · simp at h

/-- A direct payload takes no stall. -/
theorem State.check5_direct (s : State) (m : Nat) (d : Desc) (p : Option (List Byte)) (h : d.ind = false) : s.check5 m d p = (s, .ok []) := by
  simp [State.check5, h]

/-! ### Rings -/

@[simp] theorem State.ring_setRing_same (s : State) (m kind i : Nat) (r : Ring) : (s.setRing m kind i r).ring m kind i = r :=
  Sparse.get_set_same _ _ _ _

/-- The ring that stops keeps everything but ERR. -/
theorem State.ringError_ring (s : State) (m kind i e : Nat) (slot : Option Nat) :
    (s.ringError m kind i e slot).ring m kind i = { s.ring m kind i with err := e } := Sparse.get_set_same _ _ _ _

theorem State.ringError_told (s : State) (m kind i e : Nat) (slot : Option Nat) :
    Told s (s.ringError m kind i e slot) 0x0120 0x03 (some (w32 (kind * 16 + i))) (some (w32 e)) :=
  ⟨_, rfl, rfl, rfl, rfl, fun _ h => Option.some.inj h, fun _ h => Option.some.inj h⟩

/-! ### One fetched descriptor (R96) -/

/-- The operation of descriptor `d` of ring `k` of master `m`. -/
def State.descOp (s : State) (m k : Nat) (d : Desc) (p : Option (List Byte)) : Op :=
  { master := m, tag := d.tag, ring := k, opcode := d.opcode, cls := d.flags % 4, target := d.target, irq := natBit d.flags 5,
    fence := natBit d.flags 4, isRead := d.read, len := d.len, hostAddr := d.hostAddr, payload := d.payload p, stalls := [], started := false,
    start := s.atime, reported := s.atime, done := false }

/-- The descriptor is consumed, and its operation is in flight (R94). -/
def State.entered (s : State) (m k : Nat) (d : Desc) (p : Option (List Byte)) : State :=
  { s.setRing m 0 k { s.ring m 0 k with elx := ((s.ring m 0 k).elx + 1) % 65536 } with host.ops := s.host.ops ++ [s.descOp m k d p] }

theorem State.entered_ring (s : State) (m k : Nat) (d : Desc) (p : Option (List Byte)) :
    ((s.entered m k d p).ring m 0 k).elx = ((s.ring m 0 k).elx + 1) % 65536 := by
  have h : (s.entered m k d p).ring m 0 k = { s.ring m 0 k with elx := ((s.ring m 0 k).elx + 1) % 65536 } := Sparse.get_set_same _ _ _ _
  rw [h]

/-- Only the rings' state has changed. -/
theorem State.entered_eq (s : State) (m k : Nat) (d : Desc) (p : Option (List Byte)) :
    s.entered m k d p = { s with host := (s.entered m k d p).host } := rfl

/-- Checks 3, 4 and 6 do not look at the rings. -/
theorem State.check3_host (s : State) (h : HostState) (m : Nat) (d : Desc) : State.check3 { s with host := h } m d = s.check3 m d := rfl
theorem State.check4_host (s : State) (h : HostState) (d : Desc) : State.check4 { s with host := h } d = s.check4 d := rfl
theorem State.check6_host (s : State) (h : HostState) (d : Desc) : State.check6 { s with host := h } d = s.check6 d := rfl

/-- Checks 2 to 6 of a descriptor that has entered (R96), as `takeDesc` makes them. -/
def State.judgeDesc (s : State) (m : Nat) (v1 : Bool) (d : Desc) (p : Option (List Byte)) : State :=
  if !check2 v1 d then s.result m d.tag 3 .badParam 0 false false
  else if !s.check3 m d then s.result m d.tag 3 .notOwner 0 false false
  else if !s.check4 d then s.result m d.tag 3 .badParam 0 false false
  else
    match s.check5 m d p with
    | (t, .error st) => t.result m d.tag 3 st 0 false false
    | (t, .ok ns) => if t.check6 d then t.holdStalls m d.tag ns else (t.unstage m ns).result m d.tag 3 .safetyBlocked 0 false false

/-- A descriptor that passes check 1 bears a free tag. -/
theorem State.opOf_of_check1 {s : State} {m : Nat} {v1 : Bool} {d : Desc} (h : s.check1 m v1 d = none) : s.opOf m d.tag = none := by
  unfold State.check1 at h
  split at h
  · simp at h
  · split at h <;> split at h <;> simp_all

/-- A direct payload holds no stalls, and the other operations are none with this tag. -/
theorem State.entered_holdStalls {s : State} {m : Nat} {d : Desc} (k : Nat) (p : Option (List Byte)) (h : s.opOf m d.tag = none) :
    (s.entered m k d p).holdStalls m d.tag [] = s.entered m k d p := by
  have hm : (s.host.ops ++ [s.descOp m k d p]).map (fun o => if o.master = m && o.tag = d.tag then { o with stalls := [] } else o) =
      s.host.ops ++ [s.descOp m k d p] := by
    rw [List.map_append]
    refine congrArg₂ _ ((List.map_congr_left fun o ho => ?_).trans (List.map_id _)) ?_
    · have hn := List.find?_eq_none.mp h o ho
      exact if_neg hn
    · simp [State.descOp]
  have he : (s.entered m k d p).host.ops = s.host.ops ++ [s.descOp m k d p] := rfl
  rw [State.holdStalls, he, hm]
  rfl

section
variable {s : State} {m k : Nat} {v1 : Bool} {d : Desc} {p : Option (List Byte)}

theorem State.judgeDesc_check2 (h2 : check2 v1 d = false) : s.judgeDesc m v1 d p = s.result m d.tag 3 .badParam 0 false false := by
  simp [State.judgeDesc, h2]

theorem State.judgeDesc_check3 (h2 : check2 v1 d = true) (h3 : s.check3 m d = false) :
    s.judgeDesc m v1 d p = s.result m d.tag 3 .notOwner 0 false false := by
  simp [State.judgeDesc, h2, h3]

theorem State.judgeDesc_check4 (h2 : check2 v1 d = true) (h3 : s.check3 m d = true) (h4 : s.check4 d = false) :
    s.judgeDesc m v1 d p = s.result m d.tag 3 .badParam 0 false false := by
  simp [State.judgeDesc, h2, h3, h4]

/-- A direct payload comes to check 6 at once. -/
theorem State.judgeDesc_direct (h2 : check2 v1 d = true) (h3 : s.check3 m d = true) (h4 : s.check4 d = true) (hi : d.ind = false) :
    s.judgeDesc m v1 d p =
      if s.check6 d then s.holdStalls m d.tag [] else (s.unstage m []).result m d.tag 3 .safetyBlocked 0 false false := by
  simp [State.judgeDesc, h2, h3, h4, s.check5_direct m d p hi]

/-- A descriptor that has passed checks 2 to 4 is taken, or refused by check 5 or 6; the rings see no more of it. -/
theorem State.judgeDesc_taken (h2 : check2 v1 d = true) (h3 : s.check3 m d = true) (h4 : s.check4 d = true) :
    ∃ t : State, t.host = s.host ∧ ((∃ ns, s.judgeDesc m v1 d p = t.holdStalls m d.tag ns) ∨
      ∃ st : Status, (st = .busyRetry ∨ st = .badParam ∨ st = .safetyBlocked) ∧ s.judgeDesc m v1 d p = t.result m d.tag 3 st 0 false false) := by
  have h5 : (s.check5 m d p).1.host = s.host := s.check5_hosts m d p
  simp only [State.judgeDesc, h2, h3, h4, Bool.not_true, Bool.false_eq_true, if_false]
  split
  · next t st h =>
    rw [h] at h5
    exact ⟨t, h5, .inr ⟨st, (s.check5_error t m d p st h).elim .inl fun hb => .inr (.inl hb), rfl⟩⟩
  · next t ns h =>
    rw [h] at h5
    split
    · exact ⟨t, h5, .inl ⟨ns, rfl⟩⟩
    · exact ⟨t.unstage m ns, (t.unstage_hosts m ns).trans h5, .inr ⟨.safetyBlocked, .inr (.inr rfl), rfl⟩⟩

end

section
variable {s : State} {m k : Nat} {b : List Byte} {p : Option (List Byte)}

theorem State.takeDesc_check1 {e : Nat} (hr : (s.ring m 0 k).run = true) (h1 : s.check1 m (s.ring m 0 k).v1 (Desc.ofBytes b) = some e) :
    s.takeDesc m k b p = s.ringError m 0 k e (some ((s.ring m 0 k).elx % (s.ring m 0 k).size)) := by
  simp [State.takeDesc, hr, h1]

theorem State.takeDesc_entered (hr : (s.ring m 0 k).run = true) (h1 : s.check1 m (s.ring m 0 k).v1 (Desc.ofBytes b) = none) :
    s.takeDesc m k b p = (s.entered m k (Desc.ofBytes b) p).judgeDesc m (s.ring m 0 k).v1 (Desc.ofBytes b) p := by
  unfold State.takeDesc
  dsimp only
  rw [hr, h1]
  rfl

end

/-! ### The read that is answered -/

/-- The state without its oldest read. -/
def State.readTaken (s : State) (rest : List Fetch) : State := { s with host := { s.host with reads := rest } }

section
variable {s : State} {f : Fetch} {rest : List Fetch} (hf : s.host.reads = f :: rest)
include hf

theorem execDescriptorReadDone_stopped (data : Option (List Byte)) (p : List (Option (List Byte))) (hr : (s.ring f.master 0 f.ring).run = false) :
    execDescriptorReadDone data p s = .next (s.readTaken rest) := by
  have h : ((s.readTaken rest).ring f.master 0 f.ring).run = false := hr
  simp only [execDescriptorReadDone, hf]
  exact if_pos (by rw [← Bool.not_eq_true'] at h; exact h)

theorem execDescriptorReadDone_failed (p : List (Option (List Byte))) (hr : (s.ring f.master 0 f.ring).run = true) :
    execDescriptorReadDone none p s = .next ((s.readTaken rest).ringError f.master 0 f.ring errFetch
      (some ((s.ring f.master 0 f.ring).elx % (s.ring f.master 0 f.ring).size))) := by
  have h : ¬ (!((s.readTaken rest).ring f.master 0 f.ring).run) = true := by
    rw [show ((s.readTaken rest).ring f.master 0 f.ring).run = true from hr]
    decide
  simp only [execDescriptorReadDone, hf]
  exact if_neg h

theorem execDescriptorReadDone_answered (bs : List Byte) (p : List (Option (List Byte))) (hr : (s.ring f.master 0 f.ring).run = true) :
    execDescriptorReadDone (some bs) p s = .next ((s.readTaken rest).takeDescs f.master f.ring
      (if (s.ring f.master 0 f.ring).v1 then 32 else 64) f.count bs p) := by
  have h : ¬ (!((s.readTaken rest).ring f.master 0 f.ring).run) = true := by
    rw [show ((s.readTaken rest).ring f.master 0 f.ring).run = true from hr]
    decide
  simp only [execDescriptorReadDone, hf]
  exact if_neg h

end

end Sys2Proof.Machine

open Sys2Proof.Machine in
/-- Settles O13: the read's ring is found in the order of service, and each of R96's checks decides what `takeDesc` answers. -/
theorem descriptorsFetchedAndChecked : Obligations.DescriptorsFetchedAndChecked := by
  intro s
  refine ⟨execDescriptorFetch_none s, execDescriptorFetch_some s, ?_, ?_, ?_, ?_, ?_⟩
  · intro data p hf
    simp [exec, execDescriptorReadDone, hf]
  · intro f rest p hf hr
    refine ⟨_, execDescriptorReadDone_failed hf p hr, ?_, rfl, ?_, rfl⟩
    · rw [State.ringError_ring]; rfl
    · have h := (s.readTaken rest).ringError_told f.master 0 f.ring errFetch (some ((s.ring f.master 0 f.ring).elx % (s.ring f.master 0 f.ring).size))
      rw [zero_mul, zero_add] at h
      exact h
  · intro f rest data p hf hr
    exact execDescriptorReadDone_stopped hf data p hr
  · intro f rest bs p hf hr
    exact execDescriptorReadDone_answered hf bs p hr
  intro f rest bs p hf hc hr v1 d
  have hx : exec (.descriptorReadDone (some bs) p) s =
      .next ((s.readTaken rest).takeDesc f.master f.ring (bs.take (if v1 then 32 else 64)) (p.head?.getD none)) := by
    refine (execDescriptorReadDone_answered hf bs p hr).trans ?_
    rw [hc]; rfl
  have hn (h1 : s.check1 f.master v1 d = none) := hx.trans (congrArg _ (State.takeDesc_entered (s := s.readTaken rest) hr h1))
  let e := (s.readTaken rest).entered f.master f.ring d (p.head?.getD none)
  have hc3 : e.check3 f.master d = s.check3 f.master d := State.check3_host s e.host f.master d
  have hc4 : e.check4 d = s.check4 d := State.check4_host s e.host d
  have hc6 : e.check6 d = s.check6 d := State.check6_host s e.host d
  have helx := State.entered_ring (s.readTaken rest) f.master f.ring d (p.head?.getD none)
  refine ⟨fun h => ?_, fun h1 h2 => ?_, fun h1 h2 h3 => ?_, fun h1 h2 h3 h4 => ?_, fun h1 h2 h3 h4 hi h6 => ?_, fun h1 h2 h3 h4 hi => ?_,
    fun h1 h2 h3 h4 hi h6 => ?_⟩
  · have h1 : s.check1 f.master v1 d = some errTagRange := if_pos h
    refine ⟨_, hx.trans (congrArg _ (State.takeDesc_check1 (s := s.readTaken rest) hr h1)), ?_, ?_, rfl⟩
    · rw [State.ringError_ring]; rfl
    · rw [State.ringError_ring]; rfl
  · exact ⟨_, (hn h1).trans (congrArg _ (State.judgeDesc_check2 h2)), _, rfl, rfl, rfl, rfl, rfl⟩
  · exact ⟨_, (hn h1).trans (congrArg _ (State.judgeDesc_check3 h2 (hc3.trans h3))), _, rfl, rfl, rfl, rfl, rfl⟩
  · exact ⟨_, (hn h1).trans (congrArg _ (State.judgeDesc_check4 h2 (hc3.trans h3) (hc4.trans h4))), _, rfl, rfl, rfl, rfl, rfl⟩
  · have hj := State.judgeDesc_direct (p := p.head?.getD none) h2 (hc3.trans h3) (hc4.trans h4) hi
    rw [if_neg (by rw [Bool.not_eq_true]; exact hc6.trans h6)] at hj
    exact ⟨_, (hn h1).trans (congrArg _ hj), _, rfl, rfl, rfl, rfl⟩
  · obtain ⟨t, ht, hj⟩ := State.judgeDesc_taken (p := p.head?.getD none) h2 (hc3.trans h3) (hc4.trans h4)
    have hres : t.host.results = s.host.results := (congrArg HostState.results ht :)
    have hrng : (t.ring f.master 0 f.ring).elx = ((s.ring f.master 0 f.ring).elx + 1) % 65536 := by
      rw [State.ring, ht]; exact helx
    obtain ⟨ns, hj⟩ | ⟨st, hst, hj⟩ := hj
    · exact ⟨_, (hn h1).trans (congrArg _ hj), hrng, .inl hres⟩
    · exact ⟨_, (hn h1).trans (congrArg _ hj), hrng, .inr ⟨_, congrArg (· ++ _) hres, rfl, rfl, hst⟩⟩
  · have hj := State.judgeDesc_direct (p := p.head?.getD none) h2 (hc3.trans h3) (hc4.trans h4) hi
    rw [if_pos (hc6.trans h6), State.entered_holdStalls (s := s.readTaken rest) _ _ (State.opOf_of_check1 h1)] at hj
    refine ⟨_, (hn h1).trans (congrArg _ hj), _, rfl, rfl, rfl, rfl, rfl, rfl, rfl, ?_, rfl, rfl, rfl, rfl, rfl, helx, rfl⟩
    simp [State.descOp, Desc.payload, hi]

end

section
/-! SUPPORT. Bit fields that share no bit, writes through a window, and the control of a field engine (R168-R170, R193, R194). -/

namespace Sys2Proof.Machine

/-! ### Registers: the field just written, and the others -/

theorem natBit_natSetBit (n b : Nat) (v : Bool) : natBit (natSetBit n b v) b = v := by
  have hq := Nat.div_add_mod n (2 ^ b)
  have hr := Nat.mod_lt n (Nat.two_pow_pos b)
  have hn : natSetBit n b v = n % 2 ^ b + 2 ^ b * (n / 2 ^ b - n / 2 ^ b % 2 + bit v) := by
    have hb : bit (natBit n b) = n / 2 ^ b % 2 := by
      rcases Nat.mod_two_eq_zero_or_one (n / 2 ^ b) with h | h <;> simp [natBit, bit, Nat.shiftRight_eq_div_pow, h]
    have hle := Nat.mul_le_mul_left (2 ^ b) (Nat.mod_le (n / 2 ^ b) 2)
    rw [natSetBit, hb, Nat.mul_add, Nat.mul_sub, Nat.mul_comm _ (2 ^ b), Nat.mul_comm (bit v)]
    omega
  rw [natBit, Nat.shiftRight_eq_div_pow, hn, Nat.add_mul_div_left _ _ (Nat.two_pow_pos b), Nat.div_eq_of_lt hr]
  rcases Nat.mod_two_eq_zero_or_one (n / 2 ^ b) with h | h <;> cases v <;> simp [bit] <;> omega

theorem natBit_mod (n b w : Nat) (h : b < w) : natBit (n % 2 ^ w) b = natBit n b := by
  have ht (x : Nat) : natBit x b = x.testBit b := by
    simp [natBit, Nat.testBit, Nat.and_comm, Nat.and_one_is_mod]
  rw [ht, ht, Nat.testBit_mod_two_pow]
  simp [h]

theorem State.bitAt_putBit_same (s : State) (F : Fld) (b : Nat) (v : Bool) (hb : b + F.lo ≤ F.hi) (h32 : F.hi < 32) :
    (s.putBit F b v).bitAt F b = v := by
  rw [State.bitAt, State.putBit, State.get_put_same s F _ (by omega) h32, natBit_mod _ _ _ (by omega), natBit_natSetBit]

/-- Two fields share no bit. -/
def Fld.Apart (F G : Fld) : Prop := G.addr ≠ F.addr ∨ (F.lo ≤ F.hi ∧ F.hi < 32 ∧ (G.hi < F.lo ∨ F.hi < G.lo))

theorem State.get_put_of_apart (s : State) (F G : Fld) (v : Nat) (h : F.Apart G) : (s.put F v).get G = s.get G := by
  obtain h | ⟨hw, h32, hd⟩ := h
  · exact s.get_put_ne F G v h
  · exact s.get_put_apart F G v hw h32 hd

theorem State.flag_put_of_apart (s : State) (F G : Fld) (v : Nat) (h : F.Apart G) : (s.put F v).flag G = s.flag G :=
  congrArg (· != 0) (s.get_put_of_apart F G v h)
theorem State.flag_putB_of_apart (s : State) (F G : Fld) (v : Bool) (h : F.Apart G) : (s.putB F v).flag G = s.flag G :=
  s.flag_put_of_apart F G _ h
theorem State.flag_putBit_of_apart (s : State) (F G : Fld) (b : Nat) (v : Bool) (h : F.Apart G) : (s.putBit F b v).flag G = s.flag G :=
  s.flag_put_of_apart F G _ h
theorem State.bitAt_put_of_apart (s : State) (F G : Fld) (v b : Nat) (h : F.Apart G) : (s.put F v).bitAt G b = s.bitAt G b :=
  congrArg (natBit · b) (s.get_put_of_apart F G v h)
theorem State.bitAt_putB_of_apart (s : State) (F G : Fld) (v : Bool) (b : Nat) (h : F.Apart G) : (s.putB F v).bitAt G b = s.bitAt G b :=
  s.bitAt_put_of_apart F G _ b h
theorem State.flag_wr_ne (s : State) (a : Nat) (w : Word) (G : Fld) (h : G.addr ≠ a) : (s.wr a w).flag G = s.flag G := by
  rw [State.flag, State.get, s.rd_wr_ne a w h]; rfl
theorem State.bitAt_wr_ne (s : State) (a : Nat) (w : Word) (G : Fld) (b : Nat) (h : G.addr ≠ a) : (s.wr a w).bitAt G b = s.bitAt G b := by
  rw [State.bitAt, State.get, s.rd_wr_ne a w h]; rfl

theorem State.put_onlyRegs (s : State) (F : Fld) (v : Nat) : OnlyRegs s (s.put F v) [F.addr] := fun a ha =>
  s.rd_put_ne F v (by simpa using ha)

/-! ### Writes through a window (R464) -/

/-- A writer that reaches the block is answered by the row's own rule. -/
theorem State.windowWrite_live (s : State) (w : Writer) (block : Nat) (f : State → Out) (hr : s.running = true) (hl : s.writerLive w = true)
    (hw : w ≠ .service) : s.windowWrite w block f = f s := by
  simp [State.windowWrite, hr, hl, hw]

/-- A write with no effect where it reaches the block has none at all, but for the service path's count. -/
theorem State.windowWrite_idle (s : State) (w : Writer) (block : Nat) (f : State → Out) (hw : w ≠ .service) (hf : f s = .next s) :
    s.windowWrite w block f = .next s := by
  simp [State.windowWrite, hw, hf]

/-! ### Engines -/

@[simp] theorem State.eng_setEng_same (s : State) (n : Nat) (e : Engine) : (s.setEng n e).eng n = e := Sparse.get_set_same _ _ _ _
@[simp] theorem State.eng_setEng_ne (s : State) (n : Nat) (e : Engine) {m : Nat} (h : m ≠ n) : (s.setEng n e).eng m = s.eng m :=
  Sparse.get_set_ne _ _ _ _ h
@[simp] theorem State.eng_modEng_same (s : State) (n : Nat) (f : Engine → Engine) : (s.modEng n f).eng n = f (s.eng n) := s.eng_setEng_same _ _
@[simp] theorem State.eng_modEng_ne (s : State) (n : Nat) (f : Engine → Engine) {m : Nat} (h : m ≠ n) : (s.modEng n f).eng m = s.eng m :=
  s.eng_setEng_ne _ _ h

@[simp] theorem State.modEng_bitAt (s : State) (n : Nat) (f : Engine → Engine) (X : Fld) (b : Nat) : (s.modEng n f).bitAt X b = s.bitAt X b := rfl

theorem Engine.started_registers (e : Engine) (k : Nat) : e.started.fr k = 0 ∧ e.started.ir k = 0 := by
  refine ⟨rfl, ?_⟩
  unfold Engine.ir
  split <;> rfl

theorem R.FE_CTRL_ne_pairStatus {n : Nat} (hn : n < 8) : R.FE_CTRL n ≠ R.PAIR_STATUS := by simp only [R.FE_CTRL, R.PAIR_STATUS]; omega
theorem R.FE_STATUS_ne_pairStatus {n : Nat} (hn : n < 8) : R.FE_STATUS n ≠ R.PAIR_STATUS := by simp only [R.FE_STATUS, R.PAIR_STATUS]; omega
theorem R.FE_TICKNO_ne_pairStatus {n : Nat} (hn : n < 8) : R.FE_TICKNO n ≠ R.PAIR_STATUS := by simp only [R.FE_TICKNO, R.PAIR_STATUS]; omega

/-- The registers of an engine at its start: RUN and RUNNING set, the counters clear. -/
def State.startRegs (s : State) (n : Nat) : State :=
  (((((s.putB (R.FE_CTRL_RUN n) true).putB (R.FE_STATUS_RUNNING n) true).put (R.FE_STATUS_MISSED n) 0).put (R.FE_STATUS_EVT_DROP n) 0).put
    (R.FE_LOAD_MAX n) 0).wr (R.FE_TICKNO n) 0

@[simp] theorem State.startRegs_fe (s : State) (n : Nat) : (s.startRegs n).fe = s.fe := by simp -implicitDefEqProofs [State.startRegs]
@[simp] theorem State.showRegion_fe (s : State) (n : Nat) : (s.showRegion n).fe = s.fe := by simp -implicitDefEqProofs [State.showRegion]
theorem State.eng_of_fe {s t : State} (h : t.fe = s.fe) (n : Nat) : t.eng n = s.eng n := by rw [State.eng, h, State.eng]

/-- An engine at its start, before it is in service. -/
def State.startShown (s : State) (n : Nat) : State := ((s.startRegs n).modEng n Engine.started).showRegion n

theorem State.startShown_eng (s : State) (n : Nat) : (s.startShown n).eng n = (s.eng n).started := by
  rw [State.startShown, State.eng_of_fe (State.showRegion_fe _ n), State.eng_modEng_same, State.eng_of_fe (s.startRegs_fe n)]

theorem State.startShown_eng_ne (s : State) (n : Nat) {m : Nat} (h : m ≠ n) : (s.startShown n).eng m = s.eng m := by
  rw [State.startShown, State.eng_of_fe (State.showRegion_fe _ n), State.eng_modEng_ne _ _ _ h, State.eng_of_fe (s.startRegs_fe n)]

theorem State.startShown_rd (s : State) (n : Nat) : (s.startShown n).rd (R.FE_TICKNO n) = 0 := by
  rw [State.startShown, State.showRegion]
  rw [State.rd_put_ne, State.rd_put_ne, State.modEng_rd, State.startRegs, State.rd_wr_same] <;>
    simp [R.FE_TICKNO, R.FE_STATUS_BLEND_LEFT, R.FE_STATUS_REGION, R.FE_STATUS]

theorem State.startShown_run (s : State) (n : Nat) : (s.startShown n).flag (R.FE_CTRL_RUN n) = true := by
  rw [State.startShown, State.showRegion]
  rw [State.flag_put_of_apart, State.flag_put_of_apart, State.modEng_flag, State.startRegs, State.flag_wr_ne, State.flag_put_of_apart,
    State.flag_put_of_apart, State.flag_put_of_apart, State.flag_putB_of_apart, State.flag_putB_same] <;>
    simp [Fld.Apart, R.FE_CTRL_RUN, R.FE_CTRL, R.FE_TICKNO, R.FE_STATUS_BLEND_LEFT, R.FE_STATUS_REGION, R.FE_STATUS_MISSED,
      R.FE_STATUS_EVT_DROP, R.FE_STATUS_RUNNING, R.FE_LOAD_MAX, R.FE_LOAD, R.FE_STATUS]

theorem State.startShown_running (s : State) (n : Nat) : (s.startShown n).flag (R.FE_STATUS_RUNNING n) = true := by
  rw [State.startShown, State.showRegion]
  rw [State.flag_put_of_apart, State.flag_put_of_apart, State.modEng_flag, State.startRegs, State.flag_wr_ne, State.flag_put_of_apart,
    State.flag_put_of_apart, State.flag_put_of_apart, State.flag_putB_same] <;>
    simp [Fld.Apart, R.FE_TICKNO, R.FE_STATUS_BLEND_LEFT, R.FE_STATUS_REGION, R.FE_STATUS_MISSED,
      R.FE_STATUS_EVT_DROP, R.FE_STATUS_RUNNING, R.FE_LOAD_MAX, R.FE_LOAD, R.FE_STATUS]

theorem State.startShown_diverged (s : State) (n b : Nat) (hn : n < 8) :
    (s.startShown n).bitAt R.PAIR_STATUS_FE_DIVERGED b = s.bitAt R.PAIR_STATUS_FE_DIVERGED b := by
  rw [State.startShown, State.showRegion]
  rw [State.bitAt_put_of_apart, State.bitAt_put_of_apart, State.modEng_bitAt, State.startRegs, State.bitAt_wr_ne, State.bitAt_put_of_apart,
    State.bitAt_put_of_apart, State.bitAt_put_of_apart, State.bitAt_putB_of_apart, State.bitAt_putB_of_apart] <;>
    simp [Fld.Apart, R.FE_CTRL_RUN, R.FE_CTRL, R.FE_TICKNO, R.FE_STATUS_BLEND_LEFT, R.FE_STATUS_REGION, R.FE_STATUS_MISSED,
      R.FE_STATUS_EVT_DROP, R.FE_STATUS_RUNNING, R.FE_LOAD_MAX, R.FE_LOAD, R.FE_STATUS, R.PAIR_STATUS_FE_DIVERGED, R.PAIR_STATUS] <;> omega

/-- An engine that the user programs and that has not diverged is in service at once. -/
theorem State.startNow_user (s : State) (n : Nat) (hn : n < 8) (hp : (s.eng n).prog = .user) (hd : s.bitAt R.PAIR_STATUS_FE_DIVERGED n = false) :
    s.startNow n = (s.startShown n).putBit R.PAIR_STATUS_FE_IN_SERVICE n true := by
  have hprog : ((s.startShown n).eng n).prog = .user := by rw [s.startShown_eng]; exact hp
  have hps : (s.startShown n).programStart n = s.startShown n := by simp only [State.programStart, hprog]
  have hdiv := (s.startShown_diverged n n hn).trans hd
  rw [State.startShown, State.startRegs] at hps hdiv
  simp only [State.startNow, hps, hdiv, State.startShown, State.startRegs, Bool.not_false, if_true]

/-- From `s` to `t` nothing but the engines and the registers has changed. -/
def FeRegs (s t : State) : Prop := ∃ fe regs, t = { s with fe := fe, regs := regs }

theorem FeRegs.trans {s t u : State} (h : FeRegs s t) (k : FeRegs t u) : FeRegs s u := by
  obtain ⟨_, _, rfl⟩ := h
  obtain ⟨fe, regs, rfl⟩ := k
  exact ⟨fe, regs, rfl⟩

theorem FeRegs.frame {s t : State} (h : FeRegs s t) : t = { s with fe := t.fe, regs := t.regs } := by
  obtain ⟨_, _, rfl⟩ := h
  rfl

theorem State.wr_feRegs (s : State) (a : Nat) (w : Word) : FeRegs s (s.wr a w) := ⟨_, _, rfl⟩
theorem State.put_feRegs (s : State) (F : Fld) (v : Nat) : FeRegs s (s.put F v) := s.wr_feRegs _ _
theorem State.putB_feRegs (s : State) (F : Fld) (b : Bool) : FeRegs s (s.putB F b) := s.wr_feRegs _ _
theorem State.putBit_feRegs (s : State) (F : Fld) (b : Nat) (v : Bool) : FeRegs s (s.putBit F b v) := s.wr_feRegs _ _
theorem State.modEng_feRegs (s : State) (n : Nat) (f : Engine → Engine) : FeRegs s (s.modEng n f) := ⟨_, _, rfl⟩

theorem State.startRegs_feRegs (s : State) (n : Nat) : FeRegs s (s.startRegs n) :=
  (((((s.putB_feRegs _ _).trans (State.putB_feRegs _ _ _)).trans (State.put_feRegs _ _ _)).trans (State.put_feRegs _ _ _)).trans
    (State.put_feRegs _ _ _)).trans (State.wr_feRegs _ _ _)

theorem State.startShown_feRegs (s : State) (n : Nat) : FeRegs s (s.startShown n) :=
  (((s.startRegs_feRegs n).trans (State.modEng_feRegs _ _ _)).trans (State.put_feRegs _ _ _)).trans (State.put_feRegs _ _ _)

/-- What a start of the user's program leaves: the engine in service, at tick 0, with its registers clear. -/
theorem execFeRunStart_user (s : State) (n : Nat) (hn : n < 8) (hr : s.running = true) (hf : fePresent s.part n = true)
    (hrun : s.flag (R.FE_CTRL_RUN n) = false) (hs : (s.eng n).stopping = false) (hp : (s.eng n).prog = .user)
    (hd : s.bitAt R.PAIR_STATUS_FE_DIVERGED n = false) :
    execFeRunStart .steward n s = .next ((s.startShown n).putBit R.PAIR_STATUS_FE_IN_SERVICE n true) := by
  rw [execFeRunStart, State.windowWrite_live _ _ _ _ hr rfl (by decide)]
  simp [State.mayWrite, hf, hrun, State.startEngine, hs, s.startNow_user n hn hp hd]

/-- RUN rises again before a stop has taken place: the stop stands. -/
theorem execFeRunStart_stopping (s : State) (n : Nat) (hr : s.running = true) (hf : fePresent s.part n = true)
    (hrun : s.flag (R.FE_CTRL_RUN n) = false) (hs : (s.eng n).stopping = true) (hu : s.engineUp n = true) :
    execFeRunStart .steward n s = .next (s.putB (R.FE_CTRL_RUN n) true) := by
  rw [execFeRunStart, State.windowWrite_live _ _ _ _ hr rfl (by decide)]
  simp [State.mayWrite, hf, hrun, State.startEngine, hs, hu]

/-- A stop is asked for where no output is enabled. -/
theorem execFeRunStop_up (s : State) (n : Nat) (hr : s.running = true) (hf : fePresent s.part n = true)
    (hrun : s.flag (R.FE_CTRL_RUN n) = true) (hu : s.engineUp n = true) (he : ∀ u, u ∈ s.unitsOf n → s.enabled u = false) :
    execFeRunStop .steward n s = .next ((s.putB (R.FE_CTRL_RUN n) false).modEng n fun e => { e with stopping := true }) := by
  have hany : (s.unitsOf n).any s.enabled = false := by simpa using he
  rw [execFeRunStop, State.windowWrite_live _ _ _ _ hr rfl (by decide)]
  simp only [State.mayWrite, hf, Bool.and_self, if_true, State.askStop, hrun, hany, Bool.not_true, Bool.and_false, Bool.or_self, Bool.false_eq_true,
    if_false, hu]

/-- An enabled output holds RUN. -/
theorem State.askStop_enabled (s : State) (n u : Nat) (hc : s.engineChans n ≠ []) (hu : u ∈ s.unitsOf n) (he : s.enabled u = true) :
    s.askStop n = s := by
  have hany : (s.unitsOf n).any s.enabled = true := List.any_eq_true.mpr ⟨u, hu, he⟩
  simp [State.askStop, hc, hany]

/-! ### Parameter words (R168, R169) -/

theorem Engine.nextWord_staged_same (e : Engine) (p : Nat) (w : Word) : (e.staged p w).nextWord p = w := by
  have h : (e.stg.filter fun x => x.1 ≠ p).find? (fun x => x.1 == p) = none := by simp [List.find?_eq_none]
  simp only [Engine.nextWord, Engine.staged, List.find?_append, h]
  simp

theorem Engine.nextWord_staged_ne (e : Engine) (p : Nat) (w : Word) {q : Nat} (hq : q ≠ p) : (e.staged p w).nextWord q = e.nextWord q := by
  have h : (e.stg.filter fun x => x.1 ≠ p).find? (fun x => x.1 == q) = e.stg.find? (fun x => x.1 == q) := by
    rw [List.find?_filter]
    congr 1
    funext x
    by_cases hx : x.1 = q <;> simp [hx, hq]
  have hw : (e.staged p w).word q = e.word q := rfl
  simp only [Engine.nextWord, hw]
  simp only [Engine.staged, List.find?_append, h]
  simp [Ne.symm hq]

theorem State.stage_eng (s : State) (n p : Nat) (w : Word) : (s.stage n p w).eng n = (s.eng n).staged p w := s.eng_modEng_same _ _

/-- The owner host may write the words of a stopped engine below the state words. -/
def State.hostParams (s : State) (n : Nat) : Prop := s.owner = 0 ∧ s.flag (R.FE_CTRL_RUN n) = false ∧ s.md ≠ .commission

theorem State.paramTo_host (s : State) (n p : Nat) (v : Word) (h : s.hostParams n) (hp : p < 384) : s.paramTo .hostA n p v = s.stage n p v := by
  obtain ⟨ho, hrun, hm⟩ := h
  have h1 : ¬ 512 ≤ p := by omega
  have h2 : ¬ 384 ≤ p := by omega
  have h3 : ¬ 448 ≤ p := by omega
  simp [State.paramTo, State.paramOk, h1, h2, h3, State.isOwner, Writer.master, ho, hrun, State.storeWord, hm]

/-- The words of one beat, from index `i` on. -/
def State.paramsTo (s : State) (w : Writer) (n p : Nat) (vs : List (Word × Nat)) : State := s.each vs fun t x => t.paramTo w n (p + x.2) x.1

theorem State.paramsTo_host (n p : Nat) (vs : List Word) : ∀ (i : Nat) (s : State), s.hostParams n → p + i + vs.length ≤ 384 →
    (∀ k, k < vs.length → ((s.paramsTo .hostA n p (vs.zipIdx i)).eng n).nextWord (p + i + k) = vs.getD k 0) ∧
    (∀ q, q < p + i → ((s.paramsTo .hostA n p (vs.zipIdx i)).eng n).nextWord q = (s.eng n).nextWord q) ∧
    ((s.paramsTo .hostA n p (vs.zipIdx i)).eng n).act = (s.eng n).act ∧ ∃ fe, s.paramsTo .hostA n p (vs.zipIdx i) = { s with fe := fe } := by
  induction vs with
  | nil => exact fun i s _ _ => ⟨fun k hk => absurd hk (Nat.not_lt_zero k), fun _ _ => rfl, rfl, s.fe, rfl⟩
  | cons v vs ih =>
    intro i s h hl
    rw [List.length_cons] at hl
    have hstep : s.paramsTo .hostA n p ((v :: vs).zipIdx i) = (s.stage n (p + i) v).paramsTo .hostA n p (vs.zipIdx (i + 1)) := by
      rw [List.zipIdx_cons, State.paramsTo, State.each, List.foldl_cons, s.paramTo_host n (p + i) v h (by omega)]
      rfl
    obtain ⟨hnew, hold, hact, fe, hfe⟩ := ih (i + 1) (s.stage n (p + i) v) h (by omega)
    rw [hstep]
    refine ⟨fun k hk => ?_, fun q hq => ?_, ?_, fe, hfe⟩
    · cases k with
      | zero => rw [show p + i + 0 = p + i from rfl, hold (p + i) (by omega), s.stage_eng, Engine.nextWord_staged_same]; rfl
      | succ k =>
        have := hnew k (by simpa using hk)
        rw [show p + i + (k + 1) = p + (i + 1) + k by omega, this]
        rfl
    · rw [hold q (by omega), s.stage_eng, Engine.nextWord_staged_ne _ _ _ (by omega)]
    · rw [hact, s.stage_eng]; rfl

/-- The loop store's window over a patch. -/
theorem Sparse.get_tabulate {α : Type} [DecidableEq α] (d f : Nat → α) (l : List Nat) (m : Sparse α) (k : Nat) :
    Sparse.get d (l.foldl (fun m a => Sparse.set d m a (f a)) m) k = if k ∈ l then f k else Sparse.get d m k := by
  induction l generalizing m with
  | nil => simp
  | cons a l ih =>
    rw [List.foldl_cons, ih]
    by_cases ha : k = a
    · subst ha; simp
    · simp [ha]

theorem Engine.loopWord_past (e : Engine) (a : Nat) (h : (match e.prog.image with | some (_, k) => k | none => 0) ≤ a) :
    e.loopWord a = Sparse.get (always 0) e.loop a := by
  unfold Engine.loopWord
  split
  · next p n hi =>
    rw [hi] at h
    exact if_neg (Nat.not_lt.mpr h)
  · rfl

theorem Engine.patch_same (e : Engine) (a : Nat) (v : Word) : Sparse.get (always 0) (e.patch [(a, v)]).loop a = v := Sparse.get_set_same _ _ _ _

theorem Engine.patch_ne (e : Engine) (a : Nat) (v : Word) {k : Nat} (h : k ≠ a) :
    Sparse.get (always 0) (e.patch [(a, v)]).loop k = e.loopWord k := by
  refine (Sparse.get_set_ne _ _ _ _ h).trans ((Sparse.get_tabulate _ _ _ _ k).trans ?_)
  by_cases hk : k ∈ List.range (match e.prog.image with | some (_, k) => k | none => 0)
  · exact if_pos hk
  · exact (if_neg hk).trans (e.loopWord_past k (Nat.not_lt.mp fun hl => hk (List.mem_range.mpr hl))).symm

/-! ### What each row does with a write -/

section
variable {s : State} {w : Writer} {n : Nat} (hw : w ≠ .service)
include hw

theorem execFeRunStart_idle (h : fePresent s.part n = false ∨ s.flag (R.FE_CTRL_RUN n) = true) : execFeRunStart w n s = .next s :=
  State.windowWrite_idle _ _ _ _ hw (by obtain h | h := h <;> simp [h])

theorem execFeRunStop_idle (h : fePresent s.part n = false ∨ s.askStop n = s) : execFeRunStop w n s = .next s :=
  State.windowWrite_idle _ _ _ _ hw (by obtain h | h := h <;> simp [h])

theorem execFeEntryWrite_idle (p : Nat) (h : fePresent s.part n = false) : execFeEntryWrite w n p s = .next s :=
  State.windowWrite_idle _ _ _ _ hw (by simp [h])

theorem execFePstageHold_idle (b : Bool) (h : fePresent s.part n = false) : execFePstageHold w n b s = .next s :=
  State.windowWrite_idle _ _ _ _ hw (by simp [h])

theorem execFeParamWrite_absent (p : Nat) (vs : List Word) (h : fePresent s.part n = false) : execFeParamWrite w n p vs s = .next s :=
  State.windowWrite_idle _ _ _ _ hw (by simp [h])

/-- A word that is not the writer's takes no write. -/
theorem execFeParamWrite_idle (p : Nat) (v : Word) (hc : w.splitCore = false) (h : s.paramOk w n p = false) :
    execFeParamWrite w n p [v] s = .next s :=
  State.windowWrite_idle _ _ _ _ hw (by simp [hc, State.each, State.paramTo, h])

theorem execFeLoopStoreWrite_idle (a : Nat) (v : Word) (h : fePresent s.part n = false ∨ s.md = .drive) :
    execFeLoopStoreWrite w n a v s = .next s :=
  State.windowWrite_idle _ _ _ _ hw (by obtain h | h := h <;> simp [h])

variable (hr : s.running = true) (hf : fePresent s.part n = true) (hl : s.writerLive w = true)
include hr hf hl

theorem execFeEntryWrite_live (p : Nat) (hm : s.mayWrite w 0x08 = true) : execFeEntryWrite w n p s = .next (s.entryTo n p) := by
  rw [execFeEntryWrite, State.windowWrite_live _ _ _ _ hr hl hw]
  simp [hm, hf]

theorem execFePstageHold_live (b : Bool) (hm : s.mayWrite w 0x08 = true) :
    execFePstageHold w n b s = .next (s.putB (R.FE_CTRL_PSTAGE_HOLD n) b) := by
  rw [execFePstageHold, State.windowWrite_live _ _ _ _ hr hl hw]
  simp [hm, hf]

theorem execFeParamWrite_live (p : Nat) (vs : List Word) (hc : w.splitCore = false) :
    execFeParamWrite w n p vs s = .next (s.paramsTo w n p vs.zipIdx) := by
  rw [execFeParamWrite, State.windowWrite_live _ _ _ _ hr hl hw]
  simp [hf, hc, State.paramsTo]

theorem execFeLoopStoreWrite_live (a : Nat) (v : Word) (hm : s.mayWrite w 0x08 = true) (hmd : s.md = .service)
    (hrun : s.flag (R.FE_CTRL_RUN n) = false) (ha : a < 1024) :
    execFeLoopStoreWrite w n a v s = .next (s.modEng n fun e => e.patch [(a, v)]) := by
  rw [execFeLoopStoreWrite, State.windowWrite_live _ _ _ _ hr hl hw]
  simp [hm, hf, hmd, hrun, ha, State.loopTo]

end

end Sys2Proof.Machine

open Sys2Proof.Machine in
/-- Settles O32: each row's rule, and what the start, the stop and the staging words leave. -/
theorem fieldEngineControl : Obligations.FieldEngineControl := by
  intro s n hn
  refine ⟨?_, execFeRunStart_stopping s n, fun w hw hrun => execFeRunStart_idle hw (.inr hrun), ?_,
    fun w u hw hc hu he => execFeRunStop_idle hw (.inr (s.askStop_enabled n u hc hu he)), ?_, ?_, ?_, ?_, ?_, ?_, ?_,
    fun w a v hw hm => execFeLoopStoreWrite_idle hw a v (.inr hm), ?_⟩
  · intro hr hf hrun hs hp hd
    have hfe := State.putBit_fe (s.startShown n) R.PAIR_STATUS_FE_IN_SERVICE n true
    have heng : (((s.startShown n).putBit R.PAIR_STATUS_FE_IN_SERVICE n true).eng n) = (s.eng n).started :=
      (State.eng_of_fe hfe n).trans (s.startShown_eng n)
    refine ⟨_, execFeRunStart_user s n hn hr hf hrun hs hp hd, ?_, ?_, ?_, ?_, fun k => ?_, ?_, fun m hm => ?_, ?_⟩
    · exact (State.flag_putBit_of_apart _ _ _ _ _ (.inl (R.FE_CTRL_ne_pairStatus hn))).trans (s.startShown_run n)
    · exact (State.flag_putBit_of_apart _ _ _ _ _ (.inl (R.FE_STATUS_ne_pairStatus hn))).trans (s.startShown_running n)
    · exact (State.rd_put_ne _ _ _ (R.FE_TICKNO_ne_pairStatus hn)).trans (s.startShown_rd n)
    · exact State.bitAt_putBit_same _ _ _ _ (show n + 24 ≤ 31 by omega) (by decide)
    · rw [heng]
      exact Engine.started_registers _ k
    · rw [heng]
      rfl
    · exact (State.eng_of_fe hfe m).trans (s.startShown_eng_ne n hm)
    · exact ((s.startShown_feRegs n).trans (State.putBit_feRegs _ _ _ _)).frame
  · intro hr hf hrun hu he
    refine ⟨_, execFeRunStop_up s n hr hf hrun hu he, ?_, ?_, ?_, ?_⟩
    · exact (State.modEng_flag _ _ _ _).trans (State.flag_putB_same s (R.FE_CTRL_RUN n) false rfl (show 31 < 32 by decide))
    · rw [State.eng_modEng_same]
    · exact fun a ha => (State.modEng_rd _ _ _ _).trans (s.put_onlyRegs (R.FE_CTRL_RUN n) _ a ha)
    · exact ((s.putB_feRegs _ _).trans (State.modEng_feRegs _ _ _)).frame
  · intro p hr hf hpr
    refine ⟨s.put (R.FE_CTRL_ENTRY n) p, ?_, State.get_put_same s _ _ (show 16 ≤ 25 by decide) (show 25 < 32 by decide),
      State.put_onlyRegs s (R.FE_CTRL_ENTRY n) _, rfl⟩
    refine (execFeEntryWrite_live (by decide) hr hf rfl p rfl).trans ?_
    simp [State.entryTo, hpr]
  · intro h hr hf
    exact ⟨_, execFePstageHold_live (by decide) hr hf rfl h rfl, State.flag_putB_same s _ _ rfl (show 0 < 32 by decide),
      State.put_onlyRegs s (R.FE_CTRL_PSTAGE_HOLD n) _, rfl⟩
  · intro p vs hr hf ho hrun hp hm
    obtain ⟨hnew, -, hact, fe, hfe⟩ := State.paramsTo_host n p vs 0 s ⟨ho, hrun, hm⟩ hp
    refine ⟨_, execFeParamWrite_live (by decide) hr hf rfl p vs rfl, hnew, hact, ?_⟩
    rw [hfe]
  · intro p v hr hf hin h1 h2 hm
    refine ⟨s.stage n p v, ?_, ?_, rfl⟩
    · refine (execFeParamWrite_live (w := .wardenA) (by decide) hr hf hin p [v] rfl).trans ?_
      have h3 : ¬ 512 ≤ p := by omega
      have h4 : ¬ p ≤ 447 := by omega
      simp [State.paramsTo, State.each, State.paramTo, State.paramOk, h3, h4, Sys2Proof.Writer.isWarden, Sys2Proof.Writer.splitCore, Sys2Proof.Writer.stores]
    · rw [s.stage_eng, Engine.nextWord_staged_same]
  · intro p v h1 h2
    have h (w : Sys2Proof.Writer) : s.paramOk w n p = false := by simp [State.paramOk, h1, h2]
    exact ⟨execFeParamWrite_idle (by decide) p v rfl (h _), execFeParamWrite_idle (by decide) p v rfl (h _)⟩
  · intro p v h1
    exact execFeParamWrite_idle (by decide) p v rfl (by simp [State.paramOk, h1, Sys2Proof.Writer.isWarden])
  · intro a v hr hf hm hrun ha
    refine ⟨_, execFeLoopStoreWrite_live (by decide) hr hf rfl a v rfl hm hrun ha, ?_, ?_, fun k hk => ?_, rfl⟩
    · rw [s.eng_modEng_same, Engine.patch_same]
    · rw [s.eng_modEng_same]
      rfl
    · rw [s.eng_modEng_same, Engine.patch_ne _ _ _ hk]
  · intro w v p a hw hf
    exact ⟨execFeRunStart_idle hw (.inl hf), execFeRunStop_idle hw (.inl hf), execFeEntryWrite_idle hw p hf, execFePstageHold_idle hw true hf,
      execFeParamWrite_absent hw p [v] hf, execFeLoopStoreWrite_idle hw a v (.inl hf)⟩

end

section
/-! SUPPORT. What a stored write may change, the fields of a write, the set-up map's reads and the service path (R6, R128, R449, R462-R465). -/

namespace Sys2Proof.Machine

/-- A relation that holds for each step of a fold, and chains, holds for the fold. -/
theorem State.each_rel {α : Type} {r : State → State → Prop} (hr : ∀ s, r s s) (ht : ∀ {s t u}, r s t → r t u → r s u)
    {f : State → α → State} (l : List α) (hf : ∀ a ∈ l, ∀ s, r s (f s a)) (s : State) : r s (s.each l f) := by
  induction l generalizing s with
  | nil => exact hr s
  | cons a l ih => exact ht (hf a List.mem_cons_self s) (ih (fun b hb => hf b (List.mem_cons_of_mem a hb)) (f s a))

/-! ### A changed parameter set (R422, R439) -/

/-- What the Tally's reopening may change: the registers of its block, its own state, events, and the networks' note of a connection that has
left WAIT. -/
def TallyOnly (s t : State) : Prop :=
  (∀ a, a / 0x10000 ≠ 0x12 → t.rd a = s.rd a) ∧
    ∃ free regs host tally net, t = { s with free := free, regs := regs, host := host, tally := tally, net := net }

theorem TallyOnly.refl (s : State) : TallyOnly s s := ⟨fun _ _ => rfl, _, _, _, _, _, rfl⟩

theorem TallyOnly.trans {s t u : State} (h : TallyOnly s t) (k : TallyOnly t u) : TallyOnly s u := by
  obtain ⟨hr, _, _, _, _, _, rfl⟩ := h
  obtain ⟨kr, free, regs, host, tally, net, rfl⟩ := k
  exact ⟨fun a ha => (kr a ha).trans (hr a ha), free, regs, host, tally, net, rfl⟩

theorem TallyOnly.wr (s : State) (a : Nat) (w : Word) (h : a / 0x10000 = 0x12) : TallyOnly s (s.wr a w) :=
  ⟨fun _ hb => s.rd_wr_ne a w fun he => hb (he ▸ h), _, _, _, _, _, rfl⟩

theorem State.tallyShow_tallyOnly (s : State) (c : Nat) (hc : c < 32) : TallyOnly s (s.tallyShow c) := by
  unfold State.tallyShow
  exact ((TallyOnly.wr _ _ _ (by simp only [R.TALLY_CONN_STAT]; omega)).trans
    (TallyOnly.wr _ _ _ (by simp only [R.TALLY_CONN_LOST]; omega))).trans (TallyOnly.wr _ _ _ (by decide))

theorem State.tallySet_tallyOnly (s : State) (k c : Nat) (r : TallyRx) (hc : c < 32) : TallyOnly s (s.tallySet k c r) := by
  have hrx : TallyOnly s (s.setRx k c r) := ⟨fun _ _ => rfl, _, _, _, _, _, rfl⟩
  have hnet (t : State) (b : Bool) : TallyOnly t { t with net.leftWait := b } := ⟨fun _ _ => rfl, _, _, _, _, _, rfl⟩
  have hev (t : State) (x y : Nat) (c0 c1 c2 c3 : Option Word) : TallyOnly t (t.event x y c0 c1 c2 c3) := ⟨fun _ _ => rfl, _, _, _, _, _, rfl⟩
  have h1 := hrx.trans (State.tallyShow_tallyOnly (s.setRx k c r) c hc)
  unfold State.tallySet
  dsimp only
  split <;> split
  · exact (h1.trans (hnet _ _)).trans (hev _ _ _ _ _ _ _)
  · exact h1.trans (hev _ _ _ _ _ _ _)
  · exact h1.trans (hnet _ _)
  · exact h1

theorem State.tallyOpen_tallyOnly (s : State) (c : Nat) (hc : c < 32) : TallyOnly s (s.tallyOpen c) := by
  have htx (t : State) (x : TallyTx) : TallyOnly t (t.setTx c x) := ⟨fun _ _ => rfl, _, _, _, _, _, rfl⟩
  unfold State.tallyOpen
  dsimp only
  refine TallyOnly.trans ?_ (State.each_rel TallyOnly.refl TallyOnly.trans _ (fun k _ t => ?_) _)
  · split
    · exact htx _ _
    · exact TallyOnly.refl s
  · split
    · exact t.tallySet_tallyOnly k c _ hc
    · exact TallyOnly.refl t

theorem State.tallyClose_tallyOnly (s : State) (c : Nat) (hc : c < 32) : TallyOnly s (s.tallyClose c) := by
  refine State.each_rel TallyOnly.refl TallyOnly.trans _ (fun k _ t => ?_) s
  split
  · exact TallyOnly.refl t
  · exact t.tallySet_tallyOnly k c _ hc

theorem State.tallyReopen_tallyOnly (s : State) : TallyOnly s s.tallyReopen := by
  unfold State.tallyReopen
  split
  · refine State.each_rel TallyOnly.refl TallyOnly.trans _ (fun c hc t => ?_) s
    have hc : c < 32 := List.mem_range.mp hc
    refine (t.tallyClose_tallyOnly c hc).trans ?_
    unfold State.tallyFollow
    split
    · exact State.tallyOpen_tallyOnly _ c hc
    · exact State.tallyClose_tallyOnly _ c hc
  · exact TallyOnly.refl s

/-- What entering a write in the stored set may change: beside the reopening, the Ledger and its COMM_STATUS. -/
def Stored (s t : State) : Prop :=
  (∀ a, a / 0x10000 ≠ 0x12 → a ≠ R.LEDGER_COMM_STATUS → t.rd a = s.rd a) ∧
    ∃ free regs host led tally net, t = { s with free := free, regs := regs, host := host, led := led, tally := tally, net := net }

theorem Stored.refl (s : State) : Stored s s := ⟨fun _ _ _ => rfl, _, _, _, _, _, _, rfl⟩

theorem Stored.trans {s t u : State} (h : Stored s t) (k : Stored t u) : Stored s u := by
  obtain ⟨hr, _, _, _, _, _, _, rfl⟩ := h
  obtain ⟨kr, free, regs, host, led, tally, net, rfl⟩ := k
  exact ⟨fun a ha hc => (kr a ha hc).trans (hr a ha hc), free, regs, host, led, tally, net, rfl⟩

theorem TallyOnly.stored {s t : State} (h : TallyOnly s t) : Stored s t := by
  obtain ⟨hr, free, regs, host, tally, net, rfl⟩ := h
  exact ⟨fun a ha _ => hr a ha, free, regs, host, s.led, tally, net, rfl⟩

theorem Stored.putB (s : State) (F : Fld) (b : Bool) (h : F.addr = R.LEDGER_COMM_STATUS) : Stored s (s.putB F b) :=
  ⟨fun _ _ hc => s.rd_putB_ne F b (h ▸ hc), _, _, _, _, _, _, rfl⟩

theorem Stored.led (s : State) (l : LedgerState) : Stored s { s with led := l } := ⟨fun _ _ _ => rfl, _, _, _, _, _, _, rfl⟩

/-- CHANGED and CONFIRMED, before the connections reopen. -/
def State.markChanged (s : State) : State := (s.putB R.LEDGER_COMM_STATUS_CHANGED true).putB R.LEDGER_COMM_STATUS_CONFIRMED false

theorem State.setChanged_tallyOnly (s : State) : TallyOnly s.markChanged s.setChanged := State.tallyReopen_tallyOnly _

theorem State.setChanged_stored (s : State) : Stored s s.setChanged :=
  ((Stored.putB s _ _ rfl).trans (Stored.putB _ _ _ rfl)).trans s.setChanged_tallyOnly.stored

theorem State.setChanged_changed (s : State) :
    s.setChanged.flag R.LEDGER_COMM_STATUS_CHANGED = true ∧ s.setChanged.flag R.LEDGER_COMM_STATUS_CONFIRMED = false := by
  have hr : s.setChanged.rd R.LEDGER_COMM_STATUS = s.markChanged.rd R.LEDGER_COMM_STATUS := s.setChanged_tallyOnly.1 _ (by decide)
  have hflag (F : Fld) (h : F.addr = R.LEDGER_COMM_STATUS) : s.setChanged.flag F = s.markChanged.flag F := by
    rw [State.flag, State.get, h, hr, State.flag, State.get, h]
  rw [hflag _ rfl, hflag _ rfl, State.markChanged]
  refine ⟨?_, State.flag_putB_same _ _ _ rfl (by decide)⟩
  rw [State.flag_putB_of_apart _ _ _ _ (.inr (by decide))]
  exact State.flag_putB_same _ _ _ rfl (by decide)

theorem State.keepReg_stored (s before : State) (w : Sys2Proof.Writer) (a : Nat) : Stored s (s.keepReg before w a) := by
  unfold State.keepReg
  dsimp only
  split
  · exact (Stored.led _ _).trans (State.setChanged_stored _)
  · exact Stored.refl s

/-- A write that changed a field of the stored set marks the set as changed. -/
theorem State.keepReg_changed (s before : State) (w : Sys2Proof.Writer) (a : Nat) (hw : w.stores = true) (hm : before.md = .commission)
    (fd : FieldDef) (hf : fd ∈ before.fieldsAt a) (ht : fd.ty = .rws) (hne : before.get ⟨a, fd.hi, fd.lo⟩ ≠ s.get ⟨a, fd.hi, fd.lo⟩) :
    (s.keepReg before w a).flag R.LEDGER_COMM_STATUS_CHANGED = true ∧ (s.keepReg before w a).flag R.LEDGER_COMM_STATUS_CONFIRMED = false := by
  have hany : ((before.fieldsAt a).any fun fd => fd.ty = .rws && decide (before.get ⟨a, fd.hi, fd.lo⟩ ≠ s.get ⟨a, fd.hi, fd.lo⟩)) = true :=
    List.any_eq_true.mpr ⟨fd, hf, by simp [ht, hne]⟩
  unfold State.keepReg
  dsimp only
  rw [if_pos (by rw [hany, hw, hm]; rfl)]
  exact State.setChanged_changed _

/-- Outside COMMISSION the stored set takes nothing. -/
theorem State.keepReg_of_mode (s before : State) (w : Sys2Proof.Writer) (a : Nat) (hm : before.md ≠ .commission) : s.keepReg before w a = s := by
  simp [State.keepReg, hm]

/-- Nor from a writer whose writes are not stored. -/
theorem State.keepReg_of_writer (s before : State) (w : Sys2Proof.Writer) (a : Nat) (hw : w.stores = false) : s.keepReg before w a = s := by
  simp [State.keepReg, hw]

/-! ### Fields of a write (R6, R464) -/

/-- Outside COMMISSION a write leaves a register of RWS fields alone. -/
theorem State.applyWrite_rws (s : State) (a : Nat) (v : Word) (l : List FieldDef) (ok : FieldDef → Bool) (hm : s.md ≠ .commission)
    (hl : ∀ fd, fd ∈ l → fd.ty = .rws) : s.applyWrite a v l ok = s := by
  have h : (l.filter fun fd => ok fd && s.typeOk fd) = [] := by
    rw [List.filter_eq_nil_iff]
    intro fd hfd
    simp [State.typeOk, hl fd hfd, hm]
  rw [State.applyWrite, h, List.foldl_nil]

/-- In COMMISSION every field takes its part, where no condition of a chapter holds it. -/
theorem State.applyWrite_commission (s : State) (a : Nat) (v : Word) (l : List FieldDef) (ok : FieldDef → Bool) (hm : s.md = .commission)
    (hl : ∀ fd, fd ∈ l → ok fd = true) : s.applyWrite a v l ok = l.foldl (fun t fd => t.writeField a v fd) s := by
  have h : (l.filter fun fd => ok fd && s.typeOk fd) = l := by
    rw [List.filter_eq_self]
    intro fd hfd
    simp [State.typeOk, hl fd hfd, hm]
  rw [State.applyWrite, h]

/-- What a write of one field makes of it, and what it leaves. -/
theorem State.writeField_spec (s : State) (a : Nat) (v : Word) (fd : FieldDef) (hw : fd.lo ≤ fd.hi) (h32 : fd.hi < 32) :
    (s.writeField a v fd).get ⟨a, fd.hi, fd.lo⟩ =
      fieldValue fd.ty (s.get ⟨a, fd.hi, fd.lo⟩) (bitsOf v fd.hi fd.lo) % 2 ^ (fd.hi + 1 - fd.lo) ∧
    OnlyRegs s (s.writeField a v fd) [a] ∧ s.writeField a v fd = { s with regs := (s.writeField a v fd).regs } ∧
    ∀ hi lo, lo ≤ hi → hi < 32 → (hi < fd.lo ∨ fd.hi < lo) → (s.writeField a v fd).get ⟨a, hi, lo⟩ = s.get ⟨a, hi, lo⟩ :=
  ⟨s.get_put_same _ _ hw h32, s.put_onlyRegs ⟨a, fd.hi, fd.lo⟩ _, rfl, fun hi lo _ _ hd => s.get_put_apart _ ⟨a, hi, lo⟩ _ hw h32 hd⟩

/-! ### SYS_MODE_CFG -/

/-- The family of SYS_MODE_CFG. -/
def modeCfgFam : RegFam := ⟨.r_SYS_MODE_CFG, 0x28, 0x0, 1, 0, 0x14001E, [⟨23, 16, .rws⟩, ⟨9, 0, .rws⟩]⟩

theorem findReg_modeCfg : findReg R.SYS_MODE_CFG = some (modeCfgFam, 0) := by decide +kernel

/-- A write of SYS_MODE_CFG by the Steward cluster. -/
theorem execRegisterWrite_modeCfg (s : State) (v : Word) (hr : s.running = true) :
    execRegisterWrite .steward R.SYS_MODE_CFG v s = .next (((s.applyWrite R.SYS_MODE_CFG v modeCfgFam.fields
      (s.chapterOk .steward .r_SYS_MODE_CFG 0 v)).keepReg s .steward R.SYS_MODE_CFG)) := by
  have hlt : R.SYS_MODE_CFG < 0x1000000 := by decide
  simp only [execRegisterWrite, hlt, if_true, State.regWrite, hr, findReg_modeCfg]
  rfl

/-- Both fields as written. -/
def State.modeCfg (s : State) (v : Word) : State := (s.put R.SYS_MODE_CFG_EXIT_RAMP (bitsOf v 23 16)).put R.SYS_MODE_CFG_STBY_SPEED_MAX (bitsOf v 9 0)

theorem State.applyWrite_modeCfg (s : State) (v : Word) (hm : s.md = .commission) (h1 : 1 ≤ bitsOf v 23 16) (h2 : bitsOf v 9 0 ≤ 1000) :
    s.applyWrite R.SYS_MODE_CFG v modeCfgFam.fields (s.chapterOk .steward .r_SYS_MODE_CFG 0 v) = s.modeCfg v := by
  have h255 : bitsOf v 23 16 ≤ 255 := Nat.le_of_lt_succ (bitsOf_lt v 23 16)
  rw [s.applyWrite_commission _ _ _ _ hm]
  · rfl
  · intro fd hfd
    rcases List.mem_cons.mp hfd with rfl | hfd
    · simp [State.chapterOk, inRange, fieldRange, FieldDef.val, h1, h255]
    · obtain rfl := List.mem_singleton.mp hfd
      simp [State.chapterOk, inRange, fieldRange, FieldDef.val, h2]

theorem State.modeCfg_ramp (s : State) (v : Word) : (s.modeCfg v).get R.SYS_MODE_CFG_EXIT_RAMP = bitsOf v 23 16 := by
  rw [State.modeCfg, State.get_put_of_apart _ _ _ _ (.inr (by decide)), State.get_put_same _ _ _ (by decide) (by decide)]
  exact Nat.mod_eq_of_lt (bitsOf_lt v 23 16)

theorem State.modeCfg_speed (s : State) (v : Word) : (s.modeCfg v).get R.SYS_MODE_CFG_STBY_SPEED_MAX = bitsOf v 9 0 := by
  rw [State.modeCfg, State.get_put_same _ _ _ (by decide) (by decide)]
  exact Nat.mod_eq_of_lt (bitsOf_lt v 9 0)

theorem State.fieldsAt_modeCfg (s : State) : s.fieldsAt R.SYS_MODE_CFG = modeCfgFam.fields := by
  rw [State.fieldsAt, findReg_modeCfg]
  rfl

/-- A new value in one of the two fields marks the parameter set as changed. -/
theorem State.modeCfg_changed (s : State) (v : Word) (hm : s.md = .commission)
    (h : bitsOf (s.rd R.SYS_MODE_CFG) 23 16 ≠ bitsOf v 23 16 ∨ bitsOf (s.rd R.SYS_MODE_CFG) 9 0 ≠ bitsOf v 9 0) :
    ((s.modeCfg v).keepReg s .steward R.SYS_MODE_CFG).flag R.LEDGER_COMM_STATUS_CHANGED = true ∧
      ((s.modeCfg v).keepReg s .steward R.SYS_MODE_CFG).flag R.LEDGER_COMM_STATUS_CONFIRMED = false := by
  rcases h with h | h
  · refine State.keepReg_changed _ _ _ _ rfl hm ⟨23, 16, .rws⟩ (by simp [s.fieldsAt_modeCfg, modeCfgFam]) rfl ?_
    exact fun he => h (he.trans (s.modeCfg_ramp v))
  · refine State.keepReg_changed _ _ _ _ rfl hm ⟨9, 0, .rws⟩ (by simp [s.fieldsAt_modeCfg, modeCfgFam]) rfl ?_
    exact fun he => h (he.trans (s.modeCfg_speed v))

/-! ### Configuration space (R446, log 64) -/

/-- Doubleword `n` of port 0 as the host has written it. -/
def State.pcieWritten (s : State) (n : Nat) (v : Word) : State := { s with host.pcieCfg := Sparse.set (always 0) s.host.pcieCfg n v }

theorem execRegisterWrite_pcie (s : State) (n : Nat) (v : Word) (hr : s.running = true) (hn : n < 1024) :
    execRegisterWrite .hostA (0x2000000 + 4 * n) v s = .next (s.pcieWritten n v) := by
  have h1 : ¬ 0x2000000 + 4 * n < 0x1000000 := by omega
  have h2 : ¬ 0x2000000 + 4 * n < 0x1000400 := by omega
  have h3 : 0x2000000 ≤ 0x2000000 + 4 * n ∧ 0x2000000 + 4 * n < 0x2001000 := by omega
  have h4 : (0x2000000 + 4 * n) % 4 = 0 := by omega
  have h5 : 1024 * 0 + (0x2000000 + 4 * n - 0x2000000) / 4 = n := by omega
  rw [execRegisterWrite, if_neg h1, if_pos hr]
  simp only [State.portWrite, Sys2Proof.Writer.master]
  rw [if_neg (by simp [h4]), if_neg h2, if_pos h3, h5]
  rfl

theorem State.pcieCfgWord_written (s : State) (n : Nat) (v : Word) (h : 2 < n) : (s.pcieWritten n v).pcieCfgWord 0 n = v := by
  have hg : Sparse.get (always 0) (s.pcieWritten n v).host.pcieCfg (1024 * 0 + n) = v := by
    rw [Nat.zero_add]
    exact Sparse.get_set_same _ _ _ _
  unfold State.pcieCfgWord
  dsimp only
  split
  · omega
  · omega
  · exact hg

/-! ### Reads (R462, R463) -/

theorem findReg_tallyId : ∀ n < 32, ((findReg (R.TALLY_CONN_ID n)).map fun x => x.1.name) = some .r_TALLY_CONN_c_ID := by decide +kernel
theorem findReg_commAuth : ((findReg R.LEDGER_COMM_AUTH).map fun x => x.1.name) = some .r_LEDGER_COMM_AUTH := by decide +kernel

/-- The identity and authorisation registers read as 0. -/
theorem State.readReg_hidden (s : State) (a : Nat) (n : RegName) (hn : n = .r_TALLY_CONN_c_ID ∨ n = .r_LEDGER_COMM_AUTH)
    (h : ((findReg a).map fun x => x.1.name) = some n) : s.readReg a = 0 := by
  obtain ⟨⟨f, i⟩, hf, hname⟩ := Option.map_eq_some_iff.mp h
  unfold State.readReg
  rw [hf]
  dsimp only at hname ⊢
  rw [hname]
  split
  · rfl
  · obtain rfl | rfl := hn <;> rfl

/-! ### The service path (R128, R449) -/

theorem leNat_leBytes (n v : Nat) : leNat (leBytes n v) = v % 2 ^ (8 * n) := by
  induction n generalizing v with
  | zero => simp [leBytes, leNat, Nat.mod_one]
  | succ n ih =>
    rw [leBytes, leNat, ih, BitVec.toNat_ofNat, show 2 ^ (8 * (n + 1)) = 2 ^ 8 * 2 ^ (8 * n) by rw [← pow_add]; congr 1; omega, Nat.mod_mul]
    norm_num

theorem leBytes_length (n v : Nat) : (leBytes n v).length = n := by
  induction n generalizing v with
  | zero => rfl
  | succ n ih => rw [leBytes, List.length_cons, ih]

theorem wordBytes_length (w : Word) : (wordBytes w).length = 4 := leBytes_length 4 w.toNat

theorem leNat_wordBytes (w : Word) : leNat (wordBytes w) = w.toNat := (leNat_leBytes 4 w.toNat).trans (Nat.mod_eq_of_lt w.isLt)

/-- The header of a reply: its layout, the status, and ten bytes of the request. -/
def svcHead (q : List Byte) (status : Nat) : List Byte := [0x01#8, BitVec.ofNat 8 status] ++ ((q.drop 2).take 10 ++ List.replicate 10 0#8).take 10

theorem svcHead_length (q : List Byte) (status : Nat) : (svcHead q status).length = 12 := by simp [svcHead]

/-- The words that a read answers. -/
def State.svcWords (s : State) (a : Nat) (l : List Nat) : List Byte := l.foldr (fun k bs => wordBytes (s.readReg (a + 4 * k)) ++ bs) []

theorem State.svcWords_length (s : State) (a : Nat) (l : List Nat) : (s.svcWords a l).length = 4 * l.length := by
  induction l with
  | nil => rfl
  | cons k l ih => rw [State.svcWords, List.foldr_cons, List.length_append, wordBytes_length, List.length_cons, ← State.svcWords, ih]; omega

theorem State.svcWords_first (s : State) (a n : Nat) (hn : 1 ≤ n) : fieldAt (s.svcWords a (List.range n)) 0 4 = (s.readReg a).toNat := by
  obtain ⟨n, rfl⟩ := Nat.exists_eq_add_of_le' hn
  rw [List.range_succ_eq_map, State.svcWords, List.foldr_cons, fieldAt, List.drop_zero, List.take_append_of_le_length (by simp [wordBytes_length]),
    List.take_of_length_le (by simp [wordBytes_length]), leNat_wordBytes]
  rfl

/-- A reply's fields. -/
theorem svcReply_fields (q : List Byte) (status : Nat) (data : List Byte) :
    (svcReply q status data).length = 12 + data.length ∧ fieldAt (svcReply q status data) 1 1 = status % 256 ∧
      fieldAt (svcReply q status data) 12 4 = fieldAt data 0 4 := by
  have hr : svcReply q status data = svcHead q status ++ data := rfl
  refine ⟨by rw [hr, List.length_append, svcHead_length], by simp [svcReply, fieldAt, leNat], ?_⟩
  rw [hr, fieldAt, List.drop_append_of_le_length (by simp [svcHead_length]), List.drop_of_length_le (by simp [svcHead_length])]
  rfl

section
variable (s : State) (q : List Byte)

theorem State.svcServe_unknown (h : fieldAt q 0 1 ≠ 1) : s.svcServe q = (s, none) := by simp [State.svcServe, h]

/-- A request with a bad layout is answered with status 2. -/
theorem State.svcServe_bad (h : fieldAt q 0 1 = 1) (hb : fieldAt q 4 2 = 0 ∨ 64 < fieldAt q 4 2 ∨ fieldAt q 8 4 % 4 ≠ 0 ∨ 1 < fieldAt q 1 1) :
    s.svcServe q = (s, some (svcReply q 2 [])) := by
  unfold State.svcServe
  dsimp only
  rw [if_neg (not_not.mpr h), if_pos]
  simp only [Bool.or_eq_true, decide_eq_true_eq]
  tauto

variable (h : fieldAt q 0 1 = 1) (hn : 1 ≤ fieldAt q 4 2) (h64 : fieldAt q 4 2 ≤ 64) (ha : fieldAt q 8 4 % 4 = 0)
  (hlt : fieldAt q 8 4 + 4 * fieldAt q 4 2 ≤ 0x1000000)
include h hn h64 ha hlt

theorem State.svcServe_read (hop : fieldAt q 1 1 = 0) :
    s.svcServe q = (s, some (svcReply q 0 (s.svcWords (fieldAt q 8 4) (List.range (fieldAt q 4 2))))) := by
  have h0 : fieldAt q 4 2 ≠ 0 := by omega
  simp [State.svcServe, h, hop, ha, h0, Nat.not_lt.mpr h64, Nat.not_lt.mpr hlt, State.svcWords]

/-- A write that the service path may not make is refused whole. -/
theorem State.svcServe_refused (hop : fieldAt q 1 1 = 1) (hlen : 12 + 4 * fieldAt q 4 2 ≤ q.length)
    (hm : s.mayWrite .service (fieldAt q 8 4 / 0x10000) = false) :
    s.svcServe q = (s.satInc R.OWN_SVC_STAT_REFUSED, some (svcReply q 1 [])) := by
  have h0 : fieldAt q 4 2 ≠ 0 := by omega
  have hall : ((List.range (fieldAt q 4 2)).all fun k => s.mayWrite .service ((fieldAt q 8 4 + 4 * k) / 0x10000)) = false := by
    rw [List.all_eq_false]
    exact ⟨0, List.mem_range.mpr hn, by simpa using hm⟩
  simp [State.svcServe, h, hop, ha, h0, Nat.not_lt.mpr h64, Nat.not_lt.mpr hlt, Nat.not_lt.mpr hlen, hall]

end

/-- The oldest request is read, its stalls go back, and it is served. -/
theorem execServiceRequest_served (s : State) (m : Nat) (rest : List Nat) (hs left : List (Bool × Nat × Nat)) (t : State) (frame : List Byte)
    (u : State) (hq : s.net.svcMac = m :: rest) (hff : firstFrame (Sparse.get (always []) s.mkt.queues 56) = (hs, left))
    (hrd : State.readHandles { s with mkt.queues := Sparse.set (always []) s.mkt.queues 56 left, net.svcMac := rest } hs = (t, some frame))
    (hu : (t.each hs fun t h => t.freeStall 56 h.2.2) = u) :
    ((u.svcServe (etherType frame).2).2 = none → execServiceRequest s = .next (u.svcServe (etherType frame).2).1) ∧
    (∀ b, (u.svcServe (etherType frame).2).2 = some b → execServiceRequest s = .next
      ((u.svcServe (etherType frame).2).1.sendFrame { path := 0x10 + m, what := 1, tag := fieldAt frame 6 6, bytes := b })) := by
  obtain ⟨⟨x, o⟩, ho⟩ : ∃ r, u.svcServe (etherType frame).2 = r := ⟨_, rfl⟩
  rw [ho]
  cases o with
  | none =>
    refine ⟨fun _ => ?_, fun b hb => (nomatch hb)⟩
    simp only [execServiceRequest, hq, hff, hrd, hu, ho]
  | some b =>
    refine ⟨fun hn => (nomatch hn), ?_⟩
    rintro _ ⟨⟩
    simp only [execServiceRequest, hq, hff, hrd, hu, ho]

/-! ### DISC_READ (R82) -/

theorem bytesOfWords_length (l : List Word) : (bytesOfWords l).length = 4 * l.length := by
  induction l with
  | nil => rfl
  | cons w l ih => rw [bytesOfWords, List.length_append, wordBytes_length, ih, List.length_cons]; omega

theorem State.recordBytes_length (s : State) (n : Nat) : (s.recordBytes n).length = 4 * n := by
  simp [State.recordBytes, bytesOfWords_length]

theorem execDiscRead_eq (s : State) (c : Cmd) (hs : s.startable c 0x6012 = true) (ht : c.target = 0x15) (hm : s.md.fromDiscover = true) :
    execDiscRead c s = if c.len < 4096 then .next (s.finish c .badParam) else .next (s.finishData c .ok (s.recordBytes 1024)) := by
  have h1 : s.targets c discTargets = true := by simp [State.targets, discTargets, ht]
  have h2 : s.modeOk 0x6012 true = true := by simp [State.modeOk, hm]
  rw [execDiscRead, State.command, if_pos hs, h1, h2]
  rfl

end Sys2Proof.Machine

open Sys2Proof.Machine in
/-- Settles O57: the register map's rules clause by clause, then the service path's, and DISC_READ. -/
theorem registersAndServicePath : Obligations.RegistersAndServicePath := by
  refine ⟨fun s => ⟨?_, ?_, ?_, ?_, ?_, ?_, ?_, ?_, ?_, ?_, ?_, ?_, ?_, ?_, ?_⟩, fun s => ⟨?_, ?_, ?_, ?_, ?_, ?_, ?_, ?_⟩⟩
  · intro w a v ha hf hw
    have h : s.regWrite w a v = s := by simp [State.regWrite, hf, hw]
    simp [exec, execRegisterWrite, ha, h]
  · intro w a v hr
    simp [exec, execRegisterWrite, State.regWrite, hr]
  · intro a v
    constructor <;> intro hin <;> simp [exec, execRegisterWrite, State.regWrite, State.portWrite, State.writerLive, hin, Sys2Proof.Writer.master]
  · intro w a v f i hr hl ha hsv hf hp
    have h : s.regWrite w a v = s.regWriteAt w a v f i := by
      unfold State.regWrite
      rw [hf, hr, hl]
      by_cases hw : w = .service
      · simp [hw, hsv hw, hp]
      · simp [hw, hp]
    simp [exec, execRegisterWrite, ha, h]
  · intro n v hr hn
    exact ⟨_, execRegisterWrite_pcie s n v hr hn, fun h2 => s.pcieCfgWord_written n v h2, rfl, rfl⟩
  · intro a v hr ha hm
    simp [exec, execRegisterWrite, State.regWrite, ha, hr, hm, State.writerLive]
  · intro w a v f i hm
    simp [State.plainWrite, hm]
  · intro a v fd hw h32
    exact s.writeField_spec a v fd hw h32
  · exact fun x y => ⟨rfl, rfl, rfl, rfl, rfl, rfl⟩
  · intro a v l ok hm hl
    exact s.applyWrite_rws a v l ok hm hl
  · intro v hm
    by_cases hr : s.running = true
    · refine (execRegisterWrite_modeCfg s v hr).trans ?_
      rw [State.keepReg_of_mode _ _ _ _ hm, s.applyWrite_rws _ _ _ _ hm]
      simp [modeCfgFam]
    · simp [exec, execRegisterWrite, State.regWrite, hr, R.SYS_MODE_CFG]
  · intro v hr hm h1 h2
    have hx := execRegisterWrite_modeCfg s v hr
    rw [s.applyWrite_modeCfg v hm h1 h2] at hx
    obtain ⟨hrd, _, _, _, _, _, _, he⟩ := (s.modeCfg v).keepReg_stored s .steward R.SYS_MODE_CFG
    have hrd := hrd R.SYS_MODE_CFG (by decide) (by decide)
    refine ⟨_, hx, ?_, ?_, ?_, ?_, fun _ hne => ?_⟩
    · rw [hrd]; exact s.modeCfg_ramp v
    · rw [hrd]; exact s.modeCfg_speed v
    · rw [he]; rfl
    · rw [he]; rfl
    · exact s.modeCfg_changed v hm hne
  · intro a hf
    simp [State.readReg, hf]
  · exact fun n hn => s.readReg_hidden _ _ (.inl rfl) (findReg_tallyId n hn)
  · exact s.readReg_hidden _ _ (.inr rfl) findReg_commAuth
  · intro hq
    simp [exec, execServiceRequest, hq]
  · intro m rest hs left t frame u hq hff hrd hu
    exact execServiceRequest_served s m rest hs left t frame u hq hff hrd hu
  · exact fun q h => s.svcServe_unknown q h
  · exact fun q h hb => s.svcServe_bad q h hb
  · intro q h hop hn h64 ha hlt
    obtain ⟨hl, hst, hw⟩ := svcReply_fields q 0 (s.svcWords (fieldAt q 8 4) (List.range (fieldAt q 4 2)))
    refine ⟨_, s.svcServe_read q h hn h64 ha hlt hop, ?_, hst, hw.trans (s.svcWords_first _ _ hn)⟩
    rw [hl, s.svcWords_length, List.length_range]
  · intro q h hop hn h64 ha hlt hlen hm
    exact s.svcServe_refused q h hn h64 ha hlt hop hlen hm
  · intro c hs ht hm hl
    exact ⟨(execDiscRead_eq s c hs ht hm).trans (if_neg (Nat.not_lt.mpr hl)), s.recordBytes_length 1024⟩
  · intro c hs ht hm hl
    exact (execDiscRead_eq s c hs ht hm).trans (if_pos hl)

end

section
/-! SUPPORT. Engines that take a sample, what follows a source, and the edges and indexes of an encoder (R179, R347-R350, R354). -/

namespace Sys2Proof.Machine

/-! ### Engines that take a sample (R179) -/

theorem State.each_modEng_ne {f : Engine → Engine} {n : Nat} (l : List Nat) (h : n ∉ l) (s : State) :
    (s.each l fun t m => t.modEng m f).eng n = s.eng n := by
  induction l generalizing s with
  | nil => rfl
  | cons m l ih =>
    obtain ⟨hm, hl⟩ := not_or.mp (mt List.mem_cons.mpr h)
    exact (ih hl (s.modEng m f)).trans (s.eng_modEng_ne m f hm)

/-- Each engine of the list has what the change gives it. -/
theorem State.each_modEng_mem {f : Engine → Engine} {p : Engine → Prop} (hp : ∀ e, p (f e)) {n : Nat} (l : List Nat) (h : n ∈ l) (s : State) :
    p ((s.each l fun t m => t.modEng m f).eng n) := by
  induction l generalizing s with
  | nil => cases h
  | cons m l ih =>
    by_cases hl : n ∈ l
    · exact ih hl (s.modEng m f)
    · obtain rfl : n = m := (List.mem_cons.mp h).resolve_right hl
      have he : ((s.modEng n f).each l fun t m => t.modEng m f).eng n = f (s.eng n) :=
        (State.each_modEng_ne l hl (s.modEng n f)).trans (s.eng_modEng_same n f)
      exact (congrArg p he).mpr (hp _)

/-- From `s` to `t` nothing but the engines has changed. -/
def FeOnly (s t : State) : Prop := ∃ fe, t = { s with fe := fe }

theorem FeOnly.refl (s : State) : FeOnly s s := ⟨_, rfl⟩

theorem FeOnly.trans {s t u : State} (h : FeOnly s t) (k : FeOnly t u) : FeOnly s u := by
  obtain ⟨_, rfl⟩ := h
  obtain ⟨fe, rfl⟩ := k
  exact ⟨fe, rfl⟩

theorem State.each_modEng_feOnly (f : Engine → Engine) (l : List Nat) (s : State) : FeOnly s (s.each l fun t m => t.modEng m f) :=
  State.each_rel FeOnly.refl FeOnly.trans l (fun _ _ _ => ⟨_, rfl⟩) s

theorem State.pushSample_feOnly (s : State) (src : Nat) (v : Word) (flags : Nat) : FeOnly s (s.pushSample src v flags) :=
  State.each_modEng_feOnly _ _ s
theorem State.staleSource_feOnly (s : State) (src : Nat) : FeOnly s (s.staleSource src) := State.each_modEng_feOnly _ _ s

theorem State.pushSample_samples (s : State) (src : Nat) (v : Word) (flags : Nat) {n : Nat} (h : n ∈ s.engines) :
    Sparse.get (always 0) ((s.pushSample src v flags).eng n).samples src = v :=
  State.each_modEng_mem (p := fun e => Sparse.get (always 0) e.samples src = v) (fun _ => Sparse.get_set_same _ _ _ _) _ h s

theorem State.staleSource_flags (s : State) (src : Nat) {n : Nat} (h : n ∈ s.engines) :
    Sparse.get (always 0) ((s.staleSource src).eng n).sampleFlags src = 4 :=
  State.each_modEng_mem (p := fun e => Sparse.get (always 0) e.sampleFlags src = 4) (fun e => Sparse.get_set_same (always 0) e.sampleFlags src 4) _ h s

/-! ### Records -/

theorem State.raise_raised (s : State) (code sev unit : Nat) : Raised s (s.raise code sev unit) code sev unit :=
  ⟨_, rfl, rfl, rfl, rfl, rfl, rfl⟩

/-- A record raised after a change that leaves the Ledger, the time and the sequence number. -/
theorem Raised.after {s t u : State} {code sev unit : Nat} (h : Raised t u code sev unit) (hl : t.led = s.led) (ha : t.atime = s.atime)
    (hq : t.rd R.LEDGER_SEQ = s.rd R.LEDGER_SEQ) : Raised s u code sev unit := by
  obtain ⟨r, h1, h2, h3, h4, h5, h6⟩ := h
  exact ⟨r, by rw [h1, hl], h2, h3, h4, h5.trans ha, by rw [h6, hq]⟩

theorem State.raise_onlyRegs (s : State) (code sev unit : Nat) (c0 c1 : Option Word) : OnlyRegs s (s.raise code sev unit c0 c1) [R.LEDGER_SEQ] :=
  fun _ ha => s.rd_wr_ne _ _ (by simpa using ha)

theorem OnlyRegs.trans {s t u : State} {l : List Nat} (h : OnlyRegs s t l) (k : OnlyRegs t u l) : OnlyRegs s u l :=
  fun a ha => (k a ha).trans (h a ha)

theorem OnlyRegs.mono {s t : State} {l l' : List Nat} (h : OnlyRegs s t l) (hl : ∀ a ∈ l, a ∈ l') : OnlyRegs s t l' :=
  fun a ha => h a fun hm => ha (hl a hm)

/-! ### The emulated outputs (R354) -/

/-- What following a source may change: the outputs, their registers, and the Ledger with the records of what they cannot follow. -/
def EmuOnly (s t : State) : Prop :=
  (∀ a, a / 0x100 ≠ 0xF05 → a ≠ R.LEDGER_SEQ → t.rd a = s.rd a) ∧
    ∃ free regs led emus, t = { s with free := free, regs := regs, led := led, mot := { s.mot with emus := emus } }

theorem EmuOnly.refl (s : State) : EmuOnly s s := ⟨fun _ _ _ => rfl, _, _, _, _, rfl⟩

theorem EmuOnly.trans {s t u : State} (h : EmuOnly s t) (k : EmuOnly t u) : EmuOnly s u := by
  obtain ⟨hr, _, _, _, _, rfl⟩ := h
  obtain ⟨kr, free, regs, led, emus, rfl⟩ := k
  exact ⟨fun a ha hs => (kr a ha hs).trans (hr a ha hs), free, regs, led, emus, rfl⟩

theorem State.emuMove_emuOnly (s : State) (k : Nat) (target : Int) (budget : Nat) (hk : k < 2) : EmuOnly s (s.emuMove k target budget) := by
  have hset (t : State) (e : Emu) : EmuOnly t (t.setEmu k e) := ⟨fun _ _ _ => rfl, _, _, _, _, rfl⟩
  have hlag : EmuOnly s (s.putB (R.MOT_EMU_CFG_LAG k) true) := by
    refine ⟨fun a ha _ => s.rd_putB_ne _ _ fun h => ha ?_, _, _, _, _, rfl⟩
    rw [h]
    simp only [R.MOT_EMU_CFG_LAG, R.MOT_EMU_CFG]
    omega
  have hraise (t : State) : EmuOnly t (t.raise 0x0F06 0 0x0F) := ⟨fun _ _ hs => t.rd_wr_ne _ _ hs, _, _, _, _, rfl⟩
  unfold State.emuMove
  dsimp only
  split
  · exact hset _ _
  · generalize (if 0 ≤ target - (s.emu k).pos then (s.emu k).pos + Int.ofNat budget else (s.emu k).pos - Int.ofNat budget) = p
    split
    · exact hlag.trans (hset _ _)
    · exact (hlag.trans (hset _ _)).trans (hraise _)

theorem State.emuFollow_emuOnly (s : State) (src : Nat) (num : Int) (den cycles : Nat) : EmuOnly s (s.emuFollow src num den cycles) :=
  State.each_rel EmuOnly.refl EmuOnly.trans _ (fun k hk t => t.emuMove_emuOnly k _ _ (List.mem_range.mp (List.mem_filter.mp hk).1)) s

/-! ### Encoders (R347-R350) -/

@[simp] theorem State.enc_setEnc_same (s : State) (k : Nat) (e : Enc) : (s.setEnc k e).enc k = e := Sparse.get_set_same _ _ _ _

/-- What showing an interface, and telling its direction, may change: DIR_CHG and SPEED_VALID, samples, events, and what `EmuOnly` may. -/
structure EncNote (k : Nat) (s t : State) : Prop where
  rd : ∀ a, a ≠ R.MOT_ENC_STAT k → a / 0x100 ≠ 0xF05 → a ≠ R.LEDGER_SEQ → t.rd a = s.rd a
  stat : ∀ hi lo, hi < 2 ∨ 3 < lo → t.get ⟨R.MOT_ENC_STAT k, hi, lo⟩ = s.get ⟨R.MOT_ENC_STAT k, hi, lo⟩
  frame : ∃ free regs led host fe emus,
    t = { s with free := free, regs := regs, led := led, host := host, fe := fe, mot := { s.mot with emus := emus } }

namespace EncNote
variable {k : Nat} {s t u : State}

theorem trans (h : EncNote k s t) (g : EncNote k t u) : EncNote k s u := by
  obtain ⟨hr, hs, _, _, _, _, _, _, rfl⟩ := h
  obtain ⟨gr, gs, free, regs, led, host, fe, emus, rfl⟩ := g
  exact ⟨fun a h1 h2 h3 => (gr a h1 h2 h3).trans (hr a h1 h2 h3), fun hi lo h => (gs hi lo h).trans (hs hi lo h),
    free, regs, led, host, fe, emus, rfl⟩

/-- A bit of STAT between the two that an edge and an index decide. -/
theorem putB (s : State) (b : Nat) (v : Bool) (hb : b = 2 ∨ b = 3) : EncNote k s (s.putB ⟨R.MOT_ENC_STAT k, b, b⟩ v) := by
  refine ⟨fun a h _ _ => s.rd_putB_ne _ _ h, fun hi lo h => ?_, _, _, _, _, _, _, rfl⟩
  exact s.get_put_of_apart _ _ _ (.inr ⟨le_rfl, show b < 32 by omega, show hi < b ∨ b < lo by omega⟩)

theorem of_feOnly (h : FeOnly s t) : EncNote k s t := by
  obtain ⟨fe, rfl⟩ := h
  exact ⟨fun _ _ _ _ => rfl, fun _ _ _ => rfl, _, _, _, _, _, _, rfl⟩

theorem event (s : State) (code source : Nat) (c0 c1 c2 c3 : Option Word) : EncNote k s (s.event code source c0 c1 c2 c3) :=
  ⟨fun _ _ _ _ => rfl, fun _ _ _ => rfl, _, _, _, _, _, _, rfl⟩

theorem of_emuOnly (hk : k < 4) (h : EmuOnly s t) : EncNote k s t := by
  obtain ⟨hr, free, regs, led, emus, rfl⟩ := h
  refine ⟨fun a _ h2 h3 => hr a h2 h3, fun hi lo _ => ?_, free, regs, led, _, _, emus, rfl⟩
  exact congrArg (bitsOf · hi lo) (hr _ (by simp only [R.MOT_ENC_STAT]; omega) (by simp only [R.MOT_ENC_STAT, R.LEDGER_SEQ]; omega))

theorem onlyIf (b : Bool) (h : EncNote k s t) : EncNote k s (if b then t else s) := by
  cases b
  · exact of_feOnly (FeOnly.refl s)
  · exact h

theorem enc (h : EncNote k s t) : t.enc k = s.enc k := by
  obtain ⟨-, -, _, _, _, _, _, _, rfl⟩ := h
  rfl

theorem mem (h : EncNote k s t) : t.mem = s.mem := by
  obtain ⟨-, -, _, _, _, _, _, _, rfl⟩ := h
  rfl

theorem edge (h : EncNote k s t) : t.edge = s.edge := by
  obtain ⟨-, -, _, _, _, _, _, _, rfl⟩ := h
  rfl

theorem flag (h : EncNote k s t) (b : Nat) (hb : b < 2 ∨ 3 < b) : t.flag ⟨R.MOT_ENC_STAT k, b, b⟩ = s.flag ⟨R.MOT_ENC_STAT k, b, b⟩ :=
  congrArg (· != 0) (h.stat b b hb)

end EncNote

/-- The interface shown is samples and SPEED_VALID. -/
theorem State.encShow_eq (s : State) (k : Nat) :
    ∃ t, FeOnly s t ∧ s.encShow k = t.putB (R.MOT_ENC_STAT_SPEED_VALID k) (!fIsZero (s.enc k).speed) := by
  exact ⟨_, (s.pushSample_feOnly _ _ _).trans (State.pushSample_feOnly _ _ _ _), rfl⟩

theorem State.encShow_note (s : State) (k : Nat) : EncNote k s (s.encShow k) := by
  obtain ⟨t, ht, he⟩ := s.encShow_eq k
  rw [he]
  exact (EncNote.of_feOnly ht).trans (EncNote.putB t 3 _ (.inr rfl))

/-- The registers of a legal edge: COUNT moves, STANDSTILL clears, DIR is the edge's. -/
def State.encCounted (s : State) (k : Nat) (rev : Bool) : State :=
  ((s.wr (R.MOT_ENC_COUNT k) (s.rd (R.MOT_ENC_COUNT k) + BitVec.ofInt 32 (if rev then -1 else 1))).putB (R.MOT_ENC_STAT_STANDSTILL k) false).putB
    (R.MOT_ENC_STAT_DIR k) rev

theorem State.encCounted_count (s : State) (k : Nat) (rev : Bool) :
    (s.encCounted k rev).rd (R.MOT_ENC_COUNT k) = s.rd (R.MOT_ENC_COUNT k) + BitVec.ofInt 32 (if rev then -1 else 1) := by
  have h : R.MOT_ENC_COUNT k ≠ R.MOT_ENC_STAT k := by simp only [R.MOT_ENC_COUNT, R.MOT_ENC_STAT]; omega
  rw [State.encCounted, State.rd_putB_ne _ _ _ h, State.rd_putB_ne _ _ _ h, State.rd_wr_same]

theorem State.encCounted_rd (s : State) (k : Nat) (rev : Bool) {a : Nat} (hs : a ≠ R.MOT_ENC_STAT k) (hc : a ≠ R.MOT_ENC_COUNT k) :
    (s.encCounted k rev).rd a = s.rd a := by
  rw [State.encCounted, State.rd_putB_ne _ _ _ hs, State.rd_putB_ne _ _ _ hs, State.rd_wr_ne _ _ _ hc]

theorem State.encCounted_dir (s : State) (k : Nat) (rev : Bool) : (s.encCounted k rev).flag (R.MOT_ENC_STAT_DIR k) = rev :=
  State.flag_putB_same _ _ _ rfl (show 0 < 32 by decide)

theorem State.encCounted_standstill (s : State) (k : Nat) (rev : Bool) : (s.encCounted k rev).flag (R.MOT_ENC_STAT_STANDSTILL k) = false :=
  (State.flag_putB_of_apart _ _ _ _ (.inr ⟨le_rfl, show 0 < 32 by decide, .inr (show 0 < 4 by decide)⟩)).trans
    (State.flag_putB_same _ _ _ rfl (show 4 < 32 by decide))

/-- A legal edge moves COUNT and DIR; the speed and what is told of the direction follow. -/
theorem State.encMove_note (s : State) (k : Nat) (a b rev : Bool) (dt : Nat) (hk : k < 4) :
    ∃ e : Enc, e.a = a ∧ e.b = b ∧ EncNote k ((s.encCounted k rev).setEnc k e) (s.encMove k a b rev dt) := by
  have hend (t : State) (n : Int) (d c : Nat) : EncNote k t ((t.encShow k).emuFollow k n d c) :=
    (t.encShow_note k).trans (EncNote.of_emuOnly hk (State.emuFollow_emuOnly _ _ _ _ _))
  have hturn (t : State) (c0 c1 c2 : Option Word) : EncNote k t ((t.putB (R.MOT_ENC_STAT_DIR_CHG k) true).event 0x40F0 0x0F c0 c1 c2) :=
    (EncNote.putB t 2 true (.inl rfl)).trans (EncNote.event _ _ _ _ _ _ _)
  refine ⟨_, ?_, ?_, (EncNote.onlyIf _ (hturn _ _ _ _)).trans (hend _ _ _ _)⟩
  · dsimp only
    repeat' split
    all_goals rfl
  · dsimp only
    repeat' split
    all_goals rfl

theorem State.flag_of_rd {s t : State} (F : Fld) (h : t.rd F.addr = s.rd F.addr) : t.flag F = s.flag F := by
  rw [State.flag, State.get, h, State.flag, State.get]

theorem State.setEnc_rd (s : State) (k : Nat) (e : Enc) (a : Nat) : (s.setEnc k e).rd a = s.rd a := rfl
theorem State.setEnc_fe (s : State) (k : Nat) (e : Enc) : (s.setEnc k e).fe = s.fe := rfl
theorem State.enc_of_mot {s t : State} (h : t.mot = s.mot) (k : Nat) : t.enc k = s.enc k := by rw [State.enc, h, State.enc]

/-- One of the two levels has changed: one step forward, or one back. -/
theorem quad_legal (a b a' b' : Bool) (h : a ≠ a' ↔ b = b') :
    (quadPos a b + 4 - quadPos a' b') % 4 = 1 ∨ (quadPos a b + 4 - quadPos a' b') % 4 = 3 := by
  revert a b a' b'
  decide

/-- An interface is there, enabled, and its inputs reach it. -/
def State.encReached (s : State) (k : Nat) : Prop := k < 4 ∧ s.motLive = true ∧ s.flag (R.MOT_ENC_CFG_EN k) = true

theorem State.encReached_iff (s : State) (k : Nat) :
    ¬ (4 ≤ k ∨ (!s.motLive) = true ∨ (!s.flag (R.MOT_ENC_CFG_EN k)) = true) ↔ s.encReached k := by
  simp [State.encReached]

theorem execEncoderEdge_unreached (s : State) (k : Nat) (a b : Bool) (dt : Nat) (h : ¬ s.encReached k) : execEncoderEdge k a b dt s = .next s := by
  rw [← s.encReached_iff k, not_not] at h
  rw [execEncoderEdge, if_pos h]

theorem execEncoderIndex_unreached (s : State) (k : Nat) (h : ¬ s.encReached k) : execEncoderIndex k s = .next s := by
  rw [← s.encReached_iff k, not_not] at h
  rw [execEncoderIndex, if_pos (by tauto)]

section
variable {s : State} {k : Nat} (h : s.encReached k)
include h

theorem execEncoderEdge_same (dt : Nat) : execEncoderEdge k (s.enc k).a (s.enc k).b dt s = .next s := by
  rw [execEncoderEdge, if_neg ((s.encReached_iff k).mpr h)]
  simp

theorem execEncoderEdge_legal (a b : Bool) (dt : Nat) (hl : a ≠ (s.enc k).a ↔ b = (s.enc k).b) :
    execEncoderEdge k a b dt s = .next (s.encMove k a b ((quadPos a b + 4 - quadPos (s.enc k).a (s.enc k).b) % 4 = 3) dt) := by
  rw [execEncoderEdge, if_neg ((s.encReached_iff k).mpr h)]
  by_cases hb : b = (s.enc k).b
  · simp [hb, hl.mpr hb]
  · simp [hb, not_not.mp (mt hl.mp hb)]

theorem execEncoderEdge_illegal (a b : Bool) (dt : Nat) (ha : a ≠ (s.enc k).a) (hb : b ≠ (s.enc k).b) :
    execEncoderEdge k a b dt s = .next (s.encIllegal k a b) := by
  rw [execEncoderEdge, if_neg ((s.encReached_iff k).mpr h)]
  simp [ha, hb]

end

/-! ### Illegal transitions (R348) -/

/-- Only the converter's enable reaches a register when its unit is renewed. -/
theorem State.refreshUnit_edgeOnly (s : State) (u : Nat) (h : u ≠ unitConv) : EdgeOnly s (s.refreshUnit u) := by
  unfold State.refreshUnit
  rw [if_neg h]
  exact (s.dropForced_edgeOnly u).trans (EdgeOnly.each _ State.refreshChan_edgeOnly _ _)

theorem State.disable_edgeOnly (s : State) (u : Nat) (h : u ≠ unitConv) : EdgeOnly s (s.disable u) := by
  have hhold (t : State) : EdgeOnly t (t.hold u) := ⟨_, rfl⟩
  have hgrants (t : State) (g : List (Nat × Nat)) (y : List (Nat × Nat)) : EdgeOnly t { t with edge.grants := g, edge.synced := y } := ⟨_, rfl⟩
  exact (((((s.setLines_edgeOnly _ _ _).trans (State.setLines_edgeOnly _ _ _ _)).trans (hgrants _ _ _)).trans
    (State.refreshUnit_edgeOnly _ u h)).trans (hhold _))

theorem State.encQerr_edgeOnly (s : State) (k : Nat) : EdgeOnly (s.raise 0x0F01 1 0x0F) (s.encQerr k) := by
  refine State.each_rel EdgeOnly.refl EdgeOnly.trans _ (fun m hm t => t.disable_edgeOnly _ ?_) _
  have hm : m < nMotors s.part := List.mem_range.mp (List.mem_filter.mp hm).1
  have h4 : nMotors s.part ≤ 4 := by cases s.part <;> decide
  simp only [unitConv]
  omega

/-- Nothing more has happened, or the transitions were too many: a record, and bridges whose enables are removed. -/
def QerrOnly (t u : State) : Prop := u = t ∨ EdgeOnly (t.raise 0x0F01 1 0x0F) u

theorem QerrOnly.encQerr_if (p : Prop) [Decidable p] (t : State) (k : Nat) : QerrOnly t (if p then t.encQerr k else t) := by
  split
  · exact .inr (t.encQerr_edgeOnly k)
  · exact .inl rfl

theorem QerrOnly.rd {t u : State} (h : QerrOnly t u) : OnlyRegs t u [R.LEDGER_SEQ] := by
  obtain rfl | ⟨e, rfl⟩ := h
  · exact fun _ _ => rfl
  · exact t.raise_onlyRegs 0x0F01 1 0x0F none none

theorem QerrOnly.fe {t u : State} (h : QerrOnly t u) : u.fe = t.fe := by
  obtain rfl | ⟨e, rfl⟩ := h
  · rfl
  · exact t.raise_fe 0x0F01 1 0x0F none none

theorem QerrOnly.mot {t u : State} (h : QerrOnly t u) : u.mot = t.mot := by
  obtain rfl | ⟨e, rfl⟩ := h
  · rfl
  · exact t.raise_mot 0x0F01 1 0x0F none none

/-- The registers of an illegal transition. -/
def State.encQerrRegs (s : State) (k : Nat) : State := (s.satInc (R.MOT_ENC_STAT_QERR k)).putB (R.MOT_ENC_STAT_QERR_FLAG k) true

theorem State.encQerrRegs_rd (s : State) (k : Nat) : OnlyRegs s (s.encQerrRegs k) [R.MOT_ENC_STAT k] := by
  intro a ha
  have h : a ≠ R.MOT_ENC_STAT k := by simpa using ha
  exact (State.rd_putB_ne _ _ _ h).trans (State.rd_put_ne s _ _ h)

theorem State.encQerrRegs_flag (s : State) (k : Nat) : (s.encQerrRegs k).flag (R.MOT_ENC_STAT_QERR_FLAG k) = true :=
  State.flag_putB_same _ _ _ rfl (show 1 < 32 by decide)

@[simp] theorem State.encQerrRegs_fe (s : State) (k : Nat) : (s.encQerrRegs k).fe = s.fe := by simp -implicitDefEqProofs [State.encQerrRegs]

theorem State.encIllegal_qerrOnly (s : State) (k : Nat) (a b : Bool) :
    ∃ e : Enc, e.a = a ∧ e.b = b ∧ QerrOnly ((s.encQerrRegs k).setEnc k e) (s.encIllegal k a b) := by
  unfold State.encIllegal
  dsimp only
  refine ⟨_, ?_, ?_, QerrOnly.encQerr_if _ _ k⟩ <;> rfl

theorem State.encIllegal_spec (s : State) (k : Nat) (a b : Bool) (hk : k < 4) :
    (s.encIllegal k a b).flag (R.MOT_ENC_STAT_QERR_FLAG k) = true ∧ ((s.encIllegal k a b).enc k).a = a ∧ ((s.encIllegal k a b).enc k).b = b ∧
      OnlyRegs s (s.encIllegal k a b) [R.MOT_ENC_STAT k, R.LEDGER_SEQ] ∧ (s.encIllegal k a b).fe = s.fe := by
  obtain ⟨e, rfl, rfl, h⟩ := s.encIllegal_qerrOnly k a b
  have henc : (s.encIllegal k e.a e.b).enc k = e := (State.enc_of_mot h.mot k).trans (State.enc_setEnc_same _ k e)
  have hstat : (s.encIllegal k e.a e.b).rd (R.MOT_ENC_STAT k) = (s.encQerrRegs k).rd (R.MOT_ENC_STAT k) := by
    refine (h.rd _ ?_).trans (State.setEnc_rd _ _ _ _)
    simp only [R.MOT_ENC_STAT, R.LEDGER_SEQ, List.mem_singleton]
    omega
  refine ⟨?_, by rw [henc], by rw [henc], ?_, (h.fe.trans (State.setEnc_fe _ k e)).trans (s.encQerrRegs_fe k)⟩
  · exact (State.flag_of_rd (R.MOT_ENC_STAT_QERR_FLAG k) hstat).trans (s.encQerrRegs_flag k)
  · intro x hx
    obtain ⟨h1, h2⟩ : x ≠ R.MOT_ENC_STAT k ∧ x ≠ R.LEDGER_SEQ := by simpa using hx
    exact ((h.rd x (by simpa using h2)).trans (State.setEnc_rd _ _ _ _)).trans (s.encQerrRegs_rd k x (by simpa using h1))

/-! ### Index and standstill (R349, R350) -/

theorem State.encShow_onlyRegs (s : State) (k : Nat) : OnlyRegs s (s.encShow k) [R.MOT_ENC_STAT k] := by
  obtain ⟨t, ⟨fe, rfl⟩, he⟩ := s.encShow_eq k
  rw [he]
  intro a ha
  have h : a ≠ R.MOT_ENC_STAT k := by simpa using ha
  exact State.rd_putB_ne _ (R.MOT_ENC_STAT_SPEED_VALID k) _ h

theorem State.encShow_enc (s : State) (k : Nat) : (s.encShow k).enc k = s.enc k := (s.encShow_note k).enc

/-- An index that its gate admits. -/
theorem execEncoderIndex_gated (s : State) (k : Nat) (h : s.encReached k)
    (hg : s.flag (R.MOT_ENC_CFG_Z_GATE k) = false ∨ ((s.enc k).a = true ∧ (s.enc k).b = true)) :
    ∃ (e : Enc) (u : State), e.since = 0 ∧ e.indexed = true ∧ OnlyRegs (s.wr (R.MOT_ENC_INDEX k) (s.rd (R.MOT_ENC_COUNT k))) u [R.MOT_ENC_STAT k, R.LEDGER_SEQ] ∧
      execEncoderIndex k s = .next (if s.flag (R.MOT_ENC_CFG_INDEX_RESET k) then ((u.setEnc k e).wr (R.MOT_ENC_COUNT k) 0).encShow k else u.setEnc k e) := by
  have hc : ¬ (4 ≤ k ∨ (!s.motLive) = true ∨ (!s.flag (R.MOT_ENC_CFG_EN k)) = true ∨
      (s.flag (R.MOT_ENC_CFG_Z_GATE k) && !((s.enc k).a && (s.enc k).b)) = true) := by
    obtain ⟨h1, h2, h3⟩ := h
    rcases hg with hz | ⟨ha, hb⟩ <;> simp [*]
  have hbad (b : Bool) (t : State) : OnlyRegs t (if b then (t.satInc (R.MOT_ENC_STAT_IDX_ERR k)).raise 0x0F02 0 0x0F else t)
      [R.MOT_ENC_STAT k, R.LEDGER_SEQ] := by
    cases b
    · exact fun _ _ => rfl
    · intro x hx
      obtain ⟨h1, h2⟩ : x ≠ R.MOT_ENC_STAT k ∧ x ≠ R.LEDGER_SEQ := by simpa using hx
      exact (State.raise_onlyRegs _ _ _ _ _ _ x (by simpa using h2)).trans (State.rd_put_ne t _ _ h1)
  rw [execEncoderIndex, if_neg hc]
  refine ⟨_, _, ?_, ?_, hbad _ _, rfl⟩ <;> rfl

theorem State.encStill_late (s : State) (k : Nat) (h : 1000 * max 1 (s.get (R.MOT_ENC_CFG_STOP_TIME k)) ≤ s.since (s.enc k).lastAt) :
    ∃ e : Enc, fIsZero e.speed = true ∧ s.encStill k = ((s.putB (R.MOT_ENC_STAT_STANDSTILL k) true).setEnc k e).encShow k := by
  rw [State.encStill, if_pos h]
  exact ⟨{ s.enc k with speed := fZero false, ivals := [], need4 := false }, show fIsZero (fZero false) = true by decide, rfl⟩

end Sys2Proof.Machine

end

section
/-! SUPPORT. Every field of a register written, and the clauses of the encoders (R347-R350, R464). -/

namespace Sys2Proof.Machine

/-! ### Every field of a register written (R464) -/

/-- A write of the fields of a list. -/
def State.writeFields (s : State) (a : Nat) (v : Word) (l : List FieldDef) : State := l.foldl (fun t fd => t.writeField a v fd) s

theorem State.writeFields_rd (s : State) (a : Nat) (v : Word) (l : List FieldDef) : OnlyRegs s (s.writeFields a v l) [a] := by
  induction l generalizing s with
  | nil => exact fun _ _ => rfl
  | cons fd l ih => exact OnlyRegs.trans (s.put_onlyRegs ⟨a, fd.hi, fd.lo⟩ _) (ih (s.writeField a v fd))

/-- From `s` to `t` nothing but the registers has changed. -/
def RegsOnly (s t : State) : Prop := ∃ regs, t = { s with regs := regs }

theorem RegsOnly.trans {s t u : State} (h : RegsOnly s t) (k : RegsOnly t u) : RegsOnly s u := by
  obtain ⟨_, rfl⟩ := h
  obtain ⟨regs, rfl⟩ := k
  exact ⟨regs, rfl⟩

theorem RegsOnly.frame {s t : State} (h : RegsOnly s t) : t = { s with regs := t.regs } := by
  obtain ⟨_, rfl⟩ := h
  rfl

theorem State.wr_regsOnly (s : State) (a : Nat) (w : Word) : RegsOnly s (s.wr a w) := ⟨_, rfl⟩
theorem State.put_regsOnly (s : State) (F : Fld) (v : Nat) : RegsOnly s (s.put F v) := s.wr_regsOnly _ _
theorem State.putB_regsOnly (s : State) (F : Fld) (b : Bool) : RegsOnly s (s.putB F b) := s.wr_regsOnly _ _

theorem State.writeFields_regsOnly (s : State) (a : Nat) (v : Word) (l : List FieldDef) : RegsOnly s (s.writeFields a v l) := by
  induction l generalizing s with
  | nil => exact ⟨_, rfl⟩
  | cons fd l ih => exact (s.put_regsOnly ⟨a, fd.hi, fd.lo⟩ _).trans (ih (s.writeField a v fd))

/-- The field shares no bit with the bits from `lo` to `hi`. -/
def FieldDef.apart (fd : FieldDef) (hi lo : Nat) : Prop := fd.lo ≤ fd.hi ∧ fd.hi < 32 ∧ (hi < fd.lo ∨ fd.hi < lo)

theorem State.writeFields_apart (s : State) (a : Nat) (v : Word) (l : List FieldDef) (hi lo : Nat) (h : ∀ fd ∈ l, fd.apart hi lo) :
    (s.writeFields a v l).get ⟨a, hi, lo⟩ = s.get ⟨a, hi, lo⟩ := by
  induction l generalizing s with
  | nil => rfl
  | cons fd l ih =>
    exact (ih (s.writeField a v fd) fun x hx => h x (List.mem_cons_of_mem fd hx)).trans
      (s.get_put_of_apart ⟨a, fd.hi, fd.lo⟩ ⟨a, hi, lo⟩ _ (.inr (h fd List.mem_cons_self)))

/-- An RWS field takes its part of the write. -/
theorem State.writeFields_rws (s : State) (a : Nat) (v : Word) (l₁ l₂ : List FieldDef) (hi lo : Nat) (hw : lo ≤ hi) (h32 : hi < 32)
    (h : ∀ fd ∈ l₂, fd.apart hi lo) : (s.writeFields a v (l₁ ++ ⟨hi, lo, .rws⟩ :: l₂)).get ⟨a, hi, lo⟩ = bitsOf v hi lo := by
  rw [State.writeFields, List.foldl_append, List.foldl_cons]
  refine (State.writeFields_apart _ a v l₂ hi lo h).trans ((State.get_put_same _ ⟨a, hi, lo⟩ _ hw h32).trans ?_)
  exact Nat.mod_eq_of_lt (bitsOf_lt v hi lo)

theorem State.applyWrite_all (s : State) (a : Nat) (v : Word) (l : List FieldDef) (hm : s.md = .commission) :
    s.applyWrite a v l (fun _ => true) = s.writeFields a v l := s.applyWrite_commission a v l _ hm fun _ _ => rfl

theorem bitsOf_of_bitOf {v : Word} {b : Nat} (h : bitOf v b = true) : bitsOf v b b = 1 := by simpa [bitOf] using h
theorem bitsOf_of_not_bitOf {v : Word} {b : Nat} (h : bitOf v b = false) : bitsOf v b b = 0 := by
  have hlt := bitsOf_lt v b b
  have hne : bitsOf v b b ≠ 1 := by simpa [bitOf] using h
  have hw : b + 1 - b = 1 := by omega
  rw [hw] at hlt
  omega

/-- The registers of the Motion Gallery are not among those of a stored write. -/
theorem Stored.mot_rd {s t : State} (h : Stored s t) {a : Nat} (ha : a / 0x10000 = 0xF) : t.rd a = s.rd a :=
  h.1 a (by omega) fun he => by rw [he] at ha; exact absurd ha (by decide)

theorem Stored.mem {s t : State} (h : Stored s t) : t.mem = s.mem := by
  obtain ⟨-, _, _, _, _, _, _, rfl⟩ := h
  rfl

theorem Stored.edge {s t : State} (h : Stored s t) : t.edge = s.edge := by
  obtain ⟨-, _, _, _, _, _, _, rfl⟩ := h
  rfl

/-! ### ENCODER_ENABLE (R347, R464) -/

/-- The family of MOT_ENC_k_CFG. -/
def encCfgFam : RegFam :=
  ⟨.r_MOT_ENC_k_CFG, 0xF0100, 0x20, 4, 0, 0x83220, [⟨31, 31, .rws⟩, ⟨30, 30, .rws⟩, ⟨29, 29, .rws⟩, ⟨23, 16, .rws⟩, ⟨15, 8, .rws⟩, ⟨7, 4, .rws⟩]⟩

theorem findReg_encCfg : ∀ k < 4, findReg (R.MOT_ENC_CFG k) = some (encCfgFam, k) := by decide +kernel

theorem State.fieldsAt_encCfg (s : State) {k : Nat} (hk : k < 4) : s.fieldsAt (R.MOT_ENC_CFG k) = encCfgFam.fields := by
  rw [State.fieldsAt, findReg_encCfg k hk]
  rfl

/-- Outside COMMISSION a write of the configuration has no effect. -/
theorem State.encWrite_of_mode (s : State) {k : Nat} (v : Word) (hk : k < 4) (hm : s.md ≠ .commission) : s.encWrite k v = s := by
  have h : s.applyWrite (R.MOT_ENC_CFG k) v (s.fieldsAt (R.MOT_ENC_CFG k)) (fun _ => true) = s := by
    refine s.applyWrite_rws _ _ _ _ hm ?_
    rw [s.fieldsAt_encCfg hk]
    decide
  simp [State.encWrite, h]

/-- The registers of an interface as its enable rises. -/
def State.encEnabled (s : State) (k : Nat) (v : Word) : State :=
  ((((s.writeFields (R.MOT_ENC_CFG k) v encCfgFam.fields).wr (R.MOT_ENC_COUNT k) 0).put (R.MOT_ENC_STAT_QERR k) 0).put
    (R.MOT_ENC_STAT_IDX_ERR k) 0).putB (R.MOT_ENC_STAT_STANDSTILL k) true

theorem State.encCfg_en (s : State) (k : Nat) (v : Word) (h : bitOf v 31 = true) :
    (s.writeFields (R.MOT_ENC_CFG k) v encCfgFam.fields).flag (R.MOT_ENC_CFG_EN k) = true := by
  have hg : (s.writeFields (R.MOT_ENC_CFG k) v encCfgFam.fields).get (R.MOT_ENC_CFG_EN k) = bitsOf v 31 31 :=
    s.writeFields_rws _ v [] _ 31 31 le_rfl (by decide) (by simp [FieldDef.apart])
  rw [State.flag, hg, bitsOf_of_bitOf h]
  rfl

theorem State.encWrite_rise (s : State) {k : Nat} (v : Word) (hk : k < 4) (hm : s.md = .commission)
    (hen : s.flag (R.MOT_ENC_CFG_EN k) = false) (hv : bitOf v 31 = true) : ∃ e, s.encWrite k v = ((s.encEnabled k v).setEnc k e).encShow k := by
  have h : s.applyWrite (R.MOT_ENC_CFG k) v (s.fieldsAt (R.MOT_ENC_CFG k)) (fun _ => true) =
      s.writeFields (R.MOT_ENC_CFG k) v encCfgFam.fields := by
    rw [s.fieldsAt_encCfg hk, s.applyWrite_all _ _ _ hm]
  refine ⟨{ Enc.init with a := (s.enc k).a, b := (s.enc k).b }, ?_⟩
  simp only [State.encWrite, h, hen, s.encCfg_en k v hv, State.encEnabled, Bool.not_false, Bool.and_self, if_true]

theorem State.encEnabled_en (s : State) (k : Nat) (v : Word) (h : bitOf v 31 = true) : (s.encEnabled k v).flag (R.MOT_ENC_CFG_EN k) = true := by
  have hs : (R.MOT_ENC_CFG_EN k).addr ≠ R.MOT_ENC_STAT k := by simp only [R.MOT_ENC_CFG_EN, R.MOT_ENC_CFG, R.MOT_ENC_STAT]; omega
  have hc : (R.MOT_ENC_CFG_EN k).addr ≠ R.MOT_ENC_COUNT k := by simp only [R.MOT_ENC_CFG_EN, R.MOT_ENC_CFG, R.MOT_ENC_COUNT]; omega
  rw [State.encEnabled, State.flag_putB_of_apart _ _ _ _ (.inl hs), State.flag_put_of_apart _ _ _ _ (.inl hs),
    State.flag_put_of_apart _ _ _ _ (.inl hs), State.flag_wr_ne _ _ _ _ hc, s.encCfg_en k v h]

theorem State.encEnabled_count (s : State) (k : Nat) (v : Word) : (s.encEnabled k v).rd (R.MOT_ENC_COUNT k) = 0 := by
  have h : R.MOT_ENC_COUNT k ≠ R.MOT_ENC_STAT k := by simp only [R.MOT_ENC_COUNT, R.MOT_ENC_STAT]; omega
  rw [State.encEnabled, State.rd_putB_ne _ _ _ h, State.rd_put_ne _ _ _ h, State.rd_put_ne _ _ _ h, State.rd_wr_same]

theorem State.encEnabled_qerr (s : State) (k : Nat) (v : Word) : (s.encEnabled k v).get (R.MOT_ENC_STAT_QERR k) = 0 := by
  rw [State.encEnabled, State.putB, State.get_put_of_apart, State.get_put_of_apart, State.get_put_same]
  · rfl
  · exact (show 24 ≤ 31 by decide)
  · exact (show 31 < 32 by decide)
  · exact .inr ⟨show 16 ≤ 23 by decide, show 23 < 32 by decide, .inr (show 23 < 24 by decide)⟩
  · exact .inr ⟨le_rfl, show 4 < 32 by decide, .inr (show 4 < 24 by decide)⟩

theorem State.encEnabled_standstill (s : State) (k : Nat) (v : Word) : (s.encEnabled k v).flag (R.MOT_ENC_STAT_STANDSTILL k) = true :=
  State.flag_putB_same _ _ _ rfl (show 4 < 32 by decide)

theorem State.encEnabled_rd (s : State) (k : Nat) (v : Word) :
    OnlyRegs s (s.encEnabled k v) [R.MOT_ENC_CFG k, R.MOT_ENC_COUNT k, R.MOT_ENC_STAT k] := by
  intro a ha
  obtain ⟨h1, h2, h3⟩ : a ≠ R.MOT_ENC_CFG k ∧ a ≠ R.MOT_ENC_COUNT k ∧ a ≠ R.MOT_ENC_STAT k := by simpa using ha
  rw [State.encEnabled, State.rd_putB_ne _ _ _ h3, State.rd_put_ne _ _ _ h3, State.rd_put_ne _ _ _ h3, State.rd_wr_ne _ _ _ h2]
  exact s.writeFields_rd _ _ _ a (by simpa using h1)

theorem State.encEnabled_regsOnly (s : State) (k : Nat) (v : Word) : RegsOnly s (s.encEnabled k v) :=
  ((((s.writeFields_regsOnly _ _ _).trans (State.wr_regsOnly _ _ _)).trans (State.put_regsOnly _ _ _)).trans (State.put_regsOnly _ _ _)).trans
    (State.putB_regsOnly _ _ _)

/-- A write that has no right, at any interface. -/
theorem execEncoderEnable_noRight (s : State) (w : Sys2Proof.Writer) (k : Nat) (v : Word) (hm : s.mayWrite w 0x0F = false) (hw : w ≠ .service) :
    execEncoderEnable w k v s = .next s :=
  State.windowWrite_idle _ _ _ _ hw (by simp [hm])

theorem State.windowWrite_refused (s : State) (block : Nat) (f : State → Out) (hr : s.running = true) (hm : s.mayWrite .service block = false) :
    s.windowWrite .service block f = .next (s.satInc R.OWN_SVC_STAT_REFUSED) := by
  simp [State.windowWrite, hr, hm, State.writerLive]

/-- A write that reaches the block, by a writer with the right, is answered by the row's own rule. -/
theorem State.windowWrite_right (s : State) (w : Sys2Proof.Writer) (block : Nat) (f : State → Out) (hr : s.running = true)
    (hl : s.writerLive w = true) (hm : s.mayWrite w block = true) : s.windowWrite w block f = f s := by
  by_cases hw : w = .service
  · subst hw; simp [State.windowWrite, hr, hl, hm]
  · exact s.windowWrite_live w block f hr hl hw

/-- The three ways of a write through a window. -/
theorem State.windowWrite_cases (s : State) (w : Sys2Proof.Writer) (block : Nat) (f : State → Out) :
    s.windowWrite w block f = .next s ∨ s.windowWrite w block f = .next (s.satInc R.OWN_SVC_STAT_REFUSED) ∨ s.windowWrite w block f = f s := by
  unfold State.windowWrite
  split
  · exact .inl rfl
  · split
    · exact .inr (.inl rfl)
    · exact .inr (.inr rfl)

/-- Outside COMMISSION at most the refused write is counted. -/
theorem execEncoderEnable_of_mode (s : State) (w : Sys2Proof.Writer) (k : Nat) (v : Word) (hm : s.md ≠ .commission) :
    execEncoderEnable w k v s = .next s ∨ execEncoderEnable w k v s = .next (s.satInc R.OWN_SVC_STAT_REFUSED) := by
  refine (s.windowWrite_cases w 0x0F _).elim .inl fun h => h.elim .inr fun h => .inl (h.trans ?_)
  split
  · next hc =>
    have hk : k < 4 := by simp at hc; exact hc.1.1
    rw [s.encWrite_of_mode v hk hm, State.keepReg_of_mode _ _ _ _ hm]
  · rfl

theorem execEncoderEnable_right (s : State) (w : Sys2Proof.Writer) (k : Nat) (v : Word) (hk : k < 4) (hr : s.running = true)
    (hl : s.writerLive w = true) (hm : s.mayWrite w 0x0F = true) :
    execEncoderEnable w k v s = .next ((s.encWrite k v).keepReg s w (R.MOT_ENC_CFG k)) := by
  rw [execEncoderEnable, s.windowWrite_right w _ _ hr hl hm]
  simp [hk, hr, hm]

/-! ### The encoder clauses -/

theorem State.setEnc_get (s : State) (k : Nat) (e : Enc) (F : Fld) : (s.setEnc k e).get F = s.get F := rfl

/-- What a legal edge leaves, after the interface is shown. -/
theorem State.encMove_spec (s : State) (k : Nat) (a b rev : Bool) (dt : Nat) (hk : k < 4) :
    let t := s.encMove k a b rev dt
    t.rd (R.MOT_ENC_COUNT k) = s.rd (R.MOT_ENC_COUNT k) + BitVec.ofInt 32 (if rev then -1 else 1) ∧ t.flag (R.MOT_ENC_STAT_DIR k) = rev ∧
      t.flag (R.MOT_ENC_STAT_STANDSTILL k) = false ∧ (t.enc k).a = a ∧ (t.enc k).b = b ∧
      (∀ j, j < 4 → j ≠ k → t.rd (R.MOT_ENC_COUNT j) = s.rd (R.MOT_ENC_COUNT j)) ∧ t.mem = s.mem ∧ t.edge = s.edge := by
  obtain ⟨e, rfl, rfl, h⟩ := s.encMove_note k a b rev dt hk
  have henc := h.enc.trans (State.enc_setEnc_same _ k e)
  have hrd (j : Nat) (hj : j < 4) : (s.encMove k e.a e.b rev dt).rd (R.MOT_ENC_COUNT j) = (s.encCounted k rev).rd (R.MOT_ENC_COUNT j) := by
    refine (h.rd _ ?_ ?_ ?_).trans (State.setEnc_rd _ k e _) <;> simp only [R.MOT_ENC_COUNT, R.MOT_ENC_STAT, R.LEDGER_SEQ] <;> omega
  have hflag (x : Nat) (hx : x < 2 ∨ 3 < x) :
      (s.encMove k e.a e.b rev dt).flag ⟨R.MOT_ENC_STAT k, x, x⟩ = (s.encCounted k rev).flag ⟨R.MOT_ENC_STAT k, x, x⟩ :=
    (h.flag x hx).trans (State.flag_of_rd ⟨R.MOT_ENC_STAT k, x, x⟩ (State.setEnc_rd _ k e _))
  have hregs : RegsOnly s (s.encCounted k rev) := ((s.wr_regsOnly _ _).trans (State.putB_regsOnly _ _ _)).trans (State.putB_regsOnly _ _ _)
  have hset : ((s.encCounted k rev).setEnc k e).mem = s.mem ∧ ((s.encCounted k rev).setEnc k e).edge = s.edge := by
    obtain ⟨r, hr⟩ := hregs
    rw [hr]
    exact ⟨rfl, rfl⟩
  refine ⟨(hrd k hk).trans (s.encCounted_count k rev), (hflag 0 (.inl (by decide))).trans (s.encCounted_dir k rev),
    (hflag 4 (.inr (by decide))).trans (s.encCounted_standstill k rev), by rw [henc], by rw [henc], fun j hj hne => ?_,
    h.mem.trans hset.1, h.edge.trans hset.2⟩
  refine (hrd j hj).trans (s.encCounted_rd k rev ?_ ?_) <;> simp only [R.MOT_ENC_COUNT, R.MOT_ENC_STAT] <;> omega

theorem encoderEdge_legal (s : State) (k : Nat) (h : s.encReached k) (a b : Bool) (dt : Nat) (hl : a ≠ (s.enc k).a ↔ b = (s.enc k).b) :
    ∃ t, execEncoderEdge k a b dt s = .next t ∧
      t.rd (R.MOT_ENC_COUNT k) = s.rd (R.MOT_ENC_COUNT k) + (if (quadPos a b + 4 - quadPos (s.enc k).a (s.enc k).b) % 4 = 1 then 1 else -1) ∧
      t.flag (R.MOT_ENC_STAT_DIR k) = ((quadPos a b + 4 - quadPos (s.enc k).a (s.enc k).b) % 4 == 3) ∧
      t.flag (R.MOT_ENC_STAT_STANDSTILL k) = false ∧ (t.enc k).a = a ∧ (t.enc k).b = b ∧
      (∀ j, j < 4 → j ≠ k → t.rd (R.MOT_ENC_COUNT j) = s.rd (R.MOT_ENC_COUNT j)) ∧ t.mem = s.mem ∧ t.edge = s.edge := by
  obtain ⟨hc, hd, hrest⟩ := s.encMove_spec k a b ((quadPos a b + 4 - quadPos (s.enc k).a (s.enc k).b) % 4 = 3) dt h.1
  refine ⟨_, execEncoderEdge_legal h a b dt hl, hc.trans ?_, hd, hrest⟩
  rcases quad_legal a b (s.enc k).a (s.enc k).b hl with hq | hq <;> rw [hq] <;> rfl

theorem encoderIndex_gated (s : State) (k : Nat) (h : s.encReached k)
    (hg : s.flag (R.MOT_ENC_CFG_Z_GATE k) = false ∨ ((s.enc k).a = true ∧ (s.enc k).b = true)) :
    ∃ t, execEncoderIndex k s = .next t ∧ t.rd (R.MOT_ENC_INDEX k) = s.rd (R.MOT_ENC_COUNT k) ∧ (t.enc k).since = 0 ∧ (t.enc k).indexed = true ∧
      t.rd (R.MOT_ENC_COUNT k) = (if s.flag (R.MOT_ENC_CFG_INDEX_RESET k) then 0 else s.rd (R.MOT_ENC_COUNT k)) ∧
      OnlyRegs s t [R.MOT_ENC_INDEX k, R.MOT_ENC_COUNT k, R.MOT_ENC_STAT k, R.LEDGER_SEQ] := by
  obtain ⟨e, u, hs, hi, hu, hx⟩ := execEncoderIndex_gated s k h hg
  have hk := h.1
  have hne : R.MOT_ENC_INDEX k ≠ R.MOT_ENC_COUNT k ∧ R.MOT_ENC_INDEX k ≠ R.MOT_ENC_STAT k ∧ R.MOT_ENC_COUNT k ≠ R.MOT_ENC_STAT k ∧
      R.MOT_ENC_INDEX k ≠ R.LEDGER_SEQ ∧ R.MOT_ENC_COUNT k ≠ R.LEDGER_SEQ := by
    simp only [R.MOT_ENC_INDEX, R.MOT_ENC_COUNT, R.MOT_ENC_STAT, R.LEDGER_SEQ]
    omega
  obtain ⟨h1, h2, h3, h4, h5⟩ := hne
  have huI : u.rd (R.MOT_ENC_INDEX k) = s.rd (R.MOT_ENC_COUNT k) := (hu _ (by simp [h2, h4])).trans (s.rd_wr_same _ _)
  have huC : u.rd (R.MOT_ENC_COUNT k) = s.rd (R.MOT_ENC_COUNT k) := (hu _ (by simp [h3, h5])).trans (s.rd_wr_ne _ _ h1.symm)
  have huO (a : Nat) (ha : a ∉ [R.MOT_ENC_INDEX k, R.MOT_ENC_COUNT k, R.MOT_ENC_STAT k, R.LEDGER_SEQ]) : u.rd a = s.rd a := by
    simp only [List.mem_cons, List.not_mem_nil, or_false, not_or] at ha
    exact (hu a (by simp [ha.2.2.1, ha.2.2.2])).trans (s.rd_wr_ne _ _ ha.1)
  refine ⟨_, hx, ?_⟩
  cases s.flag (R.MOT_ENC_CFG_INDEX_RESET k) with
  | false =>
    rw [if_neg Bool.false_ne_true, if_neg Bool.false_ne_true, State.enc_setEnc_same]
    exact ⟨huI, hs, hi, huC, huO⟩
  | true =>
    have hsh := State.encShow_onlyRegs ((u.setEnc k e).wr (R.MOT_ENC_COUNT k) 0) k
    have henc : (((u.setEnc k e).wr (R.MOT_ENC_COUNT k) 0).encShow k).enc k = e :=
      (State.encShow_enc _ k).trans ((State.enc_of_mot (State.wr_mot _ _ _) k).trans (State.enc_setEnc_same u k e))
    rw [if_pos rfl, if_pos rfl, henc]
    refine ⟨?_, hs, hi, ?_, fun a ha => ?_⟩
    · exact (hsh _ (by simp [h2])).trans ((State.rd_wr_ne _ _ _ h1).trans huI)
    · exact (hsh _ (by simp [h3])).trans (State.rd_wr_same _ _ _)
    · have ha' := ha
      simp only [List.mem_cons, List.not_mem_nil, or_false, not_or] at ha'
      exact (hsh a (by simp [ha'.2.2.1])).trans ((State.rd_wr_ne _ _ _ ha'.2.1).trans (huO a ha))

theorem encoderStandstill_late (s : State) (k : Nat) (hk : k < 4) (hr : s.running = true) (hen : s.flag (R.MOT_ENC_CFG_EN k) = true)
    (h : 1000 * max 1 (s.get (R.MOT_ENC_CFG_STOP_TIME k)) ≤ s.since (s.enc k).lastAt) :
    ∃ t, execEncoderStandstill k s = .next t ∧ t.flag (R.MOT_ENC_STAT_STANDSTILL k) = true ∧ t.flag (R.MOT_ENC_STAT_SPEED_VALID k) = false ∧
      fIsZero (t.enc k).speed = true ∧ OnlyRegs s t [R.MOT_ENC_STAT k] := by
  obtain ⟨e, he, hx⟩ := s.encStill_late k h
  have hc : ¬ (4 ≤ k ∨ (!s.running) = true ∨ (!s.flag (R.MOT_ENC_CFG_EN k)) = true) := by simp [hk, hr, hen]
  let u := (s.putB (R.MOT_ENC_STAT_STANDSTILL k) true).setEnc k e
  have hn : EncNote k u (u.encShow k) := u.encShow_note k
  have hu : u.enc k = e := State.enc_setEnc_same _ k e
  refine ⟨u.encShow k, ?_, ?_, ?_, ?_, fun a ha => ?_⟩
  · rw [execEncoderStandstill, if_neg hc, hx]
  · exact (hn.flag 4 (.inr (by decide))).trans ((State.flag_of_rd (R.MOT_ENC_STAT_STANDSTILL k) (State.setEnc_rd _ k e _)).trans
      (State.flag_putB_same s (R.MOT_ENC_STAT_STANDSTILL k) true rfl (show 4 < 32 by decide)))
  · obtain ⟨t, -, ht⟩ := u.encShow_eq k
    rw [ht, State.flag_putB_same _ _ _ rfl (show 3 < 32 by decide), hu, he]
    rfl
  · rw [hn.enc, hu, he]
  · exact (u.encShow_onlyRegs k a ha).trans ((State.setEnc_rd _ k e a).trans
      (s.rd_putB_ne _ _ (show a ≠ R.MOT_ENC_STAT k by simpa using ha)))

/-- EN rises: the interface starts anew, and the write is stored where its writer's are. -/
theorem encoderEnable_rise (s : State) (w : Sys2Proof.Writer) (k : Nat) (v : Word) (hk : k < 4) (hr : s.running = true)
    (hl : s.writerLive w = true) (hm : s.mayWrite w 0x0F = true) (hmd : s.md = .commission) (hen : s.flag (R.MOT_ENC_CFG_EN k) = false)
    (hv : bitOf v 31 = true) :
    ∃ t, execEncoderEnable w k v s = .next t ∧ t.flag (R.MOT_ENC_CFG_EN k) = true ∧ t.rd (R.MOT_ENC_COUNT k) = 0 ∧
      t.get (R.MOT_ENC_STAT_QERR k) = 0 ∧ t.flag (R.MOT_ENC_STAT_STANDSTILL k) = true ∧ t.mem = s.mem ∧ t.edge = s.edge ∧
      (w.stores = false → OnlyRegs s t [R.MOT_ENC_CFG k, R.MOT_ENC_COUNT k, R.MOT_ENC_STAT k]) := by
  obtain ⟨e, he⟩ := s.encWrite_rise v hk hmd hen hv
  have hn := ((s.encEnabled k v).setEnc k e).encShow_note k
  have hkeep := (s.encWrite k v).keepReg_stored s w (R.MOT_ENC_CFG k)
  rw [← he] at hn
  have hst (hi lo : Nat) (h : hi < 2 ∨ 3 < lo) :
      ((s.encWrite k v).keepReg s w (R.MOT_ENC_CFG k)).get ⟨R.MOT_ENC_STAT k, hi, lo⟩ = (s.encEnabled k v).get ⟨R.MOT_ENC_STAT k, hi, lo⟩ := by
    have hr := hkeep.mot_rd (a := R.MOT_ENC_STAT k) (by simp only [R.MOT_ENC_STAT]; omega)
    exact (congrArg (bitsOf · hi lo) hr).trans ((hn.stat hi lo h).trans (State.setEnc_get _ k e _))
  have hrd (a : Nat) (h1 : a ≠ R.MOT_ENC_STAT k) (h2 : a / 0x100 = 0xF01) :
      ((s.encWrite k v).keepReg s w (R.MOT_ENC_CFG k)).rd a = (s.encEnabled k v).rd a := by
    refine (hkeep.mot_rd (by omega)).trans ((hn.rd a h1 (by omega) ?_).trans (State.setEnc_rd _ k e a))
    simp only [R.LEDGER_SEQ]
    omega
  have hset : ((s.encEnabled k v).setEnc k e).mem = s.mem ∧ ((s.encEnabled k v).setEnc k e).edge = s.edge := by
    obtain ⟨r, hr⟩ := s.encEnabled_regsOnly k v
    rw [hr]
    exact ⟨rfl, rfl⟩
  refine ⟨_, execEncoderEnable_right s w k v hk hr hl hm, ?_, ?_, ?_, ?_, ?_, ?_, fun hw a ha => ?_⟩
  · refine (State.flag_of_rd (R.MOT_ENC_CFG_EN k) (hrd _ ?_ ?_)).trans (s.encEnabled_en k v hv) <;>
      simp only [R.MOT_ENC_CFG_EN, R.MOT_ENC_CFG, R.MOT_ENC_STAT] <;> omega
  · refine (hrd _ ?_ ?_).trans (s.encEnabled_count k v) <;> simp only [R.MOT_ENC_COUNT, R.MOT_ENC_STAT] <;> omega
  · exact (hst 31 24 (.inr (by decide))).trans (s.encEnabled_qerr k v)
  · exact congrArg (· != 0) (hst 4 4 (.inr (by decide))) |>.trans (s.encEnabled_standstill k v)
  · exact hkeep.mem.trans (hn.mem.trans hset.1)
  · exact hkeep.edge.trans (hn.edge.trans hset.2)
  · rw [State.keepReg_of_writer _ _ _ _ hw, he]
    have h3 : a ≠ R.MOT_ENC_STAT k := fun h => ha (by simp [h])
    exact (State.encShow_onlyRegs _ k a (by simpa using h3)).trans ((State.setEnc_rd _ k e a).trans (s.encEnabled_rd k v a ha))

end Sys2Proof.Machine

end

section
/-! SUPPORT. Hall sets, SENT receivers and resolvers (R351-R353). -/

namespace Sys2Proof.Machine

theorem execEncoderEnable_refused (s : State) (k : Nat) (v : Word) (hr : s.running = true) (hm : s.mayWrite .service 0x0F = false) :
    execEncoderEnable .service k v s = .next (s.satInc R.OWN_SVC_STAT_REFUSED) := s.windowWrite_refused 0x0F _ hr hm

theorem execResolverEnable_refused (s : State) (k : Nat) (v : Word) (hr : s.running = true) (hm : s.mayWrite .service 0x0F = false) :
    execResolverEnable .service k v s = .next (s.satInc R.OWN_SVC_STAT_REFUSED) := s.windowWrite_refused 0x0F _ hr hm

/-- A source that is STALE in every engine, with its record. -/
theorem State.staleSource_raise (s : State) (src code : Nat) :
    ((s.staleSource src).raise code 0 0x0F).mot = s.mot ∧
      (∀ n, n ∈ s.engines → Sparse.get (always 0) (((s.staleSource src).raise code 0 0x0F).eng n).sampleFlags src = 4) ∧
      Raised s ((s.staleSource src).raise code 0 0x0F) code 0 0x0F ∧ OnlyRegs s ((s.staleSource src).raise code 0 0x0F) [R.LEDGER_SEQ] := by
  have hflags (n : Nat) (hn : n ∈ s.engines) := s.staleSource_flags src hn
  obtain ⟨fe, h⟩ := s.staleSource_feOnly src
  have hrd (a : Nat) : (s.staleSource src).rd a = s.rd a := by rw [h]; rfl
  refine ⟨?_, fun n hn => ?_, (State.raise_raised _ _ _ _).after (by rw [h]) (by rw [h]) (hrd _),
    fun a ha => (State.raise_onlyRegs _ _ _ _ _ _ a ha).trans (hrd a)⟩
  · rw [State.raise_mot, h]
  · rw [State.eng_of_fe (State.raise_fe _ _ _ _ _ _)]
    exact hflags n hn

/-! ### Hall sets (R351) -/

/-- Whether the last code of set `k` was illegal. -/
def State.hallNoted (s : State) (k : Nat) (bad : Bool) : State := { s with mot.hallBad := Sparse.set (always false) s.mot.hallBad k bad }

/-- A new code: noted, and its sector is a sample. -/
def State.hallTaken (s : State) (k : Nat) (bad : Bool) (v : Word) : State := (s.hallNoted k bad).pushSample (0x7A + k) v 0

theorem State.hallTaken_frame (s : State) (k : Nat) (bad : Bool) (v : Word) :
    s.hallTaken k bad v = { s with mot := (s.hallTaken k bad v).mot, fe := (s.hallTaken k bad v).fe } := by
  obtain ⟨fe, h⟩ := (s.hallNoted k bad).pushSample_feOnly (0x7A + k) v 0
  rw [State.hallTaken, h]
  rfl

theorem State.hallTaken_bad (s : State) (k : Nat) (bad : Bool) (v : Word) :
    Sparse.get (always false) (s.hallTaken k bad v).mot.hallBad k = bad := by
  obtain ⟨fe, h⟩ := (s.hallNoted k bad).pushSample_feOnly (0x7A + k) v 0
  rw [State.hallTaken, h]
  exact Sparse.get_set_same _ _ _ _

theorem execHallCodeChange_unreached (s : State) (k code : Nat) (h : 3 ≤ k ∨ s.motLive = false ∨ s.flag (R.MOT_HALL_CFG_EN k) = false) :
    execHallCodeChange k code s = .next s := by
  rw [execHallCodeChange, if_pos (by simpa using h)]

section
variable {s : State} {k : Nat} (code : Nat) (hk : k < 3) (hm : s.motLive = true) (hen : s.flag (R.MOT_HALL_CFG_EN k) = true)
include hk hm hen

theorem State.hallReached : ¬ (3 ≤ k ∨ (!s.motLive) = true ∨ (!s.flag (R.MOT_HALL_CFG_EN k)) = true) := by simp [hk, hm, hen]

theorem execHallCodeChange_legal (h : s.get (R.MOT_HALL_MAP_SECT k (code % 8)) ≠ 7) :
    execHallCodeChange k code s = .next (s.hallTaken k false (fOfNat (s.get (R.MOT_HALL_MAP_SECT k (code % 8))))) := by
  rw [execHallCodeChange, if_neg (State.hallReached hk hm hen)]
  simp [h, State.hallTaken, State.hallNoted]

/-- An illegal code raises its record where the last one was legal. -/
theorem execHallCodeChange_illegal (h : s.get (R.MOT_HALL_MAP_SECT k (code % 8)) = 7) :
    execHallCodeChange k code s = .next (if Sparse.get (always false) s.mot.hallBad k then s.hallTaken k true (fNeg fOne)
      else (s.hallTaken k true (fNeg fOne)).raise 0x0F03 0 0x0F) := by
  rw [execHallCodeChange, if_neg (State.hallReached hk hm hen)]
  cases hb : Sparse.get (always false) s.mot.hallBad k <;> simp [h, State.hallTaken, State.hallNoted]

end

/-! ### SENT receivers (R352) -/

/-- A frame's sync pulse, and whether it is accepted. -/
def State.sentNoted (s : State) (k sync : Nat) (ok : Bool) : State :=
  { s with mot.sentSync := Sparse.set (always none) s.mot.sentSync k (some sync) }.putB (R.MOT_SENT_STAT_VALID k) ok

/-- The time of an accepted frame. -/
def State.sentTimed (s : State) (k : Nat) : State :=
  { s with mot.sentAt := Sparse.set (always 0) s.mot.sentAt k s.atime, mot.sentTold := Sparse.set (always false) s.mot.sentTold k false }

/-- The value of an accepted frame reaches the engines and the outputs that follow it. -/
def State.sentTaken (s : State) (k sync : Nat) (l : List Nat) : State :=
  (((s.sentNoted k sync true).sentTimed k).pushSample (0x7D + k) (fOfNat (l.foldl (fun a x => 16 * a + x) 0)) 0).emuFollow (0x0C + k)
    (Int.ofNat (l.foldl (fun a x => 16 * a + x) 0)) (16 ^ s.get (R.MOT_SENT_CFG_NIBBLES k)) (sync + sync)

theorem State.sentNoted_rd (s : State) (k sync : Nat) (ok : Bool) : OnlyRegs s (s.sentNoted k sync ok) [R.MOT_SENT_STAT k] :=
  fun _ ha => State.rd_putB_ne _ (R.MOT_SENT_STAT_VALID k) ok (show _ ≠ R.MOT_SENT_STAT k by simpa using ha)

theorem State.sentNoted_valid (s : State) (k sync : Nat) (ok : Bool) : (s.sentNoted k sync ok).flag (R.MOT_SENT_STAT_VALID k) = ok :=
  State.flag_putB_same _ _ _ rfl (show 0 < 32 by decide)

theorem State.sentNoted_errors (s : State) (k sync : Nat) (ok : Bool) :
    (s.sentNoted k sync ok).get (R.MOT_SENT_STAT_ERRORS k) = s.get (R.MOT_SENT_STAT_ERRORS k) :=
  State.get_put_of_apart _ _ _ _ (.inr ⟨le_rfl, show 0 < 32 by decide, .inr (show 0 < 16 by decide)⟩)

theorem State.sentTaken_rd (s : State) (k sync : Nat) (l : List Nat) {a : Nat} (ha : a / 0x100 = 0xF03) :
    (s.sentTaken k sync l).rd a = (s.sentNoted k sync true).rd a := by
  refine ((State.emuFollow_emuOnly _ _ _ _ _).1 a (by omega) (by simp only [R.LEDGER_SEQ]; omega)).trans ?_
  obtain ⟨fe, h⟩ := ((s.sentNoted k sync true).sentTimed k).pushSample_feOnly (0x7D + k) (fOfNat (l.foldl (fun a x => 16 * a + x) 0)) 0
  rw [h]
  rfl

theorem State.sentTaken_samples (s : State) (k sync : Nat) (l : List Nat) {n : Nat} (hn : n ∈ s.engines) :
    Sparse.get (always 0) ((s.sentTaken k sync l).eng n).samples (0x7D + k) = fOfNat (l.foldl (fun a x => 16 * a + x) 0) := by
  have hs := ((s.sentNoted k sync true).sentTimed k).pushSample_samples (0x7D + k) (fOfNat (l.foldl (fun a x => 16 * a + x) 0)) 0 hn
  obtain ⟨-, _, _, _, _, he⟩ := State.emuFollow_emuOnly
    (((s.sentNoted k sync true).sentTimed k).pushSample (0x7D + k) (fOfNat (l.foldl (fun a x => 16 * a + x) 0)) 0) (0x0C + k)
    (Int.ofNat (l.foldl (fun a x => 16 * a + x) 0)) (16 ^ s.get (R.MOT_SENT_CFG_NIBBLES k)) (sync + sync)
  have hf : (s.sentTaken k sync l).fe = _ := congrArg State.fe he
  rw [State.eng_of_fe hf]
  exact hs

theorem execSentFrame_unreached (s : State) (k y : Nat) (l : List Nat) (c : Bool) (o : Option Nat)
    (h : 2 ≤ k ∨ s.motLive = false ∨ s.flag (R.MOT_SENT_CFG_EN k) = false) : execSentFrame k y l c o s = .next s := by
  rw [execSentFrame, if_pos (by simpa using h)]

section
variable {s : State} {k : Nat} (y : Nat) (l : List Nat) (hk : k < 2) (hm : s.motLive = true) (hen : s.flag (R.MOT_SENT_CFG_EN k) = true)
include hk hm hen

theorem State.sentReached : ¬ (2 ≤ k ∨ (!s.motLive) = true ∨ (!s.flag (R.MOT_SENT_CFG_EN k)) = true) := by simp [hk, hm, hen]

theorem execSentFrame_badCrc (o : Option Nat) :
    execSentFrame k y l false o s = .next ((s.sentNoted k y false).satInc (R.MOT_SENT_STAT_ERRORS k)) := by
  rw [execSentFrame, if_neg (State.sentReached hk hm hen)]
  simp [State.sentNoted]

theorem execSentFrame_good (m : Nat) (hy : s.syncFits k y = true) (hl : l.all (fun x => decide (x < 16)) = true)
    (hn : l.length = s.get (R.MOT_SENT_CFG_NIBBLES k)) : execSentFrame k y l true (some m) s =
      .next (((s.sentTaken k y l).putB (R.MOT_SENT_STAT_SLOW_RDY k) true).wr (R.MOT_SENT_SLOW k) (w32 m)) := by
  rw [execSentFrame, if_neg (State.sentReached hk hm hen)]
  simp only [hy, hl, hn, beq_self_eq_true, Bool.and_self, Bool.not_true, Bool.false_eq_true, if_false, State.sentTaken, State.sentNoted, State.sentTimed]

end

/-- The loss of frames, told. -/
def State.sentLostTold (s : State) (k : Nat) : State :=
  { s with mot.sentTold := Sparse.set (always false) s.mot.sentTold k true }.putB (R.MOT_SENT_STAT_LOST k) true

theorem execSentLost_idle (s : State) (k : Nat) (h : 2 ≤ k ∨ s.running = false ∨ s.flag (R.MOT_SENT_CFG_EN k) = false ∨
    Sparse.get (always false) s.mot.sentTold k = true ∨ s.since (Sparse.get (always 0) s.mot.sentAt k) < 1000 * s.get (R.MOT_SENT_CFG_TO k)) :
    execSentLost k s = .next s := by
  rw [execSentLost, if_pos (by simpa using h)]

theorem execSentLost_late (s : State) (k : Nat) (hk : k < 2) (hr : s.running = true) (hen : s.flag (R.MOT_SENT_CFG_EN k) = true)
    (ht : Sparse.get (always false) s.mot.sentTold k = false)
    (h : 1000 * s.get (R.MOT_SENT_CFG_TO k) ≤ s.since (Sparse.get (always 0) s.mot.sentAt k)) :
    execSentLost k s = .next (((s.sentLostTold k).staleSource (0x7D + k)).raise 0x0F04 0 0x0F) := by
  rw [execSentLost, if_neg (by simpa [hk, hr, hen, ht] using h)]
  rfl

/-! ### Resolvers (R353) -/

/-- A resolver's signal has failed. -/
def State.resFailed (s : State) (k : Nat) : State :=
  { s with mot.resBad := Sparse.set (always false) s.mot.resBad k true }

theorem execResSignal_idle (s : State) (k : Nat) (h : 2 ≤ k ∨ s.running = false ∨ s.flag (R.MOT_RES_CFG_EN k) = false) :
    execResSignal k s = .next s := by
  rw [execResSignal, if_pos (by simpa using h)]

theorem execResSignal_failed (s : State) (k : Nat) (hk : k < 2) (hr : s.running = true) (hen : s.flag (R.MOT_RES_CFG_EN k) = true) :
    execResSignal k s = .next (((s.resFailed k).staleSource (0x78 + k)).raise 0x0F05 0 0x0F) := by
  rw [execResSignal, if_neg (by simp [hk, hr, hen])]
  rfl

/-- The family of MOT_RES_k_CFG. -/
def resCfgFam : RegFam :=
  ⟨.r_MOT_RES_k_CFG, 0xF0400, 0x10, 2, 0, 0x3E8, [⟨31, 31, .rws⟩, ⟨30, 30, .w1c⟩, ⟨27, 24, .rws⟩, ⟨23, 20, .rws⟩, ⟨15, 0, .rws⟩]⟩

theorem findReg_resCfg : ∀ k < 2, findReg (R.MOT_RES_CFG k) = some (resCfgFam, k) := by decide +kernel

theorem State.fieldsAt_resCfg (s : State) {k : Nat} (hk : k < 2) : s.fieldsAt (R.MOT_RES_CFG k) = resCfgFam.fields := by
  rw [State.fieldsAt, findReg_resCfg k hk]
  rfl

/-- A stored set in which no RWS field has moved stays as it is. -/
theorem State.keepReg_unmoved (s before : State) (w : Sys2Proof.Writer) (a : Nat)
    (h : ∀ fd ∈ before.fieldsAt a, fd.ty = .rws → before.get ⟨a, fd.hi, fd.lo⟩ = s.get ⟨a, fd.hi, fd.lo⟩) : s.keepReg before w a = s := by
  have hany : ((before.fieldsAt a).any fun fd => fd.ty = .rws && decide (before.get ⟨a, fd.hi, fd.lo⟩ ≠ s.get ⟨a, fd.hi, fd.lo⟩)) = false := by
    rw [List.any_eq_false]
    intro fd hfd
    by_cases ht : fd.ty = .rws
    · simp [h fd hfd ht]
    · simp [ht]
  unfold State.keepReg
  dsimp only
  exact if_neg (by rw [hany, Bool.and_false]; exact Bool.false_ne_true)

/-- One converter for both windings is refused. -/
theorem State.resWrite_same (s : State) (k : Nat) (v : Word) (hv : bitOf v 31 = true) (h : bitsOf v 27 24 = bitsOf v 23 20) :
    s.resWrite k v = s.putB (R.MOT_RES_CFG_CFG_ERR k) true := by
  simp [State.resWrite, hv, h]

theorem State.resWrite_taken (s : State) {k : Nat} (v : Word) (hk : k < 2) (hm : s.md = .commission)
    (h : bitOf v 31 = true → s.flag (R.EDGE_FC_CFG_EN (bitsOf v 27 24)) = false ∧ s.flag (R.EDGE_FC_CFG_EN (bitsOf v 23 20)) = false ∧
      bitsOf v 27 24 < nFast s.part ∧ bitsOf v 23 20 < nFast s.part ∧ bitsOf v 27 24 ≠ bitsOf v 23 20) :
    s.resWrite k v = s.writeFields (R.MOT_RES_CFG k) v resCfgFam.fields := by
  unfold State.resWrite
  dsimp only
  rw [if_neg, s.fieldsAt_resCfg hk, s.applyWrite_all _ _ _ hm]
  cases hv : bitOf v 31 with
  | false => simp
  | true =>
    obtain ⟨h1, h2, h3, h4, h5⟩ := h hv
    simp [h1, h2, h3, h4, h5]

theorem State.resCfg_en (s : State) (k : Nat) (v : Word) :
    (s.writeFields (R.MOT_RES_CFG k) v resCfgFam.fields).flag (R.MOT_RES_CFG_EN k) = (bitsOf v 31 31 != 0) := by
  have hg : (s.writeFields (R.MOT_RES_CFG k) v resCfgFam.fields).get (R.MOT_RES_CFG_EN k) = bitsOf v 31 31 :=
    s.writeFields_rws _ v [] _ 31 31 le_rfl (by decide) (by simp [FieldDef.apart])
  rw [State.flag, hg]

theorem State.resCfg_cos (s : State) (k : Nat) (v : Word) :
    (s.writeFields (R.MOT_RES_CFG k) v resCfgFam.fields).get (R.MOT_RES_CFG_FC_COS k) = bitsOf v 27 24 :=
  s.writeFields_rws _ v [⟨31, 31, .rws⟩, ⟨30, 30, .w1c⟩] _ 27 24 (by decide) (by decide) (by simp [FieldDef.apart])

theorem State.resCfg_sin (s : State) (k : Nat) (v : Word) :
    (s.writeFields (R.MOT_RES_CFG k) v resCfgFam.fields).get (R.MOT_RES_CFG_FC_SIN k) = bitsOf v 23 20 :=
  s.writeFields_rws _ v [⟨31, 31, .rws⟩, ⟨30, 30, .w1c⟩, ⟨27, 24, .rws⟩] _ 23 20 (by decide) (by decide) (by simp [FieldDef.apart])

theorem execResolverEnable_noRight (s : State) (w : Sys2Proof.Writer) (k : Nat) (v : Word) (hm : s.mayWrite w 0x0F = false) (hw : w ≠ .service) :
    execResolverEnable w k v s = .next s :=
  State.windowWrite_idle _ _ _ _ hw (by simp [hm])

section
variable {s : State} {w : Sys2Proof.Writer} {k : Nat} (v : Word) (hk : k < 2) (hr : s.running = true) (hl : s.writerLive w = true)
  (hm : s.mayWrite w 0x0F = true)
include hk hr hl hm

theorem execResolverEnable_right : execResolverEnable w k v s = .next ((s.resWrite k v).keepReg s w (R.MOT_RES_CFG k)) := by
  rw [execResolverEnable, s.windowWrite_right w _ _ hr hl hm]
  simp [hk, hr, hm]

/-- One converter twice: CFG_ERR alone is written. -/
theorem resolverEnable_same (hv : bitOf v 31 = true) (he : bitsOf v 27 24 = bitsOf v 23 20) :
    ∃ t, execResolverEnable w k v s = .next t ∧ t.flag (R.MOT_RES_CFG_CFG_ERR k) = true ∧
      t.flag (R.MOT_RES_CFG_EN k) = s.flag (R.MOT_RES_CFG_EN k) ∧ OnlyRegs s t [R.MOT_RES_CFG k] ∧ t = { s with regs := t.regs } := by
  have hapart : ∀ fd ∈ resCfgFam.fields, fd.ty = .rws → fd.hi < 30 ∨ 30 < fd.lo := by decide
  refine ⟨s.putB (R.MOT_RES_CFG_CFG_ERR k) true, ?_, State.flag_putB_same s _ _ rfl (show 30 < 32 by decide), ?_,
    s.put_onlyRegs (R.MOT_RES_CFG_CFG_ERR k) _, (s.putB_regsOnly _ _).frame⟩
  · rw [execResolverEnable_right v hk hr hl hm, s.resWrite_same k v hv he, State.keepReg_unmoved]
    intro fd hfd ht
    rw [s.fieldsAt_resCfg hk] at hfd
    exact (s.get_put_of_apart (R.MOT_RES_CFG_CFG_ERR k) ⟨R.MOT_RES_CFG k, fd.hi, fd.lo⟩ _ (.inr ⟨le_rfl, show 30 < 32 by decide, hapart fd hfd ht⟩)).symm
  · exact s.flag_putB_of_apart _ _ _ (.inr ⟨le_rfl, show 30 < 32 by decide, .inr (show 30 < 31 by decide)⟩)

/-- A write that is not refused enters the register, and the stored set where its writer's do. -/
theorem resolverEnable_taken (hmd : s.md = .commission)
    (h : bitOf v 31 = true → s.flag (R.EDGE_FC_CFG_EN (bitsOf v 27 24)) = false ∧ s.flag (R.EDGE_FC_CFG_EN (bitsOf v 23 20)) = false ∧
      bitsOf v 27 24 < nFast s.part ∧ bitsOf v 23 20 < nFast s.part ∧ bitsOf v 27 24 ≠ bitsOf v 23 20) :
    ∃ t, execResolverEnable w k v s = .next t ∧ t.flag (R.MOT_RES_CFG_EN k) = (bitsOf v 31 31 != 0) ∧
      t.get (R.MOT_RES_CFG_FC_COS k) = bitsOf v 27 24 ∧ t.get (R.MOT_RES_CFG_FC_SIN k) = bitsOf v 23 20 ∧ t.mem = s.mem ∧ t.edge = s.edge ∧
      (w.stores = false → OnlyRegs s t [R.MOT_RES_CFG k] ∧ t = { s with regs := t.regs }) := by
  have hkeep := (s.resWrite k v).keepReg_stored s w (R.MOT_RES_CFG k)
  have hrd := hkeep.mot_rd (a := R.MOT_RES_CFG k) (by simp only [R.MOT_RES_CFG]; omega)
  have hregs := s.writeFields_regsOnly (R.MOT_RES_CFG k) v resCfgFam.fields
  have hset : (s.writeFields (R.MOT_RES_CFG k) v resCfgFam.fields).mem = s.mem ∧ (s.writeFields (R.MOT_RES_CFG k) v resCfgFam.fields).edge = s.edge := by
    obtain ⟨r, hr⟩ := hregs
    rw [hr]
    exact ⟨rfl, rfl⟩
  rw [s.resWrite_taken v hk hmd h] at hkeep hrd
  refine ⟨_, execResolverEnable_right v hk hr hl hm, ?_, ?_, ?_, ?_, ?_, fun hw => ?_⟩ <;> rw [s.resWrite_taken v hk hmd h]
  · exact (State.flag_of_rd (R.MOT_RES_CFG_EN k) hrd).trans (s.resCfg_en k v)
  · exact (congrArg (bitsOf · 27 24) hrd).trans (s.resCfg_cos k v)
  · exact (congrArg (bitsOf · 23 20) hrd).trans (s.resCfg_sin k v)
  · exact hkeep.mem.trans hset.1
  · exact hkeep.edge.trans hset.2
  · rw [State.keepReg_of_writer _ _ _ _ hw]
    exact ⟨s.writeFields_rd _ _ _, hregs.frame⟩

end

end Sys2Proof.Machine

open Sys2Proof.Machine in
/-- Settles O45: each input's row by what it leaves, the enables by the fields they write. -/
theorem positionInterfaces : Obligations.PositionInterfaces := by
  refine ⟨fun s k => ⟨fun h => ?_, fun h => ?_, fun hk hm hen => ?_, ?_, ?_, ?_, ?_⟩,
    fun s k => ⟨?_, ?_, ?_, ?_, ?_, ?_, ?_, ?_, ?_, ?_, ?_, ?_, ?_, ?_, ?_, ?_⟩⟩
  · have hn : ¬ s.encReached k := fun ⟨h1, h2, h3⟩ => by
      rcases h with h | h | h
      · omega
      · simp [h2] at h
      · simp [h3] at h
    exact ⟨fun a b dt => execEncoderEdge_unreached s k a b dt hn, execEncoderIndex_unreached s k hn⟩
  · rcases h with h | h | h | h
    · exact if_pos (.inl h)
    · exact if_pos (.inr (.inl (by simp [h])))
    · exact if_pos (.inr (.inr (by simp [h])))
    · by_cases hc : 4 ≤ k ∨ (!s.running) = true ∨ (!s.flag (R.MOT_ENC_CFG_EN k)) = true
      · exact if_pos hc
      · refine (if_neg hc).trans ?_
        rw [State.encStill, if_neg (Nat.not_le.mpr h)]
  · have hr : s.encReached k := ⟨hk, hm, hen⟩
    have hrun : s.running = true := by
      unfold State.motLive at hm
      exact (Bool.and_eq_true_iff.mp (Bool.and_eq_true_iff.mp hm).1).1
    refine ⟨execEncoderEdge_same hr, encoderEdge_legal s k hr, fun a b dt ha hb => ?_, encoderIndex_gated s k hr,
      encoderStandstill_late s k hk hrun hen⟩
    obtain ⟨hq, hea, heb, ho, hfe⟩ := s.encIllegal_spec k a b hk
    refine ⟨_, execEncoderEdge_illegal hr a b dt ha hb, ho _ ?_, hq, hea, heb, ho, hfe⟩
    simp only [R.MOT_ENC_COUNT, R.MOT_ENC_STAT, R.LEDGER_SEQ, List.mem_cons, List.not_mem_nil, or_false]
    omega
  · exact fun w v hm hw => execEncoderEnable_noRight s w k v hm hw
  · exact fun v hr hm => execEncoderEnable_refused s k v hr hm
  · exact fun w v hk hr hl hm hmd hen hv => encoderEnable_rise s w k v hk hr hl hm hmd hen hv
  · intro w v hm
    rcases execEncoderEnable_of_mode s w k v hm with h | h
    · exact ⟨s, h, rfl, rfl⟩
    · refine ⟨_, h, State.flag_put_of_apart s R.OWN_SVC_STAT_REFUSED _ _ (.inl ?_), State.rd_put_ne s R.OWN_SVC_STAT_REFUSED _ ?_⟩ <;>
        simp only [R.MOT_ENC_CFG_EN, R.MOT_ENC_CFG, R.MOT_ENC_COUNT, R.OWN_SVC_STAT_REFUSED, R.OWN_SVC_STAT] <;> omega
  · exact fun code h => execHallCodeChange_unreached s k code h
  · intro code hk hm hen h
    have hf := s.hallTaken_frame k false (fOfNat (s.get (R.MOT_HALL_MAP_SECT k (code % 8))))
    refine ⟨_, execHallCodeChange_legal code hk hm hen h, fun n hn => ?_, by rw [hf], by rw [hf], hf⟩
    exact State.pushSample_samples (s.hallNoted k false) _ _ _ hn
  · intro code hk hm hen h hb
    have hf := s.hallTaken_frame k true (fNeg fOne)
    have hrd (a : Nat) : (s.hallTaken k true (fNeg fOne)).rd a = s.rd a := by rw [hf]; rfl
    refine ⟨(s.hallTaken k true (fNeg fOne)).raise 0x0F03 0 0x0F, ?_, ?_, ?_, fun a ha => ?_⟩
    · refine (execHallCodeChange_illegal code hk hm hen h).trans ?_
      simp [hb]
    · exact (State.raise_raised _ _ _ _).after (by rw [hf]) (by rw [hf]) (hrd _)
    · rw [State.raise_mot]
      exact s.hallTaken_bad k true _
    · exact (State.raise_onlyRegs _ _ _ _ _ _ a ha).trans (hrd a)
  · intro code hk hm hen h hb
    have hf := s.hallTaken_frame k true (fNeg fOne)
    refine ⟨s.hallTaken k true (fNeg fOne), ?_, by rw [hf], by rw [hf]⟩
    refine (execHallCodeChange_illegal code hk hm hen h).trans ?_
    simp [hb]
  · exact fun y l c o h => execSentFrame_unreached s k y l c o h
  · exact fun h => execSentLost_idle s k h
  · intro y l o hk hm hen
    refine ⟨_, execSentFrame_badCrc y l hk hm hen o, ?_, fun a ha => ?_, ?_, ?_⟩
    · exact (State.flag_put_of_apart _ _ _ _ (.inr ⟨show 16 ≤ 31 by decide, show 31 < 32 by decide, .inl (show 0 < 16 by decide)⟩)).trans
        (s.sentNoted_valid k y false)
    · exact (State.put_onlyRegs _ (R.MOT_SENT_STAT_ERRORS k) _ a ha).trans (s.sentNoted_rd k y false a ha)
    · rw [State.satInc_fe, State.sentNoted, State.putB_fe]
    · rw [State.satInc_led, State.sentNoted, State.putB_led]
  · intro y l m hk hm hen hy hl hn
    have hrd {a : Nat} (ha : a / 0x100 = 0xF03) := s.sentTaken_rd k y l ha
    have hstat : R.MOT_SENT_STAT k / 0x100 = 0xF03 ∧ R.MOT_SENT_STAT k ≠ R.MOT_SENT_SLOW k := by
      simp only [R.MOT_SENT_STAT, R.MOT_SENT_SLOW]
      omega
    obtain ⟨hblock, hne⟩ := hstat
    refine ⟨_, execSentFrame_good y l hk hm hen m hy hl hn, ?_, State.rd_wr_same _ _ _, ?_, ?_, fun n hn => ?_⟩
    · exact (State.flag_wr_ne _ _ _ (R.MOT_SENT_STAT_VALID k) hne).trans ((State.flag_putB_of_apart _ _ _ _
        (.inr ⟨le_rfl, show 2 < 32 by decide, .inl (show 0 < 2 by decide)⟩)).trans
        ((State.flag_of_rd (R.MOT_SENT_STAT_VALID k) (hrd hblock)).trans (s.sentNoted_valid k y true)))
    · exact (State.flag_wr_ne _ _ _ (R.MOT_SENT_STAT_SLOW_RDY k) hne).trans (State.flag_putB_same _ _ _ rfl (show 2 < 32 by decide))
    · have hw := State.rd_wr_ne ((s.sentTaken k y l).putB (R.MOT_SENT_STAT_SLOW_RDY k) true) (R.MOT_SENT_SLOW k) (w32 m) hne
      exact (congrArg (bitsOf · 31 16) hw).trans ((State.get_put_of_apart (s.sentTaken k y l) (R.MOT_SENT_STAT_SLOW_RDY k) (R.MOT_SENT_STAT_ERRORS k) _
        (.inr ⟨le_rfl, show 2 < 32 by decide, .inr (show 2 < 16 by decide)⟩)).trans
        ((congrArg (bitsOf · 31 16) (hrd hblock)).trans (s.sentNoted_errors k y true)))
    · rw [State.eng_of_fe (State.wr_fe _ _ _), State.eng_of_fe (State.putB_fe _ _ _)]
      exact s.sentTaken_samples k y l hn
  · intro hk hr hen ht h
    obtain ⟨hmot, hflags, hraised, ho⟩ := (s.sentLostTold k).staleSource_raise (0x7D + k) 0x0F04
    have hne : R.MOT_SENT_STAT k ≠ R.LEDGER_SEQ := by simp only [R.MOT_SENT_STAT, R.LEDGER_SEQ]; omega
    refine ⟨_, execSentLost_late s k hk hr hen ht h, ?_, ?_, hflags, hraised.after rfl rfl (State.rd_putB_ne _ _ _ hne.symm), fun a ha => ?_⟩
    · refine (State.flag_of_rd (R.MOT_SENT_STAT_LOST k) (ho _ ?_)).trans (State.flag_putB_same _ _ _ rfl (show 1 < 32 by decide))
      exact fun hmem => hne (List.mem_singleton.mp hmem)
    · rw [hmot]
      exact Sparse.get_set_same (always false) s.mot.sentTold k true
    · obtain ⟨h1, h2⟩ : a ≠ R.MOT_SENT_STAT k ∧ a ≠ R.LEDGER_SEQ := by simpa using ha
      exact (ho a (by simpa using h2)).trans (State.rd_putB_ne _ _ _ h1)
  · exact fun h => execResSignal_idle s k h
  · intro hk hr hen
    obtain ⟨hmot, hflags, hraised, ho⟩ := (s.resFailed k).staleSource_raise (0x78 + k) 0x0F05
    refine ⟨_, execResSignal_failed s k hk hr hen, ?_, hflags, hraised.after rfl rfl rfl, ho⟩
    rw [hmot]
    exact Sparse.get_set_same (always false) s.mot.resBad k true
  · exact fun w v hm hw => execResolverEnable_noRight s w k v hm hw
  · exact fun v hr hm => execResolverEnable_refused s k v hr hm
  · exact fun w v hk hr hl hm hv he _ => resolverEnable_same v hk hr hl hm hv he
  · intro w v hk hr hl hm hv hmd
    obtain ⟨t, hx, hen, -, -, hmem, hedge, ho⟩ := resolverEnable_taken v hk hr hl hm hmd fun h => absurd (hv.symm.trans h) Bool.false_ne_true
    exact ⟨t, hx, hen.trans (by rw [bitsOf_of_not_bitOf hv]; rfl), hmem, hedge, ho⟩
  · intro w v hk hr hl hm hmd hv h1 h2 h3 h4 h5
    obtain ⟨t, hx, hen, hc, hs, -⟩ := resolverEnable_taken v hk hr hl hm hmd fun _ => ⟨h1, h2, h3, h4, h5⟩
    exact ⟨t, hx, hen.trans (by rw [bitsOf_of_bitOf hv]; rfl), hc, hs⟩

end

section
/-! SUPPORT. The lines of the Banister, what they decide of a pad, and the pads of one half-bridge (R12, R66, R68, R205, R208, R283, R285). -/

namespace Sys2Proof.Machine

/-! ### Forces and enables -/

theorem State.forceOn_asc {s : State} {u : Nat} (hu : u < 8)
    (h : s.ascForced u = true ∨ Sparse.get (always none) s.edge.hwForce u = some true ∨ s.flag R.SAFE_DCL_STATUS_OV3_LATCH = true) :
    s.forceOn u = some true := by
  unfold State.forceOn
  obtain h | h | h := h <;> simp [hu, h]

theorem State.forceOn_charger {s : State} (h : s.flag R.SAFE_DCL_STATUS_OV3_LATCH = true) : s.forceOn unitCharger = some false := by
  simp [State.forceOn, h, unitCharger]

theorem State.forceOn_isSome_of_sto {s : State} {u : Nat} (h : s.stoForced u = true) : (s.forceOn u).isSome = true := by
  unfold State.forceOn
  dsimp only
  split
  · rfl
  · simp [h]

theorem State.ascForced_of_line {s : State} {p u : Nat} (hp : p < 2) (hs : s.inService p = true) (hl : (s.lines p u).forceAsc = true) :
    s.ascForced u = true := by
  obtain rfl | rfl : p = 0 ∨ p = 1 := by omega
  all_goals simp [State.ascForced, State.pairForces, hs, hl]

theorem State.stoForced_of_line {s : State} {p u : Nat} (hp : p < 2) (hs : s.inService p = true) (hl : (s.lines p u).forceSto = true) :
    s.stoForced u = true := by
  obtain rfl | rfl : p = 0 ∨ p = 1 := by omega
  all_goals simp [State.stoForced, State.pairForces, hs, hl]

theorem State.enabled_of_pairsLost {s : State} (h0 : s.inService 0 = false) (h1 : s.inService 1 = false) (u : Nat) : s.enabled u = false := by
  simp [State.enabled, State.counts, h0, h1]

theorem State.enabled_of_line {s : State} {p u : Nat} (hp : p < 2) (hc : s.counts p = true) (hl : (s.lines p u).enable = false) :
    s.enabled u = false := by
  obtain rfl | rfl : p = 0 ∨ p = 1 := by omega
  all_goals simp [State.enabled, hc, hl]

/-- A force, or a missing enable, keeps the schedule from the pads. -/
theorem State.padForce_isSome {s : State} {u : Nat} (h : (s.forceOn u).isSome = true ∨ s.enabled u = false) : (s.padForce u).isSome = true := by
  unfold State.padForce
  split
  · rfl
  · split
    · rfl
    · next hf => simp_all

/-! ### The pads of one half-bridge -/

@[simp] theorem State.chan_setChan_same (s : State) (n : Nat) (c : Chan) : (s.setChan n c).chan n = c := Sparse.get_set_same _ _ _ _
@[simp] theorem State.chan_setChan_ne (s : State) (n : Nat) (c : Chan) {m : Nat} (h : m ≠ n) : (s.setChan n c).chan m = s.chan m :=
  Sparse.get_set_ne _ _ _ _ h

/-- A leg that is cleared keeps its pads and its fault. -/
theorem State.clearLeg_chan (s : State) (n u : Nat) :
    (s.clearLeg n u).chan n = { s.chan n with band := decide (s.get (R.EDGE_CH_CFG_MODE n) = 3), taken := false, cmdHigh := false } :=
  State.chan_setChan_same _ _ _

theorem State.clearLeg_chan_ne (s : State) (n u : Nat) {m : Nat} (h : m ≠ n) : (s.clearLeg n u).chan m = s.chan m :=
  State.chan_setChan_ne _ _ _ h

/-- What decides the pads of channel `n` of unit `u`: a block that drives them low, or the unit. -/
def State.chanForce (s : State) (n u : Nat) : Option Bool := if s.blockLow n then some false else s.padForce u

/-- Channel `n` of unit `u` before it takes its pads: its leg cleared where the schedule no longer drives it. -/
def State.settledLeg (s : State) (n u : Nat) : State := if (s.chanForce n u).isSome && (s.chan n).taken then s.clearLeg n u else s

theorem State.settledLeg_chan_ne (s : State) (n u : Nat) {m : Nat} (h : m ≠ n) : (s.settledLeg n u).chan m = s.chan m := by
  unfold State.settledLeg
  split
  · exact s.clearLeg_chan_ne n u h
  · rfl

theorem State.settledLeg_chan (s : State) (n u : Nat) :
    ((s.settledLeg n u).chan n).faultLow = (s.chan n).faultLow ∧ ((s.settledLeg n u).chan n).high = (s.chan n).high ∧
      ((s.settledLeg n u).chan n).ilPassed = (s.chan n).ilPassed := by
  unfold State.settledLeg
  split
  · rw [s.clearLeg_chan n u]
    exact ⟨rfl, rfl, rfl⟩
  · exact ⟨rfl, rfl, rfl⟩

theorem State.refreshChan_undriven {s : State} {n : Nat} (h : s.padDriven n = false ∨ s.banUnit n = none) :
    s.refreshChan n = s.setChan n ((s.chan n).drive (false, false)) := by
  unfold State.refreshChan
  obtain h | h := h
  · simp [h]
  · rw [h]
    split <;> rfl

theorem State.refreshChan_driven {s : State} {n u : Nat} (hd : s.padDriven n = true) (hu : s.banUnit n = some u) :
    s.refreshChan n = (s.settledLeg n u).setChan n (((s.settledLeg n u).chan n).drive
      (padsOf (s.chanFunc n) (s.get (R.EDGE_CH_CFG_MODE n)) (s.chanForce n u) ((s.settledLeg n u).chan n))) := by
  unfold State.refreshChan
  rw [hu, hd]
  rfl

/-- The pads that half-bridge `n` takes: both low, or those of R205 under what decides them. -/
theorem State.refreshChan_pads (s : State) (n : Nat) :
    ((s.padDriven n = false ∨ s.banUnit n = none) ∧ ((s.refreshChan n).chan n).high = false ∧ ((s.refreshChan n).chan n).low = false) ∨
      ∃ u, s.padDriven n = true ∧ s.banUnit n = some u ∧ ∃ c : Chan, c.faultLow = (s.chan n).faultLow ∧ c.high = (s.chan n).high ∧
        c.ilPassed = (s.chan n).ilPassed ∧
        (((s.refreshChan n).chan n).high, ((s.refreshChan n).chan n).low) =
          padsOf (s.chanFunc n) (s.get (R.EDGE_CH_CFG_MODE n)) (s.chanForce n u) c := by
  by_cases h : s.padDriven n = false ∨ s.banUnit n = none
  · rw [State.refreshChan_undriven h, State.chan_setChan_same]
    exact .inl ⟨h, rfl, rfl⟩
  · obtain ⟨hd, hu⟩ := not_or.mp h
    obtain ⟨u, hu⟩ := Option.ne_none_iff_exists'.mp hu
    have hd : s.padDriven n = true := by simpa using hd
    obtain ⟨hf, hh, hi⟩ := s.settledLeg_chan n u
    rw [State.refreshChan_driven hd hu, State.chan_setChan_same]
    exact .inr ⟨u, hd, hu, _, hf, hh, hi, rfl⟩

theorem State.refreshChan_ne (s : State) (n m : Nat) (h : m ≠ n) : (s.refreshChan n).chan m = s.chan m := by
  by_cases hx : s.padDriven n = false ∨ s.banUnit n = none
  · rw [State.refreshChan_undriven hx, State.chan_setChan_ne _ _ _ h]
  · obtain ⟨hd, hu⟩ := not_or.mp hx
    obtain ⟨u, hu⟩ := Option.ne_none_iff_exists'.mp hu
    rw [State.refreshChan_driven (by simpa using hd) hu, State.chan_setChan_ne _ _ _ h, s.settledLeg_chan_ne n u h]

/-- Only the schedule raises a high-side pad. -/
theorem padsOf_high_of_isSome {func mode : Nat} {f : Option Bool} {c : Chan} (h : f.isSome = true) : (padsOf func mode f c).1 = false := by
  unfold padsOf
  split
  · rfl
  · obtain ⟨b, rfl⟩ := Option.isSome_iff_exists.mp h
    cases b
    · rfl
    · dsimp only
      split <;> rfl

theorem padsOf_faultLow {func mode : Nat} {f : Option Bool} {c : Chan} (h : c.faultLow = true) : padsOf func mode f c = (false, false) := by
  simp [padsOf, h]

theorem State.refreshChan_apart (s : State) (n : Nat) : (((s.refreshChan n).chan n).high && ((s.refreshChan n).chan n).low) = false := by
  obtain ⟨-, hh, -⟩ | ⟨u, -, -, c, -, -, -, hp⟩ := s.refreshChan_pads n
  · simp [hh]
  · have h := padsOf_apart (s.chanFunc n) (s.get (R.EDGE_CH_CFG_MODE n)) (s.chanForce n u) c
    rwa [← hp] at h

theorem State.refreshChan_low_of_undriven {s : State} {n : Nat} (h : s.padDriven n = false) :
    ((s.refreshChan n).chan n).high = false ∧ ((s.refreshChan n).chan n).low = false := by
  rw [State.refreshChan_undriven (.inl h), State.chan_setChan_same]
  exact ⟨rfl, rfl⟩

theorem State.refreshChan_high_of_force {s : State} {n u : Nat} (hu : s.banUnit n = some u) (h : (s.padForce u).isSome = true) :
    ((s.refreshChan n).chan n).high = false := by
  obtain ⟨-, hh, -⟩ | ⟨v, -, hv, c, -, -, -, hp⟩ := s.refreshChan_pads n
  · exact hh
  · obtain rfl : v = u := Option.some.inj (hv.symm.trans hu)
    have hf : (s.chanForce n v).isSome = true := by
      unfold State.chanForce
      split
      · rfl
      · exact h
    exact (congrArg Prod.fst hp).trans (padsOf_high_of_isSome hf)

theorem State.refreshChan_low_of_fault {s : State} {n : Nat} (h : (s.chan n).faultLow = true) :
    ((s.refreshChan n).chan n).high = false ∧ ((s.refreshChan n).chan n).low = false := by
  obtain ⟨-, hl⟩ | ⟨u, -, -, c, hc, -, -, hp⟩ := s.refreshChan_pads n
  · exact hl
  · exact Prod.ext_iff.mp (hp.trans (padsOf_faultLow (hc.trans h)))

end Sys2Proof.Machine

open Sys2Proof.Machine in
/-- Settles O34: the forces and the enable decide what acts on a unit, and `padsOf` what that makes of the pads of a half-bridge. -/
theorem whatDecidesAPad : Obligations.WhatDecidesAPad := fun s =>
  ⟨fun _ hu h => State.forceOn_asc hu (.inl h), fun _ hu h => State.forceOn_asc hu (.inr (.inl h)), fun _ hu h => State.forceOn_asc hu (.inr (.inr h)),
    State.forceOn_charger, fun u h0 h1 => State.enabled_of_pairsLost h0 h1 u, fun _ _ hp hc hl => State.enabled_of_line hp hc hl,
    s.refreshChan_apart, fun _ h => State.refreshChan_low_of_undriven h, fun _ _ hu h => State.refreshChan_high_of_force hu h,
    fun _ _ hu h => State.refreshChan_high_of_force hu (State.padForce_isSome (.inr h)), fun _ _ _ h => State.refreshChan_low_of_fault h,
    s.refreshChan_ne⟩
end

section
/-! SUPPORT. What renewing the pads of a unit does to its lines, and the commands of the Banister (R11-R15, R205, R285). -/

namespace Sys2Proof.Machine

/-! ### Lines -/

@[simp] theorem State.lines_setLines_same (s : State) (k u : Nat) (l : Lines) : (s.setLines k u l).lines k u = l := Sparse.get_set_same _ _ _ _

theorem State.lines_setLines_ne (s : State) (l : Lines) {k u k' u' : Nat} (h : 16 * k' + u' ≠ 16 * k + u) :
    (s.setLines k u l).lines k' u' = s.lines k' u' := Sparse.get_set_ne _ _ _ _ h

/-- The lines of pair `k` for unit `u` lose ENABLE. -/
def State.dropEnable (s : State) (k u : Nat) : State := s.setLines k u { s.lines k u with enable := false }

/-- Every line keeps its forces, and has ENABLE only where it had it. -/
def EnablesDrop (s t : State) : Prop :=
  ∀ k u, (t.lines k u).forceAsc = (s.lines k u).forceAsc ∧ (t.lines k u).forceSto = (s.lines k u).forceSto ∧
    ((s.lines k u).enable = false → (t.lines k u).enable = false)

theorem EnablesDrop.refl (s : State) : EnablesDrop s s := fun _ _ => ⟨rfl, rfl, id⟩

theorem EnablesDrop.trans {s t u : State} (h : EnablesDrop s t) (h' : EnablesDrop t u) : EnablesDrop s u := fun k v => by
  obtain ⟨ha, hs, he⟩ := h k v
  obtain ⟨ha', hs', he'⟩ := h' k v
  exact ⟨ha'.trans ha, hs'.trans hs, he' ∘ he⟩

/-- Both pairs' lines for unit `u` hold the same forces. -/
def SameForces (s t : State) (u : Nat) : Prop :=
  ∀ k, (t.lines k u).forceAsc = (s.lines k u).forceAsc ∧ (t.lines k u).forceSto = (s.lines k u).forceSto

theorem EnablesDrop.sameForces {s t : State} (h : EnablesDrop s t) (u : Nat) : SameForces s t u := fun k => by
  obtain ⟨ha, hs, -⟩ := h k u
  exact ⟨ha, hs⟩

theorem State.dropEnable_drops (s : State) (k u : Nat) : EnablesDrop s (s.dropEnable k u) := fun k' u' => by
  by_cases h : 16 * k' + u' = 16 * k + u
  · have hs : s.lines k' u' = s.lines k u := by rw [State.lines, h]; rfl
    have ht : (s.dropEnable k u).lines k' u' = { s.lines k u with enable := false } := by
      rw [State.lines, h]
      exact Sparse.get_set_same _ _ _ _
    rw [hs, ht]
    exact ⟨rfl, rfl, fun _ => rfl⟩
  · rw [State.dropEnable, s.lines_setLines_ne _ h]
    exact ⟨rfl, rfl, id⟩

theorem State.dropForced_of_some {s : State} {u : Nat} (h : ((s.forceOn u).isSome && ((s.lines 0 u).enable || (s.lines 1 u).enable)) = true) :
    s.dropForced u = (s.dropEnable 0 u).dropEnable 1 u := by
  have h1 : (s.dropEnable 0 u).lines 1 u = s.lines 1 u := s.lines_setLines_ne _ (by omega)
  rw [State.dropForced, if_pos h, State.dropEnable, h1]
  rfl

theorem State.dropForced_of_none {s : State} {u : Nat} (h : s.forceOn u = none) : s.dropForced u = s := by simp [State.dropForced, h]

theorem State.dropForced_drops (s : State) (u : Nat) : EnablesDrop s (s.dropForced u) := by
  by_cases h : ((s.forceOn u).isSome && ((s.lines 0 u).enable || (s.lines 1 u).enable)) = true
  · rw [State.dropForced_of_some h]
    exact (s.dropEnable_drops 0 u).trans (State.dropEnable_drops _ 1 u)
  · rw [State.dropForced, if_neg h]
    exact EnablesDrop.refl s

/-- The lines of another unit stay. -/
theorem State.dropForced_lines_ne (s : State) {k u v : Nat} (hu : u < 10) (hv : v < 10) (h : v ≠ u) :
    (s.dropForced u).lines k v = s.lines k v := by
  unfold State.dropForced
  split
  · rw [State.lines_setLines_ne _ _ (by omega), s.lines_setLines_ne _ (by omega)]
  · rfl

/-- Only the lines change. -/
theorem State.dropForced_frame (s : State) (u : Nat) : ∃ l, s.dropForced u = { s with edge.lines := l } := by
  unfold State.dropForced
  split <;> exact ⟨_, rfl⟩

/-! ### Forces and enables where the lines agree -/

theorem State.inService_congr {s t : State} (h : t.rd R.PAIR_STATUS = s.rd R.PAIR_STATUS) (k : Nat) : t.inService k = s.inService k := by
  have hst : t.pairSt k = s.pairSt k := by
    simp only [State.pairSt, State.get, R.PAIR_STATUS_A_STATE, R.PAIR_STATUS_B_STATE, h]
  rw [State.inService, hst, State.inService]

theorem State.pairForces_congr {s t : State} (h : t.rd R.PAIR_STATUS = s.rd R.PAIR_STATUS) (k : Nat) : t.pairForces k = s.pairForces k := by
  have hst : t.pairSt 0 = s.pairSt 0 := by
    simp only [State.pairSt, State.get, R.PAIR_STATUS_A_STATE, R.PAIR_STATUS_B_STATE, h]
  rw [State.pairForces, State.inService_congr h, hst, State.pairForces]

theorem Refreshed.counts {s t : State} (h : Refreshed s t) (k : Nat) : t.counts k = s.counts k := by
  have hp : t.pair = s.pair := by obtain ⟨⟨_, _, _, _, _, rfl⟩, -⟩ := h; rfl
  rw [State.counts, State.inService_congr (h.rd (by decide)), hp, State.counts]

theorem Refreshed.banUnit {s t : State} (h : Refreshed s t) (n : Nat) : t.banUnit n = s.banUnit n := by
  have hrd : t.rd (R.EDGE_CH_CFG n) = s.rd (R.EDGE_CH_CFG n) := h.rd (by simp only [R.EDGE_CH_CFG, R.CONV_STATUS]; omega)
  simp only [State.banUnit, State.chanFunc, State.chanUnit, State.get, R.EDGE_CH_CFG_FUNC, R.EDGE_CH_CFG_UNIT, hrd]

theorem Refreshed.unitChans {s t : State} (h : Refreshed s t) (u : Nat) : t.unitChans u = s.unitChans u := by
  simp only [State.unitChans, State.allChans, h.part, h.banUnit]

/-- The force on a unit is decided by the forces on its lines, the fast actions and the OV3 latch. -/
theorem Refreshed.forceOn {s t : State} {u : Nat} (h : Refreshed s t) (hl : SameForces s t u) (hw : t.edge.hwForce = s.edge.hwForce) :
    t.forceOn u = s.forceOn u := by
  obtain ⟨ha0, hs0⟩ := hl 0
  obtain ⟨ha1, hs1⟩ := hl 1
  have hp := State.pairForces_congr (h.rd (by decide : R.PAIR_STATUS ≠ R.CONV_STATUS))
  have hasc : t.ascForced u = s.ascForced u := by simp only [State.ascForced, hp, ha0, ha1]
  have hsto : t.stoForced u = s.stoForced u := by simp only [State.stoForced, hp, hs0, hs1]
  have hov : t.flag R.SAFE_DCL_STATUS_OV3_LATCH = s.flag R.SAFE_DCL_STATUS_OV3_LATCH := by
    rw [State.flag, State.get, h.rd (by decide)]
    rfl
  unfold State.forceOn
  rw [hasc, hsto, hov, hw]

/-! ### A unit takes its pads -/

/-- From `s` to `t` channels and their legs have changed, and nothing else. -/
def PadsOnly (s t : State) : Prop := ∃ c l b, t = { s with edge.chans := c, edge.legs := l, edge.bands := b }

theorem PadsOnly.refl (s : State) : PadsOnly s s := ⟨_, _, _, rfl⟩

theorem PadsOnly.trans {s t u : State} (h : PadsOnly s t) (k : PadsOnly t u) : PadsOnly s u := by
  obtain ⟨_, _, _, rfl⟩ := h
  obtain ⟨c, l, b, rfl⟩ := k
  exact ⟨c, l, b, rfl⟩

theorem State.refreshChan_padsOnly (s : State) (n : Nat) : PadsOnly s (s.refreshChan n) := by
  have hset (t : State) (c : Chan) : PadsOnly t (t.setChan n c) := ⟨_, _, _, rfl⟩
  by_cases h : s.padDriven n = false ∨ s.banUnit n = none
  · rw [State.refreshChan_undriven h]
    exact hset s _
  · obtain ⟨hd, hu⟩ := not_or.mp h
    obtain ⟨u, hu⟩ := Option.ne_none_iff_exists'.mp hu
    have hleg : PadsOnly s (s.settledLeg n u) := by
      unfold State.settledLeg
      split
      · exact ⟨_, _, _, rfl⟩
      · exact PadsOnly.refl s
    rw [State.refreshChan_driven (by simpa using hd) hu]
    exact hleg.trans (hset _ _)

theorem PadsOnly.padForce {s t : State} (h : PadsOnly s t) (u : Nat) : t.padForce u = s.padForce u := by
  obtain ⟨_, _, _, rfl⟩ := h
  rfl

theorem PadsOnly.banUnit {s t : State} (h : PadsOnly s t) (n : Nat) : t.banUnit n = s.banUnit n := by
  obtain ⟨_, _, _, rfl⟩ := h
  rfl

theorem State.each_refreshChan_ne {n : Nat} (l : List Nat) (h : n ∉ l) (s : State) : (s.each l State.refreshChan).chan n = s.chan n := by
  induction l generalizing s with
  | nil => rfl
  | cons a l ih =>
    obtain ⟨ha, hl⟩ : n ≠ a ∧ n ∉ l := by simpa using h
    exact (ih hl (s.refreshChan a)).trans (s.refreshChan_ne a n ha)

/-- Channels of a unit that is forced, or not enabled, take their pads: every high-side pad is low. -/
theorem State.each_refreshChan_high {n u : Nat} (l : List Nat) (hn : n ∈ l) (s : State) (hu : s.banUnit n = some u)
    (hf : (s.padForce u).isSome = true) : ((s.each l State.refreshChan).chan n).high = false := by
  induction l generalizing s with
  | nil => cases hn
  | cons a l ih =>
    have hk := s.refreshChan_padsOnly a
    by_cases hl : n ∈ l
    · exact ih hl (s.refreshChan a) ((hk.banUnit n).trans hu) ((hk.padForce u).symm ▸ hf)
    · obtain rfl : n = a := (List.mem_cons.mp hn).resolve_right hl
      exact (congrArg Chan.high (State.each_refreshChan_ne l hl (s.refreshChan n))).trans (State.refreshChan_high_of_force hu hf)

theorem State.convFollow_edge (s : State) : s.convFollow.edge = s.edge := by
  unfold State.convFollow
  dsimp only
  split
  · unfold State.convState
    dsimp only
    split
    · rfl
    · rw [State.event_edge, State.put_edge]
  · rfl

/-- A unit before its channels take their pads: the converter follows its lines, and a force ends the enable. -/
def State.unitReady (s : State) (u : Nat) : State := (if u = unitConv then s.convFollow else s).dropForced u

theorem State.refreshUnit_eq (s : State) (u : Nat) :
    s.refreshUnit u = (s.unitReady u).each ((s.unitReady u).unitChans u) State.refreshChan := rfl

theorem State.unitReady_refreshed (s : State) (u : Nat) : Refreshed s (s.unitReady u) := by
  unfold State.unitReady
  split
  · exact s.convFollow_refreshed.trans (State.dropForced_edgeOnly _ u).refreshed
  · exact (s.dropForced_edgeOnly u).refreshed

/-- The converter that follows its lines changes none of them. -/
theorem State.unitReady_edge (s : State) (u : Nat) : (s.unitReady u).edge = (s.dropForced u).edge := by
  unfold State.unitReady
  split
  · have hl (k v : Nat) : s.convFollow.lines k v = s.lines k v := by rw [State.lines, s.convFollow_edge, State.lines]
    have hf : s.convFollow.forceOn u = s.forceOn u :=
      s.convFollow_refreshed.forceOn (fun k => by rw [hl]; exact ⟨rfl, rfl⟩) (by rw [s.convFollow_edge])
    have he := s.convFollow_edge
    unfold State.dropForced
    rw [hf, hl, hl]
    split
    · simp only [State.setLines, he]
    · exact he
  · rfl

theorem State.refreshUnit_padsOnly (s : State) (u : Nat) : PadsOnly (s.unitReady u) (s.refreshUnit u) :=
  State.each_rel PadsOnly.refl PadsOnly.trans _ (fun n _ t => t.refreshChan_padsOnly n) _

/-- The lines of every unit, the grants and the fast forces after a unit has taken its pads. -/
theorem State.refreshUnit_edge (s : State) (u : Nat) :
    (∀ k v, (s.refreshUnit u).lines k v = (s.dropForced u).lines k v) ∧ (s.refreshUnit u).edge.grants = s.edge.grants ∧
      (s.refreshUnit u).edge.synced = s.edge.synced ∧ (s.refreshUnit u).edge.hwForce = s.edge.hwForce := by
  obtain ⟨c, l, b, h⟩ := s.refreshUnit_padsOnly u
  obtain ⟨m, hm⟩ := s.dropForced_frame u
  have he : (s.refreshUnit u).edge = { (s.dropForced u).edge with chans := c, legs := l, bands := b } := by
    rw [h]
    simp only [s.unitReady_edge]
  rw [hm] at he
  simp only [State.lines, he, hm]
  exact ⟨fun _ _ => trivial, trivial, trivial, trivial⟩

theorem State.refreshUnit_drops (s : State) (u : Nat) : EnablesDrop s (s.refreshUnit u) := fun k v => by
  rw [(s.refreshUnit_edge u).1 k v]
  exact s.dropForced_drops u k v

theorem State.refreshUnit_forceOn (s : State) (u v : Nat) : (s.refreshUnit u).forceOn v = s.forceOn v :=
  (s.refreshUnit_refreshed u).forceOn ((s.refreshUnit_drops u).sameForces v) (s.refreshUnit_edge u).2.2.2

/-- A unit that is forced, or whose enable a counted pair has taken away, takes its pads: every high-side pad is low. -/
theorem State.refreshUnit_high {s : State} {u : Nat}
    (h : (s.forceOn u).isSome = true ∨ ∃ p, p < 2 ∧ s.counts p = true ∧ (s.lines p u).enable = false) :
    ∀ n, n ∈ s.unitChans u → ((s.refreshUnit u).chan n).high = false := fun n hn => by
  have hr := s.unitReady_refreshed u
  have hlines (k : Nat) : (s.unitReady u).lines k u = (s.dropForced u).lines k u := by rw [State.lines, s.unitReady_edge, State.lines]
  have hdrop : EnablesDrop s (s.unitReady u) := fun k v => by
    rw [State.lines, s.unitReady_edge]
    exact s.dropForced_drops u k v
  have hw : (s.unitReady u).edge.hwForce = s.edge.hwForce := by
    obtain ⟨m, hm⟩ := s.dropForced_frame u
    rw [s.unitReady_edge, hm]
  have hpad : ((s.unitReady u).padForce u).isSome = true := by
    refine State.padForce_isSome (h.imp (fun hf => ?_) fun ⟨p, hp, hc, he⟩ => ?_)
    · rw [hr.forceOn (hdrop.sameForces u) hw]
      exact hf
    · exact State.enabled_of_line hp ((hr.counts p).trans hc) ((hdrop p u).2.2 he)
  have hu : (s.unitReady u).banUnit n = some u := by
    rw [hr.banUnit]
    simpa using (List.mem_filter.mp hn).2
  rw [State.refreshUnit_eq]
  exact State.each_refreshChan_high _ (by rwa [hr.unitChans]) _ hu hpad

/-! ### The commands (R12-R15, R205) -/

/-- Pair `p` has removed ENABLE for unit `u`, and its grants on their way are void. -/
def State.enableRemoved (s : State) (p u : Nat) : State :=
  { s.dropEnable p u with
      edge.grants := s.edge.grants.filter (fun g => g ≠ (p, u)), edge.synced := s.edge.synced.filter (fun g => g ≠ (p, u)) }

section
variable {s : State} {p u : Nat} (hr : s.running = true) (hp : p < 2) (hu : u < 10)
include hr hp hu

theorem execBanisterRemove_enable : execBanisterRemove p u 0 s = .next ((s.enableRemoved p u).refreshUnit u) :=
  if_neg (by simp [hr, hp, hu])

theorem execBanisterRemove_sto :
    execBanisterRemove p u 1 s = .next ((s.setLines p u { s.lines p u with forceSto := true }).refreshUnit u) :=
  if_neg (by simp [hr, hp, hu])

theorem execBanisterRemove_asc :
    execBanisterRemove p u 2 s = .next ((s.setLines p u { s.lines p u with forceAsc := true }).refreshUnit u) :=
  if_neg (by simp [hr, hp, hu])

end

theorem execBanisterRemove_idle {p u : Nat} (l : Nat) (s : State) (h : 2 ≤ p ∨ 10 ≤ u ∨ s.running = false) :
    execBanisterRemove p u l s = .next s := if_pos h

/-- The grant of pair `p` for unit `u` has passed the synchroniser. -/
def State.granted (s : State) (p u : Nat) : State :=
  State.setLines { s with edge.synced := s.edge.synced.erase (p, u) } p u { s.lines p u with enable := true }

theorem execBanisterGrant_synced {s : State} {p u : Nat} (h : (p, u) ∈ s.edge.synced) :
    execBanisterGrant p u s = .next ((s.granted p u).refreshUnit u) := if_pos (by simpa using h)

/-- A removal that counts leaves no enable, and touches the lines of no other unit. -/
theorem State.enableRemoved_refreshed (s : State) {p u : Nat} (hp : p < 2) (hu : u < 10) (hc : s.counts p = true) :
    (((s.enableRemoved p u).refreshUnit u).lines p u).enable = false ∧ ((s.enableRemoved p u).refreshUnit u).enabled u = false ∧
      (∀ n, n ∈ s.unitChans u → (((s.enableRemoved p u).refreshUnit u).chan n).high = false) ∧
      (∀ k v, v < 10 → v ≠ u → ((s.enableRemoved p u).refreshUnit u).lines k v = s.lines k v) ∧
      (s.forceOn u = none → ((s.enableRemoved p u).refreshUnit u).lines (1 - p) u = s.lines (1 - p) u) := by
  have hline : ((s.enableRemoved p u).lines p u).enable = false := congrArg Lines.enable (s.lines_setLines_same p u _)
  have hs : Refreshed s (s.enableRemoved p u) := EdgeOnly.refreshed ⟨_, rfl⟩
  have hc : (s.enableRemoved p u).counts p = true := (hs.counts p).trans hc
  have hr := (s.enableRemoved p u).refreshUnit_refreshed u
  have henable := ((s.enableRemoved p u).refreshUnit_drops u p u).2.2 hline
  refine ⟨henable, State.enabled_of_line hp ((hr.counts p).trans hc) henable, fun n hn => ?_, fun k v hv h => ?_,
    fun hf => ?_⟩
  · exact State.refreshUnit_high (.inr ⟨p, hp, hc, hline⟩) n (by rwa [hs.unitChans])
  · rw [(State.refreshUnit_edge _ u).1, State.dropForced_lines_ne _ hu hv h]
    exact s.lines_setLines_ne _ (by omega)
  · have hf' : (s.enableRemoved p u).forceOn u = none := (hs.forceOn ((s.dropEnable_drops p u).sameForces u) rfl).trans hf
    rw [(State.refreshUnit_edge _ u).1, State.dropForced_of_none hf']
    exact s.lines_setLines_ne _ (by omega)

/-- A grant that arrives at a unit under no force asserts ENABLE. -/
theorem State.granted_refreshed (s : State) {p u : Nat} (hf : s.forceOn u = none) :
    (((s.granted p u).refreshUnit u).lines p u).enable = true ∧ ((s.granted p u).refreshUnit u).edge.synced = s.edge.synced.erase (p, u) := by
  have hs : Refreshed s (s.granted p u) := EdgeOnly.refreshed ⟨_, rfl⟩
  have hforces : SameForces s (s.granted p u) u := fun k => by
    by_cases h : k = p
    · subst h
      rw [State.granted, State.lines_setLines_same]
      exact ⟨rfl, rfl⟩
    · rw [State.granted, State.lines_setLines_ne _ _ (by omega)]
      exact ⟨rfl, rfl⟩
  have hnone : (s.granted p u).forceOn u = none := (hs.forceOn hforces rfl).trans hf
  obtain ⟨hlines, -, hsynced, -⟩ := (s.granted p u).refreshUnit_edge u
  refine ⟨?_, hsynced⟩
  rw [hlines, State.dropForced_of_none hnone, State.granted, State.lines_setLines_same]

/-- A force line of a pair in service that rises: it stays, and every high-side pad of the unit is low. -/
theorem State.forceRaised_refreshed (s : State) {p u : Nat} (l : Lines) (hf : ((s.setLines p u l).forceOn u).isSome = true) :
    (((s.setLines p u l).refreshUnit u).lines p u).forceAsc = l.forceAsc ∧
      (((s.setLines p u l).refreshUnit u).lines p u).forceSto = l.forceSto ∧
      ∀ n, n ∈ s.unitChans u → (((s.setLines p u l).refreshUnit u).chan n).high = false := by
  have hs : Refreshed s (s.setLines p u l) := (s.setLines_edgeOnly p u l).refreshed
  obtain ⟨hasc, hsto⟩ := ((s.setLines p u l).refreshUnit_drops u).sameForces u p
  rw [State.lines_setLines_same] at hasc hsto
  exact ⟨hasc, hsto, fun n hn => State.refreshUnit_high (.inl hf) n (by rwa [hs.unitChans])⟩

/-- The channel whose ASC_IL has passed. -/
def State.interlockPassed (s : State) (c : Nat) : State := s.setChan c { s.chan c with ilPassed := true }

theorem execAscInterlockExpiry_passed {s : State} {c : Nat} (hc : c < nChan s.part) (hh : (s.chan c).high = false) :
    execAscInterlockExpiry c s = .next ((s.interlockPassed c).refreshChan c) := if_pos (by simp [hc, hh])

/-- Under ASC the low-side pad of a traction channel goes high once ASC_IL has passed. -/
theorem State.interlockPassed_pads {s : State} {c u : Nat} (hh : (s.chan c).high = false) (hf : (s.chan c).faultLow = false)
    (hu : s.banUnit c = some u) (hfunc : s.chanFunc c = 1) (hasc : s.padForce u = some true) (hd : s.padDriven c = true)
    (hb : s.blockLow c = false) :
    (((s.interlockPassed c).refreshChan c).chan c).high = false ∧ (((s.interlockPassed c).refreshChan c).chan c).low = true := by
  obtain ⟨hx, -⟩ | ⟨v, -, hv, x, hxf, hxh, hxi, hp⟩ := (s.interlockPassed c).refreshChan_pads c
  · have hd' : (s.interlockPassed c).padDriven c = true := hd
    have hu' : (s.interlockPassed c).banUnit c = some u := hu
    simp [hd', hu'] at hx
  · obtain rfl : v = u := Option.some.inj (hv.symm.trans hu)
    rw [State.interlockPassed, State.chan_setChan_same] at hxf hxh hxi
    have hforce : (s.interlockPassed c).chanForce c v = some true := (if_neg (by rw [Bool.not_eq_true]; exact hb)).trans hasc
    have hfunc' : (s.interlockPassed c).chanFunc c = 1 := hfunc
    have hpads (mode : Nat) : padsOf 1 mode (some true) x = (false, true) := by simp [padsOf, hxf.trans hf, hxh.trans hh, hxi]
    rw [hforce, hfunc', hpads] at hp
    exact Prod.ext_iff.mp hp

theorem State.interlockPassed_edgeOnly (s : State) (c : Nat) : EdgeOnly s ((s.interlockPassed c).refreshChan c) :=
  EdgeOnly.trans ⟨_, rfl⟩ (State.refreshChan_edgeOnly _ c)

end Sys2Proof.Machine

open Sys2Proof.Machine in
/-- Settles O33: each command changes the lines of one pair for one unit, and the unit's channels take the pads that its lines and forces give. -/
theorem banisterActsAtThePads : Obligations.BanisterActsAtThePads := by
  intro s
  refine ⟨fun p u l h => execBanisterRemove_idle l s (h.imp id .inl), fun p u l h => execBanisterRemove_idle l s (.inr (.inr h)), ?_, ?_, ?_,
    fun p u h => if_neg (by simpa using h), ?_, fun c h => if_neg (by simp [Nat.not_lt.mpr h]), ?_⟩
  · intro p u hr hp hu hc
    obtain ⟨henable, hen, hhigh, hother, hpair⟩ := s.enableRemoved_refreshed hp hu hc
    obtain ⟨-, hgrants, hsynced, -⟩ := (s.enableRemoved p u).refreshUnit_edge u
    have hkept := (s.enableRemoved p u).refreshUnit_refreshed u
    refine ⟨_, execBanisterRemove_enable hr hp hu, henable, hen, hhigh, ?_, ?_, fun k v _ hv h => hother k v hv h, hpair, hkept.mem, hkept.fe⟩
    · rw [hgrants]
      simp [State.enableRemoved]
    · rw [hsynced]
      simp [State.enableRemoved]
  · intro p u hr hp hu hs
    let l : Lines := { s.lines p u with forceAsc := true }
    have hin : (s.setLines p u l).inService p = true := hs
    have hf : (s.setLines p u l).forceOn u = some true :=
      State.forceOn_asc hu (.inl (State.ascForced_of_line hp hin (by rw [State.lines_setLines_same])))
    obtain ⟨hasc, -, hhigh⟩ := s.forceRaised_refreshed l (by rw [hf]; rfl)
    exact ⟨_, execBanisterRemove_asc hr hp (by omega), hasc, (State.refreshUnit_forceOn _ u u).trans hf, hhigh⟩
  · intro p u hr hp hu hs
    let l : Lines := { s.lines p u with forceSto := true }
    have hin : (s.setLines p u l).inService p = true := hs
    have hf : ((s.setLines p u l).forceOn u).isSome = true :=
      State.forceOn_isSome_of_sto (State.stoForced_of_line hp hin (by rw [State.lines_setLines_same]))
    obtain ⟨-, hsto, hhigh⟩ := s.forceRaised_refreshed l hf
    exact ⟨_, execBanisterRemove_sto hr hp hu, hsto, by rw [State.refreshUnit_forceOn]; exact hf, hhigh⟩
  · intro p u hp hu hg hf
    obtain ⟨henable, hsynced⟩ := s.granted_refreshed (p := p) hf
    have hkept := (s.granted p u).refreshUnit_refreshed u
    exact ⟨_, execBanisterGrant_synced hg, henable, hsynced, hkept.mem, hkept.fe⟩
  · intro c u hc hh hf hu hfunc hasc hd hb
    obtain ⟨hhigh, hlow⟩ := State.interlockPassed_pads hh hf hu hfunc hasc hd hb
    obtain ⟨e, he⟩ := s.interlockPassed_edgeOnly c
    exact ⟨_, execAscInterlockExpiry_passed hc hh, hhigh, hlow, by rw [he]⟩
end

section
/-! SUPPORT. A rejoin of Warden A beside a Warden B that is out of service (R386). -/

namespace Sys2Proof.Machine

/-- PAIR_CTRL with action REJOIN for Warden A. -/
def rejoinCmd : Cmd := { master := 0, tag := 7, target := 0x10, len := 2, hostAddr := 0, payload := [1, 0] }

/-- In STANDBY with REJOIN in flight, Warden A is split, and Warden B, out of service after a divergence, has ENABLE and FORCE_ASC of set 0 left on its
lines; the Banister ignores them. BANISTER_REMOVE by a pair out of service leaves its lines so. -/
def staleForce : State :=
  { State.reset with
      pwr.power := .run, regs := [(R.SYS_MODE, 0x5), (R.PAIR_STATUS, 0x23)], edge.lines := [(16, ⟨true, false, true⟩)]
      host.ops := [{ master := 0, tag := 7, ring := 0, opcode := 0x0140, cls := 1, target := 0x10, irq := false, fence := false, isRead := false,
                     len := 2, hostAddr := 0, payload := [1, 0], stalls := [], started := false, start := 0, reported := 0, done := false }] }

/-- ENABLE of pair `k` for unit `u` after an answer. -/
def enableAfter (o : Out) (k u : Nat) : Option Bool :=
  match o with
  | .next t => some (t.lines k u).enable
  | _ => none

theorem staleForce_premises : staleForce.startable rejoinCmd 0x0140 = true ∧ staleForce.md.fromDiscover = true ∧
    natBit (staleForce.get R.SYS_STRAP_LATCHED) 2 = false ∧ staleForce.pairSt 0 = 3 ∧ staleForce.forceOn 0 = none := by decide +kernel

/-- With A back in service, the force in the lines it has taken from B acts, and ends their ENABLE. -/
theorem staleForce_enableAfter : enableAfter (exec (.pairRejoin rejoinCmd true) staleForce) 0 0 = some false := by decide +kernel

end Sys2Proof.Machine

open Sys2Proof.Machine in
/-- Refutes O48: the clause of PAIR_REJOIN does not ask for Warden B in service. With B out of service nothing forces set 0, whatever B's lines
hold; A takes them over, and as A's own they force the set at once, so ENABLE goes and A's lines are not B's. -/
theorem not_wardenPairs : ¬ Obligations.WardenPairs := by
  intro h
  obtain ⟨-, -, -, -, -, -, -, -, -, -, hrejoin, -⟩ := h staleForce
  obtain ⟨hs, hm, hstrap, hst, hforce⟩ := staleForce_premises
  obtain ⟨t, ht, -, hlines, -⟩ := hrejoin rejoinCmd rfl hs hm (by decide) (by decide) (by decide) hstrap hst
  have henable : some (t.lines 0 0).enable = some false := by rw [← staleForce_enableAfter, ht, enableAfter]
  rw [hlines 0 (by decide) hforce] at henable
  exact absurd henable (by decide +kernel)
end

section
/-! SUPPORT. The Market: what a request, a release and a quota do (R19, R20, R142-R146). -/

namespace Sys2Proof.Machine

/-! ### Registers and records -/

theorem State.get_satInc_same (s : State) (F : Fld) (hw : F.lo ≤ F.hi) (h32 : F.hi < 32) :
    (s.satInc F).get F = min (s.get F + 1) (2 ^ (F.hi + 1 - F.lo) - 1) := by
  have hpos := Nat.two_pow_pos (F.hi + 1 - F.lo)
  rw [State.satInc, State.get_put_same s F _ hw h32, satTo, Nat.mod_eq_of_lt (by omega)]

/-- A record raised with its context words. -/
theorem State.raise_raised_with (s : State) (code sev unit : Nat) (c0 c1 : Option Word) : Raised s (s.raise code sev unit c0 c1) code sev unit :=
  ⟨_, rfl, rfl, rfl, rfl, rfl, rfl⟩

/-- A flag that is set, and the record that tells of it. -/
theorem State.flag_raise (s : State) (F : Fld) (code sev unit : Nat) (c0 c1 : Option Word) (hF : F.addr ≠ R.LEDGER_SEQ) (hw : F.lo = F.hi)
    (h32 : F.hi < 32) : ((s.putB F true).raise code sev unit c0 c1).flag F = true ∧
      Raised s ((s.putB F true).raise code sev unit c0 c1) code sev unit ∧
      OnlyRegs s ((s.putB F true).raise code sev unit c0 c1) [F.addr, R.LEDGER_SEQ] := by
  refine ⟨?_, ((s.putB F true).raise_raised_with code sev unit c0 c1).after rfl rfl (s.rd_putB_ne F true (Ne.symm hF)), fun a ha => ?_⟩
  · exact ((s.putB F true).flag_wr_ne R.LEDGER_SEQ _ F hF).trans (s.flag_putB_same F true hw h32)
  · obtain ⟨ha, hs⟩ : a ≠ F.addr ∧ a ≠ R.LEDGER_SEQ := by simpa using ha
    exact (State.raise_onlyRegs _ _ _ _ _ _ a (by simpa using hs)).trans (s.rd_putB_ne F true ha)

/-! ### Channels and the pool -/

theorem mktPresent_lt {p : Part} {ch : Nat} (h : mktPresent p ch = true) : ch < 64 := by
  have hg : nGl p ≤ 3 := by cases p <;> decide
  simp only [mktPresent, Bool.or_eq_true, Bool.and_eq_true, decide_eq_true_eq] at h
  omega

theorem R.MKT_CH_STAT_ne_status (ch : Nat) : R.MKT_CH_STAT ch ≠ R.MKT_STATUS := by simp only [R.MKT_CH_STAT, R.MKT_STATUS]; omega
theorem R.MKT_CH_QUOTA_ne_status (ch : Nat) : R.MKT_CH_QUOTA ch ≠ R.MKT_STATUS := by simp only [R.MKT_CH_QUOTA, R.MKT_STATUS]; omega

theorem State.mktStatus_onlyRegs (s : State) : OnlyRegs s s.mktStatus [R.MKT_STATUS] :=
  OnlyRegs.trans (s.put_onlyRegs R.MKT_STATUS_FREE _) (State.put_onlyRegs _ R.MKT_STATUS_SHARED_FREE _)

theorem State.mktStatus_regsOnly (s : State) : RegsOnly s s.mktStatus := (s.put_regsOnly _ _).trans (State.put_regsOnly _ _ _)

theorem State.mktStatus_mkt (s : State) : s.mktStatus.mkt = s.mkt := by
  obtain ⟨_, h⟩ := s.mktStatus_regsOnly
  rw [h]

/-- The pool's status leaves the registers of the channels alone. -/
theorem State.mktStatus_get (s : State) (F : Fld) (h : F.addr ≠ R.MKT_STATUS) : s.mktStatus.get F = s.get F := by
  rw [State.get, s.mktStatus_onlyRegs F.addr (by simpa using h), State.get]

/-- HELD of a channel shown, and the pool's status after it. -/
def State.showHeld (s : State) (ch n : Nat) : State := (s.put (R.MKT_CH_STAT_HELD ch) n).mktStatus

theorem State.showHeld_held (s : State) (ch n : Nat) (hn : n < 2 ^ 13) : (s.showHeld ch n).held ch = n := by
  rw [State.held, State.showHeld, State.mktStatus_get _ _ (R.MKT_CH_STAT_ne_status ch), State.get_put_same _ _ _ (Nat.zero_le _) (show 12 < 32 by decide)]
  exact Nat.mod_eq_of_lt hn

theorem State.showHeld_onlyRegs (s : State) (ch n : Nat) : OnlyRegs s (s.showHeld ch n) [R.MKT_CH_STAT ch, R.MKT_STATUS] :=
  OnlyRegs.trans ((s.put_onlyRegs (R.MKT_CH_STAT_HELD ch) n).mono fun _ ha => List.mem_append_left [R.MKT_STATUS] ha)
    ((State.mktStatus_onlyRegs _).mono fun _ ha => List.mem_cons_of_mem _ ha)

theorem State.showHeld_mkt (s : State) (ch n : Nat) : (s.showHeld ch n).mkt = s.mkt := State.mktStatus_mkt _

theorem State.showHeld_regsOnly (s : State) (ch n : Nat) : RegsOnly s (s.showHeld ch n) :=
  (s.put_regsOnly _ _).trans (State.mktStatus_regsOnly _)

/-! ### Requests (R20, R144) -/

/-- The turn of channel `ch` has come. -/
def State.atTurn (s : State) (ch : Nat) : State := { s with mkt.lastCh := ch }

theorem State.takeStall_refused {s : State} {ch : Nat} (h : s.refused ch = true) :
    s.takeStall ch = ((s.atTurn ch).satInc (R.MKT_CH_STAT_REFUSED ch), none) := if_pos h

/-- Stall `n`, the next one, goes to channel `ch`. -/
def State.handOut (s : State) (ch n : Nat) : State :=
  { s.atTurn ch with
      mkt.fresh := if s.mkt.fresh < 4096 then s.mkt.fresh + 1 else s.mkt.fresh
      mkt.freed := if s.mkt.fresh < 4096 then s.mkt.freed else s.mkt.freed.tail
      mkt.owner := Sparse.set (always none) s.mkt.owner n (some ch)
      mkt.lens := Sparse.set (always 0) s.mkt.lens n 0 }

theorem State.takeStall_granted {s : State} {ch n : Nat} (h : s.refused ch = false) (hn : s.nextStall = some n) :
    s.takeStall ch = ((s.handOut ch n).showHeld ch (s.held ch + 1), some n) := by
  have h' : (s.atTurn ch).refused ch = false := h
  have hn' : (s.atTurn ch).nextStall = some n := hn
  change (if (s.atTurn ch).refused ch then _ else _) = _
  rw [h', if_neg Bool.false_ne_true]
  change (match (s.atTurn ch).nextStall with | none => _ | some n => _) = _
  rw [hn']
  rfl

theorem State.tlmDrop_frame (s : State) (m k : Nat) : ∃ h f, s.tlmDrop m k = { s with host := h, free := f } := by
  unfold State.tlmDrop
  dsimp only
  split
  · exact ⟨_, _, rfl⟩
  · split <;> exact ⟨_, _, rfl⟩

/-- A request is refused: counted, and a telemetry channel drops a record besides. -/
theorem State.judgeRequest_refused {s : State} {ch : Nat} (h : s.refused ch = true) :
    s.judgeRequest ch = if 8 ≤ ch ∧ ch ≤ 31 then ((s.atTurn ch).satInc (R.MKT_CH_STAT_REFUSED ch)).tlmDrop ((ch - 8) / 8) ((ch - 8) % 8)
      else (s.atTurn ch).satInc (R.MKT_CH_STAT_REFUSED ch) := by
  rw [State.judgeRequest, State.takeStall_refused h]

/-- What a refused request changes: the count of its channel, and for a telemetry channel its rings. -/
theorem State.judgeRequest_refused_spec {s : State} {ch : Nat} (h : s.refused ch = true) :
    (∀ a, (s.judgeRequest ch).rd a = (s.satInc (R.MKT_CH_STAT_REFUSED ch)).rd a) ∧
      (s.judgeRequest ch = { s with regs := (s.judgeRequest ch).regs, mkt := (s.judgeRequest ch).mkt, host := (s.judgeRequest ch).host,
                                    free := (s.judgeRequest ch).free }) ∧
      (ch < 8 ∨ 32 ≤ ch → (s.judgeRequest ch).host = s.host) := by
  rw [State.judgeRequest_refused h]
  split
  · next hc =>
    obtain ⟨_, _, hd⟩ := ((s.atTurn ch).satInc (R.MKT_CH_STAT_REFUSED ch)).tlmDrop_frame ((ch - 8) / 8) ((ch - 8) % 8)
    rw [hd]
    exact ⟨fun _ => rfl, rfl, fun hn => absurd hc (by omega)⟩
  · exact ⟨fun _ => rfl, rfl, fun _ => rfl⟩

theorem State.judgeRequest_granted {s : State} {ch n : Nat} (h : s.refused ch = false) (hn : s.nextStall = some n) :
    s.judgeRequest ch = (s.handOut ch n).showHeld ch (s.held ch + 1) := by
  rw [State.judgeRequest, State.takeStall_granted h hn]

/-- The only channel that waits has its turn. -/
theorem State.marketTurns_find (s : State) {ch : Nat} (h : ch < 64) : s.marketTurns.find? [ch].contains = some ch := by
  have hm : ch ∈ s.marketTurns := by
    simp only [State.marketTurns, List.mem_map, List.mem_range]
    exact ⟨(ch + 63 - s.mkt.lastCh % 64) % 64, by omega, by omega⟩
  have hsome : (s.marketTurns.find? [ch].contains).isSome = true := List.find?_isSome.mpr ⟨ch, hm, by simp⟩
  obtain ⟨x, hx⟩ := Option.isSome_iff_exists.mp hsome
  have hc : [ch].contains x = true := List.find?_some hx
  obtain rfl : x = ch := by simpa using hc
  exact hx

theorem execMarketRequest_one {s : State} {ch : Nat} (hr : s.running = true) (hp : mktPresent s.part ch = true) :
    execMarketRequest [ch] s = .next (s.judgeRequest ch) := by
  have hl : [ch].filter (mktPresent s.part) = [ch] := by simp [hp]
  have h1 : s.judgeRequests 1 [ch] = s.judgeRequest ch := by
    rw [State.judgeRequests, s.marketTurns_find (mktPresent_lt hp)]
    rfl
  rw [execMarketRequest, hr, hl]
  exact congrArg Host.Outcome.next h1

theorem execMarketRequest_absent {s : State} {ch : Nat} (hp : mktPresent s.part ch = false) : execMarketRequest [ch] s = .next s := by
  simp [execMarketRequest, hp, State.judgeRequests]

/-! ### Releases (R144, R146) -/

/-- Stall `n` of channel `ch` goes to the end of the free list. -/
def State.takeBack (s : State) (n : Nat) : State :=
  { s with
      mkt.freed := s.mkt.freed ++ [n]
      mkt.owner := Sparse.set (always none) s.mkt.owner n none
      mkt.lens := Sparse.set (always 0) s.mkt.lens n 0 }

theorem State.freeStall_held {s : State} {ch n : Nat} (h : Sparse.get (always none) s.mkt.owner n = some ch) :
    s.freeStall ch n = (s.takeBack n).showHeld ch (s.held ch - 1) := if_pos h

theorem State.freeStall_foreign {s : State} {ch n : Nat} (h : Sparse.get (always none) s.mkt.owner n ≠ some ch) :
    s.freeStall ch n = (s.putB R.MKT_STATUS_RELEASE_ERR true).raise 0x0502 0 0x05 (w32 n) (w32 ch) := if_neg h

theorem execMarketRelease_absent {s : State} {ch : Nat} (n : Nat) (hp : mktPresent s.part ch = false) :
    execMarketRelease none ch n s = .next s := by
  simp [execMarketRelease, State.onlyIf, hp]

section
variable {s : State} {ch : Nat} (n : Nat) (hr : s.running = true) (hp : mktPresent s.part ch = true)
include hr hp

theorem execMarketRelease_hardware : execMarketRelease none ch n s = .next (s.freeStall ch (n % 4096)) := by
  simp [execMarketRelease, State.onlyIf, hr, hp]

theorem execMarketRelease_steward : execMarketRelease (some .steward) ch n s = .next (s.freeStall ch (n % 4096)) := by
  unfold execMarketRelease
  dsimp only
  rw [s.windowWrite_live _ _ _ hr rfl (by decide)]
  simp [State.onlyIf, hp]

end

/-- A release by register is the Steward cluster's and the Wardens' alone. -/
theorem execMarketRelease_host (s : State) (ch n : Nat) : execMarketRelease (some .hostA) ch n s = .next s :=
  s.windowWrite_idle .hostA 0x05 _ (by decide) rfl

/-! ### Quotas (R19, R142, R145) -/

/-- A quota within the pool takes effect. -/
def State.setQuota (s : State) (ch mn ce : Nat) : State := ((s.put (R.MKT_CH_QUOTA_MIN ch) mn).put (R.MKT_CH_QUOTA_CEIL ch) ce).mktStatus

theorem State.setQuota_spec (s : State) (ch mn ce : Nat) (hm : mn < 2 ^ 13) (hc : ce < 2 ^ 13) :
    (s.setQuota ch mn ce).minOf ch = mn ∧ (s.setQuota ch mn ce).ceilOf ch = ce ∧
      OnlyRegs s (s.setQuota ch mn ce) [R.MKT_CH_QUOTA ch, R.MKT_STATUS] ∧ RegsOnly s (s.setQuota ch mn ce) := by
  refine ⟨?_, ?_, fun a ha => ?_, ((s.put_regsOnly _ _).trans (State.put_regsOnly _ _ _)).trans (State.mktStatus_regsOnly _)⟩
  · rw [State.minOf, State.setQuota, State.mktStatus_get _ _ (R.MKT_CH_QUOTA_ne_status ch),
      State.get_put_of_apart _ _ _ _ (.inr ⟨Nat.zero_le _, show 12 < 32 by decide, .inr (show 12 < 16 by decide)⟩),
      State.get_put_same _ _ _ (show 16 ≤ 28 by decide) (show 28 < 32 by decide)]
    exact Nat.mod_eq_of_lt hm
  · rw [State.ceilOf, State.setQuota, State.mktStatus_get _ _ (R.MKT_CH_QUOTA_ne_status ch),
      State.get_put_same _ _ _ (Nat.zero_le _) (show 12 < 32 by decide)]
    exact Nat.mod_eq_of_lt hc
  · obtain ⟨hq, hs⟩ : a ≠ R.MKT_CH_QUOTA ch ∧ a ≠ R.MKT_STATUS := by simpa using ha
    exact (State.mktStatus_onlyRegs _ a (by simpa using hs)).trans ((State.rd_put_ne _ _ _ hq).trans (s.rd_put_ne _ _ hq))

section
variable {s : State} {ch : Nat} {v : Word} (hr : s.running = true) (hp : mktPresent s.part ch = true) (ho : s.owner = 0)
include hr hp ho

theorem execMarketQuotaWrite_rejected (h : 4096 < bitsOf v 28 16 ∨ 4096 < bitsOf v 12 0 ∨ bitsOf v 12 0 < bitsOf v 28 16) :
    execMarketQuotaWrite .hostA ch v s = .next ((s.putB R.MKT_STATUS_QUOTA_ERR true).raise 0x0501 0 0x05) := by
  refine (s.windowWrite_live .hostA 0x05 _ hr rfl (by decide)).trans ?_
  have hown : s.isOwner .hostA = true := by simp [State.isOwner, Writer.master, ho]
  simp only [hown, hp, Bool.true_or, Bool.not_true, Bool.or_self, Bool.false_eq_true, if_false]
  exact if_pos (by omega)

theorem execMarketQuotaWrite_taken (h1 : bitsOf v 28 16 ≤ bitsOf v 12 0) (h2 : bitsOf v 12 0 ≤ 4096)
    (h3 : s.reserved - max (s.held ch) (s.minOf ch) + max (s.held ch) (bitsOf v 28 16) ≤ 4096) :
    execMarketQuotaWrite .hostA ch v s = .next (s.setQuota ch (bitsOf v 28 16) (bitsOf v 12 0)) := by
  refine (s.windowWrite_live .hostA 0x05 _ hr rfl (by decide)).trans ?_
  have hown : s.isOwner .hostA = true := by simp [State.isOwner, Writer.master, ho]
  simp only [hown, hp, Bool.true_or, Bool.not_true, Bool.or_self, Bool.false_eq_true, if_false]
  exact if_neg (by omega)

end

/-- Host B, where the Steward cluster owns, writes the quotas of its own channels only. -/
theorem execMarketQuotaWrite_notOwner {s : State} {ch : Nat} (v : Word) (ho : s.owner = 2) (h : ch < 16 ∨ 24 ≤ ch) (h1 : ch ≠ 1) :
    execMarketQuotaWrite .hostB ch v s = .next s := by
  refine s.windowWrite_idle .hostB 0x05 _ (by decide) ?_
  have hown : s.isOwner .hostB = false := by simp [State.isOwner, Writer.master, ho]
  have hch : (decide (16 ≤ ch) && decide (ch < 24)) = false := by simp; omega
  simp [hown, Writer.master, h1, hch]

end Sys2Proof.Machine

open Sys2Proof.Machine in
/-- Settles O21: a request goes to the only waiting channel's turn and is judged by its quota, a release by the stall's owner, and a quota by the
pool. -/
theorem marketStalls : Obligations.MarketStalls := by
  intro s
  refine ⟨fun ch hp => ⟨execMarketRequest_absent hp, execMarketRelease_absent 0 hp⟩, ?_, ?_, ?_, ?_, fun ch n => execMarketRelease_host s ch n, ?_, ?_,
    fun ch v ho h h1 => execMarketQuotaWrite_notOwner v ho h h1⟩
  · intro ch hr hp h
    have href : s.refused ch = true := by simp [State.refused, h]
    obtain ⟨hrd, hframe, hhost⟩ := State.judgeRequest_refused_spec href
    have hget (F : Fld) : (s.judgeRequest ch).get F = (s.satInc (R.MKT_CH_STAT_REFUSED ch)).get F := by rw [State.get, hrd, State.get]
    refine ⟨_, execMarketRequest_one hr hp, ?_, ?_, fun a ha => (hrd a).trans (s.rd_put_ne (R.MKT_CH_STAT_REFUSED ch) _ (show a ≠ R.MKT_CH_STAT ch by simpa using ha)), hframe, hhost⟩
    · rw [hget]
      exact s.get_satInc_same (R.MKT_CH_STAT_REFUSED ch) (show 16 ≤ 31 by decide) (show 31 < 32 by decide)
    · rw [State.held, hget]
      exact s.get_put_of_apart _ _ _ (.inr ⟨show 16 ≤ 31 by decide, show 31 < 32 by decide, .inl (show 12 < 16 by decide)⟩)
  · intro ch n hr hp hmin hceil hn
    have href : s.refused ch = false := by simp [State.refused, Nat.not_le.mpr hmin, Nat.not_le.mpr hceil]
    have hlt : s.held ch + 1 < 2 ^ 13 := lt_of_le_of_lt hmin (bitsOf_lt _ 28 16)
    refine ⟨_, (execMarketRequest_one hr hp).trans (congrArg _ (State.judgeRequest_granted href hn)), State.showHeld_held _ ch _ hlt, ?_,
      State.showHeld_onlyRegs _ ch _, ?_⟩
    · rw [State.showHeld_mkt]
      exact Sparse.get_set_same (always none) s.mkt.owner n (some ch)
    · rw [(State.showHeld_regsOnly (s.handOut ch n) ch _).frame]
      rfl
  · intro ch n hr hp ho hh
    have hlt : s.held ch - 1 < 2 ^ 13 := lt_of_le_of_lt (Nat.sub_le _ 1) (bitsOf_lt _ 12 0)
    refine ⟨_, (execMarketRelease_hardware n hr hp).trans (congrArg _ (State.freeStall_held ho)), State.showHeld_held _ ch _ hlt, ?_,
      State.showHeld_onlyRegs _ ch _, ?_⟩
    · rw [State.showHeld_mkt]
      rfl
    · rw [(State.showHeld_regsOnly (s.takeBack (n % 4096)) ch _).frame]
      rfl
  · intro ch n hr hp ho
    obtain ⟨hflag, hraised, honly⟩ := s.flag_raise R.MKT_STATUS_RELEASE_ERR 0x0502 0 0x05 (w32 (n % 4096)) (w32 ch) (by decide) rfl (by decide)
    exact ⟨_, (execMarketRelease_steward n hr hp).trans (congrArg _ (State.freeStall_foreign ho)), hflag, hraised, (State.raise_mkt ..).trans (State.putB_mkt ..), honly⟩
  · intro ch v hr hp ho h
    obtain ⟨hflag, hraised, honly⟩ := s.flag_raise R.MKT_STATUS_QUOTA_ERR 0x0501 0 0x05 none none (by decide) rfl (by decide)
    exact ⟨_, execMarketQuotaWrite_rejected hr hp ho h, hflag, hraised, honly⟩
  · intro ch v hr hp ho h1 h2 h3
    obtain ⟨hmin, hceil, honly, hframe⟩ := s.setQuota_spec ch (bitsOf v 28 16) (bitsOf v 12 0) (bitsOf_lt v 28 16) (bitsOf_lt v 12 0)
    exact ⟨_, execMarketQuotaWrite_taken hr hp ho h1 h2 h3, hmin, hceil, honly, hframe.frame⟩
end

section
/-! SUPPORT. Links: LINK_STATUS, what the loss of a host or of a clock leaves of it, and the records raised for it (R29, R446-R459). -/

namespace Sys2Proof.Machine

/-! ### One bit of a field -/

theorem natBit_eq_testBit (n j : Nat) : natBit n j = n.testBit j := by
  simp [natBit, Nat.testBit, Nat.and_comm, Nat.and_one_is_mod]

/-- A number with one bit set: the bits below it, and above them the quotient with its own bit 0 replaced. -/
theorem natSetBit_eq (n b : Nat) (v : Bool) : natSetBit n b v = 2 ^ b * (n / 2 ^ b - n / 2 ^ b % 2 + bit v) + n % 2 ^ b := by
  have hb : bit (natBit n b) = n / 2 ^ b % 2 := by
    rcases Nat.mod_two_eq_zero_or_one (n / 2 ^ b) with h | h <;> simp [natBit, bit, Nat.shiftRight_eq_div_pow, h]
  have hq := Nat.div_add_mod n (2 ^ b)
  have hle := Nat.mul_le_mul_left (2 ^ b) (Nat.mod_le (n / 2 ^ b) 2)
  rw [natSetBit, hb, Nat.mul_add, Nat.mul_sub, Nat.mul_comm _ (2 ^ b), Nat.mul_comm (bit v)]
  omega

theorem natBit_natSetBit_ne (n : Nat) (v : Bool) {b j : Nat} (h : j ≠ b) : natBit (natSetBit n b v) j = natBit n j := by
  have hr := Nat.mod_lt n (Nat.two_pow_pos b)
  conv_rhs => rw [natBit_eq_testBit, ← Nat.div_add_mod n (2 ^ b), Nat.testBit_two_pow_mul_add _ hr]
  rw [natBit_eq_testBit, natSetBit_eq, Nat.testBit_two_pow_mul_add _ hr]
  by_cases hj : j < b
  · simp [hj]
  · obtain ⟨i, hi⟩ := Nat.exists_eq_add_of_lt (lt_of_le_of_ne (Nat.le_of_not_lt hj) (Ne.symm h))
    have hd : j - b = i + 1 := by omega
    have hv : bit v < 2 := by cases v <;> decide
    rw [if_neg hj, if_neg hj, hd, Nat.testBit_succ, Nat.testBit_succ]
    generalize n / 2 ^ b = q
    exact congrArg (Nat.testBit · i) (by omega)

theorem State.bitAt_putBit_ne (s : State) (F : Fld) (v : Bool) {b j : Nat} (h : j ≠ b) (hj : j + F.lo ≤ F.hi) (h32 : F.hi < 32) :
    (s.putBit F b v).bitAt F j = s.bitAt F j := by
  rw [State.bitAt, State.putBit, State.get_put_same s F _ (by omega) h32, natBit_mod _ _ _ (by omega), natBit_natSetBit_ne _ v h, State.bitAt]

/-! ### The fields of the two PCIe ports -/

theorem portGen_width (p : Nat) : (portGen p).lo ≤ (portGen p).hi ∧ (portGen p).hi < 32 ∧ (portGen p).hi + 1 - (portGen p).lo = 3 := by
  by_cases h : p = 0 <;> simp [portGen, h, R.LINK_STATUS_PCIE_A_GEN, R.LINK_STATUS_PCIE_B_GEN]

theorem portX2_width (p : Nat) : (portX2 p).lo = (portX2 p).hi ∧ (portX2 p).hi < 32 := by
  by_cases h : p = 0 <;> simp [portX2, h, R.LINK_STATUS_PCIE_A_X2, R.LINK_STATUS_PCIE_B_X2]

theorem portGen_addr (p : Nat) : (portGen p).addr = R.LINK_STATUS := by
  by_cases h : p = 0 <;> simp [portGen, h, R.LINK_STATUS_PCIE_A_GEN, R.LINK_STATUS_PCIE_B_GEN]

theorem portX2_addr (p : Nat) : (portX2 p).addr = R.LINK_STATUS := by
  by_cases h : p = 0 <;> simp [portX2, h, R.LINK_STATUS_PCIE_A_X2, R.LINK_STATUS_PCIE_B_X2]

theorem portGen_apart {p q : Nat} (hp : p < 2) (hq : q < 2) (h : q ≠ p) : (portGen p).Apart (portGen q) := by
  refine .inr ⟨(portGen_width p).1, (portGen_width p).2.1, ?_⟩
  obtain ⟨rfl, rfl⟩ | ⟨rfl, rfl⟩ : p = 0 ∧ q = 1 ∨ p = 1 ∧ q = 0 := by omega
  · decide
  · decide

theorem portX2_apart (p q : Nat) : (portX2 p).Apart (portGen q) := by
  refine .inr ⟨(portX2_width p).1.le, (portX2_width p).2, ?_⟩
  by_cases hp : p = 0 <;> by_cases hq : q = 0 <;>
    simp [portX2, portGen, hp, hq, R.LINK_STATUS_PCIE_A_X2, R.LINK_STATUS_PCIE_B_X2, R.LINK_STATUS_PCIE_A_GEN, R.LINK_STATUS_PCIE_B_GEN]

/-- LINK_STATUS shows port `p` at a generation and width (R446). -/
def State.showPort (s : State) (p gen : Nat) (x2 : Bool) : State := (s.put (portGen p) gen).putB (portX2 p) x2

theorem State.showPort_gen (s : State) (p : Nat) {gen : Nat} (x2 : Bool) (h : gen < 8) : (s.showPort p gen x2).get (portGen p) = gen := by
  obtain ⟨hw, h32, hn⟩ := portGen_width p
  rw [State.showPort, State.putB, State.get_put_of_apart _ _ _ _ (portX2_apart p p), State.get_put_same s _ _ hw h32, hn]
  exact Nat.mod_eq_of_lt h

theorem State.showPort_x2 (s : State) (p gen : Nat) (x2 : Bool) : (s.showPort p gen x2).flag (portX2 p) = x2 :=
  State.flag_putB_same _ _ _ (portX2_width p).1 (portX2_width p).2

theorem State.showPort_gen_ne (s : State) {p q : Nat} (gen : Nat) (x2 : Bool) (hp : p < 2) (hq : q < 2) (h : q ≠ p) :
    (s.showPort p gen x2).get (portGen q) = s.get (portGen q) := by
  rw [State.showPort, State.putB, State.get_put_of_apart _ _ _ _ (portX2_apart p q), State.get_put_of_apart _ _ _ _ (portGen_apart hp hq h)]

theorem State.showPort_onlyRegs (s : State) (p gen : Nat) (x2 : Bool) : OnlyRegs s (s.showPort p gen x2) [R.LINK_STATUS] :=
  OnlyRegs.trans (portGen_addr p ▸ s.put_onlyRegs (portGen p) gen)
    (portX2_addr p ▸ State.put_onlyRegs (s.put (portGen p) gen) (portX2 p) (bit x2))

/-! ### What leaves LINK_STATUS and the power block alone -/

/-- LINK_STATUS and the power block are in `t` as in `s`. -/
def LinksKept (s t : State) : Prop := t.rd R.LINK_STATUS = s.rd R.LINK_STATUS ∧ t.pwr = s.pwr

theorem LinksKept.refl (s : State) : LinksKept s s := ⟨rfl, rfl⟩

theorem LinksKept.trans {s t u : State} (h : LinksKept s t) (k : LinksKept t u) : LinksKept s u := ⟨k.1.trans h.1, k.2.trans h.2⟩

theorem LinksKept.get {s t : State} (h : LinksKept s t) (F : Fld) (hF : F.addr = R.LINK_STATUS) : t.get F = s.get F := by
  rw [State.get, hF, h.1, State.get, hF]

theorem LinksKept.flag {s t : State} (h : LinksKept s t) (F : Fld) (hF : F.addr = R.LINK_STATUS) : t.flag F = s.flag F :=
  congrArg (· != 0) (h.get F hF)

theorem LinksKept.each {α : Type} {f : State → α → State} (l : List α) (hf : ∀ a ∈ l, ∀ s, LinksKept s (f s a)) (s : State) :
    LinksKept s (s.each l f) :=
  State.each_rel LinksKept.refl LinksKept.trans l hf s

theorem Refreshed.linksKept {s t : State} (h : Refreshed s t) : LinksKept s t := ⟨h.rd (by decide), h.pwr⟩

theorem State.put_linksKept (s : State) (F : Fld) (v : Nat) (h : R.LINK_STATUS ≠ F.addr) : LinksKept s (s.put F v) := ⟨s.rd_put_ne F v h, rfl⟩

theorem State.wrapInc_linksKept (s : State) (F : Fld) (h : R.LINK_STATUS ≠ F.addr) : LinksKept s (s.wrapInc F) := s.put_linksKept F _ h

theorem State.modEng_linksKept (s : State) (n : Nat) (f : Engine → Engine) : LinksKept s (s.modEng n f) := ⟨State.modEng_rd .., State.modEng_pwr ..⟩

theorem State.raise_linksKept (s : State) (code sev unit : Nat) (c0 c1 : Option Word) : LinksKept s (s.raise code sev unit c0 c1) :=
  ⟨s.raise_onlyRegs code sev unit c0 c1 _ (by decide), rfl⟩

theorem State.event_linksKept (s : State) (code source : Nat) (c0 c1 c2 c3 : Option Word) : LinksKept s (s.event code source c0 c1 c2 c3) := ⟨rfl, rfl⟩

theorem State.stage_linksKept (s : State) (n p : Nat) (w : Word) : LinksKept s (s.stage n p w) := s.modEng_linksKept n _

theorem State.removeEnable_linksKept (s : State) (u : Nat) : LinksKept s (s.removeEnable u) := (s.removeEnable_refreshed u).linksKept

/-- A set is taken out of operation. -/
theorem State.takeOut_linksKept (s : State) (u : Nat) : LinksKept s (s.takeOut u) :=
  ((s.removeEnable_linksKept u).trans (State.forceUnit_refreshed _ u _).linksKept).trans ⟨rfl, rfl⟩

/-- The safe state of the outputs is at the Banister and the converter. -/
theorem State.safeOutputs_linksKept (s : State) (code : Nat) : LinksKept s (s.safeOutputs code) := by
  have h := ((LinksKept.each s.sets (fun u _ t => t.takeOut_linksKept u) s).trans
    (LinksKept.each s.motors (fun m _ t => t.removeEnable_linksKept (4 + m)) _)).trans (State.removeEnable_linksKept _ unitCharger)
  unfold State.safeOutputs
  dsimp only
  split
  · exact h.trans ((State.removeEnable_linksKept _ unitConv).trans ⟨rfl, rfl⟩)
  · exact h

theorem State.convWake_linksKept (s : State) : LinksKept s s.convWake := by
  unfold State.convWake
  split
  · refine (s.convState_refreshed (if s.conv.ssDone then 2 else 1)).linksKept.trans ?_
    generalize s.convState (if s.conv.ssDone then 2 else 1) = t
    exact LinksKept.trans (t := { t with conv.withheld := false, conv.padsLow := false }) ⟨rfl, rfl⟩ (State.refreshUnit_refreshed _ unitConv).linksKept
  · exact LinksKept.refl s

/-- The owner agent's first act: zero torque for every set (R120). -/
def State.agentTorque (s : State) : State :=
  if groupAccepts s 0x1000 then
    s.each s.sets fun t n => (t.stage n 337 (fZero false)).stage n 359 ((t.eng n).nextWord 359 + 1)
  else s

/-- Its second: the converter's default voltage. -/
def State.agentVoltage (s : State) : State := { (s.stage 4 336 s.defaultVset).convWake with conv.ownVset := some s.defaultVset }

theorem State.ownerAgent_eq (s : State) :
    s.ownerAgent = if groupAccepts s.agentTorque 0x2000 && !s.agentTorque.lvArmed then s.agentTorque.agentVoltage else s.agentTorque := rfl

theorem State.agentTorque_linksKept (s : State) : LinksKept s s.agentTorque := by
  unfold State.agentTorque
  split
  · exact LinksKept.each s.sets (fun n _ t => (t.stage_linksKept n 337 _).trans (State.stage_linksKept _ n 359 _)) s
  · exact LinksKept.refl s

theorem State.agentVoltage_linksKept (s : State) : LinksKept s s.agentVoltage := by
  have h := (s.stage_linksKept 4 336 s.defaultVset).trans (State.convWake_linksKept _)
  unfold State.agentVoltage
  generalize (s.stage 4 336 s.defaultVset).convWake = t at h
  exact h.trans ⟨rfl, rfl⟩

theorem State.ownerAgent_linksKept (s : State) : LinksKept s s.ownerAgent := by
  rw [State.ownerAgent_eq]
  split
  · exact s.agentTorque_linksKept.trans (State.agentVoltage_linksKept _)
  · exact s.agentTorque_linksKept

theorem State.changeOwner_linksKept (s : State) (m st prio : Nat) (nonce : Word) : LinksKept s (s.changeOwner m st prio nonce) := by
  have hown : LinksKept s ((((s.put R.OWN_STATUS_OWNER m).put R.OWN_STATUS_STATE st).put R.OWN_STATUS_PRIO prio).wr R.OWN_NONCE nonce) :=
    (((s.put_linksKept _ _ (by decide)).trans (State.put_linksKept _ _ _ (by decide))).trans (State.put_linksKept _ _ _ (by decide))).trans
      ⟨State.rd_wr_ne _ _ _ (by decide), rfl⟩
  have hseq := hown.trans (State.wrapInc_linksKept _ R.OWN_STATUS_OWN_SEQ (by decide))
  have htold (t : State) (c0 c1 c2 c3 : Option Word) : LinksKept t (({ t with own.hbAt := t.atime }).event 0x0201 0x02 c0 c1 c2 c3) := ⟨rfl, rfl⟩
  unfold State.changeOwner
  dsimp only
  split
  · exact (hseq.trans (htold _ _ _ _ _)).trans (State.ownerAgent_linksKept _)
  · exact hseq.trans (htold _ _ _ _ _)

theorem State.seizeOwner_linksKept (s : State) (m : Nat) : LinksKept s (s.seizeOwner m) :=
  (s.changeOwner_linksKept stewardMaster ownWindowOpen 0 0).trans ⟨rfl, rfl⟩

theorem State.haltEngine_linksKept (s : State) {n : Nat} (h : n < 8) : LinksKept s (s.haltEngine n) := by
  have h1 : R.LINK_STATUS ≠ (R.FE_CTRL_RUN n).addr := by simp only [R.LINK_STATUS, R.FE_CTRL_RUN, R.FE_CTRL]; omega
  have h2 : R.LINK_STATUS ≠ (R.FE_STATUS_RUNNING n).addr := by simp only [R.LINK_STATUS, R.FE_STATUS_RUNNING, R.FE_STATUS]; omega
  exact (((s.put_linksKept _ _ h1).trans (State.put_linksKept _ _ _ h2)).trans (State.put_linksKept _ R.PAIR_STATUS_FE_IN_SERVICE _ (by decide))).trans
    (State.modEng_linksKept _ n _)

theorem State.stopDiscovery_linksKept (s : State) : LinksKept s s.stopDiscovery := by
  refine LinksKept.each _ (fun n hn t => t.haltEngine_linksKept ?_) s
  simp only [State.engines, List.mem_filter, List.mem_range] at hn
  exact hn.1.1

theorem State.endDiscovery_linksKept (s : State) : LinksKept s s.endDiscovery := by
  have h := (s.put_linksKept R.DISC_STATUS_BUSY (bit false) (by decide)).trans (State.stopDiscovery_linksKept _)
  unfold State.endDiscovery
  rw [State.putB]
  generalize (s.put R.DISC_STATUS_BUSY (bit false)).stopDiscovery = t at h
  exact h.trans ⟨rfl, rfl⟩

theorem State.endDischarge_linksKept (s : State) (st : Status) : LinksKept s (s.endDischarge st) := by
  unfold State.endDischarge
  split
  · exact LinksKept.refl s
  · exact ⟨rfl, rfl⟩

theorem State.abortOp_linksKept (s : State) (o : Op) : LinksKept s (s.abortOp o) := by
  have h : LinksKept s (if o.opcode = 0x0131 && o.started then s.endDischarge .aborted
      else (s.cancelWaits o.master o.tag).result o.master o.tag 3 .aborted 0 false false) := by
    split
    · exact s.endDischarge_linksKept .aborted
    · exact ⟨rfl, rfl⟩
  unfold State.abortOp
  dsimp only
  split
  · exact h.trans (State.endDiscovery_linksKept _)
  · exact h

theorem State.abortB_linksKept (s : State) (m : Nat) : LinksKept s (s.abortB m) := LinksKept.each _ (fun o _ t => t.abortOp_linksKept o) s

theorem State.ownerLost_linksKept (s : State) (cause : Nat) : LinksKept s (s.ownerLost cause) := by
  have h := ((s.event_linksKept 0x0203 0x02 (w32 s.owner) (w32 cause) (w32 (s.get R.OWN_STATUS_OWN_SEQ)) (w32 0)).trans
    (State.raise_linksKept _ 0x0201 0 0x02 none none)).trans (State.abortB_linksKept _ s.owner)
  unfold State.ownerLost
  dsimp only
  split
  · exact h.trans ⟨rfl, rfl⟩
  · exact h.trans (State.seizeOwner_linksKept _ _)

theorem State.dropOp_linksKept (s : State) (m tag : Nat) : LinksKept s (s.dropOp m tag) := ⟨rfl, rfl⟩

theorem State.discardHeld_linksKept (s : State) (m : Nat) : LinksKept s (s.discardHeld m) := by
  unfold State.discardHeld
  exact LinksKept.trans ⟨rfl, rfl⟩ (LinksKept.each _ (fun (r : Result) _ t => t.dropOp_linksKept r.master r.tag) _)

theorem State.handEvent_linksKept (s : State) (outcome : Nat) : LinksKept s (s.handEvent outcome) := s.event_linksKept ..

theorem State.handOver_linksKept (s : State) : LinksKept s s.handOver := ⟨rfl, rfl⟩

theorem State.revert_linksKept (s : State) : LinksKept s s.revert :=
  ((s.handEvent_linksKept 2).trans (State.put_linksKept _ R.OWN_STATUS_STATE ownHeld (by decide))).trans (State.handOver_linksKept _)

/-- The loss of a host is the ownership's business (R126, R127): the links are as they were. -/
theorem State.hostGone_linksKept (s : State) (m : Nat) : LinksKept s (s.hostGone m) := by
  have hd := s.discardHeld_linksKept m
  unfold State.hostGone
  dsimp only
  split
  · split
    · exact ((hd.trans (State.handEvent_linksKept _ 3)).trans (State.handOver_linksKept _)).trans (State.seizeOwner_linksKept _ _)
    · exact hd.trans (State.revert_linksKept _)
  · split
    · exact hd.trans (State.ownerLost_linksKept _ 1)
    · exact hd

/-! ### PCIe ports (R446) -/

theorem State.portDown_linksKept (s : State) (p : Nat) : LinksKept (s.showPort p 0 false) (s.portDown p) := State.hostGone_linksKept _ p

theorem State.portDown_gen (s : State) (p : Nat) : (s.portDown p).get (portGen p) = 0 :=
  ((s.portDown_linksKept p).get _ (portGen_addr p)).trans (s.showPort_gen p false (by decide))

theorem State.portDown_x2 (s : State) (p : Nat) : (s.portDown p).flag (portX2 p) = false :=
  ((s.portDown_linksKept p).flag _ (portX2_addr p)).trans (s.showPort_x2 p 0 false)

theorem State.portDown_gen_ne (s : State) {p q : Nat} (hp : p < 2) (hq : q < 2) (h : q ≠ p) : (s.portDown p).get (portGen q) = s.get (portGen q) :=
  ((s.portDown_linksKept p).get _ (portGen_addr q)).trans (s.showPort_gen_ne 0 false hp hq h)

theorem State.portDown_pwr (s : State) (p : Nat) : (s.portDown p).pwr = s.pwr := (s.portDown_linksKept p).2

/-- The record that is raised is among those that go to Landing 0. -/
theorem State.raise_recorded (s : State) (code sev unit : Nat) (c0 c1 : Option Word) :
    ∃ r, r ∈ (s.raise code sev unit c0 c1).led.arriving ∧ r.code = code ∧ r.sev = sev ∧ r.unit = unit ∧ r.ctx0 = s.ctxWord c0 0 :=
  ⟨_, List.mem_append_right _ List.mem_cons_self, rfl, rfl, rfl, rfl⟩

/-- PERST of port `p` is high, and CLK_HOST runs as the links need it. -/
def State.portTrained (s : State) (p : Nat) (fast : Bool) : State :=
  { s with pwr.clkHost500 := fast, pwr.perst := natSetBit s.pwr.perst p false }

theorem State.portTrained_get (s : State) (p : Nat) (fast : Bool) (F : Fld) : (s.portTrained p fast).get F = s.get F := rfl
theorem State.portTrained_flag (s : State) (p : Nat) (fast : Bool) (F : Fld) : (s.portTrained p fast).flag F = s.flag F := rfl
theorem State.portTrained_onlyRegs (s : State) (p : Nat) (fast : Bool) (l : List Nat) : OnlyRegs s (s.portTrained p fast) l := fun _ _ => rfl

theorem execPcieLinkUp_trained {s : State} {p gen : Nat} (x2 : Bool) (hr : s.running = true) (hp : p < 2) (h1 : 1 ≤ gen) (h4 : gen ≤ 4) :
    ∃ fast, execPcieLinkUp p gen x2 s = .next ((s.showPort p gen x2).portTrained p fast) := by
  refine ⟨decide (3 ≤ (s.showPort p gen x2).get (portGen 0)) || decide (3 ≤ (s.showPort p gen x2).get (portGen 1)), ?_⟩
  rw [execPcieLinkUp, if_neg (by simp [hr]; omega)]
  rfl

theorem execPcieLinkDown_eq {s : State} {p : Nat} (hr : s.running = true) (hp : p < 2) : execPcieLinkDown p s = .next (s.linkLoss p) := by
  rw [execPcieLinkDown, if_pos (by simp [hr, hp])]

/-! ### Clock monitors (R29) -/

/-- The code of the record for clock `k`, and its severity. -/
def clockCode (k : Nat) : Nat := if k = 0 then 0x0001 else if k = 1 then 0x0002 else if k = 2 then 0x0003 else if k = 3 then 0x0008 else 0x0004
def clockSev (k : Nat) : Nat := if k = 2 then 1 else 2

/-- Clock `k` is marked lost. -/
def State.markClock (s : State) (k : Nat) : State := { s with pwr.clkLost := natSetBit s.pwr.clkLost k true }

/-- What the loss of clock `k` does before its record: the safe state, both hosts lost, or nothing. -/
def State.clockReaction (s : State) (k : Nat) : State :=
  if k = 2 then ((s.markClock 2).portDown 0).portDown 1 else if k = 4 then s.markClock 4 else (s.markClock k).safeOutputs 0

theorem State.clockLost_eq (s : State) {k : Nat} (h : k < 5) : s.clockLost k = (s.clockReaction k).raise (clockCode k) (clockSev k) 0 :=
  match k, h with
  | 0, _ => rfl
  | 1, _ => rfl
  | 2, _ => rfl
  | 3, _ => rfl
  | 4, _ => rfl

theorem State.clockReaction_pwr (s : State) (k : Nat) : (s.clockReaction k).pwr = (s.markClock k).pwr := by
  unfold State.clockReaction
  split
  next h => rw [State.portDown_pwr, State.portDown_pwr, h]
  next =>
    split
    next h => rw [h]
    next => exact (State.safeOutputs_linksKept _ 0).2

theorem State.clockLost_marked (s : State) {k : Nat} (h : k < 5) : natBit (s.clockLost k).pwr.clkLost k = true := by
  rw [s.clockLost_eq h, State.raise_pwr, s.clockReaction_pwr k]
  exact natBit_natSetBit _ k true

theorem State.clockLost_recorded (s : State) {k : Nat} (h : k < 5) :
    ∃ r, r ∈ (s.clockLost k).led.arriving ∧ r.unit = 0 ∧ r.sev = clockSev k ∧ r.code = clockCode k := by
  obtain ⟨r, hmem, hcode, hsev, hunit, _⟩ := (s.clockReaction k).raise_recorded (clockCode k) (clockSev k) 0 none none
  exact ⟨r, s.clockLost_eq h ▸ hmem, hunit, hsev, hcode⟩

/-- The loss of PLL_HOST leaves both ports down. -/
theorem State.clockLost_host (s : State) : (s.clockLost 2).get (portGen 0) = 0 ∧ (s.clockLost 2).get (portGen 1) = 0 := by
  have hraise := State.raise_linksKept (((s.markClock 2).portDown 0).portDown 1) 0x0003 1 0x00 none none
  constructor
  · exact (hraise.get _ (portGen_addr 0)).trans
      ((State.portDown_gen_ne _ (by decide) (by decide) (by decide)).trans (State.portDown_gen _ 0))
  · exact (hraise.get _ (portGen_addr 1)).trans (State.portDown_gen _ 1)

/-- The loss of CLK_WARD leaves both ports as they are. -/
theorem State.clockLost_ward (s : State) (p : Nat) : (s.clockLost 3).get (portGen p) = s.get (portGen p) := by
  have h : LinksKept (s.markClock 3) (s.clockLost 3) := (State.safeOutputs_linksKept _ 0).trans (State.raise_linksKept _ 0x0008 2 0x00 none none)
  exact h.get _ (portGen_addr p)

theorem clocksLost_none {k : Nat} (h : k % 32 = 0) : clocksLost k = [] := by
  have hbit (i : Nat) (hi : i < 5) : natBit k i = false := by
    rw [← natBit_mod k i 5 hi, show k % 2 ^ 5 = 0 from h]
    simp [natBit]
  rw [clocksLost, if_neg (by omega), List.filter_eq_nil_iff]
  intro i hi
  simp [hbit i (List.mem_range.mp hi)]

theorem clocksLost_one {k : Nat} (h : k < 5) : clocksLost (2 ^ k) = [k] :=
  match k, h with
  | 0, _ => by decide
  | 1, _ => by decide
  | 2, _ => by decide
  | 3, _ => by decide
  | 4, _ => by decide

theorem execClockMonitorTrip_one {s : State} {trips k : Nat} (hr : s.running = true) (hp : s.pairsLost = false) (h : clocksLost trips = [k]) :
    execClockMonitorTrip trips s = .next (s.clockLost k) := by
  rw [execClockMonitorTrip, if_neg (by simp [hr, hp]), h]
  rfl

theorem execClockMonitorTrip_idle {s : State} (trips : Nat) (h : s.running = false ∨ s.pairsLost = true) : execClockMonitorTrip trips s = .next s :=
  if_pos (by obtain h | h := h <;> simp [h])

/-! ### Ethernet frames (R447, R448) -/

section
variable {s : State} {m : Nat} {f : List Byte}

theorem execEthFrameRx_idle (acc : Bool) (h : s.running = false ∨ s.bitAt R.LINK_STATUS_ETH_UP m = false) : execEthFrameRx m acc f s = .next s :=
  if_pos (by obtain h | h := h <;> simp [h])

variable (hr : s.running = true) (hm : m < 3) (hup : s.bitAt R.LINK_STATUS_ETH_UP m = true)
include hr hm hup

theorem execEthFrameRx_long (acc : Bool) (hl : 1518 < f.length) : execEthFrameRx m acc f s = .next (s.satInc (R.LINK_ETH_STAT_DROP m)) := by
  simp [execEthFrameRx, hr, Nat.not_le.mpr hm, hup, hl]

variable (hl : f.length ≤ 1518) (ht : (etherType f).1 ≠ s.get R.TALLY_CFG_ETYPE)
include hl ht

theorem execEthFrameRx_time (acc : Bool) (hty : (etherType f).1 = 0x88F7) (hsrc : s.timeMac m = false) :
    execEthFrameRx m acc f s = .next (s.satInc (R.LINK_ETH_STAT_DROP m)) := by
  rw [execEthFrameRx, if_neg (by simp [hr, hm, hup])]
  dsimp only
  rw [if_neg (by omega), if_neg (by simp [ht]), if_pos hty, hsrc]
  rfl

theorem execEthFrameRx_plain (acc : Bool) (hty : (etherType f).1 ≠ 0x88F7) (hsvc : (etherType f).1 ≠ s.get R.LINK_ETH_CFG_SVC_ETYPE) :
    execEthFrameRx m acc f s = if acc || broadcast f then .next (s.toChannel (40 + m) f (R.LINK_ETH_STAT_DROP m)) else .next s := by
  rw [execEthFrameRx, if_neg (by simp [hr, hm, hup])]
  dsimp only
  rw [if_neg (by omega), if_neg (by simp [ht]), if_neg hty, if_neg (by simp [hsvc])]

end

/-! ### Ports of Ethernet and Gallery Link (R454, R459) -/

theorem execEthLinkUp_eq {s : State} {m : Nat} (hr : s.running = true) (hm : m < 3) :
    execEthLinkUp m s = .next (s.putBit R.LINK_STATUS_ETH_UP m true) := if_pos (by simp [hr, hm])

theorem execEthLinkDown_up {s : State} {m : Nat} (hr : s.running = true) (hm : m < 3) (h : s.bitAt R.LINK_STATUS_ETH_UP m = true) :
    execEthLinkDown m s = .next ((s.putBit R.LINK_STATUS_ETH_UP m false).raise 0x1405 0 0x14 (w32 m)) := if_pos (by simp [hr, hm, h])

theorem execGlLinkTrained_eq {s : State} {p : Nat} (hr : s.running = true) (hp : p < nGl s.part) :
    execGlLinkTrained p s = .next (s.putBit R.LINK_STATUS_GL_UP p true) := if_pos (by simp [hr, hp])

theorem execGlPortDown_up {s : State} {p : Nat} (hr : s.running = true) (h : s.glUp p = true) :
    execGlPortDown p s = .next ((s.putBit R.LINK_STATUS_GL_UP p false).raise 0x1402 0 0x14 (w32 p)) := if_pos (by simp [hr, h])

theorem execGlTimeSend_idle {s : State} {p : Nat} (h : s.glUp p = false) : execGlTimeSend p s = .next s := if_neg (by simp [h])

theorem execEthLinkDown_idle {s : State} {m : Nat} (h : s.running = false ∨ s.bitAt R.LINK_STATUS_ETH_UP m = false) : execEthLinkDown m s = .next s :=
  if_neg (by obtain h | h := h <;> simp [h])

theorem execGlPortDown_idle {s : State} {p : Nat} (h : s.running = false ∨ s.glUp p = false) : execGlPortDown p s = .next s :=
  if_neg (by obtain h | h := h <;> simp [h])

theorem execGlFrameRx_idle {s : State} {p : Nat} (tag : Nat) (f : List Byte) (h : s.running = false ∨ s.glUp p = false) :
    execGlFrameRx p tag f s = .next s :=
  if_pos (by obtain h | h := h <;> simp [h])

theorem nGl_le (p : Part) : nGl p ≤ 3 := by cases p <;> decide

/-- One bit of LINK_STATUS, and then a record: the bit, the record, and the two registers written. -/
theorem State.linkBit_raised (s : State) (F : Fld) (b code sev unit : Nat) (c0 : Option Word) (hF : F.addr = R.LINK_STATUS) (hb : b + F.lo ≤ F.hi)
    (h32 : F.hi < 32) :
    ((s.putBit F b false).raise code sev unit c0).bitAt F b = false ∧ Raised s ((s.putBit F b false).raise code sev unit c0) code sev unit ∧
      OnlyRegs s ((s.putBit F b false).raise code sev unit c0) [R.LINK_STATUS, R.LEDGER_SEQ] := by
  have hput : OnlyRegs s (s.putBit F b false) [R.LINK_STATUS] := hF ▸ s.put_onlyRegs F _
  have hseq : (s.putBit F b false).rd R.LEDGER_SEQ = s.rd R.LEDGER_SEQ := hput _ (by decide)
  refine ⟨?_, ?_, ?_⟩
  · rw [State.bitAt, (State.raise_linksKept _ code sev unit c0 none).get F hF]
    exact s.bitAt_putBit_same F b false hb h32
  · obtain ⟨r, harr, hcode, hsev, hunit, hat, hr⟩ := State.raise_raised_with (s.putBit F b false) code sev unit c0 none
    exact ⟨r, harr, hcode, hsev, hunit, hat, hseq ▸ hr⟩
  · exact (hput.mono (by simp)).trans ((State.raise_onlyRegs _ code sev unit c0 none).mono (by simp))

/-- A record after register writes: the registers, the Ledger's records and the free values are all that has changed. -/
theorem RegsOnly.raise_frame {s t u : State} {code sev unit : Nat} {c0 c1 : Option Word} (h : RegsOnly s t)
    (hu : t.raise code sev unit c0 c1 = u) : u = { s with regs := u.regs, led := u.led, free := u.free } := by
  obtain ⟨regs, rfl⟩ := h
  subst hu
  rfl

end Sys2Proof.Machine

open Sys2Proof.Machine in
/-- Settles O55. It holds: what a lost host or clock brings beside its own port is in the owner's state, the Banister and the converter, so
LINK_STATUS and the marks of lost clocks stay as the link's or the monitor's own write left them. -/
theorem linksUpAndDown : Obligations.LinksUpAndDown := by
  intro s
  refine ⟨?_, ?_, ?_, ?_, ?_, ?_, ?_, ?_, ?_, ?_, ?_, ?_, ?_, ?_, ?_, ?_, ?_⟩
  · intro hr
    refine ⟨fun p gen x => if_pos (by simp [hr]), fun p => if_neg (by simp [hr]), fun m => ⟨if_neg (by simp [hr]), execEthLinkDown_idle (.inl hr),
      if_neg (by simp [hr]), execGlPortDown_idle (.inl hr)⟩, fun k => execClockMonitorTrip_idle k (.inl hr), fun m acc f => execEthFrameRx_idle acc (.inl hr),
      fun p tag f => execGlFrameRx_idle tag f (.inl hr)⟩
  · intro p gen x hr hp h1 h4
    obtain ⟨fast, ht⟩ := execPcieLinkUp_trained x hr hp h1 h4
    exact ⟨_, ht, (State.portTrained_get ..).trans (s.showPort_gen p x (by omega)), (State.portTrained_flag ..).trans (s.showPort_x2 p gen x),
      (State.portTrained_get ..).trans (s.showPort_gen_ne gen x hp (by omega) (by omega)), natBit_natSetBit _ p false,
      (s.showPort_onlyRegs p gen x).trans (State.portTrained_onlyRegs _ p fast _), rfl⟩
  · intro p hr hp h0
    exact (execPcieLinkDown_eq hr hp).trans (congrArg _ (if_pos h0))
  · intro p hr hp h0
    obtain ⟨r, hmem, hcode, hsev, hunit, hctx⟩ := (s.portDown p).raise_recorded 0x1401 0 0x14 (w32 p) none
    have hkept := (s.portDown p).raise_linksKept 0x1401 0 0x14 (w32 p) none
    exact ⟨_, (execPcieLinkDown_eq hr hp).trans (congrArg _ (if_neg h0)), (hkept.get _ (portGen_addr p)).trans (s.portDown_gen p),
      (hkept.flag _ (portX2_addr p)).trans (s.portDown_x2 p), r, hmem, hcode, hsev, hunit, hctx⟩
  · intro k hk
    show execClockMonitorTrip k s = .next s
    rw [execClockMonitorTrip, clocksLost_none hk]
    exact ite_self _
  · exact fun hp k => execClockMonitorTrip_idle k (.inr hp)
  · intro hr hp
    exact ⟨_, execClockMonitorTrip_one hr hp (by decide), s.clockLost_marked (by decide), s.clockLost_ward 0, s.clockLost_ward 1,
      s.clockLost_recorded (k := 3) (by decide)⟩
  · intro k hk hr hp
    exact ⟨_, execClockMonitorTrip_one hr hp (clocksLost_one hk), s.clockLost_marked hk, s.clockLost_recorded hk, fun h => h ▸ s.clockLost_host⟩
  · intro m hr hm
    have hlo : m + R.LINK_STATUS_ETH_UP.lo ≤ R.LINK_STATUS_ETH_UP.hi := by simp only [R.LINK_STATUS_ETH_UP]; omega
    refine ⟨_, execEthLinkUp_eq hr hm, s.bitAt_putBit_same R.LINK_STATUS_ETH_UP m true hlo (by decide), fun j hj hne => ?_,
      s.put_onlyRegs R.LINK_STATUS_ETH_UP _, rfl⟩
    exact s.bitAt_putBit_ne R.LINK_STATUS_ETH_UP true hne (by simp only [R.LINK_STATUS_ETH_UP]; omega) (by decide)
  · intro m hr hm hup
    obtain ⟨hbit, hraised, honly⟩ := s.linkBit_raised R.LINK_STATUS_ETH_UP m 0x1405 0 0x14 (w32 m) rfl (by simp only [R.LINK_STATUS_ETH_UP]; omega)
      (by decide)
    exact ⟨_, execEthLinkDown_up hr hm hup, hbit, hraised, honly, (s.put_regsOnly R.LINK_STATUS_ETH_UP _).raise_frame rfl⟩
  · exact fun m h => ⟨execEthLinkDown_idle (.inr h), fun acc f => execEthFrameRx_idle acc (.inr h)⟩
  · exact fun m acc f hr hm hup hl => execEthFrameRx_long hr hm hup acc hl
  · exact fun m f hr hm hup hl ht hty hsrc => execEthFrameRx_time hr hm hup hl ht true hty hsrc
  · intro m f hr hm hup hl ht hty hsvc
    exact ⟨execEthFrameRx_plain hr hm hup hl ht true hty hsvc, fun hb => (execEthFrameRx_plain hr hm hup hl ht false hty hsvc).trans
      (if_neg (by simp [hb]))⟩
  · intro p hr hp
    have h3 := nGl_le s.part
    have hbit := s.bitAt_putBit_same R.LINK_STATUS_GL_UP p true (by simp only [R.LINK_STATUS_GL_UP]; omega) (by decide)
    exact ⟨_, execGlLinkTrained_eq hr hp, by simp [State.glUp, hp, hbit], s.put_onlyRegs R.LINK_STATUS_GL_UP _, rfl⟩
  · intro p hr hup
    have hp : p < nGl s.part := by simpa using (Bool.and_eq_true_iff.mp hup).1
    have h3 := nGl_le s.part
    obtain ⟨hbit, hraised, honly⟩ := s.linkBit_raised R.LINK_STATUS_GL_UP p 0x1402 0 0x14 (w32 p) rfl (by simp only [R.LINK_STATUS_GL_UP]; omega)
      (by decide)
    exact ⟨_, execGlPortDown_up hr hup, by rw [State.glUp, hbit, Bool.and_false], hraised, honly⟩
  · exact fun p h => ⟨execGlPortDown_idle (.inr h), execGlTimeSend_idle h, fun tag f => execGlFrameRx_idle tag f (.inr h)⟩
end

section
/-! SUPPORT. The words that the Wardens write for the field engines, and the torque hold (R17, R40, R42, R378). -/

namespace Sys2Proof.Machine

/-! ### Bits of a word -/

theorem bitOf_eq_natBit (w : Word) (b : Nat) : bitOf w b = natBit w.toNat b := by
  simp [bitOf, bitsOf, natBit]

/-- A bit just set in a word's number reads as it was set. -/
theorem bitOf_w32_natSetBit (n : Nat) (v : Bool) {b : Nat} (hb : b < 32) : bitOf (w32 (natSetBit n b v)) b = v := by
  rw [bitOf_eq_natBit, w32, BitVec.toNat_ofNat, natBit_mod _ _ _ hb, natBit_natSetBit]

/-! ### What waits in the Turnstiles -/

/-- From `s` to `t` nothing but the pairs' own state has changed. -/
def PairOnly (s t : State) : Prop := ∃ p, t = { s with pair := p }

theorem PairOnly.refl (s : State) : PairOnly s s := ⟨_, rfl⟩

theorem PairOnly.trans {s t u : State} (h : PairOnly s t) (k : PairOnly t u) : PairOnly s u := by
  obtain ⟨_, rfl⟩ := h
  obtain ⟨p, rfl⟩ := k
  exact ⟨p, rfl⟩

theorem PairOnly.frame {s t : State} (h : PairOnly s t) : t = { s with pair := t.pair } := by
  obtain ⟨_, rfl⟩ := h
  rfl

theorem PairOnly.rd {s t : State} (h : PairOnly s t) (a : Nat) : t.rd a = s.rd a := by obtain ⟨_, rfl⟩ := h; rfl
theorem PairOnly.flag {s t : State} (h : PairOnly s t) (F : Fld) : t.flag F = s.flag F := by obtain ⟨_, rfl⟩ := h; rfl
theorem PairOnly.onlyRegs {s t : State} (h : PairOnly s t) (l : List Nat) : OnlyRegs s t l := fun a _ => h.rd a
theorem PairOnly.atime {s t : State} (h : PairOnly s t) : t.atime = s.atime := by obtain ⟨_, rfl⟩ := h; rfl
theorem PairOnly.host {s t : State} (h : PairOnly s t) : t.host = s.host := by obtain ⟨_, rfl⟩ := h; rfl
theorem PairOnly.mot {s t : State} (h : PairOnly s t) : t.mot = s.mot := by obtain ⟨_, rfl⟩ := h; rfl
theorem PairOnly.regs {s t : State} (h : PairOnly s t) : t.regs = s.regs := by obtain ⟨_, rfl⟩ := h; rfl
theorem PairOnly.md {s t : State} (h : PairOnly s t) : t.md = s.md := by obtain ⟨_, rfl⟩ := h; rfl
theorem PairOnly.pairsLost {s t : State} (h : PairOnly s t) : t.pairsLost = s.pairsLost := by obtain ⟨_, rfl⟩ := h; rfl
theorem PairOnly.fe {s t : State} (h : PairOnly s t) : t.fe = s.fe := by obtain ⟨_, rfl⟩ := h; rfl
theorem PairOnly.mode {s t : State} (h : PairOnly s t) : t.mode = s.mode := by obtain ⟨_, rfl⟩ := h; rfl
theorem PairOnly.part {s t : State} (h : PairOnly s t) : t.part = s.part := by obtain ⟨_, rfl⟩ := h; rfl

theorem State.wardenStage_pairOnly (s : State) (n p : Nat) (w : Word) : PairOnly s (s.wardenStage n p w) := by
  unfold State.wardenStage
  split
  · exact PairOnly.refl s
  · exact ⟨_, rfl⟩

theorem State.refreshHold_pairOnly (s : State) : PairOnly s s.refreshHold :=
  State.each_rel PairOnly.refl PairOnly.trans _ (fun _ _ t => t.wardenStage_pairOnly _ _ _) s

/-- Words agree where the Turnstiles and the engines do. -/
theorem State.wardenWord_congr {s t : State} (hp : t.pair.turnstile = s.pair.turnstile) (hf : t.fe = s.fe) (n p : Nat) :
    t.wardenWord n p = s.wardenWord n p := by
  rw [State.wardenWord, State.wardenWord, hp, State.eng_of_fe hf]

/-- While a pair is left, the word just written is the one that the engine will hold. -/
theorem State.wardenWord_wardenStage_same (s : State) (n p : Nat) (w : Word) (h : s.pairsLost = false) :
    (s.wardenStage n p w).wardenWord n p = w := by
  simp [State.wardenStage, h, State.wardenWord, List.filter_append]

/-- Another word stays as it was. -/
theorem State.wardenWord_wardenStage_ne (s : State) {n p m q : Nat} (w : Word) (h : m ≠ n ∨ q ≠ p) :
    (s.wardenStage n p w).wardenWord m q = s.wardenWord m q := by
  unfold State.wardenStage
  split
  · rfl
  · have hf : (n = m && p = q) = false := by
      rw [Bool.and_eq_false_iff]
      exact h.imp (fun h => decide_eq_false (Ne.symm h)) (fun h => decide_eq_false (Ne.symm h))
    simp only [State.wardenWord, List.filter_append, List.filter_cons, hf, List.filter_nil, Bool.false_eq_true, if_false, List.append_nil]
    rfl

/-! ### The torque hold (R40, R42) -/

/-- HOLD bit 0 of set `n` as the Wardens renew it. -/
def State.renewHold (s : State) (n : Nat) : State :=
  s.wardenStage n 452 (w32 (natSetBit (s.wardenWord n 452).toNat 0 (s.mode.plugHold || s.mode.parkHold)))

theorem State.refreshHold_eq (s : State) : s.refreshHold = s.each s.sets State.renewHold := rfl

theorem State.renewHold_pairOnly (s : State) (n : Nat) : PairOnly s (s.renewHold n) := s.wardenStage_pairOnly _ _ _

/-- A word that no hold is written to stays as it was. -/
theorem State.each_renewHold_wardenWord_ne (l : List Nat) {m q : Nat} (h : m ∉ l ∨ q ≠ 452) (s : State) :
    (s.each l State.renewHold).wardenWord m q = s.wardenWord m q := by
  induction l generalizing s with
  | nil => rfl
  | cons n l ih =>
    have hn : m ≠ n ∨ q ≠ 452 := h.imp_left List.ne_of_not_mem_cons
    exact (ih (h.imp_left List.not_mem_of_not_mem_cons) _).trans (s.wardenWord_wardenStage_ne _ hn)

/-- Every set of the list gets HOLD bit 0 by the holds that stand. -/
theorem State.each_renewHold_bit (l : List Nat) {n : Nat} (hn : n ∈ l) (s : State) (h : s.pairsLost = false) :
    bitOf ((s.each l State.renewHold).wardenWord n 452) 0 = (s.mode.plugHold || s.mode.parkHold) := by
  induction l generalizing s with
  | nil => simp at hn
  | cons a l ih =>
    have hs := s.renewHold_pairOnly a
    by_cases hl : n ∈ l
    · rw [← hs.mode]
      exact ih hl _ (hs.pairsLost.trans h)
    · obtain rfl : n = a := by simpa [hl] using hn
      have hrest := State.each_renewHold_wardenWord_ne l (q := 452) (.inl hl) (s.renewHold n)
      have hset : (s.renewHold n).wardenWord n 452 =
          w32 (natSetBit (s.wardenWord n 452).toNat 0 (s.mode.plugHold || s.mode.parkHold)) := s.wardenWord_wardenStage_same _ _ _ h
      rw [State.each, List.foldl_cons, ← State.each, hrest, hset, bitOf_w32_natSetBit _ _ (by decide)]

theorem State.refreshHold_bit (s : State) (h : s.pairsLost = false) {n : Nat} (hn : n < nSets s.part) :
    bitOf (s.refreshHold.wardenWord n 452) 0 = (s.mode.plugHold || s.mode.parkHold) :=
  State.each_renewHold_bit _ (List.mem_range.mpr hn) s h

theorem State.refreshHold_wardenWord_ne (s : State) {m q : Nat} (h : nSets s.part ≤ m ∨ q ≠ 452) :
    s.refreshHold.wardenWord m q = s.wardenWord m q :=
  State.each_renewHold_wardenWord_ne _ (h.imp_left fun h hm => absurd (List.mem_range.mp hm) (by omega)) s

end Sys2Proof.Machine
end

section
/-! SUPPORT. Commands that start and finish, and the park lock (R42, R96, R101, R345, R346). -/

namespace Sys2Proof.Machine

/-! ### Commands -/

/-- An operation that may start has its row's effect. -/
theorem State.command_startable {s : State} {c : Cmd} {op : Nat} (f : State → Out) (h : s.startable c op = true) : s.command c op f = f s := if_pos h

/-- A command finished after changes that leave the results and the time. -/
theorem State.finish_answered {s t : State} (c : Cmd) (st : Status) (value : Nat) (data : Bool) (hr : t.host.results = s.host.results)
    (ha : t.atime = s.atime) : Answered s (t.finish c st value data) c st value data := by
  simp [Answered, State.finish, State.result, hr, ha]

theorem State.targets_self {s : State} {c : Cmd} {a : Nat} (h : c.target = a) (ha : a < 0x80) : s.targets c [a] = true := by
  simp [State.targets, h, ha]

theorem State.targets_other {s : State} {c : Cmd} {a : Nat} (h : c.target ≠ a) : s.targets c [a] = false := by
  simp [State.targets, h]

/-! ### What registers and engines alone decide -/

theorem State.md_congr {s t : State} (hp : t.pwr = s.pwr) (hm : t.get R.SYS_MODE_MODE = s.get R.SYS_MODE_MODE) : t.md = s.md := by
  rw [State.md, State.md, hp, hm]

theorem State.pairsLost_congr {s t : State} (h : t.rd R.PAIR_STATUS = s.rd R.PAIR_STATUS) : t.pairsLost = s.pairsLost := by
  rw [State.pairsLost, State.pairsLost, State.inService_congr h, State.inService_congr h]

theorem State.parkMotor_congr {s t : State} (hf : t.fe = s.fe) (hp : t.part = s.part) : t.parkMotor = s.parkMotor := by
  unfold State.parkMotor State.motors State.actNext State.eng
  rw [hf, hp]

/-! ### The motor of the park lock (R340, R345) -/

theorem State.parkHoldBit_some {s : State} {m : Nat} (v : Bool) (h : s.parkMotor = some m) :
    s.parkHoldBit v = s.wardenStage (actEngine m) 450 (w32 (natSetBit (s.wardenWord (actEngine m) 450).toNat (m % 2) v)) := by
  rw [State.parkHoldBit, h]

theorem State.parkHoldBit_pairOnly (s : State) (v : Bool) : PairOnly s (s.parkHoldBit v) := by
  unfold State.parkHoldBit
  split
  · exact s.wardenStage_pairOnly _ _ _
  · exact PairOnly.refl s

theorem State.parkHoldBit_wardenWord_ne (s : State) (v : Bool) (n : Nat) {q : Nat} (hq : q ≠ 450) :
    (s.parkHoldBit v).wardenWord n q = s.wardenWord n q := by
  unfold State.parkHoldBit
  split
  · exact s.wardenWord_wardenStage_ne _ (.inr hq)
  · rfl

theorem State.parkHoldBit_bit {s : State} {m : Nat} (v : Bool) (hl : s.pairsLost = false) (h : s.parkMotor = some m) :
    bitOf ((s.parkHoldBit v).wardenWord (actEngine m) 450) (m % 2) = v := by
  rw [State.parkHoldBit_some v h, s.wardenWord_wardenStage_same _ _ _ hl, bitOf_w32_natSetBit _ _ (by omega)]

/-- PARK_REQ of motor `m` with a new sequence number. -/
def State.parkTold (s : State) (engage : Bool) (m : Nat) : State :=
  s.wardenStage (actEngine m) 451 (w32 ((if engage then 1 else 2) + 65536 * (((s.wardenWord (actEngine m) 451).toNat / 65536 + 1) % 65536)))

/-- The park-lock motor told to move, in any mode but SAFE_STOP. -/
def State.parkMoved (s : State) (engage : Bool) : State :=
  match s.parkMotor with
  | none => s
  | some m => s.parkTold engage m

/-- The park-lock motor told to move; in SAFE_STOP its bridge's enables are asked for. -/
def State.parkMove (s : State) (engage : Bool) : State :=
  match s.parkMotor with
  | none => s
  | some m => if (s.parkTold engage m).md = .safeStop then (s.parkTold engage m).askGrant (4 + m) else s.parkTold engage m

theorem State.parkMoved_some {s : State} {m : Nat} (engage : Bool) (h : s.parkMotor = some m) : s.parkMoved engage = s.parkTold engage m := by
  rw [State.parkMoved, h]

theorem State.parkMoved_pairOnly (s : State) (engage : Bool) : PairOnly s (s.parkMoved engage) := by
  unfold State.parkMoved
  split
  · exact PairOnly.refl s
  · exact s.wardenStage_pairOnly _ _ _

theorem State.parkMove_of_md {s : State} (engage : Bool) (h : s.md ≠ .safeStop) : s.parkMove engage = s.parkMoved engage := by
  unfold State.parkMove State.parkMoved
  split
  · rfl
  · exact if_neg fun hm => h ((s.wardenStage_pairOnly _ _ _).md.symm.trans hm)

theorem State.parkMoved_wardenWord_ne (s : State) (engage : Bool) (n : Nat) {q : Nat} (hq : q ≠ 451) :
    (s.parkMoved engage).wardenWord n q = s.wardenWord n q := by
  unfold State.parkMoved
  split
  · rfl
  · exact s.wardenWord_wardenStage_ne _ (.inr hq)

theorem State.parkMoved_word {s : State} {m : Nat} (engage : Bool) (hl : s.pairsLost = false) (h : s.parkMotor = some m) :
    (s.parkMoved engage).wardenWord (actEngine m) 451 =
      w32 ((if engage then 1 else 2) + 65536 * (((s.wardenWord (actEngine m) 451).toNat / 65536 + 1) % 65536)) := by
  rw [State.parkMoved_some engage h, State.parkTold, s.wardenWord_wardenStage_same _ _ _ hl]

/-! ### Requests (R42, R345) -/

/-- A request that waits for its verification, with the torque to be held. -/
def State.parkPending (s : State) (engage : Bool) : State :=
  { s with mode.parkHold := true, mot.park := some (engage, s.atime), mot.parkOut := 0, mot.parkSince := none }

/-- A request noted, with the torque held and PARK cleared. -/
def State.parkNoted (s : State) (engage : Bool) : State := (s.parkPending engage).refreshHold.putB R.SYS_MODE_PARK false

/-- A request with its motor told to move. -/
def State.parkAsked (s : State) (engage : Bool) : State := ((s.parkNoted engage).parkHoldBit false).parkMoved engage

theorem State.parkNoted_frame (s : State) (engage : Bool) : ∃ p, s.parkNoted engage =
    ({ s.parkPending engage with pair := p } : State).putB R.SYS_MODE_PARK false := by
  obtain ⟨p, hp⟩ := (s.parkPending engage).refreshHold_pairOnly
  exact ⟨p, by rw [State.parkNoted, hp]⟩

/-- PARK is a bit of SYS_MODE beside MODE. -/
theorem State.putB_park_md (s : State) (v : Bool) : (s.putB R.SYS_MODE_PARK v).md = s.md :=
  State.md_congr rfl (s.get_put_of_apart R.SYS_MODE_PARK R.SYS_MODE_MODE _ (.inr (by decide)))

theorem State.parkNoted_md (s : State) (engage : Bool) : (s.parkNoted engage).md = s.md := by
  obtain ⟨p, hp⟩ := s.parkNoted_frame engage
  rw [hp, State.putB_park_md]
  rfl

theorem State.parkAsked_pairOnly (s : State) (engage : Bool) : PairOnly (s.parkNoted engage) (s.parkAsked engage) :=
  (State.parkHoldBit_pairOnly _ _).trans (State.parkMoved_pairOnly _ _)

theorem State.parkRequest_eq {s : State} (engage : Bool) (h : s.md ≠ .safeStop) :
    s.parkRequest engage = if engage then (s.parkAsked engage).parkEvent 2 else s.parkAsked engage := by
  have hmd : ((s.parkNoted engage).parkHoldBit false).md ≠ .safeStop := by
    rwa [(State.parkHoldBit_pairOnly _ _).md, s.parkNoted_md]
  rw [State.parkAsked, ← State.parkMove_of_md engage hmd]
  rfl

/-- What a request leaves, its motor told: PARK clear, the torque held, and the motor's words. -/
structure ParkAsked (s t : State) (engage : Bool) : Prop where
  park : t.mot.park = some (engage, s.atime)
  hold : t.mode.parkHold = true
  flag : t.flag R.SYS_MODE_PARK = false
  sets : ∀ n, n < nSets s.part → bitOf (t.wardenWord n 452) 0 = true
  word : ∀ m, s.parkMotor = some m → t.wardenWord (actEngine m) 451 =
    w32 ((if engage then 1 else 2) + 65536 * (((s.wardenWord (actEngine m) 451).toNat / 65536 + 1) % 65536))
  bridge : ∀ m, s.parkMotor = some m → bitOf (t.wardenWord (actEngine m) 450) (m % 2) = false
  regs : OnlyRegs s t [R.SYS_MODE]
  atime : t.atime = s.atime

theorem State.parkNoted_pairsLost (s : State) (engage : Bool) : (s.parkNoted engage).pairsLost = s.pairsLost := by
  obtain ⟨p, hp⟩ := s.parkNoted_frame engage
  rw [hp]
  exact State.pairsLost_congr (State.rd_putB_ne _ _ _ (by decide))

theorem State.parkNoted_parkMotor (s : State) (engage : Bool) : (s.parkNoted engage).parkMotor = s.parkMotor := by
  obtain ⟨p, hp⟩ := s.parkNoted_frame engage
  rw [hp]
  exact State.parkMotor_congr rfl rfl

theorem State.parkNoted_wardenWord (s : State) (engage : Bool) (n p : Nat) :
    (s.parkNoted engage).wardenWord n p = (s.parkPending engage).refreshHold.wardenWord n p := State.wardenWord_congr rfl rfl n p

theorem State.parkAsked_spec (s : State) (engage : Bool) (hl : s.pairsLost = false) : ParkAsked s (s.parkAsked engage) engage := by
  have hl1 : (s.parkNoted engage).pairsLost = false := (s.parkNoted_pairsLost engage).trans hl
  have hl2 : ((s.parkNoted engage).parkHoldBit false).pairsLost = false := (State.parkHoldBit_pairOnly _ _).pairsLost.trans hl1
  have hm1 (m : Nat) (hm : s.parkMotor = some m) : (s.parkNoted engage).parkMotor = some m := (s.parkNoted_parkMotor engage).trans hm
  have hm2 (m : Nat) (hm : s.parkMotor = some m) : ((s.parkNoted engage).parkHoldBit false).parkMotor = some m :=
    (State.parkMotor_congr (State.parkHoldBit_pairOnly _ _).fe (State.parkHoldBit_pairOnly _ _).part).trans (hm1 m hm)
  obtain ⟨p, hp⟩ := s.parkNoted_frame engage
  have hpair := s.parkAsked_pairOnly engage
  refine ⟨?_, ?_, ?_, fun n hn => ?_, fun m hm => ?_, fun m hm => ?_, ?_, ?_⟩
  · rw [hpair.mot, hp]; rfl
  · rw [hpair.mode, hp]; rfl
  · rw [hpair.flag, hp]
    exact State.flag_putB_same _ R.SYS_MODE_PARK _ rfl (by decide)
  · rw [State.parkAsked, State.parkMoved_wardenWord_ne _ _ _ (by decide), State.parkHoldBit_wardenWord_ne _ _ _ (by decide),
      s.parkNoted_wardenWord, State.refreshHold_bit (s.parkPending engage) hl hn]
    exact Bool.or_true _
  · rw [State.parkAsked, State.parkMoved_word engage hl2 (hm2 m hm), State.parkHoldBit_wardenWord_ne _ _ _ (by decide), s.parkNoted_wardenWord,
      State.refreshHold_wardenWord_ne _ (.inr (by decide))]
    rfl
  · rw [State.parkAsked, State.parkMoved_wardenWord_ne _ _ _ (by decide), State.parkHoldBit_bit _ hl1 (hm1 m hm)]
  · refine OnlyRegs.trans (t := s.parkNoted engage) ?_ (hpair.onlyRegs _)
    rw [hp]
    exact State.put_onlyRegs _ R.SYS_MODE_PARK _
  · rw [hpair.atime, hp]; rfl

theorem State.parkAsked_host (s : State) (engage : Bool) : (s.parkAsked engage).host = s.host := by
  obtain ⟨p, hp⟩ := s.parkNoted_frame engage
  rw [(s.parkAsked_pairOnly engage).host, hp]
  rfl

section
variable {s : State} {c : Cmd}

/-- PARK_ENGAGE where R42 allows it. -/
theorem execParkEngage_ok (hs : s.startable c 0x0102 = true) (ht : c.target = 0)
    (hm : s.md = .standby ∨ s.md = .drive ∨ s.md = .degraded ∨ s.md = .service) (hst : s.standstill = true) :
    execParkEngage c s = .next (((s.parkAsked true).parkEvent 2).finish c .ok) := by
  have hmd : s.md ≠ .safeStop := by rcases hm with h | h | h | h <;> simp [h]
  have hmodes : (s.md = .standby || s.md = .drive || s.md = .degraded || s.md = .service) = true := by simpa [or_assoc] using hm
  have hreq : s.parkRequest true = (s.parkAsked true).parkEvent 2 := State.parkRequest_eq true hmd
  have htg : s.targets c [0] = true := State.targets_self ht (by decide)
  simp only [execParkEngage, State.command_startable _ hs, elxTargets, htg, hmodes, hst, hreq]
  rfl

theorem execParkEngage_moving (hs : s.startable c 0x0102 = true) (ht : c.target = 0) (hst : s.standstill = false) :
    execParkEngage c s = .next (s.finish c .rejectedMode) := by
  simp [execParkEngage, State.command_startable _ hs, elxTargets, State.targets_self ht, hst, refuse]

/-- PARK_RELEASE where R42 allows it. -/
theorem execParkRelease_ok (hs : s.startable c 0x0103 = true) (ht : c.target = 0) (hm : s.modeOk 0x0103 false = true) (hc : s.md ≠ .charge)
    (hu : s.md ≠ .supply) (hmd : s.md ≠ .safeStop) : execParkRelease c s = .next ((s.parkAsked false).finish c .ok) := by
  have hreq : s.parkRequest false = s.parkAsked false := State.parkRequest_eq false hmd
  have htg : s.targets c [0] = true := State.targets_self ht (by decide)
  simp [execParkRelease, State.command_startable _ hs, elxTargets, htg, hm, hc, hu, hmd, hreq]

theorem execParkRelease_safeStop (hs : s.startable c 0x0103 = true) (ht : c.target = 0) (hmd : s.md = .safeStop) :
    execParkRelease c s = .next (s.finish c .safetyBlocked) := by
  have hm : s.modeOk 0x0103 false = true := by simp [State.modeOk, groupAccepts, hmd, Mode.fromDiscover]
  simp [execParkRelease, State.command_startable _ hs, elxTargets, State.targets_self ht, hm, hmd, refuse]

end

theorem Refreshed.mot {s t : State} (h : Refreshed s t) : t.mot = s.mot := by obtain ⟨⟨_, _, _, _, _, rfl⟩, _⟩ := h; rfl

/-- A record stays raised through a change that leaves the Ledger. -/
theorem Raised.congr {s t u : State} {code sev unit : Nat} (h : Raised s t code sev unit) (hl : u.led = t.led) : Raised s u code sev unit := by
  obtain ⟨r, hr, hrest⟩ := h
  exact ⟨r, by rw [hl, hr], hrest⟩

/-! ### Verification (R345, R346) -/

theorem State.parkOk_of_tol {s : State} (h : fIsZero (s.rd R.MOT_PARK_TOL) = true) : s.parkOk = false := by
  unfold State.parkOk
  split
  · simp [h]
  · rfl

theorem State.parkOk_of_none {s : State} (h : s.mot.park = none) : s.parkOk = false := by
  unfold State.parkOk
  rw [h]

theorem execParkVerified_unsettled {s : State} (h : s.parkSettled = false) : execParkVerified s = .next s := by
  simp [execParkVerified, h]

theorem State.parkSettled_of_not_ok {s : State} (h : s.parkOk = false) : s.parkSettled = false := by simp [State.parkSettled, h]

theorem State.parkSettled_iff {s : State} {b : Time} (h : s.mot.parkSince = some b) :
    s.parkSettled = (s.parkOk && decide (10000 * s.get R.MOT_PARK_CFG_SETTLE ≤ s.since b)) := by
  rw [State.parkSettled, h]

theorem State.parkOver_of_md {s : State} (h : s.md ≠ .safeStop) : s.parkOver = { s with mot.park := none } := by
  unfold State.parkOver
  dsimp only
  split
  · exact if_neg h
  · rfl

/-- A park move that is over: its request is gone, and at most the pads of its bridge are renewed. -/
theorem State.parkOver_refreshed (s : State) : Refreshed { s with mot.park := none } s.parkOver := by
  unfold State.parkOver
  dsimp only
  split
  · split
    · exact State.removeEnable_refreshed _ _
    · exact Refreshed.refl _
  · exact Refreshed.refl _

/-- PARK_STATE among the events. -/
theorem State.parkEvent_events (s : State) (k : Nat) : ∃ e, (s.parkEvent k).host.events = s.host.events ++ [e] ∧ e.code = 0x0103 ∧ e.source = 0 :=
  ⟨_, rfl, rfl, rfl⟩

/-- PARK set, and the motor held again. -/
def State.parkLocked (s : State) : State := (s.parkHoldBit true).putB R.SYS_MODE_PARK true

theorem State.parkLocked_md (s : State) : s.parkLocked.md = s.md := by
  rw [State.parkLocked, State.putB_park_md, (s.parkHoldBit_pairOnly true).md]

theorem State.parkLocked_onlyRegs (s : State) : OnlyRegs s s.parkLocked [R.SYS_MODE] :=
  ((s.parkHoldBit_pairOnly true).onlyRegs _).trans (State.put_onlyRegs _ R.SYS_MODE_PARK _)

theorem execParkVerified_engaged {s : State} {a : Time} (h : s.parkSettled = true) (hp : s.mot.park = some (true, a)) (hmd : s.md ≠ .safeStop) :
    execParkVerified s = .next { s.parkLocked.parkEvent 0 with mot.park := none } := by
  have hover : (s.parkLocked.parkEvent 0).parkOver = { s.parkLocked.parkEvent 0 with mot.park := none } :=
    State.parkOver_of_md (fun hm => hmd (s.parkLocked_md.symm.trans hm))
  rw [← hover]
  simp [execParkVerified, h, hp, State.parkLocked]

/-- The torque hold of the park lock ended. -/
def State.parkFreed (s : State) : State := State.refreshHold { s with mode.parkHold := false }

theorem State.parkFreed_pairOnly (s : State) : PairOnly { s with mode.parkHold := false } s.parkFreed := State.refreshHold_pairOnly _

theorem execParkVerified_released {s : State} {a : Time} (h : s.parkSettled = true) (hp : s.mot.park = some (false, a)) (hmd : s.md ≠ .safeStop) :
    execParkVerified s = .next { s.parkFreed.parkEvent 1 with mot.park := none } := by
  have hover : (s.parkFreed.parkEvent 1).parkOver = { s.parkFreed.parkEvent 1 with mot.park := none } :=
    State.parkOver_of_md (fun hm => hmd (s.parkFreed_pairOnly.md.symm.trans hm))
  rw [← hover]
  simp [execParkVerified, h, hp, State.parkFreed]

/-! ### Failure and re-check (R345, R346) -/

theorem execParkFail_none {s : State} (h : s.mot.park = none) : execParkFail s = .next s := by simp [execParkFail, h]

theorem execParkFail_eq {s : State} {x : Bool} {a : Time} (h : s.mot.park = some (x, a)) : execParkFail s =
    .next (if 10000 * s.get R.MOT_PARK_CFG_TIMEOUT ≤ s.since a then (s.raise 0x0F10 0 0x0F).parkOver else s) := by
  simp [execParkFail, h, State.onlyIf]

theorem execParkFail_early {s : State} {x : Bool} {a : Time} (h : s.mot.park = some (x, a)) (ht : s.since a < 10000 * s.get R.MOT_PARK_CFG_TIMEOUT) :
    execParkFail s = .next s := by
  rw [execParkFail_eq h, if_neg (by omega)]

theorem execParkRecheck_idle {s : State} (h : s.parkMotor = none ∨ s.flag R.SYS_MODE_PARK = false) : execParkRecheck s = .next s := by
  unfold execParkRecheck
  split
  · rfl
  · rename_i m hm
    exact if_pos (by simp [h.resolve_left (by simp [hm])])

/-- The lock of motor `m` stands outside PARK_TOL. -/
def State.parkOutside (s : State) (m : Nat) : Bool :=
  fLt (s.rd R.MOT_PARK_TOL) (fAbs (fSub ((s.eng (actEngine m)).seen (actOut m)) (s.actWord m 13)))

/-- An engaged lock has been lost: the torque is held and PARK is clear. -/
def State.parkLost (s : State) : State := (State.refreshHold { s with mot.parkOut := 0, mode.parkHold := true }).putB R.SYS_MODE_PARK false

section
variable {s : State} {m : Nat} (hm : s.parkMotor = some m) (hf : s.flag R.SYS_MODE_PARK = true) (hp : s.mot.park = none)
include hm hf hp

theorem execParkRecheck_eq : execParkRecheck s =
    (if max 1 (s.get R.MOT_PARK_CFG_SETTLE) ≤ (if s.parkOutside m then s.mot.parkOut + 1 else 0) then .next (s.parkLost.raise 0x0F11 1 0x0F)
      else .next { s with mot.parkOut := if s.parkOutside m then s.mot.parkOut + 1 else 0 }) := by
  unfold execParkRecheck
  rw [hm]
  exact if_neg (by simp [hf, hp])

theorem execParkRecheck_inside (h : s.parkOutside m = false) : execParkRecheck s = .next { s with mot.parkOut := 0 } := by
  rw [execParkRecheck_eq hm hf hp, h]
  exact if_neg (by simp)

theorem execParkRecheck_counted (h : s.parkOutside m = true) (hn : s.mot.parkOut + 1 < s.get R.MOT_PARK_CFG_SETTLE) :
    execParkRecheck s = .next { s with mot.parkOut := s.mot.parkOut + 1 } := by
  rw [execParkRecheck_eq hm hf hp, h]
  exact if_neg (by simp; omega)

theorem execParkRecheck_lost (h : s.parkOutside m = true) (hn : s.get R.MOT_PARK_CFG_SETTLE ≤ s.mot.parkOut + 1) :
    execParkRecheck s = .next (s.parkLost.raise 0x0F11 1 0x0F) := by
  rw [execParkRecheck_eq hm hf hp, h]
  exact if_pos (by simp; omega)

end

theorem State.parkLost_frame (s : State) : ∃ p, s.parkLost =
    ({ s with mot.parkOut := 0, mode.parkHold := true, pair := p } : State).putB R.SYS_MODE_PARK false := by
  obtain ⟨p, hp⟩ := State.refreshHold_pairOnly { s with mot.parkOut := 0, mode.parkHold := true }
  exact ⟨p, by rw [State.parkLost, hp]⟩

/-! ### What each command and each check leaves -/

theorem State.parkLocked_flag (s : State) : s.parkLocked.flag R.SYS_MODE_PARK = true :=
  State.flag_putB_same (s.parkHoldBit true) R.SYS_MODE_PARK true rfl (by decide)

theorem State.parkLocked_bit {s : State} {m : Nat} (hl : s.pairsLost = false) (hm : s.parkMotor = some m) :
    bitOf (s.parkLocked.wardenWord (actEngine m) 450) (m % 2) = true := by
  have hword : s.parkLocked.wardenWord (actEngine m) 450 = (s.parkHoldBit true).wardenWord (actEngine m) 450 := State.wardenWord_congr rfl rfl _ _
  rw [hword, State.parkHoldBit_bit true hl hm]

theorem State.parkLocked_host (s : State) : s.parkLocked.host = s.host := (s.parkHoldBit_pairOnly true).host
theorem State.parkLocked_mode (s : State) : s.parkLocked.mode = s.mode := (s.parkHoldBit_pairOnly true).mode

theorem State.parkLost_flag (s : State) : s.parkLost.flag R.SYS_MODE_PARK = false :=
  State.flag_putB_same (State.refreshHold { s with mot.parkOut := 0, mode.parkHold := true }) R.SYS_MODE_PARK false rfl (by decide)

theorem State.parkLost_onlyRegs (s : State) : OnlyRegs s s.parkLost [R.SYS_MODE] := by
  obtain ⟨p, hframe⟩ := s.parkLost_frame
  rw [hframe]
  exact State.put_onlyRegs _ R.SYS_MODE_PARK _

theorem State.parkLost_raised (s : State) : Raised s (s.parkLost.raise 0x0F11 1 0x0F) 0x0F11 1 0x0F := by
  obtain ⟨p, hframe⟩ := s.parkLost_frame
  refine (s.parkLost.raise_raised 0x0F11 1 0x0F).after ?_ ?_ (s.parkLost_onlyRegs _ (by decide))
  all_goals rw [hframe]; rfl

section
variable {s : State} {c : Cmd}

theorem parkEngage_done (hs : s.startable c 0x0102 = true) (ht : c.target = 0)
    (hm : s.md = .standby ∨ s.md = .drive ∨ s.md = .degraded ∨ s.md = .service) (hst : s.standstill = true) (hl : s.pairsLost = false) : ∃ t,
    execParkEngage c s = .next t ∧ ParkAsked s t true ∧
      (∃ e, t.host.events = s.host.events ++ [e] ∧ e.code = 0x0103 ∧ e.source = 0) ∧ Answered s t c .ok := by
  have hasked := s.parkAsked_spec true hl
  have hhost := s.parkAsked_host true
  have hres : ((s.parkAsked true).parkEvent 2).host.results = s.host.results := by rw [← hhost]; rfl
  refine ⟨_, execParkEngage_ok hs ht hm hst, { hasked with }, ?_, State.finish_answered c .ok 0 false hres hasked.atime⟩
  rw [← hhost]
  exact (s.parkAsked true).parkEvent_events 2

theorem parkRelease_done (hs : s.startable c 0x0103 = true) (ht : c.target = 0) (hm : s.modeOk 0x0103 false = true) (hc : s.md ≠ .charge)
    (hu : s.md ≠ .supply) (hmd : s.md ≠ .safeStop) (hl : s.pairsLost = false) : ∃ t, execParkRelease c s = .next t ∧ ParkAsked s t false ∧
      t.host.events = s.host.events ∧ Answered s t c .ok := by
  have hasked := s.parkAsked_spec false hl
  have hhost := s.parkAsked_host false
  refine ⟨_, execParkRelease_ok hs ht hm hc hu hmd, { hasked with }, ?_, State.finish_answered c .ok 0 false ?_ hasked.atime⟩
  · rw [← hhost]; rfl
  · rw [← hhost]

theorem parkVerified_engaged {a : Time} (h : s.parkSettled = true) (hp : s.mot.park = some (true, a)) (hmd : s.md ≠ .safeStop)
    (hl : s.pairsLost = false) : ∃ t, execParkVerified s = .next t ∧ t.flag R.SYS_MODE_PARK = true ∧ t.mot.park = none ∧
      (∀ m, s.parkMotor = some m → bitOf (t.wardenWord (actEngine m) 450) (m % 2) = true) ∧
      (∃ e, t.host.events = s.host.events ++ [e] ∧ e.code = 0x0103) ∧ t.mode = s.mode ∧ OnlyRegs s t [R.SYS_MODE] := by
  refine ⟨_, execParkVerified_engaged h hp hmd, s.parkLocked_flag, rfl, fun m hm => State.parkLocked_bit hl hm, ?_, s.parkLocked_mode,
    s.parkLocked_onlyRegs⟩
  obtain ⟨e, he, hcode, _⟩ := s.parkLocked.parkEvent_events 0
  exact ⟨e, by rw [← s.parkLocked_host]; exact he, hcode⟩

theorem parkVerified_released {a : Time} (h : s.parkSettled = true) (hp : s.mot.park = some (false, a)) (hmd : s.md ≠ .safeStop)
    (hl : s.pairsLost = false) : ∃ t, execParkVerified s = .next t ∧ t.mode.parkHold = false ∧ t.mot.park = none ∧
      (∀ n, n < nSets s.part → bitOf (t.wardenWord n 452) 0 = s.mode.plugHold) ∧ t.regs = s.regs := by
  refine ⟨_, execParkVerified_released h hp hmd, congrArg ModeState.parkHold s.parkFreed_pairOnly.mode, rfl, fun n hn => ?_,
    s.parkFreed_pairOnly.regs⟩
  rw [← Bool.or_false s.mode.plugHold]
  exact State.refreshHold_bit { s with mode.parkHold := false } hl hn

theorem parkFail_late {x : Bool} {a : Time} (hp : s.mot.park = some (x, a)) (ht : 10000 * s.get R.MOT_PARK_CFG_TIMEOUT ≤ s.since a) : ∃ t,
    execParkFail s = .next t ∧ t.mot.park = none ∧ t.mode = s.mode ∧ Raised s t 0x0F10 0 0x0F ∧ t.fe = s.fe := by
  have hover := (s.raise 0x0F10 0 0x0F).parkOver_refreshed
  refine ⟨(s.raise 0x0F10 0 0x0F).parkOver, by rw [execParkFail_eq hp, if_pos ht], ?_, hover.mode, ?_, hover.fe⟩
  · rw [hover.mot]
  · exact (s.raise_raised 0x0F10 0 0x0F).congr hover.led

theorem parkRecheck_lost {m : Nat} (hm : s.parkMotor = some m) (hf : s.flag R.SYS_MODE_PARK = true) (hp : s.mot.park = none)
    (h : s.parkOutside m = true) (hn : s.get R.MOT_PARK_CFG_SETTLE ≤ s.mot.parkOut + 1) : ∃ t, execParkRecheck s = .next t ∧
      t.flag R.SYS_MODE_PARK = false ∧ t.mode.parkHold = true ∧ t.mot.parkOut = 0 ∧ Raised s t 0x0F11 1 0x0F ∧
      OnlyRegs s t [R.SYS_MODE, R.LEDGER_SEQ] := by
  have hregs : OnlyRegs s (s.parkLost.raise 0x0F11 1 0x0F) [R.SYS_MODE, R.LEDGER_SEQ] :=
    (s.parkLost_onlyRegs.mono (by simp)).trans ((s.parkLost.raise_onlyRegs _ _ _ _ _).mono (by simp))
  have hflag : (s.parkLost.raise 0x0F11 1 0x0F).flag R.SYS_MODE_PARK = false :=
    (State.flag_of_rd R.SYS_MODE_PARK (s.parkLost.raise_onlyRegs 0x0F11 1 0x0F none none _ (by decide))).trans s.parkLost_flag
  obtain ⟨p, hframe⟩ := s.parkLost_frame
  refine ⟨_, execParkRecheck_lost hm hf hp h hn, hflag, ?_, ?_, s.parkLost_raised, hregs⟩
  all_goals rw [hframe]; rfl

end

end Sys2Proof.Machine

open Sys2Proof.Machine in
/-- Settles O44: a request writes HOLD of every set and the words of the park-lock motor into the Turnstiles, and no engine; a verification and a
re-check are the two branches of their time. -/
theorem parkLock : Obligations.ParkLock := by
  intro s
  refine ⟨fun c ht hm hs hst hl => ?_, fun c ht hs hst => execParkEngage_moving hs ht hst, fun c ht hs hm hc hu hmd hl => ?_,
    fun c ht hs hmd => execParkRelease_safeStop hs ht hmd, fun h => execParkVerified_unsettled (State.parkSettled_of_not_ok (State.parkOk_of_tol h)),
    fun h => ⟨execParkVerified_unsettled (State.parkSettled_of_not_ok (State.parkOk_of_none h)), execParkFail_none h⟩, fun a b hb ht _ => ?_,
    fun a b hok hb ht hp hmd hl => parkVerified_engaged ?_ hp hmd hl, fun a b hok hb ht hp hmd hl => parkVerified_released ?_ hp hmd hl,
    fun x a hp ht => execParkFail_early hp ht, fun x a hp ht => parkFail_late hp ht, execParkRecheck_idle,
    fun m hm hf hp => ⟨execParkRecheck_inside hm hf hp, execParkRecheck_counted hm hf hp, parkRecheck_lost hm hf hp⟩⟩
  · obtain ⟨t, ht, hasked, hevents, hanswered⟩ := parkEngage_done hs ht hm hst hl
    exact ⟨t, ht, hasked.park, hasked.hold, hasked.flag, hasked.sets, fun m hm => ⟨hasked.word m hm, hasked.bridge m hm⟩, hevents, hanswered,
      hasked.regs⟩
  · obtain ⟨t, ht, hasked, hevents, hanswered⟩ := parkRelease_done hs ht hm hc hu hmd hl
    exact ⟨t, ht, hasked.park, hasked.hold, hasked.flag, hasked.word, hevents, hanswered, hasked.regs⟩
  · exact execParkVerified_unsettled (by simp [State.parkSettled_iff hb, ht])
  · simp [State.parkSettled_iff hb, hok, ht]
  · simp [State.parkSettled_iff hb, hok, ht]
end

section
/-! SUPPORT. A half-bridge of another function whose lines are the charger's (R196, R331). -/

namespace Sys2Proof.Machine

/-- Supplying with a source set in SUPPLY, in SUPPLY mode with both pairs in service and the charger enabled by both; half-bridge 0 is set to function 4
(actuators) with unit 5, whose Banister lines are unit 9, the charger's, and its schedule commands the high side. -/
def strayBridge : State :=
  { State.reset with
      pwr.power := .run, pwr.isolated := false, pwr.isolatedVio3 := false, pwr.latchDrives := false
      regs := [(R.SYS_MODE, 0x8), (R.PWR_STATUS, 0xFF1E), (R.EDGE_CH_CFG 0, 0x14500000), (R.PAIR_STATUS, 0x11)]
      edge.lines := [(9, ⟨true, false, false⟩), (25, ⟨true, false, false⟩)]
      edge.chans := [(0, { Chan.init with taken := true, cmdHigh := true })]
      chg.sup := 2 }

/-- The high-side pad of half-bridge `n` after an answer. -/
def highAfter (o : Out) (n : Nat) : Option Bool :=
  match o with
  | .next t => some (t.chan n).high
  | _ => none

theorem strayBridge_premises : strayBridge.md = .supply ∧ strayBridge.chg.sup = 2 ∧ 0 ∈ strayBridge.unitChans unitCharger := by decide +kernel

/-- The stop holds the charger's own legs low; half-bridge 0 follows its schedule. -/
theorem strayBridge_highAfter : highAfter (exec .supplyOverload strayBridge) 0 = some true := by decide +kernel

end Sys2Proof.Machine

open Sys2Proof.Machine in
/-- Refutes O42: the clause of the supply overload claims low pads for every half-bridge on the charger's Banister lines. The block drives only
half-bridges of function 3 low (R331); one of function 4 with unit 5 has the same lines and follows its schedule on. -/
theorem not_pilotsAndChargePhases : ¬ Obligations.PilotsAndChargePhases := by
  intro h
  obtain ⟨-, -, -, -, -, -, -, -, -, -, -, -, -, -, -, -, -, -, -, -, hoverload, -⟩ := h.2 strayBridge false
  obtain ⟨hmd, hsup, hchan⟩ := strayBridge_premises
  obtain ⟨t, ht, -, hlow, -⟩ := hoverload hmd (by rw [hsup]; decide) (by rw [hsup]; decide)
  have hhigh : some (t.chan 0).high = some true := by rw [← strayBridge_highAfter, ht, highAfter]
  rw [(hlow 0 hchan).1] at hhigh
  exact absurd hhigh (by decide)
end

section
/-! SUPPORT. The state after reset (R31, R58, R66). -/

namespace Sys2Proof.Machine

/-- After reset no register is listed, so each reads the value of its register table. -/
theorem reset_rd (a : Nat) : State.reset.rd a = resetValue .elx9460 a := rfl

theorem reset_chan (n : Nat) : State.reset.chan n = Chan.init := rfl

theorem reset_inService : State.reset.inService 0 = false ∧ State.reset.inService 1 = false := by decide +kernel

/-- No Warden pair is in service yet, so no output enable stands (R12). -/
theorem reset_enabled (u : Nat) : State.reset.enabled u = false := by
  obtain ⟨h0, h1⟩ := reset_inService
  simp [State.enabled, State.counts, h0, h1]

/-- Neither memory lists a byte. -/
theorem reset_readByte (a : Nat) : State.reset.readByte a = 0 := by
  unfold State.readByte
  split
  · rfl
  · split <;> rfl

theorem reset_canonical : State.reset.canonical = true := by decide +kernel

theorem reset_engine_registers : ∀ n, n < 8 →
    State.reset.rd (0x080004 + 0x2000 * n) = (0x4E20 : Word) ∧ State.reset.rd (0x080000 + 0x2000 * n) = (0 : Word) := by decide +kernel

theorem reset_system_registers : State.reset.rd 0x000000 = (0x9460 : Word) ∧ State.reset.rd 0x000020 = (0x2 : Word) ∧
    State.reset.rd 0x000028 = (0x14001E : Word) ∧ State.reset.rd 0x020000 = (0x20000 : Word) ∧ State.reset.rd 0x020008 = (0x640000 : Word) ∧
    State.reset.rd 0x050000 = (0x10001000 : Word) := by decide +kernel

theorem reset_gallery_registers : State.reset.rd 0x0A0004 = (1 : Word) ∧ State.reset.rd 0x110404 = (0x6E006A4 : Word) ∧
    State.reset.rd 0x110408 = (0x3840730 : Word) ∧ State.reset.rd 0x0D0000 = (0x643C0000 : Word) ∧ State.reset.rd 0x0E0010 = (0x640258 : Word) ∧
    State.reset.rd 0x120000 = (0xFFFFFFFF : Word) ∧ State.reset.rd 0x130010 = (0x1E0028 : Word) := by decide +kernel

end Sys2Proof.Machine

open Sys2Proof.Machine in
/-- Settles O3: nothing is listed in the state after reset, so a register reads its table's value; the named ones are looked up. -/
theorem stateAfterReset : Obligations.StateAfterReset := by
  obtain ⟨hid, hmode, hcfg, hown, howncfg, hmkt⟩ := reset_system_registers
  refine ⟨⟨rfl, rfl, rfl, rfl, rfl, fun n => ?_, reset_enabled, reset_rd, reset_readByte, rfl, rfl, rfl, rfl, rfl, reset_canonical, rfl⟩,
    hid, hmode, hcfg, hown, howncfg, hmkt, reset_engine_registers, reset_gallery_registers⟩
  rw [reset_chan]
  exact ⟨rfl, rfl⟩
end

section
/-! SUPPORT. Transitions as they start, and mode requests (R32, R33, R36, R48, R49). -/

namespace Sys2Proof.Machine

/-! ### Modes -/

/-- A part in one of the modes from DISCOVER on runs. -/
theorem State.running_of_fromDiscover {s : State} (h : s.md.fromDiscover = true) : s.running = true := by
  unfold State.md at h
  split at h
  case h_5 hp => simp [State.running, hp]
  case h_2 => split at h <;> simp [Mode.fromDiscover, Mode.discoverToDegraded] at h
  all_goals simp [Mode.fromDiscover, Mode.discoverToDegraded] at h

/-- MODE is a field of SYS_MODE: the mode in force stays while the supplies and the field do. -/
theorem State.md_put_of_apart (s : State) (F : Fld) (v : Nat) (h : F.Apart R.SYS_MODE_MODE) : (s.put F v).md = s.md :=
  State.md_congr rfl (s.get_put_of_apart F R.SYS_MODE_MODE v h)

theorem groupAccepts_mode {s : State} {opcode : Nat} (h : opcode / 256 = 1) : groupAccepts s opcode = s.md.fromDiscover := by
  simp [groupAccepts, h]

theorem State.modeOk_of_fromDiscover {s : State} {opcode : Nat} (read : Bool) (ho : opcode / 256 = 1) (h : s.md.fromDiscover = true) :
    s.modeOk opcode read = true := by
  simp [State.modeOk, groupAccepts_mode ho, h]

/-! ### SYS_MODE as a transition starts (R33) -/

/-- SYS_MODE as a transition to `dest` starts. -/
def State.transMarked (s : State) (dest : Mode) : State :=
  ((s.wrapInc R.SYS_MODE_TRANS_SEQ).putB R.SYS_MODE_IN_TRANSITION true).put R.SYS_MODE_TARGET dest.code

theorem State.transMarked_flag (s : State) (dest : Mode) : (s.transMarked dest).flag R.SYS_MODE_IN_TRANSITION = true :=
  (State.flag_put_of_apart _ R.SYS_MODE_TARGET R.SYS_MODE_IN_TRANSITION _ (.inr (by decide))).trans
    (State.flag_putB_same _ R.SYS_MODE_IN_TRANSITION _ rfl (by decide))

theorem State.transMarked_target (s : State) (dest : Mode) : (s.transMarked dest).get R.SYS_MODE_TARGET = dest.code := by
  rw [State.transMarked, State.get_put_same _ R.SYS_MODE_TARGET _ (by decide) (by decide)]
  cases dest <;> rfl

theorem State.transMarked_seq (s : State) (dest : Mode) :
    (s.transMarked dest).get R.SYS_MODE_TRANS_SEQ = (s.get R.SYS_MODE_TRANS_SEQ + 1) % 256 := by
  rw [State.transMarked, State.get_put_of_apart _ R.SYS_MODE_TARGET R.SYS_MODE_TRANS_SEQ _ (.inr (by decide)), State.putB,
    State.get_put_of_apart _ R.SYS_MODE_IN_TRANSITION R.SYS_MODE_TRANS_SEQ _ (.inr (by decide)), State.wrapInc,
    State.get_put_same _ R.SYS_MODE_TRANS_SEQ _ (by decide) (by decide)]
  rfl

theorem State.transMarked_md (s : State) (dest : Mode) : (s.transMarked dest).md = s.md := by
  rw [State.transMarked, State.md_put_of_apart _ R.SYS_MODE_TARGET _ (.inr (by decide)), State.putB,
    State.md_put_of_apart _ R.SYS_MODE_IN_TRANSITION _ (.inr (by decide)), State.wrapInc,
    State.md_put_of_apart _ R.SYS_MODE_TRANS_SEQ _ (.inr (by decide))]

theorem State.transMarked_onlyRegs (s : State) (dest : Mode) : OnlyRegs s (s.transMarked dest) [R.SYS_MODE] :=
  ((s.put_onlyRegs R.SYS_MODE_TRANS_SEQ _).trans (State.put_onlyRegs _ R.SYS_MODE_IN_TRANSITION _)).trans
    (State.put_onlyRegs _ R.SYS_MODE_TARGET _)

theorem State.transMarked_regsOnly (s : State) (dest : Mode) : RegsOnly s (s.transMarked dest) :=
  ((s.put_regsOnly R.SYS_MODE_TRANS_SEQ _).trans (State.put_regsOnly _ R.SYS_MODE_IN_TRANSITION _)).trans
    (State.put_regsOnly _ R.SYS_MODE_TARGET _)

/-- The transition that the acceptance of a trigger puts in progress. -/
def State.transOf (s : State) (dest : Mode) (kind prec code : Nat) : Trigger :=
  { dest := dest, kind := kind, prec := prec, code := code, seq := (s.transMarked dest).get R.SYS_MODE_TRANS_SEQ, src := s.md,
    started := s.atime, ticks := s.tickMark }

/-- With the transition `tr` in progress. -/
def State.withTrans (s : State) (tr : Trigger) : State := { s with mode.trans := some tr }

@[simp] theorem State.withTrans_rd (s : State) (tr : Trigger) (a : Nat) : (s.withTrans tr).rd a = s.rd a := rfl
@[simp] theorem State.withTrans_get (s : State) (tr : Trigger) (F : Fld) : (s.withTrans tr).get F = s.get F := rfl
@[simp] theorem State.withTrans_flag (s : State) (tr : Trigger) (F : Fld) : (s.withTrans tr).flag F = s.flag F := rfl
@[simp] theorem State.withTrans_md (s : State) (tr : Trigger) : (s.withTrans tr).md = s.md := rfl

/-- A transition to `dest` in progress, before what its acceptance does beside. -/
def State.inTrans (s : State) (dest : Mode) (kind prec code : Nat) : State :=
  (s.transMarked dest).withTrans (s.transOf dest kind prec code)

theorem State.inTrans_frame (s : State) (dest : Mode) (kind prec code : Nat) :
    ∃ regs mode, s.inTrans dest kind prec code = { s with regs := regs, mode := mode } := by
  obtain ⟨regs, h⟩ := s.transMarked_regsOnly dest
  exact ⟨regs, _, by rw [State.inTrans, h]; rfl⟩

/-- Acceptance of a transition to DRIVE does nothing beside. -/
theorem State.startTrans_drive (s : State) (kind prec code : Nat) : s.startTrans .drive kind prec code = s.inTrans .drive kind prec code := rfl

/-! ### Mode requests -/

section
variable {s : State} {c : Cmd} (hs : s.startable c 0x0101 = true) (hw : s.triggerWaits = false) (ht : c.target = 0)
include hs hw ht

/-- A request in a mode that takes it, once the triggers of higher precedence are seen to. -/
theorem execModeRequest_eq (hm : s.md.fromDiscover = true) : execModeRequest c s =
    (if short c 2 || badRequest (arg c 16 1) (arg c 17 1) then refuse s c .badParam
    else if s.mode.trans.isSome then refuse s c .busyRetry
    else if arg c 16 1 = s.md.code then .next (s.useFree.finish c .ok (Config.freeWord 0x64 s.free).toNat)
    else match s.requestTo (arg c 16 1) with
      | .error st => refuse s c st
      | .ok dest => .next ((s.acceptRequest dest (arg c 17 1)).finish c .ok ((s.acceptRequest dest (arg c 17 1)).get R.SYS_MODE_TRANS_SEQ))) := by
  have htg : s.targets c [0] = true := State.targets_self ht (by decide)
  have hfirst : s.triggersFirst = s := by simp [State.triggersFirst, hw]
  simp only [execModeRequest, State.command_startable _ hs, hfirst, elxTargets, htg, State.running_of_fromDiscover hm,
    State.modeOk_of_fromDiscover (opcode := 0x0101) false rfl hm]
  rfl

theorem execModeRequest_badParam (hm : s.md.fromDiscover = true)
    (hbad : arg c 16 1 = 0 ∨ arg c 16 1 = 2 ∨ arg c 16 1 = 3 ∨ 10 ≤ arg c 16 1) : execModeRequest c s = .next (s.finish c .badParam) := by
  have hreq : badRequest (arg c 16 1) (arg c 17 1) = true := by
    unfold badRequest
    rw [Bool.or_eq_true_iff]
    left
    simp
    omega
  rw [execModeRequest_eq hs hw ht hm, hreq, Bool.or_true]
  rfl

section
variable (hl : 2 ≤ c.payload.length) (ho : arg c 17 1 = 0)
include hl ho

/-- A request whose target may be named, with option 0. -/
theorem execModeRequest_known (hm : s.md.fromDiscover = true) {target : Nat} (ha : arg c 16 1 = target) (hreq : badRequest target 0 = false) :
    execModeRequest c s = (if s.mode.trans.isSome then refuse s c .busyRetry
    else if target = s.md.code then .next (s.useFree.finish c .ok (Config.freeWord 0x64 s.free).toNat)
    else match s.requestTo target with
      | .error st => refuse s c st
      | .ok dest => .next ((s.acceptRequest dest 0).finish c .ok ((s.acceptRequest dest 0).get R.SYS_MODE_TRANS_SEQ))) := by
  have hshort : short c 2 = false := decide_eq_false (by omega)
  rw [execModeRequest_eq hs hw ht hm, ho, ha, hreq, hshort]
  rfl

theorem execModeRequest_busy (hm : s.md.fromDiscover = true) (htr : s.mode.trans ≠ none) (ha : arg c 16 1 = 5) :
    execModeRequest c s = .next (s.finish c .busyRetry) := by
  rw [execModeRequest_known hs hw ht hl ho hm ha (by decide)]
  exact if_pos (Option.isSome_iff_ne_none.mpr htr)

/-- A request for a mode that is not in force, with no transition in progress: the transition table's answer. -/
theorem execModeRequest_judged (hm : s.md.fromDiscover = true) (htr : s.mode.trans = none) {target : Nat} (ha : arg c 16 1 = target)
    (hreq : badRequest target 0 = false) (hne : target ≠ s.md.code) : execModeRequest c s =
    (match s.requestTo target with
      | .error st => refuse s c st
      | .ok dest => .next ((s.acceptRequest dest 0).finish c .ok ((s.acceptRequest dest 0).get R.SYS_MODE_TRANS_SEQ))) := by
  rw [execModeRequest_known hs hw ht hl ho hm ha hreq, htr, if_neg hne]
  rfl

end
end

/-! ### The transition table's answers (R32) -/

theorem State.requestTo_drive {s : State} (hm : s.md = .standby) (hd : s.driveOk = true) (hk : s.flag R.SYS_MODE_DEGRADE_MARK = false) :
    s.requestTo 6 = .ok .drive := by
  simp [State.requestTo, hm, hd, hk]

theorem State.requestTo_drive_blocked {s : State} (hm : s.md = .standby) (hd : s.driveOk = false) : s.requestTo 6 = .error .safetyBlocked := by
  simp [State.requestTo, hm, hd]

theorem State.requestTo_standby_moving {s : State} (hm : s.md = .drive) (hst : s.standstill = false) :
    s.requestTo 5 = .error .rejectedMode := by
  simp [State.requestTo, hm, hst]

/-- An accepted request for DRIVE starts the transition and does nothing else. -/
theorem State.acceptRequest_drive (s : State) : s.acceptRequest .drive 0 = s.inTrans .drive 0 precOwner 0 := by
  simp [State.acceptRequest, State.startTrans_drive]

end Sys2Proof.Machine

open Sys2Proof.Machine in
/-- Settles O7: by the order of the checks (R48, R49) and the rows of R32's table. -/
theorem modeRequestsAreJudged : Obligations.ModeRequestsAreJudged := by
  intro s c hs hw ht hl
  refine ⟨fun hm htr hk hd ha ho => ?_, fun hm htr hd ha ho => ?_, fun hm htr hst ha ho => ?_,
    fun hm htr ha ho => execModeRequest_busy hs hw ht hl ho hm htr ha, execModeRequest_badParam hs hw ht⟩
  · have hexec := execModeRequest_judged hs hw ht hl ho (by rw [hm]; rfl) htr ha (by decide) (by rw [hm]; decide)
    simp only [State.requestTo_drive hm hd hk, s.acceptRequest_drive] at hexec
    obtain ⟨regs, mode, hframe⟩ := s.inTrans_frame .drive 0 precOwner 0
    refine ⟨_, hexec, ?_, ?_, ?_, ?_, ?_, ⟨s.transOf .drive 0 precOwner 0, rfl, rfl⟩, fun a ha => ?_, ?_⟩
    · rw [State.finish_flag, State.inTrans, State.withTrans_flag, s.transMarked_flag]
    · rw [State.finish_get, State.inTrans, State.withTrans_get, s.transMarked_target]; rfl
    · rw [State.finish_get, State.inTrans, State.withTrans_get, s.transMarked_seq]
    · rw [State.finish_md, State.inTrans, State.withTrans_md, s.transMarked_md, hm]
    · rw [State.finish_get]
      exact State.finish_answered c .ok _ false (by rw [hframe]) (by rw [hframe])
    · rw [State.finish_rd, State.inTrans, State.withTrans_rd, s.transMarked_onlyRegs .drive a ha]
    · rw [hframe]; rfl
  · have hexec := execModeRequest_judged hs hw ht hl ho (by rw [hm]; rfl) htr ha (by decide) (by rw [hm]; decide)
    rw [State.requestTo_drive_blocked hm hd] at hexec
    exact hexec
  · have hexec := execModeRequest_judged hs hw ht hl ho (by rw [hm]; rfl) htr ha (by decide) (by rw [hm]; decide)
    rw [State.requestTo_standby_moving hm hst] at hexec
    exact hexec
end

section
/-! SUPPORT. Transitions as they end (R31, R33, R50, R71-R73). -/

namespace Sys2Proof.Machine

/-! ### SYS_MODE and SYS_MODE_CAUSE -/

/-- A field reads the same where its register does. -/
theorem State.get_of_rd {s t : State} (F : Fld) (h : t.rd F.addr = s.rd F.addr) : t.get F = s.get F := by rw [State.get, State.get, h]

theorem RegsOnly.refl (s : State) : RegsOnly s s := ⟨s.regs, rfl⟩

theorem Mode.code_lt (m : Mode) : m.code < 16 := by cases m <;> decide

/-- SYS_MODE as a transition to `dest` ends. -/
def State.modeWritten (s : State) (dest : Mode) : State :=
  ((s.put R.SYS_MODE_MODE dest.code).putB R.SYS_MODE_IN_TRANSITION false).put R.SYS_MODE_TARGET 0

theorem State.modeWritten_mode (s : State) (dest : Mode) : (s.modeWritten dest).get R.SYS_MODE_MODE = dest.code := by
  rw [State.modeWritten, State.get_put_of_apart _ R.SYS_MODE_TARGET _ _ (.inr (by decide)), State.putB,
    State.get_put_of_apart _ R.SYS_MODE_IN_TRANSITION _ _ (.inr (by decide)), State.get_put_same _ _ _ (by decide) (by decide)]
  exact Nat.mod_eq_of_lt dest.code_lt

theorem State.modeWritten_flag (s : State) (dest : Mode) : (s.modeWritten dest).flag R.SYS_MODE_IN_TRANSITION = false :=
  (State.flag_put_of_apart _ R.SYS_MODE_TARGET R.SYS_MODE_IN_TRANSITION _ (.inr (by decide))).trans
    (State.flag_putB_same _ R.SYS_MODE_IN_TRANSITION _ rfl (by decide))

theorem State.modeWritten_target (s : State) (dest : Mode) : (s.modeWritten dest).get R.SYS_MODE_TARGET = 0 := by
  rw [State.modeWritten, State.get_put_same _ _ _ (by decide) (by decide)]
  rfl

theorem State.modeWritten_onlyRegs (s : State) (dest : Mode) : OnlyRegs s (s.modeWritten dest) [R.SYS_MODE] :=
  ((s.put_onlyRegs R.SYS_MODE_MODE _).trans (State.put_onlyRegs _ R.SYS_MODE_IN_TRANSITION _)).trans (State.put_onlyRegs _ R.SYS_MODE_TARGET _)

theorem State.modeWritten_regsOnly (s : State) (dest : Mode) : RegsOnly s (s.modeWritten dest) :=
  ((s.put_regsOnly R.SYS_MODE_MODE _).trans (State.put_regsOnly _ R.SYS_MODE_IN_TRANSITION _)).trans (State.put_regsOnly _ R.SYS_MODE_TARGET _)

/-- SYS_MODE_CAUSE as a transition ends. -/
def State.causeWritten (s : State) (fromCode : Nat) (dest : Mode) (kind code : Nat) : State :=
  (((s.put R.SYS_MODE_CAUSE_KIND kind).put R.SYS_MODE_CAUSE_TO dest.code).put R.SYS_MODE_CAUSE_FROM fromCode).put R.SYS_MODE_CAUSE_LEDGER_CODE
    (if kind = 1 then code else 0)

section
variable (s : State) {fromCode kind : Nat} (dest : Mode) (code : Nat)

theorem State.causeWritten_kind (hk : kind < 8) : (s.causeWritten fromCode dest kind code).get R.SYS_MODE_CAUSE_KIND = kind := by
  rw [State.causeWritten, State.get_put_of_apart _ R.SYS_MODE_CAUSE_LEDGER_CODE _ _ (.inr (by decide)),
    State.get_put_of_apart _ R.SYS_MODE_CAUSE_FROM _ _ (.inr (by decide)), State.get_put_of_apart _ R.SYS_MODE_CAUSE_TO _ _ (.inr (by decide)),
    State.get_put_same _ _ _ (by decide) (by decide)]
  exact Nat.mod_eq_of_lt (by simp only [R.SYS_MODE_CAUSE_KIND]; omega)

theorem State.causeWritten_to : (s.causeWritten fromCode dest kind code).get R.SYS_MODE_CAUSE_TO = dest.code := by
  rw [State.causeWritten, State.get_put_of_apart _ R.SYS_MODE_CAUSE_LEDGER_CODE _ _ (.inr (by decide)),
    State.get_put_of_apart _ R.SYS_MODE_CAUSE_FROM _ _ (.inr (by decide)), State.get_put_same _ _ _ (by decide) (by decide)]
  exact Nat.mod_eq_of_lt dest.code_lt

theorem State.causeWritten_from (hf : fromCode < 16) : (s.causeWritten fromCode dest kind code).get R.SYS_MODE_CAUSE_FROM = fromCode := by
  rw [State.causeWritten, State.get_put_of_apart _ R.SYS_MODE_CAUSE_LEDGER_CODE _ _ (.inr (by decide)),
    State.get_put_same _ _ _ (by decide) (by decide)]
  exact Nat.mod_eq_of_lt hf

theorem State.causeWritten_code :
    (s.causeWritten fromCode dest kind code).get R.SYS_MODE_CAUSE_LEDGER_CODE = if kind = 1 then code % 65536 else 0 := by
  rw [State.causeWritten, State.get_put_same _ _ _ (by decide) (by decide)]
  split <;> rfl

theorem State.causeWritten_onlyRegs : OnlyRegs s (s.causeWritten fromCode dest kind code) [R.SYS_MODE_CAUSE] :=
  (((s.put_onlyRegs R.SYS_MODE_CAUSE_KIND _).trans (State.put_onlyRegs _ R.SYS_MODE_CAUSE_TO _)).trans
    (State.put_onlyRegs _ R.SYS_MODE_CAUSE_FROM _)).trans (State.put_onlyRegs _ R.SYS_MODE_CAUSE_LEDGER_CODE _)

theorem State.causeWritten_regsOnly : RegsOnly s (s.causeWritten fromCode dest kind code) :=
  (((s.put_regsOnly R.SYS_MODE_CAUSE_KIND _).trans (State.put_regsOnly _ R.SYS_MODE_CAUSE_TO _)).trans
    (State.put_regsOnly _ R.SYS_MODE_CAUSE_FROM _)).trans (State.put_regsOnly _ R.SYS_MODE_CAUSE_LEDGER_CODE _)

end

/-- The transition in progress is over, and MODE_CHANGED tells it. -/
def State.modeTold (s : State) : State :=
  { s with mode.trans := none }.event 0x0101 0 (s.rd R.SYS_MODE_CAUSE) (w32 (s.get R.SYS_MODE_TRANS_SEQ)) (w32 s.atime.toNat)
    (w32 (s.atime.toNat / 2 ^ 32))

@[simp] theorem State.modeTold_rd (s : State) (a : Nat) : s.modeTold.rd a = s.rd a := rfl
@[simp] theorem State.modeTold_get (s : State) (F : Fld) : s.modeTold.get F = s.get F := rfl
@[simp] theorem State.modeTold_flag (s : State) (F : Fld) : s.modeTold.flag F = s.flag F := rfl
theorem State.modeTold_trans (s : State) : s.modeTold.mode.trans = none := rfl
theorem State.modeTold_pwr (s : State) : s.modeTold.pwr = s.pwr := rfl

theorem State.modeTold_told (s : State) : Told s s.modeTold 0x0101 0 := ⟨_, rfl, rfl, rfl, rfl, by simp, by simp⟩

theorem State.modeSet_eq (s : State) (fromCode : Nat) (dest : Mode) (kind code : Nat) :
    s.modeSet fromCode dest kind code = ((s.modeWritten dest).causeWritten fromCode dest kind code).modeTold := by
  unfold State.modeSet State.modeWritten State.causeWritten State.modeTold
  rfl

/-- An event told after a change that leaves the events and the time. -/
theorem Told.after {s t u : State} {code source : Nat} {c0 c1 : Option Word} (h : Told t u code source c0 c1)
    (he : t.host.events = s.host.events) (ha : t.atime = s.atime) : Told s u code source c0 c1 := by
  obtain ⟨e, hev, hcode, hsource, hat, hc0, hc1⟩ := h
  exact ⟨e, by rw [hev, he], hcode, hsource, hat.trans ha, hc0, hc1⟩

section
variable (s : State) {fromCode kind : Nat} (dest : Mode) (code : Nat)

theorem State.modeSet_rd_mode : (s.modeSet fromCode dest kind code).rd R.SYS_MODE = (s.modeWritten dest).rd R.SYS_MODE := by
  rw [s.modeSet_eq, State.modeTold_rd]
  exact (s.modeWritten dest).causeWritten_onlyRegs dest code _ (by decide)

theorem State.modeSet_told : Told s (s.modeSet fromCode dest kind code) 0x0101 0 := by
  obtain ⟨regs, h⟩ : RegsOnly s ((s.modeWritten dest).causeWritten fromCode dest kind code) :=
    (s.modeWritten_regsOnly dest).trans ((s.modeWritten dest).causeWritten_regsOnly dest code)
  rw [s.modeSet_eq]
  exact (State.modeTold_told _).after (by rw [h]) (by rw [h])

theorem State.modeSet_onlyRegs : OnlyRegs s (s.modeSet fromCode dest kind code) [R.SYS_MODE, R.SYS_MODE_CAUSE] := by
  intro a ha
  simp only [List.mem_cons, List.not_mem_nil, or_false, not_or] at ha
  rw [s.modeSet_eq, State.modeTold_rd, (s.modeWritten dest).causeWritten_onlyRegs dest code a (by simpa using ha.2),
    s.modeWritten_onlyRegs dest a (by simpa using ha.1)]

theorem State.modeSet_cause (F : Fld) :
    (s.modeSet fromCode dest kind code).get F = ((s.modeWritten dest).causeWritten fromCode dest kind code).get F := by
  rw [s.modeSet_eq, State.modeTold_get]

end

/-! ### MODE_TRANSITION_END -/

section
variable {s : State} (d : Nat) (f : Bool) {tr : Trigger}

theorem execModeTransitionEnd_idle (h : s.mode.trans = none) : execModeTransitionEnd d f s = .next s := by
  rw [execModeTransitionEnd, h]

/-- Outside STANDBY the chopper is not tested. -/
theorem execModeTransitionEnd_plain (h : s.mode.trans = some tr) (hm : s.md ≠ .standby) (hd : tr.dest ≠ .hibernate) (hk : tr.kind ≠ 3) :
    execModeTransitionEnd d f s = .next (((s.modeSet s.md.code tr.dest tr.kind tr.code).modeEffects s.md).judgeHeld) := by
  simp [execModeTransitionEnd, h, hm, hd, hk]

/-- From STANDBY to DRIVE or DEGRADED the chopper is tested first (R288). -/
theorem execModeTransitionEnd_tested (h : s.mode.trans = some tr) (hm : s.md = .standby) (hd : tr.dest = .drive ∨ tr.dest = .degraded)
    (hu : s.flag R.SAFE_DCL_STATUS_UV = false) : execModeTransitionEnd d f s =
      .next ((((s.chopTest d f).1.modeSet 5 tr.dest tr.kind tr.code).modeEffects .standby).judgeHeld) := by
  have hne : tr.dest ≠ .hibernate := by rcases hd with hd | hd <;> simp [hd]
  simp [execModeTransitionEnd, h, hm, hd, hne, hu, Mode.code]

/-- The DEGRADED expiry's transition takes the outputs to their safe states as it ends (R44). -/
theorem execModeTransitionEnd_expiry (h : s.mode.trans = some tr) (hm : s.md = .degraded) (hk : tr.kind = 3) (hd : tr.dest ≠ .hibernate) :
    execModeTransitionEnd d f s = .next ((((s.modeSet 0xA tr.dest 3 tr.code).safeOutputs tr.code).modeEffects .degraded).judgeHeld) := by
  simp [execModeTransitionEnd, h, hm, hk, hd, Mode.code]

theorem execModeTransitionEnd_hibernate (h : s.mode.trans = some tr) (hd : tr.dest = .hibernate) :
    execModeTransitionEnd d f s = .next (s.modeSet s.md.code .hibernate tr.kind tr.code).hibernate := by
  simp [execModeTransitionEnd, h, hd]

end

/-! ### HIBERNATE (R71-R73) -/

theorem State.each_setBankState_regsOnly (l : List Nat) (v : Nat) (s : State) : RegsOnly s (s.each l fun t b => t.setBankState b v) :=
  State.each_rel RegsOnly.refl RegsOnly.trans _ (fun _ _ t => t.put_regsOnly _ _) s

/-- The registers that go on in HIBERNATE, and the state of the banks. -/
def State.hibernateRegs (s t : State) : State :=
  ((s.wr R.SYS_MODE (t.rd R.SYS_MODE)).wr R.SYS_MODE_CAUSE (t.rd R.SYS_MODE_CAUSE)).each (List.range 32) fun u b => u.setBankState b 2

theorem State.hibernateRegs_regsOnly (s t : State) : RegsOnly s (s.hibernateRegs t) :=
  ((s.wr_regsOnly _ _).trans (State.wr_regsOnly _ _ _)).trans (State.each_setBankState_regsOnly _ _ _)

theorem RegsOnly.mem {s t : State} (h : RegsOnly s t) : t.mem = s.mem := by obtain ⟨_, rfl⟩ := h; rfl
theorem RegsOnly.host {s t : State} (h : RegsOnly s t) : t.host = s.host := by obtain ⟨_, rfl⟩ := h; rfl
theorem RegsOnly.led {s t : State} (h : RegsOnly s t) : t.led = s.led := by obtain ⟨_, rfl⟩ := h; rfl

/-- The state before HIBERNATE, the ledger written out and the events delivered. -/
def State.hibernateDone (s : State) : State := s.writeQueue.writeOut.deliverAll

/-- The rails off and the pads isolated, with what `t` knew of the wake timer. -/
def State.railsDown (s t : State) : State :=
  { s with pwr := { s.pwr with power := .hibernate, railEn := false, isolated := true, isolatedVio3 := true, earlyDelay := t.pwr.earlyDelay,
                               timerArmed := t.get R.PWR_WAKE_TIMER_SECONDS != 0 } }

theorem State.railsDown_mem (s t : State) : (s.railsDown t).mem = s.mem := rfl
theorem State.railsDown_host (s t : State) : (s.railsDown t).host = s.host := rfl
theorem State.railsDown_led (s t : State) : (s.railsDown t).led = s.led := rfl

theorem State.hibernate_eq (s : State) :
    s.hibernate = (s.hibernateDone.cleared.hibernateRegs s.hibernateDone).railsDown s.hibernateDone := by
  unfold State.hibernate State.railsDown State.hibernateRegs State.hibernateDone
  rfl

theorem State.hibernate_mem (s : State) : s.hibernate.mem = s.hibernateDone.cleared.mem := by
  rw [s.hibernate_eq, State.railsDown_mem, (State.hibernateRegs_regsOnly _ _).mem]
theorem State.hibernate_host (s : State) : s.hibernate.host = s.hibernateDone.cleared.host := by
  rw [s.hibernate_eq, State.railsDown_host, (State.hibernateRegs_regsOnly _ _).host]
theorem State.hibernate_led (s : State) : s.hibernate.led = s.hibernateDone.cleared.led := by
  rw [s.hibernate_eq, State.railsDown_led, (State.hibernateRegs_regsOnly _ _).led]

end Sys2Proof.Machine

open Sys2Proof.Machine in
/-- Settles O9: the fields one by one, the cases of the end by the mode left and the mode entered, and HIBERNATE by what its clearing leaves. -/
theorem transitionEnd : Obligations.TransitionEnd := by
  intro s
  refine ⟨fun d f h => execModeTransitionEnd_idle d f h, fun fromCode dest kind code hf hk => ?_,
    fun d f tr h hm hd hk => execModeTransitionEnd_plain d f h hm hd hk, fun d f tr h hm hd hu => execModeTransitionEnd_tested d f h hm hd hu,
    fun d f tr h hm hk hd => execModeTransitionEnd_expiry d f h hm hk hd, fun d f tr h hd => ?_⟩
  · have hmode := s.modeSet_rd_mode (fromCode := fromCode) (kind := kind) dest code
    refine ⟨?_, ?_, ?_, ?_, ?_, ?_, ?_, ?_, s.modeSet_told dest code, s.modeSet_onlyRegs dest code⟩
    · rw [State.get_of_rd R.SYS_MODE_MODE hmode, s.modeWritten_mode]
    · rw [State.flag_of_rd R.SYS_MODE_IN_TRANSITION hmode, s.modeWritten_flag]
    · rw [State.get_of_rd R.SYS_MODE_TARGET hmode, s.modeWritten_target]
    · rw [s.modeSet_cause, State.causeWritten_kind _ _ _ hk]
    · rw [s.modeSet_cause, State.causeWritten_to]
    · rw [s.modeSet_cause, State.causeWritten_from _ _ _ hf]
    · rw [s.modeSet_cause, State.causeWritten_code]
    · rw [s.modeSet_eq, State.modeTold_trans]
  · refine ⟨_, execModeTransitionEnd_hibernate d f h hd, rfl, rfl, rfl, rfl, rfl, ?_, ?_, ?_, ?_, ?_⟩
    · rw [State.hibernate_mem]; rfl
    · rw [State.hibernate_mem]; rfl
    · rw [State.hibernate_host]; rfl
    · rw [State.hibernate_led]; rfl
    · rw [State.hibernate_led]; rfl
end

section
/-! SUPPORT. The transition to SAFE_STOP, and the DEGRADED timer (R32, R43, R44, R46, R48, R50). -/

namespace Sys2Proof.Machine

/-! ### The safe state of the outputs -/

theorem Refreshed.each {α : Type} {f : State → α → State} (l : List α) (hf : ∀ s a, Refreshed s (f s a)) (s : State) : Refreshed s (s.each l f) :=
  State.each_rel Refreshed.refl Refreshed.trans l (fun a _ t => hf t a) s

theorem State.hold_edgeOnly (s : State) (u : Nat) : EdgeOnly s (s.hold u) := ⟨_, rfl⟩

theorem State.takeOut_refreshed (s : State) (u : Nat) : Refreshed s (s.takeOut u) :=
  ((s.removeEnable_refreshed u).trans (State.forceUnit_refreshed _ u _)).trans (State.hold_edgeOnly _ u).refreshed

/-- The safe state of the outputs for a cause outside the converter. -/
theorem State.safeOutputs_refreshed (s : State) {code : Nat} (h : code / 256 ≠ 0x0D) : Refreshed s (s.safeOutputs code) := by
  unfold State.safeOutputs
  dsimp only
  rw [if_neg h]
  exact ((Refreshed.each _ State.takeOut_refreshed s).trans (Refreshed.each _ (fun t m => t.removeEnable_refreshed (4 + m)) _)).trans
    (State.removeEnable_refreshed _ unitCharger)

theorem Refreshed.results {s t : State} (h : Refreshed s t) : t.host.results = s.host.results := by obtain ⟨⟨_, _, _, _, _, rfl⟩, _⟩ := h; rfl
theorem Refreshed.atime {s t : State} (h : Refreshed s t) : t.atime = s.atime := by obtain ⟨⟨_, _, _, _, _, rfl⟩, _⟩ := h; rfl

/-! ### What leaves the mode alone -/

/-- From `s` to `t` the supplies, the modes' own state and SYS_MODE are as they were. -/
def ModeKept (s t : State) : Prop := t.pwr = s.pwr ∧ t.mode = s.mode ∧ t.rd R.SYS_MODE = s.rd R.SYS_MODE

theorem ModeKept.refl (s : State) : ModeKept s s := ⟨rfl, rfl, rfl⟩

theorem ModeKept.trans {s t u : State} (h : ModeKept s t) (k : ModeKept t u) : ModeKept s u :=
  ⟨k.1.trans h.1, k.2.1.trans h.2.1, k.2.2.trans h.2.2⟩

theorem ModeKept.each {α : Type} {f : State → α → State} (l : List α) (hf : ∀ a ∈ l, ∀ s, ModeKept s (f s a)) (s : State) :
    ModeKept s (s.each l f) :=
  State.each_rel ModeKept.refl ModeKept.trans l hf s

theorem ModeKept.mode {s t : State} (h : ModeKept s t) : t.mode = s.mode := h.2.1
theorem ModeKept.get {s t : State} (h : ModeKept s t) (F : Fld) (hF : F.addr = R.SYS_MODE) : t.get F = s.get F :=
  State.get_of_rd F (by rw [hF]; exact h.2.2)
theorem ModeKept.flag {s t : State} (h : ModeKept s t) (F : Fld) (hF : F.addr = R.SYS_MODE) : t.flag F = s.flag F :=
  congrArg (· != 0) (h.get F hF)
theorem ModeKept.md {s t : State} (h : ModeKept s t) : t.md = s.md := State.md_congr h.1 (h.get _ rfl)

theorem Refreshed.modeKept {s t : State} (h : Refreshed s t) : ModeKept s t := ⟨h.pwr, h.mode, h.rd (by decide)⟩

theorem State.put_modeKept (s : State) (F : Fld) (v : Nat) (h : R.SYS_MODE ≠ F.addr) : ModeKept s (s.put F v) := ⟨rfl, rfl, s.rd_put_ne F v h⟩

theorem State.haltEngine_modeKept (s : State) {n : Nat} (h : n < 8) : ModeKept s (s.haltEngine n) := by
  have h1 : R.SYS_MODE ≠ (R.FE_CTRL_RUN n).addr := by simp only [R.SYS_MODE, R.FE_CTRL_RUN, R.FE_CTRL]; omega
  have h2 : R.SYS_MODE ≠ (R.FE_STATUS_RUNNING n).addr := by simp only [R.SYS_MODE, R.FE_STATUS_RUNNING, R.FE_STATUS]; omega
  exact (((s.put_modeKept _ _ h1).trans (State.put_modeKept _ _ _ h2)).trans
    (State.put_modeKept _ R.PAIR_STATUS_FE_IN_SERVICE _ (by decide))).trans ⟨State.modEng_pwr .., State.modEng_mode .., State.modEng_rd ..⟩

theorem State.stopDiscovery_modeKept (s : State) : ModeKept s s.stopDiscovery := by
  refine ModeKept.each _ (fun n hn t => t.haltEngine_modeKept ?_) s
  simp only [State.engines, List.mem_filter, List.mem_range] at hn
  exact hn.1.1

theorem State.endDiscovery_modeKept (s : State) : ModeKept s s.endDiscovery := by
  have h := (s.put_modeKept R.DISC_STATUS_BUSY (bit false) (by decide)).trans (State.stopDiscovery_modeKept _)
  unfold State.endDiscovery
  rw [State.putB]
  generalize (s.put R.DISC_STATUS_BUSY (bit false)).stopDiscovery = t at h
  exact h.trans ⟨rfl, rfl, rfl⟩

theorem State.modTr_modeKept (s : State) (n : Nat) (f : Trac → Trac) : ModeKept s (s.modTr n f) := ⟨rfl, rfl, rfl⟩

theorem State.rampAll_modeKept (s : State) (kind ms : Nat) : ModeKept s (s.rampAll kind ms) :=
  ModeKept.each _ (fun n _ t => t.modTr_modeKept n _) s

/-! ### The transition to SAFE_STOP starts (R32, R33) -/

theorem State.startTrans_eq (s : State) (dest : Mode) (kind prec code : Nat) : s.startTrans dest kind prec code =
    (let t := ((s.inTrans dest kind prec code).accepted dest).onlyIf (dest = Mode.safeStop && (s.transMarked dest).flag R.DISC_STATUS_BUSY)
      State.endDiscovery
    if dest = .degraded then t.degradedEntry
    else if dest = .safeStop && !(kind == 3 && s.md == .degraded) then t.safeOutputs code else t) := rfl

/-- Acceptance of a transition to SAFE_STOP does nothing of its own to the Turnstiles or the wake sources. -/
theorem State.accepted_stop (s : State) : s.accepted .safeStop = s := rfl

/-- The transition in progress, a discovery run ended. -/
def State.stopBegun (s : State) (kind prec code : Nat) : State :=
  (s.inTrans .safeStop kind prec code).onlyIf (s.flag R.DISC_STATUS_BUSY) State.endDiscovery

theorem State.startTrans_stop (s : State) (kind prec code : Nat) : s.startTrans .safeStop kind prec code =
    if !(kind == 3 && s.md == .degraded) then (s.stopBegun kind prec code).safeOutputs code else s.stopBegun kind prec code := by
  have hbusy : (s.transMarked .safeStop).flag R.DISC_STATUS_BUSY = s.flag R.DISC_STATUS_BUSY :=
    State.flag_of_rd _ (s.transMarked_onlyRegs .safeStop _ (by decide))
  rw [State.startTrans_eq, State.accepted_stop, hbusy]
  simp only [reduceCtorEq, if_false, decide_true, Bool.true_and]
  rfl

theorem State.stopBegun_modeKept (s : State) (kind prec code : Nat) :
    ModeKept (s.inTrans .safeStop kind prec code) (s.stopBegun kind prec code) := by
  unfold State.stopBegun State.onlyIf
  split
  · exact State.endDiscovery_modeKept _
  · exact ModeKept.refl _

theorem State.startTrans_stop_modeKept (s : State) (kind prec : Nat) {code : Nat} (h : code / 256 ≠ 0x0D) :
    ModeKept (s.inTrans .safeStop kind prec code) (s.startTrans .safeStop kind prec code) := by
  rw [State.startTrans_stop]
  split
  · exact (s.stopBegun_modeKept kind prec code).trans (State.safeOutputs_refreshed _ h).modeKept
  · exact s.stopBegun_modeKept kind prec code

/-- With no discovery run, beside the transition itself only the safe state of the outputs. -/
theorem State.startTrans_stop_refreshed {s : State} (prec : Nat) (h : s.flag R.DISC_STATUS_BUSY = false) :
    Refreshed (s.inTrans .safeStop 0 prec 0) (s.startTrans .safeStop 0 prec 0) := by
  have hbegun : s.stopBegun 0 prec 0 = s.inTrans .safeStop 0 prec 0 := by rw [State.stopBegun, h]; rfl
  rw [State.startTrans_stop, hbegun]
  exact State.safeOutputs_refreshed _ (code := 0) (by decide)

/-- A trigger that leads somewhere, with no transition in progress. -/
theorem State.trigger_starts {s : State} {kind prec code : Nat} {dest : Mode} (h : s.mode.trans = none)
    (hd : causeTarget s.md kind prec = some dest) : s.trigger kind prec code = s.startTrans dest kind prec code := by
  rw [State.trigger, h]
  dsimp only
  rw [hd]

/-! ### Commands -/

section
variable {s : State} {c : Cmd}

theorem execModeStatus_eq (hs : s.startable c 0x0100 = true) (ht : c.target = 0) (hm : s.md.fromDiscover = true) :
    execModeStatus c s = .next (s.finish c .ok (pair64 (s.rd R.SYS_MODE).toNat (s.degrLeft.getD 0xFFFFFFFF))) := by
  have htg : s.targets c [0] = true := State.targets_self ht (by decide)
  simp [execModeStatus, State.command_startable _ hs, elxTargets, htg, State.modeOk_of_fromDiscover true (opcode := 0x0100) rfl hm]

section
variable (hs : s.startable c 0x0104 = true) (ht : c.target = 0)
include hs ht

theorem execSafeStopRequest_eq (hm : s.md.fromDiscover = true) :
    execSafeStopRequest c s = .next ((if s.md = .safeStop then s else s.judge 0 precStop 0).finish c .ok) := by
  have htg : s.targets c [0] = true := State.targets_self ht (by decide)
  simp [execSafeStopRequest, State.command_startable _ hs, elxTargets, htg, State.modeOk_of_fromDiscover false (opcode := 0x0104) rfl hm]

theorem execSafeStopRequest_there (hm : s.md = .safeStop) : execSafeStopRequest c s = .next (s.finish c .ok) := by
  rw [execSafeStopRequest_eq hs ht (by rw [hm]; rfl), if_pos hm]

theorem execSafeStopRequest_standby (hm : s.md = .standby) (htr : s.mode.trans = none) :
    execSafeStopRequest c s = .next ((s.startTrans .safeStop 0 precStop 0).finish c .ok) := by
  have htrig : s.trigger 0 precStop 0 = s.startTrans .safeStop 0 precStop 0 := State.trigger_starts htr (by rw [hm]; rfl)
  have hjudge : s.judge 0 precStop 0 = s.startTrans .safeStop 0 precStop 0 := by
    rw [State.judge, htrig]
    exact if_neg fun h => absurd h.1 (by decide)
  rw [execSafeStopRequest_eq hs ht (by rw [hm]; rfl), if_neg (by rw [hm]; decide), hjudge]

end

/-- SAFE_STOP_REQUEST in STANDBY: the transition, its outputs, and the completion. -/
theorem safeStopRequest_standby (hs : s.startable c 0x0104 = true) (ht : c.target = 0) (hm : s.md = .standby) (htr : s.mode.trans = none)
    (hb : s.flag R.DISC_STATUS_BUSY = false) :
    ∃ t, execSafeStopRequest c s = .next t ∧ t.flag R.SYS_MODE_IN_TRANSITION = true ∧ t.get R.SYS_MODE_TARGET = 0xB ∧
      t.get R.SYS_MODE_TRANS_SEQ = (s.get R.SYS_MODE_TRANS_SEQ + 1) % 256 ∧ t.md = .standby ∧ Answered s t c .ok ∧
      OnlyRegs s t [R.SYS_MODE, R.CONV_STATUS] ∧ t.mem = s.mem ∧ t.led = s.led ∧ t.fe = s.fe := by
  have hr := State.startTrans_stop_refreshed precStop hb
  have hk := hr.modeKept
  obtain ⟨regs, mode, hframe⟩ := s.inTrans_frame .safeStop 0 precStop 0
  refine ⟨_, execSafeStopRequest_standby hs ht hm htr, ?_, ?_, ?_, ?_, State.finish_answered c .ok 0 false ?_ ?_, fun a ha => ?_, ?_, ?_, ?_⟩
  · rw [State.finish_flag, hk.flag _ rfl, State.inTrans, State.withTrans_flag, s.transMarked_flag]
  · rw [State.finish_get, hk.get _ rfl, State.inTrans, State.withTrans_get, s.transMarked_target]; rfl
  · rw [State.finish_get, hk.get _ rfl, State.inTrans, State.withTrans_get, s.transMarked_seq]
  · rw [State.finish_md, hk.md, State.inTrans, State.withTrans_md, s.transMarked_md, hm]
  · rw [hr.results, hframe]
  · rw [hr.atime, hframe]
  · simp only [List.mem_cons, List.not_mem_nil, or_false, not_or] at ha
    rw [State.finish_rd, hr.rd ha.2, State.inTrans, State.withTrans_rd, s.transMarked_onlyRegs .safeStop a (by simpa using ha.1)]
  · rw [State.finish_mem, hr.mem, hframe]
  · rw [State.finish_led, hr.led, hframe]
  · rw [State.finish_fe, hr.fe, hframe]

end

/-! ### The DEGRADED timer -/

/-- The timer marked as expired, and told. -/
def State.degrDone (s : State) : State := State.degrEvent { s with mode.degrExpired := true }

theorem State.degrDone_md (s : State) : s.degrDone.md = s.md := rfl

theorem execDegradedTimerExpiry_over {s : State} (h : s.mode.degrExpired = true) : execDegradedTimerExpiry s = .next s := by
  simp [execDegradedTimerExpiry, h]

theorem execDegradedTimer_over {s : State} (h : s.mode.degrExpired = true) : execDegradedTimer s = .next s := by
  simp [execDegradedTimer, h]

theorem execDegradedTimer_runs {s : State} {t0 : Time} (hr : s.running = true) (hs : s.mode.degrStart = some t0) (ht : s.mode.degrTold = true)
    (he : s.mode.degrExpired = false) : execDegradedTimer s = .next s.degrEvent := by
  simp [execDegradedTimer, hr, hs, ht, he]

theorem execDegradedTimerExpiry_due {s : State} (hr : s.running = true) (hl : s.degrLeft = some 0) (he : s.mode.degrExpired = false) :
    execDegradedTimerExpiry s = .next (if s.md = .degraded ∨ s.md = .standby then s.degrDone.judge 3 precStop 0 else s.degrDone) := by
  simp only [execDegradedTimerExpiry, hr, hl, he]
  simp only [Bool.or_eq_true, decide_eq_true_eq]
  rfl

/-- In DEGRADED and STANDBY the expiry leads to SAFE_STOP; in DEGRADED with the ramps of R44. -/
theorem State.degrDone_judge_modeKept {s : State} (hm : s.md = .degraded ∨ s.md = .standby) (ht : s.mode.trans = none) :
    ModeKept (s.degrDone.inTrans .safeStop 3 precStop 0) (s.degrDone.judge 3 precStop 0) := by
  have hcause : causeTarget s.degrDone.md 3 precStop = some .safeStop := by
    rw [s.degrDone_md]
    rcases hm with hm | hm <;> rw [hm] <;> rfl
  have htrig : s.degrDone.trigger 3 precStop 0 = s.degrDone.startTrans .safeStop 3 precStop 0 := State.trigger_starts ht hcause
  have hk := s.degrDone.startTrans_stop_modeKept 3 precStop (code := 0) (by decide)
  rw [State.judge, htrig]
  split
  · exact hk.trans (State.rampAll_modeKept _ 2 2000)
  · exact hk

theorem degradedTimerExpiry_stops {s : State} (hl : s.degrLeft = some 0) (he : s.mode.degrExpired = false) (hm : s.md = .degraded ∨ s.md = .standby)
    (ht : s.mode.trans = none) : ∃ t, execDegradedTimerExpiry s = .next t ∧ t.mode.degrExpired = true ∧
      t.flag R.SYS_MODE_IN_TRANSITION = true ∧ t.get R.SYS_MODE_TARGET = 0xB ∧ t.md = s.md := by
  have hr : s.running = true := State.running_of_fromDiscover (by rcases hm with hm | hm <;> rw [hm] <;> rfl)
  have hk := State.degrDone_judge_modeKept hm ht
  refine ⟨_, (execDegradedTimerExpiry_due hr hl he).trans (congrArg Host.Outcome.next (if_pos hm)), ?_, ?_, ?_, ?_⟩
  · rw [hk.mode]; rfl
  · rw [hk.flag _ rfl, State.inTrans, State.withTrans_flag, State.transMarked_flag]
  · rw [hk.get _ rfl, State.inTrans, State.withTrans_get, State.transMarked_target]; rfl
  · rw [hk.md, State.inTrans, State.withTrans_md, State.transMarked_md, s.degrDone_md]

end Sys2Proof.Machine
end

section
/-! SUPPORT. The power state through the steps before a warm reset (R48, R431, R433, R440), and SYS_RESET. -/

namespace Sys2Proof.Machine

/-! ### The power state -/

/-- The power state. -/
def State.powerOf (s : State) : Power := s.pwr.power

/-- The power state as a part of the state. -/
abbrev State.powered : State → Power := State.view State.powerOf

theorem State.power_powered (s : State) : s.pwr.power = s.powered := (rfl)

@[simp] theorem State.mk_powered (part pending atime free regs mem pwr mode host own store mkt led fe edge pair dcl acq trac conv chg mot disc
    safe tally net) : (State.mk part pending atime free regs mem pwr mode host own store mkt led fe edge pair dcl acq trac conv chg mot disc
    safe tally net).view State.powerOf = pwr.power := (rfl)

theorem State.powered_of_pwr {s t : State} (h : t.pwr = s.pwr) : t.powered = s.powered := congrArg Supplies.power h

theorem LinksKept.powered {s t : State} (h : LinksKept s t) : t.powered = s.powered := State.powered_of_pwr h.2
theorem Refreshed.powered {s t : State} (h : Refreshed s t) : t.powered = s.powered := State.powered_of_pwr h.pwr

@[simp] theorem State.foldl_powered {α : Type} {f : State → α → State} (h : ∀ t a, (f t a).powered = t.powered) (l : List α) (s : State) :
    (l.foldl f s).powered = s.powered := State.each_view h l s

@[simp] theorem State.onlyIf_powered {f : State → State} (h : ∀ t, (f t).powered = t.powered) (b : Bool) (s : State) :
    (s.onlyIf b f).powered = s.powered := by
  cases b
  · rfl
  · exact h s

@[simp] theorem State.wr_powered (s : State) (a : Nat) (w : Word) : (s.wr a w).powered = s.powered := State.powered_of_pwr (State.wr_pwr ..)
@[simp] theorem State.put_powered (s : State) (F : Fld) (v : Nat) : (s.put F v).powered = s.powered := State.wr_powered _ _ _
@[simp] theorem State.putB_powered (s : State) (F : Fld) (v : Bool) : (s.putB F v).powered = s.powered := State.put_powered _ _ _
@[simp] theorem State.wrapInc_powered (s : State) (F : Fld) : (s.wrapInc F).powered = s.powered := State.put_powered _ _ _
@[simp] theorem State.event_powered (s : State) (code source : Nat) (c0 c1 c2 c3 : Option Word) :
    (s.event code source c0 c1 c2 c3).powered = s.powered :=
  (s.event_linksKept code source c0 c1 c2 c3).powered
@[simp] theorem State.eventFor_powered (s : State) (m code source : Nat) (c0 c1 c2 c3 : Option Word) :
    (s.eventFor m code source c0 c1 c2 c3).powered = s.powered := State.powered_of_pwr (State.eventFor_pwr ..)
@[simp] theorem State.raise_powered (s : State) (code sev unit : Nat) (c0 c1 : Option Word) : (s.raise code sev unit c0 c1).powered = s.powered :=
  (s.raise_linksKept code sev unit c0 c1).powered
@[simp] theorem State.wardenStage_powered (s : State) (n p : Nat) (w : Word) : (s.wardenStage n p w).powered = s.powered :=
  State.powered_of_pwr (by rw [(s.wardenStage_pairOnly n p w).frame])
@[simp] theorem State.unforceUnit_powered (s : State) (u : Nat) : (s.unforceUnit u).powered = s.powered := (s.unforceUnit_refreshed u).powered
@[simp] theorem State.removeEnable_powered (s : State) (u : Nat) : (s.removeEnable u).powered = s.powered := (s.removeEnable_refreshed u).powered
@[simp] theorem State.hold_powered (s : State) (u : Nat) : (s.hold u).powered = s.powered := (s.hold_edgeOnly u).refreshed.powered
@[simp] theorem State.forceUnit_powered (s : State) (u : Nat) (asc : Bool) : (s.forceUnit u asc).powered = s.powered :=
  (s.forceUnit_refreshed u asc).powered
@[simp] theorem State.takeOut_powered (s : State) (u : Nat) : (s.takeOut u).powered = s.powered := (s.takeOut_refreshed u).powered
@[simp] theorem State.safeOutputs_powered (s : State) (code : Nat) : (s.safeOutputs code).powered = s.powered :=
  (s.safeOutputs_linksKept code).powered
@[simp] theorem State.endDiscovery_powered (s : State) : s.endDiscovery.powered = s.powered := s.endDiscovery_linksKept.powered
@[simp] theorem State.dropOp_powered (s : State) (m tag : Nat) : (s.dropOp m tag).powered = s.powered := (s.dropOp_linksKept m tag).powered

/-! ### Memories and rings -/

@[simp] theorem State.setByte_powered (s : State) (a : Nat) (b : Byte) : (s.setByte a b).powered = s.powered := by
  simp [State.setByte, State.power_powered]
@[simp] theorem State.setBytes_powered (s : State) (a : Nat) (bs : List Byte) : (s.setBytes a bs).powered = s.powered := by
  induction bs generalizing s a with
  | nil => rfl
  | cons b t ih => simp [State.setBytes, ih]
@[simp] theorem State.settle_powered (s : State) (o : Nat) : (s.settle o).powered = s.powered := by simp [State.settle, State.power_powered]
@[simp] theorem State.renew_powered (s : State) (a n : Nat) : (s.renew a n).powered = s.powered := by simp [State.renew, State.power_powered]
@[simp] theorem State.writeByte_powered (s : State) (a : Nat) (b : Byte) : (s.writeByte a b).powered = s.powered := by simp [State.writeByte]
@[simp] theorem State.writeEach_powered (s : State) (a : Nat) (bs : List Byte) : (s.writeEach a bs).powered = s.powered := by
  induction bs generalizing s a with
  | nil => rfl
  | cons b t ih => simp [State.writeEach, ih]
@[simp] theorem State.writeBytes_powered (s : State) (a : Nat) (bs : List Byte) : (s.writeBytes a bs).powered = s.powered := by
  simp [State.writeBytes]
@[simp] theorem State.regionErr_powered (s : State) (a who : Nat) : (s.regionErr a who).powered = s.powered := by simp [State.regionErr]
@[simp] theorem State.putHost_powered (s : State) (m a : Nat) (bs : List Byte) : (s.putHost m a bs).powered = s.powered := by
  unfold State.putHost
  split <;> simp [State.power_powered]
@[simp] theorem State.setRing_powered (s : State) (m kind i : Nat) (r : Ring) : (s.setRing m kind i r).powered = s.powered := by
  simp [State.setRing, State.power_powered]
@[simp] theorem State.sendMsix_powered (s : State) (k : Nat) : (s.sendMsix k).powered = s.powered := by simp [State.sendMsix, State.power_powered]
@[simp] theorem State.signal_powered (s : State) (m kind i : Nat) : (s.signal m kind i).powered = s.powered := by
  simp [State.signal, State.power_powered]
@[simp] theorem State.wrote_powered (s : State) (m kind i : Nat) (now : Bool) : (s.wrote m kind i now).powered = s.powered := by simp [State.wrote]
@[simp] theorem State.writeEntry_powered (s : State) (m kind i w : Nat) (now : Bool) (f : Bool → List Byte) :
    (s.writeEntry m kind i w now f).powered = s.powered := by simp [State.writeEntry]
@[simp] theorem State.crFull_powered (s : State) (m k : Nat) : (s.crFull m k).powered = s.powered := by simp [State.crFull]
@[simp] theorem State.issue_powered (s : State) (r : Result) : (s.issue r).powered = s.powered := by
  unfold State.issue
  split <;> simp [State.power_powered]
@[simp] theorem State.issueAll_powered (s : State) : s.issueAll.powered = s.powered := by simp [State.issueAll, State.power_powered]
@[simp] theorem State.overflowEntry_powered (s : State) (m k : Nat) : (s.overflowEntry m k).powered = s.powered := by simp [State.overflowEntry]
@[simp] theorem State.toRing_powered (s : State) (e : Event) (m k : Nat) : (s.toRing e m k).powered = s.powered := by simp [State.toRing]
@[simp] theorem State.deliver_powered (s : State) (e : Event) : (s.deliver e).powered = s.powered := by simp [State.deliver]
@[simp] theorem State.deliverAll_powered (s : State) : s.deliverAll.powered = s.powered := by simp [State.deliverAll, State.power_powered]

/-! ### Transitions -/

@[simp] theorem State.writeLimits_powered (s : State) (n : Nat) : (s.writeLimits n).powered = s.powered := by simp [State.writeLimits]
@[simp] theorem State.askGrant_powered (s : State) (u : Nat) : (s.askGrant u).powered = s.powered := by simp [State.askGrant, State.power_powered]
@[simp] theorem State.degradedEntry_powered (s : State) : s.degradedEntry.powered = s.powered := by
  simp only [State.degradedEntry]
  split <;> simp [State.power_powered]
@[simp] theorem State.dropRamps_powered (s : State) : s.dropRamps.powered = s.powered := by simp [State.dropRamps, State.power_powered]
@[simp] theorem State.accepted_powered (s : State) (dest : Mode) : (s.accepted dest).powered = s.powered := by
  simp [State.accepted, State.power_powered]
@[simp] theorem State.startTrans_powered (s : State) (dest : Mode) (kind prec code : Nat) :
    (s.startTrans dest kind prec code).powered = s.powered := by
  simp -implicitDefEqProofs [State.power_powered, State.startTrans]
@[simp] theorem State.abandon_powered (s : State) (cur : Trigger) (dest : Mode) : (s.abandon cur dest).powered = s.powered := by
  simp [State.abandon, State.power_powered]
@[simp] theorem State.holdTrigger_powered (s : State) (kind prec code : Nat) : (s.holdTrigger kind prec code).powered = s.powered := by
  simp [State.holdTrigger, State.power_powered]
@[simp] theorem State.sameTrigger_powered (s : State) (cur : Trigger) (kind code : Nat) : (s.sameTrigger cur kind code).powered = s.powered := by
  simp [State.sameTrigger, State.power_powered]
@[simp] theorem State.trigger_powered (s : State) (kind prec code : Nat) : (s.trigger kind prec code).powered = s.powered := by
  unfold State.trigger
  repeat' split
  all_goals simp
@[simp] theorem State.abandonForReset_powered (s : State) : s.abandonForReset.powered = s.powered := by
  unfold State.abandonForReset
  split <;> simp

/-! ### Records -/

@[simp] theorem State.logDropped_powered (s : State) : s.logDropped.powered = s.powered := by simp [State.logDropped, State.power_powered]
@[simp] theorem State.logRec_powered (s : State) (r : Rec) : (s.logRec r).powered = s.powered := by
  unfold State.logRec
  repeat' split
  all_goals simp [State.power_powered]
@[simp] theorem State.tellDrop_powered (s : State) : s.tellDrop.powered = s.powered := by simp [State.tellDrop, State.power_powered]
@[simp] theorem State.report_powered (s : State) (r : Rec) : (s.report r).powered = s.powered := by simp [State.report, State.power_powered]
@[simp] theorem State.recaptureEnd_powered (s : State) (u : Nat) : (s.recaptureEnd u).powered = s.powered := by
  simp [State.recaptureEnd, State.power_powered]
@[simp] theorem State.loseSet_powered (s : State) (u : Nat) : (s.loseSet u).powered = s.powered := by
  simp only [State.loseSet]
  split <;> simp
@[simp] theorem State.noteAct_powered (s : State) (r : Rec) : (s.noteAct r).powered = s.powered := by simp [State.noteAct, State.power_powered]
@[simp] theorem State.disable_powered (s : State) (u : Nat) : (s.disable u).powered = s.powered := by simp [State.disable]
@[simp] theorem State.degradeAct_powered (s : State) (r : Rec) : (s.degradeAct r).powered = s.powered := by simp [State.degradeAct]
@[simp] theorem State.recAct_powered (s : State) (r : Rec) : (s.recAct r).powered = s.powered := by simp [State.recAct]
@[simp] theorem State.showQueue_powered (s : State) : s.showQueue.powered = s.powered := by simp [State.showQueue]
@[simp] theorem State.preempt_powered (s : State) (sev : Nat) : (s.preempt sev).powered = s.powered := by
  unfold State.preempt
  split <;> simp [State.power_powered]
@[simp] theorem State.enqueue_powered (s : State) (r : Rec) : (s.enqueue r).powered = s.powered := by simp [State.enqueue, State.power_powered]
@[simp] theorem State.receive_powered (s : State) (r : Rec) : (s.receive r).powered = s.powered := by simp [State.receive]
@[simp] theorem State.receiveAll_powered (s : State) : s.receiveAll.powered = s.powered := by simp [State.receiveAll, State.power_powered]
@[simp] theorem State.writeOut_powered (s : State) : s.writeOut.powered = s.powered := by simp [State.writeOut, State.power_powered]

/-! ### SYS_RESET (R48, R59, R440) -/

/-- Everything of a command that comes before the reset. -/
def State.beforeReset (s : State) : State := s.issueAll.writeOut.abandonForReset.deliverAll

theorem State.beforeReset_power (s : State) : s.beforeReset.pwr.power = s.pwr.power := by
  have h : s.beforeReset.powered = s.powered := by simp [State.beforeReset]
  exact h

/-- The power state reset, with the source that asserts. -/
def State.resetPower (s : State) (src : Nat) (cold : Bool) : State :=
  { s with pwr.power := .reset, pwr.cold := cold, pwr.sources := natSetBit s.pwr.sources src true }

theorem State.resetPower_rd (s : State) (src : Nat) (cold : Bool) (a : Nat) : (s.resetPower src cold).rd a = s.rd a := rfl

/-- A reset source asserted in a part that is not in reset: its bit, and the cleared state. -/
def State.resetTaken (s : State) (src : Nat) (cold : Bool) : State :=
  ((s.cleared.putB ⟨R.SYS_RESET_CAUSE, src, src⟩ true).putB R.PWR_STATUS_VIO_USED_LOCK false).resetPower src cold

theorem State.enterReset_refreshed {s : State} (src : Nat) (cold : Bool) (h : s.pwr.power ≠ .reset) :
    Refreshed (s.resetTaken src cold) (s.enterReset src cold) := by
  have heq : s.enterReset src cold = (s.resetTaken src cold).refreshAll := by
    simp only [State.enterReset, h, decide_false, Bool.false_and, Bool.or_false]
    rfl
  rw [heq]
  exact State.refreshAll_refreshed _

theorem State.resetTaken_power (s : State) (src : Nat) (cold : Bool) : (s.resetTaken src cold).pwr.power = .reset := rfl
theorem State.resetTaken_cold (s : State) (src : Nat) (cold : Bool) : (s.resetTaken src cold).pwr.cold = cold := rfl
theorem State.resetTaken_mem (s : State) (src : Nat) (cold : Bool) : (s.resetTaken src cold).mem.valid = [] := rfl
theorem State.resetTaken_rings (s : State) (src : Nat) (cold : Bool) : (s.resetTaken src cold).host.rings = [] := rfl
theorem State.resetTaken_claims (s : State) (src : Nat) (cold : Bool) : (s.resetTaken src cold).own.claims = [] := rfl

theorem State.resetTaken_cause (s : State) {src : Nat} (cold : Bool) (h : src < 32) :
    (s.resetTaken src cold).flag ⟨R.SYS_RESET_CAUSE, src, src⟩ = true := by
  have hstatus : (s.resetTaken src cold).rd R.SYS_RESET_CAUSE = (s.cleared.putB ⟨R.SYS_RESET_CAUSE, src, src⟩ true).rd R.SYS_RESET_CAUSE := by
    rw [State.resetTaken, State.resetPower_rd, State.rd_putB_ne _ R.PWR_STATUS_VIO_USED_LOCK _ (by decide)]
  rw [State.flag_of_rd ⟨R.SYS_RESET_CAUSE, src, src⟩ hstatus, State.flag_putB_same _ _ _ rfl h]

theorem Refreshed.rings {s t : State} (h : Refreshed s t) : t.host.rings = s.host.rings := by obtain ⟨⟨_, _, _, _, _, rfl⟩, _⟩ := h; rfl
theorem Refreshed.own {s t : State} (h : Refreshed s t) : t.own = s.own := by obtain ⟨⟨_, _, _, _, _, rfl⟩, _⟩ := h; rfl
theorem Refreshed.flag {s t : State} (h : Refreshed s t) (F : Fld) (hF : F.addr ≠ R.CONV_STATUS) : t.flag F = s.flag F :=
  State.flag_of_rd F (h.rd hF)

section
variable {s : State} {c : Cmd} (hs : s.startable c 0x0105 = true) (ht : c.target = 0)
include hs ht

theorem execSysReset_ok (hst : s.standstill = true) (hm : s.md = .standby ∨ s.md = .service ∨ s.md = .commission ∨ s.md = .safeStop) :
    execSysReset c s = .next ((s.finish c .ok).beforeReset.enterReset srcCmd false) := by
  have htg : s.targets c [0] = true := State.targets_self ht (by decide)
  have hmodes : (s.md = .standby || s.md = .service || s.md = .commission || s.md = .safeStop) = true := by simpa [or_assoc] using hm
  simp only [execSysReset, State.command_startable _ hs, elxTargets, htg, hmodes, hst]
  rfl

theorem execSysReset_drive (hm : s.md = .drive) : execSysReset c s = .next (s.finish c .rejectedMode) := by
  have htg : s.targets c [0] = true := State.targets_self ht (by decide)
  simp [execSysReset, State.command_startable _ hs, elxTargets, htg, hm, refuse]

theorem sysReset_done (hst : s.standstill = true) (hm : s.md = .standby ∨ s.md = .service ∨ s.md = .commission ∨ s.md = .safeStop) :
    ∃ t, execSysReset c s = .next t ∧ t.pwr.power = .reset ∧ t.pwr.cold = false ∧ t.flag R.SYS_RESET_CAUSE_CMD = true ∧
      t.mem.valid = [] ∧ t.host.rings = [] ∧ t.own.claims = [] := by
  have hrun : s.running = true := State.running_of_fromDiscover (by rcases hm with hm | hm | hm | hm <;> rw [hm] <;> rfl)
  have hpower : (s.finish c .ok).beforeReset.pwr.power ≠ .reset := by
    rw [State.beforeReset_power, State.finish_pwr, of_decide_eq_true hrun]
    decide
  have hr := State.enterReset_refreshed srcCmd false hpower
  refine ⟨_, execSysReset_ok hs ht hst hm, ?_, ?_, ?_, ?_, ?_, ?_⟩
  · rw [hr.pwr, State.resetTaken_power]
  · rw [hr.pwr, State.resetTaken_cold]
  · rw [hr.flag _ (by decide)]
    exact State.resetTaken_cause _ false (by decide)
  · rw [hr.mem, State.resetTaken_mem]
  · rw [hr.rings, State.resetTaken_rings]
  · rw [hr.own, State.resetTaken_claims]

end

end Sys2Proof.Machine

open Sys2Proof.Machine in
/-- Settles O8: SAFE_STOP adds to the transition only the safe state of the outputs; a reset command clears a part that its own last results,
records and events leave running; the timer's expiry is a trigger in DEGRADED and STANDBY only. -/
theorem safeStopResetAndTimers : Obligations.SafeStopResetAndTimers := by
  intro s
  refine ⟨fun c hs ht hm => execModeStatus_eq hs ht hm, fun c hs ht hm htr hb => safeStopRequest_standby hs ht hm htr hb,
    fun c hs ht hm => execSafeStopRequest_there hs ht hm, fun c hs ht hst hm => sysReset_done hs ht hst hm,
    fun c hs ht hm => execSysReset_drive hs ht hm, fun t0 hp hs ht he => ?_, fun hp hl he hd hst => ?_,
    fun hl he hm htr => degradedTimerExpiry_stops hl he hm htr, fun h => ⟨execDegradedTimerExpiry_over h, execDegradedTimer_over h⟩⟩
  · refine ⟨_, execDegradedTimer_runs (decide_eq_true hp) hs ht he, ?_, rfl⟩
    exact ⟨_, rfl, rfl, rfl, rfl, by simp [State.ctxWord, State.degrLeft, hs], by simp⟩
  · refine ⟨_, (execDegradedTimerExpiry_due (decide_eq_true hp) hl he).trans (congrArg Host.Outcome.next (if_neg ?_)), rfl, rfl, ?_, rfl⟩
    · exact not_or.mpr ⟨hd, hst⟩
    · have hleft : State.degrLeft { s with mode.degrExpired := true } = some 0 := hl
      exact ⟨_, rfl, rfl, rfl, rfl, by simp [State.ctxWord, hleft], by simp⟩
end

section
/-! SUPPORT. Setpoints handed to engines, parameter groups, and the traction commands (R98, R231, R232, R235, R253, R255, R439). -/

namespace Sys2Proof.Machine

/-! ### Setpoints -/

/-- A setpoint handed on is the last of its engine's, and nothing else is done (R98). -/
theorem State.queueSetpoint_handed (s : State) (c : Cmd) (n opcode u : Nat) (bad : Bool) (words : List (Nat × Word)) :
    Handed s (s.queueSetpoint c n opcode u bad words) c n opcode u bad words := by
  refine ⟨?_, ?_, fun m hm => ?_, rfl⟩
  · rw [State.queueSetpoint, State.eng_modEng_same]; rfl
  · rw [State.queueSetpoint, State.eng_modEng_same]; rfl
  · rw [State.queueSetpoint, State.eng_modEng_ne _ _ _ hm]; rfl

section
variable {s : State} {c : Cmd}

theorem State.tracSetpoint_ok (opcode : Nat) (bad : Bool) (words : List (Nat × Word)) (ht : s.targets c tractionTargets = true)
    (hp : s.primary (c.target - 0x80) = none) :
    s.tracSetpoint c opcode bad words = .next (s.queueSetpoint c (s.addressed (c.target - 0x80)) opcode 0 bad words) := by
  simp [State.tracSetpoint, ht, hp]

/-- No traction engine of the part, or the secondary of a pair. -/
theorem State.tracSetpoint_refused (opcode : Nat) (bad : Bool) (words : List (Nat × Word))
    (h : s.targets c tractionTargets = false ∨ (s.primary (c.target - 0x80)).isSome = true) :
    s.tracSetpoint c opcode bad words = .next (s.finish c .badParam) := by
  rcases h with h | h <;> simp [State.tracSetpoint, h, refuse]

theorem short_of_le {n : Nat} (h : n ≤ c.payload.length) : short c n = false := decide_eq_false (by omega)

end

/-! ### Results stay while the Tally reopens (R422, R439) -/

/-- The results produced. -/
def State.resultsOf (s : State) : List Result := s.host.results

/-- The results produced as a part of the state. -/
abbrev State.resulted : State → List Result := State.view State.resultsOf

theorem State.results_resulted (s : State) : s.host.results = s.resulted := (rfl)

@[simp] theorem State.mk_resulted (part pending atime free regs mem pwr mode host own store mkt led fe edge pair dcl acq trac conv chg mot disc
    safe tally net) : (State.mk part pending atime free regs mem pwr mode host own store mkt led fe edge pair dcl acq trac conv chg mot disc
    safe tally net).view State.resultsOf = host.results := (rfl)

theorem State.resulted_of_host {s t : State} (h : t.host = s.host) : t.resulted = s.resulted := congrArg HostState.results h

@[simp] theorem State.wr_resulted (s : State) (a : Nat) (w : Word) : (s.wr a w).resulted = s.resulted := State.resulted_of_host (State.wr_host ..)
@[simp] theorem State.putB_resulted (s : State) (F : Fld) (b : Bool) : (s.putB F b).resulted = s.resulted := State.wr_resulted _ _ _
@[simp] theorem State.putBit_resulted (s : State) (F : Fld) (b : Nat) (v : Bool) : (s.putBit F b v).resulted = s.resulted := State.wr_resulted _ _ _
@[simp] theorem State.event_resulted (s : State) (code source : Nat) (c0 c1 c2 c3 : Option Word) :
    (s.event code source c0 c1 c2 c3).resulted = s.resulted := (rfl)
@[simp] theorem State.setRx_resulted (s : State) (k c : Nat) (r : TallyRx) : (s.setRx k c r).resulted = s.resulted := (rfl)
@[simp] theorem State.setTx_resulted (s : State) (c : Nat) (x : TallyTx) : (s.setTx c x).resulted = s.resulted := (rfl)
@[simp] theorem State.tallyShow_resulted (s : State) (c : Nat) : (s.tallyShow c).resulted = s.resulted := by simp [State.tallyShow]
@[simp] theorem State.tallySet_resulted (s : State) (k c : Nat) (r : TallyRx) : (s.tallySet k c r).resulted = s.resulted := by
  simp [State.tallySet, State.results_resulted]
@[simp] theorem State.tallyOpen_resulted (s : State) (c : Nat) : (s.tallyOpen c).resulted = s.resulted := by simp [State.tallyOpen]
@[simp] theorem State.tallyClose_resulted (s : State) (c : Nat) : (s.tallyClose c).resulted = s.resulted := by simp [State.tallyClose]
@[simp] theorem State.tallyFollow_resulted (s : State) (c : Nat) : (s.tallyFollow c).resulted = s.resulted := by simp [State.tallyFollow]
@[simp] theorem State.tallyReopen_resulted (s : State) : s.tallyReopen.resulted = s.resulted := by simp [State.tallyReopen]

theorem State.setChanged_results (s : State) : s.setChanged.host.results = s.host.results := by
  have h : s.setChanged.resulted = s.resulted := by simp [State.setChanged]
  exact h

/-! ### Groups of parameter words (R170, R231, R439) -/

theorem Stored.fe {s t : State} (h : Stored s t) : t.fe = s.fe := by obtain ⟨-, _, _, _, _, _, _, rfl⟩ := h; rfl
theorem Stored.atime {s t : State} (h : Stored s t) : t.atime = s.atime := by obtain ⟨-, _, _, _, _, _, _, rfl⟩ := h; rfl

theorem State.storeWord_stored (s : State) (n p : Nat) (v : Word) : Stored s (s.storeWord n p v) := by
  unfold State.storeWord
  split
  · exact (Stored.led s _).trans (State.setChanged_stored _)
  · exact Stored.refl s

theorem State.storeWord_results (s : State) (n p : Nat) (v : Word) : (s.storeWord n p v).host.results = s.host.results := by
  unfold State.storeWord
  split
  · exact State.setChanged_results _
  · rfl

/-- What a group of words leaves alone: the memories, the time, the results, and the words in force. -/
structure GroupKept (n : Nat) (s t : State) : Prop where
  mem : t.mem = s.mem
  atime : t.atime = s.atime
  results : t.host.results = s.host.results
  act : (t.eng n).act = (s.eng n).act

theorem GroupKept.trans {n : Nat} {s t u : State} (h : GroupKept n s t) (k : GroupKept n t u) : GroupKept n s u :=
  ⟨k.mem.trans h.mem, k.atime.trans h.atime, k.results.trans h.results, k.act.trans h.act⟩

/-- One word of a group. -/
def State.groupWord (s : State) (n p : Nat) (v : Word) : State := (s.stage n p v).storeWord n p v

theorem State.groupWord_eng (s : State) (n p : Nat) (v : Word) : (s.groupWord n p v).eng n = (s.eng n).staged p v :=
  (State.eng_of_fe (State.storeWord_stored _ n p v).fe n).trans (s.stage_eng n p v)

theorem State.groupWord_kept (s : State) (n p : Nat) (v : Word) : GroupKept n s (s.groupWord n p v) where
  mem := (State.storeWord_stored _ n p v).mem
  atime := (State.storeWord_stored _ n p v).atime
  results := State.storeWord_results _ n p v
  act := by rw [s.groupWord_eng]; rfl

theorem State.writeGroup_kept_rest (n : Nat) (l : List Word) (s : State) (p : Nat) : GroupKept n s (s.writeGroup n p l) := by
  induction l generalizing s p with
  | nil => exact ⟨rfl, rfl, rfl, rfl⟩
  | cons v l ih => exact (s.groupWord_kept n p v).trans (ih _ _)

/-- A word outside the group stays as it was. -/
theorem State.writeGroup_nextWord_ne (n : Nat) (l : List Word) (s : State) (p : Nat) {q : Nat} (h : q < p ∨ p + l.length ≤ q) :
    ((s.writeGroup n p l).eng n).nextWord q = (s.eng n).nextWord q := by
  induction l generalizing s p with
  | nil => rfl
  | cons v l ih =>
    simp only [List.length_cons] at h
    have hrest : ((s.writeGroup n p (v :: l)).eng n).nextWord q = ((s.groupWord n p v).eng n).nextWord q :=
      ih (s.groupWord n p v) (p + 1) (by omega)
    rw [hrest, s.groupWord_eng, Engine.nextWord_staged_ne _ _ _ (by omega)]

/-- A word of the group waits for the next commit as it was written. -/
theorem State.writeGroup_nextWord (n : Nat) (l : List Word) (s : State) (p : Nat) {k : Nat} (h : k < l.length) :
    ((s.writeGroup n p l).eng n).nextWord (p + k) = l[k] := by
  induction l generalizing s p k with
  | nil => simp at h
  | cons v l ih =>
    cases k with
    | zero =>
      have hrest : ((s.writeGroup n p (v :: l)).eng n).nextWord p = ((s.groupWord n p v).eng n).nextWord p :=
        State.writeGroup_nextWord_ne n l (s.groupWord n p v) (p + 1) (.inl (Nat.lt_succ_self p))
      rw [Nat.add_zero, hrest, s.groupWord_eng, Engine.nextWord_staged_same]
      rfl
    | succ k =>
      have hrest : ((s.writeGroup n p (v :: l)).eng n).nextWord (p + 1 + k) = l[k]'(by simpa using h) :=
        ih (s.groupWord n p v) (p + 1) (by simpa using h)
      rw [show p + (k + 1) = p + 1 + k by omega, hrest]
      rfl

/-! ### Commands -/

section
variable {s : State} {c : Cmd}

theorem execTrqSet_eq (hs : s.startable c 0x1000 = true) :
    execTrqSet c s = s.tracSetpoint c 0x1000 (short c 4 || !fFinite (argW c 16)) [(337, argW c 16)] := State.command_startable _ hs

theorem execSpdSet_eq (hs : s.startable c 0x1001 = true) : execSpdSet c s =
    s.tracSetpoint c 0x1001 (short c 8 || !fFinite (argW c 16) || !fFinite (argW c 20) || fLt (argW c 20) (fZero false))
      [(338, argW c 16), (339, argW c 20)] := State.command_startable _ hs

theorem execCtrlSel_eq (hs : s.startable c 0x1002 = true) :
    execCtrlSel c s = s.tracSetpoint c 0x1002 (short c 1 || decide (1 < arg c 16 1)) [(336, w32 (arg c 16 1))] := State.command_startable _ hs

/-- The three setpoints of a TARGET that takes none. -/
theorem tracSetpoints_refused (h : s.targets c tractionTargets = false ∨ (s.primary (c.target - 0x80)).isSome = true) :
    (s.startable c 0x1000 = true → execTrqSet c s = .next (s.finish c .badParam)) ∧
    (s.startable c 0x1001 = true → execSpdSet c s = .next (s.finish c .badParam)) ∧
    (s.startable c 0x1002 = true → execCtrlSel c s = .next (s.finish c .badParam)) :=
  ⟨fun hs => (execTrqSet_eq hs).trans (State.tracSetpoint_refused _ _ _ h), fun hs => (execSpdSet_eq hs).trans (State.tracSetpoint_refused _ _ _ h),
    fun hs => (execCtrlSel_eq hs).trans (State.tracSetpoint_refused _ _ _ h)⟩

theorem execTrqStatus_eq (hs : s.startable c 0x1003 = true) (ht : s.targets c tractionTargets = true) (hm : s.modeOk 0x1003 true = true) :
    execTrqStatus c s =
      .next (s.finish c .ok (pair64 ((s.eng (c.target - 0x80)).seen 384).toNat ((s.eng (c.target - 0x80)).seen 385).toNat)) := by
  simp [execTrqStatus, State.command_startable _ hs, ht, hm]

theorem execTrqStatus_refused (hs : s.startable c 0x1003 = true) (ht : s.targets c tractionTargets = false) :
    execTrqStatus c s = .next (s.finish c .badParam) := by
  simp [execTrqStatus, State.command_startable _ hs, ht, refuse]

theorem execTrcParamWrite_eq (hs : s.startable c 0x1100 = true) (ht : s.targets c tractionTargets = true)
    (hp : s.primary (c.target - 0x80) = none) (hm : s.modeOk 0x1100 false = true) (h1 : 1 ≤ arg c 18 1) (h8 : arg c 18 1 ≤ 8)
    (hend : arg c 16 2 + arg c 18 1 ≤ 384) (hl : 4 + 4 * arg c 18 1 ≤ c.payload.length) : execTrcParamWrite c s =
      .next ((s.writeGroup (c.target - 0x80) (arg c 16 2) (argWords c 20 (arg c 18 1))).finish c .ok) := by
  have hshort : short c 3 = false := short_of_le (by omega)
  have hgood : (short c 3 || arg c 18 1 = 0 || decide (8 < arg c 18 1) || decide (384 < arg c 16 2 + arg c 18 1) ||
      short c (4 + 4 * arg c 18 1)) = false := by
    simp [hshort, short_of_le hl]
    omega
  simp only [execTrcParamWrite, State.command_startable _ hs, ht, hp, hm, hgood]
  rfl

theorem execTrcParamWrite_refused (hs : s.startable c 0x1100 = true)
    (h : s.targets c tractionTargets = false ∨ (s.primary (c.target - 0x80)).isSome = true) :
    execTrcParamWrite c s = .next (s.finish c .badParam) := by
  rcases h with h | h <;> simp [execTrcParamWrite, State.command_startable _ hs, h, refuse]

theorem execTrcParamRead_eq (hs : s.startable c 0x1101 = true) (ht : s.targets c tractionTargets = true) (hm : s.modeOk 0x1101 true = true)
    (hl : 3 ≤ c.payload.length) (h1 : 1 ≤ arg c 18 1) (h8 : arg c 18 1 ≤ 8) (hend : arg c 16 2 + arg c 18 1 ≤ 384) (hc : 4 * arg c 18 1 ≤ c.len) :
    execTrcParamRead c s = .next (s.finishData c .ok (bytesOfWords ((List.range (arg c 18 1)).map fun k =>
      (s.eng (c.target - 0x80)).word (arg c 16 2 + k)))) := by
  have hgood : (short c 3 || arg c 18 1 = 0 || decide (8 < arg c 18 1) || decide (384 < arg c 16 2 + arg c 18 1) ||
      decide (c.len < 4 * arg c 18 1)) = false := by
    simp [short_of_le hl]
    omega
  simp only [execTrcParamRead, State.command_startable _ hs, ht, hm, hgood]
  rfl

theorem execTrcParamRead_refused (hs : s.startable c 0x1101 = true) (ht : s.targets c tractionTargets = false) :
    execTrcParamRead c s = .next (s.finish c .badParam) := by
  simp [execTrcParamRead, State.command_startable _ hs, ht, refuse]

theorem execLawSel_refused (hs : s.startable c 0x1004 = true)
    (h : s.targets c tractionTargets = false ∨ (s.primary (c.target - 0x80)).isSome = true) :
    execLawSel c s = .next (s.finish c .badParam) := by
  rcases h with h | h <;> simp [execLawSel, State.command_startable _ hs, h, refuse]

/-- The word that holds the entry of law `law` (R253). -/
def lawWord (law : Nat) : Nat := if law = 1 then 365 else 364

/-- LAW_SEL of the other law begun. -/
def State.lawBegun (s : State) (c : Cmd) (n m old law : Nat) : State :=
  ((s.begin c).put (R.FE_CTRL_ENTRY n) ((s.eng n).word (lawWord law)).toNat).modTr m fun t => { t with lawOp := some (c.master, c.tag, old, law) }

theorem execLawSel_other (hs : s.startable c 0x1004 = true) (ht : s.targets c tractionTargets = true) (hp : s.primary (c.target - 0x80) = none)
    (hm : s.modeOk 0x1004 false = true) {law : Nat} (hlaw : law < 2) (hl : 1 ≤ c.payload.length) (ha : arg c 16 1 = law)
    (hnow : s.lawNow (s.addressed (c.target - 0x80)) = 1 - law) (hlive : s.flag (R.EDGE_BAND_CFG_LIVE_SW (c.target - 0x80)) = true)
    (hk : s.get (R.EDGE_TB_CFG_KIND (c.target - 0x80)) ≠ 1) (hb : s.lawBusy (s.addressed (c.target - 0x80)) = false) :
    execLawSel c s = .next (s.lawBegun c (c.target - 0x80) (s.addressed (c.target - 0x80)) (1 - law) law) := by
  have hgood : (short c 1 || decide (1 < law)) = false := by simp [short_of_le hl]; omega
  have hne : law ≠ 1 - law := by omega
  simp only [execLawSel, State.command_startable _ hs, ht, hp, hm, ha, hgood, hnow, hlive, hb]
  simp [hne, hk]
  rfl

end

/-! ### What each command leaves -/

section
variable {s : State} {c : Cmd}

theorem argWords_length (c : Cmd) (i n : Nat) : (argWords c i n).length = n := by simp [argWords]

theorem argWords_get (c : Cmd) (i n : Nat) {k : Nat} (h : k < (argWords c i n).length) : (argWords c i n)[k] = argW c (i + 4 * k) := by
  simp [argWords]

/-- TRC_PARAM_WRITE of a legal group. -/
theorem trcParamWrite_done (hs : s.startable c 0x1100 = true) (ht : s.targets c tractionTargets = true)
    (hp : s.primary (c.target - 0x80) = none) (hm : s.modeOk 0x1100 false = true) (h1 : 1 ≤ arg c 18 1) (h8 : arg c 18 1 ≤ 8)
    (hend : arg c 16 2 + arg c 18 1 ≤ 384) (hl : 4 + 4 * arg c 18 1 ≤ c.payload.length) : ∃ t, execTrcParamWrite c s = .next t ∧
      (∀ k, k < arg c 18 1 → (t.eng (c.target - 0x80)).nextWord (arg c 16 2 + k) = argW c (20 + 4 * k)) ∧
      (∀ p, (∀ k, k < arg c 18 1 → p ≠ arg c 16 2 + k) → (t.eng (c.target - 0x80)).nextWord p = (s.eng (c.target - 0x80)).nextWord p) ∧
      (t.eng (c.target - 0x80)).act = (s.eng (c.target - 0x80)).act ∧ Answered s t c .ok ∧ t.mem = s.mem := by
  have hkept := State.writeGroup_kept_rest (c.target - 0x80) (argWords c 20 (arg c 18 1)) s (arg c 16 2)
  refine ⟨_, execTrcParamWrite_eq hs ht hp hm h1 h8 hend hl, fun k hk => ?_, fun p hne => ?_, hkept.act,
    State.finish_answered c .ok 0 false hkept.results hkept.atime, hkept.mem⟩
  · exact (State.writeGroup_nextWord _ _ s _ (by rwa [argWords_length])).trans (argWords_get c 20 _ _)
  · refine State.writeGroup_nextWord_ne _ _ s _ ?_
    by_contra hin
    rw [argWords_length] at hin
    exact hne (p - arg c 16 2) (by omega) (by omega)

/-- The other law's entry is written, and the command waits at the engine that acts. -/
theorem State.lawBegun_spec (s : State) (c : Cmd) (n m old law : Nat) :
    (s.lawBegun c n m old law).get (R.FE_CTRL_ENTRY n) = ((s.eng n).word (lawWord law)).toNat % 1024 ∧
      ((s.lawBegun c n m old law).tr m).lawOp = some (c.master, c.tag, old, law) ∧ (s.lawBegun c n m old law).host = (s.begin c).host ∧
      OnlyRegs s (s.lawBegun c n m old law) [R.FE_CTRL n] ∧
      s.lawBegun c n m old law = { s.begin c with regs := (s.lawBegun c n m old law).regs, trac := (s.lawBegun c n m old law).trac } := by
  refine ⟨?_, ?_, rfl, ?_, rfl⟩
  · exact (s.begin c).get_put_same (R.FE_CTRL_ENTRY n) _ (by simp only [R.FE_CTRL_ENTRY]; omega) (by simp only [R.FE_CTRL_ENTRY]; omega)
  · rw [State.lawBegun, State.modTr, State.tr, State.setTr, Sparse.get_set_same]
  · exact (s.begin c).put_onlyRegs (R.FE_CTRL_ENTRY n) _

end

end Sys2Proof.Machine

open Sys2Proof.Machine in
/-- Settles O36: a setpoint goes to the engine that acts as it came; a group is staged word by word; LAW_SEL writes the entry and waits. -/
theorem tractionCommands : Obligations.TractionCommands := by
  intro s c
  refine ⟨fun ht => ?_, fun hp => ?_, fun ht hp => ⟨fun hs hl => ?_, fun hs hl => ?_, fun hs hl => ?_⟩,
    fun ht hm hs => execTrqStatus_eq hs ht hm, fun ht hp hm hs h1 h8 hend hl => trcParamWrite_done hs ht hp hm h1 h8 hend hl,
    fun ht hm hs hl h1 h8 hend hc => execTrcParamRead_eq hs ht hm hl h1 h8 hend hc,
    fun law hlaw ht hp hm hs hl ha hnow hlive hk hb => ?_⟩
  · obtain ⟨htrq, hspd, hctrl⟩ := tracSetpoints_refused (s := s) (c := c) (.inl ht)
    exact ⟨htrq, hspd, hctrl, fun hs => execTrqStatus_refused hs ht, fun hs => execTrcParamWrite_refused hs (.inl ht),
      fun hs => execTrcParamRead_refused hs ht, fun hs => execLawSel_refused hs (.inl ht)⟩
  · obtain ⟨htrq, hspd, hctrl⟩ := tracSetpoints_refused (s := s) (c := c) (.inr hp)
    exact ⟨htrq, hspd, hctrl, fun hs => execTrcParamWrite_refused hs (.inr hp), fun hs => execLawSel_refused hs (.inr hp)⟩
  · have hbad : (short c 4 || !fFinite (argW c 16)) = !fFinite (argW c 16) := by rw [short_of_le hl, Bool.false_or]
    refine ⟨_, (execTrqSet_eq hs).trans (State.tracSetpoint_ok _ _ _ ht hp), ?_⟩
    rw [hbad]
    exact s.queueSetpoint_handed c _ _ _ _ _
  · have hbad : (short c 8 || !fFinite (argW c 16) || !fFinite (argW c 20) || fLt (argW c 20) (fZero false)) =
        !(fFinite (argW c 16) && fFinite (argW c 20) && !fLt (argW c 20) (fZero false)) := by
      rw [short_of_le hl, Bool.false_or, Bool.not_and, Bool.not_and, Bool.not_not]
    refine ⟨_, (execSpdSet_eq hs).trans (State.tracSetpoint_ok _ _ _ ht hp), ?_⟩
    rw [hbad]
    exact s.queueSetpoint_handed c _ _ _ _ _
  · have hbad : (short c 1 || decide (1 < arg c 16 1)) = decide (1 < arg c 16 1) := by rw [short_of_le hl, Bool.false_or]
    refine ⟨_, (execCtrlSel_eq hs).trans (State.tracSetpoint_ok _ _ _ ht hp), ?_⟩
    rw [hbad]
    exact s.queueSetpoint_handed c _ _ _ _ _
  · have hword : lawWord law = 365 - (1 - law) := by unfold lawWord; split <;> omega
    obtain ⟨hentry, hop, hhost, hregs, hframe⟩ := s.lawBegun_spec c (c.target - 0x80) (s.addressed (c.target - 0x80)) (1 - law) law
    rw [hword] at hentry
    exact ⟨_, execLawSel_other hs ht hp hm hlaw hl ha hnow hlive hk hb, hentry, hop, hhost, hregs, hframe⟩
end

section
/-! SUPPORT. Words staged for the charger, what the charger shows and tells, and its commands (R317, R325, R327-R331, R335, R336). -/

namespace Sys2Proof.Machine

/-! ### Staged words -/

theorem State.stage_feOnly (s : State) (n p : Nat) (w : Word) : FeOnly s (s.stage n p w) := ⟨_, rfl⟩

theorem State.stage_eng_ne (s : State) {n m : Nat} (p : Nat) (w : Word) (h : m ≠ n) : (s.stage n p w).eng m = s.eng m := s.eng_modEng_ne _ _ h

theorem State.stage_nextWord_same (s : State) (n p : Nat) (w : Word) : ((s.stage n p w).eng n).nextWord p = w := by
  rw [s.stage_eng, Engine.nextWord_staged_same]

/-- A word that is not the staged one stays as it was. -/
theorem State.stage_nextWord_ne (s : State) {n p m q : Nat} (w : Word) (h : q ≠ p) : ((s.stage n p w).eng m).nextWord q = (s.eng m).nextWord q := by
  by_cases hm : m = n
  · rw [hm, s.stage_eng, Engine.nextWord_staged_ne _ _ _ h]
  · rw [s.stage_eng_ne p w hm]

/-- What the Wardens have written stands while their Turnstiles and the word itself do. -/
theorem State.wardenWord_of_word {s t : State} {n p : Nat} (hp : t.pair.turnstile = s.pair.turnstile)
    (hw : (t.eng n).nextWord p = (s.eng n).nextWord p) : t.wardenWord n p = s.wardenWord n p := by
  rw [State.wardenWord, State.wardenWord, hp, hw]

/-! ### The words of the charger's commands (R317, R328) -/

/-- A word of FE_5 that the phase parameters do not name. -/
theorem State.each_stage_nextWord_ne (l : List Nat) (f : Nat → Nat) (g : Nat → Word) {q : Nat} (h : ∀ k ∈ l, q ≠ f k) (s : State) :
    ((s.each l fun t k => t.stage 5 (f k) (g k)).eng 5).nextWord q = (s.eng 5).nextWord q := by
  induction l generalizing s with
  | nil => rfl
  | cons a l ih =>
    obtain ⟨ha, hl⟩ := List.forall_mem_cons.mp h
    exact (ih hl (s.stage 5 (f a) (g a))).trans (s.stage_nextWord_ne _ ha)

/-- A word of FE_5 that they name, each with a word of its own. -/
theorem State.each_stage_nextWord (l : List Nat) {f : Nat → Nat} (g : Nat → Word) (hf : Function.Injective f) {k : Nat} (h : k ∈ l) (s : State) :
    ((s.each l fun t k => t.stage 5 (f k) (g k)).eng 5).nextWord (f k) = g k := by
  induction l generalizing s with
  | nil => simp at h
  | cons a l ih =>
    by_cases hl : k ∈ l
    · exact ih hl _
    · obtain rfl : k = a := by simpa [hl] using h
      have hrest := State.each_stage_nextWord_ne l f g (q := f k) (fun j hj he => hl (hf he ▸ hj)) (s.stage 5 (f k) (g k))
      exact hrest.trans (s.stage_nextWord_same 5 (f k) (g k))

theorem State.phaseWords_nextWord (s : State) (c : Cmd) (first : Nat) {k : Nat} (h : k < 6) :
    ((s.phaseWords c first).eng 5).nextWord (first + k) = argW c (16 + 4 * k) :=
  State.each_stage_nextWord (f := fun k => first + k) _ (fun k => argW c (16 + 4 * k)) (fun _ _ he => Nat.add_left_cancel he) (List.mem_range.mpr h) s

theorem State.phaseWords_nextWord_ne (s : State) (c : Cmd) {first q : Nat} (h : q < first ∨ first + 6 ≤ q) :
    ((s.phaseWords c first).eng 5).nextWord q = (s.eng 5).nextWord q :=
  State.each_stage_nextWord_ne _ _ (fun k => argW c (16 + 4 * k)) (fun k hk => by have := List.mem_range.mp hk; omega) s

theorem State.phaseWords_feOnly (s : State) (c : Cmd) (first : Nat) : FeOnly s (s.phaseWords c first) :=
  State.each_rel FeOnly.refl FeOnly.trans _ (fun _ _ t => t.stage_feOnly _ _ _) s

theorem State.phaseWords_eng_ne (s : State) (c : Cmd) (first : Nat) {n : Nat} (h : n ≠ 5) : (s.phaseWords c first).eng n = s.eng n :=
  State.each_rel (r := fun s t => t.eng n = s.eng n) (fun _ => rfl) (fun h k => k.trans h) _ (fun _ _ t => t.stage_eng_ne _ _ h) s

theorem State.armWord_feOnly (s : State) (b : Nat) (v new : Bool) : FeOnly s (s.armWord b v new) := s.stage_feOnly _ _ _
theorem State.contact_feOnly (s : State) (lv : Bool) : FeOnly s (s.contact lv) := s.stage_feOnly _ _ _

theorem State.armWord_nextWord_ne (s : State) (b : Nat) (v new : Bool) (m : Nat) {q : Nat} (h : q ≠ 348) :
    ((s.armWord b v new).eng m).nextWord q = (s.eng m).nextWord q := s.stage_nextWord_ne _ h

theorem State.contact_nextWord (s : State) (lv : Bool) :
    ((s.contact lv).eng 5).nextWord (if lv then 350 else 349) = (s.eng 5).nextWord (if lv then 350 else 349) + 1 := s.stage_nextWord_same _ _ _

theorem State.contact_nextWord_ne (s : State) (lv : Bool) (m : Nat) {q : Nat} (h : q ≠ 349 ∧ q ≠ 350) :
    ((s.contact lv).eng m).nextWord q = (s.eng m).nextWord q := s.stage_nextWord_ne _ (by split <;> omega)

/-- The lower half of a word of two halves. -/
theorem bitOf_halves (a q : Nat) {b : Nat} (h : b < 16) : bitOf (w32 (a % 65536 + q % 65536 * 65536)) b = natBit a b := by
  have hmod : (a % 65536 + q % 65536 * 65536) % 2 ^ 16 = a % 2 ^ 16 := by omega
  rw [bitOf_eq_natBit, w32, BitVec.toNat_ofNat, natBit_mod _ _ _ (by omega), ← natBit_mod _ b 16 h, hmod, natBit_mod _ _ _ h]

/-- Its upper half. -/
theorem div_halves (a q : Nat) : (w32 (a % 65536 + q % 65536 * 65536)).toNat / 65536 = q % 65536 := by
  rw [w32, BitVec.toNat_ofNat]
  omega

/-- The arm bit as it was written. -/
theorem State.armWord_bit (s : State) {b : Nat} (v new : Bool) (h : b < 16) : bitOf (((s.armWord b v new).eng 5).nextWord 348) b = v := by
  rw [State.armWord, s.stage_nextWord_same]
  cases new
  · exact bitOf_w32_natSetBit _ _ (by omega)
  · exact (bitOf_halves _ _ h).trans (natBit_natSetBit _ _ _)

/-- A new ARM_SEQ. -/
theorem State.armWord_seq (s : State) (v : Bool) : (((s.armWord 0 v true).eng 5).nextWord 348).toNat / 65536 =
    (((s.eng 5).nextWord 348).toNat / 65536 + 1) % 65536 := by
  have hupper : natSetBit ((s.eng 5).nextWord 348).toNat 0 v / 65536 = ((s.eng 5).nextWord 348).toNat / 65536 := by
    rw [natSetBit_eq]
    cases v <;> simp [bit] <;> omega
  rw [State.armWord, s.stage_nextWord_same]
  rw [if_pos rfl, div_halves, hupper]

/-! ### What the charger shows and tells (R336) -/

/-- From `s` to `t` only registers, records and events have come. -/
def Informed (s t : State) : Prop := ∃ regs led events free, t = { s with regs := regs, led := led, host.events := events, free := free }

theorem Informed.refl (s : State) : Informed s s := ⟨s.regs, s.led, s.host.events, s.free, rfl⟩

theorem Informed.trans {s t u : State} (h : Informed s t) (k : Informed t u) : Informed s u := by
  obtain ⟨_, _, _, _, rfl⟩ := h
  obtain ⟨regs, led, events, free, rfl⟩ := k
  exact ⟨regs, led, events, free, rfl⟩

theorem RegsOnly.informed {s t : State} (h : RegsOnly s t) : Informed s t := by
  obtain ⟨regs, rfl⟩ := h
  exact ⟨regs, s.led, s.host.events, s.free, rfl⟩

theorem State.raise_informed (s : State) (code sev unit : Nat) (c0 c1 : Option Word) : Informed s (s.raise code sev unit c0 c1) :=
  ⟨_, _, s.host.events, _, rfl⟩

theorem State.event_informed (s : State) (code source : Nat) (c0 c1 c2 c3 : Option Word) : Informed s (s.event code source c0 c1 c2 c3) :=
  ⟨s.regs, s.led, _, _, rfl⟩

theorem State.chgShow_regsOnly (s : State) : RegsOnly s s.chgShow :=
  (((((((s.put_regsOnly _ _).trans (State.put_regsOnly _ _ _)).trans (State.putB_regsOnly _ _ _)).trans (State.putB_regsOnly _ _ _)).trans
    (State.putB_regsOnly _ _ _)).trans (State.putB_regsOnly _ _ _)).trans (State.put_regsOnly _ _ _)).trans (State.put_regsOnly _ _ _)

theorem State.chgFlush_informed (s : State) : Informed { s with chg.out := [] } s.chgFlush :=
  State.each_rel Informed.refl Informed.trans _ (fun o _ t => by
    by_cases ho : o.1
    · rw [if_pos ho]; exact t.raise_informed _ _ _ _ _
    · rw [if_neg ho]; exact t.event_informed _ _ _ _ _ _) _

/-- What a row of the charger leaves alone at its end. -/
structure ChgShown (s t : State) : Prop where
  chg : t.chg = { s.chg with out := [] }
  fe : t.fe = s.fe
  pair : t.pair = s.pair
  results : t.host.results = s.host.results
  atime : t.atime = s.atime

theorem State.chgDone_shown (s : State) : ChgShown s s.chgDone := by
  obtain ⟨r1, h1⟩ := s.chgShow_regsOnly
  obtain ⟨r2, led, events, free, h2⟩ := s.chgShow.chgFlush_informed
  obtain ⟨e, h3⟩ := s.chgShow.chgFlush.refreshUnit_edgeOnly unitCharger (by decide)
  rw [State.chgDone, h3, h2, h1]
  exact ⟨rfl, rfl, rfl, rfl, rfl⟩

/-! ### Phases -/

section
variable (c : ChgState) (lv : Bool) (p cause : Nat)

theorem ChgState.target_setTarget_same (x : Charge) : (c.setTarget lv x).target lv = x := by cases lv <;> rfl
theorem ChgState.target_setTarget_other (x : Charge) : (c.setTarget lv x).target (!lv) = c.target (!lv) := by cases lv <;> rfl

theorem ChgState.toPhase_phase : ((c.toPhase lv p cause).target lv).phase = p := by
  unfold ChgState.toPhase
  dsimp only
  split
  · next h => exact h
  · cases lv <;> rfl

theorem ChgState.toPhase_armed : ((c.toPhase lv p cause).target lv).armed = (c.target lv).armed := by
  unfold ChgState.toPhase
  dsimp only
  split
  · rfl
  · cases lv <;> rfl

/-- A phase newly entered, or entered from no rest, rests not. -/
theorem ChgState.toPhase_rest (h : (c.target lv).rest = false) : ((c.toPhase lv p cause).target lv).rest = false := by
  unfold ChgState.toPhase
  dsimp only
  split
  · exact h
  · cases lv <;> rfl

theorem ChgState.toPhase_other : (c.toPhase lv p cause).target (!lv) = c.target (!lv) := by
  unfold ChgState.toPhase
  dsimp only
  split
  · rfl
  · cases lv <;> rfl

end

end Sys2Proof.Machine
end

section
/-! SUPPORT. The charger's commands (R327, R330, R331, R333, R335). -/

namespace Sys2Proof.Machine

/-! ### Another TARGET, status and setpoints -/

section
variable {s : State} {c : Cmd}

theorem chgCommands_refused (h : c.target ≠ 0x0E) :
    (s.startable c 0x3000 = true → execChgArm c s = .next (s.finish c .badParam)) ∧
    (s.startable c 0x3001 = true → execChgDisarm c s = .next (s.finish c .badParam)) ∧
    (s.startable c 0x3002 = true → execChgLimit c s = .next (s.finish c .badParam)) ∧
    (s.startable c 0x3003 = true → execChgStatus c s = .next (s.finish c .badParam)) ∧
    (s.startable c 0x3004 = true → execChgRestart c s = .next (s.finish c .badParam)) ∧
    (s.startable c 0x3005 = true → execSupSet c s = .next (s.finish c .badParam)) := by
  have ht : s.targets c chgTargets = false := State.targets_other h
  refine ⟨fun hs => ?_, fun hs => ?_, fun hs => ?_, fun hs => ?_, fun hs => ?_, fun hs => ?_⟩
  all_goals exact (State.command_startable _ hs).trans (if_pos (by rw [ht]; rfl))

theorem lvChgCommands_refused (h : c.target ≠ 0x0D) :
    (s.startable c 0x2010 = true → execLvChgArm c s = .next (s.finish c .badParam)) ∧
    (s.startable c 0x2011 = true → execLvChgDisarm c s = .next (s.finish c .badParam)) ∧
    (s.startable c 0x2012 = true → execLvChgLimit c s = .next (s.finish c .badParam)) := by
  have ht : s.targets c convTargets = false := State.targets_other h
  refine ⟨fun hs => ?_, fun hs => ?_, fun hs => ?_⟩
  all_goals exact (State.command_startable _ hs).trans (if_pos (by rw [ht]; rfl))

theorem State.targets_chg (h : c.target = 0x0E) : s.targets c chgTargets = true := State.targets_self h (by decide)
theorem State.targets_conv (h : c.target = 0x0D) : s.targets c convTargets = true := State.targets_self h (by decide)

theorem execChgStatus_eq (ht : c.target = 0x0E) (hs : s.startable c 0x3003 = true) (hm : s.modeOk 0x3003 true = true) :
    execChgStatus c s = .next (s.finish c .ok (pair64 (s.rd R.CHG_STATUS).toNat (s.rd R.CHG_PILOT).toNat)) := by
  simp [execChgStatus, State.command_startable _ hs, State.targets_chg ht, hm]

theorem execChgLimit_ok (ht : c.target = 0x0E) (hs : s.startable c 0x3002 = true) (hl : 8 ≤ c.payload.length)
    (ha : fLe (fZero false) (argW c 16) = true) (hb : fLe (argW c 16) (fOfNat 80) = true) (hd : fLe (fZero false) (argW c 20) = true)
    (he : fLe (argW c 20) fOne = true) : execChgLimit c s = .next (s.queueSetpoint c 5 0x3002 0 false [(351, argW c 16), (352, argW c 20)]) := by
  simp [execChgLimit, State.command_startable _ hs, State.targets_chg ht, short_of_le hl, ha, hb, hd, he]

theorem execSupSet_ok (ht : c.target = 0x0E) (hs : s.startable c 0x3005 = true) (hl : 4 ≤ c.payload.length) (ha : fLe fOne (argW c 16) = true)
    (hb : fLe (argW c 16) (fOfNat 32) = true) : execSupSet c s = .next (s.queueSetpoint c 5 0x3005 0 false [(360, argW c 16)]) := by
  simp [execSupSet, State.command_startable _ hs, State.targets_chg ht, short_of_le hl, ha, hb]

theorem execLvChgLimit_ok (ht : c.target = 0x0D) (hs : s.startable c 0x2012 = true) (hl : 4 ≤ c.payload.length) (ha : fLe fOne (argW c 16) = true)
    (hb : fLe (argW c 16) (fOfNat 200) = true) : execLvChgLimit c s = .next (s.queueSetpoint c 5 0x2012 0 false [(342, argW c 16)]) := by
  simp [execLvChgLimit, State.command_startable _ hs, State.targets_conv ht, short_of_le hl, ha, hb]

end

/-! ### Arming -/

/-- The phase words from `first`, arm bit `b` with a new ARM_SEQ, and the contact. -/
def State.armGroup (s : State) (c : Cmd) (first b : Nat) (lv : Bool) : State := ((s.phaseWords c first).armWord b true true).contact lv

section
variable (s : State) (c : Cmd) {first b : Nat} (lv : Bool)

theorem State.armGroup_feOnly : FeOnly s (s.armGroup c first b lv) :=
  ((s.phaseWords_feOnly c first).trans (State.armWord_feOnly _ b true true)).trans (State.contact_feOnly _ lv)

theorem State.armGroup_eng_ne {n : Nat} (h : n ≠ 5) : (s.armGroup c first b lv).eng n = s.eng n :=
  ((State.stage_eng_ne _ _ _ h).trans (State.stage_eng_ne _ _ _ h)).trans (s.phaseWords_eng_ne c first h)

theorem State.armGroup_phase (hf : first + 6 ≤ 348) {k : Nat} (h : k < 6) :
    ((s.armGroup c first b lv).eng 5).nextWord (first + k) = argW c (16 + 4 * k) := by
  rw [State.armGroup, State.contact_nextWord_ne _ _ _ (by omega), State.armWord_nextWord_ne _ _ _ _ _ (by omega), s.phaseWords_nextWord c first h]

theorem State.armGroup_bit (hb : b < 16) : bitOf (((s.armGroup c first b lv).eng 5).nextWord 348) b = true := by
  rw [State.armGroup, State.contact_nextWord_ne _ _ _ (by decide), State.armWord_bit _ _ _ hb]

theorem State.armGroup_seq (hf : first + 6 ≤ 348) : (((s.armGroup c first 0 lv).eng 5).nextWord 348).toNat / 65536 =
    (((s.eng 5).nextWord 348).toNat / 65536 + 1) % 65536 := by
  rw [State.armGroup, State.contact_nextWord_ne _ _ _ (by decide), State.armWord_seq, s.phaseWords_nextWord_ne c (.inr hf)]

theorem State.armGroup_contact (hf : first + 6 ≤ 348) :
    ((s.armGroup c first b lv).eng 5).nextWord (if lv then 350 else 349) = (s.eng 5).nextWord (if lv then 350 else 349) + 1 := by
  have hw : (if lv then 350 else 349) ≠ 348 := by split <;> decide
  rw [State.armGroup, State.contact_nextWord, State.armWord_nextWord_ne _ _ _ _ _ hw, s.phaseWords_nextWord_ne c (.inr (by split <;> omega))]

end

section
variable {s : State} {c : Cmd}

section
variable (ht : c.target = 0x0E) (hs : s.startable c 0x3000 = true) (hm : s.modeOk 0x3000 false = true)
include ht hs hm

theorem execChgArm_disordered (ho : phaseWordsOk c = false) : execChgArm c s = .next (s.finish c .badParam) := by
  simp [execChgArm, State.command_startable _ hs, State.targets_chg ht, hm, ho, refuse]

/-- CHG_ARM of parameters in order and within the limits: the timer decides. -/
theorem execChgArm_ordered (hl : 24 ≤ c.payload.length) (ho : phaseWordsOk c = true) (h1 : fLe fOne (argW c 16) = true)
    (hi : fLe (argW c 16) ((s.eng 5).nextWord 448) = true) (hv : fLe (argW c 20) s.vbattMax = true) (hx : s.get R.CHG_OVP_VMAX ≠ 0) :
    execChgArm c s = (if s.flag R.CHG_STATUS_TIMER_HV then refuse s c .safetyBlocked
      else .next ((s.armGroup c 336 0 false).finish c .ok s.chg.hv.phase)) := by
  have hgood : (short c 24 || !phaseWordsOk c || !fLe fOne (argW c 16) || !fLe (argW c 16) ((s.eng 5).nextWord 448) ||
      !fLe (argW c 20) s.vbattMax || decide (s.get R.CHG_OVP_VMAX = 0)) = false := by
    simp [short_of_le hl, ho, h1, hi, hv, hx]
  have htg := State.targets_chg (s := s) ht
  rw [execChgArm, State.command_startable _ hs, htg, hm, hgood]
  rfl

end

theorem chgArm_done (h : execChgArm c s = .next ((s.armGroup c 336 0 false).finish c .ok s.chg.hv.phase)) : ∃ t, execChgArm c s = .next t ∧
    (∀ k, k < 6 → (t.eng 5).nextWord (336 + k) = argW c (16 + 4 * k)) ∧ bitOf ((t.eng 5).nextWord 348) 0 = true ∧
    ((t.eng 5).nextWord 348).toNat / 65536 = (((s.eng 5).nextWord 348).toNat / 65536 + 1) % 65536 ∧
    (t.eng 5).nextWord 349 = (s.eng 5).nextWord 349 + 1 ∧ Answered s t c .ok s.chg.hv.phase ∧ (∀ n, n ≠ 5 → t.eng n = s.eng n) ∧
    t = { s with fe := t.fe, host := t.host } := by
  obtain ⟨fe, hframe⟩ := s.armGroup_feOnly c (first := 336) (b := 0) false
  have hphase (k : Nat) (hk : k < 6) := s.armGroup_phase c (first := 336) (b := 0) false (by decide) hk
  have hbit := s.armGroup_bit c (first := 336) (b := 0) false (by decide)
  have hseq := s.armGroup_seq c (first := 336) false (by decide)
  have hcontact : ((s.armGroup c 336 0 false).eng 5).nextWord 349 = (s.eng 5).nextWord 349 + 1 := s.armGroup_contact c false (by decide)
  have hother (n : Nat) (hn : n ≠ 5) := s.armGroup_eng_ne c (first := 336) (b := 0) false hn
  generalize s.armGroup c 336 0 false = u at *
  subst hframe
  exact ⟨_, h, hphase, hbit, hseq, hcontact, State.finish_answered c .ok _ false rfl rfl, hother, rfl⟩

theorem execLvChgArm_ordered (ht : c.target = 0x0D) (hs : s.startable c 0x2010 = true) (hm : s.lvMode = true) (hl : 24 ≤ c.payload.length)
    (ho : phaseWordsOk c = true) (h1 : fLe fOne (argW c 16) = true) (hi : fLe (argW c 16) (fOfNat 200) = true)
    (hv : s.convVset (argW c 20) = true) (hx : s.flag R.CHG_STATUS_TIMER_LV = false) : execLvChgArm c s =
      (let t := s.armGroup c 342 1 true
      let u := if t.chg.lv.phase = 6 then State.chgDone { t with chg := t.chg.toPhase true 0 0 } else t
      .next (u.finish c .ok u.chg.lv.phase)) := by
  simp only [execLvChgArm, State.command_startable _ hs, State.targets_conv ht, hm, short_of_le hl, ho, h1, hi, hv, hx]
  rfl

/-- The end of LV_CHG_ARM: HELD is left, the words stand. -/
def State.lvLeft (t : State) : State := if t.chg.lv.phase = 6 then State.chgDone { t with chg := t.chg.toPhase true 0 0 } else t

/-- What it leaves. -/
structure LvLeft (s t : State) : Prop where
  fe : t.fe = s.fe
  phase : t.chg.lv.phase = if s.chg.lv.phase = 6 then 0 else s.chg.lv.phase
  hv : t.chg.hv = s.chg.hv
  results : t.host.results = s.host.results
  atime : t.atime = s.atime

theorem State.lvLeft_spec (s : State) : LvLeft s s.lvLeft := by
  unfold State.lvLeft
  split
  · next h =>
    have hd := State.chgDone_shown { s with chg := s.chg.toPhase true 0 0 }
    refine ⟨hd.fe, ?_, ?_, hd.results, hd.atime⟩
    · rw [hd.chg, if_pos h]
      exact s.chg.toPhase_phase true 0 0
    · rw [hd.chg]
      exact s.chg.toPhase_other true 0 0
  · next h => exact ⟨rfl, (if_neg h).symm, rfl, rfl, rfl⟩

theorem lvChgArm_done (ht : c.target = 0x0D) (hs : s.startable c 0x2010 = true) (hm : s.lvMode = true) (hl : 24 ≤ c.payload.length)
    (ho : phaseWordsOk c = true) (h1 : fLe fOne (argW c 16) = true) (hi : fLe (argW c 16) (fOfNat 200) = true)
    (hv : s.convVset (argW c 20) = true) (hx : s.flag R.CHG_STATUS_TIMER_LV = false) : ∃ t,
      execLvChgArm c s = .next t ∧ (∀ k, k < 6 → (t.eng 5).nextWord (342 + k) = argW c (16 + 4 * k)) ∧
      bitOf ((t.eng 5).nextWord 348) 1 = true ∧ (t.eng 5).nextWord 350 = (s.eng 5).nextWord 350 + 1 ∧
      t.chg.lv.phase = (if s.chg.lv.phase = 6 then 0 else s.chg.lv.phase) ∧ Answered s t c .ok t.chg.lv.phase ∧ t.chg.hv = s.chg.hv := by
  obtain ⟨fe, hframe⟩ := s.armGroup_feOnly c (first := 342) (b := 1) true
  have hleft := (s.armGroup c 342 1 true).lvLeft_spec
  have hexec : execLvChgArm c s = .next ((s.armGroup c 342 1 true).lvLeft.finish c .ok (s.armGroup c 342 1 true).lvLeft.chg.lv.phase) :=
    execLvChgArm_ordered ht hs hm hl ho h1 hi hv hx
  have heng : (s.armGroup c 342 1 true).lvLeft.eng 5 = (s.armGroup c 342 1 true).eng 5 := State.eng_of_fe hleft.fe 5
  have hphase (k : Nat) (hk : k < 6) := s.armGroup_phase c (first := 342) (b := 1) true (by decide) hk
  have hbit := s.armGroup_bit c (first := 342) (b := 1) true (by decide)
  have hcontact : ((s.armGroup c 342 1 true).eng 5).nextWord 350 = (s.eng 5).nextWord 350 + 1 := s.armGroup_contact c true (by decide)
  rw [← heng] at hphase hbit hcontact
  generalize (s.armGroup c 342 1 true).lvLeft = u at *
  generalize s.armGroup c 342 1 true = v at *
  subst hframe
  exact ⟨_, hexec, hphase, hbit, hcontact, hleft.phase, State.finish_answered c .ok _ false hleft.results hleft.atime, hleft.hv⟩

end

/-! ### Disarming and restarting -/

theorem ChgState.ramp_hv (x : ChgState) (kind : Nat) : (x.ramp kind).hv = x.hv := by
  unfold ChgState.ramp
  split <;> rfl

theorem ChgState.ramp_lv (x : ChgState) (kind : Nat) : (x.ramp kind).lv = x.lv := by
  unfold ChgState.ramp
  split <;> rfl

/-- The high-voltage target disarmed, a rest abandoned, with the ramp of R325. -/
def ChgState.disarmedHv (x : ChgState) : ChgState :=
  let y := x.ramp 3
  { y with hv := { y.hv with armed := false, rest := false, cut := false } }

/-- The charger after CHG_DISARM: HELD stays, every other phase is left for IDLE. -/
def ChgState.disarmed (x : ChgState) : ChgState := if x.disarmedHv.hv.phase = 6 then x.disarmedHv else x.disarmedHv.toPhase false 0 2

theorem ChgState.disarmedHv_phase (x : ChgState) : x.disarmedHv.hv.phase = x.hv.phase := by
  rw [← x.ramp_hv 3]
  rfl

theorem ChgState.disarmed_armed (x : ChgState) : x.disarmed.hv.armed = false := by
  unfold ChgState.disarmed
  split
  · rfl
  · exact x.disarmedHv.toPhase_armed false 0 2

theorem ChgState.disarmed_rest (x : ChgState) : x.disarmed.hv.rest = false := by
  unfold ChgState.disarmed
  split
  · rfl
  · exact x.disarmedHv.toPhase_rest false 0 2 rfl

theorem ChgState.disarmed_phase (x : ChgState) : x.disarmed.hv.phase = if x.hv.phase = 6 then 6 else 0 := by
  unfold ChgState.disarmed
  rw [x.disarmedHv_phase]
  split
  · next h => exact x.disarmedHv_phase.trans h
  · exact x.disarmedHv.toPhase_phase false 0 2

theorem ChgState.disarmed_lv (x : ChgState) : x.disarmed.lv = x.lv := by
  have hlv : x.disarmedHv.lv = x.lv := x.ramp_lv 3
  unfold ChgState.disarmed
  split
  · exact hlv
  · exact (x.disarmedHv.toPhase_other false 0 2).trans hlv

/-- The charger after CHG_RESTART. -/
def ChgState.restarted (x : ChgState) : ChgState :=
  let y := x.toPhase false 0 0
  { y with hv := { y.hv with armed := false, cut := false }, padsLow := false }

/-- The charger's own state written. -/
def State.withChg (s : State) (x : ChgState) : State := { s with chg := x }

/-- An arm bit taken back, with a contact. -/
def State.unarmed (s : State) (lv : Bool) : State := (s.armWord 0 false false).contact lv

theorem State.unarmed_feOnly (s : State) (lv : Bool) : FeOnly s (s.unarmed lv) := (s.armWord_feOnly 0 false false).trans (State.contact_feOnly _ lv)

theorem State.unarmed_bit (s : State) (lv : Bool) : bitOf (((s.unarmed lv).eng 5).nextWord 348) 0 = false := by
  rw [State.unarmed, State.contact_nextWord_ne _ _ _ (by decide), State.armWord_bit _ _ _ (by decide)]

/-- HOLD of the charger stands as the Wardens wrote it. -/
theorem State.unarmed_hold (s : State) (lv : Bool) : (s.unarmed lv).wardenWord 5 450 = s.wardenWord 5 450 := by
  refine State.wardenWord_of_word rfl ?_
  rw [State.unarmed, State.contact_nextWord_ne _ _ _ (by decide), State.armWord_nextWord_ne _ _ _ _ _ (by decide)]

theorem State.chgHold_pairOnly (s : State) (b : Nat) (v : Bool) : PairOnly s (s.chgHold b v) := s.wardenStage_pairOnly _ _ _

theorem State.chgHold_bit {s : State} {b : Nat} (v : Bool) (hl : s.pairsLost = false) (hb : b < 32) :
    bitOf ((s.chgHold b v).wardenWord 5 450) b = v := by
  rw [State.chgHold, s.wardenWord_wardenStage_same _ _ _ hl, bitOf_w32_natSetBit _ _ hb]

section
variable {s : State} {c : Cmd}

theorem execChgDisarm_eq (ht : c.target = 0x0E) (hs : s.startable c 0x3001 = true) (hm : s.modeOk 0x3001 false = true) :
    execChgDisarm c s = .next (((s.unarmed false).withChg (s.unarmed false).chg.disarmed).chgDone.finish c .ok) := by
  rw [execChgDisarm, State.command_startable _ hs, State.targets_chg (s := s) ht, hm]
  rfl

theorem chgDisarm_done (ht : c.target = 0x0E) (hs : s.startable c 0x3001 = true) (hm : s.modeOk 0x3001 false = true) : ∃ t,
    execChgDisarm c s = .next t ∧ bitOf ((t.eng 5).nextWord 348) 0 = false ∧ t.chg.hv.armed = false ∧ t.chg.hv.rest = false ∧
      t.chg.hv.phase = (if s.chg.hv.phase = 6 then 6 else 0) ∧ Answered s t c .ok ∧ t.chg.lv = s.chg.lv := by
  have hexec := execChgDisarm_eq ht hs hm
  have hbit := s.unarmed_bit false
  obtain ⟨fe, hframe⟩ := s.unarmed_feOnly false
  generalize s.unarmed false = u at *
  subst hframe
  obtain ⟨hchg, hfe, -, hres, hat⟩ := State.chgDone_shown (State.withChg { s with fe := fe } s.chg.disarmed)
  have heng := State.eng_of_fe hfe 5
  generalize State.chgDone (State.withChg { s with fe := fe } s.chg.disarmed) = v at *
  refine ⟨_, hexec, ?_, ?_, ?_, ?_, State.finish_answered c .ok 0 false hres hat, ?_⟩
  · exact (congrArg (fun e => bitOf (Engine.nextWord e 348) 0) heng).trans hbit
  · exact (congrArg (fun x => x.hv.armed) hchg).trans s.chg.disarmed_armed
  · exact (congrArg (fun x => x.hv.rest) hchg).trans s.chg.disarmed_rest
  · exact (congrArg (fun x => x.hv.phase) hchg).trans s.chg.disarmed_phase
  · exact (congrArg ChgState.lv hchg).trans s.chg.disarmed_lv

section
variable (ht : c.target = 0x0E) (hs : s.startable c 0x3004 = true) (hm : s.modeOk 0x3004 false = true)
include ht hs hm

theorem execChgRestart_other (hp : s.chg.hv.phase ≠ 6) : execChgRestart c s = .next (s.finish c .badParam) := by
  simp [execChgRestart, State.command_startable _ hs, State.targets_chg ht, hm, hp, refuse]

theorem execChgRestart_held (hp : s.chg.hv.phase = 6) (hv : fLe s.vbattMax (s.linkVolts (s.get R.SAFE_DCL_STATUS_VALUE)) = false) :
    execChgRestart c s = .next ((((s.chgHold 1 false).unarmed false).withChg ((s.chgHold 1 false).unarmed false).chg.restarted).chgDone.finish c .ok) := by
  have htg := State.targets_chg (s := s) ht
  simp only [execChgRestart, State.command_startable _ hs, htg, hm, hv, not_not.mpr hp, Bool.not_true, Bool.false_eq_true, if_false]
  rfl

theorem chgRestart_done (hl : s.pairsLost = false) (hp : s.chg.hv.phase = 6)
    (hv : fLe s.vbattMax (s.linkVolts (s.get R.SAFE_DCL_STATUS_VALUE)) = false) : ∃ t, execChgRestart c s = .next t ∧ t.chg.hv.phase = 0 ∧
      t.chg.hv.armed = false ∧ t.chg.padsLow = false ∧ bitOf (t.wardenWord 5 450) 1 = false ∧ bitOf ((t.eng 5).nextWord 348) 0 = false ∧
      Answered s t c .ok := by
  have hexec := execChgRestart_held ht hs hm hp hv
  have hbit := (s.chgHold 1 false).unarmed_bit false
  have hhold := State.chgHold_bit (b := 1) false hl (by decide)
  rw [← (s.chgHold 1 false).unarmed_hold false] at hhold
  obtain ⟨p, hpair⟩ := s.chgHold_pairOnly 1 false
  obtain ⟨fe, hframe⟩ := (s.chgHold 1 false).unarmed_feOnly false
  generalize (s.chgHold 1 false).unarmed false = u at *
  subst hframe
  generalize s.chgHold 1 false = h at *
  subst hpair
  obtain ⟨hchg, hfe, hpr, hres, hat⟩ := State.chgDone_shown (State.withChg { s with pair := p, fe := fe } s.chg.restarted)
  have heng := State.eng_of_fe hfe 5
  have hword := State.wardenWord_congr (congrArg PairState.turnstile hpr) hfe 5 450
  generalize State.chgDone (State.withChg { s with pair := p, fe := fe } s.chg.restarted) = v at *
  refine ⟨_, hexec, ?_, ?_, ?_, ?_, ?_, State.finish_answered c .ok 0 false hres hat⟩
  · exact (congrArg (fun x => x.hv.phase) hchg).trans (s.chg.toPhase_phase false 0 0)
  · exact congrArg (fun x => x.hv.armed) hchg
  · exact congrArg ChgState.padsLow hchg
  · exact (congrArg (bitOf · 1) hword).trans hhold
  · exact (congrArg (fun e => bitOf (Engine.nextWord e 348) 0) heng).trans hbit

end

/-! ### The end of a low-voltage charge (R327) -/

/-- The low-voltage target disarmed. -/
def ChgState.lvDisarmed (x : ChgState) : ChgState := x.setTarget true { x.lv with armed := false, rest := false }

/-- What the end of a low-voltage charge leaves: its arm bit taken back, and the target disarmed. -/
theorem State.lvEnd_frame (s : State) : ∃ fe, s.lvEnd = { s with fe := fe, chg := s.chg.lvDisarmed } := by
  unfold State.lvEnd
  dsimp only
  split
  · split
    · exact ⟨_, rfl⟩
    · exact ⟨_, rfl⟩
  · exact ⟨_, rfl⟩

theorem State.lvEnd_bit (s : State) : bitOf ((s.lvEnd.eng 5).nextWord 348) 1 = false := by
  have hbit := s.armWord_bit (b := 1) false false (by decide)
  unfold State.lvEnd
  dsimp only
  split
  · split
    · rw [State.stage_eng_ne _ _ _ (by decide)]
      exact hbit
    · exact hbit
  · exact hbit

/-- The charger after the low-voltage charge has stopped: HELD stays, every other phase is left for IDLE. -/
structure LvStopped (s t : State) : Prop where
  bit : bitOf ((t.eng 5).nextWord 348) 1 = false
  armed : t.chg.lv.armed = false
  phase : t.chg.lv.phase = if s.chg.lv.phase = 6 then 6 else 0
  hv : t.chg.hv = s.chg.hv
  results : t.host.results = s.host.results
  atime : t.atime = s.atime

theorem State.lvStop_spec (s : State) (cause : Nat) : LvStopped s (s.lvStop cause) := by
  obtain ⟨fe, hframe⟩ := s.lvEnd_frame
  have hbit := s.lvEnd_bit
  unfold State.lvStop
  generalize s.lvEnd = u at *
  subst hframe
  split
  · next h => exact ⟨hbit, rfl, h.trans (if_pos h).symm, rfl, rfl, rfl⟩
  · next h =>
    obtain ⟨hchg, hfe, -, hres, hat⟩ := State.chgDone_shown (State.withChg { s with fe := fe } (s.chg.lvDisarmed.toPhase true 0 cause))
    have heng := State.eng_of_fe hfe 5
    refine ⟨?_, ?_, ?_, ?_, hres, hat⟩
    · exact (congrArg (fun e => bitOf (Engine.nextWord e 348) 1) heng).trans hbit
    · exact (congrArg (fun x => x.lv.armed) hchg).trans (s.chg.lvDisarmed.toPhase_armed true 0 cause)
    · rw [if_neg h]
      exact (congrArg (fun x => x.lv.phase) hchg).trans (s.chg.lvDisarmed.toPhase_phase true 0 cause)
    · exact (congrArg ChgState.hv hchg).trans (s.chg.lvDisarmed.toPhase_other true 0 cause)

theorem execLvChgDisarm_eq (ht : c.target = 0x0D) (hs : s.startable c 0x2011 = true) (hm : s.modeOk 0x2011 false = true) :
    execLvChgDisarm c s = .next (((s.contact true).lvStop 2).finish c .ok) := by
  simp [execLvChgDisarm, State.command_startable _ hs, State.targets_conv ht, hm]

theorem lvChgDisarm_done (ht : c.target = 0x0D) (hs : s.startable c 0x2011 = true) (hm : s.modeOk 0x2011 false = true) : ∃ t,
    execLvChgDisarm c s = .next t ∧ bitOf ((t.eng 5).nextWord 348) 1 = false ∧ t.chg.lv.armed = false ∧
      t.chg.lv.phase = (if s.chg.lv.phase = 6 then 6 else 0) ∧ Answered s t c .ok ∧ t.chg.hv = s.chg.hv := by
  have hexec := execLvChgDisarm_eq ht hs hm
  obtain ⟨hbit, harmed, hphase, hhv, hres, hat⟩ := (s.contact true).lvStop_spec 2
  generalize (s.contact true).lvStop 2 = v at *
  exact ⟨_, hexec, hbit, harmed, hphase, State.finish_answered c .ok 0 false hres hat, hhv⟩

end

end Sys2Proof.Machine

open Sys2Proof.Machine in
/-- Settles O41: each command by the words it stages for FE_5 and by what the charger's phases become; the rows' end shows and tells only. -/
theorem chargerCommands : Obligations.ChargerCommands := by
  intro s c
  refine ⟨chgCommands_refused, lvChgCommands_refused, fun ht hs hm hl ho h1 hi hv hx => ⟨fun hf => chgArm_done ?_, fun hf => ?_⟩,
    execChgArm_disordered, chgDisarm_done, chgRestart_done, execChgRestart_other, execChgStatus_eq, fun ht hs hl ha hb hd he => ?_,
    fun ht hs hl ha hb => ?_, fun ht hs hl ha hb => ?_, lvChgArm_done, lvChgDisarm_done⟩
  · rw [execChgArm_ordered ht hs hm hl ho h1 hi hv hx, if_neg (by rw [hf]; decide)]
  · exact (execChgArm_ordered ht hs hm hl ho h1 hi hv hx).trans (if_pos hf)
  · exact ⟨_, execChgLimit_ok ht hs hl ha hb hd he, s.queueSetpoint_handed c _ _ _ _ _⟩
  · exact ⟨_, execSupSet_ok ht hs hl ha hb, s.queueSetpoint_handed c _ _ _ _ _⟩
  · exact ⟨_, execLvChgLimit_ok ht hs hl ha hb, s.queueSetpoint_handed c _ _ _ _ _⟩
end

section
/-! SUPPORT. The low-voltage converter while its unit is enabled and unforced (R302-R312). -/

namespace Sys2Proof.Machine

/-! ### What the CONV block changes of its own -/

/-- From `s` to `t` the CONV block has moved: its own state, CONV_STATUS, and the events of it; no line of the Banister. -/
def ConvMoved (s t : State) : Prop :=
  (∃ conv regs events free, t = { s with conv := conv, regs := regs, host.events := events, free := free }) ∧ OnlyRegs s t [R.CONV_STATUS]

theorem ConvMoved.refl (s : State) : ConvMoved s s := ⟨⟨s.conv, s.regs, s.host.events, s.free, rfl⟩, fun _ _ => rfl⟩

theorem ConvMoved.trans {s t u : State} (h : ConvMoved s t) (k : ConvMoved t u) : ConvMoved s u := by
  obtain ⟨⟨_, _, _, _, rfl⟩, hr⟩ := h
  obtain ⟨⟨conv, regs, events, free, rfl⟩, kr⟩ := k
  exact ⟨⟨conv, regs, events, free, rfl⟩, fun a ha => (kr a ha).trans (hr a ha)⟩

theorem ConvMoved.rd {s t : State} (h : ConvMoved s t) {a : Nat} (ha : a ≠ R.CONV_STATUS) : t.rd a = s.rd a := h.2 a (by simpa using ha)
theorem ConvMoved.pair {s t : State} (h : ConvMoved s t) : t.pair = s.pair := by obtain ⟨⟨_, _, _, _, rfl⟩, _⟩ := h; rfl
theorem ConvMoved.edge {s t : State} (h : ConvMoved s t) : t.edge = s.edge := by obtain ⟨⟨_, _, _, _, rfl⟩, _⟩ := h; rfl
theorem ConvMoved.fe {s t : State} (h : ConvMoved s t) : t.fe = s.fe := by obtain ⟨⟨_, _, _, _, rfl⟩, _⟩ := h; rfl
theorem ConvMoved.led {s t : State} (h : ConvMoved s t) : t.led = s.led := by obtain ⟨⟨_, _, _, _, rfl⟩, _⟩ := h; rfl
theorem ConvMoved.atime {s t : State} (h : ConvMoved s t) : t.atime = s.atime := by obtain ⟨⟨_, _, _, _, rfl⟩, _⟩ := h; rfl
theorem ConvMoved.results {s t : State} (h : ConvMoved s t) : t.host.results = s.host.results := by obtain ⟨⟨_, _, _, _, rfl⟩, _⟩ := h; rfl

/-- A field of CONV_STATUS written by the block. -/
theorem State.put_convMoved (s : State) (F : Fld) (v : Nat) (h : F.addr = R.CONV_STATUS) : ConvMoved s (s.put F v) :=
  ⟨⟨s.conv, (s.put F v).regs, s.host.events, s.free, rfl⟩, h ▸ s.put_onlyRegs F v⟩

theorem State.event_convMoved (s : State) (code source : Nat) (c0 c1 c2 c3 : Option Word) : ConvMoved s (s.event code source c0 c1 c2 c3) :=
  ⟨⟨s.conv, s.regs, (s.event code source c0 c1 c2 c3).host.events, s.free + 1, rfl⟩, fun _ _ => rfl⟩

/-- What the block keeps, written. -/
def State.withConv (s : State) (c : ConvState) : State := { s with conv := c }

theorem State.withConv_convMoved (s : State) (c : ConvState) : ConvMoved s (s.withConv c) := ⟨⟨c, s.regs, s.host.events, s.free, rfl⟩, fun _ _ => rfl⟩

/-! ### STATE (R312) -/

theorem State.convState_convMoved (s : State) (v : Nat) : ConvMoved s (s.convState v) := by
  unfold State.convState
  dsimp only
  split
  · exact ConvMoved.refl s
  · exact (s.put_convMoved R.CONV_STATUS_STATE v rfl).trans (State.event_convMoved _ _ _ _ _ _ _)

theorem State.convState_conv (s : State) (v : Nat) : (s.convState v).conv = s.conv := by
  unfold State.convState
  dsimp only
  split
  · rfl
  · rw [State.event_conv, State.put_conv]

theorem State.convState_state (s : State) {v : Nat} (h : v < 16) : (s.convState v).get R.CONV_STATUS_STATE = v := by
  unfold State.convState
  dsimp only
  split
  · next hv => exact hv.symm
  · rw [State.event_get, State.get_put_same _ _ _ (by decide) (by decide)]
    exact Nat.mod_eq_of_lt h

theorem State.convState_get (s : State) (v : Nat) {F : Fld} (h : R.CONV_STATUS_STATE.Apart F) : (s.convState v).get F = s.get F := by
  unfold State.convState
  dsimp only
  split
  · rfl
  · rw [State.event_get, State.get_put_of_apart _ _ _ _ h]

/-! ### The unit enabled and unforced (R12, R307) -/

/-- The converter's unit is enabled, and no force acts on it. -/
structure ConvLive (s : State) : Prop where
  enabled : s.enabled unitConv = true
  unforced : s.forceOn unitConv = none

theorem ConvMoved.refreshed {s t : State} (h : ConvMoved s t) : Refreshed s t := by
  obtain ⟨⟨conv, regs, events, free, rfl⟩, hr⟩ := h
  exact ⟨⟨s.edge, conv, regs, events, free, rfl⟩, hr⟩

theorem ConvMoved.live {s t : State} (h : ConvMoved s t) (hl : ConvLive s) : ConvLive t := by
  have hlines (k u : Nat) : t.lines k u = s.lines k u := by rw [State.lines, h.edge, State.lines]
  constructor
  · rw [State.enabled, h.refreshed.counts, h.refreshed.counts, hlines, hlines]
    exact hl.enabled
  · rw [h.refreshed.forceOn (fun k => by rw [hlines]; exact ⟨rfl, rfl⟩) (by rw [h.edge])]
    exact hl.unforced

/-- A unit is enabled only while a pair is left. -/
theorem ConvLive.pairsLost {s : State} (h : ConvLive s) : s.pairsLost = false := by
  have he := h.enabled
  simp only [State.enabled, State.counts, Bool.and_eq_true, Bool.or_eq_true] at he
  obtain ⟨⟨⟨h0, -⟩ | ⟨h1, -⟩, -⟩, -⟩ := he
  · simp [State.pairsLost, h0]
  · simp [State.pairsLost, h1]

theorem PairOnly.live {s t : State} (h : PairOnly s t) (hf : t.pair.fresh = s.pair.fresh) (hl : ConvLive s) : ConvLive t := by
  obtain ⟨p, rfl⟩ := h
  refine ⟨?_, hl.unforced⟩
  rw [← hl.enabled]
  unfold State.enabled State.counts
  rw [hf]
  rfl

/-- Renewed while it is live, the unit's channels take their pads, and nothing else happens. -/
theorem ConvLive.refreshUnit {s : State} (h : ConvLive s) : PadsOnly s (s.refreshUnit unitConv) := by
  have hfollow : s.convFollow = s := by simp [State.convFollow, h.enabled, h.unforced]
  have hready : s.unitReady unitConv = s := by
    rw [State.unitReady, if_pos rfl, hfollow, State.dropForced_of_none h.unforced]
  have hpads := s.refreshUnit_padsOnly unitConv
  rwa [hready] at hpads

theorem PadsOnly.conv {s t : State} (h : PadsOnly s t) : t.conv = s.conv := by obtain ⟨_, _, _, rfl⟩ := h; rfl
theorem PadsOnly.pair {s t : State} (h : PadsOnly s t) : t.pair = s.pair := by obtain ⟨_, _, _, rfl⟩ := h; rfl
theorem PadsOnly.fe {s t : State} (h : PadsOnly s t) : t.fe = s.fe := by obtain ⟨_, _, _, rfl⟩ := h; rfl
theorem PadsOnly.led {s t : State} (h : PadsOnly s t) : t.led = s.led := by obtain ⟨_, _, _, rfl⟩ := h; rfl
theorem PadsOnly.host {s t : State} (h : PadsOnly s t) : t.host = s.host := by obtain ⟨_, _, _, rfl⟩ := h; rfl
theorem PadsOnly.atime {s t : State} (h : PadsOnly s t) : t.atime = s.atime := by obtain ⟨_, _, _, rfl⟩ := h; rfl
theorem PadsOnly.rd {s t : State} (h : PadsOnly s t) (a : Nat) : t.rd a = s.rd a := by obtain ⟨_, _, _, rfl⟩ := h; rfl
theorem PadsOnly.get {s t : State} (h : PadsOnly s t) (F : Fld) : t.get F = s.get F := State.get_of_rd F (h.rd _)

/-! ### Running on: starts and wakes (R305-R307) -/

/-- From `s` to `t` the live converter's STATE has become `v` and its strobes resume. -/
structure ConvRuns (s t : State) (v : Nat) : Prop where
  state : t.get R.CONV_STATUS_STATE = v
  fields : ∀ F, R.CONV_STATUS_STATE.Apart F → t.get F = s.get F
  withheld : t.conv.withheld = false
  padsLow : t.conv.padsLow = false
  regs : OnlyRegs s t [R.CONV_STATUS]
  pair : t.pair = s.pair
  fe : t.fe = s.fe
  led : t.led = s.led
  results : t.host.results = s.host.results
  atime : t.atime = s.atime

/-- STATE moved to `v`, strobes resumed, and the pads following the schedule. -/
def State.convRunOn (s : State) (v : Nat) : State :=
  (({ s.convState v with conv.withheld := false, conv.padsLow := false } : State)).refreshUnit unitConv

theorem ConvLive.runOn {s : State} (h : ConvLive s) {v : Nat} (hv : v < 16) : ConvRuns s (s.convRunOn v) v := by
  have hstate := s.convState_state hv
  have hfields (F : Fld) (hF : R.CONV_STATUS_STATE.Apart F) := s.convState_get v hF
  have hmoved := s.convState_convMoved v
  unfold State.convRunOn
  generalize s.convState v = u at *
  have hset : ConvMoved u { u with conv.withheld := false, conv.padsLow := false } := u.withConv_convMoved _
  have hpads := ((hmoved.trans hset).live h).refreshUnit
  have hall := hmoved.trans hset
  refine ⟨(hpads.get _).trans hstate, fun F hF => (hpads.get F).trans (hfields F hF), by rw [hpads.conv], by rw [hpads.conv],
    fun a ha => (hpads.rd a).trans (hall.2 a ha), hpads.pair.trans hall.pair, hpads.fe.trans hall.fe, hpads.led.trans hall.led,
    (congrArg HostState.results hpads.host).trans hall.results, hpads.atime.trans hall.atime⟩

theorem State.convWake_asleep {s : State} (h : s.get R.CONV_STATUS_STATE = 3) : s.convWake = s.convRunOn (if s.conv.ssDone then 2 else 1) := if_pos h
theorem State.convWake_awake {s : State} (h : s.get R.CONV_STATUS_STATE ≠ 3) : s.convWake = s := if_neg h

theorem ConvLive.wake {s : State} (h : ConvLive s) (hs : s.get R.CONV_STATUS_STATE = 3) : ConvRuns s s.convWake (if s.conv.ssDone then 2 else 1) := by
  rw [State.convWake_asleep hs]
  exact h.runOn (by split <;> decide)

theorem State.convStart_eq (s : State) : s.convStart = (s.wardenStage 4 450 (s.wardenWord 4 450 + 1)).convRunOn 1 := rfl

theorem State.wardenStage_fresh (s : State) (n p : Nat) (w : Word) : (s.wardenStage n p w).pair.fresh = s.pair.fresh := by
  unfold State.wardenStage
  split <;> rfl

/-- A start of the live converter: SOFT_START, and START_SEQ one higher. -/
theorem ConvLive.start {s : State} (h : ConvLive s) :
    ConvRuns (s.wardenStage 4 450 (s.wardenWord 4 450 + 1)) s.convStart 1 ∧ s.convStart.wardenWord 4 450 = s.wardenWord 4 450 + 1 := by
  have hlive : ConvLive (s.wardenStage 4 450 (s.wardenWord 4 450 + 1)) := (s.wardenStage_pairOnly _ _ _).live (s.wardenStage_fresh _ _ _) h
  have hruns := hlive.runOn (v := 1) (by decide)
  rw [← s.convStart_eq] at hruns
  refine ⟨hruns, ?_⟩
  rw [State.wardenWord_congr (congrArg PairState.turnstile hruns.pair) hruns.fe, s.wardenWord_wardenStage_same _ _ _ h.pairsLost]

end Sys2Proof.Machine
end

section
/-! SUPPORT. The converter's commands and its synchronisation (R302, R303, R305, R306, R309, R311, R327). -/

namespace Sys2Proof.Machine

/-! ### STATE of the sync logic (R303, R312) -/

/-- From `s` to `t` the sync logic has moved: the CONV block's own state, CONV_SYNC_STAT and the events of it. -/
def SyncMoved (s t : State) : Prop :=
  (∃ conv regs events free, t = { s with conv := conv, regs := regs, host.events := events, free := free }) ∧ OnlyRegs s t [R.CONV_SYNC_STAT]

theorem SyncMoved.trans {s t u : State} (h : SyncMoved s t) (k : SyncMoved t u) : SyncMoved s u := by
  obtain ⟨⟨_, _, _, _, rfl⟩, hr⟩ := h
  obtain ⟨⟨conv, regs, events, free, rfl⟩, kr⟩ := k
  exact ⟨⟨conv, regs, events, free, rfl⟩, hr.trans kr⟩

theorem State.withConv_syncMoved (s : State) (c : ConvState) : SyncMoved s (s.withConv c) := ⟨⟨c, s.regs, s.host.events, s.free, rfl⟩, fun _ _ => rfl⟩

theorem State.put_syncMoved (s : State) (F : Fld) (v : Nat) (h : F.addr = R.CONV_SYNC_STAT) : SyncMoved s (s.put F v) :=
  ⟨⟨s.conv, (s.put F v).regs, s.host.events, s.free, rfl⟩, h ▸ s.put_onlyRegs F v⟩

theorem State.event_syncMoved (s : State) (code source : Nat) (c0 c1 c2 c3 : Option Word) : SyncMoved s (s.event code source c0 c1 c2 c3) :=
  ⟨⟨s.conv, s.regs, (s.event code source c0 c1 c2 c3).host.events, s.free + 1, rfl⟩, fun _ _ => rfl⟩

theorem SyncMoved.results {s t : State} (h : SyncMoved s t) : t.host.results = s.host.results := by obtain ⟨⟨_, _, _, _, rfl⟩, _⟩ := h; rfl
theorem SyncMoved.led {s t : State} (h : SyncMoved s t) : t.led = s.led := by obtain ⟨⟨_, _, _, _, rfl⟩, _⟩ := h; rfl
theorem SyncMoved.atime {s t : State} (h : SyncMoved s t) : t.atime = s.atime := by obtain ⟨⟨_, _, _, _, rfl⟩, _⟩ := h; rfl

theorem State.syncState_moved (s : State) (v : Nat) : SyncMoved s (s.syncState v) := by
  unfold State.syncState
  split
  · exact s.withConv_syncMoved s.conv
  · exact (s.put_syncMoved R.CONV_SYNC_STAT_STATE v rfl).trans (State.event_syncMoved _ _ _ _ _ _ _)

theorem State.syncState_state (s : State) {v : Nat} (h : v < 8) : (s.syncState v).get R.CONV_SYNC_STAT_STATE = v := by
  unfold State.syncState
  split
  · next hv => exact hv.symm
  · rw [State.event_get, State.get_put_same _ _ _ (by decide) (by decide)]
    exact Nat.mod_eq_of_lt h

theorem State.syncState_conv (s : State) (v : Nat) : (s.syncState v).conv = s.conv := by
  unfold State.syncState
  split
  · rfl
  · rw [State.event_conv, State.put_conv]

/-- What the block keeps as a glide begins. -/
def ConvState.unsynced (c : ConvState) : ConvState := { c with edges := 0, good := 0 }

theorem State.glide_eq (s : State) : s.glide = (s.withConv s.conv.unsynced).syncState 3 := rfl

theorem State.glide_moved (s : State) : SyncMoved s s.glide := (s.withConv_syncMoved _).trans (State.syncState_moved _ 3)

theorem State.glide_state (s : State) : s.glide.get R.CONV_SYNC_STAT_STATE = 3 := State.syncState_state _ (by decide)

/-! ### CONV_SYNC (R302, R311) -/

/-- FOLLOW and INT_FREQ as they are written. -/
def State.syncSet (s : State) (follow : Bool) (freq : Nat) : State := (s.putB R.CONV_SYNC_CFG_FOLLOW follow).put R.CONV_SYNC_CFG_INT_FREQ freq

theorem State.syncSet_onlyRegs (s : State) (follow : Bool) (freq : Nat) : OnlyRegs s (s.syncSet follow freq) [R.CONV_SYNC_CFG] :=
  OnlyRegs.trans (s.put_onlyRegs R.CONV_SYNC_CFG_FOLLOW (bit follow)) (State.put_onlyRegs _ R.CONV_SYNC_CFG_INT_FREQ freq)

theorem State.syncSet_follow (s : State) (follow : Bool) (freq : Nat) : (s.syncSet follow freq).get R.CONV_SYNC_CFG_FOLLOW = bit follow := by
  rw [State.syncSet, State.get_put_of_apart _ _ _ _ (.inr (by decide)), State.putB, State.get_put_same _ _ _ (by decide) (by decide)]
  cases follow <;> rfl

theorem State.syncSet_freq (s : State) (follow : Bool) {freq : Nat} (h : freq ≤ 500000) : (s.syncSet follow freq).get R.CONV_SYNC_CFG_INT_FREQ = freq := by
  rw [State.syncSet, State.get_put_same _ _ _ (by decide) (by decide)]
  exact Nat.mod_eq_of_lt (Nat.lt_of_le_of_lt h (by decide))

/-- A legal INT_FREQ is written with FOLLOW, and at most a glide begins. -/
theorem State.syncWrite_legal (s : State) (follow : Bool) {freq : Nat} (h1 : 50000 ≤ freq) (h2 : freq ≤ 500000) :
    s.syncWrite follow freq = s.syncSet follow freq ∨ s.syncWrite follow freq = (s.syncSet follow freq).glide := by
  have hok : (decide (50000 ≤ freq) && decide (freq ≤ 500000)) = true := by simp [h1, h2]
  unfold State.syncWrite
  dsimp only
  rw [hok, if_pos rfl]
  split
  · exact .inr rfl
  · exact .inl rfl

/-- What CONV_SYNC leaves. -/
structure SyncWritten (s t : State) (follow : Bool) (freq : Nat) : Prop where
  follow : t.get R.CONV_SYNC_CFG_FOLLOW = bit follow
  freq : t.get R.CONV_SYNC_CFG_INT_FREQ = freq
  regs : OnlyRegs s t [R.CONV_SYNC_CFG, R.CONV_SYNC_STAT]
  results : t.host.results = s.host.results
  atime : t.atime = s.atime

theorem State.syncSet_written (s : State) (follow : Bool) {freq : Nat} (h : freq ≤ 500000) : SyncWritten s (s.syncSet follow freq) follow freq :=
  ⟨s.syncSet_follow follow freq, s.syncSet_freq follow h, (s.syncSet_onlyRegs follow freq).mono (by simp),
    by rw [State.syncSet, State.put_host, State.putB_host], by rw [State.syncSet, State.put_atime, State.putB_atime]⟩

theorem SyncWritten.glide {s t : State} {follow : Bool} {freq : Nat} (h : SyncWritten s t follow freq) : SyncWritten s t.glide follow freq := by
  have hmoved := t.glide_moved
  have hcfg : t.glide.rd R.CONV_SYNC_CFG = t.rd R.CONV_SYNC_CFG := hmoved.2 _ (by decide)
  exact ⟨(State.get_of_rd _ hcfg).trans h.follow, (State.get_of_rd _ hcfg).trans h.freq, h.regs.trans (hmoved.2.mono (by simp)),
    hmoved.results.trans h.results, hmoved.atime.trans h.atime⟩

theorem State.syncWrite_written (s : State) (follow : Bool) {freq : Nat} (h1 : 50000 ≤ freq) (h2 : freq ≤ 500000) :
    SyncWritten s (s.syncWrite follow freq) follow freq := by
  have hset := s.syncSet_written follow h2
  rcases s.syncWrite_legal follow h1 h2 with h | h <;> rw [h]
  · exact hset
  · exact hset.glide

section
variable {s : State} {c : Cmd}

theorem execConvSync_ok (ht : c.target = 0x0D) (hs : s.startable c 0x2004 = true) (hm : s.modeOk 0x2004 false = true) (hl : 8 ≤ c.payload.length)
    (ha : arg c 16 1 ≤ 1) (h1 : 50000 ≤ arg c 20 4) (h2 : arg c 20 4 ≤ 500000) :
    execConvSync c s = .next ((s.syncWrite (arg c 16 1 == 1) (arg c 20 4)).finish c .ok) := by
  have hgood : (short c 8 || decide (1 < arg c 16 1) || decide (arg c 20 4 < 50000) || decide (500000 < arg c 20 4)) = false := by
    simp [short_of_le hl]
    omega
  simp [execConvSync, State.command_startable _ hs, State.targets_conv ht, hm, hgood]

theorem convSync_done (h1 : 50000 ≤ arg c 20 4) (h2 : arg c 20 4 ≤ 500000) (ha : arg c 16 1 ≤ 1)
    (h : execConvSync c s = .next ((s.syncWrite (arg c 16 1 == 1) (arg c 20 4)).finish c .ok)) : ∃ t, execConvSync c s = .next t ∧
    t.get R.CONV_SYNC_CFG_FOLLOW = arg c 16 1 ∧ t.get R.CONV_SYNC_CFG_INT_FREQ = arg c 20 4 ∧ Answered s t c .ok ∧
    OnlyRegs s t [R.CONV_SYNC_CFG, R.CONV_SYNC_STAT] := by
  have hw := s.syncWrite_written (arg c 16 1 == 1) h1 h2
  have hbit : bit (arg c 16 1 == 1) = arg c 16 1 := by
    obtain hz | ho : arg c 16 1 = 0 ∨ arg c 16 1 = 1 := by omega
    · rw [hz]; rfl
    · rw [ho]; rfl
  refine ⟨_, h, ?_, ?_, State.finish_answered c .ok _ false hw.results hw.atime, fun a ha => hw.regs a ha⟩
  · rw [State.finish_get, hw.follow, hbit]
  · rw [State.finish_get, hw.freq]

/-! ### CONV_SET_V (R306, R311, R327) -/

section
variable (ht : c.target = 0x0D) (hs : s.startable c 0x2000 = true)
include ht hs

theorem execConvSetV_busy (ha : s.lvArmed = true) (hm : s.modeOk 0x2000 false = true) : execConvSetV c s = .next (s.finish c .busyRetry) := by
  simp [execConvSetV, State.command_startable _ hs, State.targets_conv ht, ha, hm, refuse]

theorem execConvSetV_ok (ha : s.lvArmed = false) (hl : 4 ≤ c.payload.length) (hv : s.convVset (argW c 16) = true) :
    execConvSetV c s = .next (s.queueSetpoint c 4 0x2000 0 false [(336, argW c 16)]).convWake := by
  simp [execConvSetV, State.command_startable _ hs, State.targets_conv ht, ha, short_of_le hl, hv]

end

theorem State.queueSetpoint_live (h : ConvLive s) (n opcode u : Nat) (bad : Bool) (words : List (Nat × Word)) :
    ConvLive (s.queueSetpoint c n opcode u bad words) := ⟨h.enabled, h.unforced⟩

/-- A live sleeping converter that a setpoint wakes. -/
theorem convSetV_wakes (h : ConvLive s) (hs3 : s.get R.CONV_STATUS_STATE = 3)
    (he : execConvSetV c s = .next (s.queueSetpoint c 4 0x2000 0 false [(336, argW c 16)]).convWake) : ∃ t, execConvSetV c s = .next t ∧
    t.get R.CONV_STATUS_STATE = (if s.conv.ssDone then 2 else 1) ∧ t.conv.withheld = false ∧ t.conv.padsLow = false := by
  have hwake := (State.queueSetpoint_live (c := c) h 4 0x2000 0 false [(336, argW c 16)]).wake hs3
  exact ⟨_, he, hwake.state, hwake.withheld, hwake.padsLow⟩

/-! ### CONV_STATUS and CONV_RESTART (R309, R311) -/

theorem execConvStatus_eq (ht : c.target = 0x0D) (hs : s.startable c 0x2001 = true) (hm : s.modeOk 0x2001 true = true) :
    execConvStatus c s = .next (s.finish c .ok (pair64 (s.rd R.CONV_STATUS).toNat (s.rd R.CONV_SYNC_STAT).toNat)) := by
  simp [execConvStatus, State.command_startable _ hs, State.targets_conv ht, hm]

section
variable (ht : c.target = 0x0D) (hs : s.startable c 0x2002 = true) (hm : s.modeOk 0x2002 false = true)
include ht hs hm

theorem execConvRestart_unlatched (h : s.get R.CONV_STATUS_STATE ≠ 5) : execConvRestart c s = .next (s.finish c .badParam) := by
  simp [execConvRestart, State.command_startable _ hs, State.targets_conv ht, hm, h, refuse]

theorem execConvRestart_ok (h : s.get R.CONV_STATUS_STATE = 5)
    (hv : fLe ((s.eng 4).nextWord 336) ((s.eng 4).sample ((s.eng 4).word 344).toNat).1 = false) :
    execConvRestart c s = .next (((s.put R.CONV_STATUS_RETRIES 0).convStart).finish c .ok) := by
  simp [execConvRestart, State.command_startable _ hs, State.targets_conv ht, hm, h, hv]

end

/-- A start of the live converter after RETRIES is written: what the states before and after have to do with each other. -/
theorem ConvLive.startAfter {s : State} (h : ConvLive s) (v : Nat) :
    (s.put R.CONV_STATUS_RETRIES v).convStart.get R.CONV_STATUS_STATE = 1 ∧
    (s.put R.CONV_STATUS_RETRIES v).convStart.get R.CONV_STATUS_RETRIES = v % 2 ^ (R.CONV_STATUS_RETRIES.hi + 1 - R.CONV_STATUS_RETRIES.lo) ∧
    (s.put R.CONV_STATUS_RETRIES v).convStart.wardenWord 4 450 = s.wardenWord 4 450 + 1 ∧
    (s.put R.CONV_STATUS_RETRIES v).convStart.conv.withheld = false ∧ (s.put R.CONV_STATUS_RETRIES v).convStart.conv.padsLow = false ∧
    OnlyRegs s (s.put R.CONV_STATUS_RETRIES v).convStart [R.CONV_STATUS] ∧ (s.put R.CONV_STATUS_RETRIES v).convStart.led = s.led ∧
    (s.put R.CONV_STATUS_RETRIES v).convStart.host.results = s.host.results ∧ (s.put R.CONV_STATUS_RETRIES v).convStart.atime = s.atime := by
  have hmoved := s.put_convMoved R.CONV_STATUS_RETRIES v rfl
  have hretries := s.get_put_same R.CONV_STATUS_RETRIES v (by decide) (by decide)
  generalize s.put R.CONV_STATUS_RETRIES v = u at *
  obtain ⟨hruns, hword⟩ := (hmoved.live h).start
  have hstage := u.wardenStage_pairOnly 4 450 (u.wardenWord 4 450 + 1)
  have hseq : u.wardenWord 4 450 = s.wardenWord 4 450 := State.wardenWord_congr (congrArg PairState.turnstile hmoved.pair) hmoved.fe 4 450
  generalize u.wardenStage 4 450 (u.wardenWord 4 450 + 1) = w at hruns hstage
  refine ⟨hruns.state, ?_, by rw [hword, hseq], hruns.withheld, hruns.padsLow, ?_, ?_, ?_, ?_⟩
  · rw [hruns.fields _ (.inr (by decide)), State.get_of_rd _ (hstage.rd _), hretries]
  · exact (hmoved.2.trans (hstage.onlyRegs _)).trans hruns.regs
  · rw [hruns.led, ← hmoved.led]
    obtain ⟨_, rfl⟩ := hstage
    rfl
  · rw [hruns.results, hstage.host, hmoved.results]
  · rw [hruns.atime, hstage.atime, hmoved.atime]

theorem convRestart_done (h : ConvLive s) (he : execConvRestart c s = .next (((s.put R.CONV_STATUS_RETRIES 0).convStart).finish c .ok)) :
    ∃ t, execConvRestart c s = .next t ∧ t.get R.CONV_STATUS_RETRIES = 0 ∧ t.get R.CONV_STATUS_STATE = 1 ∧
    t.wardenWord 4 450 = s.wardenWord 4 450 + 1 ∧ t.conv.withheld = false ∧ Answered s t c .ok ∧ OnlyRegs s t [R.CONV_STATUS] := by
  obtain ⟨hstate, hretries, hword, hwithheld, -, hregs, -, hresults, hatime⟩ := h.startAfter 0
  generalize (s.put R.CONV_STATUS_RETRIES 0).convStart = u at *
  rw [Nat.zero_mod] at hretries
  refine ⟨_, he, ?_, ?_, ?_, ?_, State.finish_answered c .ok _ false hresults hatime, fun a ha => ?_⟩
  · rw [State.finish_get, hretries]
  · rw [State.finish_get, hstate]
  · rw [State.wardenWord_congr (by rw [State.finish_pair]) (State.finish_fe ..), hword]
  · rw [State.finish_conv, hwithheld]
  · rw [State.finish_rd, hregs a ha]

/-! ### CONV_LIGHT_LOAD (R305, R311) -/

section
variable (ht : c.target = 0x0D) (hs : s.startable c 0x2003 = true)
include ht hs

theorem execConvLightLoad_elsewhere (hm : s.md ≠ .service) : execConvLightLoad c s = .next (s.finish c .rejectedMode) := by
  simp [execConvLightLoad, State.command_startable _ hs, State.targets_conv ht, hm, refuse]

theorem execConvLightLoad_ok (hm : s.md = .service) (hl : 1 ≤ c.payload.length) (ha : arg c 16 1 = 1) :
    execConvLightLoad c s = .next (((s.put R.CONV_CFG_BURST_SERV 1).burstRefresh).finish c .ok) := by
  simp [execConvLightLoad, State.command_startable _ hs, State.targets_conv ht, hm, short_of_le hl, ha]

end

end

/-- BURST_OK as the CONV block shows it. -/
def State.burstShown (s : State) : State := (s.putB R.CONV_CTRL_BURST_OK true).putB R.CONV_STATUS_BURST_OK true

/-- The burst permission where a SERVICE part is given it. -/
theorem State.burstRefresh_service {s : State} (hm : s.md = .service) (hb : s.flag R.CONV_CFG_BURST_SERV = true) :
    s.burstRefresh = s.burstShown.wardenStage 4 449 (w32 (bit true)) := by
  simp [State.burstRefresh, hm, hb, State.burstShown]

theorem State.burstShown_regsOnly (s : State) : RegsOnly s s.burstShown := (s.putB_regsOnly _ _).trans (State.putB_regsOnly _ _ _)

theorem State.burstShown_onlyRegs (s : State) : OnlyRegs s s.burstShown [R.CONV_CTRL, R.CONV_STATUS] :=
  ((s.put_onlyRegs R.CONV_CTRL_BURST_OK (bit true)).mono (by simp [R.CONV_CTRL_BURST_OK])).trans
    ((State.put_onlyRegs _ R.CONV_STATUS_BURST_OK (bit true)).mono (by simp [R.CONV_STATUS_BURST_OK]))

theorem State.burstShown_ok (s : State) : s.burstShown.flag R.CONV_STATUS_BURST_OK = true :=
  State.flag_putB_same _ R.CONV_STATUS_BURST_OK true rfl (by decide)

/-- BURST_SERV written, and the burst permission shown. -/
def State.lightLoad (s : State) : State := (s.put R.CONV_CFG_BURST_SERV 1).burstShown

theorem State.lightLoad_regsOnly (s : State) : RegsOnly s s.lightLoad := RegsOnly.trans ⟨_, rfl⟩ (State.burstShown_regsOnly _)

theorem State.lightLoad_onlyRegs (s : State) : OnlyRegs s s.lightLoad [R.CONV_CFG, R.CONV_CTRL, R.CONV_STATUS] :=
  ((s.put_onlyRegs R.CONV_CFG_BURST_SERV 1).mono (by simp [R.CONV_CFG_BURST_SERV])).trans ((State.burstShown_onlyRegs _).mono (by simp))

theorem State.put_burstServ (s : State) : (s.put R.CONV_CFG_BURST_SERV 1).flag R.CONV_CFG_BURST_SERV = true :=
  s.flag_putB_same R.CONV_CFG_BURST_SERV true rfl (by decide)

theorem State.lightLoad_serv (s : State) : s.lightLoad.flag R.CONV_CFG_BURST_SERV = true :=
  (State.flag_of_rd _ (State.burstShown_onlyRegs _ R.CONV_CFG (by decide))).trans s.put_burstServ

theorem State.lightLoad_refresh {s : State} (hm : s.md = .service) :
    (s.put R.CONV_CFG_BURST_SERV 1).burstRefresh = s.lightLoad.wardenStage 4 449 (w32 (bit true)) :=
  State.burstRefresh_service ((s.md_put_of_apart _ _ (.inl (by decide))).trans hm) s.put_burstServ

theorem convLightLoad_done {s : State} {c : Cmd} (hp : s.pairsLost = false) (hm : s.md = .service)
    (h : execConvLightLoad c s = .next (((s.put R.CONV_CFG_BURST_SERV 1).burstRefresh).finish c .ok)) : ∃ t, execConvLightLoad c s = .next t ∧
    t.flag R.CONV_CFG_BURST_SERV = true ∧ t.flag R.CONV_STATUS_BURST_OK = true ∧ t.wardenWord 4 449 = 1 ∧ Answered s t c .ok ∧
    OnlyRegs s t [R.CONV_CFG, R.CONV_CTRL, R.CONV_STATUS] ∧ t = { s with regs := t.regs, pair := t.pair, host := t.host } := by
  rw [State.lightLoad_refresh hm] at h
  have hserv := s.lightLoad_serv
  have hok : s.lightLoad.flag R.CONV_STATUS_BURST_OK = true := State.burstShown_ok _
  have honly := s.lightLoad_onlyRegs
  have hlost := State.pairsLost_congr (honly R.PAIR_STATUS (by decide))
  obtain ⟨regs, hframe⟩ := s.lightLoad_regsOnly
  generalize s.lightLoad = u at *
  subst hframe
  have hword := State.wardenWord_wardenStage_same { s with regs := regs } 4 449 (w32 (bit true)) (hlost.trans hp)
  obtain ⟨pair, hstage⟩ := State.wardenStage_pairOnly { s with regs := regs } 4 449 (w32 (bit true))
  generalize State.wardenStage { s with regs := regs } 4 449 (w32 (bit true)) = w at *
  subst hstage
  refine ⟨_, h, hserv, hok, ?_, State.finish_answered c .ok _ false rfl rfl, honly, rfl⟩
  rw [State.wardenWord_congr (by rw [State.finish_pair]) (State.finish_fe ..), hword]
  rfl

/-! ### Edges on CONV_SYNC (R302, R303) -/

section
variable {s : State} (i : Nat) (p : Int)

theorem execSyncEdge_output (h : s.flag R.CONV_SYNC_CFG_DIR = true) : execSyncEdge i p s = .next s := by
  simp [execSyncEdge, h]

/-- What the block keeps, its count of valid edges written. -/
def ConvState.edged (c : ConvState) (n : Nat) : ConvState := { c with edges := n }

theorem execSyncEdge_outside (hd : s.flag R.CONV_SYNC_CFG_DIR = false) (hr : s.running = true) (hi : i < 40960 ∨ 409600 < i) :
    execSyncEdge i p s =
      .next ((s.satInc R.CONV_SYNC_STAT_REJECTED).withConv ((s.satInc R.CONV_SYNC_STAT_REJECTED).conv.edged (if 409600 < i then 0 else s.conv.edges))) := by
  rw [execSyncEdge, hd, hr]
  exact if_pos hi

theorem syncEdge_rejected (hd : s.flag R.CONV_SYNC_CFG_DIR = false) (hr : s.running = true) (hi : i < 40960 ∨ 409600 < i) : ∃ t,
    execSyncEdge i p s = .next t ∧ t.get R.CONV_SYNC_STAT_REJECTED =
      min (2 ^ (R.CONV_SYNC_STAT_REJECTED.hi + 1 - R.CONV_SYNC_STAT_REJECTED.lo) - 1) (s.get R.CONV_SYNC_STAT_REJECTED + 1) ∧
    OnlyRegs s t [R.CONV_SYNC_STAT] ∧ t = { s with regs := t.regs, conv := t.conv } := by
  have hcount := s.get_satInc_same R.CONV_SYNC_STAT_REJECTED (by decide) (by decide)
  have honly : OnlyRegs s (s.satInc R.CONV_SYNC_STAT_REJECTED) [R.CONV_SYNC_STAT] := s.put_onlyRegs R.CONV_SYNC_STAT_REJECTED _
  have hframe : RegsOnly s (s.satInc R.CONV_SYNC_STAT_REJECTED) := ⟨_, rfl⟩
  have he := execSyncEdge_outside i p hd hr hi
  generalize s.satInc R.CONV_SYNC_STAT_REJECTED = u at *
  obtain ⟨regs, rfl⟩ := hframe
  exact ⟨_, he, hcount.trans (Nat.min_comm _ _), honly, rfl⟩

/-- What the block keeps of a valid edge at which the lock begins. -/
def ConvState.edgeTaken (c : ConvState) (i : Nat) (p : Int) : ConvState :=
  { c with edges := c.edges + 1, quiet := 0, interval := i, phase := p, good := 0 }

theorem execSyncEdge_locks (hf : s.following = true) (hr : s.running = true) (h1 : 40960 ≤ i) (h2 : i ≤ 409600)
    (h0 : s.get R.CONV_SYNC_STAT_STATE = 0) (he : 1 ≤ s.conv.edges) :
    execSyncEdge i p s = .next ((s.withConv (s.conv.edgeTaken i p)).syncState 1) := by
  have hd : s.flag R.CONV_SYNC_CFG_DIR = false := by
    have := hf
    simp only [State.following, Bool.and_eq_true, Bool.not_eq_true'] at this
    exact this.2
  have hin : ¬ (i < 40960 ∨ 409600 < i) := by omega
  have hsecond : (s.following && (decide (s.get R.CONV_SYNC_STAT_STATE = 0) || decide (s.get R.CONV_SYNC_STAT_STATE = 3)) &&
      decide (2 ≤ s.conv.edges + 1)) = true := by simp [hf, h0, he]
  rw [execSyncEdge, hd, hr, if_neg (by decide), if_neg hin]
  exact if_pos hsecond

theorem syncEdge_second (hf : s.following = true) (hr : s.running = true) (h1 : 40960 ≤ i) (h2 : i ≤ 409600)
    (h0 : s.get R.CONV_SYNC_STAT_STATE = 0) (he : 1 ≤ s.conv.edges) : ∃ t, execSyncEdge i p s = .next t ∧
    t.get R.CONV_SYNC_STAT_STATE = 1 ∧ t.conv.interval = i ∧ t.conv.phase = p ∧ OnlyRegs s t [R.CONV_SYNC_STAT] := by
  have hmoved := (s.withConv_syncMoved (s.conv.edgeTaken i p)).trans (State.syncState_moved _ 1)
  have hconv := (s.withConv (s.conv.edgeTaken i p)).syncState_conv 1
  refine ⟨_, execSyncEdge_locks i p hf hr h1 h2 h0 he, State.syncState_state _ (by decide), ?_, ?_, hmoved.2⟩
  · rw [hconv]; rfl
  · rw [hconv]; rfl

end

theorem syncLost_done {s : State} (hst : s.get R.CONV_SYNC_STAT_STATE = 1 ∨ s.get R.CONV_SYNC_STAT_STATE = 2) (hq : 2 ≤ s.conv.quiet) : ∃ t,
    execSyncLost s = .next t ∧ t.get R.CONV_SYNC_STAT_STATE = 3 ∧ Raised s t 0x0D04 0 0x0D ∧ OnlyRegs s t [R.CONV_SYNC_STAT, R.LEDGER_SEQ] := by
  have he : execSyncLost s = .next (s.glide.raise 0x0D04 0 0x0D) := congrArg Host.Outcome.next (if_pos ⟨hst, hq⟩)
  have hmoved := s.glide_moved
  have hstate := s.glide_state
  generalize s.glide = u at *
  refine ⟨_, he, ?_, (u.raise_raised _ _ _).after hmoved.led hmoved.atime (hmoved.2 _ (by decide)), ?_⟩
  · rw [State.get_of_rd _ (u.raise_onlyRegs _ _ _ none none _ (by decide)), hstate]
  · exact (hmoved.2.mono (by simp)).trans ((u.raise_onlyRegs _ _ _ none none).mono (by simp))

theorem syncLost_idle {s : State} (h : s.get R.CONV_SYNC_STAT_STATE = 0 ∨ s.get R.CONV_SYNC_STAT_STATE = 3 ∨ s.conv.quiet < 2) :
    execSyncLost s = .next s := by
  refine congrArg Host.Outcome.next (if_neg ?_)
  omega

end Sys2Proof.Machine
end

section
/-! SUPPORT. The converter's starts, stops and protections (R296, R305-R310). -/

namespace Sys2Proof.Machine

/-! ### Starts and wakes (R305, R307, R309) -/

section
variable {s : State}

theorem execConvStart_removed (h : s.enabled unitConv = false) : execConvStart s = .next s := by simp [execConvStart, h]

theorem execConvStart_live (h : ConvLive s) (h0 : s.get R.CONV_STATUS_STATE = 0) : execConvStart s = .next s.convStart := by
  simp [execConvStart, h.enabled, h.unforced, h0]

theorem convStart_done (h : ConvLive s) (h0 : s.get R.CONV_STATUS_STATE = 0) : ∃ t, execConvStart s = .next t ∧ t.get R.CONV_STATUS_STATE = 1 ∧
    t.wardenWord 4 450 = s.wardenWord 4 450 + 1 ∧ t.conv.padsLow = false ∧ OnlyRegs s t [R.CONV_STATUS] := by
  obtain ⟨hruns, hword⟩ := h.start
  have hstage := s.wardenStage_pairOnly 4 450 (s.wardenWord 4 450 + 1)
  exact ⟨_, execConvStart_live h h0, hruns.state, hword, hruns.padsLow, (hstage.onlyRegs _).trans hruns.regs⟩

theorem execBurstWakeSample_awake (h : s.get R.CONV_STATUS_STATE ≠ 3) : execBurstWakeSample true s = .next s :=
  congrArg Host.Outcome.next (State.convWake_awake h)

theorem execConvRetryWaitExpiry_idle (h : s.get R.CONV_STATUS_STATE ≠ 4 ∨ s.since s.conv.stopAt < 200000) : execConvRetryWaitExpiry s = .next s := by
  refine if_neg fun ⟨h4, hdue⟩ => ?_
  rcases h with h | h
  · exact h h4
  · omega

theorem convRetry_done (h4 : s.get R.CONV_STATUS_STATE = 4) (hdue : 200000 ≤ s.since s.conv.stopAt) (h : ConvLive s)
    (hr : s.get R.CONV_STATUS_RETRIES < 3) : ∃ t, execConvRetryWaitExpiry s = .next t ∧ t.wardenWord 4 450 = s.wardenWord 4 450 + 1 ∧
    t.get R.CONV_STATUS_STATE = 1 ∧ t.get R.CONV_STATUS_RETRIES = s.get R.CONV_STATUS_RETRIES + 1 ∧ t.conv.padsLow = false ∧
    OnlyRegs s t [R.CONV_STATUS] ∧ t.led = s.led := by
  have he : execConvRetryWaitExpiry s = .next (s.put R.CONV_STATUS_RETRIES (satTo 2 (s.get R.CONV_STATUS_RETRIES + 1))).convStart :=
    if_pos ⟨h4, hdue⟩
  have hsat : satTo 2 (s.get R.CONV_STATUS_RETRIES + 1) % 2 ^ (R.CONV_STATUS_RETRIES.hi + 1 - R.CONV_STATUS_RETRIES.lo) =
      s.get R.CONV_STATUS_RETRIES + 1 := by
    simp only [satTo, R.CONV_STATUS_RETRIES] at hr ⊢
    omega
  obtain ⟨hstate, hretries, hword, -, hpads, hregs, hled, -, -⟩ := h.startAfter (satTo 2 (s.get R.CONV_STATUS_RETRIES + 1))
  exact ⟨_, he, hword, hstate, hretries.trans hsat, hpads, hregs, hled⟩

end

/-! ### Every pad low (R309, R310) -/

/-- From `s` to `t` the converter's pads are driven low: no register, no record. -/
structure ConvDown (s t : State) : Prop where
  rd : ∀ a, t.rd a = s.rd a
  padsLow : t.conv.padsLow = true
  withheld : t.conv.withheld = s.conv.withheld
  led : t.led = s.led
  atime : t.atime = s.atime

theorem ConvLive.down {s : State} (h : ConvLive s) : ConvDown s s.convPadsLow := by
  have hset : ConvMoved s (s.withConv { s.conv with padsLow := true }) := s.withConv_convMoved _
  have hpads : PadsOnly (s.withConv { s.conv with padsLow := true }) s.convPadsLow := (hset.live h).refreshUnit
  exact ⟨hpads.rd, by rw [hpads.conv]; rfl, by rw [hpads.conv]; rfl, by rw [hpads.led]; rfl, by rw [hpads.atime]; rfl⟩

/-- A flag of CONV_STATUS set with its record. -/
def State.convTold (s : State) (F : Fld) (code sev : Nat) : State := (s.putB F true).raise code sev 0x0D

section
variable (s : State) {F : Fld} {v : Nat} (code sev : Nat)

theorem State.convTold_conv : (s.convTold F code sev).conv = s.conv := by rw [State.convTold, State.raise_conv, State.putB_conv]

/-- A flag set, its record raised, and then STATE. -/
theorem State.convTold_state (hF : F.addr = R.CONV_STATUS) (hw : F.lo = F.hi) (h32 : F.hi < 32) (ha : R.CONV_STATUS_STATE.Apart F) (hv : v < 16) :
    ((s.convTold F code sev).convState v).get R.CONV_STATUS_STATE = v ∧ ((s.convTold F code sev).convState v).conv = s.conv ∧
    ((s.convTold F code sev).convState v).flag F = true ∧ Raised s ((s.convTold F code sev).convState v) code sev 0x0D ∧
    OnlyRegs s ((s.convTold F code sev).convState v) [R.CONV_STATUS, R.LEDGER_SEQ] := by
  obtain ⟨hflag, hraised, honly⟩ : (s.convTold F code sev).flag F = true ∧ Raised s (s.convTold F code sev) code sev 0x0D ∧
      OnlyRegs s (s.convTold F code sev) [F.addr, R.LEDGER_SEQ] := s.flag_raise F code sev 0x0D none none (by rw [hF]; decide) hw h32
  have hconv : (s.convTold F code sev).conv = s.conv := s.convTold_conv code sev
  rw [hF] at honly
  generalize s.convTold F code sev = u at *
  have hmoved := u.convState_convMoved v
  exact ⟨u.convState_state hv, (u.convState_conv v).trans hconv, (congrArg (· != 0) (u.convState_get v ha)).trans hflag,
    hraised.congr hmoved.led, honly.trans (hmoved.2.mono (by simp))⟩

/-- A flag set, then STATE, and then the record. -/
theorem State.putB_convState_raise (hF : F.addr = R.CONV_STATUS) (hw : F.lo = F.hi) (h32 : F.hi < 32) (ha : R.CONV_STATUS_STATE.Apart F)
    (hv : v < 16) : ((((s.putB F true).convState v).raise code sev 0x0D).get R.CONV_STATUS_STATE = v) ∧
    ((((s.putB F true).convState v).raise code sev 0x0D).conv = s.conv) ∧ (((s.putB F true).convState v).raise code sev 0x0D).flag F = true ∧
    Raised s (((s.putB F true).convState v).raise code sev 0x0D) code sev 0x0D ∧
    OnlyRegs s (((s.putB F true).convState v).raise code sev 0x0D) [R.CONV_STATUS, R.LEDGER_SEQ] := by
  have hset : ConvMoved s (s.putB F true) := s.put_convMoved F (bit true) hF
  have hflag := s.flag_putB_same F true hw h32
  have hconv : (s.putB F true).conv = s.conv := State.putB_conv ..
  generalize s.putB F true = u at *
  have hmoved := hset.trans (u.convState_convMoved v)
  have hstate := u.convState_state hv
  have hflag : (u.convState v).flag F = true := (congrArg (· != 0) (u.convState_get v ha)).trans hflag
  have hconv := (u.convState_conv v).trans hconv
  generalize u.convState v = w at *
  have hquiet := w.raise_onlyRegs code sev 0x0D none none
  refine ⟨?_, ?_, ?_, (w.raise_raised _ _ _).after hmoved.led hmoved.atime (hmoved.rd (by decide)), (hmoved.2.mono (by simp)).trans (hquiet.mono (by simp))⟩
  · rw [State.get_of_rd _ (hquiet _ (by decide)), hstate]
  · rw [State.raise_conv, hconv]
  · rw [State.flag_of_rd _ (hquiet _ (by rw [hF]; decide)), hflag]

end

/-! ### CONV_SHORT (R309) -/

/-- What the block keeps as it stops. -/
def ConvState.stopped (c : ConvState) (now : Time) : ConvState := { c with withheld := true, stopAt := now }

/-- The converter stopped, its pads low. -/
def State.convHalted (s : State) : State := (s.withConv (s.conv.stopped s.atime)).convPadsLow

theorem ConvLive.halted {s : State} (h : ConvLive s) : ConvDown (s.withConv (s.conv.stopped s.atime)) s.convHalted :=
  ((s.withConv_convMoved _).live h).down

/-- The stop of a short circuit, with its flag and its record. -/
def State.convShorted (s : State) : State := s.convHalted.convTold R.CONV_STATUS_SHORT 0x0D01 0

section
variable {s : State} (hst : s.get R.CONV_STATUS_STATE = 1 ∨ s.get R.CONV_STATUS_STATE = 2)
include hst

theorem execConvShort_eq : execConvShort s =
    if s.get R.CONV_STATUS_RETRIES < 3 then .next (s.convShorted.convState 4) else .next ((s.convShorted.convState 5).raise 0x0D02 1 0x0D) := by
  have hgo : ¬ (!(decide (s.get R.CONV_STATUS_STATE = 1) || decide (s.get R.CONV_STATUS_STATE = 2))) = true := by simpa [← or_iff_not_imp_left] using hst
  exact if_neg hgo

variable (h : ConvLive s)
include h

theorem convShort_retries (hr : s.get R.CONV_STATUS_RETRIES < 3) : ∃ t, execConvShort s = .next t ∧ t.get R.CONV_STATUS_STATE = 4 ∧
    t.conv.padsLow = true ∧ t.conv.withheld = true ∧ t.flag R.CONV_STATUS_SHORT = true ∧ Raised s t 0x0D01 0 0x0D ∧
    OnlyRegs s t [R.CONV_STATUS, R.LEDGER_SEQ] := by
  have he := (execConvShort_eq hst).trans (if_pos hr)
  have hdown := h.halted
  unfold State.convShorted at he
  generalize s.convHalted = u at *
  obtain ⟨hstate, hconv, hflag, hraised, honly⟩ := u.convTold_state (F := R.CONV_STATUS_SHORT) (v := 4) 0x0D01 0 rfl rfl (by decide)
    (.inr (by decide)) (by decide)
  refine ⟨_, he, hstate, by rw [hconv, hdown.padsLow], by rw [hconv, hdown.withheld]; rfl, hflag, ?_, fun a ha => ?_⟩
  · exact hraised.after hdown.led hdown.atime (hdown.rd _)
  · exact (honly a ha).trans (hdown.rd a)

theorem convShort_latches (hr : 3 ≤ s.get R.CONV_STATUS_RETRIES) : ∃ t, execConvShort s = .next t ∧ t.get R.CONV_STATUS_STATE = 5 ∧
    t.conv.padsLow = true ∧ t.led.arriving.map (·.code) = s.led.arriving.map (·.code) ++ [0x0D01, 0x0D02] := by
  have he := (execConvShort_eq hst).trans (if_neg (by omega))
  have hdown := h.halted
  unfold State.convShorted at he
  generalize s.convHalted = u at *
  obtain ⟨hstate, hconv, -, ⟨r, hr1, hcode, -⟩, -⟩ := u.convTold_state (F := R.CONV_STATUS_SHORT) (v := 5) 0x0D01 0 rfl rfl (by decide)
    (.inr (by decide)) (by decide)
  generalize (u.convTold R.CONV_STATUS_SHORT 0x0D01 0).convState 5 = w at *
  obtain ⟨r', hr2, hcode', -⟩ := w.raise_raised 0x0D02 1 0x0D
  have hled : u.led.arriving = s.led.arriving := by rw [hdown.led]; rfl
  refine ⟨_, he, ?_, ?_, ?_⟩
  · rw [State.get_of_rd _ (w.raise_onlyRegs 0x0D02 1 0x0D none none _ (by decide)), hstate]
  · rw [State.raise_conv, hconv, hdown.padsLow]
  · simp [hr2, hr1, hled, hcode, hcode']

end

/-! ### CONV_OVP and CONV_VOUT_ABSENT (R296, R310) -/

section
variable {s : State}

theorem convOvp_done (hr : s.running = true) (h : ConvLive s) : ∃ t, execConvOvp s = .next t ∧ t.flag R.CONV_STATUS_OVP = true ∧
    t.get R.CONV_STATUS_STATE = 5 ∧ t.conv.padsLow = true ∧ Raised s t 0x0D03 1 0x0D ∧ OnlyRegs s t [R.CONV_STATUS, R.LEDGER_SEQ] := by
  have he : execConvOvp s = .next (((s.convPadsLow.putB R.CONV_STATUS_OVP true).convState 5).raise 0x0D03 1 0x0D) := by
    rw [execConvOvp, hr]
    rfl
  have hdown := h.down
  generalize s.convPadsLow = u at *
  obtain ⟨hstate, hconv, hflag, hraised, honly⟩ := u.putB_convState_raise (F := R.CONV_STATUS_OVP) (v := 5) 0x0D03 1 rfl rfl (by decide)
    (.inr (by decide)) (by decide)
  exact ⟨_, he, hflag, hstate, by rw [hconv, hdown.padsLow], hraised.after hdown.led hdown.atime (hdown.rd _),
    fun a ha => (honly a ha).trans (hdown.rd a)⟩

/-- What the block keeps once the missing sample is told. -/
def ConvState.told (c : ConvState) : ConvState := { c with voTold := true }

theorem State.tellVoutAbsent_due (h1 : 2 ≤ s.conv.voBad) (h2 : s.conv.voTold = false) :
    s.tellVoutAbsent = (s.withConv s.conv.told).raise 0x0850 1 0x84 := if_pos ⟨h1, h2⟩

theorem State.tellVoutAbsent_idle (h : s.conv.voBad < 2 ∨ s.conv.voTold = true) : s.tellVoutAbsent = s := by
  refine if_neg fun ⟨hbad, htold⟩ => ?_
  rcases h with h | h
  · omega
  · rw [htold] at h
    exact Bool.false_ne_true h

theorem execConvVoutAbsent_eq (hr : s.flag (R.FE_STATUS_RUNNING 4) = true) (hp : (s.eng 4).prog = .converter) :
    execConvVoutAbsent s = .next s.tellVoutAbsent := by
  simp [execConvVoutAbsent, hr, hp]

theorem execConvVoutAbsent_idle (h : s.conv.voBad < 2 ∨ s.conv.voTold = true) : execConvVoutAbsent s = .next s := by
  unfold execConvVoutAbsent
  split
  · rfl
  · rw [State.tellVoutAbsent_idle h]

theorem convVoutAbsent_done (hr : s.flag (R.FE_STATUS_RUNNING 4) = true) (hp : (s.eng 4).prog = .converter) (h1 : 2 ≤ s.conv.voBad)
    (h2 : s.conv.voTold = false) : ∃ t, execConvVoutAbsent s = .next t ∧ t.conv.voTold = true ∧ t.conv.voBad = s.conv.voBad ∧
    Raised s t 0x0850 1 0x84 ∧ OnlyRegs s t [R.LEDGER_SEQ] ∧ t = { s with regs := t.regs, conv := t.conv, led := t.led, free := t.free } := by
  have he := execConvVoutAbsent_eq hr hp
  rw [State.tellVoutAbsent_due h1 h2] at he
  exact ⟨_, he, rfl, rfl, State.raise_raised _ _ _ _, State.raise_onlyRegs (s.withConv s.conv.told) _ _ _ none none, rfl⟩

end

/-! ### CBC_LIMIT (R310) -/

section
variable {s : State}

/-- A channel that no force acts on keeps its command as it takes its pads. -/
theorem State.refreshChan_cmdHigh {n u : Nat} (hu : s.banUnit n = some u) (hf : s.chanForce n u = none) :
    ((s.refreshChan n).chan n).cmdHigh = (s.chan n).cmdHigh := by
  by_cases hd : s.padDriven n = true
  · have hleg : s.settledLeg n u = s := by simp [State.settledLeg, hf]
    rw [State.refreshChan_driven hd hu, hleg, State.chan_setChan_same]
    rfl
  · rw [State.refreshChan_undriven (.inl (Bool.eq_false_iff.mpr hd)), State.chan_setChan_same]
    rfl

/-- The converter's channel of phase `k` and leg `l`. -/
def State.convLeg (s : State) (k l : Nat) : Option Nat :=
  (s.unitChans unitConv).find? fun h => s.chanFunc h = 2 && s.chanUnit h = k && s.chanLeg h = l

theorem State.convLeg_spec {k l n : Nat} (h : s.convLeg k l = some n) : s.banUnit n = some unitConv ∧ s.chanFunc n = 2 := by
  have hmem := List.mem_of_find?_eq_some h
  have hfound := List.find?_some h
  simp only [Bool.and_eq_true, decide_eq_true_eq] at hfound
  simp only [State.unitChans, List.mem_filter, decide_eq_true_eq] at hmem
  exact ⟨hmem.2, hfound.1.1⟩

/-- What the block keeps of a limit reached in phase `k`. -/
def ConvState.limited (c : ConvState) (k : Nat) : ConvState := { c with cbc := natSetBit c.cbc k true }

/-- Leg `b` given the state of leg `a`. -/
def State.legCopied (s : State) (a b : Nat) : State := s.setChan b { s.chan b with cmdHigh := (s.chan a).cmdHigh }

/-- Phase `k` limited: leg `b` in the state of leg `a`, and its pads taken. -/
def State.convLimited (s : State) (k a b : Nat) : State := ((s.withConv (s.conv.limited k)).legCopied a b).refreshChan b

theorem execCbcLimit_found {k a b : Nat} (ha : s.convLeg k 0 = some a) (hb : s.convLeg k 1 = some b) :
    execCbcLimit k s = .next (s.convLimited k a b) := by
  unfold State.convLeg at ha hb
  simp only [execCbcLimit, ha, hb]
  rfl

theorem execCbcLimit_none (k : Nat) (h : s.unitChans unitConv = []) : execCbcLimit k s = .next s := by
  simp only [execCbcLimit, h, List.find?_nil]

theorem State.legCopied_edgeOnly (a b : Nat) : EdgeOnly s (s.legCopied a b) := ⟨_, rfl⟩

theorem State.legCopied_chanForce (a b : Nat) {n : Nat} (hf : s.chanFunc n = 2) (hp : s.padForce unitConv = none) (hl : s.conv.padsLow = false) :
    (s.legCopied a b).chanForce n unitConv = none := by
  have hlow : (s.legCopied a b).blockLow n = false := by
    rw [State.blockLow, show (s.legCopied a b).chanFunc n = 2 from hf]
    exact hl
  rw [State.chanForce, hlow]
  exact hp

theorem State.convLimited_cmdHigh (k : Nat) {a b : Nat} (hu : s.banUnit b = some unitConv) (hf : s.chanFunc b = 2) (hp : s.padForce unitConv = none)
    (hl : s.conv.padsLow = false) : ((s.convLimited k a b).chan b).cmdHigh = (s.chan a).cmdHigh := by
  have hforce : ((s.withConv (s.conv.limited k)).legCopied a b).chanForce b unitConv = none := State.legCopied_chanForce a b hf hp hl
  have hunit : ((s.withConv (s.conv.limited k)).legCopied a b).banUnit b = some unitConv := hu
  rw [State.convLimited, State.refreshChan_cmdHigh hunit hforce, State.legCopied, State.chan_setChan_same]
  rfl

theorem State.convLimited_chan_ne (k a : Nat) {b m : Nat} (h : m ≠ b) : (s.convLimited k a b).chan m = s.chan m := by
  rw [State.convLimited, State.refreshChan_ne _ _ _ h, State.legCopied, State.chan_setChan_ne _ _ _ h]
  rfl

theorem State.convLimited_edgeOnly (k a b : Nat) : EdgeOnly (s.withConv (s.conv.limited k)) (s.convLimited k a b) :=
  (State.legCopied_edgeOnly a b).trans (State.refreshChan_edgeOnly _ b)

theorem cbcLimit_found {k a b : Nat} (ha : s.convLeg k 0 = some a) (hb : s.convLeg k 1 = some b) : ∃ t, execCbcLimit k s = .next t ∧
    natBit t.conv.cbc k = true ∧ (s.padForce unitConv = none → s.conv.padsLow = false → (t.chan b).cmdHigh = (s.chan a).cmdHigh) ∧
    (∀ m, m ≠ b → t.chan m = s.chan m) ∧ t = { s with conv := t.conv, edge := t.edge } := by
  obtain ⟨hu, hf⟩ := State.convLeg_spec hb
  have hcmd := State.convLimited_cmdHigh k (a := a) hu hf
  have hother (m : Nat) (hm : m ≠ b) := State.convLimited_chan_ne (s := s) k a hm
  have he := execCbcLimit_found ha hb
  obtain ⟨edge, hframe⟩ := State.convLimited_edgeOnly (s := s) k a b
  generalize s.convLimited k a b = t at *
  subst hframe
  exact ⟨_, he, natBit_natSetBit _ _ _, hcmd, hother, rfl⟩

end

end Sys2Proof.Machine

open Sys2Proof.Machine in
/-- Settles O40: a command of the converter changes the CONV block's own state, CONV_STATUS and the synchronisation registers, and what it hands to
FE_4; starts, stops and wakes of the enabled, unforced converter reach nothing beyond that but its own pads, and each stop raises its record. -/
theorem converter : Obligations.Converter := by
  unfold Obligations.Converter
  refine ⟨fun s c ht => ⟨?_, ?_, ?_, ?_, ?_, ?_, ?_, ?_, ?_⟩,
    fun s => ⟨?_, ?_, ?_, ?_, ?_, ?_, ?_, ?_, ?_, ?_, ?_, ?_, ?_, ?_, ?_, ?_, ?_, ?_, ?_⟩⟩
  · intro hs ha hl hv h3
    have hq : (s.queueSetpoint c 4 0x2000 0 false [(336, argW c 16)]).convWake = s.queueSetpoint c 4 0x2000 0 false [(336, argW c 16)] :=
      State.convWake_awake h3
    have he := execConvSetV_ok ht hs ha hl hv
    rw [hq] at he
    exact ⟨_, he, s.queueSetpoint_handed c _ _ _ _ _⟩
  · exact fun hs ha hl hv h3 he hf => convSetV_wakes ⟨he, hf⟩ h3 (execConvSetV_ok ht hs ha hl hv)
  · exact fun hs ha hm => execConvSetV_busy ht hs ha hm
  · exact fun hs hm => execConvStatus_eq ht hs hm
  · exact fun hs hm h5 he hf hv => convRestart_done ⟨he, hf⟩ (execConvRestart_ok ht hs hm h5 hv)
  · exact fun hs hm h5 => execConvRestart_unlatched ht hs hm h5
  · exact fun hs hp hm hl ha => convLightLoad_done hp hm (execConvLightLoad_ok ht hs hm hl ha)
  · exact fun hs hm => execConvLightLoad_elsewhere ht hs hm
  · exact fun hs hm hl ha h1 h2 => convSync_done h1 h2 ha (execConvSync_ok ht hs hm hl ha h1 h2)
  · exact fun i p hd => execSyncEdge_output i p hd
  · exact fun i p hd hr hi => syncEdge_rejected i p hd hr hi
  · exact fun i p hf hr h1 h2 h0 he => syncEdge_second i p hf hr h1 h2 h0 he
  · exact syncLost_done
  · exact syncLost_idle
  · exact fun he hf h0 => convStart_done ⟨he, hf⟩ h0
  · exact execConvStart_removed
  · rfl
  · intro h3 he hf
    have hwake := ConvLive.wake ⟨he, hf⟩ h3
    exact ⟨_, rfl, hwake.state, hwake.padsLow, hwake.withheld, hwake.regs⟩
  · exact execBurstWakeSample_awake
  · exact fun hst he hf hr => convShort_retries hst ⟨he, hf⟩ hr
  · exact fun hst he hf hr => convShort_latches hst ⟨he, hf⟩ hr
  · exact fun h4 hd he hf hr => convRetry_done h4 hd ⟨he, hf⟩ hr
  · exact execConvRetryWaitExpiry_idle
  · exact fun k a b ha hb => cbcLimit_found ha hb
  · exact execCbcLimit_none
  · exact fun hr he hf => convOvp_done hr ⟨he, hf⟩
  · exact convVoutAbsent_done
  · exact execConvVoutAbsent_idle
end

section
/-! SUPPORT. What leaves every half-bridge's pads as they are: the operations that reach no channel of the Edge Placer, in the order of the
model's files. -/

namespace Sys2Proof.Machine

/-- The half-bridge channels with their pads. -/
def State.pads (s : State) : Sparse Chan := s.edge.chans

/-- Proved by `(rfl)`, as `State.kept_pair` is, so that the kernel does not unfold the states for it. -/
@[simp] theorem State.chans_eq_pads (s : State) : s.edge.chans = s.pads := (rfl)

@[simp] theorem State.mk_pads (part pending atime free regs mem pwr mode host own store mkt led fe edge pair dcl acq trac conv chg mot disc
    safe tally net) : (State.mk part pending atime free regs mem pwr mode host own store mkt led fe edge pair dcl acq trac conv chg mot disc
    safe tally net).pads = edge.chans := (rfl)

@[simp] theorem State.ite_pads (p : Prop) [Decidable p] (a b : State) : (if p then a else b).pads = if p then a.pads else b.pads :=
  apply_ite State.pads p a b

@[simp] theorem State.foldl_pads {α : Type} {f : State → α → State} (h : ∀ t a, (f t a).pads = t.pads) (l : List α) (s : State) :
    (l.foldl f s).pads = s.pads := by
  induction l generalizing s with
  | nil => rfl
  | cons a l ih => rw [List.foldl_cons, ih, h]

@[simp] theorem State.each_pads {α : Type} {f : State → α → State} (h : ∀ t a, (f t a).pads = t.pads) (l : List α) (s : State) :
    (s.each l f).pads = s.pads := State.foldl_pads h l s

@[simp] theorem State.onlyIf_pads {f : State → State} (h : ∀ t, (f t).pads = t.pads) (b : Bool) (s : State) :
    (s.onlyIf b f).pads = s.pads := by
  cases b
  · rfl
  · exact h s

/-- The pads of the state of an answer, where the answer as a whole keeps them. -/
theorem State.pads_of_pair {α : Type} {p : State × α} {s t : State} {a : α} (h : p.1.pads = s.pads) (hp : p = (t, a)) : t.pads = s.pads := by
  rw [← h, hp]

/-- A meaning answers a next state with the pads of `s`. -/
def KeepsPads (s : State) (o : Out) : Prop := ∃ t, o = .next t ∧ t.pads = s.pads

@[simp] theorem keepsPads_next (s t : State) : KeepsPads s (.next t) ↔ t.pads = s.pads := by simp [KeepsPads]

@[simp] theorem keepsPads_ite (s : State) (p : Prop) [Decidable p] (a b : Out) :
    KeepsPads s (if p then a else b) ↔ if p then KeepsPads s a else KeepsPads s b := by split <;> rfl

@[simp] theorem keepsPads_command (s : State) (c : Cmd) (op : Nat) (f : State → Out) (h : KeepsPads s (f s)) :
    KeepsPads s (s.command c op f) := by
  unfold State.command
  split
  · exact h
  · simp

/-- What an instruction of a field engine does keeps the pads. -/
def Isa.KeepsPads (s : State) : Isa → Prop
  | .fault _ => True
  | .done t => t.pads = s.pads
  | .jump t _ => t.pads = s.pads

@[simp] theorem Isa.keepsPads_fault (s : State) (c : Nat) : (Isa.fault c).KeepsPads s := trivial
@[simp] theorem Isa.keepsPads_done (s t : State) : (Isa.done t).KeepsPads s ↔ t.pads = s.pads := Iff.rfl
@[simp] theorem Isa.keepsPads_jump (s t : State) (p : Nat) : (Isa.jump t p).KeepsPads s ↔ t.pads = s.pads := Iff.rfl
@[simp] theorem Isa.keepsPads_ite (s : State) (p : Prop) [Decidable p] (a b : Isa) :
    (if p then a else b).KeepsPads s ↔ if p then a.KeepsPads s else b.KeepsPads s := by split <;> rfl

/-! ### Sys2Proof/Machine/Ops.lean -/

@[simp] theorem State.wr_pads (s : State) (a : Nat) (w : Word) : (s.wr a w).pads = s.pads := by simp [State.wr]
@[simp] theorem State.put_pads (s : State) (F : Fld) (v : Nat) : (s.put F v).pads = s.pads := by simp [State.put]
@[simp] theorem State.putB_pads (s : State) (F : Fld) (b : Bool) : (s.putB F b).pads = s.pads := by simp [State.putB]
@[simp] theorem State.satInc_pads (s : State) (F : Fld) : (s.satInc F).pads = s.pads := by simp [State.satInc]
@[simp] theorem State.wrapInc_pads (s : State) (F : Fld) : (s.wrapInc F).pads = s.pads := by simp [State.wrapInc]
@[simp] theorem State.putBit_pads (s : State) (F : Fld) (b : Nat) (v : Bool) : (s.putBit F b v).pads = s.pads := by simp [State.putBit]
@[simp] theorem State.useFree_pads (s : State) : s.useFree.pads = s.pads := by simp [State.useFree]
@[simp] theorem State.raiseFor_pads (s : State) (code sev unit own : Nat) (c0 c1 : Option Word) :
    (s.raiseFor code sev unit own c0 c1).pads = s.pads := by simp [State.raiseFor]
@[simp] theorem State.raise_pads (s : State) (code sev unit : Nat) (c0 c1 : Option Word) : (s.raise code sev unit c0 c1).pads = s.pads := by
  simp [State.raise]
@[simp] theorem State.eventTo_pads (s : State) (only : Option Nat) (code source : Nat) (c0 c1 c2 c3 : Option Word) :
    (s.eventTo only code source c0 c1 c2 c3).pads = s.pads := by simp [State.eventTo]
@[simp] theorem State.event_pads (s : State) (code source : Nat) (c0 c1 c2 c3 : Option Word) : (s.event code source c0 c1 c2 c3).pads = s.pads := by
  simp [State.event]
@[simp] theorem State.eventFor_pads (s : State) (m code source : Nat) (c0 c1 c2 c3 : Option Word) :
    (s.eventFor m code source c0 c1 c2 c3).pads = s.pads := by simp [State.eventFor]
@[simp] theorem State.result_pads (s : State) (m tag g : Nat) (st : Status) (value : Nat) (data superseded : Bool) :
    (s.result m tag g st value data superseded).pads = s.pads := by simp [State.result]
@[simp] theorem State.begin_pads (s : State) (c : Cmd) : (s.begin c).pads = s.pads := by simp [State.begin]
@[simp] theorem State.finish_pads (s : State) (c : Cmd) (st : Status) (value : Nat) (data : Bool) : (s.finish c st value data).pads = s.pads := by
  simp [State.finish]
@[simp] theorem refuse_keepsPads (s : State) (c : Cmd) (st : Status) : KeepsPads s (refuse s c st) := by simp [refuse]
@[simp] theorem State.setByte_pads (s : State) (a : Nat) (b : Byte) : (s.setByte a b).pads = s.pads := by simp [State.setByte]
@[simp] theorem State.setBytes_pads (s : State) (a : Nat) (bs : List Byte) : (s.setBytes a bs).pads = s.pads := by
  induction bs generalizing s a with
  | nil => rfl
  | cons b t ih => simp [State.setBytes, ih]
@[simp] theorem State.settle_pads (s : State) (o : Nat) : (s.settle o).pads = s.pads := by simp [State.settle]
@[simp] theorem State.renew_pads (s : State) (a n : Nat) : (s.renew a n).pads = s.pads := by simp [State.renew]
@[simp] theorem State.writeByte_pads (s : State) (a : Nat) (b : Byte) : (s.writeByte a b).pads = s.pads := by simp [State.writeByte]
@[simp] theorem State.writeEach_pads (s : State) (a : Nat) (bs : List Byte) : (s.writeEach a bs).pads = s.pads := by
  induction bs generalizing s a with
  | nil => rfl
  | cons b t ih => simp [State.writeEach, ih]
@[simp] theorem State.writeBytes_pads (s : State) (a : Nat) (bs : List Byte) : (s.writeBytes a bs).pads = s.pads := by simp [State.writeBytes]
@[simp] theorem State.writeNat_pads (s : State) (a n v : Nat) : (s.writeNat a n v).pads = s.pads := by simp [State.writeNat]
@[simp] theorem State.regionErr_pads (s : State) (a who : Nat) : (s.regionErr a who).pads = s.pads := by simp [State.regionErr]
@[simp] theorem State.putHost_pads (s : State) (m a : Nat) (bs : List Byte) : (s.putHost m a bs).pads = s.pads := by
  unfold State.putHost
  split <;> simp
@[simp] theorem State.finishData_pads (s : State) (c : Cmd) (st : Status) (bs : List Byte) (value : Nat) :
    (s.finishData c st bs value).pads = s.pads := by simp [State.finishData]
@[simp] theorem State.setPairSt_pads (s : State) (k v : Nat) : (s.setPairSt k v).pads = s.pads := by simp [State.setPairSt]
@[simp] theorem State.setSafePair_pads (s : State) (k : Nat) (p : SafePair) : (s.setSafePair k p).pads = s.pads := by simp [State.setSafePair]
@[simp] theorem State.setLines_pads (s : State) (k u : Nat) (l : Lines) : (s.setLines k u l).pads = s.pads := by simp [State.setLines]
@[simp] theorem State.setLeg_pads (s : State) (n : Nat) (l : Leg) : (s.setLeg n l).pads = s.pads := by simp [State.setLeg]
@[simp] theorem State.setBand_pads (s : State) (u : Nat) (b : BandSet) : (s.setBand u b).pads = s.pads := by simp [State.setBand]
@[simp] theorem State.convState_pads (s : State) (v : Nat) : (s.convState v).pads = s.pads := by simp [State.convState]
@[simp] theorem State.convFollow_pads (s : State) : s.convFollow.pads = s.pads := by simp [State.convFollow]
@[simp] theorem State.dropForced_pads (s : State) (u : Nat) : (s.dropForced u).pads = s.pads := by simp [State.dropForced]
@[simp] theorem State.hold_pads (s : State) (u : Nat) : (s.hold u).pads = s.pads := by simp [State.hold]
@[simp] theorem State.unhold_pads (s : State) (u : Nat) : (s.unhold u).pads = s.pads := by simp [State.unhold]
@[simp] theorem State.raiseOwn_pads (s : State) (code sev unit own : Nat) (c0 c1 : Option Word) :
    (s.raiseOwn code sev unit own c0 c1).pads = s.pads := by simp [State.raiseOwn]
@[simp] theorem State.askGrant_pads (s : State) (u : Nat) : (s.askGrant u).pads = s.pads := by simp [State.askGrant]
@[simp] theorem State.setEng_pads (s : State) (n : Nat) (e : Engine) : (s.setEng n e).pads = s.pads := by simp [State.setEng]
@[simp] theorem State.modEng_pads (s : State) (n : Nat) (f : Engine → Engine) : (s.modEng n f).pads = s.pads := by simp [State.modEng]
@[simp] theorem State.stage_pads (s : State) (n p : Nat) (w : Word) : (s.stage n p w).pads = s.pads := by simp [State.stage]
@[simp] theorem State.wardenStage_pads (s : State) (n p : Nat) (w : Word) : (s.wardenStage n p w).pads = s.pads := by simp [State.wardenStage]
@[simp] theorem State.flushTurnstile_pads (s : State) (k : Nat) : (s.flushTurnstile k).pads = s.pads := by simp [State.flushTurnstile]

/-! ### Sys2Proof/Machine/ModeOps.lean -/

@[simp] theorem State.writeLimits_pads (s : State) (n : Nat) : (s.writeLimits n).pads = s.pads := by simp [State.writeLimits]
@[simp] theorem State.refreshLimits_pads (s : State) : s.refreshLimits.pads = s.pads := by simp [State.refreshLimits]
@[simp] theorem State.refreshHold_pads (s : State) : s.refreshHold.pads = s.pads := by simp [State.refreshHold]
@[simp] theorem State.regrant_pads (s : State) (k u : Nat) : (s.regrant k u).pads = s.pads := by simp [State.regrant]
@[simp] theorem State.degrEvent_pads (s : State) : s.degrEvent.pads = s.pads := by simp [State.degrEvent]
@[simp] theorem State.degradedEntry_pads (s : State) : s.degradedEntry.pads = s.pads := by
  simp only [State.degradedEntry]
  split <;> simp
@[simp] theorem State.stopEngine_pads (s : State) (n : Nat) : (s.stopEngine n).pads = s.pads := by simp [State.stopEngine]
@[simp] theorem State.haltEngine_pads (s : State) (n : Nat) : (s.haltEngine n).pads = s.pads := by simp [State.haltEngine]
@[simp] theorem State.stopDiscovery_pads (s : State) : s.stopDiscovery.pads = s.pads := by simp [State.stopDiscovery]
@[simp] theorem State.endDiscovery_pads (s : State) : s.endDiscovery.pads = s.pads := by simp [State.endDiscovery]
@[simp] theorem State.dropRamps_pads (s : State) : s.dropRamps.pads = s.pads := by simp [State.dropRamps]
@[simp] theorem State.accepted_pads (s : State) (dest : Mode) : (s.accepted dest).pads = s.pads := by simp [State.accepted]
@[simp] theorem State.abandon_pads (s : State) (cur : Trigger) (dest : Mode) : (s.abandon cur dest).pads = s.pads := by simp [State.abandon]
@[simp] theorem State.holdTrigger_pads (s : State) (kind prec code : Nat) : (s.holdTrigger kind prec code).pads = s.pads := by
  simp [State.holdTrigger]
@[simp] theorem State.sameTrigger_pads (s : State) (cur : Trigger) (kind code : Nat) : (s.sameTrigger cur kind code).pads = s.pads := by
  simp [State.sameTrigger]
@[simp] theorem State.abandonForReset_pads (s : State) : s.abandonForReset.pads = s.pads := by
  unfold State.abandonForReset
  split <;> simp

/-! ### Sys2Proof/Machine/FeOps.lean -/

@[simp] theorem State.missTick_pads (s : State) (n : Nat) : (s.missTick n).pads = s.pads := by simp [State.missTick]
@[simp] theorem State.loopFault_pads (s : State) (n code : Nat) : (s.loopFault n code).pads = s.pads := by simp [State.loopFault]
@[simp] theorem State.setPc_pads (s : State) (n p : Nat) : (s.setPc n p).pads = s.pads := by simp [State.setPc]
@[simp] theorem State.branch_pads (s : State) (n p : Nat) : (s.branch n p).pads = s.pads := by simp [State.branch]
@[simp] theorem isaRun_keepsPads (n : Nat) (here : Bool) (s : State) (body : Engine → Isa) (h : ∀ e, (body e).KeepsPads s) :
    KeepsPads s (isaRun n here s body) := by
  unfold isaRun
  have hb := h (s.eng n)
  cases e : body (s.eng n) <;> simp_all
@[simp] theorem isaStep_keepsPads (n op d a b x : Nat) (s : State) (body : Engine → Isa) (h : ∀ e, (body e).KeepsPads s) :
    KeepsPads s (isaStep n op d a b x s body) := isaRun_keepsPads n _ s body h
@[simp] theorem State.noteFloat_pads (s : State) (n : Nat) (v : F32) : (s.noteFloat n v).pads = s.pads := by simp [State.noteFloat]
@[simp] theorem State.floatOut_pads (s : State) (n d : Nat) (v : F32) : (s.floatOut n d v).pads = s.pads := by simp [State.floatOut]
@[simp] theorem State.floatsOut_pads (s : State) (n d : Nat) (vs : List F32) : (s.floatsOut n d vs).pads = s.pads := by
  induction vs generalizing s d with
  | nil => rfl
  | cons v t ih => simp [State.floatsOut, ih]
@[simp] theorem State.intOut_keepsPads (s t : State) (n d : Nat) (v : Word) (h : t.pads = s.pads) : (t.intOut n d v).KeepsPads s := by
  simp [State.intOut, h]
@[simp] theorem floatOp_keepsPads (n op d a b x : Nat) (s : State) (f : Engine → F32) : KeepsPads s (floatOp n op d a b x s f) := by simp [floatOp]
@[simp] theorem floatsOp_keepsPads (n op d a b x top : Nat) (s : State) (f : Engine → List F32) : KeepsPads s (floatsOp n op d a b x top s f) := by
  simp [floatsOp]
@[simp] theorem intOp_keepsPads (n op d a b x rb : Nat) (s : State) (f : Word → Word → Word) : KeepsPads s (intOp n op d a b x rb s f) := by
  simp [intOp]
@[simp] theorem State.showRegion_pads (s : State) (n : Nat) : (s.showRegion n).pads = s.pads := by simp [State.showRegion]
@[simp] theorem State.regionLookup_pads (s : State) (n : Nat) (x y : F32) : (s.regionLookup n x y).1.pads = s.pads := by
  simp only [State.regionLookup]
  split <;> simp
@[simp] theorem State.plausCheck_pads (s : State) (n k : Nat) (v thr : F32) (cnt : Nat) : (s.plausCheck n k v thr cnt).1.pads = s.pads := by
  simp only [State.plausCheck]
  repeat' split
  all_goals simp
@[simp] theorem State.stageStore_keepsPads (s : State) (n hb kind : Nat) (v : F32) : (s.stageStore n hb kind v).KeepsPads s := by simp [State.stageStore]
@[simp] theorem State.queueEvt_pads (s : State) (n x : Nat) (fa fb : F32) : (s.queueEvt n x fa fb).pads = s.pads := by simp [State.queueEvt]
@[simp] theorem State.pushSample_pads (s : State) (src : Nat) (v : Word) (flags : Nat) : (s.pushSample src v flags).pads = s.pads := by
  simp [State.pushSample]
@[simp] theorem State.loadSample_pads (s : State) (n d b src : Nat) : (s.loadSample n d b src).pads = s.pads := by simp [State.loadSample]
@[simp] theorem State.wakeSld_pads (s : State) (n : Nat) : (s.wakeSld n).pads = s.pads := by
  simp only [State.wakeSld]
  split <;> simp

/-! ### Sys2Proof/Machine/TallyConn.lean -/

@[simp] theorem State.setRx_pads (s : State) (k c : Nat) (r : TallyRx) : (s.setRx k c r).pads = s.pads := by simp [State.setRx]
@[simp] theorem State.setTx_pads (s : State) (c : Nat) (t : TallyTx) : (s.setTx c t).pads = s.pads := by simp [State.setTx]
@[simp] theorem State.tallyShow_pads (s : State) (c : Nat) : (s.tallyShow c).pads = s.pads := by simp [State.tallyShow]
@[simp] theorem State.tallyShowAll_pads (s : State) : s.tallyShowAll.pads = s.pads := by simp [State.tallyShowAll]
@[simp] theorem State.tallySet_pads (s : State) (k c : Nat) (r : TallyRx) : (s.tallySet k c r).pads = s.pads := by simp [State.tallySet]
@[simp] theorem State.tallyOpen_pads (s : State) (c : Nat) : (s.tallyOpen c).pads = s.pads := by simp [State.tallyOpen]
@[simp] theorem State.tallyClose_pads (s : State) (c : Nat) : (s.tallyClose c).pads = s.pads := by simp [State.tallyClose]
@[simp] theorem State.tallyFollow_pads (s : State) (c : Nat) : (s.tallyFollow c).pads = s.pads := by simp [State.tallyFollow]
@[simp] theorem State.tallyReopen_pads (s : State) : s.tallyReopen.pads = s.pads := by simp [State.tallyReopen]

/-! ### Sys2Proof/Machine/RegOps.lean -/

@[simp] theorem State.windowWrite_keepsPads (s : State) (w : Writer) (block : Nat) (f : State → Out) (h : KeepsPads s (f s)) :
    KeepsPads s (s.windowWrite w block f) := by
  simp [State.windowWrite, h]
@[simp] theorem State.writeField_pads (s : State) (a : Nat) (v : Word) (fd : FieldDef) : (s.writeField a v fd).pads = s.pads := by
  simp [State.writeField]
@[simp] theorem State.setChanged_pads (s : State) : s.setChanged.pads = s.pads := by simp [State.setChanged]
@[simp] theorem State.applyWrite_pads (s : State) (a : Nat) (v : Word) (fields : List FieldDef) (ok : FieldDef → Bool) :
    (s.applyWrite a v fields ok).pads = s.pads := by simp [State.applyWrite]
@[simp] theorem State.keepReg_pads (s before : State) (w : Writer) (a : Nat) : (s.keepReg before w a).pads = s.pads := by simp [State.keepReg]

/-! ### Sys2Proof/Machine/Checked.lean -/

@[simp] theorem State.setBankState_pads (s : State) (b v : Nat) : (s.setBankState b v).pads = s.pads := by simp [State.setBankState]
@[simp] theorem State.wakeBank_pads (s : State) (b : Nat) : (s.wakeBank b).pads = s.pads := by simp [State.wakeBank]
@[simp] theorem State.wakeFor_pads (s : State) (a n : Nat) : (s.wakeFor a n).pads = s.pads := by simp [State.wakeFor]
@[simp] theorem State.errInfo_pads (s : State) (o cls syn src : Nat) : (s.errInfo o cls syn src).pads = s.pads := by simp [State.errInfo]
@[simp] theorem State.corrected_pads (s : State) (o cls syn src : Nat) : (s.corrected o cls syn src).pads = s.pads := by simp [State.corrected]
@[simp] theorem State.ueRecord_pads (s : State) (o cls syn src : Nat) (engine : Option Nat) : (s.ueRecord o cls syn src engine).pads = s.pads := by
  simp [State.ueRecord]
@[simp] theorem State.queueWord_pads (s : State) (o : Nat) : (s.queueWord o).pads = s.pads := by simp [State.queueWord]
@[simp] theorem State.checkWord_pads (s : State) (o addr src : Nat) (engine : Option Nat) : (s.checkWord o addr src engine).1.pads = s.pads := by
  simp only [State.checkWord]
  repeat' split
  all_goals simp
@[simp] theorem State.readWords_pads (s : State) (a n : Nat) : (s.readWords a n).1.pads = s.pads := by
  induction n generalizing s a with
  | zero => rfl
  | succ n ih =>
    unfold State.readWords
    split
    · next t h => exact State.pads_of_pair (s.checkWord_pads ..) h
    · next t h =>
      have ht := State.pads_of_pair (s.checkWord_pads ..) h
      split
      · next u bs hu => rw [← ht]; exact State.pads_of_pair (ih t _) hu
      · next u hu => rw [← ht]; exact State.pads_of_pair (ih t _) hu

/-! ### Sys2Proof/Machine/Market.lean -/

@[simp] theorem State.mktStatus_pads (s : State) : s.mktStatus.pads = s.pads := by simp [State.mktStatus]
@[simp] theorem State.takeStall_pads (s0 : State) (ch : Nat) : (s0.takeStall ch).1.pads = s0.pads := by
  simp only [State.takeStall]
  repeat' split
  all_goals simp
@[simp] theorem State.freeStall_pads (s : State) (ch n : Nat) : (s.freeStall ch n).pads = s.pads := by simp [State.freeStall]
@[simp] theorem State.fillStall_pads (s : State) (n : Nat) (bs : List Byte) : (s.fillStall n bs).pads = s.pads := by simp [State.fillStall]
@[simp] theorem State.readStall_pads (s : State) (n len : Nat) : (s.readStall n len).1.pads = s.pads := by
  unfold State.readStall
  split
  · next t bs h => simpa using State.pads_of_pair (State.readWords_pads ..) h
  · next t h => simpa using State.pads_of_pair (State.readWords_pads ..) h
@[simp] theorem State.readHandles_pads (s : State) (hs : List (Bool × Nat × Nat)) : (s.readHandles hs).1.pads = s.pads := by
  induction hs generalizing s with
  | nil => rfl
  | cons h t ih =>
    unfold State.readHandles
    split
    · next u hu => exact State.pads_of_pair (s.readStall_pads ..) hu
    · next u bs hu =>
      have ht := State.pads_of_pair (s.readStall_pads ..) hu
      split
      · next v cs hv => rw [← ht]; exact State.pads_of_pair (ih u) hv
      · next v hv => rw [← ht]; exact State.pads_of_pair (ih u) hv
@[simp] theorem State.pushHandle_pads (s : State) (ch : Nat) (more : Bool) (len n : Nat) : (s.pushHandle ch more len n).pads = s.pads := by
  simp [State.pushHandle]
@[simp] theorem State.takeStalls_pads (s : State) (ch k : Nat) (got : List Nat) : (s.takeStalls ch k got).1.pads = s.pads := by
  induction k generalizing s got with
  | zero => rfl
  | succ k ih =>
    unfold State.takeStalls
    split
    · next t n h => rw [ih, State.pads_of_pair (s.takeStall_pads ch) h]
    · next t h => simp [State.pads_of_pair (s.takeStall_pads ch) h]
@[simp] theorem State.storeFrame_pads (s : State) (ch : Nat) (bs : List Byte) : (s.storeFrame ch bs).1.pads = s.pads := by
  unfold State.storeFrame
  simp only []
  split
  · next t h => exact State.pads_of_pair (s.takeStalls_pads ..) h
  · next t ns h => simp [State.pads_of_pair (s.takeStalls_pads ..) h]
@[simp] theorem State.setRing_pads (s : State) (m kind i : Nat) (r : Ring) : (s.setRing m kind i r).pads = s.pads := by simp [State.setRing]
@[simp] theorem State.setStream_pads (s : State) (m k : Nat) (t : Stream) : (s.setStream m k t).pads = s.pads := by simp [State.setStream]
@[simp] theorem State.tlmDrop_pads (s : State) (m k : Nat) : (s.tlmDrop m k).pads = s.pads := by simp [State.tlmDrop]
@[simp] theorem State.judgeRequest_pads (s : State) (ch : Nat) : (s.judgeRequest ch).pads = s.pads := by
  unfold State.judgeRequest
  split
  · next t n h => exact State.pads_of_pair (s.takeStall_pads ch) h
  · next t h => simp [State.pads_of_pair (s.takeStall_pads ch) h]
@[simp] theorem State.judgeRequests_pads (s : State) (n : Nat) (chs : List Nat) : (s.judgeRequests n chs).pads = s.pads := by
  induction n generalizing s chs with
  | zero => rfl
  | succ n ih =>
    unfold State.judgeRequests
    split
    · rfl
    · rw [ih, State.judgeRequest_pads]
@[simp] theorem execMarketRequest_keepsPads (chs : List Nat) (s : State) : KeepsPads s (execMarketRequest chs s) := by simp [execMarketRequest]
@[simp] theorem execMarketRelease_keepsPads (w : Option Writer) (ch stall : Nat) (s0 : State) : KeepsPads s0 (execMarketRelease w ch stall s0) := by
  unfold execMarketRelease
  split <;> simp
@[simp] theorem execMarketQuotaWrite_keepsPads (w : Writer) (ch : Nat) (v : Word) (s0 : State) : KeepsPads s0 (execMarketQuotaWrite w ch v s0) := by
  simp [execMarketQuotaWrite]

/-! ### Sys2Proof/Machine/Rings.lean -/

@[simp] theorem State.ringError_pads (s : State) (m kind i e : Nat) (slot : Option Nat) : (s.ringError m kind i e slot).pads = s.pads := by
  simp [State.ringError]
@[simp] theorem State.sendMsix_pads (s : State) (k : Nat) : (s.sendMsix k).pads = s.pads := by simp [State.sendMsix]
@[simp] theorem State.signal_pads (s : State) (m kind i : Nat) : (s.signal m kind i).pads = s.pads := by simp [State.signal]
@[simp] theorem State.msixWrite_pads (s : State) (p i : Nat) (v : Word) : (s.msixWrite p i v).pads = s.pads := by simp [State.msixWrite]
@[simp] theorem State.wrote_pads (s : State) (m kind i : Nat) (now : Bool) : (s.wrote m kind i now).pads = s.pads := by simp [State.wrote]
@[simp] theorem State.writeEntry_pads (s : State) (m kind i w : Nat) (now : Bool) (f : Bool → List Byte) :
    (s.writeEntry m kind i w now f).pads = s.pads := by simp [State.writeEntry]
@[simp] theorem State.dropOp_pads (s : State) (m tag : Nat) : (s.dropOp m tag).pads = s.pads := by simp [State.dropOp]
@[simp] theorem State.crFull_pads (s : State) (m k : Nat) : (s.crFull m k).pads = s.pads := by simp [State.crFull]
@[simp] theorem State.issue_pads (s : State) (r : Result) : (s.issue r).pads = s.pads := by
  unfold State.issue
  split <;> simp
@[simp] theorem State.drainHeld_pads (s : State) (m k : Nat) : (s.drainHeld m k).pads = s.pads := by simp [State.drainHeld]
@[simp] theorem execRingSelect_keepsPads (w : Writer) (m : Nat) (v : Word) (s0 : State) : KeepsPads s0 (execRingSelect w m v s0) := by
  simp [execRingSelect]
@[simp] theorem execRingConfigWrite_keepsPads (w : Writer) (m : Nat) (v : Word) (s : State) : KeepsPads s (execRingConfigWrite w m v s) := by
  refine State.windowWrite_keepsPads _ _ _ _ ?_
  split
  · simp
  · split <;> simp -implicitDefEqProofs
@[simp] theorem execRingReset_keepsPads (w : Writer) (m : Nat) (v : Word) (s : State) : KeepsPads s (execRingReset w m v s) := by
  refine State.windowWrite_keepsPads _ _ _ _ ?_
  split
  · simp
  · split <;> simp
@[simp] theorem State.ringDoorbell_pads (s : State) (m kind k : Nat) (v : Word) : (s.ringDoorbell m kind k v).pads = s.pads := by
  simp [State.ringDoorbell]
@[simp] theorem execDoorbellCmd_keepsPads (w : Writer) (m k : Nat) (v : Word) (s0 : State) : KeepsPads s0 (execDoorbellCmd w m k v s0) := by
  simp [execDoorbellCmd]
@[simp] theorem execDoorbellCpl_keepsPads (w : Writer) (m k : Nat) (v : Word) (s0 : State) : KeepsPads s0 (execDoorbellCpl w m k v s0) := by
  simp [execDoorbellCpl]
@[simp] theorem State.overflowEntry_pads (s : State) (m k : Nat) : (s.overflowEntry m k).pads = s.pads := by simp [State.overflowEntry]
@[simp] theorem execDoorbellEvt_keepsPads (w : Writer) (m k : Nat) (v : Word) (s0 : State) : KeepsPads s0 (execDoorbellEvt w m k v s0) := by
  simp [execDoorbellEvt]
@[simp] theorem execDoorbellTlm_keepsPads (w : Writer) (m k : Nat) (v : Word) (s0 : State) : KeepsPads s0 (execDoorbellTlm w m k v s0) := by
  simp [execDoorbellTlm]
@[simp] theorem execDescriptorFetch_keepsPads (s : State) : KeepsPads s (execDescriptorFetch s) := by
  unfold execDescriptorFetch
  split <;> simp
@[simp] theorem State.unstage_pads (s : State) (m : Nat) (ns : List Nat) : (s.unstage m ns).pads = s.pads := by simp [State.unstage]
@[simp] theorem State.check5_pads (s : State) (m : Nat) (d : Desc) (p : Option (List Byte)) : (s.check5 m d p).1.pads = s.pads := by
  unfold State.check5
  simp only []
  split
  · rfl
  · split
    · next t h => exact State.pads_of_pair (s.takeStalls_pads ..) h
    · next t ns h => split <;> simp [State.pads_of_pair (s.takeStalls_pads ..) h]
@[simp] theorem State.holdStalls_pads (s : State) (m tag : Nat) (ns : List Nat) : (s.holdStalls m tag ns).pads = s.pads := by
  simp [State.holdStalls]
@[simp] theorem State.takeDesc_pads (s : State) (m k : Nat) (b : List Byte) (p : Option (List Byte)) : (s.takeDesc m k b p).pads = s.pads := by
  unfold State.takeDesc
  dsimp only
  split
  · rfl
  split
  · simp
  iterate 3
    split
    · simp
  split
  · next t st ht => simp [State.pads_of_pair (State.check5_pads ..) ht]
  · next t ns ht => simp [State.pads_of_pair (State.check5_pads ..) ht]
@[simp] theorem State.takeDescs_pads (s : State) (m k w n : Nat) (bs : List Byte) (ps : List (Option (List Byte))) :
    (s.takeDescs m k w n bs ps).pads = s.pads := by
  induction n generalizing s bs ps with
  | zero => rfl
  | succ n ih => rw [State.takeDescs, ih, State.takeDesc_pads]
@[simp] theorem execDescriptorReadDone_keepsPads (data : Option (List Byte)) (payloads : List (Option (List Byte))) (s : State) :
    KeepsPads s (execDescriptorReadDone data payloads s) := by
  unfold execDescriptorReadDone
  repeat' split
  all_goals simp
@[simp] theorem State.toRing_pads (s : State) (e : Event) (m k : Nat) : (s.toRing e m k).pads = s.pads := by simp [State.toRing]
@[simp] theorem State.deliver_pads (s : State) (e : Event) : (s.deliver e).pads = s.pads := by simp [State.deliver]
@[simp] theorem execEventDelivery_keepsPads (s : State) : KeepsPads s (execEventDelivery s) := by
  unfold execEventDelivery
  split <;> simp
@[simp] theorem State.deliverAll_pads (s : State) : s.deliverAll.pads = s.pads := by simp [State.deliverAll]
@[simp] theorem State.progressFirst_pads (s : State) (r : Result) : (s.progressFirst r).pads = s.pads := by
  unfold State.progressFirst
  split <;> simp
@[simp] theorem State.useStage_pads (s : State) (m tag : Nat) : (s.useStage m tag).pads = s.pads := by
  unfold State.useStage
  split <;> simp
@[simp] theorem execResultIntake_keepsPads (s : State) : KeepsPads s (execResultIntake s) := by
  unfold execResultIntake
  split <;> simp
@[simp] theorem execCompletionIssue_keepsPads (s : State) : KeepsPads s (execCompletionIssue s) := by
  unfold execCompletionIssue
  repeat' split
  all_goals simp
@[simp] theorem execCrFullRepeat_keepsPads (m k : Nat) (s : State) : KeepsPads s (execCrFullRepeat m k s) := by simp [execCrFullRepeat]
@[simp] theorem State.cancelWaits_pads (s : State) (m tag : Nat) : (s.cancelWaits m tag).pads = s.pads := by simp [State.cancelWaits]
@[simp] theorem execClassRTimeout_keepsPads (m tag : Nat) (s : State) : KeepsPads s (execClassRTimeout m tag s) := by
  unfold execClassRTimeout
  split <;> simp
@[simp] theorem execCmdProgress_keepsPads (m tag perMille bytes : Nat) (s : State) : KeepsPads s (execCmdProgress m tag perMille bytes s) := by
  unfold execCmdProgress
  split <;> simp
@[simp] theorem execIrqTimeExpiry_keepsPads (m kind k : Nat) (s : State) : KeepsPads s (execIrqTimeExpiry m kind k s) := by simp [execIrqTimeExpiry]
@[simp] theorem execTlmSelect_keepsPads (c : Cmd) (s0 : State) : KeepsPads s0 (execTlmSelect c s0) := by simp [execTlmSelect]
@[simp] theorem State.tlmClose_pads (s : State) (m k : Nat) : (s.tlmClose m k).pads = s.pads := by
  simp only [State.tlmClose]
  split <;> simp
@[simp] theorem State.tlmPut_pads (s : State) (m k n : Nat) (bs : List Byte) : (s.tlmPut m k n bs).pads = s.pads := by simp [State.tlmPut]
@[simp] theorem State.tlmRecord_pads (s : State) (m k : Nat) (ws : List Word) : (s.tlmRecord m k ws).pads = s.pads := by
  unfold State.tlmRecord
  dsimp only
  split
  · simp
  · split
    · next u n hu => simp [State.pads_of_pair (State.takeStall_pads ..) hu]
    · next u hu => simp [State.pads_of_pair (State.takeStall_pads ..) hu]
@[simp] theorem State.tlmSample_pads (s : State) (n : Nat) : (s.tlmSample n).pads = s.pads := by simp [State.tlmSample]
@[simp] theorem execTlmBufferCopy_keepsPads (m k : Nat) (s : State) : KeepsPads s (execTlmBufferCopy m k s) := by
  unfold execTlmBufferCopy
  dsimp only
  split
  · split
    · simp
    · split
      · next u bs hu => simp [State.pads_of_pair (State.readStall_pads ..) hu]
      · next u hu => simp [State.pads_of_pair (State.readStall_pads ..) hu]
  · simp
@[simp] theorem execTlmFlushExpiry_keepsPads (m k : Nat) (s : State) : KeepsPads s (execTlmFlushExpiry m k s) := by simp [execTlmFlushExpiry]

/-! ### Sys2Proof/Machine/Setpoints.lean -/

@[simp] theorem State.queueSetpoint_pads (s : State) (c : Cmd) (n opcode u : Nat) (bad : Bool) (words : List (Nat × Word)) :
    (s.queueSetpoint c n opcode u bad words).pads = s.pads := by simp [State.queueSetpoint]
@[simp] theorem State.storeWord_pads (s : State) (n p : Nat) (v : Word) : (s.storeWord n p v).pads = s.pads := by simp [State.storeWord]
@[simp] theorem State.writeGroup_pads (s : State) (n p : Nat) (ws : List Word) : (s.writeGroup n p ws).pads = s.pads := by
  induction ws generalizing s p with
  | nil => rfl
  | cons v t ih => simp [State.writeGroup, ih]

/-! ### Sys2Proof/Machine/Acquisition.lean -/

@[simp] theorem State.setGrp_pads (s : State) (g : Nat) (x : Option GroupStall) : (s.setGrp g x).pads = s.pads := by simp [State.setGrp]
@[simp] theorem State.grpDeliver_pads (s : State) (g : Nat) : (s.grpDeliver g).pads = s.pads := by
  unfold State.grpDeliver
  split <;> simp
@[simp] theorem State.grpDrop_pads (s : State) (g : Nat) : (s.grpDrop g).pads = s.pads := by simp [State.grpDrop]
@[simp] theorem State.grpRecord_pads (s : State) (k g ch code flags t : Nat) : (s.grpRecord k g ch code flags t).pads = s.pads := by
  unfold State.grpRecord
  extract_lets r late s0 s1
  have h0 : s0.pads = s.pads := by simp [s0]
  have h1 : s1.pads = s.pads := by
    unfold s1
    split
    · simp [h0]
    · split
      · next u n hu => simp [State.pads_of_pair (s0.takeStall_pads _) hu, h0]
      · next u hu => simp [State.pads_of_pair (s0.takeStall_pads _) hu, h0]
  split <;> simp [h1]
@[simp] theorem State.setShadow_pads (s : State) (a : Nat) (v : Word) : (s.setShadow a v).pads = s.pads := by simp [State.setShadow]
@[simp] theorem State.swapTable_pads (s : State) (k : Nat) : (s.swapTable k).pads = s.pads := by simp [State.swapTable]
@[simp] theorem State.armSwap_pads (s : State) (k : Nat) : (s.armSwap k).pads = s.pads := by simp [State.armSwap]
@[simp] theorem State.tableWord_pads (s : State) (stores : Bool) (a : Nat) (v : Word) : (s.tableWord stores a v).pads = s.pads := by
  simp [State.tableWord]
@[simp] theorem State.entryWrite_pads (s : State) (stores : Bool) (k e : Nat) (delay : Bool) (v : Word) :
    (s.entryWrite stores k e delay v).pads = s.pads := by simp [State.entryWrite]
@[simp] theorem State.storedTable_pads (s : State) (k : Nat) : (s.storedTable k).pads = s.pads := by simp [State.storedTable]
@[simp] theorem State.discTable_pads (s : State) : s.discTable.pads = s.pads := by simp [State.discTable]
@[simp] theorem State.commTable_pads (s : State) : s.commTable.pads = s.pads := by simp [State.commTable]
@[simp] theorem State.defaultTable_pads (s : State) : s.defaultTable.pads = s.pads := by simp [State.defaultTable]
@[simp] theorem State.seqRun_pads (s : State) (k : Nat) (on : Bool) : (s.seqRun k on).pads = s.pads := by
  simp -implicitDefEqProofs [State.seqRun]
@[simp] theorem State.seqAdvance_pads (s : State) (k : Nat) : (s.seqAdvance k).pads = s.pads := by simp [State.seqAdvance]
@[simp] theorem execSeqConversion_keepsPads (k raw sub : Nat) (s : State) : KeepsPads s (execSeqConversion k raw sub s) := by
  simp [execSeqConversion]
@[simp] theorem execSeqEntryWrite_keepsPads (w : Writer) (k e : Nat) (delay : Bool) (v : Word) (s0 : State) :
    KeepsPads s0 (execSeqEntryWrite w k e delay v s0) := by simp [execSeqEntryWrite]
@[simp] theorem execSeqSwap_keepsPads (w : Writer) (k : Nat) (s0 : State) : KeepsPads s0 (execSeqSwap w k s0) := by simp [execSeqSwap]
@[simp] theorem execRefReady_keepsPads (ok : Bool) (s : State) : KeepsPads s (execRefReady ok s) := by simp [execRefReady]
@[simp] theorem execRefFault_keepsPads (s : State) : KeepsPads s (execRefFault s) := by simp [execRefFault]
@[simp] theorem State.refOn_pads (s : State) : s.refOn.pads = s.pads := by simp [State.refOn]
@[simp] theorem State.refWrite_pads (s : State) (v : Word) : (s.refWrite v).pads = s.pads := by simp [State.refWrite]
@[simp] theorem execRefBufferWrite_keepsPads (w : Writer) (v : Word) (s0 : State) : KeepsPads s0 (execRefBufferWrite w v s0) := by
  simp [execRefBufferWrite]
@[simp] theorem execAcqSeqWrite_keepsPads (c : Cmd) (s0 : State) : KeepsPads s0 (execAcqSeqWrite c s0) := by simp [execAcqSeqWrite]
@[simp] theorem execAcqSeqRun_keepsPads (c : Cmd) (s0 : State) : KeepsPads s0 (execAcqSeqRun c s0) := by simp [execAcqSeqRun]
@[simp] theorem State.readGood_pads (s : State) (hs : List (Bool × Nat × Nat)) : (s.readGood hs).1.pads = s.pads := by
  induction hs generalizing s with
  | nil => rfl
  | cons h t ih =>
    unfold State.readGood
    split
    · next u bs hu => simp [ih, State.pads_of_pair (s.readStall_pads ..) hu]
    · next u hu => simp [ih, State.pads_of_pair (s.readStall_pads ..) hu]
@[simp] theorem execAcqGrpFetch_keepsPads (c : Cmd) (s0 : State) : KeepsPads s0 (execAcqGrpFetch c s0) := by simp [execAcqGrpFetch]
@[simp] theorem State.insertFor_pads (s : State) (c : Cmd) (kind : Nat) (y : Word) : (s.insertFor c kind y).pads = s.pads := by
  simp [State.insertFor]
@[simp] theorem execAcqCalZero_keepsPads (c : Cmd) (s0 : State) : KeepsPads s0 (execAcqCalZero c s0) := by simp [execAcqCalZero]
@[simp] theorem execAcqCalSpan_keepsPads (c : Cmd) (s0 : State) : KeepsPads s0 (execAcqCalSpan c s0) := by simp [execAcqCalSpan]
@[simp] theorem execAcqCalStore_keepsPads (c : Cmd) (s0 : State) : KeepsPads s0 (execAcqCalStore c s0) := by simp [execAcqCalStore]
@[simp] theorem execAcqDiag_keepsPads (c : Cmd) (s0 : State) : KeepsPads s0 (execAcqDiag c s0) := by simp [execAcqDiag]
@[simp] theorem State.acqResult_pads (s : State) (i : Insert) (st : Status) (v : Nat) : (s.acqResult i st v).pads = s.pads := by
  simp [State.acqResult]
@[simp] theorem State.zeroDone_pads (s : State) (i : Insert) (sum : Int) (good : Bool) : (s.zeroDone i sum good).pads = s.pads := by
  simp [State.zeroDone]
@[simp] theorem State.spanDone_pads (s : State) (i : Insert) (sum : Int) (good : Bool) : (s.spanDone i sum good).pads = s.pads := by
  unfold State.spanDone
  split <;> simp
@[simp] theorem State.diagDone_pads (s : State) (i : Insert) (sum1 sum2 : Int) : (s.diagDone i sum1 sum2).pads = s.pads := by simp [State.diagDone]
@[simp] theorem execAcqInsertionDone_keepsPads (chan : Nat) (sum1 sum2 : Int) (good : Bool) (s : State) :
    KeepsPads s (execAcqInsertionDone chan sum1 sum2 good s) := by
  unfold execAcqInsertionDone
  repeat' split
  all_goals simp

/-! ### Sys2Proof/Machine/Position.lean -/

@[simp] theorem State.setEmu_pads (s : State) (k : Nat) (e : Emu) : (s.setEmu k e).pads = s.pads := by simp [State.setEmu]
@[simp] theorem State.emuMove_pads (s : State) (k : Nat) (target : Int) (budget : Nat) : (s.emuMove k target budget).pads = s.pads := by
  simp [State.emuMove]
@[simp] theorem State.emuFollow_pads (s : State) (src : Nat) (num : Int) (den cycles : Nat) : (s.emuFollow src num den cycles).pads = s.pads := by
  simp [State.emuFollow]
@[simp] theorem State.setEnc_pads (s : State) (k : Nat) (e : Enc) : (s.setEnc k e).pads = s.pads := by simp [State.setEnc]
@[simp] theorem State.encShow_pads (s : State) (k : Nat) : (s.encShow k).pads = s.pads := by simp [State.encShow]
@[simp] theorem State.encMove_pads (s : State) (k : Nat) (a b rev : Bool) (dt : Nat) : (s.encMove k a b rev dt).pads = s.pads := by
  simp [State.encMove]
@[simp] theorem execEncoderIndex_keepsPads (k : Nat) (s : State) : KeepsPads s (execEncoderIndex k s) := by simp [execEncoderIndex]
@[simp] theorem State.encStill_pads (s : State) (k : Nat) : (s.encStill k).pads = s.pads := by simp [State.encStill]
@[simp] theorem execEncoderStandstill_keepsPads (k : Nat) (s : State) : KeepsPads s (execEncoderStandstill k s) := by simp [execEncoderStandstill]
@[simp] theorem State.encCap_pads (s0 : State) (k : Nat) : (s0.encCap k).pads = s0.pads := by simp [State.encCap]
@[simp] theorem State.encWrite_pads (s : State) (k : Nat) (v : Word) : (s.encWrite k v).pads = s.pads := by simp [State.encWrite]
@[simp] theorem execEncoderEnable_keepsPads (w : Writer) (k : Nat) (v : Word) (s0 : State) : KeepsPads s0 (execEncoderEnable w k v s0) := by
  simp [execEncoderEnable]
@[simp] theorem execHallCodeChange_keepsPads (k code : Nat) (s : State) : KeepsPads s (execHallCodeChange k code s) := by simp [execHallCodeChange]
@[simp] theorem State.staleSource_pads (s : State) (src : Nat) : (s.staleSource src).pads = s.pads := by simp [State.staleSource]
@[simp] theorem execSentFrame_keepsPads (k sync : Nat) (nibbles : List Nat) (crcOk : Bool) (slow : Option Nat) (s : State) :
    KeepsPads s (execSentFrame k sync nibbles crcOk slow s) := by
  unfold execSentFrame
  repeat' split
  all_goals simp
@[simp] theorem execSentLost_keepsPads (k : Nat) (s : State) : KeepsPads s (execSentLost k s) := by simp [execSentLost]
@[simp] theorem State.resWrite_pads (s : State) (k : Nat) (v : Word) : (s.resWrite k v).pads = s.pads := by simp [State.resWrite]
@[simp] theorem execResolverEnable_keepsPads (w : Writer) (k : Nat) (v : Word) (s0 : State) : KeepsPads s0 (execResolverEnable w k v s0) := by
  simp [execResolverEnable]
@[simp] theorem execResSignal_keepsPads (k : Nat) (s : State) : KeepsPads s (execResSignal k s) := by simp [execResSignal]
@[simp] theorem State.resConversion_pads (s : State) (c : Nat) : (s.resConversion c).pads = s.pads := by simp [State.resConversion]

/-! ### Sys2Proof/Machine/Sync.lean -/

@[simp] theorem State.carrier_pads (s : State) (p : Nat) : (s.carrier p).pads = s.pads := by simp [State.carrier]
@[simp] theorem State.syncState_pads (s : State) (v : Nat) : (s.syncState v).pads = s.pads := by simp [State.syncState]
@[simp] theorem State.carrierStart_pads (s : State) : s.carrierStart.pads = s.pads := by simp [State.carrierStart]
@[simp] theorem State.glide_pads (s : State) : s.glide.pads = s.pads := by simp [State.glide]
@[simp] theorem State.syncLoss_pads (s : State) : s.syncLoss.pads = s.pads := by simp [State.syncLoss]
@[simp] theorem State.syncStep_pads (s0 : State) : s0.syncStep.pads = s0.pads := by simp [State.syncStep]
@[simp] theorem State.syncWrite_pads (s : State) (follow : Bool) (freq : Nat) : (s.syncWrite follow freq).pads = s.pads := by simp [State.syncWrite]

/-! ### Sys2Proof/Machine/Edge.lean -/

@[simp] theorem State.tbEnable_pads (s : State) (n : Nat) : (s.tbEnable n).pads = s.pads := by simp [State.tbEnable]
@[simp] theorem State.tbWrite_pads (s : State) (n : Nat) (v : Word) : (s.tbWrite n v).pads = s.pads := by simp [State.tbWrite]
@[simp] theorem execTimebaseStart_keepsPads (w : Writer) (n : Nat) (v : Word) (s0 : State) : KeepsPads s0 (execTimebaseStart w n v s0) := by
  simp [execTimebaseStart]
@[simp] theorem State.cleanPair_pads (s : State) (u t : Nat) (a b : Int) : (s.cleanPair u t a b).pads = s.pads := by simp [State.cleanPair]
@[simp] theorem State.tickSample_pads (s : State) (k ch m t inst : Nat) (count : Int) (flags : Nat) :
    (s.tickSample k ch m t inst count flags).pads = s.pads := by
  simp only [State.tickSample]
  split <;> simp
@[simp] theorem State.gateFault_pads (s : State) (code n : Nat) : (s.gateFault code n).pads = s.pads := by
  unfold State.gateFault
  split <;> simp
@[simp] theorem State.setLink_pads (s : State) (n : Nat) (l : Link) : (s.setLink n l).pads = s.pads := by simp [State.setLink]
@[simp] theorem State.sendFrames_pads (s : State) (n : Nat) (l : List Word) : (s.sendFrames n l).pads = s.pads := by simp [State.sendFrames]
@[simp] theorem State.linkFrame_pads (s : State) (n : Nat) (w : Word) : (s.linkFrame n w).pads = s.pads := by simp [State.linkFrame]
@[simp] theorem State.derate_pads (s : State) : s.derate.pads = s.pads := by
  unfold State.derate
  split <;> simp
@[simp] theorem State.statusRead_pads (s : State) (n status : Nat) : (s.statusRead n status).pads = s.pads := by simp [State.statusRead]

/-! ### Sys2Proof/Machine/FeIsa.lean -/

@[simp] theorem execNop_keepsPads (n d a b x : Nat) (s : State) : KeepsPads s (execNop n d a b x s) := by simp [execNop]
@[simp] theorem execMov_keepsPads (n d a b x : Nat) (s : State) : KeepsPads s (execMov n d a b x s) := by simp [execMov]
@[simp] theorem execFadd_keepsPads (n d a b x : Nat) (s : State) : KeepsPads s (execFadd n d a b x s) := by simp [execFadd]
@[simp] theorem execFsub_keepsPads (n d a b x : Nat) (s : State) : KeepsPads s (execFsub n d a b x s) := by simp [execFsub]
@[simp] theorem execFmul_keepsPads (n d a b x : Nat) (s : State) : KeepsPads s (execFmul n d a b x s) := by simp [execFmul]
@[simp] theorem execFmac_keepsPads (n d a b x : Nat) (s : State) : KeepsPads s (execFmac n d a b x s) := by simp [execFmac]
@[simp] theorem execFmin_keepsPads (n d a b x : Nat) (s : State) : KeepsPads s (execFmin n d a b x s) := by simp [execFmin]
@[simp] theorem execFmax_keepsPads (n d a b x : Nat) (s : State) : KeepsPads s (execFmax n d a b x s) := by simp [execFmax]
@[simp] theorem execFabs_keepsPads (n d a b x : Nat) (s : State) : KeepsPads s (execFabs n d a b x s) := by simp [execFabs]
@[simp] theorem execFneg_keepsPads (n d a b x : Nat) (s : State) : KeepsPads s (execFneg n d a b x s) := by simp [execFneg]
@[simp] theorem execSqrt_keepsPads (n d a b x : Nat) (s : State) : KeepsPads s (execSqrt n d a b x s) := by simp [execSqrt]
@[simp] theorem execDiv_keepsPads (n d a b x : Nat) (s : State) : KeepsPads s (execDiv n d a b x s) := by simp [execDiv]
@[simp] theorem execFcmp_keepsPads (n d a b x : Nat) (s : State) : KeepsPads s (execFcmp n d a b x s) := by simp [execFcmp]
@[simp] theorem execFtoi_keepsPads (n d a b x : Nat) (s : State) : KeepsPads s (execFtoi n d a b x s) := by simp [execFtoi]
@[simp] theorem execItof_keepsPads (n d a b x : Nat) (s : State) : KeepsPads s (execItof n d a b x s) := by simp [execItof]
@[simp] theorem execSincos_keepsPads (n d a b x : Nat) (s : State) : KeepsPads s (execSincos n d a b x s) := by simp [execSincos]
@[simp] theorem execIadd_keepsPads (n d a b x : Nat) (s : State) : KeepsPads s (execIadd n d a b x s) := by simp [execIadd]
@[simp] theorem execIsub_keepsPads (n d a b x : Nat) (s : State) : KeepsPads s (execIsub n d a b x s) := by simp [execIsub]
@[simp] theorem execIand_keepsPads (n d a b x : Nat) (s : State) : KeepsPads s (execIand n d a b x s) := by simp [execIand]
@[simp] theorem execIor_keepsPads (n d a b x : Nat) (s : State) : KeepsPads s (execIor n d a b x s) := by simp [execIor]
@[simp] theorem execIxor_keepsPads (n d a b x : Nat) (s : State) : KeepsPads s (execIxor n d a b x s) := by simp [execIxor]
@[simp] theorem execIshl_keepsPads (n d a b x : Nat) (s : State) : KeepsPads s (execIshl n d a b x s) := by simp [execIshl]
@[simp] theorem execIshr_keepsPads (n d a b x : Nat) (s : State) : KeepsPads s (execIshr n d a b x s) := by simp [execIshr]
@[simp] theorem execIli_keepsPads (n d imm : Nat) (s : State) : KeepsPads s (execIli n d imm s) := by simp [execIli]
@[simp] theorem execLdp_keepsPads (n d a b x : Nat) (s : State) : KeepsPads s (execLdp n d a b x s) := by simp [execLdp]
@[simp] theorem execStp_keepsPads (n d a b x : Nat) (s : State) : KeepsPads s (execStp n d a b x s) := by simp [execStp]
@[simp] theorem execLdg_keepsPads (n d a b x : Nat) (s : State) : KeepsPads s (execLdg n d a b x s) := by simp [execLdg]
@[simp] theorem execClarke_keepsPads (n d a b x : Nat) (s : State) : KeepsPads s (execClarke n d a b x s) := by simp [execClarke]
@[simp] theorem execIclarke_keepsPads (n d a b x : Nat) (s : State) : KeepsPads s (execIclarke n d a b x s) := by simp [execIclarke]
@[simp] theorem execPark_keepsPads (n d a b x : Nat) (s : State) : KeepsPads s (execPark n d a b x s) := by simp [execPark]
@[simp] theorem execIpark_keepsPads (n d a b x : Nat) (s : State) : KeepsPads s (execIpark n d a b x s) := by simp [execIpark]
@[simp] theorem execPistep_keepsPads (n d a b x : Nat) (s : State) : KeepsPads s (execPistep n d a b x s) := by simp [execPistep]
@[simp] theorem execLimit_keepsPads (n d a b x : Nat) (s : State) : KeepsPads s (execLimit n d a b x s) := by simp [execLimit]
@[simp] theorem execRegion_keepsPads (n d a b x : Nat) (s : State) : KeepsPads s (execRegion n d a b x s) := by simp [execRegion]
@[simp] theorem execProf_keepsPads (n d a b x : Nat) (s : State) : KeepsPads s (execProf n d a b x s) := by simp [execProf]
@[simp] theorem execPlaus_keepsPads (n d a b x : Nat) (s : State) : KeepsPads s (execPlaus n d a b x s) := by simp [execPlaus]
@[simp] theorem execBset_keepsPads (n d a b x : Nat) (s : State) : KeepsPads s (execBset n d a b x s) := by simp [execBset]
@[simp] theorem execSld_keepsPads (n d a b x : Nat) (s : State) : KeepsPads s (execSld n d a b x s) := by simp [execSld]
@[simp] theorem execSldSampleTimeout_keepsPads (n : Nat) (s : State) : KeepsPads s (execSldSampleTimeout n s) := by
  unfold execSldSampleTimeout
  split <;> simp
@[simp] theorem execCst_keepsPads (n d a b x : Nat) (s : State) : KeepsPads s (execCst n d a b x s) := by simp [execCst]
@[simp] theorem execEvt_keepsPads (n d a b x : Nat) (s : State) : KeepsPads s (execEvt n d a b x s) := by simp [execEvt]
@[simp] theorem execBr_keepsPads (n d a b x : Nat) (s : State) : KeepsPads s (execBr n d a b x s) := by simp [execBr]
@[simp] theorem execBrc_keepsPads (n d a b x : Nat) (s : State) : KeepsPads s (execBrc n d a b x s) := by simp [execBrc]
@[simp] theorem execIllegalInstr_keepsPads (n : Nat) (s : State) : KeepsPads s (execIllegalInstr n s) := by
  unfold execIllegalInstr
  split <;> simp

/-! ### Sys2Proof/Machine/TracEst.lean -/

@[simp] theorem State.setTr_pads (s : State) (n : Nat) (t : Trac) : (s.setTr n t).pads = s.pads := by simp [State.setTr]
@[simp] theorem State.modTr_pads (s : State) (n : Nat) (f : Trac → Trac) : (s.modTr n f).pads = s.pads := by simp [State.modTr]

/-! ### Sys2Proof/Machine/TracTick.lean -/

@[simp] theorem State.checks_pads (s : State) (n : Nat) (e : Engine) (t : Trac) (i : TickIn) (id iq : F32) :
    (s.checks n e t i id iq).1.pads = s.pads := by
  unfold State.checks
  repeat' split
  all_goals simp
@[simp] theorem State.tracRun_pads (s : State) (n law : Nat) : (s.tracRun n law).pads = s.pads := by simp [State.tracRun]
@[simp] theorem State.tracTick_pads (s : State) (n : Nat) : (s.tracTick n).pads = s.pads := by
  simp only [State.tracTick]
  repeat' split
  all_goals simp
@[simp] theorem State.tracRelease_pads (s : State) (n : Nat) : (s.tracRelease n).pads = s.pads := by simp [State.tracRelease]

/-! ### Sys2Proof/Machine/Converter.lean -/

@[simp] theorem State.burstDv_pads (s : State) : s.burstDv.pads = s.pads := by simp [State.burstDv]
@[simp] theorem State.convRun_pads (s : State) : s.convRun.pads = s.pads := by
  simp only [State.convRun]
  split <;> simp
@[simp] theorem State.convTick_pads (s : State) : s.convTick.pads = s.pads := by
  unfold State.convTick
  repeat' split
  all_goals simp
@[simp] theorem State.tellVoutAbsent_pads (s : State) : s.tellVoutAbsent.pads = s.pads := by simp [State.tellVoutAbsent]
@[simp] theorem execConvStatus_keepsPads (c : Cmd) (s0 : State) : KeepsPads s0 (execConvStatus c s0) := by simp [execConvStatus]
@[simp] theorem execConvSync_keepsPads (c : Cmd) (s0 : State) : KeepsPads s0 (execConvSync c s0) := by simp [execConvSync]
@[simp] theorem execSyncEdge_keepsPads (interval : Nat) (phase : Int) (s : State) : KeepsPads s (execSyncEdge interval phase s) := by
  simp -implicitDefEqProofs [execSyncEdge]
@[simp] theorem execSyncLost_keepsPads (s : State) : KeepsPads s (execSyncLost s) := by simp [execSyncLost]
@[simp] theorem execConvVoutAbsent_keepsPads (s : State) : KeepsPads s (execConvVoutAbsent s) := by simp [execConvVoutAbsent]

/-! ### Sys2Proof/Machine/Charger.lean -/

@[simp] theorem State.chgFlush_pads (s : State) : s.chgFlush.pads = s.pads := by simp [State.chgFlush]
@[simp] theorem State.chgShow_pads (s : State) : s.chgShow.pads = s.pads := by simp [State.chgShow]
@[simp] theorem State.chgHold_pads (s : State) (b : Nat) (v : Bool) : (s.chgHold b v).pads = s.pads := by simp [State.chgHold]
@[simp] theorem State.armWord_pads (s : State) (b : Nat) (v new : Bool) : (s.armWord b v new).pads = s.pads := by simp [State.armWord]
@[simp] theorem State.contact_pads (s : State) (lv : Bool) : (s.contact lv).pads = s.pads := by simp [State.contact]
@[simp] theorem State.lvEnd_pads (s : State) : s.lvEnd.pads = s.pads := by
  simp only [State.lvEnd]
  split <;> simp
@[simp] theorem State.supplyEvent_pads (s : State) (k : Nat) : (s.supplyEvent k).pads = s.pads := by simp [State.supplyEvent]
@[simp] theorem State.stageLeg_pads (s : State) (n u l : Nat) (v : F32) : (s.stageLeg n u l v).pads = s.pads := by
  unfold State.stageLeg
  split <;> simp
@[simp] theorem State.chgStage_pads (s : State) (shift : F32) : (s.chgStage shift).pads = s.pads := by simp [State.chgStage]
@[simp] theorem State.supStep_pads (s : State) (okBus : Bool) : (s.supStep okBus).pads = s.pads := by simp [State.supStep]
@[simp] theorem State.chgHv_pads (s : State) (i : ChgIn) : (s.chgHv i).1.pads = s.pads := by
  simp only [State.chgHv]
  split <;> simp
@[simp] theorem State.chgLv_pads (s : State) (i : ChgIn) : (s.chgLv i).pads = s.pads := by simp [State.chgLv]
@[simp] theorem State.chgDab_pads (s : State) (i : ChgIn) (iref : F32) : (s.chgDab i iref).pads = s.pads := by simp [State.chgDab]
@[simp] theorem State.chgPlaus_pads (s : State) (i : ChgIn) (on : Bool) : (s.chgPlaus i on).pads = s.pads := by simp [State.chgPlaus]
@[simp] theorem State.chgWords_pads (s : State) (i : ChgIn) (iref : F32) (acl : Bool) : (s.chgWords i iref acl).pads = s.pads := by
  simp [State.chgWords]
@[simp] theorem State.chgRun_pads (s : State) : s.chgRun.pads = s.pads := by simp [State.chgRun]
@[simp] theorem State.chgTick_pads (s : State) : s.chgTick.pads = s.pads := by
  unfold State.chgTick
  repeat' split
  all_goals simp
@[simp] theorem State.chargeEntry_pads (s : State) : s.chargeEntry.pads = s.pads := by simp [State.chargeEntry]
@[simp] theorem State.chargeLeaving_pads (s : State) : s.chargeLeaving.pads = s.pads := by simp [State.chargeLeaving]
@[simp] theorem State.phaseWords_pads (s : State) (c : Cmd) (first : Nat) : (s.phaseWords c first).pads = s.pads := by simp [State.phaseWords]
@[simp] theorem execChgArm_keepsPads (c : Cmd) (s0 : State) : KeepsPads s0 (execChgArm c s0) := by simp [execChgArm]
@[simp] theorem execChgLimit_keepsPads (c : Cmd) (s0 : State) : KeepsPads s0 (execChgLimit c s0) := by simp [execChgLimit]
@[simp] theorem execChgStatus_keepsPads (c : Cmd) (s0 : State) : KeepsPads s0 (execChgStatus c s0) := by simp [execChgStatus]
@[simp] theorem execSupSet_keepsPads (c : Cmd) (s0 : State) : KeepsPads s0 (execSupSet c s0) := by simp [execSupSet]
@[simp] theorem execLvChgLimit_keepsPads (c : Cmd) (s0 : State) : KeepsPads s0 (execLvChgLimit c s0) := by simp [execLvChgLimit]
@[simp] theorem State.pilotEvent_pads (s : State) : s.pilotEvent.pads = s.pads := by simp [State.pilotEvent]
@[simp] theorem State.plugCheck_pads (s : State) : s.plugCheck.pads = s.pads := by simp [State.plugCheck]
@[simp] theorem execLvVsetForward_keepsPads (s : State) : KeepsPads s (execLvVsetForward s) := by simp [execLvVsetForward]

/-! ### Sys2Proof/Machine/Motion.lean -/

@[simp] theorem State.setAct_pads (s : State) (m : Nat) (a : Act) : (s.setAct m a).pads = s.pads := by simp [State.setAct]
@[simp] theorem State.actSay_pads (s : State) (n : Nat) (isRec : Bool) (code : Nat) (c0 c1 : Word) :
    (s.actSay n isRec code c0 c1).pads = s.pads := by simp [State.actSay]
@[simp] theorem State.actLoops_pads (s : State) (m : Nat) (a : Act) : (s.actLoops m a).st.pads = s.pads := by
  simp only [State.actLoops]
  split <;> simp
@[simp] theorem State.actMotor_pads (s : State) (m : Nat) : (s.actMotor m).pads = s.pads := by
  simp only [State.actMotor]
  repeat' split
  all_goals simp
@[simp] theorem State.actRun_pads (s : State) (n : Nat) : (s.actRun n).pads = s.pads := by simp [State.actRun]
@[simp] theorem State.actTick_pads (s : State) (n : Nat) : (s.actTick n).pads = s.pads := by
  simp only [State.actTick]
  repeat' split
  all_goals simp
@[simp] theorem State.parkWatch_pads (s : State) : s.parkWatch.pads = s.pads := by simp [State.parkWatch]
@[simp] theorem State.actRelease_pads (s0 : State) (n : Nat) : (s0.actRelease n).pads = s0.pads := by simp [State.actRelease]
@[simp] theorem State.motSetpoint_keepsPads (s : State) (c : Cmd) (opcode bytes mode : Nat) (ok : Nat → Bool) (words : Nat → List (Nat × Word)) :
    KeepsPads s (s.motSetpoint c opcode bytes mode ok words) := by simp [State.motSetpoint]
@[simp] theorem execActCurrent_keepsPads (c : Cmd) (s0 : State) : KeepsPads s0 (execActCurrent c s0) := by simp [execActCurrent]
@[simp] theorem execActSpeed_keepsPads (c : Cmd) (s0 : State) : KeepsPads s0 (execActSpeed c s0) := by simp [execActSpeed]
@[simp] theorem execActMove_keepsPads (c : Cmd) (s0 : State) : KeepsPads s0 (execActMove c s0) := by simp [execActMove]
@[simp] theorem execActStatus_keepsPads (c : Cmd) (s0 : State) : KeepsPads s0 (execActStatus c s0) := by simp [execActStatus]
@[simp] theorem execEncStatus_keepsPads (c : Cmd) (s0 : State) : KeepsPads s0 (execEncStatus c s0) := by simp [execEncStatus]
@[simp] theorem State.parkEvent_pads (s : State) (k : Nat) : (s.parkEvent k).pads = s.pads := by simp [State.parkEvent]
@[simp] theorem State.parkHoldBit_pads (s : State) (v : Bool) : (s.parkHoldBit v).pads = s.pads := by
  unfold State.parkHoldBit
  split <;> simp
@[simp] theorem State.parkRequest_pads (s : State) (engage : Bool) : (s.parkRequest engage).pads = s.pads := by
  simp only [State.parkRequest]
  repeat' split
  all_goals simp
@[simp] theorem execParkRecheck_keepsPads (s : State) : KeepsPads s (execParkRecheck s) := by
  unfold execParkRecheck
  split <;> simp

/-! ### Sys2Proof/Machine/Traction.lean -/

@[simp] theorem State.tracSetpoint_keepsPads (s : State) (c : Cmd) (opcode : Nat) (bad : Bool) (words : List (Nat × Word)) :
    KeepsPads s (s.tracSetpoint c opcode bad words) := by simp [State.tracSetpoint]
@[simp] theorem execTrqSet_keepsPads (c : Cmd) (s0 : State) : KeepsPads s0 (execTrqSet c s0) := by simp [execTrqSet]
@[simp] theorem execSpdSet_keepsPads (c : Cmd) (s0 : State) : KeepsPads s0 (execSpdSet c s0) := by simp [execSpdSet]
@[simp] theorem execCtrlSel_keepsPads (c : Cmd) (s0 : State) : KeepsPads s0 (execCtrlSel c s0) := by simp [execCtrlSel]
@[simp] theorem execTrqStatus_keepsPads (c : Cmd) (s0 : State) : KeepsPads s0 (execTrqStatus c s0) := by simp [execTrqStatus]
@[simp] theorem execTrcParamWrite_keepsPads (c : Cmd) (s0 : State) : KeepsPads s0 (execTrcParamWrite c s0) := by simp [execTrcParamWrite]
@[simp] theorem execTrcParamRead_keepsPads (c : Cmd) (s0 : State) : KeepsPads s0 (execTrcParamRead c s0) := by simp [execTrcParamRead]
@[simp] theorem execLawSel_keepsPads (c : Cmd) (s0 : State) : KeepsPads s0 (execLawSel c s0) := by simp [execLawSel]
@[simp] theorem State.lawRelease_pads (s : State) (n : Nat) : (s.lawRelease n).pads = s.pads := by
  simp only [State.lawRelease]
  repeat' split
  all_goals simp
@[simp] theorem State.rampAll_pads (s : State) (kind ms : Nat) : (s.rampAll kind ms).pads = s.pads := by simp [State.rampAll]
@[simp] theorem State.rampHandover_pads (s : State) : s.rampHandover.pads = s.pads := by simp [State.rampHandover]
@[simp] theorem State.endRamp_pads (s : State) (kind : Nat) : (s.endRamp kind).pads = s.pads := by simp [State.endRamp]
@[simp] theorem State.modEst_pads (s : State) (n : Nat) (f : Est → Est) : (s.modEst n f).pads = s.pads := by simp [State.modEst]
@[simp] theorem State.tellSetpointWd_pads (s : State) (n : Nat) : (s.tellSetpointWd n).pads = s.pads := by simp [State.tellSetpointWd]
@[simp] theorem State.tellOverspeed_pads (s : State) (n : Nat) : (s.tellOverspeed n).pads = s.pads := by simp [State.tellOverspeed]
@[simp] theorem State.tellVdcAbsent_pads (s : State) (n : Nat) : (s.tellVdcAbsent n).pads = s.pads := by simp [State.tellVdcAbsent]
@[simp] theorem State.tellBandSat_pads (s : State) (n : Nat) : (s.tellBandSat n).pads = s.pads := by simp [State.tellBandSat]
@[simp] theorem State.tellFswLimit_pads (s : State) (n : Nat) : (s.tellFswLimit n).pads = s.pads := by
  simp only [State.tellFswLimit]
  split <;> simp
@[simp] theorem State.tellLocked_pads (s : State) (n : Nat) : (s.tellLocked n).pads = s.pads := by simp [State.tellLocked]
@[simp] theorem State.tellAcquireFail_pads (s : State) (n : Nat) : (s.tellAcquireFail n).pads = s.pads := by simp [State.tellAcquireFail]
@[simp] theorem State.tellDecayTimeout_pads (s : State) (n : Nat) : (s.tellDecayTimeout n).pads = s.pads := by simp [State.tellDecayTimeout]
@[simp] theorem State.tellFwEnd_pads (s : State) (n : Nat) : (s.tellFwEnd n).pads = s.pads := by simp [State.tellFwEnd]
@[simp] theorem State.tellAscEnd_pads (s : State) (n : Nat) : (s.tellAscEnd n).pads = s.pads := by simp [State.tellAscEnd]
@[simp] theorem State.tellRecaptureFail_pads (s : State) (n : Nat) : (s.tellRecaptureFail n).pads = s.pads := by simp [State.tellRecaptureFail]
@[simp] theorem State.tellAll_pads (s : State) (n : Nat) : (s.tellAll n).pads = s.pads := by simp [State.tellAll]
@[simp] theorem State.condition_keepsPads (s : State) (n : Nat) (f : State → Nat → State) (h : (f s n).pads = s.pads) :
    KeepsPads s (s.condition n f) := by
  simp [State.condition, h]
@[simp] theorem execSetpointWdExpiry_keepsPads (n : Nat) (s : State) : KeepsPads s (execSetpointWdExpiry n s) := by simp [execSetpointWdExpiry]
@[simp] theorem execOverspeed_keepsPads (n : Nat) (s : State) : KeepsPads s (execOverspeed n s) := by simp [execOverspeed]
@[simp] theorem execVdcAbsent_keepsPads (n : Nat) (s : State) : KeepsPads s (execVdcAbsent n s) := by simp [execVdcAbsent]
@[simp] theorem execBandSat_keepsPads (n : Nat) (s : State) : KeepsPads s (execBandSat n s) := by simp [execBandSat]
@[simp] theorem execFswLimit_keepsPads (n : Nat) (s : State) : KeepsPads s (execFswLimit n s) := by simp [execFswLimit]
@[simp] theorem execEstimatorLocked_keepsPads (n : Nat) (s : State) : KeepsPads s (execEstimatorLocked n s) := by simp [execEstimatorLocked]
@[simp] theorem execAcquireFail_keepsPads (n : Nat) (s : State) : KeepsPads s (execAcquireFail n s) := by simp [execAcquireFail]
@[simp] theorem execRecapDecayTimeout_keepsPads (n : Nat) (s : State) : KeepsPads s (execRecapDecayTimeout n s) := by simp [execRecapDecayTimeout]
@[simp] theorem execRecapFwEnd_keepsPads (n : Nat) (s : State) : KeepsPads s (execRecapFwEnd n s) := by simp [execRecapFwEnd]
@[simp] theorem execRecapAscEnd_keepsPads (n : Nat) (s : State) : KeepsPads s (execRecapAscEnd n s) := by simp [execRecapAscEnd]
@[simp] theorem execRecaptureFail_keepsPads (n : Nat) (s : State) : KeepsPads s (execRecaptureFail n s) := by simp [execRecaptureFail]

/-! ### Sys2Proof/Machine/FieldEngine.lean -/

@[simp] theorem State.setpointResult_pads (s : State) (n : Nat) (p : Setpoint) (st : Status) (v : Nat) :
    (s.setpointResult n p st v).pads = s.pads := by simp [State.setpointResult]
@[simp] theorem State.bump_pads (s : State) (n p : Nat) : (s.bump n p).pads = s.pads := by simp [State.bump]
@[simp] theorem State.edgeSamples_pads (s : State) (n : Nat) : (s.edgeSamples n).pads = s.pads := by simp [State.edgeSamples]
@[simp] theorem State.strobe_pads (s : State) (n : Nat) : (s.strobe n).pads = s.pads := by simp [State.strobe]
@[simp] theorem State.breakHold_pads (s : State) (n : Nat) : (s.breakHold n).pads = s.pads := by simp [State.breakHold]
@[simp] theorem State.tickStart_pads (s : State) (n : Nat) : (s.tickStart n).pads = s.pads := by simp [State.tickStart]
@[simp] theorem State.tracStart_pads (s : State) (n : Nat) : (s.tracStart n).pads = s.pads := by simp [State.tracStart]
@[simp] theorem State.programStart_pads (s : State) (n : Nat) : (s.programStart n).pads = s.pads := by
  unfold State.programStart
  split <;> simp
@[simp] theorem State.returnEngine_pads (s : State) (n : Nat) : (s.returnEngine n).pads = s.pads := by simp [State.returnEngine]
@[simp] theorem State.startNow_pads (s : State) (n : Nat) : (s.startNow n).pads = s.pads := by simp [State.startNow]
@[simp] theorem State.startEngine_pads (s : State) (n : Nat) : (s.startEngine n).pads = s.pads := by simp [State.startEngine]
@[simp] theorem State.stopOrRestart_pads (s : State) (n : Nat) : (s.stopOrRestart n).pads = s.pads := by simp [State.stopOrRestart]
@[simp] theorem State.cbcStrobe_pads (s : State) (n : Nat) : (s.cbcStrobe n).pads = s.pads := by simp [State.cbcStrobe]
@[simp] theorem State.abortTick_pads (s : State) (n : Nat) : (s.abortTick n).pads = s.pads := by simp [State.abortTick]
@[simp] theorem execTickOverrun_keepsPads (n : Nat) (s : State) : KeepsPads s (execTickOverrun n s) := by simp [execTickOverrun]
@[simp] theorem State.divNote_pads (s : State) (unit cause when_ main checker : Nat) : (s.divNote unit cause when_ main checker).pads = s.pads := by
  simp [State.divNote]
@[simp] theorem State.feDiverge_pads (s : State) (n cause main checker : Nat) : (s.feDiverge n cause main checker).pads = s.pads := by
  simp [State.feDiverge]
@[simp] theorem State.releaseEvt_pads (s : State) (n : Nat) (v : EvtReq) : (s.releaseEvt n v).pads = s.pads := by simp [State.releaseEvt]
@[simp] theorem State.emuTheta_pads (s : State) (n : Nat) : (s.emuTheta n).pads = s.pads := by simp [State.emuTheta]
@[simp] theorem State.completeSetpoints_pads (s : State) (n : Nat) : (s.completeSetpoints n).pads = s.pads := by simp [State.completeSetpoints]
@[simp] theorem State.loadCycle_pads (s : State) (n cycle : Nat) : (s.loadCycle n cycle).pads = s.pads := by simp [State.loadCycle]
@[simp] theorem State.feCanary_pads (s : State) (n : Nat) (g : GateIn) : (s.feCanary n g).pads = s.pads := by simp [State.feCanary]
@[simp] theorem execFeRunStart_keepsPads (w : Writer) (n : Nat) (s0 : State) : KeepsPads s0 (execFeRunStart w n s0) := by simp [execFeRunStart]
@[simp] theorem State.askStop_pads (s : State) (n : Nat) : (s.askStop n).pads = s.pads := by simp [State.askStop]
@[simp] theorem execFeRunStop_keepsPads (w : Writer) (n : Nat) (s0 : State) : KeepsPads s0 (execFeRunStop w n s0) := by simp [execFeRunStop]
@[simp] theorem State.entryTo_pads (s : State) (n entry : Nat) : (s.entryTo n entry).pads = s.pads := by simp [State.entryTo]
@[simp] theorem execFeEntryWrite_keepsPads (w : Writer) (n entry : Nat) (s0 : State) : KeepsPads s0 (execFeEntryWrite w n entry s0) := by
  simp [execFeEntryWrite]
@[simp] theorem execFePstageHold_keepsPads (w : Writer) (n : Nat) (hold : Bool) (s0 : State) : KeepsPads s0 (execFePstageHold w n hold s0) := by
  simp [execFePstageHold]
@[simp] theorem State.paramTo_pads (s : State) (w : Writer) (n p : Nat) (v : Word) : (s.paramTo w n p v).pads = s.pads := by simp [State.paramTo]
@[simp] theorem execFeParamWrite_keepsPads (w : Writer) (n p : Nat) (vs : List Word) (s0 : State) :
    KeepsPads s0 (execFeParamWrite w n p vs s0) := by simp [execFeParamWrite]
@[simp] theorem State.loopTo_pads (s : State) (w : Writer) (n a : Nat) (v : Word) : (s.loopTo w n a v).pads = s.pads := by simp [State.loopTo]
@[simp] theorem execFeLoopStoreWrite_keepsPads (w : Writer) (n a : Nat) (v : Word) (s0 : State) :
    KeepsPads s0 (execFeLoopStoreWrite w n a v s0) := by simp [execFeLoopStoreWrite]

/-! ### Sys2Proof/Machine/Discovery.lean -/

@[simp] theorem State.loadEngine_pads (s : State) (n : Nat) : (s.loadEngine n).pads = s.pads := by simp [State.loadEngine]
@[simp] theorem State.loadVendor_pads (s : State) (n : Nat) : (s.loadVendor n).pads = s.pads := by simp [State.loadVendor]
@[simp] theorem State.loadEngines_pads (s : State) : s.loadEngines.pads = s.pads := by simp [State.loadEngines]
@[simp] theorem State.takeMeas_pads (s : State) (l : List (Nat × DiscMeas)) (ok : Nat → Bool) : (s.takeMeas l ok).pads = s.pads := by
  simp [State.takeMeas]
@[simp] theorem State.discLink_pads (s : State) : s.discLink.pads = s.pads := by simp [State.discLink]
@[simp] theorem State.readCap_pads (s : State) (h cap : Nat) : (s.readCap h cap).pads = s.pads := by simp [State.readCap]
@[simp] theorem State.configDriver_pads (s : State) (h : Nat) : (s.configDriver h).pads = s.pads := by simp [State.configDriver]
@[simp] theorem State.discEngine_pads (s : State) (n : Nat) : (s.discEngine n).pads = s.pads := by simp [State.discEngine]
@[simp] theorem State.discStart_pads (s : State) (meas : List (Nat × DiscMeas)) : (s.discStart meas).pads = s.pads := by simp [State.discStart]
@[simp] theorem execDiscoverStart_keepsPads (meas : List (Nat × DiscMeas)) (s : State) : KeepsPads s (execDiscoverStart meas s) := by
  simp [execDiscoverStart]
@[simp] theorem execDiscLinkWaitExpiry_keepsPads (s : State) : KeepsPads s (execDiscLinkWaitExpiry s) := by simp [execDiscLinkWaitExpiry]
@[simp] theorem State.gateDelay_pads (s : State) (h : Nat) (m : DiscMeas) : (s.gateDelay h m).pads = s.pads := by simp [State.gateDelay]
@[simp] theorem State.gateDelays_pads (s : State) : s.gateDelays.pads = s.pads :=
  State.each_pads (fun t h => by split <;> simp) _ _
@[simp] theorem State.judgeItem_pads (s : State) (n : Nat) : (s.judgeItem n).pads = s.pads := by
  unfold State.judgeItem
  split <;> simp
@[simp] theorem State.windings_pads (s : State) (meas : List (Nat × DiscMeas)) (emf : List Nat) : (s.windings meas emf).pads = s.pads := by
  simp [State.windings]
@[simp] theorem State.discFlags_pads (s : State) : s.discFlags.pads = s.pads := by simp [State.discFlags]
@[simp] theorem execDiscRun_keepsPads (c : Cmd) (meas : List (Nat × DiscMeas)) (s0 : State) : KeepsPads s0 (execDiscRun c meas s0) := by
  simp [execDiscRun]
@[simp] theorem execDiscAdopt_keepsPads (c : Cmd) (s0 : State) : KeepsPads s0 (execDiscAdopt c s0) := by simp [execDiscAdopt]
@[simp] theorem execDiscRead_keepsPads (c : Cmd) (s0 : State) : KeepsPads s0 (execDiscRead c s0) := by simp [execDiscRead]

/-! ### Sys2Proof/Machine/DcLink.lean -/

@[simp] theorem State.dclTell_pads (s : State) : s.dclTell.pads = s.pads := by simp [State.dclTell]
@[simp] theorem State.ov2Sample_pads (s : State) (code : Nat) : (s.ov2Sample code).pads = s.pads := by simp [State.ov2Sample]
@[simp] theorem State.dischargeSample_pads (s : State) (code : Nat) : (s.dischargeSample code).pads = s.pads := by
  unfold State.dischargeSample
  split <;> simp
@[simp] theorem execOv2Restore_keepsPads (s : State) : KeepsPads s (execOv2Restore s) := by simp [execOv2Restore]
@[simp] theorem execDclMonCompare_keepsPads (s : State) : KeepsPads s (execDclMonCompare s) := by simp [execDclMonCompare]
@[simp] theorem execDclQuery_keepsPads (c : Cmd) (s0 : State) : KeepsPads s0 (execDclQuery c s0) := by simp [execDclQuery]
@[simp] theorem execDclDischarge_keepsPads (c : Cmd) (s0 : State) : KeepsPads s0 (execDclDischarge c s0) := by simp [execDclDischarge]
@[simp] theorem State.endDischarge_pads (s : State) (st : Status) : (s.endDischarge st).pads = s.pads := by
  unfold State.endDischarge
  split <;> simp
@[simp] theorem State.chopTest_pads (s : State) (drop : Nat) (fault : Bool) : (s.chopTest drop fault).1.pads = s.pads := by
  simp only [State.chopTest]
  split <;> simp
@[simp] theorem execChopTest_keepsPads (c : Cmd) (drop : Nat) (fault : Bool) (s0 : State) : KeepsPads s0 (execChopTest c drop fault s0) := by
  simp [execChopTest]

/-! ### Sys2Proof/Machine/Tally.lean -/

@[simp] theorem State.judgeSafe_pads (s : State) (k c : Nat) (bs : List Byte) (at_ : Time) : (s.judgeSafe k c bs at_).pads = s.pads := by
  unfold State.judgeSafe
  split <;> simp
@[simp] theorem State.tallyAccept_pads (s : State) (k c gap sq : Nat) (payload : List Byte) (at_ : Time) :
    (s.tallyAccept k c gap sq payload at_).pads = s.pads := by simp [State.tallyAccept]
@[simp] theorem State.tallyFree_pads (s : State) : s.tallyFree.pads = s.pads := by simp [State.tallyFree]
@[simp] theorem State.tallyArrive_pads (s : State) (c path : Nat) (bs : List Byte) : (s.tallyArrive c path bs).pads = s.pads := by
  unfold State.tallyArrive
  dsimp only
  split
  · next t h => exact State.pads_of_pair (s.takeStall_pads _) h
  · next t n h => simp [State.pads_of_pair (s.takeStall_pads _) h]
@[simp] theorem State.sendFrame_pads (s : State) (f : OutFrame) : (s.sendFrame f).pads = s.pads := by simp [State.sendFrame]
@[simp] theorem State.releaseFrames_pads (s : State) (k : Nat) : (s.releaseFrames k).pads = s.pads := by simp [State.releaseFrames]
@[simp] theorem State.glCount_pads (s : State) (path : Nat) : (s.glCount path).pads = s.pads := by simp [State.glCount]
@[simp] theorem execTallyTransmit_keepsPads (c : Nat) (s : State) : KeepsPads s (execTallyTransmit c s) := by simp [execTallyTransmit]
@[simp] theorem State.tallyCfgPut_pads (s : State) (c : Nat) (v : Word) : (s.tallyCfgPut c v).pads = s.pads := by simp [State.tallyCfgPut]
@[simp] theorem State.tallyWrite_pads (s : State) (w : Writer) (c : Nat) (v : Word) : (s.tallyWrite w c v).pads = s.pads := by
  simp [State.tallyWrite]
@[simp] theorem execTallyEnable_keepsPads (w : Writer) (c : Nat) (v : Word) (s0 : State) : KeepsPads s0 (execTallyEnable w c v s0) := by
  simp [execTallyEnable]
@[simp] theorem execTallyRearm_keepsPads (c : Cmd) (s0 : State) : KeepsPads s0 (execTallyRearm c s0) := by simp [execTallyRearm]
@[simp] theorem execTallyTxSet_keepsPads (c : Cmd) (s0 : State) : KeepsPads s0 (execTallyTxSet c s0) := by simp [execTallyTxSet]
@[simp] theorem execTallyRead_keepsPads (c : Cmd) (s0 : State) : KeepsPads s0 (execTallyRead c s0) := by simp [execTallyRead]

/-! ### Sys2Proof/Machine/SafetyIo.lean -/

@[simp] theorem State.setSin_pads (s : State) (n : Nat) (x : Sin) : (s.setSin n x).pads = s.pads := by simp [State.setSin]
@[simp] theorem State.setSout_pads (s : State) (n : Nat) (x : Sout) : (s.setSout n x).pads = s.pads := by simp [State.setSout]
@[simp] theorem State.soutVerdict_pads (s : State) (n : Nat) (low high : Bool) : (s.soutVerdict n low high).pads = s.pads := by
  simp [State.soutVerdict]
@[simp] theorem State.soutCommand_pads (s : State) (n : Nat) (on : Bool) : (s.soutCommand n on).pads = s.pads := by simp [State.soutCommand]
@[simp] theorem State.refreshSout_pads (s : State) : s.refreshSout.pads = s.pads := by simp [State.refreshSout]
@[simp] theorem State.soutPulse_pads (s : State) (n : Nat) : (s.soutPulse n).pads = s.pads := by simp [State.soutPulse]
@[simp] theorem execSoutTestPulse_keepsPads (n : Nat) (s : State) : KeepsPads s (execSoutTestPulse n s) := by simp [execSoutTestPulse]
@[simp] theorem State.soutOwed_pads (s : State) : s.soutOwed.pads = s.pads := by simp [State.soutOwed]
@[simp] theorem execSoutTestPulseEnd_keepsPads (n : Nat) (low : Bool) (s : State) : KeepsPads s (execSoutTestPulseEnd n low s) := by
  simp [execSoutTestPulseEnd]
@[simp] theorem execSoutTestJudge_keepsPads (n : Nat) (high : Bool) (s : State) : KeepsPads s (execSoutTestJudge n high s) := by
  simp [execSoutTestJudge]
@[simp] theorem execSoutReadbackFault_keepsPads (n : Nat) (s : State) : KeepsPads s (execSoutReadbackFault n s) := by simp [execSoutReadbackFault]
@[simp] theorem State.hwForces_pads (s : State) : s.hwForces.pads = s.pads := by simp [State.hwForces]
@[simp] theorem State.discChange_pads (s : State) (n : Nat) (b : Bool) : (s.discChange n b).pads = s.pads := by simp [State.discChange]
@[simp] theorem execSinContactChange_keepsPads (n : Nat) (b level : Bool) (s : State) : KeepsPads s (execSinContactChange n b level s) := by
  simp [execSinContactChange]
@[simp] theorem State.scanPark_pads (s : State) (k : Nat) (x : Scan) : (s.scanPark k x).pads = s.pads := by simp [State.scanPark]
@[simp] theorem execSafetyRowTimerExpiry_keepsPads (pair row : Nat) (s : State) : KeepsPads s (execSafetyRowTimerExpiry pair row s) := by
  simp [execSafetyRowTimerExpiry]
@[simp] theorem State.soutRelease_pads (s : State) (k : Nat) : (s.soutRelease k).pads = s.pads := by simp [State.soutRelease]
@[simp] theorem execWardenKick_keepsPads (pair : Nat) (s : State) : KeepsPads s (execWardenKick pair s) := by simp [execWardenKick]
@[simp] theorem State.loadTable_pads (s : State) (t : List Nat) : (s.loadTable t).pads = s.pads := by simp [State.loadTable]
@[simp] theorem execSafeTableWrite_keepsPads (c : Cmd) (s0 : State) : KeepsPads s0 (execSafeTableWrite c s0) := by simp [execSafeTableWrite]
@[simp] theorem execSafeIoStatus_keepsPads (c : Cmd) (s0 : State) : KeepsPads s0 (execSafeIoStatus c s0) := by simp [execSafeIoStatus]

/-! ### Sys2Proof/Machine/Store.lean -/

@[simp] theorem State.answer_pads (s : State) (resp data : Nat) : (s.answer resp data).pads = s.pads := by simp [State.answer]
@[simp] theorem State.upset_pads (s : State) (o : Nat) (e : EccHit) : (s.upset o e).pads = s.pads := by simp [State.upset]
@[simp] theorem State.serve_pads (s : State) (a : Access) (e : EccHit) : (s.serve a e).pads = s.pads := by
  unfold State.serve
  dsimp only
  split
  · simp
  · split
    · next t h => simpa using State.pads_of_pair (State.checkWord_pads ..) h
    · next t h => simpa using State.pads_of_pair (State.checkWord_pads ..) h
@[simp] theorem State.otherWrite_pads (s : State) (a : Access) (x : Side) : (s.otherWrite a x).pads = s.pads := by simp [State.otherWrite]
@[simp] theorem State.busy_pads (s : State) : s.busy.pads = s.pads := by simp [State.busy]
@[simp] theorem State.collide_pads (s : State) : s.collide.pads = s.pads := by simp [State.collide]
@[simp] theorem State.serveBoth_pads (s : State) (a : Access) : (s.serveBoth a).pads = s.pads := by
  unfold State.serveBoth
  split <;> simp
@[simp] theorem State.regionRefused_pads (s : State) (a : Access) : (s.regionRefused a).pads = s.pads := by simp [State.regionRefused]
@[simp] theorem State.bankOff_pads (s : State) : s.bankOff.pads = s.pads := by simp [State.bankOff]
@[simp] theorem State.sectorWritten_pads (s : State) (a : Nat) : (s.sectorWritten a).pads = s.pads := by simp [State.sectorWritten]
@[simp] theorem State.fwWrite_pads (s : State) : s.fwWrite.pads = s.pads := by simp [State.fwWrite]
@[simp] theorem State.mramUpset_pads (s : State) (a flips : Nat) : (s.mramUpset a flips).pads = s.pads := by simp [State.mramUpset]
@[simp] theorem State.mramChecked_pads (s : State) (a : Nat) : (s.mramChecked a).pads = s.pads := by
  unfold State.mramChecked
  split <;> simp
@[simp] theorem State.mramWrite_pads (s : State) (a n v : Nat) : (s.mramWrite a n v).pads = s.pads := by simp [State.mramWrite]
@[simp] theorem State.mramAccess_pads (s0 : State) (a : Access) : (s0.mramAccess a).pads = s0.pads := by simp [State.mramAccess]
@[simp] theorem State.nextWindow_pads (s : State) : s.nextWindow.pads = s.pads := by simp [State.nextWindow]
@[simp] theorem State.abortWindow_pads (s : State) (w : Nat) : (s.abortWindow w).pads = s.pads := by
  simp -implicitDefEqProofs [State.abortWindow]
@[simp] theorem State.meetWindow_pads (s : State) (o : Nat) (portD : Bool) : (s.meetWindow o portD).pads = s.pads := by
  unfold State.meetWindow
  split <;> simp
@[simp] theorem State.sramAccess_pads (s : State) (a : Access) : (s.sramAccess a).pads = s.pads := by simp [State.sramAccess]
@[simp] theorem execSramAccess_keepsPads (a : Access) (s : State) : KeepsPads s (execSramAccess a s) := by simp [execSramAccess]
@[simp] theorem State.lockedOut_pads (s : State) (a : Access) : (s.lockedOut a).pads = s.pads := by
  unfold State.lockedOut
  split <;> simp
@[simp] theorem State.atomic_pads (s : State) (a : Access) (f : Nat → Nat) : (s.atomic a f).pads = s.pads := by
  unfold State.atomic
  dsimp only
  iterate 5
    split
    · simp
  split
  · next t h => simp [State.pads_of_pair (State.checkWord_pads ..) h]
  · next t h => simp [State.pads_of_pair (State.checkWord_pads ..) h]
@[simp] theorem execAadd_keepsPads (a : Access) (s : State) : KeepsPads s (execAadd a s) := by simp [execAadd]
@[simp] theorem execAswp_keepsPads (a : Access) (s : State) : KeepsPads s (execAswp a s) := by simp [execAswp]
@[simp] theorem execBankPowerRequest_keepsPads (w : Writer) (k : Nat) (v : Word) (s0 : State) : KeepsPads s0 (execBankPowerRequest w k v s0) := by
  simp [execBankPowerRequest]
@[simp] theorem execBankIdleRetention_keepsPads (bank : Nat) (s : State) : KeepsPads s (execBankIdleRetention bank s) := by
  simp [execBankIdleRetention]
@[simp] theorem State.track_pads (s : State) (o : Nat) : (s.track o).pads = s.pads := by
  simp only [State.track]
  split <;> simp
@[simp] theorem State.scrubWord_pads (s : State) (o addr : Nat) : (s.scrubWord o addr).pads = s.pads := by simp [State.scrubWord]
@[simp] theorem execScrubLine_keepsPads (found : List EccHit) (s : State) : KeepsPads s (execScrubLine found s) := by simp [execScrubLine]
@[simp] theorem execScrubPriorityWriteback_keepsPads (s : State) : KeepsPads s (execScrubPriorityWriteback s) := by
  unfold execScrubPriorityWriteback
  split <;> simp
@[simp] theorem execTrackerEntryExpiry_keepsPads (word : Nat) (s : State) : KeepsPads s (execTrackerEntryExpiry word s) := by
  simp [execTrackerEntryExpiry]
@[simp] theorem State.copyRow_pads (s : State) (b r : Nat) : (s.copyRow b r).pads = s.pads := by simp [State.copyRow]
@[simp] theorem State.repair_pads (s : State) (o cause : Nat) : (s.repair o cause).pads = s.pads := by simp [State.repair]
@[simp] theorem execRowRepair_keepsPads (word cause : Nat) (s : State) : KeepsPads s (execRowRepair word cause s) := by simp [execRowRepair]
@[simp] theorem execBgtWindowStep_keepsPads (ends : Bool) (fails : Option Nat) (s : State) : KeepsPads s (execBgtWindowStep ends fails s) := by
  unfold execBgtWindowStep
  repeat' split
  all_goals simp
@[simp] theorem execMramDailyRead_keepsPads (addr flips : Nat) (s : State) : KeepsPads s (execMramDailyRead addr flips s) := by
  simp [execMramDailyRead]

/-! ### Sys2Proof/Machine/PairOps.lean -/

@[simp] theorem State.setWarden_pads (s : State) (k : Nat) (w : Warden) : (s.setWarden k w).pads = s.pads := by simp [State.setWarden]
@[simp] theorem State.dropTurnstile_pads (s : State) (k : Nat) : (s.dropTurnstile k).pads = s.pads := by simp [State.dropTurnstile]
@[simp] theorem State.dbgEnd_pads (s : State) (t : Nat) : (s.dbgEnd t).pads = s.pads := by simp [State.dbgEnd]
@[simp] theorem State.dbgShow_pads (s : State) : s.dbgShow.pads = s.pads := by simp [State.dbgShow]
@[simp] theorem State.replayed_pads (s : State) (k : Nat) : (s.replayed k).pads = s.pads := by simp [State.replayed]
@[simp] theorem execPairStatus_keepsPads (c : Cmd) (s0 : State) : KeepsPads s0 (execPairStatus c s0) := by simp [execPairStatus]
@[simp] theorem State.coreMiss_pads (s : State) (j : Nat) : (s.coreMiss j).pads = s.pads := by simp [State.coreMiss]
@[simp] theorem State.checkIn_pads (s : State) (w : Writer) (j : Nat) (v : Word) : (s.checkIn w j v).pads = s.pads := by simp [State.checkIn]
@[simp] theorem execPairCheckin_keepsPads (w : Writer) (j : Nat) (v : Word) (s0 : State) : KeepsPads s0 (execPairCheckin w j v s0) := by
  simp [execPairCheckin]
@[simp] theorem execSupervisionMiss_keepsPads (j : Nat) (s : State) : KeepsPads s (execSupervisionMiss j s) := by simp [execSupervisionMiss]
@[simp] theorem State.engineDiverge_pads (s : State) (n cause main checker : Nat) : (s.engineDiverge n cause main checker).pads = s.pads := by
  simp [State.engineDiverge]
@[simp] theorem State.dbgRefuse_pads (s : State) : s.dbgRefuse.pads = s.pads := by simp [State.dbgRefuse]
@[simp] theorem State.dbgSelect_pads (s : State) (t : Nat) : (s.dbgSelect t).1.pads = s.pads := by
  unfold State.dbgSelect
  split <;> simp
@[simp] theorem State.dbgStep_pads (s : State) (t : Nat) : (s.dbgStep t).pads = s.pads := by simp [State.dbgStep]
@[simp] theorem State.dbgCtrl_pads (s : State) (w : Writer) (t : Nat) (act : State → Nat → State) (h : ∀ u k, (act u k).pads = u.pads) :
    (s.dbgCtrl w t act).pads = s.pads := by
  unfold State.dbgCtrl
  split
  · rfl
  · split
    · next u hu => simp [h, State.pads_of_pair (s.dbgSelect_pads _) hu]
    · next u hu => exact State.pads_of_pair (s.dbgSelect_pads _) hu
@[simp] theorem execDbgStep_keepsPads (w : Writer) (t : Nat) (s0 : State) : KeepsPads s0 (execDbgStep w t s0) := by simp [execDbgStep]
@[simp] theorem State.dbgAccess_pads (s : State) (t : Nat) (write : Bool) (v : Word) : (s.dbgAccess t write v).pads = s.pads := by
  simp [State.dbgAccess]

/-! ### Sys2Proof/Machine/Ledger.lean -/

@[simp] theorem State.logDropped_pads (s : State) : s.logDropped.pads = s.pads := by simp [State.logDropped]
@[simp] theorem State.logRec_pads (s : State) (r : Rec) : (s.logRec r).pads = s.pads := by
  unfold State.logRec
  repeat' split
  all_goals simp
@[simp] theorem State.tellDrop_pads (s : State) : s.tellDrop.pads = s.pads := by simp [State.tellDrop]
@[simp] theorem State.ledgerDrain_pads (s : State) : s.ledgerDrain.pads = s.pads := by
  unfold State.ledgerDrain
  split <;> simp
@[simp] theorem execLedgerMramWrite_keepsPads (s : State) : KeepsPads s (execLedgerMramWrite s) := by simp [execLedgerMramWrite]
@[simp] theorem State.report_pads (s : State) (r : Rec) : (s.report r).pads = s.pads := by simp [State.report]
@[simp] theorem State.showQueue_pads (s : State) : s.showQueue.pads = s.pads := by simp [State.showQueue]
@[simp] theorem State.preempt_pads (s : State) (sev : Nat) : (s.preempt sev).pads = s.pads := by
  unfold State.preempt
  split <;> simp
@[simp] theorem State.enqueue_pads (s : State) (r : Rec) : (s.enqueue r).pads = s.pads := by simp [State.enqueue]
@[simp] theorem State.raiseIn_pads (s : State) (x : RecIn) : (s.raiseIn x).pads = s.pads := by simp [State.raiseIn]
@[simp] theorem State.finishRec_pads (s : State) : s.finishRec.pads = s.pads := by
  unfold State.finishRec
  split <;> simp
@[simp] theorem State.writeQueue_pads (s : State) : s.writeQueue.pads = s.pads := by simp [State.writeQueue]
@[simp] theorem State.issueAll_pads (s : State) : s.issueAll.pads = s.pads := by simp [State.issueAll]
@[simp] theorem execLogRead_keepsPads (c : Cmd) (s0 : State) : KeepsPads s0 (execLogRead c s0) := by simp [execLogRead]
@[simp] theorem execLogErase_keepsPads (c : Cmd) (s0 : State) : KeepsPads s0 (execLogErase c s0) := by simp [execLogErase]
@[simp] theorem execFaultClear_keepsPads (c : Cmd) (s0 : State) : KeepsPads s0 (execFaultClear c s0) := by simp [execFaultClear]
@[simp] theorem execCommAuth_keepsPads (c : Cmd) (s0 : State) : KeepsPads s0 (execCommAuth c s0) := by simp [execCommAuth]
@[simp] theorem execCommAuthExpiry_keepsPads (s : State) : KeepsPads s (execCommAuthExpiry s) := by
  unfold execCommAuthExpiry
  split <;> simp
@[simp] theorem execCommCheck_keepsPads (c : Cmd) (s0 : State) : KeepsPads s0 (execCommCheck c s0) := by simp [execCommCheck]
@[simp] theorem State.confirmSet_pads (s : State) (v : Word) : (s.confirmSet v).pads = s.pads := by
  simp -implicitDefEqProofs [State.confirmSet]

/-! ### Sys2Proof/Machine/Ownership.lean -/

@[simp] theorem State.handEvent_pads (s : State) (outcome : Nat) : (s.handEvent outcome).pads = s.pads := by simp [State.handEvent]
@[simp] theorem State.abortOp_pads (s : State) (o : Op) : (s.abortOp o).pads = s.pads := by simp [State.abortOp]
@[simp] theorem State.abortB_pads (s : State) (m : Nat) : (s.abortB m).pads = s.pads := by simp [State.abortB]
@[simp] theorem State.discardHeld_pads (s : State) (m : Nat) : (s.discardHeld m).pads = s.pads := by simp [State.discardHeld]
@[simp] theorem State.openWindow_pads (s : State) (barred : Option Nat) : (s.openWindow barred).pads = s.pads := by simp [State.openWindow]
@[simp] theorem State.handOver_pads (s : State) : s.handOver.pads = s.pads := by simp [State.handOver]
@[simp] theorem State.revert_pads (s : State) : s.revert.pads = s.pads := by simp [State.revert]
@[simp] theorem execOwnQuery_keepsPads (c : Cmd) (s0 : State) : KeepsPads s0 (execOwnQuery c s0) := by simp [execOwnQuery]
@[simp] theorem execOwnClaim_keepsPads (c : Cmd) (s0 : State) : KeepsPads s0 (execOwnClaim c s0) := by simp [execOwnClaim]
@[simp] theorem execOwnHandover_keepsPads (c : Cmd) (s0 : State) : KeepsPads s0 (execOwnHandover c s0) := by simp [execOwnHandover]
@[simp] theorem execOwnConfirm_keepsPads (c : Cmd) (s0 : State) : KeepsPads s0 (execOwnConfirm c s0) := by simp [execOwnConfirm]
@[simp] theorem State.beat_pads (s : State) (m : Nat) (v : Word) : (s.beat m v).pads = s.pads := by simp [State.beat]
@[simp] theorem execHeartbeat_keepsPads (w : Writer) (m : Nat) (v : Word) (s0 : State) : KeepsPads s0 (execHeartbeat w m v s0) := by
  simp [execHeartbeat]

/-! ### Sys2Proof/Machine/Links.lean -/

@[simp] theorem execPcieLinkUp_keepsPads (port gen : Nat) (x2 : Bool) (s : State) : KeepsPads s (execPcieLinkUp port gen x2 s) := by
  simp [execPcieLinkUp]
@[simp] theorem State.toChannel_pads (s : State) (ch : Nat) (bs : List Byte) (drop : Fld) : (s.toChannel ch bs drop).pads = s.pads := by
  unfold State.toChannel
  split
  · next t h => exact State.pads_of_pair (s.storeFrame_pads ..) h
  · next t h => simp [State.pads_of_pair (s.storeFrame_pads ..) h]
@[simp] theorem State.toTally_pads (s : State) (c path : Nat) (bs : List Byte) (drop : Fld) : (s.toTally c path bs drop).pads = s.pads := by
  simp [State.toTally]
@[simp] theorem execEthFrameRx_keepsPads (m : Nat) (accept : Bool) (frame : List Byte) (s : State) :
    KeepsPads s (execEthFrameRx m accept frame s) := by
  simp only [execEthFrameRx, keepsPads_ite, keepsPads_next, State.satInc_pads, State.toChannel_pads]
  split
  · trivial
  · split
    · trivial
    · split
      · split <;> simp
      · split
        · simp
        · split
          · split
            · next t h => simp [State.pads_of_pair (s.storeFrame_pads ..) h]
            · next t h => simp [State.pads_of_pair (s.storeFrame_pads ..) h]
          · simp
@[simp] theorem execEthLinkUp_keepsPads (m : Nat) (s : State) : KeepsPads s (execEthLinkUp m s) := by simp [execEthLinkUp]
@[simp] theorem execEthLinkDown_keepsPads (m : Nat) (s : State) : KeepsPads s (execEthLinkDown m s) := by simp [execEthLinkDown]
@[simp] theorem State.canCounts_pads (s : State) (k tec rec : Nat) : (s.canCounts k tec rec).pads = s.pads := by simp [State.canCounts]
@[simp] theorem execCanFrameRx_keepsPads (k id : Nat) (xtd hit : Bool) (data : List Byte) (tec rec : Nat) (s : State) :
    KeepsPads s (execCanFrameRx k id xtd hit data tec rec s) := by
  simp only [execCanFrameRx]
  repeat' split
  all_goals simp
@[simp] theorem execCanBusOff_keepsPads (k tec rec : Nat) (s : State) : KeepsPads s (execCanBusOff k tec rec s) := by simp [execCanBusOff]
@[simp] theorem execCanBusOffRecovery_keepsPads (k : Nat) (s : State) : KeepsPads s (execCanBusOffRecovery k s) := by simp [execCanBusOffRecovery]
@[simp] theorem State.showOffset_pads (s : State) (o : Int) : (s.showOffset o).pads = s.pads := by simp [State.showOffset]
@[simp] theorem State.setLocked_pads (s : State) (v : Bool) : (s.setLocked v).pads = s.pads := by simp [State.setLocked]
@[simp] theorem State.timeLost_pads (s : State) (ns : Int) : (s.timeLost ns).pads = s.pads := by simp [State.timeLost]
@[simp] theorem execTimeSyncMessage_keepsPads (path : Nat) (offset : Int) (s : State) : KeepsPads s (execTimeSyncMessage path offset s) := by
  simp [execTimeSyncMessage]
@[simp] theorem execTimeUnsync_keepsPads (offset : Option Int) (s : State) : KeepsPads s (execTimeUnsync offset s) := by
  unfold execTimeUnsync
  repeat' split
  all_goals simp
@[simp] theorem execGlTimeSend_keepsPads (p : Nat) (s : State) : KeepsPads s (execGlTimeSend p s) := by simp [execGlTimeSend]
@[simp] theorem State.glLocal_pads (s : State) (p cls tag : Nat) (payload : List Byte) : (s.glLocal p cls tag payload).pads = s.pads := by
  unfold State.glLocal
  repeat' split
  all_goals simp
@[simp] theorem execGlFrameRx_keepsPads (p tag : Nat) (frame : List Byte) (s : State) : KeepsPads s (execGlFrameRx p tag frame s) := by
  simp [execGlFrameRx]
@[simp] theorem execGlLinkTrained_keepsPads (p : Nat) (s : State) : KeepsPads s (execGlLinkTrained p s) := by simp [execGlLinkTrained]
@[simp] theorem execGlPortDown_keepsPads (p : Nat) (s : State) : KeepsPads s (execGlPortDown p s) := by simp [execGlPortDown]

/-! ### Sys2Proof/Machine/RegWrite.lean -/

@[simp] theorem State.after_pads (s : State) (o : Out) (h : KeepsPads s o) : (s.after o).pads = s.pads := by
  obtain ⟨u, rfl, hu⟩ := h
  exact hu
@[simp] theorem State.feCtrlWrite_pads (s : State) (w : Writer) (n : Nat) (v : Word) : (s.feCtrlWrite w n v).pads = s.pads := by
  simp [State.feCtrlWrite]
@[simp] theorem State.seqCtrlWrite_pads (s : State) (w : Writer) (k : Nat) (v : Word) : (s.seqCtrlWrite w k v).pads = s.pads := by
  simp [State.seqCtrlWrite]
@[simp] theorem State.ringWord_pads (s : State) (w : Writer) (m : Nat) (f : Ring → Ring × Bool) : (s.ringWord w m f).pads = s.pads := by
  unfold State.ringWord
  repeat' split
  all_goals simp
@[simp] theorem State.portWrite_pads (s : State) (w : Writer) (addr : Nat) (v : Word) : (s.portWrite w addr v).pads = s.pads := by
  unfold State.portWrite
  split <;> simp

/-! ### Sys2Proof/Machine/Modes.lean -/

@[simp] theorem State.modeSet_pads (s : State) (fromCode : Nat) (dest : Mode) (kind code : Nat) :
    (s.modeSet fromCode dest kind code).pads = s.pads := by
  simp -implicitDefEqProofs [State.modeSet]
@[simp] theorem State.modeRights_pads (s : State) : s.modeRights.pads = s.pads := by simp [State.modeRights]
@[simp] theorem State.modeAborts_pads (s : State) : s.modeAborts.pads = s.pads := by simp [State.modeAborts]
@[simp] theorem State.degrFirst_pads (s : State) : s.degrFirst.pads = s.pads := by simp [State.degrFirst]
@[simp] theorem State.startEngines_pads (s : State) : s.startEngines.pads = s.pads := by simp [State.startEngines]
@[simp] theorem execModeStatus_keepsPads (c : Cmd) (s0 : State) : KeepsPads s0 (execModeStatus c s0) := by simp [execModeStatus]
@[simp] theorem execParkEngage_keepsPads (c : Cmd) (s0 : State) : KeepsPads s0 (execParkEngage c s0) := by simp [execParkEngage]
@[simp] theorem execParkRelease_keepsPads (c : Cmd) (s0 : State) : KeepsPads s0 (execParkRelease c s0) := by simp [execParkRelease]
@[simp] theorem execDegradedTimer_keepsPads (s : State) : KeepsPads s (execDegradedTimer s) := by simp [execDegradedTimer]

/-! ### Sys2Proof/Machine/Supply.lean -/

@[simp] theorem State.setGood_pads (s : State) (k : Nat) (v : Bool) : (s.setGood k v).pads = s.pads := by
  unfold State.setGood
  split <;> simp
@[simp] theorem execVstbyRise_keepsPads (resetN : Bool) (straps wake : Nat) (s : State) : KeepsPads s (execVstbyRise resetN straps wake s) := by
  simp [execVstbyRise]
@[simp] theorem execStrapChangeDetected_keepsPads (live : Nat) (s : State) : KeepsPads s (execStrapChangeDetected live s) := by
  simp [execStrapChangeDetected]

/-! ### Sys2Proof/Machine/Boot.lean -/

@[simp] theorem State.bootBegin_pads (s : State) (b : BootIn) : (s.bootBegin b).pads = s.pads := by simp [State.bootBegin]
@[simp] theorem State.showWear_pads (s : State) : s.showWear.pads = s.pads := by simp [State.showWear]
@[simp] theorem State.bootStore_pads (s0 : State) (b : BootIn) : (s0.bootStore b).pads = s0.pads := by simp [State.bootStore]
@[simp] theorem State.bootComm_pads (s : State) (b : BootIn) : (s.bootComm b).pads = s.pads := by
  unfold State.bootComm
  dsimp only
  split <;> simp -implicitDefEqProofs
@[simp] theorem State.loadReg_pads (s : State) (a : Nat) (v : Word) : (s.loadReg a v).pads = s.pads := by
  unfold State.loadReg
  split <;> simp
@[simp] theorem State.loadTally_pads (s : State) : s.loadTally.pads = s.pads := by simp [State.loadTally]
@[simp] theorem State.loadSet_pads (s : State) : s.loadSet.pads = s.pads := by simp [State.loadSet]
@[simp] theorem State.loadNone_pads (s : State) : s.loadNone.pads = s.pads := by simp [State.loadNone]
@[simp] theorem State.loadFactory_pads (s : State) : s.loadFactory.pads = s.pads := by simp [State.loadFactory]
@[simp] theorem State.setupConv_pads (s : State) : s.setupConv.pads = s.pads := by simp [State.setupConv]
@[simp] theorem State.setupCharger_pads (s : State) : s.setupCharger.pads = s.pads := by simp [State.setupCharger]
@[simp] theorem State.setupMotors_pads (s : State) : s.setupMotors.pads = s.pads := by simp [State.setupMotors]
@[simp] theorem State.bootLog_pads (s : State) : s.bootLog.pads = s.pads := by simp [State.bootLog]
@[simp] theorem State.flushAll_pads (s : State) : s.flushAll.pads = s.pads := by simp [State.flushAll]
@[simp] theorem State.bootRecords_pads (s : State) (b : BootIn) : (s.bootRecords b).pads = s.pads := by simp [State.bootRecords]

/-! ### Sys2Proof/Machine/Pairing.lean -/

@[simp] theorem State.windowCounts_pads (s : State) (k : Nat) (x : WindowIn) : (s.windowCounts k x).pads = s.pads := by simp [State.windowCounts]

end Sys2Proof.Machine
end

section
/-! SUPPORT. No command drives both pads of a half-bridge high (R66, R68, R205). -/

namespace Sys2Proof.Machine

/-- No half-bridge channel has both its pads high. -/
def PadsApart (l : Sparse Chan) : Prop := ∀ e ∈ l, (e.2.high && e.2.low) = false

theorem State.noShootThrough_iff (s : State) : s.noShootThrough = true ↔ PadsApart s.pads := by
  simp only [State.noShootThrough, PadsApart, State.pads, List.all_eq_true, Bool.not_eq_true']

@[simp] theorem padsApart_nil : PadsApart [] := by simp [PadsApart]

@[simp] theorem padsApart_ite (p : Prop) [Decidable p] (a b : Sparse Chan) :
    PadsApart (if p then a else b) ↔ if p then PadsApart a else PadsApart b := by split <;> rfl

@[simp] theorem State.foldl_padsApart {α : Type} {f : State → α → State} (hf : ∀ t a, PadsApart t.pads → PadsApart (f t a).pads) (l : List α)
    (s : State) (h : PadsApart s.pads) : PadsApart (l.foldl f s).pads := by
  induction l generalizing s with
  | nil => exact h
  | cons a l ih => exact ih _ (hf s a h)

@[simp] theorem State.each_padsApart {α : Type} {f : State → α → State} (hf : ∀ t a, PadsApart t.pads → PadsApart (f t a).pads) (l : List α)
    (s : State) (h : PadsApart s.pads) : PadsApart (s.each l f).pads := State.foldl_padsApart hf l s h

@[simp] theorem State.onlyIf_padsApart {f : State → State} (hf : ∀ t, PadsApart t.pads → PadsApart (f t).pads) (b : Bool) (s : State)
    (h : PadsApart s.pads) : PadsApart (s.onlyIf b f).pads := by
  cases b
  · exact h
  · exact hf s h

/-- A meaning answers a next state, and from channels with their pads apart one with its pads apart. -/
def MakesApart (s : State) (o : Out) : Prop := PadsApart s.pads → ∃ t, o = .next t ∧ PadsApart t.pads

@[simp] theorem makesApart_next {s t : State} : MakesApart s (.next t) ↔ (PadsApart s.pads → PadsApart t.pads) := by simp [MakesApart]

theorem KeepsPads.makesApart {s : State} {o : Out} (h : KeepsPads s o) : MakesApart s o := by
  obtain ⟨t, rfl, ht⟩ := h
  simp [MakesApart, ht]

@[simp] theorem makesApart_ite (s : State) (p : Prop) [Decidable p] (a b : Out) :
    MakesApart s (if p then a else b) ↔ if p then MakesApart s a else MakesApart s b := by split <;> rfl

@[simp] theorem refuse_makesApart (s : State) (c : Cmd) (st : Status) : MakesApart s (refuse s c st) := by simp [refuse]

@[simp] theorem makesApart_command (s : State) (c : Cmd) (op : Nat) (f : State → Out) (h : MakesApart s (f s)) :
    MakesApart s (s.command c op f) := by
  unfold State.command
  split
  · exact h
  · simp

@[simp] theorem State.windowWrite_makesApart (s : State) (w : Writer) (block : Nat) (f : State → Out) (h : MakesApart s (f s)) :
    MakesApart s (s.windowWrite w block f) := by
  simp [State.windowWrite, h]

/-- A table holds at a key the default or a value that it lists. -/
theorem Sparse.get_default_or_mem {α : Type} (d : Nat → α) (m : Sparse α) (k : Nat) :
    Sparse.get d m k = d k ∨ (k, Sparse.get d m k) ∈ m := by
  induction m with
  | nil => exact .inl rfl
  | cons e t ih =>
    by_cases hk : k = e.1
    · simp [Sparse.get, hk]
    · simp only [Sparse.get, if_neg hk, List.mem_cons]
      exact ih.imp_right .inr

theorem State.apart_of_pair {α : Type} {p : State × α} {t : State} {a : α} (hp : p = (t, a)) (h : PadsApart p.1.pads) : PadsApart t.pads := by
  rwa [hp] at h

/-! ### Channels -/

/-- A channel of a state with the pads apart has its pads apart. -/
@[simp] theorem State.chan_padsApart {s : State} (ha : PadsApart s.pads) (n : Nat) (hh : (s.chan n).high = true) : (s.chan n).low = false := by
  rcases Sparse.get_default_or_mem (always Chan.init) s.edge.chans n with h | h
  · rw [State.chan, h]; rfl
  · have hl : ((s.chan n).high && (s.chan n).low) = false := ha _ h
    simpa [hh] using hl

@[simp] theorem State.setChan_padsApart (s : State) (n : Nat) (c : Chan) (ha : PadsApart s.pads) (hc : c.high = true → c.low = false) :
    PadsApart (s.setChan n c).pads := by
  rw [← State.noShootThrough_iff] at ha ⊢
  exact s.setChan_apart n c ha (by simpa using hc)

/-- Driving a channel leaves the pads apart, whatever the channel was. -/
theorem State.driveChan_padsApart (s : State) (n : Nat) (c : Chan) (p : Bool × Bool) (ha : PadsApart s.pads) (hp : (p.1 && p.2) = false) :
    PadsApart (s.setChan n (c.drive p)).pads :=
  s.setChan_padsApart n _ ha (by simpa using Chan.drive_apart c p hp)

@[simp] theorem State.clearLeg_padsApart (s : State) (n u : Nat) (ha : PadsApart s.pads) : PadsApart (s.clearLeg n u).pads :=
  State.setChan_padsApart _ n _ (by simpa using ha) (State.chan_padsApart ha n)

/-- The pads that R205 gives a channel are never both high. -/
@[simp] theorem State.refreshChan_padsApart (s : State) (n : Nat) (ha : PadsApart s.pads) : PadsApart (s.refreshChan n).pads := by
  unfold State.refreshChan
  split
  · exact s.driveChan_padsApart n _ _ ha rfl
  · split
    · exact s.driveChan_padsApart n _ _ ha rfl
    · refine State.driveChan_padsApart _ n _ _ ?_ (padsOf_apart _ _ _ _)
      split <;> simp [ha]

/-- A channel whose command changes, then takes its pads anew. -/
@[simp] theorem State.refreshSetChan_padsApart (s : State) (n m : Nat) (c : Chan) (ha : PadsApart s.pads) (hc : c.high = true → c.low = false) :
    PadsApart ((s.setChan n c).refreshChan m).pads :=
  State.refreshChan_padsApart _ m (s.setChan_padsApart n c ha hc)

/-- A reset leaves no channel driven. -/
@[simp] theorem State.cleared_padsApart (s : State) : PadsApart s.cleared.pads := padsApart_nil


/-! ### Sys2Proof/Machine/Ops.lean -/

@[simp] theorem State.refreshUnit_padsApart (s : State) (u : Nat) (ha : PadsApart s.pads) : PadsApart (s.refreshUnit u).pads := by
  refine State.each_padsApart (fun t n => t.refreshChan_padsApart n) _ _ ?_
  simpa using ha
@[simp] theorem State.refreshAll_padsApart (s : State) (ha : PadsApart s.pads) : PadsApart s.refreshAll.pads := by
  refine State.each_padsApart (fun t n => t.refreshChan_padsApart n) _ _ ?_
  simpa using ha
@[simp] theorem State.removeEnable_padsApart (s : State) (u : Nat) (ha : PadsApart s.pads) :
    PadsApart (s.removeEnable u).pads := by simp [State.removeEnable, ha]
@[simp] theorem State.forceUnit_padsApart (s : State) (u : Nat) (asc : Bool) (ha : PadsApart s.pads) :
    PadsApart (s.forceUnit u asc).pads := by simp [State.forceUnit, ha]
@[simp] theorem State.unforceUnit_padsApart (s : State) (u : Nat) (ha : PadsApart s.pads) :
    PadsApart (s.unforceUnit u).pads := by simp [State.unforceUnit, ha]

/-! ### Sys2Proof/Machine/ModeOps.lean -/

@[simp] theorem State.takeOut_padsApart (s : State) (u : Nat) (ha : PadsApart s.pads) :
    PadsApart (s.takeOut u).pads := by simp [State.takeOut, ha]
@[simp] theorem State.loseSet_padsApart (s : State) (u : Nat) (ha : PadsApart s.pads) :
    PadsApart (s.loseSet u).pads := by
  simp only [State.loseSet]
  split <;> simp [ha]
@[simp] theorem State.disable_padsApart (s : State) (u : Nat) (ha : PadsApart s.pads) :
    PadsApart (s.disable u).pads := by simp [State.disable, ha]
@[simp] theorem State.safeOutputs_padsApart (s : State) (code : Nat) (ha : PadsApart s.pads) : PadsApart (s.safeOutputs code).pads := by
  have h1 := State.each_padsApart (fun t u => t.takeOut_padsApart u) s.sets s ha
  have h2 := State.each_padsApart (fun t m => t.removeEnable_padsApart (4 + m)) s.motors _ h1
  simp only [State.safeOutputs]
  split <;> simp [h2]
@[simp] theorem State.startTrans_padsApart (s : State) (dest : Mode) (kind prec code : Nat) (ha : PadsApart s.pads) :
    PadsApart (s.startTrans dest kind prec code).pads := by
  simp -implicitDefEqProofs [State.startTrans, ha]
@[simp] theorem State.trigger_padsApart (s : State) (kind prec code : Nat) (ha : PadsApart s.pads) :
    PadsApart (s.trigger kind prec code).pads := by
  unfold State.trigger
  repeat' split
  all_goals simp [ha]
@[simp] theorem State.enterReset_padsApart (s : State) (src : Nat) (cold : Bool) (ha : PadsApart s.pads) :
    PadsApart (s.enterReset src cold).pads := by simp [State.enterReset, ha]

/-! ### Sys2Proof/Machine/Position.lean -/

@[simp] theorem State.encQerr_padsApart (s : State) (k : Nat) (ha : PadsApart s.pads) :
    PadsApart (s.encQerr k).pads := by simp +contextual [State.encQerr, ha]
@[simp] theorem State.encIllegal_padsApart (s : State) (k : Nat) (a b : Bool) (ha : PadsApart s.pads) :
    PadsApart (s.encIllegal k a b).pads := by simp [State.encIllegal, ha]
@[simp] theorem execEncoderEdge_makesApart (k : Nat) (a b : Bool) (dt : Nat) (s : State) : MakesApart s (execEncoderEdge k a b dt s) := by
  simp +contextual [execEncoderEdge]

/-! ### Sys2Proof/Machine/Edge.lean -/

@[simp] theorem execBanisterRemove_makesApart (pair unit line : Nat) (s : State) : MakesApart s (execBanisterRemove pair unit line s) := by
  simp +contextual [execBanisterRemove]
@[simp] theorem execBanisterGrant_makesApart (pair unit : Nat) (s : State) : MakesApart s (execBanisterGrant pair unit s) := by
  simp +contextual [execBanisterGrant]
@[simp] theorem execAscInterlockExpiry_makesApart (ch : Nat) (s : State) : MakesApart s (execAscInterlockExpiry ch s) := by
  simp +contextual [execAscInterlockExpiry]
@[simp] theorem State.toggle_padsApart (s : State) (ch : Nat) (ha : PadsApart s.pads) :
    PadsApart (s.toggle ch).pads := by simp +contextual [State.toggle, ha]
@[simp] theorem State.schedRun_padsApart (s : State) (m ch : Nat) (p : CarrierPt) (ha : PadsApart s.pads) :
    PadsApart (s.schedRun m ch p).pads := by
  unfold State.schedRun
  split <;> simp +contextual [ha]
@[simp] theorem State.schedPoint_padsApart (s : State) (m ch : Nat) (p : CarrierPt) (ha : PadsApart s.pads) :
    PadsApart (s.schedPoint m ch p).pads := by
  simp only [State.schedPoint]
  repeat' split
  all_goals simp +contextual [ha]
@[simp] theorem State.quietChan_padsApart (s : State) (m ch : Nat) (p : CarrierPt) (both : Bool) (ha : PadsApart s.pads) :
    PadsApart (s.quietChan m ch p both).pads := by
  unfold State.quietChan
  extract_lets func src one
  have hone (t : State) (peak : Bool) (ht : PadsApart t.pads) : PadsApart (one t peak).pads := by
    unfold one
    split
    · exact ht
    · rw [State.ite_pads, State.satInc_pads, ite_self]
      refine State.setChan_padsApart _ _ _ ht ?_
      cases peak <;> exact State.chan_padsApart ht ch
  split
  · exact State.setChan_padsApart _ _ _ ha (State.chan_padsApart ha ch)
  · exact hone _ _ (hone _ _ ha)
@[simp] theorem State.settleCmds_padsApart (s : State) (ch : Nat) (ha : PadsApart s.pads) :
    PadsApart (s.settleCmds ch).pads := by simp +contextual [State.settleCmds, ha]
@[simp] theorem State.newRef_padsApart (s : State) (k ch : Nat) (r : F32) (asStep : Bool) (ha : PadsApart s.pads) :
    PadsApart (s.newRef k ch r asStep).pads := by
  simp +contextual [State.newRef, ha]
@[simp] theorem State.applyChan_padsApart (s : State) (k ch : Nat) (band switched : Bool) (ha : PadsApart s.pads) :
    PadsApart (s.applyChan k ch band switched).pads := by
  unfold State.applyChan
  extract_lets c t src s1 src' s2
  have ht : PadsApart t.pads := by
    unfold t
    split <;> simp [ha]
  have h1 : PadsApart s1.pads := by
    unfold s1
    split
    · split
      · exact State.setChan_padsApart _ _ _ ht (State.chan_padsApart ht ch)
      · exact ht
    · split
      · exact State.setChan_padsApart _ _ _ ha (State.chan_padsApart ha ch)
      · exact ha
  have h2 : PadsApart s2.pads := State.setChan_padsApart _ _ _ h1 (State.chan_padsApart h1 ch)
  split <;> simp [h2]
@[simp] theorem State.applyUnit_padsApart (s : State) (k u : Nat) (ha : PadsApart s.pads) : PadsApart (s.applyUnit k u).pads := by
  unfold State.applyUnit
  extract_lets chs has any eff live cfg band mixed s1 s2 s3
  have h1 : PadsApart s1.pads := State.each_padsApart (fun t h => t.applyChan_padsApart k h band _) _ _ ha
  have h2 : s2.pads = s1.pads := by
    unfold s2
    split <;> simp
  have h3 : s3.pads = s2.pads := by
    unfold s3
    split <;> simp
  split <;> simp [h3, h2, h1]
@[simp] theorem State.updateEngine_padsApart (s : State) (m k : Nat) (p : CarrierPt) (settled : Bool) (ha : PadsApart s.pads) :
    PadsApart (s.updateEngine m k p settled).pads := by
  unfold State.updateEngine
  extract_lets both chs s1 s2 s3
  have h1 : PadsApart s1.pads := State.each_padsApart (fun t h => t.schedRun_padsApart m h p) _ _ ha
  have h2 : PadsApart s2.pads := by
    unfold s2
    split
    · exact State.each_padsApart State.settleCmds_padsApart _ _ h1
    · exact h1
  have h3 : PadsApart s3.pads := by
    unfold s3
    split
    · exact State.each_padsApart (fun t u => t.applyUnit_padsApart k u) _ _ h2
    · exact h2
  exact State.each_padsApart (fun t h => t.quietChan_padsApart m h p both) _ _ (State.each_padsApart (fun t h => t.schedPoint_padsApart m h p) _ _ h3)
@[simp] theorem execUpdatePoint_makesApart (n : Nat) (at_ : CarrierAt) (settled : Bool) (s : State) :
    MakesApart s (execUpdatePoint n at_ settled s) := by
  simp only [execUpdatePoint]
  repeat' split
  all_goals simp +contextual
@[simp] theorem State.legChange_padsApart (s : State) (u h t : Nat) (hi : Bool) (ha : PadsApart s.pads) :
    PadsApart (s.legChange u h t hi).pads := by simp +contextual [State.legChange, ha]
@[simp] theorem State.judgeLeg_padsApart (s : State) (u h t : Nat) (scale i : F32) (ha : PadsApart s.pads) :
    PadsApart (s.judgeLeg u h t scale i).pads := by
  simp only [State.judgeLeg]
  repeat' split
  all_goals simp [ha]
@[simp] theorem State.compare_padsApart (s : State) (k ch m u t : Nat) (count : Int) (edge invalid : Bool) (ha : PadsApart s.pads) :
    PadsApart (s.compare k ch m u t count edge invalid).pads := by
  unfold State.compare
  extract_lets +onlyGivenNames blank sensor scale cur mate other otherBlank n s0 s1
  have h1 : PadsApart s1.pads := by
    unfold s1 s0
    split <;> simp [ha]
  clear_value s1 otherBlank other mate
  split
  · dsimp only
    simp only [State.ite_pads, State.cleanPair_pads, ite_self]
    split
    · exact State.each_padsApart (fun y h => y.judgeLeg_padsApart u h t _ _) _ _ h1
    · exact h1
  · exact h1
@[simp] theorem execFastConversion_makesApart (k t raw : Nat) (inst : Instant) (s : State) : MakesApart s (execFastConversion k t raw inst s) := by
  simp only [execFastConversion]
  repeat' split
  all_goals simp +contextual
@[simp] theorem execBandDwellEnd_makesApart (ch : Nat) (s : State) : MakesApart s (execBandDwellEnd ch s) := by
  simp only [execBandDwellEnd]
  split <;> simp +contextual
@[simp] theorem State.edgeCompare_padsApart (s : State) (n edges : Nat) (ha : PadsApart s.pads) :
    PadsApart (s.edgeCompare n edges).pads := by simp +contextual [State.edgeCompare, ha]
@[simp] theorem execGateLinkPoll_makesApart (n : Nat) (status count poll : List Word) (s : State) :
    MakesApart s (execGateLinkPoll n status count poll s) := by
  simp only [execGateLinkPoll]
  repeat' split
  all_goals simp +contextual
@[simp] theorem execDriverFault_makesApart (n : Nat) (s : State) : MakesApart s (execDriverFault n s) := by simp +contextual [execDriverFault]

/-! ### Sys2Proof/Machine/Converter.lean -/

@[simp] theorem State.convWake_padsApart (s : State) (ha : PadsApart s.pads) :
    PadsApart s.convWake.pads := by simp [State.convWake, ha]
@[simp] theorem State.burstRefresh_padsApart (s : State) (ha : PadsApart s.pads) :
    PadsApart s.burstRefresh.pads := by simp [State.burstRefresh, ha]
@[simp] theorem State.convStart_padsApart (s : State) (ha : PadsApart s.pads) :
    PadsApart s.convStart.pads := by simp [State.convStart, ha]
@[simp] theorem State.convPadsLow_padsApart (s : State) (ha : PadsApart s.pads) :
    PadsApart s.convPadsLow.pads := by simp [State.convPadsLow, ha]
@[simp] theorem State.convRelease_padsApart (s : State) (ha : PadsApart s.pads) :
    PadsApart s.convRelease.pads := by simp [State.convRelease, ha]
@[simp] theorem execConvSetV_makesApart (c : Cmd) (s0 : State) : MakesApart s0 (execConvSetV c s0) := by simp +contextual [execConvSetV]
@[simp] theorem execConvRestart_makesApart (c : Cmd) (s0 : State) : MakesApart s0 (execConvRestart c s0) := by simp +contextual [execConvRestart]
@[simp] theorem execConvLightLoad_makesApart (c : Cmd) (s0 : State) : MakesApart s0 (execConvLightLoad c s0) := by simp +contextual [execConvLightLoad]
@[simp] theorem execConvStart_makesApart (s : State) : MakesApart s (execConvStart s) := by simp +contextual [execConvStart]
@[simp] theorem execBurstWakeSample_makesApart (low : Bool) (s : State) : MakesApart s (execBurstWakeSample low s) := by simp +contextual [execBurstWakeSample]
@[simp] theorem execConvShort_makesApart (s : State) : MakesApart s (execConvShort s) := by simp +contextual [execConvShort]
@[simp] theorem execConvRetryWaitExpiry_makesApart (s : State) : MakesApart s (execConvRetryWaitExpiry s) := by simp +contextual [execConvRetryWaitExpiry]
@[simp] theorem execCbcLimit_makesApart (k : Nat) (s : State) : MakesApart s (execCbcLimit k s) := by
  simp only [execCbcLimit]
  split <;> simp +contextual
@[simp] theorem execConvOvp_makesApart (s : State) : MakesApart s (execConvOvp s) := by simp +contextual [execConvOvp]

/-! ### Sys2Proof/Machine/Charger.lean -/

@[simp] theorem State.chgDone_padsApart (s : State) (ha : PadsApart s.pads) :
    PadsApart s.chgDone.pads := by simp [State.chgDone, ha]
@[simp] theorem State.supplyEntry_padsApart (s : State) (ha : PadsApart s.pads) :
    PadsApart s.supplyEntry.pads := by simp [State.supplyEntry, ha]
@[simp] theorem State.chargeLeft_padsApart (s : State) (ha : PadsApart s.pads) :
    PadsApart s.chargeLeft.pads := by simp [State.chargeLeft, ha]
@[simp] theorem State.lvStop_padsApart (s : State) (cause : Nat) (ha : PadsApart s.pads) :
    PadsApart (s.lvStop cause).pads := by simp [State.lvStop, ha]
@[simp] theorem execChgDisarm_makesApart (c : Cmd) (s0 : State) : MakesApart s0 (execChgDisarm c s0) := by simp +contextual [execChgDisarm]
@[simp] theorem execChgRestart_makesApart (c : Cmd) (s0 : State) : MakesApart s0 (execChgRestart c s0) := by simp +contextual [execChgRestart]
@[simp] theorem execLvChgArm_makesApart (c : Cmd) (s0 : State) : MakesApart s0 (execLvChgArm c s0) := by simp +contextual [execLvChgArm]
@[simp] theorem execLvChgDisarm_makesApart (c : Cmd) (s0 : State) : MakesApart s0 (execLvChgDisarm c s0) := by simp +contextual [execLvChgDisarm]
@[simp] theorem State.supApplied_padsApart (s : State) (ha : PadsApart s.pads) :
    PadsApart s.supApplied.pads := by simp [State.supApplied, ha]
@[simp] theorem State.pilotCharge_padsApart (s : State) (st : Nat) (ha : PadsApart s.pads) :
    PadsApart (s.pilotCharge st).pads := by simp [State.pilotCharge, ha]
@[simp] theorem State.pilotSupply_padsApart (s : State) (old st : Nat) (ha : PadsApart s.pads) :
    PadsApart (s.pilotSupply old st).pads := by
  unfold State.pilotSupply
  split <;> simp [ha]
@[simp] theorem execPilotStateChange_makesApart (vh vl : Int) (freq duty : Nat) (s : State) :
    MakesApart s (execPilotStateChange vh vl freq duty s) := by simp +contextual [execPilotStateChange]
@[simp] theorem execPpSample_makesApart (mv : Nat) (s : State) : MakesApart s (execPpSample mv s) := by simp +contextual [execPpSample]
@[simp] theorem execPilotRouteCheck_makesApart (vh : Int) (s : State) : MakesApart s (execPilotRouteCheck vh s) := by simp +contextual [execPilotRouteCheck]
@[simp] theorem execChgOnTimeEnd_makesApart (lv : Bool) (mean : F32) (s : State) : MakesApart s (execChgOnTimeEnd lv mean s) := by
  simp +contextual [execChgOnTimeEnd]
@[simp] theorem State.lvAbsent_padsApart (s : State) (ha : PadsApart s.pads) :
    PadsApart s.lvAbsent.pads := by simp [State.lvAbsent, ha]
@[simp] theorem execChgRestEnd_makesApart (lv : Bool) (vOn v10 vEnd iOn : F32) (zero : Bool) (s : State) :
    MakesApart s (execChgRestEnd lv vOn v10 vEnd iOn zero s) := by simp +contextual [execChgRestEnd]
@[simp] theorem State.tellPrepFail_padsApart (s : State) (lv : Bool) (ha : PadsApart s.pads) :
    PadsApart (s.tellPrepFail lv).pads := by simp [State.tellPrepFail, ha]
@[simp] theorem execChgPrepFail_makesApart (lv : Bool) (s : State) : MakesApart s (execChgPrepFail lv s) := by simp +contextual [execChgPrepFail]
@[simp] theorem State.tellDone_padsApart (s : State) (lv : Bool) (ha : PadsApart s.pads) :
    PadsApart (s.tellDone lv).pads := by
  simp only [State.tellDone]
  split <;> simp [ha]
@[simp] theorem execChgTerminate_makesApart (lv : Bool) (s : State) : MakesApart s (execChgTerminate lv s) := by simp +contextual [execChgTerminate]
@[simp] theorem State.chgWatch_padsApart (s : State) (lv : Bool) (ha : PadsApart s.pads) :
    PadsApart (s.chgWatch lv).pads := by simp [State.chgWatch, ha]
@[simp] theorem State.tellWatch_padsApart (s : State) (lv : Bool) (ha : PadsApart s.pads) :
    PadsApart (s.tellWatch lv).pads := by simp +contextual [State.tellWatch, ha]
@[simp] theorem execChgWatchdog_makesApart (lv : Bool) (s : State) : MakesApart s (execChgWatchdog lv s) := by simp +contextual [execChgWatchdog]
@[simp] theorem State.chgRelease_padsApart (s : State) (ha : PadsApart s.pads) : PadsApart s.chgRelease.pads := by
  have h1 := State.each_padsApart (f := fun t lv => ((t.tellPrepFail lv).tellDone lv).tellWatch lv)
    (fun t lv ht => State.tellWatch_padsApart _ lv (State.tellDone_padsApart _ lv (t.tellPrepFail_padsApart lv ht))) [false, true] s ha
  simp [State.chgRelease, h1]
@[simp] theorem execChgTimer_makesApart (lv : Bool) (s : State) : MakesApart s (execChgTimer lv s) := by simp +contextual [execChgTimer]
@[simp] theorem execLvBatteryAbsent_makesApart (s : State) : MakesApart s (execLvBatteryAbsent s) := by simp +contextual [execLvBatteryAbsent]
@[simp] theorem State.supplyStop_padsApart (s : State) (ha : PadsApart s.pads) :
    PadsApart s.supplyStop.pads := by simp [State.supplyStop, ha]
@[simp] theorem execSupplyOverload_makesApart (s : State) : MakesApart s (execSupplyOverload s) := by simp +contextual [execSupplyOverload]
@[simp] theorem State.batteryLost_padsApart (s : State) (ha : PadsApart s.pads) :
    PadsApart s.batteryLost.pads := by simp [State.batteryLost, ha]

/-! ### Sys2Proof/Machine/Motion.lean -/

@[simp] theorem State.parkOver_padsApart (s : State) (ha : PadsApart s.pads) :
    PadsApart s.parkOver.pads := by
  simp only [State.parkOver]
  split <;> simp [ha]
@[simp] theorem execParkVerified_makesApart (s : State) : MakesApart s (execParkVerified s) := by
  unfold execParkVerified
  repeat' split
  all_goals simp +contextual
@[simp] theorem execParkFail_makesApart (s : State) : MakesApart s (execParkFail s) := by
  unfold execParkFail
  split <;> simp +contextual

/-! ### Sys2Proof/Machine/FieldEngine.lean -/

@[simp] theorem State.actSetpoint_padsApart (s : State) (group : List Nat) (p : Setpoint) (ha : PadsApart s.pads) :
    PadsApart (s.actSetpoint group p).pads := by
  simp [State.actSetpoint, ha]
@[simp] theorem State.takeSetpoints_padsApart (s : State) (group : List Nat) (n : Nat) (ha : PadsApart s.pads) :
    PadsApart (s.takeSetpoints group n).pads := by
  simp +contextual [State.takeSetpoints, ha]
@[simp] theorem State.transferGroup_padsApart (s : State) (group : List Nat) (n : Nat) (ha : PadsApart s.pads) :
    PadsApart (s.transferGroup group n).pads := by
  simp +contextual [State.transferGroup, ha]
@[simp] theorem State.discTick_padsApart (s : State) (n : Nat) (ha : PadsApart s.pads) :
    PadsApart (s.discTick n).pads := by simp [State.discTick, ha]
@[simp] theorem State.program_padsApart (s : State) (n : Nat) (ha : PadsApart s.pads) :
    PadsApart (s.program n).pads := by
  unfold State.program
  split <;> simp [ha]
@[simp] theorem State.runProgram_padsApart (s : State) (n : Nat) (ha : PadsApart s.pads) :
    PadsApart (s.runProgram n).pads := by simp [State.runProgram, ha]
@[simp] theorem execFeTick_makesApart (n : Nat) (s : State) : MakesApart s (execFeTick n s) := by
  unfold execFeTick
  extract_lets s0 g s1
  rw [makesApart_ite]
  split
  · simp
  · rw [makesApart_ite]
    have h0 : s0.pads = s.pads := by simp [s0]
    split
    · simp [h0]
    · rw [makesApart_next, ← h0]
      intro ha
      have h1 : PadsApart s1.pads := State.transferGroup_padsApart _ g n (by simpa using ha)
      refine State.each_padsApart State.runProgram_padsApart _ _ ?_
      simpa using h1
@[simp] theorem State.arrive_padsApart (s : State) (c : StageCmd) (ha : PadsApart s.pads) :
    PadsApart (s.arrive c).pads := by simp +contextual [State.arrive, ha]
@[simp] theorem State.programRelease_padsApart (s : State) (n : Nat) (ha : PadsApart s.pads) :
    PadsApart (s.programRelease n).pads := by
  unfold State.programRelease
  split <;> simp [ha]
@[simp] theorem State.release_padsApart (s : State) (n : Nat) (ha : PadsApart s.pads) : PadsApart (s.release n).pads := by
  have h1 := State.each_padsApart State.arrive_padsApart (s.eng n).stage _ (State.each_padsApart State.settleCmds_padsApart (s.engineChans n) s ha)
  simp [State.release, h1]
@[simp] theorem execCommit_makesApart (n cycle : Nat) (g : GateIn) (s : State) : MakesApart s (execCommit n cycle g s) := by
  simp only [execCommit]
  repeat' split
  all_goals simp +contextual

/-! ### Sys2Proof/Machine/Discovery.lean -/

@[simp] theorem State.discJudge_padsApart (s : State) (meas : List (Nat × DiscMeas)) (emf : List Nat) (ha : PadsApart s.pads) :
    PadsApart (s.discJudge meas emf).pads := by
  simp +contextual [State.discJudge, ha]
@[simp] theorem execDiscoverEnd_makesApart (meas : List (Nat × DiscMeas)) (emf : List Nat) (s : State) :
    MakesApart s (execDiscoverEnd meas emf s) := by
  simp only [execDiscoverEnd]
  repeat' split
  all_goals simp +contextual

/-! ### Sys2Proof/Machine/DcLink.lean -/

@[simp] theorem State.setChop_padsApart (s : State) (on : Bool) (ha : PadsApart s.pads) : PadsApart (s.setChop on).pads := by
  simp only [State.setChop]
  repeat' split
  all_goals simp +contextual [ha]
@[simp] theorem State.chopHold_padsApart (s : State) (ha : PadsApart s.pads) :
    PadsApart s.chopHold.pads := by simp [State.chopHold, ha]
@[simp] theorem State.chopSample_padsApart (s : State) (code : Nat) (ha : PadsApart s.pads) :
    PadsApart (s.chopSample code).pads := by simp [State.chopSample, ha]
@[simp] theorem execChopperBudget_makesApart (s : State) : MakesApart s (execChopperBudget s) := by simp +contextual [execChopperBudget]
@[simp] theorem State.uvSample_padsApart (s : State) (code : Nat) (ha : PadsApart s.pads) :
    PadsApart (s.uvSample code).pads := by simp [State.uvSample, ha]
@[simp] theorem State.ov3Sample_padsApart (s : State) (code : Nat) (ha : PadsApart s.pads) :
    PadsApart (s.ov3Sample code).pads := by simp [State.ov3Sample, ha]
@[simp] theorem State.battSample_padsApart (s : State) (code : Nat) (ha : PadsApart s.pads) :
    PadsApart (s.battSample code).pads := by simp [State.battSample, ha]
@[simp] theorem execDclMonitorSample_makesApart (code : Nat) (s : State) : MakesApart s (execDclMonitorSample code s) := by
  unfold execDclMonitorSample
  extract_lets c s1
  rw [makesApart_ite]
  split
  · simp
  · rw [makesApart_next]
    intro ha
    have h1 : PadsApart s1.pads := by simpa [s1] using ha
    have h2 := State.ov3Sample_padsApart ((s1.uvSample c).ov2Sample c) c (by simp [h1])
    have h3 := State.chopSample_padsApart (((s1.uvSample c).ov2Sample c).ov3Sample c |>.dischargeSample c) c (by simp [h2])
    simp [h3]
@[simp] theorem State.followChoice_padsApart (s : State) (n : Nat) (asc : Bool) (ha : PadsApart s.pads) :
    PadsApart (s.followChoice n asc).pads := by simp [State.followChoice, ha]
@[simp] theorem execSelectorEvaluation_makesApart (s : State) : MakesApart s (execSelectorEvaluation s) := by simp +contextual [execSelectorEvaluation]
@[simp] theorem State.ov3Release_padsApart (s : State) (ha : PadsApart s.pads) : PadsApart s.ov3Release.pads := by
  have h1 := State.each_padsApart (fun t u => t.takeOut_padsApart u) s.sets s ha
  have h2 := State.each_padsApart (fun t m => t.removeEnable_padsApart (4 + m)) (s.each s.sets State.takeOut).motors _ h1
  simp only [State.ov3Release]
  split <;> simp [ha, h2]
@[simp] theorem execOv3LatchRelease_makesApart (s : State) : MakesApart s (execOv3LatchRelease s) := by simp +contextual [execOv3LatchRelease]

/-! ### Sys2Proof/Machine/Tally.lean -/

@[simp] theorem State.tallyFail_padsApart (s : State) (k c cause : Nat) (ha : PadsApart s.pads) :
    PadsApart (s.tallyFail k c cause).pads := by
  simp only [State.tallyFail]
  repeat' split
  all_goals simp [ha]
@[simp] theorem State.judgeOpen_padsApart (s : State) (k c : Nat) (bs : List Byte) (at_ : Time) (ha : PadsApart s.pads) :
    PadsApart (s.judgeOpen k c bs at_).pads := by
  unfold State.judgeOpen
  split <;> simp [ha]
@[simp] theorem State.judgeFrame_padsApart (s : State) (k : Nat) (f : TallyFrame) (ha : PadsApart s.pads) : PadsApart (s.judgeFrame k f).pads := by
  unfold State.judgeFrame
  dsimp only
  split
  · next t ht => rwa [State.pads_of_pair (s.readStall_pads ..) ht]
  · next t bs ht =>
    have h1 : PadsApart t.pads := by rwa [State.pads_of_pair (s.readStall_pads ..) ht]
    repeat' split
    all_goals simp [h1]
@[simp] theorem State.tallyDeadline_padsApart (s : State) (k c : Nat) (ha : PadsApart s.pads) :
    PadsApart (s.tallyDeadline k c).pads := by simp [State.tallyDeadline, ha]
@[simp] theorem State.tallyScan_padsApart (s : State) (k : Nat) (ha : PadsApart s.pads) : PadsApart (s.tallyScan k).pads := by
  have h1 := State.each_padsApart (fun t f => t.judgeFrame_padsApart k f) (s.tally.frames.filter fun f => !f.judged k) s ha
  simp only [State.tallyScan, State.tallyFree_pads]
  exact State.each_padsApart (fun t c => t.tallyDeadline_padsApart k c) _ _ h1
@[simp] theorem execTallyWatchdogExpiry_makesApart (pair c : Nat) (s : State) : MakesApart s (execTallyWatchdogExpiry pair c s) := by
  simp +contextual [execTallyWatchdogExpiry]

/-! ### Sys2Proof/Machine/SafetyIo.lean -/

@[simp] theorem State.fastFire_padsApart (s : State) (n : Nat) (ha : PadsApart s.pads) :
    PadsApart (s.fastFire n).pads := by simp +contextual [State.fastFire, ha]
@[simp] theorem State.fastEnd_padsApart (s : State) (n : Nat) (ha : PadsApart s.pads) :
    PadsApart (s.fastEnd n).pads := by simp +contextual [State.fastEnd, ha]
@[simp] theorem State.fastClear_padsApart (s : State) (v : Word) (ha : PadsApart s.pads) :
    PadsApart (s.fastClear v).pads := by simp +contextual [State.fastClear, ha]
@[simp] theorem execFastClear_makesApart (w : Writer) (v : Word) (s0 : State) : MakesApart s0 (execFastClear w v s0) := by simp +contextual [execFastClear]
@[simp] theorem State.demandRefresh_padsApart (s : State) (n : Nat) (ha : PadsApart s.pads) :
    PadsApart (s.demandRefresh n).pads := by simp [State.demandRefresh, ha]
@[simp] theorem execSinFiltered_makesApart (n : Nat) (b : Bool) (s : State) : MakesApart s (execSinFiltered n b s) := by simp +contextual [execSinFiltered]
@[simp] theorem execSinDiscrepancy_makesApart (n : Nat) (s : State) : MakesApart s (execSinDiscrepancy n s) := by
  simp only [execSinDiscrepancy]
  split <;> simp +contextual
@[simp] theorem State.tableUnit_padsApart (s : State) (k u : Nat) (now : Bool) (ha : PadsApart s.pads) :
    PadsApart (s.tableUnit k u now).pads := by simp [State.tableUnit, ha]
@[simp] theorem State.scanOutputs_padsApart (s : State) (k : Nat) (x : Scan) (ha : PadsApart s.pads) :
    PadsApart (s.scanOutputs k x).pads := by simp +contextual [State.scanOutputs, ha]
@[simp] theorem execSafetyScan_makesApart (pair : Nat) (s : State) : MakesApart s (execSafetyScan pair s) := by
  unfold execSafetyScan
  extract_lets s1 x s2 s3
  rw [makesApart_ite]
  split
  · simp
  · rw [makesApart_next]
    intro ha
    have h2 : PadsApart s2.pads := State.scanOutputs_padsApart s1 pair x (s.tallyScan_padsApart pair ha)
    have h3 : PadsApart s3.pads := by
      unfold s3
      split <;> simp [h2]
    simp [h3]
@[simp] theorem State.latchFire_padsApart (s : State) (cause : Nat) (ha : PadsApart s.pads) :
    PadsApart (s.latchFire cause).pads := by
  simp -implicitDefEqProofs [State.latchFire, ha]
@[simp] theorem execSafeLatchFire_makesApart (s : State) : MakesApart s (execSafeLatchFire s) := by simp +contextual [execSafeLatchFire]

/-! ### Sys2Proof/Machine/PairOps.lean -/

@[simp] theorem State.pairsChanged_padsApart (s : State) (ha : PadsApart s.pads) :
    PadsApart s.pairsChanged.pads := by simp [State.pairsChanged, ha]
@[simp] theorem State.pairJoins_padsApart (s : State) (k : Nat) (ha : PadsApart s.pads) :
    PadsApart (s.pairJoins k).pads := by simp [State.pairJoins, ha]
@[simp] theorem State.wardenDiverge_padsApart (s : State) (k cause main checker : Nat) (ha : PadsApart s.pads) :
    PadsApart (s.wardenDiverge k cause main checker).pads := by
  unfold State.wardenDiverge
  extract_lets o w sig s0 src s1 s2 led s3 s4 s5
  have h0 : PadsApart s0.pads := by
    unfold s0
    split <;> simp [ha]
  have h2 : s2.pads = s0.pads := by simp [s2, s1]
  have h3 : s3.pads = s2.pads := by
    unfold s3
    repeat' split
    all_goals simp
  have h5 : PadsApart s5.pads := by
    unfold s5 s4
    split <;> simp [h3, h2, h0]
  split <;> simp [h5]
@[simp] theorem State.splitA_padsApart (s : State) (ha : PadsApart s.pads) :
    PadsApart s.splitA.pads := by
  simp -implicitDefEqProofs [State.splitA, ha]
@[simp] theorem State.rejoinA_padsApart (s : State) (good : Bool) (ha : PadsApart s.pads) :
    PadsApart (s.rejoinA good).pads := by simp [State.rejoinA, ha]
@[simp] theorem State.pairCtrl_makesApart (s : State) (c : Cmd) (good : Bool) : MakesApart s (s.pairCtrl c good) := by simp +contextual [State.pairCtrl]
@[simp] theorem execPairSplit_makesApart (c : Cmd) (s0 : State) : MakesApart s0 (execPairSplit c s0) := by simp +contextual [execPairSplit]
@[simp] theorem execPairRejoin_makesApart (c : Cmd) (good : Bool) (s0 : State) : MakesApart s0 (execPairRejoin c good s0) := by simp +contextual [execPairRejoin]
@[simp] theorem execDivergence_makesApart (unit cause main checker : Nat) (s : State) : MakesApart s (execDivergence unit cause main checker s) := by
  simp +contextual [execDivergence]
@[simp] theorem State.replayAct_padsApart (s : State) (t kind addr : Nat) (data : Word) (ha : PadsApart s.pads) :
    PadsApart (s.replayAct t kind addr data).pads := by
  simp [State.replayAct, ha]
@[simp] theorem State.dbgHalt_padsApart (s : State) (t : Nat) (ha : PadsApart s.pads) :
    PadsApart (s.dbgHalt t).pads := by simp [State.dbgHalt, ha]
@[simp] theorem State.dbgResume_padsApart (s : State) (t : Nat) (ha : PadsApart s.pads) :
    PadsApart (s.dbgResume t).pads := by simp [State.dbgResume, ha]
@[simp] theorem State.dbgCtrl_padsApart (s : State) (w : Writer) (t : Nat) (act : State → Nat → State)
    (hact : ∀ u k, PadsApart u.pads → PadsApart (act u k).pads) (ha : PadsApart s.pads) : PadsApart (s.dbgCtrl w t act).pads := by
  unfold State.dbgCtrl
  split
  · exact ha
  · split
    · next u hu => exact hact _ _ (by rwa [State.pads_of_pair (s.dbgSelect_pads _) hu])
    · next u hu => rwa [State.pads_of_pair (s.dbgSelect_pads _) hu]
@[simp] theorem execDbgHalt_makesApart (w : Writer) (t : Nat) (s0 : State) : MakesApart s0 (execDbgHalt w t s0) :=
  State.windowWrite_makesApart _ _ _ _ (makesApart_next.mpr (s0.dbgCtrl_padsApart w t _ State.dbgHalt_padsApart))
@[simp] theorem execDbgResume_makesApart (w : Writer) (t : Nat) (s0 : State) : MakesApart s0 (execDbgResume w t s0) :=
  State.windowWrite_makesApart _ _ _ _ (makesApart_next.mpr (s0.dbgCtrl_padsApart w t _ State.dbgResume_padsApart))
@[simp] theorem execDbgMemRead_makesApart (s : State) : MakesApart s (execDbgMemRead s) := by simp +contextual [execDbgMemRead]
@[simp] theorem State.dbgMemWrite_padsApart (s : State) (w : Writer) (v : Word) (ha : PadsApart s.pads) :
    PadsApart (s.dbgMemWrite w v).pads := by simp [State.dbgMemWrite, ha]
@[simp] theorem execDbgMemWrite_makesApart (w : Writer) (v : Word) (s0 : State) : MakesApart s0 (execDbgMemWrite w v s0) := by simp +contextual [execDbgMemWrite]
@[simp] theorem execDbgRegRead_makesApart (s : State) : MakesApart s (execDbgRegRead s) := by simp +contextual [execDbgRegRead]
@[simp] theorem State.dbgRegWrite_padsApart (s : State) (w : Writer) (v : Word) (ha : PadsApart s.pads) :
    PadsApart (s.dbgRegWrite w v).pads := by simp [State.dbgRegWrite, ha]
@[simp] theorem execDbgRegWrite_makesApart (w : Writer) (v : Word) (s0 : State) : MakesApart s0 (execDbgRegWrite w v s0) := by simp +contextual [execDbgRegWrite]

/-! ### Sys2Proof/Machine/Ledger.lean -/

@[simp] theorem State.recaptureEnd_padsApart (s : State) (u : Nat) (ha : PadsApart s.pads) :
    PadsApart (s.recaptureEnd u).pads := by simp [State.recaptureEnd, ha]
@[simp] theorem State.noteAct_padsApart (s : State) (r : Rec) (ha : PadsApart s.pads) :
    PadsApart (s.noteAct r).pads := by simp [State.noteAct, ha]
@[simp] theorem State.degradeAct_padsApart (s : State) (r : Rec) (ha : PadsApart s.pads) :
    PadsApart (s.degradeAct r).pads := by simp +contextual [State.degradeAct, ha]
@[simp] theorem State.recAct_padsApart (s : State) (r : Rec) (ha : PadsApart s.pads) :
    PadsApart (s.recAct r).pads := by simp [State.recAct, ha]
@[simp] theorem State.receive_padsApart (s : State) (r : Rec) (ha : PadsApart s.pads) :
    PadsApart (s.receive r).pads := by simp [State.receive, ha]
@[simp] theorem State.receiveReset_padsApart (s : State) (r : Rec) (written : Nat) (ha : PadsApart s.pads) :
    PadsApart (s.receiveReset r written).pads := by
  simp [State.receiveReset, ha]
@[simp] theorem execLedgerRecord_makesApart (r : Option RecIn) (written : Nat) (s0 : State) : MakesApart s0 (execLedgerRecord r written s0) := by
  simp only [execLedgerRecord]
  repeat' split
  all_goals simp +contextual
@[simp] theorem State.startRecord_padsApart (s : State) (ha : PadsApart s.pads) :
    PadsApart s.startRecord.pads := by
  unfold State.startRecord
  split <;> simp [ha]
@[simp] theorem execLedgerRecordStart_makesApart (cut : Bool) (s : State) : MakesApart s (execLedgerRecordStart cut s) := by
  simp only [execLedgerRecordStart]
  repeat' split
  all_goals simp +contextual
@[simp] theorem State.receiveAll_padsApart (s : State) (ha : PadsApart s.pads) :
    PadsApart s.receiveAll.pads := by simp +contextual [State.receiveAll, ha]
@[simp] theorem State.writeOut_padsApart (s : State) (ha : PadsApart s.pads) :
    PadsApart s.writeOut.pads := by simp [State.writeOut, ha]
@[simp] theorem State.commandReset_padsApart (s : State) (ha : PadsApart s.pads) :
    PadsApart s.commandReset.pads := by simp [State.commandReset, ha]
@[simp] theorem execCommConfirm_makesApart (c : Cmd) (s0 : State) : MakesApart s0 (execCommConfirm c s0) := by simp +contextual [execCommConfirm]

/-! ### Sys2Proof/Machine/Ownership.lean -/

@[simp] theorem State.ownerAgent_padsApart (s : State) (ha : PadsApart s.pads) :
    PadsApart s.ownerAgent.pads := by simp [State.ownerAgent, ha]
@[simp] theorem State.changeOwner_padsApart (s : State) (m st prio : Nat) (nonce : Word) (ha : PadsApart s.pads) :
    PadsApart (s.changeOwner m st prio nonce).pads := by
  simp -implicitDefEqProofs [State.changeOwner, ha]
@[simp] theorem State.seizeOwner_padsApart (s : State) (m : Nat) (ha : PadsApart s.pads) :
    PadsApart (s.seizeOwner m).pads := by simp [State.seizeOwner, ha]
@[simp] theorem State.ownerLost_padsApart (s : State) (cause : Nat) (ha : PadsApart s.pads) :
    PadsApart (s.ownerLost cause).pads := by simp [State.ownerLost, ha]
@[simp] theorem State.hostGone_padsApart (s : State) (m : Nat) (ha : PadsApart s.pads) :
    PadsApart (s.hostGone m).pads := by simp [State.hostGone, ha]
@[simp] theorem execClaimWindowClose_makesApart (s : State) : MakesApart s (execClaimWindowClose s) := by
  simp only [execClaimWindowClose]
  repeat' split
  all_goals simp +contextual
@[simp] theorem State.pass_padsApart (s : State) (ha : PadsApart s.pads) :
    PadsApart s.pass.pads := by simp [State.pass, ha]
@[simp] theorem State.tryPass_padsApart (s : State) (ha : PadsApart s.pads) :
    PadsApart s.tryPass.pads := by simp [State.tryPass, ha]
@[simp] theorem execOwnershipPass_makesApart (s : State) : MakesApart s (execOwnershipPass s) := by simp +contextual [execOwnershipPass]
@[simp] theorem execStewardSuccessorConfirm_makesApart (s : State) : MakesApart s (execStewardSuccessorConfirm s) := by
  simp +contextual [execStewardSuccessorConfirm]
@[simp] theorem execHandoverHoldExpiry_makesApart (s : State) : MakesApart s (execHandoverHoldExpiry s) := by simp +contextual [execHandoverHoldExpiry]
@[simp] theorem execHandoverConfirmTimeout_makesApart (s : State) : MakesApart s (execHandoverConfirmTimeout s) := by
  simp +contextual [execHandoverConfirmTimeout]
@[simp] theorem execHeartbeatTimeout_makesApart (s : State) : MakesApart s (execHeartbeatTimeout s) := by simp +contextual [execHeartbeatTimeout]

/-! ### Sys2Proof/Machine/Links.lean -/

@[simp] theorem State.portDown_padsApart (s : State) (p : Nat) (ha : PadsApart s.pads) :
    PadsApart (s.portDown p).pads := by simp [State.portDown, ha]
@[simp] theorem State.linkLoss_padsApart (s : State) (p : Nat) (ha : PadsApart s.pads) :
    PadsApart (s.linkLoss p).pads := by simp [State.linkLoss, ha]
@[simp] theorem execPcieLinkDown_makesApart (port : Nat) (s : State) : MakesApart s (execPcieLinkDown port s) := by simp +contextual [execPcieLinkDown]
@[simp] theorem execPerstAssert_makesApart (port : Nat) (s : State) : MakesApart s (execPerstAssert port s) := by simp +contextual [execPerstAssert]
@[simp] theorem State.clockLost_padsApart (s : State) (clk : Nat) (ha : PadsApart s.pads) :
    PadsApart (s.clockLost clk).pads := by
  unfold State.clockLost
  split <;> simp [ha]
@[simp] theorem execClockMonitorTrip_makesApart (trips : Nat) (s : State) : MakesApart s (execClockMonitorTrip trips s) := by
  simp +contextual [execClockMonitorTrip]

/-! ### Sys2Proof/Machine/RegWrite.lean -/

@[simp] theorem State.after_padsApart (s : State) (o : Out) (ho : MakesApart s o) (ha : PadsApart s.pads) : PadsApart (s.after o).pads := by
  obtain ⟨u, rfl, hu⟩ := ho ha
  exact hu
@[simp] theorem State.afterWrite_padsApart (s b : State) (n : RegName) (i : Nat) (ha : PadsApart s.pads) : PadsApart (s.afterWrite b n i).pads := by
  unfold State.afterWrite
  repeat' split
  all_goals simp +contextual [ha]
@[simp] theorem State.plainWrite_padsApart (s : State) (w : Writer) (a : Nat) (v : Word) (f : RegFam) (i : Nat) (ha : PadsApart s.pads) :
    PadsApart (s.plainWrite w a v f i).pads := by simp [State.plainWrite, ha]
@[simp] theorem State.thresholdWrite_padsApart (s : State) (w : Writer) (a : Nat) (v : Word) (f : RegFam) (i : Nat) (ha : PadsApart s.pads) :
    PadsApart (s.thresholdWrite w a v f i).pads := by simp [State.thresholdWrite, ha]
@[simp] theorem State.dclWrite_padsApart (s : State) (w : Writer) (a : Nat) (v : Word) (f : RegFam) (i : Nat) (ha : PadsApart s.pads) :
    PadsApart (s.dclWrite w a v f i).pads := by simp [State.dclWrite, ha]
@[simp] theorem State.convCtrlWrite_padsApart (s : State) (w : Writer) (v : Word) (ha : PadsApart s.pads) :
    PadsApart (s.convCtrlWrite w v).pads := by simp [State.convCtrlWrite, ha]
@[simp] theorem State.syncCfgWrite_padsApart (s : State) (w : Writer) (a : Nat) (v : Word) (f : RegFam) (i : Nat) (ha : PadsApart s.pads) :
    PadsApart (s.syncCfgWrite w a v f i).pads := by simp [State.syncCfgWrite, ha]
@[simp] theorem State.dbgCtrlWrite_padsApart (s : State) (w : Writer) (v : Word) (ha : PadsApart s.pads) : PadsApart (s.dbgCtrlWrite w v).pads := by
  unfold State.dbgCtrlWrite
  extract_lets t s1 on
  have hon (x : State) (b : Nat) (f : State → Nat → State) (hf : ∀ u k, PadsApart u.pads → PadsApart (f u k).pads) (hx : PadsApart x.pads) :
      PadsApart (on x b f).pads := by
    unfold on
    split
    · exact x.dbgCtrl_padsApart w t f hf hx
    · exact hx
  have h1 : PadsApart s1.pads := s.dbgCtrl_padsApart w t _ (fun _ _ hu => hu) ha
  refine hon _ _ _ ?_ (hon _ _ _ State.dbgResume_padsApart (hon _ _ _ State.dbgHalt_padsApart h1))
  simp +contextual
@[simp] theorem State.regWriteAt_padsApart (s : State) (w : Writer) (a : Nat) (v : Word) (f : RegFam) (i : Nat) (ha : PadsApart s.pads) :
    PadsApart (s.regWriteAt w a v f i).pads := by
  unfold State.regWriteAt
  split <;> simp [ha]
@[simp] theorem State.regWrite_padsApart (s : State) (w : Writer) (a : Nat) (v : Word) (ha : PadsApart s.pads) :
    PadsApart (s.regWrite w a v).pads := by
  unfold State.regWrite
  repeat' split
  all_goals simp [ha]
@[simp] theorem execRegisterWrite_makesApart (w : Writer) (addr : Nat) (v : Word) (s : State) : MakesApart s (execRegisterWrite w addr v s) := by
  simp +contextual [execRegisterWrite]
@[simp] theorem State.svcWrites_padsApart (s : State) (a n : Nat) (bs : List Byte) (ha : PadsApart s.pads) : PadsApart (s.svcWrites a n bs).pads := by
  induction n generalizing s a bs with
  | zero => exact ha
  | succ n ih => exact ih _ _ _ (s.regWrite_padsApart _ _ _ ha)
@[simp] theorem State.svcServe_padsApart (s : State) (req : List Byte) (ha : PadsApart s.pads) :
    PadsApart (s.svcServe req).1.pads := by
  simp only [State.svcServe]
  repeat' split
  all_goals simp [ha]
@[simp] theorem execServiceRequest_makesApart (s : State) : MakesApart s (execServiceRequest s) := by
  unfold execServiceRequest
  split
  · simp
  · dsimp only
    split
    · simp
    · intro ha
      split
      · next t ht => exact ⟨_, rfl, State.apart_of_pair ht (State.svcServe_padsApart _ _ (by simp [ha]))⟩
      · next t b ht =>
        refine ⟨_, rfl, ?_⟩
        rw [State.sendFrame_pads]
        exact State.apart_of_pair ht (State.svcServe_padsApart _ _ (by simp [ha]))

/-! ### Sys2Proof/Machine/Modes.lean -/

@[simp] theorem State.judge_padsApart (s : State) (kind prec code : Nat) (ha : PadsApart s.pads) :
    PadsApart (s.judge kind prec code).pads := by simp [State.judge, ha]
@[simp] theorem State.modeEnables_padsApart (s : State) (ha : PadsApart s.pads) :
    PadsApart s.modeEnables.pads := by simp +contextual [State.modeEnables, ha]
@[simp] theorem State.modeCharger_padsApart (s : State) (old : Mode) (ha : PadsApart s.pads) : PadsApart (s.modeCharger old).pads := by
  unfold State.modeCharger
  extract_lets lvOn s1 s2
  have h1 : PadsApart s1.pads := by
    unfold s1
    split <;> simp [ha]
  have h2 : PadsApart s2.pads := by
    unfold s2
    split <;> simp [h1]
  repeat' split
  all_goals simp [h2]
@[simp] theorem State.modeEffects_padsApart (s : State) (old : Mode) (ha : PadsApart s.pads) : PadsApart (s.modeEffects old).pads := by
  unfold State.modeEffects
  extract_lets stop comm mode acq disc s1 s2 s3
  have h2 : s2.pads = s.pads := by
    unfold s2
    split <;> simp [s1]
  have h3 : s3.pads = s.pads := by
    unfold s3
    split <;> simp [h2]
  have h4 := State.modeCharger_padsApart s3.modeRights.modeEnables old (by simp [h3, ha])
  simp [h4]
@[simp] theorem State.judgeHeld_padsApart (s : State) (ha : PadsApart s.pads) :
    PadsApart s.judgeHeld.pads := by simp +contextual [State.judgeHeld, ha]
@[simp] theorem State.hibernate_padsApart (s : State) : PadsApart s.hibernate.pads := by simp [State.hibernate]
@[simp] theorem execModeTransitionEnd_makesApart (drop : Nat) (fault : Bool) (s : State) : MakesApart s (execModeTransitionEnd drop fault s) := by
  unfold execModeTransitionEnd
  split
  · simp
  · next tr htr =>
    extract_lets old s1 s2 s3
    intro ha
    have h1 : s1.pads = s.pads := by
      unfold s1
      split <;> simp
    have h2 : PadsApart s2.pads := by simp [s2, h1, ha]
    have h3 : PadsApart s3.pads := by
      unfold s3
      split <;> simp [h2]
    split
    · exact ⟨_, rfl, s2.hibernate_padsApart⟩
    · exact ⟨_, rfl, State.judgeHeld_padsApart _ (s3.modeEffects_padsApart old h3)⟩
@[simp] theorem State.acceptRequest_padsApart (s : State) (dest : Mode) (option : Nat) (ha : PadsApart s.pads) :
    PadsApart (s.acceptRequest dest option).pads := by
  simp [State.acceptRequest, ha]
@[simp] theorem State.triggersFirst_padsApart (s : State) (ha : PadsApart s.pads) : PadsApart s.triggersFirst.pads := by
  unfold State.triggersFirst
  extract_lets l led s1
  split
  · exact ha
  · have h1 : PadsApart s1.pads := by
      refine State.each_padsApart (fun t r ht => ?_) _ _ ha
      repeat' split
      all_goals simp [ht]
    exact State.each_padsApart (fun t _ => t.startRecord_padsApart) _ _ (by simpa using h1)
@[simp] theorem execModeRequest_makesApart (c : Cmd) (s : State) : MakesApart s (execModeRequest c s) := by
  refine makesApart_command _ _ _ _ ?_
  extract_lets target option s'
  intro ha
  have h1 : PadsApart s'.pads := s.triggersFirst_padsApart ha
  refine (?_ : MakesApart s' _) h1
  iterate 6
    rw [makesApart_ite]
    split
    · simp
  split <;> simp +contextual
@[simp] theorem execSafeStopRequest_makesApart (c : Cmd) (s0 : State) : MakesApart s0 (execSafeStopRequest c s0) := by simp +contextual [execSafeStopRequest]
@[simp] theorem execSysReset_makesApart (c : Cmd) (s0 : State) : MakesApart s0 (execSysReset c s0) := by simp +contextual [execSysReset]
@[simp] theorem execDegradedTimerExpiry_makesApart (s : State) : MakesApart s (execDegradedTimerExpiry s) := by simp +contextual [execDegradedTimerExpiry]

/-! ### Sys2Proof/Machine/Supply.lean -/

@[simp] theorem State.backToHibernate_padsApart (s : State) (ha : PadsApart s.pads) :
    PadsApart s.backToHibernate.pads := by simp [State.backToHibernate, ha]
@[simp] theorem State.railsUp_padsApart (s : State) (ha : PadsApart s.pads) :
    PadsApart s.railsUp.pads := by simp [State.railsUp, ha]
@[simp] theorem State.waitRails_padsApart (s : State) (ha : PadsApart s.pads) :
    PadsApart s.waitRails.pads := by simp [State.waitRails, ha]
@[simp] theorem execSupplyGood_makesApart (supply : Nat) (s : State) : MakesApart s (execSupplyGood supply s) := by simp +contextual [execSupplyGood]
@[simp] theorem State.powerOff_padsApart (s : State) : PadsApart s.powerOff.pads := by simp [State.powerOff]
@[simp] theorem execSupplyLost_makesApart (supply : Nat) (s : State) : MakesApart s (execSupplyLost supply s) := by simp +contextual [execSupplyLost]
@[simp] theorem execRailWaitExpiry_makesApart (s : State) : MakesApart s (execRailWaitExpiry s) := by simp +contextual [execRailWaitExpiry]
@[simp] theorem execResetPin_makesApart (s : State) : MakesApart s (execResetPin s) := by
  unfold execResetPin
  split <;> simp +contextual
@[simp] theorem State.wake_padsApart (s : State) (ha : PadsApart s.pads) :
    PadsApart s.wake.pads := by simp [State.wake, ha]
@[simp] theorem execWakeEvent_makesApart (pin : Option (Nat × Bool)) (s : State) : MakesApart s (execWakeEvent pin s) := by
  unfold execWakeEvent
  split <;> simp +contextual
@[simp] theorem execWakeTimerExpiry_makesApart (s : State) : MakesApart s (execWakeTimerExpiry s) := by simp +contextual [execWakeTimerExpiry]
@[simp] theorem execEarlyWakeDelayExpiry_makesApart (s : State) : MakesApart s (execEarlyWakeDelayExpiry s) := by simp +contextual [execEarlyWakeDelayExpiry]

/-! ### Sys2Proof/Machine/Boot.lean -/

@[simp] theorem State.bootLanding_padsApart (s : State) (ha : PadsApart s.pads) :
    PadsApart s.bootLanding.pads := by
  simp -implicitDefEqProofs [State.bootLanding, ha]
@[simp] theorem State.loadFollow_padsApart (s : State) (ha : PadsApart s.pads) :
    PadsApart s.loadFollow.pads := by simp +contextual [State.loadFollow, ha]
@[simp] theorem State.bootLoad_padsApart (s : State) (ha : PadsApart s.pads) :
    PadsApart s.bootLoad.pads := by simp [State.bootLoad, ha]
@[simp] theorem State.bootEnd_padsApart (s : State) (b : BootIn) (ha : PadsApart s.pads) :
    PadsApart (s.bootEnd b).pads := by simp [State.bootEnd, ha]
@[simp] theorem State.bootNoRuntime_padsApart (s : State) (ha : PadsApart s.pads) :
    PadsApart s.bootNoRuntime.pads := by simp [State.bootNoRuntime, ha]
@[simp] theorem execBootStart_makesApart (b : BootIn) (s : State) : MakesApart s (execBootStart b s) := by
  unfold execBootStart
  extract_lets s1 s2
  intro ha
  have h1 : PadsApart s1.pads := by simpa [s1] using ha
  have h2 : PadsApart s2.pads := by
    have h := State.bootLanding_padsApart s1 h1
    simp [s2, h]
  repeat' split
  · exact ⟨_, rfl, ha⟩
  · exact ⟨_, rfl, s1.bootNoRuntime_padsApart h1⟩
  · exact ⟨_, rfl, by simp [h2]⟩

/-! ### Sys2Proof/Machine/Pairing.lean -/

@[simp] theorem State.releaseWindow_padsApart (s : State) (k : Nat) (x : WindowIn) (ha : PadsApart s.pads) :
    PadsApart (s.releaseWindow k x).pads := by simp +contextual [State.releaseWindow, ha]
@[simp] theorem State.wardenCanary_padsApart (s : State) (k : Nat) (g : GateIn) (ha : PadsApart s.pads) :
    PadsApart (s.wardenCanary k g).pads := by simp [State.wardenCanary, ha]
@[simp] theorem execWardenWindowClose_makesApart (k : Nat) (x : WindowIn) (s : State) : MakesApart s (execWardenWindowClose k x s) := by
  unfold execWardenWindowClose
  repeat' split
  all_goals simp +contextual

/-! ### The dispatch -/

/-- No command drives both pads of a half-bridge high: either it reaches no channel, or it leaves every channel that it drives with its pads
apart. -/
theorem exec_makesApart (c : Instr) (s : State) : MakesApart s (exec c s) := by
  cases c <;> simp [exec, KeepsPads.makesApart]

/-- The passing of a microsecond reaches no half-bridge. -/
theorem idle_pads (s : State) : (idle s).pads = s.pads := by simp [idle]

end Sys2Proof.Machine

open Sys2Proof.Machine in
/-- Settles O60: a step is the passing of a microsecond, which moves no pad, or the answer of one command, which leaves the pads apart. -/
theorem stepKeepsPadsApart : Obligations.StepKeepsPadsApart := by
  intro s t hs ht
  rw [State.noShootThrough_iff] at hs ⊢
  unfold step at ht
  split at ht
  · obtain rfl : idle s = t := by simpa using ht
    rwa [idle_pads]
  · next c rest _ =>
    obtain ⟨u, hu, ha⟩ := exec_makesApart c { s with pending := rest } hs
    obtain rfl : u = t := by simpa [hu] using ht
    exact ha
end

section
/-! SUPPORT. The always-on domain: power-up, the rail wait and the wakes (R55, R57, R70-R73). -/

namespace Sys2Proof.Machine

/-! ### What the rails and a reset read -/

/-- Entries taken away by their keys: a key that stays reads as before, another reads as the default. -/
theorem Sparse.get_filter {α : Type} (d : Nat → α) (p : Nat → Bool) (m : Sparse α) (k : Nat) :
    Sparse.get d (m.filter fun e => p e.1) k = if p k then Sparse.get d m k else d k := by
  induction m with
  | nil => simp [Sparse.get]
  | cons e t ih =>
    obtain ⟨j, v⟩ := e
    rw [List.filter_cons]
    by_cases hk : k = j
    · subst hk
      by_cases hp : p k = true
      · simp [hp, Sparse.get]
      · simpa [hp] using ih
    · by_cases hp : p j = true
      · simpa [hp, Sparse.get, hk] using ih
      · simpa [hp, Sparse.get, hk] using ih

/-- A reset keeps the registers of the always-on domain (R61, R466). -/
theorem State.cleared_rd (s : State) {a : Nat} (h : keptAtReset a = true) : s.cleared.rd a = s.rd a := by
  have hf := Sparse.get_filter (resetValue s.part) keptAtReset s.regs a
  rwa [if_pos h] at hf

/-- A reset that a source has taken keeps the other registers of the always-on domain. -/
theorem State.resetTaken_rd (s : State) (src : Nat) (cold : Bool) {a : Nat} (h : keptAtReset a = true) (hc : a ≠ R.SYS_RESET_CAUSE)
    (hp : a ≠ R.PWR_STATUS) : (s.resetTaken src cold).rd a = s.rd a := by
  rw [State.resetTaken, State.resetPower_rd, State.rd_putB_ne _ _ _ hp, State.rd_putB_ne _ _ _ hc, s.cleared_rd h]

/-- Whether the rails are good is in PWR_STATUS. -/
theorem State.mainGood_of_rd {s t : State} (h : t.rd R.PWR_STATUS = s.rd R.PWR_STATUS) : t.mainGood = s.mainGood := by
  simp only [State.mainGood, State.flag_of_rd R.PWR_STATUS_CORE_GOOD h, State.flag_of_rd R.PWR_STATUS_SRAM_GOOD h,
    State.flag_of_rd R.PWR_STATUS_A_GOOD h, State.flag_of_rd R.PWR_STATUS_LINK_GOOD h]

theorem State.railsGood_of_rd {s t : State} (h : t.rd R.PWR_STATUS = s.rd R.PWR_STATUS) (hp : t.part = s.part) : t.railsGood = s.railsGood := by
  rw [State.railsGood, State.railsGood, State.mainGood_of_rd h, State.get_of_rd R.PWR_STATUS_VIO_GOOD h, hp]

/-! ### The rail wait (R55, R73) -/

/-- The state from which VSTBY_RISE starts the rail wait. -/
def State.vstbyUp (s : State) (r : Bool) (st w : Nat) : State :=
  { s with pwr := { Supplies.init with power := .railWait, vstby := true, railEn := true, resetN := r, straps := st % 256, wakePins := w % 16,
                                       perst := s.pwr.perst } }

theorem execVstbyRise_off {s : State} (r : Bool) (st w : Nat) (h : s.pwr.power = .off) :
    execVstbyRise r st w s = .next ((s.vstbyUp r st w).put R.SYS_STRAP_LIVE st) := if_pos h

theorem execVstbyRise_idle {s : State} (r : Bool) (st w : Nat) (h : s.pwr.power ≠ .off) : execVstbyRise r st w s = .next s := if_neg h

theorem vstbyRise_done {s : State} (r : Bool) (st w : Nat) (h : s.pwr.power = .off) :
    ∃ t, execVstbyRise r st w s = .next t ∧ t = { s with pwr := t.pwr, regs := t.regs } ∧ OnlyRegs s t [R.SYS_STRAP] ∧
      t.get R.SYS_STRAP_LIVE = st % 256 ∧ t.pwr.power = .railWait ∧ t.pwr.railEn = true ∧ t.pwr.resetN = r ∧ t.pwr.isolated = true ∧
      t.pwr.latchDrives = true :=
  ⟨_, execVstbyRise_off r st w h, rfl, (s.vstbyUp r st w).put_onlyRegs R.SYS_STRAP_LIVE st,
    State.get_put_same _ R.SYS_STRAP_LIVE st (by decide) (by decide), rfl, rfl, rfl, rfl, rfl⟩

/-- HIBERNATE out of a rail wait, but for SYS_MODE. -/
def State.railsOff (s : State) : State :=
  { s with pwr.power := .hibernate, pwr.railEn := false, pwr.isolated := true, pwr.isolatedVio3 := true }

/-- SYS_MODE and its cause after a power-on wait that failed (R31, R32). -/
def State.showHibernate (s : State) : State :=
  ((s.put R.SYS_MODE_MODE Mode.hibernate.code).put R.SYS_MODE_CAUSE_KIND 4).put R.SYS_MODE_CAUSE_TO Mode.hibernate.code

theorem State.showHibernate_onlyRegs (s : State) : OnlyRegs s s.showHibernate [R.SYS_MODE, R.SYS_MODE_CAUSE] :=
  (((s.put_onlyRegs _ _).mono (by decide)).trans ((State.put_onlyRegs _ _ _).mono (by decide))).trans ((State.put_onlyRegs _ _ _).mono (by decide))

theorem State.showHibernate_regsOnly (s : State) : RegsOnly s s.showHibernate :=
  ((s.put_regsOnly _ _).trans (State.put_regsOnly _ _ _)).trans (State.put_regsOnly _ _ _)

theorem State.showHibernate_mode (s : State) : s.showHibernate.get R.SYS_MODE_MODE = 1 := by
  rw [State.showHibernate, State.get_put_ne _ _ _ _ (by decide), State.get_put_ne _ _ _ _ (by decide), s.get_put_same _ _ (by decide) (by decide)]
  rfl

theorem execRailWaitExpiry_done {s : State} (h : s.pwr.power = .railWait) (hg : s.railsGood = false) :
    execRailWaitExpiry s = .next ((if s.pwr.afterWake then s.railsOff else s.railsOff.showHibernate).putB R.PWR_WAKE_STATUS_RAIL_FAIL true) :=
  if_pos (by rw [h, hg]; rfl)

theorem execRailWaitExpiry_idle {s : State} (h : s.pwr.power ≠ .railWait) : execRailWaitExpiry s = .next s := by simp [execRailWaitExpiry, h]

/-- Registers written after the rails went off leave HIBERNATE's supplies as they are. -/
theorem RegsOnly.hibernates {s t : State} (h : RegsOnly s.railsOff t) :
    t = { s with pwr := t.pwr, regs := t.regs } ∧ t.pwr.power = .hibernate ∧ t.pwr.railEn = false ∧ t.pwr.isolated = true := by
  obtain ⟨regs, rfl⟩ := h
  exact ⟨rfl, rfl, rfl, rfl⟩

theorem railWaitExpiry_done {s : State} (h : s.pwr.power = .railWait) (hg : s.railsGood = false) :
    ∃ t, execRailWaitExpiry s = .next t ∧ t = { s with pwr := t.pwr, regs := t.regs } ∧
      OnlyRegs s t [R.PWR_WAKE_STATUS, R.SYS_MODE, R.SYS_MODE_CAUSE] ∧ (s.pwr.afterWake = true → OnlyRegs s t [R.PWR_WAKE_STATUS]) ∧
      (s.pwr.afterWake = false → t.get R.SYS_MODE_MODE = 1) ∧ t.flag R.PWR_WAKE_STATUS_RAIL_FAIL = true ∧ t.pwr.power = .hibernate ∧
      t.pwr.railEn = false ∧ t.pwr.isolated = true := by
  have hfail (u : State) := u.flag_putB_same R.PWR_WAKE_STATUS_RAIL_FAIL true rfl (by decide)
  have honly (u : State) : OnlyRegs u (u.putB R.PWR_WAKE_STATUS_RAIL_FAIL true) [R.PWR_WAKE_STATUS] := u.put_onlyRegs _ _
  have hexec := execRailWaitExpiry_done h hg
  cases ha : s.pwr.afterWake
  · rw [ha, if_neg Bool.false_ne_true] at hexec
    obtain ⟨hframe, hsup⟩ := (s.railsOff.showHibernate_regsOnly.trans (State.putB_regsOnly _ R.PWR_WAKE_STATUS_RAIL_FAIL true)).hibernates
    refine ⟨_, hexec, hframe, ?_, nofun, fun _ => ?_, hfail _, hsup⟩
    · exact (s.railsOff.showHibernate_onlyRegs.mono (by decide)).trans ((honly _).mono (by decide))
    · exact (State.get_put_ne _ _ _ _ (by decide)).trans s.railsOff.showHibernate_mode
  · rw [ha, if_pos rfl] at hexec
    exact ⟨_, hexec, rfl, (honly s.railsOff).mono (by decide), fun _ => honly s.railsOff, nofun, hfail _, rfl, rfl, rfl⟩

/-! ### A wake (R73) -/

/-- RAIL_EN rises and the rail wait of a wake begins. -/
def State.wakeStarted (s : State) : State := { s with pwr.power := .railWait, pwr.afterWake := true, pwr.railEn := true }

theorem State.wakeStarted_railsGood (s : State) : s.wakeStarted.railsGood = s.railsGood := State.railsGood_of_rd rfl rfl

theorem State.wake_dark {s : State} (h : s.railsGood = false) : s.wake = s.wakeStarted := by
  have hw : ¬ s.wakeStarted.railsGood = true := ne_true_of_eq_false (s.wakeStarted_railsGood.trans h)
  exact if_neg hw

theorem State.wake_lit {s : State} (h : s.railsGood = true) (hr : s.pwr.resetN = true) : s.wake = s.wakeStarted.enterReset srcWake true := by
  have hw : s.wakeStarted.railsGood = true := s.wakeStarted_railsGood.trans h
  refine (if_pos hw).trans ?_
  simp only [State.railsUp, State.wakeStarted, hr, if_true]

/-- The mark of a wake source does not touch the rails. -/
theorem State.railsGood_putWake (s : State) (F : Fld) (v : Nat) (h : F.addr = R.PWR_WAKE_STATUS) : (s.put F v).railsGood = s.railsGood :=
  State.railsGood_of_rd (s.rd_put_ne F v (by rw [h]; decide)) rfl

/-- A source marked in PWR_WAKE_STATUS, then a wake with the rails down: only that register changes, and the rail wait of a wake runs. -/
theorem State.wake_marked (s : State) (F : Fld) (v : Nat) (h : F.addr = R.PWR_WAKE_STATUS) (hg : s.railsGood = false) :
    (s.put F v).wake = (s.put F v).wakeStarted ∧ OnlyRegs s (s.put F v).wakeStarted [R.PWR_WAKE_STATUS] :=
  ⟨State.wake_dark ((s.railsGood_putWake F v h).trans hg), h ▸ s.put_onlyRegs F v⟩

/-! ### WAKE_n and RESET_N (R70, R72) -/

/-- The new level at WAKE_n. -/
def State.wakePin (s : State) (n : Nat) (level : Bool) : State :=
  { s with pwr := { s.pwr with wakePins := natSetBit s.pwr.wakePins n level } }

/-- RESET_N has risen. -/
def State.resetReleased (s : State) : State := { s with pwr.resetN := true }

section
variable {s : State} {n : Nat} {level : Bool}

theorem execWakeEvent_noEvent (hn : n < 4) (hw : s.wakeEnabled n level = false) : execWakeEvent (some (n, level)) s = .next (s.wakePin n level) := by
  have hon : (decide (n < 4) && s.wakeEnabled n level) = false := by rw [hw, Bool.and_false]
  simp only [execWakeEvent, hon, if_pos hn, Bool.not_false, if_true]
  rfl

/-- An enabled event of a pin that exists. -/
theorem wakeEvent_on (hn : n < 4) (hw : s.wakeEnabled n level = true) : (decide (n < 4) && s.wakeEnabled n level) = true := by
  rw [hw, decide_eq_true hn, Bool.and_true]

theorem execWakeEvent_early (hn : n < 4) (he : s.pwr.entering = true) (hw : s.wakeEnabled n level = true) :
    execWakeEvent (some (n, level)) s = .next { (s.wakePin n level).putB R.PWR_WAKE_STATUS_EARLY true with pwr.earlyDelay := true } := by
  simp only [execWakeEvent, wakeEvent_on hn hw, if_pos hn, Bool.not_true, Bool.false_eq_true, if_false]
  exact if_pos he

theorem execWakeEvent_wakes (hn : n < 4) (hh : s.pwr.power = .hibernate) (he : s.pwr.entering = false) (hd : s.pwr.earlyDelay = false)
    (hw : s.wakeEnabled n level = true) :
    execWakeEvent (some (n, level)) s = .next ((s.wakePin n level).putBit R.PWR_WAKE_STATUS_WAKE n true).wake := by
  simp only [execWakeEvent, wakeEvent_on hn hw, if_pos hn, Bool.not_true, Bool.false_eq_true, if_false]
  exact (if_neg (ne_true_of_eq_false he)).trans (if_pos (by rw [hh, hd]; rfl))

theorem execWakeEvent_reset (hh : s.pwr.power = .hibernate) (he : s.pwr.entering = false) (hd : s.pwr.earlyDelay = false)
    (hr : s.pwr.resetN = false) : execWakeEvent none s = .next (s.resetReleased.putB R.PWR_WAKE_STATUS_PIN_RESET true).wake := by
  have hon : ¬ (!!s.pwr.resetN) = true := by rw [hr]; decide
  exact (if_neg hon).trans ((if_neg (ne_true_of_eq_false he)).trans (if_pos (by rw [hh, hd]; rfl)))

theorem State.wakePin_bit (s : State) (level : Bool) (hn : n < 4) :
    ((s.wakePin n level).putBit R.PWR_WAKE_STATUS_WAKE n true).bitAt R.PWR_WAKE_STATUS_WAKE n = true :=
  State.bitAt_putBit_same _ R.PWR_WAKE_STATUS_WAKE n true (by simp only [R.PWR_WAKE_STATUS_WAKE]; omega) (by decide)

theorem wakeEvent_railsDown (hn : n < 4) (hh : s.pwr.power = .hibernate) (he : s.pwr.entering = false) (hd : s.pwr.earlyDelay = false)
    (hw : s.wakeEnabled n level = true) (hg : s.railsGood = false) :
    ∃ t, execWakeEvent (some (n, level)) s = .next t ∧ t = { s with pwr := t.pwr, regs := t.regs } ∧ OnlyRegs s t [R.PWR_WAKE_STATUS] ∧
      t.bitAt R.PWR_WAKE_STATUS_WAKE n = true ∧ t.pwr.power = .railWait ∧ t.pwr.afterWake = true ∧ t.pwr.railEn = true := by
  obtain ⟨hwake, honly⟩ := (s.wakePin n level).wake_marked R.PWR_WAKE_STATUS_WAKE
    (natSetBit ((s.wakePin n level).get R.PWR_WAKE_STATUS_WAKE) n true) rfl hg
  exact ⟨_, (execWakeEvent_wakes hn hh he hd hw).trans (congrArg _ hwake), rfl, honly, s.wakePin_bit level hn, rfl, rfl, rfl⟩

theorem wakeEvent_early (hn : n < 4) (he : s.pwr.entering = true) (hw : s.wakeEnabled n level = true) :
    ∃ t, execWakeEvent (some (n, level)) s = .next t ∧ t.flag R.PWR_WAKE_STATUS_EARLY = true ∧ t.pwr.earlyDelay = true ∧
      t.pwr.power = s.pwr.power ∧ OnlyRegs s t [R.PWR_WAKE_STATUS] :=
  ⟨_, execWakeEvent_early hn he hw, (s.wakePin n level).flag_putB_same R.PWR_WAKE_STATUS_EARLY true rfl (by decide), rfl, rfl,
    (s.wakePin n level).put_onlyRegs R.PWR_WAKE_STATUS_EARLY _⟩

theorem wakeEvent_reset (hh : s.pwr.power = .hibernate) (he : s.pwr.entering = false) (hd : s.pwr.earlyDelay = false)
    (hr : s.pwr.resetN = false) (hg : s.railsGood = false) :
    ∃ t, execWakeEvent none s = .next t ∧ t.flag R.PWR_WAKE_STATUS_PIN_RESET = true ∧ t.pwr.resetN = true ∧ t.pwr.power = .railWait ∧
      t.pwr.afterWake = true ∧ t.pwr.railEn = true ∧ OnlyRegs s t [R.PWR_WAKE_STATUS] := by
  obtain ⟨hwake, honly⟩ := s.resetReleased.wake_marked R.PWR_WAKE_STATUS_PIN_RESET (bit true) rfl hg
  exact ⟨_, (execWakeEvent_reset hh he hd hr).trans (congrArg _ hwake),
    s.resetReleased.flag_putB_same R.PWR_WAKE_STATUS_PIN_RESET true rfl (by decide), rfl, rfl, rfl, rfl, honly⟩

/-- With the rails up already the wake is the cold reset WAKE (R57, R73), which keeps the wake bit. -/
theorem wakeEvent_railsUp (hn : n < 4) (hh : s.pwr.power = .hibernate) (he : s.pwr.entering = false) (hd : s.pwr.earlyDelay = false)
    (hw : s.wakeEnabled n level = true) (hg : s.railsGood = true) (hr : s.pwr.resetN = true) :
    ∃ t, execWakeEvent (some (n, level)) s = .next t ∧ t.pwr.power = .reset ∧ t.pwr.cold = true ∧ t.flag R.SYS_RESET_CAUSE_WAKE = true ∧
      t.bitAt R.PWR_WAKE_STATUS_WAKE n = true ∧ t.pwr.railEn = true := by
  have hbit := s.wakePin_bit level hn
  have hgood : ((s.wakePin n level).putBit R.PWR_WAKE_STATUS_WAKE n true).railsGood = true :=
    ((s.wakePin n level).railsGood_putWake _ _ rfl).trans hg
  have hwake := State.wake_lit hgood hr
  have hexec := execWakeEvent_wakes hn hh he hd hw
  generalize (s.wakePin n level).putBit R.PWR_WAKE_STATUS_WAKE n true = u at *
  have href := State.enterReset_refreshed (s := u.wakeStarted) srcWake true nofun
  refine ⟨_, hexec.trans (congrArg _ hwake), ?_, ?_, ?_, ?_, ?_⟩
  · rw [href.pwr, State.resetTaken_power]
  · rw [href.pwr, State.resetTaken_cold]
  · rw [href.flag _ (by decide)]
    exact State.resetTaken_cause _ true (by decide)
  · have hrd : (u.wakeStarted.enterReset srcWake true).rd R.PWR_WAKE_STATUS = u.rd R.PWR_WAKE_STATUS :=
      (href.rd (by decide)).trans (State.resetTaken_rd _ srcWake true (by decide) (by decide) (by decide))
    rwa [State.bitAt, State.get_of_rd R.PWR_WAKE_STATUS_WAKE hrd]
  · rw [href.pwr]; rfl

/-! ### The wake timer and the early-wake delay (R70, R72) -/

/-- The wake timer has run out, once. -/
def State.timerRun (s : State) : State := { s.putB R.PWR_WAKE_STATUS_TIMER true with pwr.timerArmed := false }

theorem execWakeTimerExpiry_wakes (hh : s.pwr.power = .hibernate) (ht : s.pwr.timerArmed = true) (hd : s.pwr.earlyDelay = false) :
    execWakeTimerExpiry s = .next s.timerRun.wake :=
  if_pos (by rw [hh, ht, hd]; rfl)

theorem execWakeTimerExpiry_idle (ht : s.pwr.timerArmed = false) : execWakeTimerExpiry s = .next s := by simp [execWakeTimerExpiry, ht]

theorem wakeTimer_done (hh : s.pwr.power = .hibernate) (ht : s.pwr.timerArmed = true) (hd : s.pwr.earlyDelay = false) (hg : s.railsGood = false) :
    ∃ t, execWakeTimerExpiry s = .next t ∧ t = { s with pwr := t.pwr, regs := t.regs } ∧ OnlyRegs s t [R.PWR_WAKE_STATUS] ∧
      t.flag R.PWR_WAKE_STATUS_TIMER = true ∧ t.pwr.power = .railWait ∧ t.pwr.afterWake = true ∧ t.pwr.railEn = true ∧
      t.pwr.timerArmed = false := by
  have hwake : s.timerRun.wake = s.timerRun.wakeStarted := State.wake_dark ((s.railsGood_putWake R.PWR_WAKE_STATUS_TIMER _ rfl).trans hg)
  exact ⟨_, (execWakeTimerExpiry_wakes hh ht hd).trans (congrArg _ hwake), rfl, s.put_onlyRegs R.PWR_WAKE_STATUS_TIMER _,
    s.flag_putB_same R.PWR_WAKE_STATUS_TIMER true rfl (by decide), rfl, rfl, rfl, rfl⟩

/-- The early-wake delay has run out. -/
def State.delayRun (s : State) : State := { s with pwr.earlyDelay := false }

theorem execEarlyWakeDelayExpiry_wakes (hh : s.pwr.power = .hibernate) (hd : s.pwr.earlyDelay = true) :
    execEarlyWakeDelayExpiry s = .next s.delayRun.wake :=
  if_pos (by rw [hh, hd]; rfl)

theorem execEarlyWakeDelayExpiry_idle (hd : s.pwr.earlyDelay = false) : execEarlyWakeDelayExpiry s = .next s := by
  simp [execEarlyWakeDelayExpiry, hd]

theorem earlyWakeDelay_done (hh : s.pwr.power = .hibernate) (hd : s.pwr.earlyDelay = true) (hg : s.railsGood = false) :
    ∃ t, execEarlyWakeDelayExpiry s = .next t ∧ t = { s with pwr := t.pwr } ∧ t.pwr.power = .railWait ∧ t.pwr.afterWake = true ∧
      t.pwr.railEn = true ∧ t.pwr.earlyDelay = false := by
  have hwake : s.delayRun.wake = s.delayRun.wakeStarted := State.wake_dark hg
  exact ⟨_, (execEarlyWakeDelayExpiry_wakes hh hd).trans (congrArg _ hwake), rfl, rfl, rfl, rfl, rfl⟩

end

end Sys2Proof.Machine

open Sys2Proof.Machine in
/-- Settles O4: each source of a wake marks its bit and starts the rail wait, and the rails alone decide whether that wait is over at once. -/
theorem powerUpRailWaitAndWake : Obligations.PowerUpRailWaitAndWake := by
  intro s
  refine ⟨?_, ?_, ?_, ?_, ?_, ?_, ?_, ?_, ?_, ?_, ?_, ?_, ?_⟩
  · exact fun r st w h => vstbyRise_done r st w h
  · exact fun r st w h => execVstbyRise_idle r st w h
  · exact railWaitExpiry_done
  · exact execRailWaitExpiry_idle
  · exact fun n level hn hh he hd hw hg => wakeEvent_railsDown hn hh he hd hw hg
  · exact fun n level hn hw => execWakeEvent_noEvent hn hw
  · exact fun n level hn he hw => wakeEvent_early hn he hw
  · exact wakeEvent_reset
  · exact fun n level hn hh he hd hw hg hr => wakeEvent_railsUp hn hh he hd hw hg hr
  · exact wakeTimer_done
  · exact execWakeTimerExpiry_idle
  · exact earlyWakeDelay_done
  · exact execEarlyWakeDelayExpiry_idle
end

section
/-! SUPPORT. Supplies that come and go, and the reset sources (R58-R62, R66). -/

namespace Sys2Proof.Machine

/-! ### The supervisor's bits and a reset's memory -/

/-- The supervisor shows a supply in PWR_STATUS and nowhere else. -/
theorem State.setGood_regsOnly (s : State) (k : Nat) (v : Bool) : RegsOnly s (s.setGood k v) := by
  unfold State.setGood
  split
  case h_1 => exact RegsOnly.refl s
  case h_6 =>
    split
    · exact s.put_regsOnly _ _
    · exact RegsOnly.refl s
  all_goals exact s.putB_regsOnly _ _

theorem RegsOnly.pwr {s t : State} (h : RegsOnly s t) : t.pwr = s.pwr := by obtain ⟨_, rfl⟩ := h; rfl
theorem RegsOnly.pending {s t : State} (h : RegsOnly s t) : t.pending = s.pending := by obtain ⟨_, rfl⟩ := h; rfl

theorem State.resetTaken_mram (s : State) (src : Nat) (cold : Bool) : (s.resetTaken src cold).mem.mram = s.mem.mram := rfl
theorem State.resetTaken_pending (s : State) (src : Nat) (cold : Bool) : (s.resetTaken src cold).pending = s.pending := rfl
theorem State.resetTaken_resetN (s : State) (src : Nat) (cold : Bool) : (s.resetTaken src cold).pwr.resetN = s.pwr.resetN := rfl

/-- What a reset source brings to a part that is not in reset (R58-R62). -/
theorem State.enterReset_done {s : State} {src : Nat} (cold : Bool) (h : s.pwr.power ≠ .reset) (hsrc : src < 32) :
    (s.enterReset src cold).pwr.power = .reset ∧ (s.enterReset src cold).pwr.cold = cold ∧ (s.enterReset src cold).pwr.resetN = s.pwr.resetN ∧
      (s.enterReset src cold).flag ⟨R.SYS_RESET_CAUSE, src, src⟩ = true ∧ (s.enterReset src cold).mem.valid = [] ∧
      (s.enterReset src cold).mem.mram = s.mem.mram ∧ (s.enterReset src cold).pending = s.pending := by
  have href := State.enterReset_refreshed src cold h
  refine ⟨?_, ?_, ?_, (href.flag _ ?_).trans (s.resetTaken_cause cold hsrc), ?_, ?_, href.pending.trans (s.resetTaken_pending src cold)⟩
  · rw [href.pwr, s.resetTaken_power]
  · rw [href.pwr, s.resetTaken_cold]
  · rw [href.pwr, s.resetTaken_resetN]
  · show R.SYS_RESET_CAUSE ≠ R.CONV_STATUS
    decide
  · rw [href.mem, s.resetTaken_mem]
  · rw [href.mem, s.resetTaken_mram]

/-! ### SUPPLY_GOOD (R58) -/

/-- VDD_CORE is good, before the outputs follow. -/
def State.coreGood (s : State) : State :=
  { s.putB R.PWR_STATUS_CORE_GOOD true with pwr.isolatedVio3 := s.pwr.isolatedVio3 && decide (1 ≠ 8) }

theorem execSupplyGood_core {s : State} (ho : s.pwr.power ≠ .off) (hw : s.pwr.power ≠ .railWait) :
    execSupplyGood 1 s = .next s.coreGood.refreshAll := by
  have hwait : ¬ (decide (s.pwr.power = .railWait) && (s.putB R.PWR_STATUS_CORE_GOOD true).railsGood) = true := by simp [hw]
  exact (if_neg ho).trans (if_neg hwait)

theorem supplyGood_core {s : State} (h : s.pwr.power = .hibernate ∨ s.pwr.power = .reset ∨ s.pwr.power = .run) :
    ∃ t, execSupplyGood 1 s = .next t ∧ t.flag R.PWR_STATUS_CORE_GOOD = true ∧ t.pwr.power = s.pwr.power ∧
      OnlyRegs s t [R.PWR_STATUS, R.CONV_STATUS] ∧ t.mem = s.mem := by
  have ho : s.pwr.power ≠ .off := by rintro hp; simp [hp] at h
  have hw : s.pwr.power ≠ .railWait := by rintro hp; simp [hp] at h
  have href := s.coreGood.refreshAll_refreshed
  have hpower : s.coreGood.refreshAll.pwr.power = s.pwr.power := congrArg (·.power) href.pwr
  have honly : OnlyRegs s s.coreGood [R.PWR_STATUS] := s.put_onlyRegs R.PWR_STATUS_CORE_GOOD _
  refine ⟨_, execSupplyGood_core ho hw, ?_, hpower, (honly.mono (by decide)).trans (href.2.mono (by decide)), href.mem⟩
  exact (href.flag _ (by decide)).trans (s.flag_putB_same R.PWR_STATUS_CORE_GOOD true rfl (by decide))

/-! ### SUPPLY_LOST and RESET_PIN (R58-R60) -/

section
variable {s : State}

theorem execSupplyLost_main {k : Nat} (h1 : 1 ≤ k) (h4 : k ≤ 4) (hp : s.pwr.power = .run) :
    execSupplyLost k s = .next ((s.setGood k false).enterReset (k + 1) true) := by
  have ho : s.pwr.power ≠ .off := by rw [hp]; decide
  exact (if_neg ho).trans ((if_neg (by omega)).trans ((if_pos h4).trans (if_pos (.inl hp))))

theorem supplyLost_main {k : Nat} (h1 : 1 ≤ k) (h4 : k ≤ 4) (hp : s.pwr.power = .run) :
    ∃ t, execSupplyLost k s = .next t ∧ t.pwr.power = .reset ∧ t.pwr.cold = true ∧ t.flag ⟨R.SYS_RESET_CAUSE, k + 1, k + 1⟩ = true ∧
      t.mem.valid = [] ∧ t.mem.mram = s.mem.mram ∧ t.pending = s.pending := by
  have hregs := s.setGood_regsOnly k false
  have hrun : (s.setGood k false).pwr.power ≠ .reset := by rw [hregs.pwr, hp]; decide
  obtain ⟨hpower, hcold, -, hcause, hvalid, hmram, hpend⟩ := State.enterReset_done (src := k + 1) true hrun (by omega)
  exact ⟨_, execSupplyLost_main h1 h4 hp, hpower, hcold, hcause, hvalid, hmram.trans (congrArg (·.mram) hregs.mem), hpend.trans hregs.pending⟩

theorem execSupplyLost_bank {n : Nat} (hn : n < 8) (hp : s.pwr.power = .run) (hs : natBit s.pwr.supervised n = true) :
    execSupplyLost (5 + n) s =
      .next ((s.putBit R.PWR_STATUS_VIO_GOOD n false).refreshAll.raise 0x0102 (if n ≤ 3 then 2 else 1) 0x01 (w32 n)) := by
  have ho : s.pwr.power ≠ .off := by rw [hp]; decide
  have hgood : s.setGood (5 + n) false = s.putBit R.PWR_STATUS_VIO_GOOD n false := by
    rw [Nat.add_comm]
    exact if_pos hn
  have hsup : (s.running && natBit s.pwr.supervised n && decide (n < 8)) = true := by simp [State.running, hp, hs, hn]
  rw [execSupplyLost, if_neg ho, if_neg (by omega), if_neg (by omega), hgood, Nat.add_sub_cancel_left, if_pos hsup]

theorem supplyLost_bank {n : Nat} (hn : n < 8) (hp : s.pwr.power = .run) (hs : natBit s.pwr.supervised n = true) :
    ∃ t, execSupplyLost (5 + n) s = .next t ∧ t.bitAt R.PWR_STATUS_VIO_GOOD n = false ∧ Raised s t 0x0102 (if n ≤ 3 then 2 else 1) 0x01 ∧
      t.pwr = s.pwr ∧ t.mem = s.mem ∧ OnlyRegs s t [R.PWR_STATUS, R.CONV_STATUS, R.LEDGER_SEQ] := by
  have hbit := s.bitAt_putBit_same R.PWR_STATUS_VIO_GOOD n false (by simp only [R.PWR_STATUS_VIO_GOOD]; omega) (by decide)
  have hput : OnlyRegs s (s.putBit R.PWR_STATUS_VIO_GOOD n false) [R.PWR_STATUS] := s.put_onlyRegs _ _
  have href := (s.putBit R.PWR_STATUS_VIO_GOOD n false).refreshAll_refreshed
  refine ⟨_, execSupplyLost_bank hn hp hs, ?_, (State.raise_raised_with ..).after href.led href.atime ?_, href.pwr, href.mem, ?_⟩
  · rw [State.bitAt, State.get_of_rd R.PWR_STATUS_VIO_GOOD (State.raise_onlyRegs _ _ _ _ _ _ _ (by decide)),
      State.get_of_rd R.PWR_STATUS_VIO_GOOD (href.rd (by decide))]
    exact hbit
  · exact (href.rd (by decide)).trans (hput _ (by decide))
  · exact (hput.mono (by simp)).trans ((href.2.mono (by simp)).trans ((State.raise_onlyRegs _ _ _ _ _ _).mono (by simp)))

theorem execSupplyLost_standby (h : s.pwr.power ≠ .off) : execSupplyLost 0 s = .next s.powerOff := (if_neg h).trans (if_pos rfl)

/-- RESET_N is low. -/
def State.resetHeld (s : State) : State := { s with pwr.resetN := false }

theorem execResetPin_run (hp : s.pwr.power = .run) : execResetPin s = .next (s.resetHeld.enterReset srcPin false) := by
  unfold execResetPin
  split
  next => rfl
  next h => exact absurd (hp.symm.trans h) (by decide)
  next h _ => exact absurd hp h

theorem resetPin_done (hp : s.pwr.power = .run) :
    ∃ t, execResetPin s = .next t ∧ t.pwr.power = .reset ∧ t.pwr.cold = false ∧ t.pwr.resetN = false ∧ t.flag R.SYS_RESET_CAUSE_PIN = true ∧
      t.mem.mram = s.mem.mram ∧ t.pending = s.pending := by
  have hpower : s.resetHeld.pwr.power = .run := hp
  have hrun : s.resetHeld.pwr.power ≠ .reset := by rw [hpower]; decide
  obtain ⟨hpower, hcold, hpin, hcause, -, hmram, hpend⟩ := State.enterReset_done (src := srcPin) false hrun (by decide)
  exact ⟨_, execResetPin_run hp, hpower, hcold, hpin, hcause, hmram, hpend⟩

end

end Sys2Proof.Machine

open Sys2Proof.Machine in
/-- Settles O5: a main rail and RESET_N lead through the same reset, and a bank's loss through the outputs' refresh, which keeps the supplies. -/
theorem supplyLossAndResetSources : Obligations.SupplyLossAndResetSources := by
  intro s
  refine ⟨?_, ?_, ?_, ?_, ?_, ?_⟩
  · exact supplyGood_core
  · exact fun k h1 h4 hp => supplyLost_main h1 h4 hp
  · exact fun n hn hp hs => supplyLost_bank hn hp hs
  · exact fun h => ⟨_, execSupplyLost_standby h, rfl, fun _ => rfl, rfl, rfl, rfl⟩
  · exact resetPin_done
  · exact fun k h => ⟨if_pos h, if_pos h⟩
end

section
/-! SUPPORT. BOOT begins, the straps, and PERST (R59, R61-R65, R427). -/

namespace Sys2Proof.Machine

section
variable {s : State} {b : BootIn}

/-! ### BOOT_START (R59, R63) -/

theorem execBootStart_runs (hp : s.pwr.power = .reset) (hm : s.mainGood = true) (hr : s.pwr.resetN = true) :
    execBootStart b s = .next (if b.wardenAuth then
        ((((((((s.bootBegin b).bootStore b).bootLanding).bootComm b).bootLoad).bootRecords b).bootLog).bootEnd b).flushAll
      else ((s.bootBegin b).bootStore b).bootNoRuntime) := by
  have hgo : ¬ (!decide (s.pwr.power = .reset) || !s.mainGood || !s.pwr.resetN) = true := by simp [hp, hm, hr]
  refine (if_neg hgo).trans ?_
  by_cases hb : b.wardenAuth = true
  · rw [if_pos hb]
    exact if_neg (by simp [hb])
  · rw [if_neg hb]
    exact if_pos (by simp [hb])

theorem execBootStart_idle (h : s.pwr.power ≠ .reset ∨ s.mainGood = false ∨ s.pwr.resetN = false) : execBootStart b s = .next s :=
  if_pos (by obtain h | h | h := h <;> simp [h])

/-! ### The first step of BOOT (R61, R63, R64, R367) -/

/-- The buffer that BOOT enables changes ACQ_REF and when the buffer came on. -/
theorem State.refOn_frame (s : State) : ∃ regs acq, s.refOn = { s with regs := regs, acq := acq } := by
  unfold State.refOn
  split
  · exact ⟨s.regs, s.acq, rfl⟩
  · exact ⟨_, _, rfl⟩

theorem State.refOn_onlyRegs (s : State) : OnlyRegs s s.refOn [R.ACQ_REF] := by
  unfold State.refOn
  split
  · exact fun _ _ => rfl
  · exact s.put_onlyRegs R.ACQ_REF_REF_BUF_EN _

/-- The part leaves reset, before BOOT writes a register. -/
def State.bootFields (s : State) (b : BootIn) : State :=
  { s with
      atime := 0, led.boots := s.led.boots + 1
      pwr := { s.pwr with power := .run, sources := 0, cold := false, railEn := true, timerArmed := false, earlyDelay := false,
                          isolated := false, isolatedVio3 := !natBit (s.get R.PWR_STATUS_VIO_GOOD) 3,
                          supervised := s.get R.PWR_STATUS_VIO_GOOD ||| requiredBanks s.part,
                          straps := if s.pwr.cold then b.straps % 256 else s.pwr.straps } }

/-- A cold reset takes the straps. -/
def State.bootStraps (s : State) (b : BootIn) : State :=
  if s.pwr.cold then ((s.bootFields b).put R.SYS_STRAP_LATCHED b.straps).put R.SYS_STRAP_LIVE b.straps else s.bootFields b

theorem State.bootBegin_eq (s : State) (b : BootIn) :
    s.bootBegin b = ((s.bootStraps b).putB R.PWR_STATUS_VIO_USED_LOCK true).refOn.put R.SYS_MODE_TRANS_SEQ 1 := rfl

theorem State.bootStraps_regsOnly (s : State) (b : BootIn) : RegsOnly (s.bootFields b) (s.bootStraps b) := by
  unfold State.bootStraps
  split
  · exact (State.put_regsOnly _ _ _).trans (State.put_regsOnly _ _ _)
  · exact RegsOnly.refl _

theorem State.bootBegin_frame (s : State) (b : BootIn) : ∃ regs acq, s.bootBegin b = { s.bootFields b with regs := regs, acq := acq } := by
  obtain ⟨regs, hregs⟩ := (s.bootStraps_regsOnly b).trans (State.putB_regsOnly _ R.PWR_STATUS_VIO_USED_LOCK true)
  obtain ⟨regs', acq, href⟩ := State.refOn_frame ((s.bootStraps b).putB R.PWR_STATUS_VIO_USED_LOCK true)
  rw [s.bootBegin_eq b, href, hregs]
  exact ⟨_, acq, rfl⟩

theorem State.bootBegin_rd (s : State) (b : BootIn) {a : Nat} (ha : a ≠ R.ACQ_REF) (hm : a ≠ R.SYS_MODE) :
    (s.bootBegin b).rd a = ((s.bootStraps b).putB R.PWR_STATUS_VIO_USED_LOCK true).rd a := by
  rw [s.bootBegin_eq b, State.rd_put_ne _ R.SYS_MODE_TRANS_SEQ 1 hm]
  exact State.refOn_onlyRegs _ a (by simpa using ha)

theorem State.bootBegin_lock (s : State) (b : BootIn) : (s.bootBegin b).flag R.PWR_STATUS_VIO_USED_LOCK = true := by
  rw [State.flag_of_rd R.PWR_STATUS_VIO_USED_LOCK (s.bootBegin_rd b (by decide) (by decide))]
  exact State.flag_putB_same _ R.PWR_STATUS_VIO_USED_LOCK true rfl (by decide)

theorem State.bootBegin_latched (s : State) (b : BootIn) : (s.bootBegin b).get R.SYS_STRAP_LATCHED = (s.bootStraps b).get R.SYS_STRAP_LATCHED := by
  rw [State.get_of_rd R.SYS_STRAP_LATCHED (s.bootBegin_rd b (by decide) (by decide))]
  exact State.get_put_ne _ R.PWR_STATUS_VIO_USED_LOCK R.SYS_STRAP_LATCHED _ (by decide)

theorem State.bootBegin_latched_cold (h : s.pwr.cold = true) : (s.bootBegin b).get R.SYS_STRAP_LATCHED = b.straps % 256 := by
  rw [s.bootBegin_latched b, State.bootStraps, if_pos h, State.get_put_of_apart _ R.SYS_STRAP_LIVE R.SYS_STRAP_LATCHED _ (.inr (by decide))]
  exact State.get_put_same _ R.SYS_STRAP_LATCHED b.straps (by decide) (by decide)

theorem State.bootBegin_latched_warm (h : s.pwr.cold = false) : (s.bootBegin b).get R.SYS_STRAP_LATCHED = s.get R.SYS_STRAP_LATCHED := by
  rw [s.bootBegin_latched b, State.bootStraps, if_neg (ne_true_of_eq_false h)]
  rfl

/-! ### STRAP_CHANGE_DETECTED (R65) -/

/-- The straps that STRAP_CHANGE_DETECTED finds at the pins. -/
def State.strapPins (s : State) (live : Nat) : State := { s with pwr.straps := live % 256 }

/-- They are shown in SYS_STRAP. -/
def State.strapsSeen (s : State) (live : Nat) : State := (s.strapPins live).put R.SYS_STRAP_LIVE live

/-- A record after the straps have been taken and registers written. -/
theorem RegsOnly.strapPins_raise_frame {u t : State} {live code sev unit : Nat} {c0 c1 : Option Word} (h : RegsOnly (s.strapPins live) u)
    (ht : u.raise code sev unit c0 c1 = t) : t = { s with pwr := t.pwr, regs := t.regs, led := t.led, free := t.free } := by
  obtain ⟨regs, rfl⟩ := h
  subst ht
  rfl

theorem execStrapChangeDetected_changed {live : Nat} (hp : s.pwr.power = .run) (hl : live % 256 ≠ s.get R.SYS_STRAP_LATCHED) :
    execStrapChangeDetected live s = .next (((s.strapsSeen live).putB R.SYS_STRAP_CHANGED true).raise 0x0006 0 0x00) := by
  have ho : s.pwr.power ≠ .off := by rw [hp]; decide
  have hrun : s.running = true := decide_eq_true hp
  refine (if_neg ho).trans ((if_neg hl).trans (congrArg _ ?_))
  exact if_pos hrun

theorem strapChangeDetected_changed {live : Nat} (hp : s.pwr.power = .run) (hl : live % 256 ≠ s.get R.SYS_STRAP_LATCHED) :
    ∃ t, execStrapChangeDetected live s = .next t ∧ t.get R.SYS_STRAP_LIVE = live % 256 ∧ t.flag R.SYS_STRAP_CHANGED = true ∧
      t.get R.SYS_STRAP_LATCHED = s.get R.SYS_STRAP_LATCHED ∧ Raised s t 0x0006 0 0x00 ∧ OnlyRegs s t [R.SYS_STRAP, R.LEDGER_SEQ] ∧
      t = { s with pwr := t.pwr, regs := t.regs, led := t.led, free := t.free } := by
  have hseen : OnlyRegs s (s.strapsSeen live) [R.SYS_STRAP] := State.put_onlyRegs _ R.SYS_STRAP_LIVE live
  have hregs : RegsOnly (s.strapPins live) ((s.strapsSeen live).putB R.SYS_STRAP_CHANGED true) :=
    (State.put_regsOnly _ _ _).trans (State.putB_regsOnly _ _ _)
  obtain ⟨hflag, hraised, honly⟩ := (s.strapsSeen live).flag_raise R.SYS_STRAP_CHANGED 0x0006 0 0x00 none none (by decide) rfl (by decide)
  have hstrap : (((s.strapsSeen live).putB R.SYS_STRAP_CHANGED true).raise 0x0006 0 0x00).rd R.SYS_STRAP =
      ((s.strapsSeen live).putB R.SYS_STRAP_CHANGED true).rd R.SYS_STRAP := State.raise_onlyRegs _ _ _ _ _ _ _ (by decide)
  refine ⟨_, execStrapChangeDetected_changed hp hl, ?_, hflag, ?_, hraised.after rfl rfl (hseen _ (by decide)),
    (hseen.mono (by simp)).trans honly, hregs.strapPins_raise_frame rfl⟩
  · rw [State.get_of_rd R.SYS_STRAP_LIVE hstrap]
    exact (State.get_put_of_apart _ R.SYS_STRAP_CHANGED R.SYS_STRAP_LIVE _ (.inr (by decide))).trans
      (State.get_put_same _ R.SYS_STRAP_LIVE live (by decide) (by decide))
  · rw [State.get_of_rd R.SYS_STRAP_LATCHED hstrap]
    exact (State.get_put_of_apart _ R.SYS_STRAP_CHANGED R.SYS_STRAP_LATCHED _ (.inr (by decide))).trans
      (State.get_put_of_apart _ R.SYS_STRAP_LIVE R.SYS_STRAP_LATCHED _ (.inr (by decide)))

/-! ### PERST_ASSERT (R62) -/

/-- The port's mark, its MSI-X vectors and its configuration space after PERST. -/
def State.portReset (s : State) (p : Nat) : State :=
  { s with
      pwr.perst := natSetBit s.pwr.perst p true
      host.msixOpen := s.host.msixOpen.filter fun e => !decide (e.1 / 64 = p)
      host.msixPend := s.host.msixPend.filter fun e => !decide (e.1 / 64 = p)
      host.msixTable := s.host.msixTable.filter fun e => !decide (e.1 / 1024 = p)
      host.pcieCfg := s.host.pcieCfg.filter fun e => !decide (e.1 / 1024 = p) }

theorem execPerstAssert_off {p : Nat} (h2 : p < 2) (hp : s.pwr.power ≠ .run) : execPerstAssert p s = .next (s.portReset p) := by
  have hrun : ¬ s.running = true := fun h => hp (of_decide_eq_true h)
  exact (if_neg (by omega)).trans (congrArg Host.Outcome.next (if_neg hrun))

/-- A table without the keys of block `p` reads as the default in that block. -/
theorem Sparse.get_without_block {α : Type} (d : Nat → α) (m : Sparse α) (p : Nat) {n v : Nat} (h : v < n) :
    Sparse.get d (m.filter fun e => !decide (e.1 / n = p)) (n * p + v) = d (n * p + v) := by
  have hblock : (n * p + v) / n = p := by rw [Nat.mul_add_div (by omega), Nat.div_eq_of_lt h, Nat.add_zero]
  rw [Sparse.get_filter d (fun k => !decide (k / n = p)) m, if_neg (by simp [hblock])]

theorem perstAssert_off {p : Nat} (h2 : p < 2) (hp : s.pwr.power ≠ .run) :
    ∃ t, execPerstAssert p s = .next t ∧ natBit t.pwr.perst p = true ∧
      (∀ v, v < 64 → Sparse.get (always false) t.host.msixOpen (64 * p + v) = false) ∧
      (∀ v, v < 64 → Sparse.get (always false) t.host.msixPend (64 * p + v) = false) ∧
      (∀ i, i < 1024 → Sparse.get (always 0) t.host.pcieCfg (1024 * p + i) = 0) ∧ t = { s with pwr := t.pwr, host := t.host } :=
  ⟨_, execPerstAssert_off h2 hp, natBit_natSetBit _ p true, fun _ h => Sparse.get_without_block _ _ p h, fun _ h => Sparse.get_without_block _ _ p h,
    fun _ h => Sparse.get_without_block _ _ p h, rfl⟩

end

end Sys2Proof.Machine

open Sys2Proof.Machine in
/-- Settles O6: after the guard BOOT is the model's chain of steps, whose first writes three registers; a table without a port's keys reads as
after a reset at each of them. -/
theorem bootStrapsAndPerst : Obligations.BootStrapsAndPerst := by
  intro s
  refine ⟨fun b hp hm hr => ⟨execBootStart_runs hp hm hr, ?_⟩, fun b h => execBootStart_idle h, fun live hp hl => strapChangeDetected_changed hp hl,
    fun p h2 hp => perstAssert_off h2 hp, fun p h => if_pos h⟩
  have hlock := s.bootBegin_lock b
  have hcold := State.bootBegin_latched_cold (s := s) (b := b)
  have hwarm := State.bootBegin_latched_warm (s := s) (b := b)
  obtain ⟨regs, acq, hframe⟩ := s.bootBegin_frame b
  rw [hframe] at hlock hcold hwarm ⊢
  exact ⟨rfl, rfl, rfl, rfl, hlock, hcold, hwarm, rfl, rfl⟩
end

section
/-! SUPPORT. Discovery runs: what the steps of a run leave alone, the discovery program in the engines, and the commands (R77-R83, R439). -/

namespace Sys2Proof.Machine

/-! ### What the steps of a run leave alone -/

/-- From `s` to `t` the part, the memories, the results, DISC_STATUS, the DISC_RUN that waits and the mark of a completed run are as they were. -/
structure RunKept (s t : State) : Prop where
  part : t.part = s.part
  mem : t.mem = s.mem
  results : t.host.results = s.host.results
  status : t.rd R.DISC_STATUS = s.rd R.DISC_STATUS
  op : t.disc.op = s.disc.op
  ran : t.disc.ran = s.disc.ran

theorem RunKept.refl (s : State) : RunKept s s := ⟨rfl, rfl, rfl, rfl, rfl, rfl⟩

theorem RunKept.trans {s t u : State} (h : RunKept s t) (k : RunKept t u) : RunKept s u :=
  ⟨k.part.trans h.part, k.mem.trans h.mem, k.results.trans h.results, k.status.trans h.status, k.op.trans h.op, k.ran.trans h.ran⟩

theorem RunKept.each {α : Type} {f : State → α → State} (l : List α) (hf : ∀ a ∈ l, ∀ s, RunKept s (f s a)) (s : State) :
    RunKept s (s.each l f) :=
  State.each_rel RunKept.refl RunKept.trans l hf s

theorem RunKept.busy {s t : State} (h : RunKept s t) : t.flag R.DISC_STATUS_BUSY = s.flag R.DISC_STATUS_BUSY := State.flag_of_rd _ h.status

theorem RunKept.engines {s t : State} (h : RunKept s t) : t.engines = s.engines := by rw [State.engines, h.part, State.engines]

theorem Refreshed.runKept {s t : State} (h : Refreshed s t) : RunKept s t := by
  have hs : t.rd R.DISC_STATUS = s.rd R.DISC_STATUS := h.rd (by decide)
  obtain ⟨⟨_, _, _, _, _, rfl⟩, _⟩ := h
  exact ⟨rfl, rfl, rfl, hs, rfl, rfl⟩

theorem EdgeOnly.runKept {s t : State} (h : EdgeOnly s t) : RunKept s t := h.refreshed.runKept

theorem PairOnly.runKept {s t : State} (h : PairOnly s t) : RunKept s t := by
  obtain ⟨_, rfl⟩ := h
  exact ⟨rfl, rfl, rfl, rfl, rfl, rfl⟩

theorem State.wr_runKept (s : State) (a : Nat) (w : Word) (h : R.DISC_STATUS ≠ a) : RunKept s (s.wr a w) :=
  ⟨rfl, rfl, rfl, s.rd_wr_ne a w h, rfl, rfl⟩

theorem State.put_runKept (s : State) (F : Fld) (v : Nat) (h : R.DISC_STATUS ≠ F.addr) : RunKept s (s.put F v) := s.wr_runKept _ _ h

theorem State.putB_runKept (s : State) (F : Fld) (b : Bool) (h : R.DISC_STATUS ≠ F.addr) : RunKept s (s.putB F b) := s.wr_runKept _ _ h

theorem State.putBit_runKept (s : State) (F : Fld) (b : Nat) (v : Bool) (h : R.DISC_STATUS ≠ F.addr) : RunKept s (s.putBit F b v) :=
  s.wr_runKept _ _ h

theorem State.modEng_runKept (s : State) (n : Nat) (f : Engine → Engine) : RunKept s (s.modEng n f) :=
  ⟨State.modEng_part .., State.modEng_mem .., congrArg HostState.results (State.modEng_host ..), State.modEng_rd ..,
    congrArg DiscState.op (State.modEng_disc ..), congrArg DiscState.ran (State.modEng_disc ..)⟩

theorem State.raise_runKept (s : State) (code sev unit : Nat) (c0 c1 : Option Word) : RunKept s (s.raise code sev unit c0 c1) :=
  ⟨rfl, rfl, rfl, s.raise_onlyRegs code sev unit c0 c1 _ (by decide), rfl, rfl⟩

theorem State.event_runKept (s : State) (code source : Nat) (c0 c1 c2 c3 : Option Word) : RunKept s (s.event code source c0 c1 c2 c3) :=
  ⟨rfl, rfl, rfl, rfl, rfl, rfl⟩

theorem State.setShadow_runKept (s : State) (a : Nat) (v : Word) : RunKept s (s.setShadow a v) := ⟨rfl, rfl, rfl, rfl, rfl, rfl⟩

theorem State.takeMeas_runKept (s : State) (l : List (Nat × DiscMeas)) (ok : Nat → Bool) : RunKept s (s.takeMeas l ok) :=
  ⟨rfl, rfl, rfl, rfl, rfl, rfl⟩

/-! ### Registers of engines, gate links and tables are not DISC_STATUS -/

theorem R.DISC_STATUS_ne_feCtrl {n : Nat} (hn : n < 8) : R.DISC_STATUS ≠ R.FE_CTRL n := by simp only [R.DISC_STATUS, R.FE_CTRL]; omega
theorem R.DISC_STATUS_ne_feTick {n : Nat} (hn : n < 8) : R.DISC_STATUS ≠ R.FE_TICK n := by simp only [R.DISC_STATUS, R.FE_TICK]; omega
theorem R.DISC_STATUS_ne_feStatus {n : Nat} (hn : n < 8) : R.DISC_STATUS ≠ R.FE_STATUS n := by simp only [R.DISC_STATUS, R.FE_STATUS]; omega
theorem R.DISC_STATUS_ne_feLoad {n : Nat} (hn : n < 8) : R.DISC_STATUS ≠ R.FE_LOAD n := by simp only [R.DISC_STATUS, R.FE_LOAD]; omega
theorem R.DISC_STATUS_ne_feTickno {n : Nat} (hn : n < 8) : R.DISC_STATUS ≠ R.FE_TICKNO n := by simp only [R.DISC_STATUS, R.FE_TICKNO]; omega
theorem R.DISC_STATUS_ne_gateCap {h : Nat} (hh : h < 48) : R.DISC_STATUS ≠ R.GATE_CH_CAP h := by simp only [R.DISC_STATUS, R.GATE_CH_CAP]; omega
theorem R.DISC_STATUS_ne_gateDelay {h : Nat} (hh : h < 48) : R.DISC_STATUS ≠ R.GATE_CH_DELAY h := by
  simp only [R.DISC_STATUS, R.GATE_CH_DELAY]; omega
theorem R.DISC_STATUS_ne_seqEntry {e : Nat} (he : e < 64) : R.DISC_STATUS ≠ R.ACQ_SEQ_ENTRY 1 e := by
  simp only [R.DISC_STATUS, R.ACQ_SEQ_ENTRY]; omega
theorem R.DISC_STATUS_ne_seqDelay {e : Nat} (he : e < 64) : R.DISC_STATUS ≠ R.ACQ_SEQ_DELAY 1 e := by
  simp only [R.DISC_STATUS, R.ACQ_SEQ_DELAY]; omega

theorem nChan_le (p : Part) : nChan p ≤ 48 := by cases p <;> decide

theorem State.lt_of_mem_allChans {s : State} {h : Nat} (hm : h ∈ s.allChans) : h < 48 := (List.mem_range.mp hm).trans_le (nChan_le s.part)

theorem State.lt_of_mem_engines {s : State} {n : Nat} (hm : n ∈ s.engines) : n < 8 := List.mem_range.mp (List.mem_filter.mp hm).1

/-! ### The steps of a run -/

/-- The active words of SEQ_1 are the converter's own (R363). -/
theorem State.swapTable_runKept (s : State) : RunKept s (s.swapTable 1) := by
  unfold State.swapTable
  refine (RunKept.each _ (fun e he t => ?_) s).trans ((State.putB_runKept _ _ _ (by decide)).trans (State.event_runKept _ _ _ _ _ _ _))
  have he : e < 64 := List.mem_range.mp he
  exact (t.wr_runKept _ _ (R.DISC_STATUS_ne_seqEntry he)).trans (State.wr_runKept _ _ _ (R.DISC_STATUS_ne_seqDelay he))

theorem State.armSwap_runKept (s : State) : RunKept s (s.armSwap 1) := by
  have h := s.putB_runKept (R.ACQ_SEQ_CTRL_SWAP 1) true (by decide)
  unfold State.armSwap
  dsimp only
  split
  · exact h
  · exact h.trans (State.swapTable_runKept _)

theorem State.discTable_runKept (s : State) : RunKept s s.discTable :=
  (RunKept.each _ (fun _ _ t => (t.setShadow_runKept _ _).trans (State.setShadow_runKept _ _ _)) s).trans (State.armSwap_runKept _)

theorem State.commTable_runKept (s : State) : RunKept s s.commTable :=
  (RunKept.each _ (fun _ _ t => (t.setShadow_runKept _ _).trans (State.setShadow_runKept _ _ _)) s).trans (State.armSwap_runKept _)

theorem State.sendFrames_edgeOnly (s : State) (h : Nat) (l : List Word) : EdgeOnly s (s.sendFrames h l) := ⟨_, rfl⟩

theorem State.putDelays_runKept (s : State) {h : Nat} (hh : h < 48) (on off : Nat) :
    RunKept s ((s.put (R.GATE_CH_DELAY_T_ON h) on).put (R.GATE_CH_DELAY_T_OFF h) off) :=
  (s.put_runKept _ _ (R.DISC_STATUS_ne_gateDelay hh)).trans (State.put_runKept _ _ _ (R.DISC_STATUS_ne_gateDelay hh))

theorem State.readCap_runKept (s : State) {h : Nat} (hh : h < 48) (cap : Nat) : RunKept s (s.readCap h cap) := by
  have hput (on off : Nat) := (s.wr_runKept _ (w32 cap) (R.DISC_STATUS_ne_gateCap hh)).trans (State.putDelays_runKept _ hh on off)
  unfold State.readCap
  dsimp only
  split
  · exact (hput _ _).trans (State.sendFrames_edgeOnly _ _ _).runKept
  · exact hput _ _

theorem State.haltEngine_runKept (s : State) {n : Nat} (hn : n < 8) : RunKept s (s.haltEngine n) := by
  unfold State.haltEngine State.stopEngine
  exact (((s.putB_runKept (R.FE_CTRL_RUN n) _ (R.DISC_STATUS_ne_feCtrl hn)).trans
    (State.putB_runKept _ (R.FE_STATUS_RUNNING n) _ (R.DISC_STATUS_ne_feStatus hn))).trans
    (State.putBit_runKept _ R.PAIR_STATUS_FE_IN_SERVICE _ _ (by decide))).trans (State.modEng_runKept _ n _)

theorem State.stopDiscovery_runKept (s : State) : RunKept s s.stopDiscovery :=
  RunKept.each _ (fun _ hn t => t.haltEngine_runKept (State.lt_of_mem_engines (List.mem_filter.mp hn).1)) s

theorem State.askGrant_edgeOnly (s : State) (u : Nat) : EdgeOnly s (s.askGrant u) := by
  unfold State.askGrant
  split
  · exact EdgeOnly.refl s
  · exact ⟨_, rfl⟩

theorem State.unhold_edgeOnly (s : State) (u : Nat) : EdgeOnly s (s.unhold u) := ⟨_, rfl⟩

/-! ### An engine starts (R167, R193, R384) -/

/-- An engine that has started enters service, unless it has diverged and been returned before. -/
def State.enterService (s : State) (n : Nat) : State :=
  if !s.bitAt R.PAIR_STATUS_FE_DIVERGED n then s.putBit R.PAIR_STATUS_FE_IN_SERVICE n true
  else if (s.eng n).returns = 0 then (s.putBit R.PAIR_STATUS_FE_IN_SERVICE n true).returnEngine n
  else if (s.eng n).returns = 1 then s.putBit R.PAIR_STATUS_FE_IN_SERVICE n true
  else s

theorem State.startNow_eq (s : State) (n : Nat) : s.startNow n = ((s.startShown n).programStart n).enterService n := rfl

/-- The runtime does nothing of its own for the discovery program. -/
theorem State.startNow_discovery {s : State} {n : Nat} (h : (s.eng n).prog = .discovery) : s.startNow n = (s.startShown n).enterService n := by
  have hprog : ((s.startShown n).eng n).prog = .discovery := by rw [s.startShown_eng]; exact h
  rw [State.startNow_eq, State.programStart, hprog]

/-- An engine returned: beside the count of its returns, grants and holds. -/
theorem State.returnEngine_edgeOnly (s : State) (n : Nat) : EdgeOnly (s.modEng n fun e => { e with returns := 1 }) (s.returnEngine n) := by
  unfold State.returnEngine
  dsimp only
  split
  · have hfree := EdgeOnly.each State.unhold State.unhold_edgeOnly (s.modEng n fun e => { e with returns := 1 })
      ((s.modEng n fun e => { e with returns := 1 }).unitsOf n)
    split
    · exact hfree.trans (EdgeOnly.each _ State.askGrant_edgeOnly _ _)
    · exact hfree
  · exact EdgeOnly.refl _

theorem State.returnEngine_runKept (s : State) (n : Nat) : RunKept s (s.returnEngine n) :=
  (s.modEng_runKept n _).trans (s.returnEngine_edgeOnly n).runKept

theorem State.enterService_runKept (s : State) (n : Nat) : RunKept s (s.enterService n) := by
  have hput := s.putBit_runKept R.PAIR_STATUS_FE_IN_SERVICE n true (by decide)
  unfold State.enterService
  split
  · exact hput
  · split
    · exact hput.trans (State.returnEngine_runKept _ n)
    · split
      · exact hput
      · exact RunKept.refl s

theorem State.startShown_runKept (s : State) {n : Nat} (hn : n < 8) : RunKept s (s.startShown n) := by
  have hctrl := R.DISC_STATUS_ne_feCtrl hn
  have hstatus := R.DISC_STATUS_ne_feStatus hn
  have hregs : RunKept s (s.startRegs n) :=
    (((((s.putB_runKept (R.FE_CTRL_RUN n) _ hctrl).trans (State.putB_runKept _ (R.FE_STATUS_RUNNING n) _ hstatus)).trans
      (State.put_runKept _ (R.FE_STATUS_MISSED n) _ hstatus)).trans (State.put_runKept _ (R.FE_STATUS_EVT_DROP n) _ hstatus)).trans
      (State.put_runKept _ (R.FE_LOAD_MAX n) _ (R.DISC_STATUS_ne_feLoad hn))).trans (State.wr_runKept _ _ _ (R.DISC_STATUS_ne_feTickno hn))
  exact ((hregs.trans (State.modEng_runKept _ n _)).trans (State.put_runKept _ (R.FE_STATUS_REGION n) _ hstatus)).trans
    (State.put_runKept _ (R.FE_STATUS_BLEND_LEFT n) _ hstatus)

/-! ### The discovery program in the engines (R79, R195) -/

/-- Every engine has the program that it had. -/
def ProgsKept (s t : State) : Prop := ∀ m, (t.eng m).prog = (s.eng m).prog

theorem ProgsKept.trans {s t u : State} (h : ProgsKept s t) (k : ProgsKept t u) : ProgsKept s u := fun m => (k m).trans (h m)

theorem ProgsKept.of_fe {s t : State} (h : t.fe = s.fe) : ProgsKept s t := fun m => congrArg Engine.prog (State.eng_of_fe h m)

theorem EdgeOnly.progsKept {s t : State} (h : EdgeOnly s t) : ProgsKept s t := ProgsKept.of_fe h.refreshed.fe

theorem State.put_progsKept (s : State) (F : Fld) (v : Nat) : ProgsKept s (s.put F v) := ProgsKept.of_fe (State.put_fe ..)
theorem State.putB_progsKept (s : State) (F : Fld) (b : Bool) : ProgsKept s (s.putB F b) := ProgsKept.of_fe (State.putB_fe ..)
theorem State.putBit_progsKept (s : State) (F : Fld) (b : Nat) (v : Bool) : ProgsKept s (s.putBit F b v) := State.put_progsKept _ _ _

theorem State.modEng_progsKept (s : State) (n : Nat) {f : Engine → Engine} (hf : ∀ e, (f e).prog = e.prog) : ProgsKept s (s.modEng n f) := by
  intro m
  by_cases hm : m = n
  · rw [hm, State.eng_modEng_same, hf]
  · rw [State.eng_modEng_ne _ _ _ hm]

theorem State.haltEngine_progsKept (s : State) (n : Nat) : ProgsKept s (s.haltEngine n) := by
  unfold State.haltEngine State.stopEngine
  exact (((s.putB_progsKept _ _).trans (State.putB_progsKept _ _ _)).trans (State.putBit_progsKept _ _ _ _)).trans
    (State.modEng_progsKept _ n fun _ => rfl)

theorem State.enterService_progsKept (s : State) (n : Nat) : ProgsKept s (s.enterService n) := by
  have hput := s.putBit_progsKept R.PAIR_STATUS_FE_IN_SERVICE n true
  unfold State.enterService
  split
  · exact hput
  · split
    · exact (hput.trans (State.modEng_progsKept _ n (f := fun e => { e with returns := 1 }) fun _ => rfl)).trans
        (State.returnEngine_edgeOnly _ n).progsKept
    · split
      · exact hput
      · exact fun _ => rfl

theorem State.startShown_progsKept (s : State) (n : Nat) : ProgsKept s (s.startShown n) := by
  intro m
  by_cases hm : m = n
  · rw [hm, State.startShown_eng]; rfl
  · rw [State.startShown_eng_ne _ _ hm]

/-- Engine `n` at rest with the discovery program, its tick and its entry, before it starts. -/
def State.discReady (s : State) (n : Nat) : State :=
  (((s.haltEngine n).put (R.FE_TICK_PERIOD n) 2500).put (R.FE_CTRL_ENTRY n) 0).modEng n fun e => { e with prog := .discovery }

theorem State.discReady_prog (s : State) (n : Nat) : ((s.discReady n).eng n).prog = .discovery := by rw [State.discReady, State.eng_modEng_same]

theorem State.discReady_prog_ne (s : State) {n m : Nat} (h : m ≠ n) : ((s.discReady n).eng m).prog = (s.eng m).prog := by
  rw [State.discReady, State.eng_modEng_ne _ _ _ h]
  exact (((s.haltEngine_progsKept n).trans (State.put_progsKept _ _ _)).trans (State.put_progsKept _ _ _)) m

theorem State.discEngine_eq (s : State) (n : Nat) : s.discEngine n = ((s.discReady n).startShown n).enterService n :=
  State.startNow_discovery (s.discReady_prog n)

theorem State.discEngine_progsKept (s : State) (n : Nat) : ProgsKept (s.discReady n) (s.discEngine n) := by
  rw [State.discEngine_eq]
  exact (State.startShown_progsKept _ n).trans (State.enterService_progsKept _ n)

theorem State.discEngine_runKept (s : State) {n : Nat} (hn : n < 8) : RunKept s (s.discEngine n) := by
  have hready : RunKept s (s.discReady n) :=
    (((s.haltEngine_runKept hn).trans (State.put_runKept _ (R.FE_TICK_PERIOD n) _ (R.DISC_STATUS_ne_feTick hn))).trans
      (State.put_runKept _ (R.FE_CTRL_ENTRY n) _ (R.DISC_STATUS_ne_feCtrl hn))).trans (State.modEng_runKept _ n _)
  rw [State.discEngine_eq]
  exact (hready.trans (State.startShown_runKept _ hn)).trans (State.enterService_runKept _ n)

/-- The discovery program is in every engine that takes it in turn, and stays where it was. -/
theorem State.each_discEngine_prog (l : List Nat) (s : State) {m : Nat} (h : m ∈ l ∨ (s.eng m).prog = .discovery) :
    ((s.each l State.discEngine).eng m).prog = .discovery := by
  induction l generalizing s with
  | nil => exact h.resolve_left List.not_mem_nil
  | cons n l ih =>
    refine ih (s.discEngine n) (or_iff_not_imp_left.mpr fun hl => ?_)
    rw [s.discEngine_progsKept n m]
    by_cases hm : m = n
    · rw [hm, s.discReady_prog n]
    · rw [s.discReady_prog_ne hm]
      exact h.resolve_left fun hc => (List.mem_cons.mp hc).elim hm hl

/-! ### A run begins (R79) -/

/-- BUSY is set, and nothing is measured yet. -/
def State.discBegun (s : State) : State :=
  { s.putB R.DISC_STATUS_BUSY true with disc := { s.disc with meas := [], noLink := false, linkUp := false, ticks := [] } }

/-- Every engine runs the discovery program. -/
def State.discLoaded (s : State) : State := s.each s.engines State.discEngine

/-- The enables for the winding tests are asked for. -/
def State.discAsked (s : State) : State := (s.each (s.motors.filter fun m => s.driversMatch (4 + m)) fun t m => t.askGrant (4 + m)).discLink

theorem State.discLoaded_runKept (s : State) : RunKept s s.discLoaded :=
  RunKept.each _ (fun _ hn t => t.discEngine_runKept (State.lt_of_mem_engines hn)) s

/-- Asking for enables changes the Edge Placer alone, and the note that the link is up. -/
theorem State.discAsked_frame (s : State) : ∃ e up, s.discAsked = { s with edge := e, disc.linkUp := up } := by
  obtain ⟨e, he⟩ := EdgeOnly.each (fun (t : State) m => t.askGrant (4 + m)) (fun t m => t.askGrant_edgeOnly (4 + m)) s
    (s.motors.filter fun m => s.driversMatch (4 + m))
  rw [State.discAsked, he, State.discLink]
  split
  · obtain ⟨e', he'⟩ := EdgeOnly.each State.askGrant State.askGrant_edgeOnly ({ s with edge := e, disc.linkUp := true } : State)
      (({ s with edge := e } : State).sets.filter ({ s with edge := e } : State).driversMatch)
    exact ⟨e', true, he'⟩
  · exact ⟨e, s.disc.linkUp, rfl⟩

theorem State.discAsked_runKept (s : State) : RunKept s s.discAsked := by
  obtain ⟨_, _, h⟩ := s.discAsked_frame
  rw [h]
  exact ⟨rfl, rfl, rfl, rfl, rfl, rfl⟩

theorem State.discAsked_progsKept (s : State) : ProgsKept s s.discAsked := by
  obtain ⟨_, _, h⟩ := s.discAsked_frame
  exact ProgsKept.of_fe (by rw [h])

/-- What stands once a run has begun: its steps leave the rest alone, and every engine has the discovery program. -/
theorem State.discStart_spec (s : State) (meas : List (Nat × DiscMeas)) :
    RunKept s.discBegun (s.discStart meas) ∧ ∀ n, n ∈ s.engines → ((s.discStart meas).eng n).prog = .discovery := by
  unfold State.discStart
  extract_lets _ _ s1 s2 s3 caps s4 s5
  have hcap (x : Nat × DiscMeas) (hx : x ∈ caps) : x.1 - 32 < 48 := by
    have hlt := nChan_le s.part
    have hx := (List.mem_filter.mp hx).2
    simp only [Bool.and_eq_true, decide_eq_true_eq] at hx
    omega
  have htable : RunKept s.discBegun s1 := s.discBegun.discTable_runKept
  have htaken : RunKept s1 s3 := (State.takeMeas_runKept _ _ _).trans (State.takeMeas_runKept _ _ _)
  have hcaps : RunKept s3 s4 := RunKept.each caps (fun x hx t => t.readCap_runKept (hcap x hx) _) s3
  have hmeas := (htable.trans htaken).trans hcaps
  refine ⟨(hmeas.trans s4.discLoaded_runKept).trans s5.discAsked_runKept, fun n hn => ?_⟩
  have hn : n ∈ s4.engines := hmeas.engines ▸ hn
  exact (s5.discAsked_progsKept n).trans (State.each_discEngine_prog _ s4 (.inl hn))

theorem State.discBegun_busy (s : State) : s.discBegun.flag R.DISC_STATUS_BUSY = true :=
  State.flag_putB_same s R.DISC_STATUS_BUSY true rfl (by decide)

theorem State.discStart_busy (s : State) (meas : List (Nat × DiscMeas)) : (s.discStart meas).flag R.DISC_STATUS_BUSY = true :=
  (s.discStart_spec meas).1.busy.trans s.discBegun_busy

/-! ### A run ends (R79, R81) -/

theorem State.gateDelay_runKept (s : State) {h : Nat} (hh : h < 48) (m : DiscMeas) : RunKept s (s.gateDelay h m) := by
  unfold State.gateDelay
  dsimp only
  split
  · exact (s.putDelays_runKept hh _ _).trans (State.raise_runKept _ _ _ _ _ _)
  · exact s.putDelays_runKept hh _ _

theorem State.gateDelays_runKept (s : State) : RunKept s s.gateDelays := by
  refine RunKept.each _ (fun h hh t => ?_) s
  split
  · exact t.gateDelay_runKept (State.lt_of_mem_allChans hh) _
  · exact RunKept.refl t

theorem State.loadEngine_runKept (s : State) {n : Nat} (hn : n < 8) : RunKept s (s.loadEngine n) := by
  unfold State.loadEngine
  exact (s.put_runKept (R.FE_TICK_PERIOD n) _ (R.DISC_STATUS_ne_feTick hn)).trans (State.modEng_runKept _ n _)

theorem State.writeLimits_pairOnly (s : State) (n : Nat) : PairOnly s (s.writeLimits n) :=
  (s.wardenStage_pairOnly _ _ _).trans (State.wardenStage_pairOnly _ _ _ _)

theorem State.refreshLimits_pairOnly (s : State) : PairOnly s s.refreshLimits :=
  State.each_rel PairOnly.refl PairOnly.trans _ (fun n _ t => t.writeLimits_pairOnly n) s

theorem State.loadEngines_runKept (s : State) : RunKept s s.loadEngines :=
  ((RunKept.each _ (fun _ hn t => t.loadEngine_runKept (State.lt_of_mem_engines hn)) s).trans (State.refreshLimits_pairOnly _).runKept).trans
    (State.refreshHold_pairOnly _).runKept

theorem State.configDriver_runKept (s : State) (h : Nat) : RunKept s (s.configDriver h) := (s.sendFrames_edgeOnly h _).runKept

/-- The outputs and engines after a run: the measured delays and the drivers' settings are in place, the tests' enables are gone, and the engines
and SEQ_1 hold what was commissioned. -/
def State.discClosed (s : State) (drivers units : List Nat) : State :=
  ((s.gateDelays.each drivers State.configDriver).each units State.removeEnable).stopDiscovery.loadEngines.commTable

theorem State.discClosed_runKept (s : State) (drivers units : List Nat) : RunKept s (s.discClosed drivers units) := by
  have hset : RunKept s (s.gateDelays.each drivers State.configDriver) :=
    s.gateDelays_runKept.trans (RunKept.each _ (fun h _ t => t.configDriver_runKept h) _)
  have hoff (t : State) : RunKept t (t.each units State.removeEnable) := RunKept.each _ (fun u _ t => (t.removeEnable_refreshed u).runKept) t
  exact (((hset.trans (hoff _)).trans (State.stopDiscovery_runKept _)).trans (State.loadEngines_runKept _)).trans (State.commTable_runKept _)

/-- A run has completed (R82). -/
def State.runDone (s : State) : State := { s with disc.ran := true }

theorem State.runDone_flag (s : State) (F : Fld) : s.runDone.flag F = s.flag F := rfl

/-- The items are judged while BUSY is set; what follows its clearing closes the run. -/
theorem State.discJudge_eq (s : State) (meas : List (Nat × DiscMeas)) (emf : List Nat) : ∃ t drivers units,
    s.discJudge meas emf = ((State.putB t R.DISC_STATUS_BUSY false).discClosed drivers units).runDone := by
  simp only [State.discJudge]
  generalize h : State.commTable _ = closed
  exact ⟨_, _, _, by rw [State.discClosed, h]; rfl⟩

theorem State.discJudge_ended (s : State) (meas : List (Nat × DiscMeas)) (emf : List Nat) :
    (s.discJudge meas emf).flag R.DISC_STATUS_BUSY = false ∧ (s.discJudge meas emf).disc.ran = true := by
  obtain ⟨t, drivers, units, h⟩ := s.discJudge_eq meas emf
  rw [h, State.runDone_flag, (State.discClosed_runKept _ drivers units).busy, State.flag_putB_same _ _ _ rfl (by decide)]
  exact ⟨rfl, rfl⟩

theorem State.discFlags_runKept (s : State) : RunKept s s.discFlags :=
  (((s.putB_runKept _ _ (by decide)).trans (State.putB_runKept _ _ _ (by decide))).trans (State.putB_runKept _ _ _ (by decide))).trans
    (State.putB_runKept _ _ _ (by decide))

/-- DISC_COMPLETE arises (R81). -/
def State.discTold (s : State) : State :=
  s.event 0x6018 0x15 (s.rd R.DISC_STATUS) (s.rd R.SYS_MODE) (w32 s.atime.toNat) (w32 0)

theorem State.discTold_event (s : State) : ∃ e, e ∈ s.discTold.host.events ∧ e.code = 0x6018 :=
  ⟨_, List.mem_append_right _ List.mem_cons_self, rfl⟩

/-! ### The transition to STANDBY (R33) -/

/-- Acceptance of a transition to STANDBY concerns the charger's hold alone. -/
theorem State.startTrans_standby_pairOnly (s : State) (kind prec code : Nat) :
    PairOnly (s.inTrans .standby kind prec code) (s.startTrans .standby kind prec code) := by
  have haccepted (t : State) : PairOnly t (t.accepted .standby) := by
    unfold State.accepted
    split
    · exact t.wardenStage_pairOnly _ _ _
    · exact PairOnly.refl t
  rw [State.startTrans_eq]
  simp only [reduceCtorEq, if_false, decide_false, Bool.false_and, State.onlyIf, Bool.false_eq_true]
  exact haccepted _

theorem State.inTrans_runKept (s : State) (dest : Mode) (kind prec code : Nat) : RunKept s (s.inTrans dest kind prec code) := by
  have hs : (s.inTrans dest kind prec code).rd R.DISC_STATUS = s.rd R.DISC_STATUS := by
    rw [State.inTrans, State.withTrans_rd, s.transMarked_onlyRegs dest _ (by decide)]
  obtain ⟨_, _, h⟩ := s.inTrans_frame dest kind prec code
  rw [h] at hs ⊢
  exact ⟨rfl, rfl, rfl, hs, rfl, rfl⟩

theorem State.startTrans_standby_runKept (s : State) (kind prec code : Nat) : RunKept s (s.startTrans .standby kind prec code) :=
  (s.inTrans_runKept .standby kind prec code).trans (s.startTrans_standby_pairOnly kind prec code).runKept

theorem State.startTrans_standby_mode (s : State) (kind prec code : Nat) :
    (s.startTrans .standby kind prec code).flag R.SYS_MODE_IN_TRANSITION = true ∧
      (s.startTrans .standby kind prec code).get R.SYS_MODE_TARGET = 5 := by
  have h := s.startTrans_standby_pairOnly kind prec code
  rw [h.flag, State.get_of_rd _ (h.rd _), State.inTrans, State.withTrans_flag, State.withTrans_get]
  exact ⟨s.transMarked_flag .standby, s.transMarked_target .standby⟩

theorem State.startTrans_standby_host (s : State) (kind prec code : Nat) : (s.startTrans .standby kind prec code).host = s.host := by
  obtain ⟨_, _, h⟩ := s.inTrans_frame .standby kind prec code
  rw [(s.startTrans_standby_pairOnly kind prec code).host, h]

/-! ### The rows -/

section
variable {s : State} (meas : List (Nat × DiscMeas))

theorem discoverStart_begins (hm : s.md = .discover) (hb : s.flag R.DISC_STATUS_BUSY = false) : ∃ t, execDiscoverStart meas s = .next t ∧
    t.flag R.DISC_STATUS_BUSY = true ∧ (∀ n, n ∈ s.engines → (t.eng n).prog = .discovery) ∧ t.mem = s.mem ∧
      t.host.results = s.host.results := by
  obtain ⟨hkept, hprog⟩ := s.discStart_spec meas
  exact ⟨s.discStart meas, by simp [execDiscoverStart, hm, hb], s.discStart_busy meas, hprog, hkept.mem, hkept.results⟩

theorem execDiscoverStart_idle (hm : s.md ≠ .discover) : execDiscoverStart meas s = .next s := by simp [execDiscoverStart, hm]

/-- LINK_WAIT has expired. -/
def State.linkMissed (s : State) : State := { s with disc.noLink := true }

theorem linkWaitExpiry_raises (hb : s.flag R.DISC_STATUS_BUSY = true) (huv : s.flag R.SAFE_DCL_STATUS_UV = true) (hn : s.disc.noLink = false)
    (hl : s.disc.linkUp = false) : ∃ t, execDiscLinkWaitExpiry s = .next t ∧ Raised s t 0x1504 0 0x15 ∧ t.disc.noLink = true ∧
    OnlyRegs s t [R.LEDGER_SEQ] ∧ t = { s with regs := t.regs, led := t.led, free := t.free, disc := t.disc } :=
  ⟨s.linkMissed.raise 0x1504 0 0x15, by simp [execDiscLinkWaitExpiry, State.linkMissed, hb, huv, hn, hl],
    (s.linkMissed.raise_raised 0x1504 0 0x15).after rfl rfl rfl, rfl, s.linkMissed.raise_onlyRegs 0x1504 0 0x15 none none, rfl⟩

theorem execDiscoverEnd_idle (emf : List Nat) (hb : s.flag R.DISC_STATUS_BUSY = false) : execDiscoverEnd meas emf s = .next s := by
  simp [execDiscoverEnd, hb]

theorem execDiscoverEnd_discover (emf : List Nat) (hb : s.flag R.DISC_STATUS_BUSY = true) (hm : s.md = .discover) :
    execDiscoverEnd meas emf s = .next ((s.discJudge meas emf).discFlags.discTold.startTrans .standby 6 precOwn 0) := by
  simp only [execDiscoverEnd, hb, hm, Bool.not_true, Bool.false_eq_true, if_false, if_true]
  rfl

theorem discoverEnd_completes (emf : List Nat) (hb : s.flag R.DISC_STATUS_BUSY = true) (hm : s.md = .discover) :
    ∃ t, execDiscoverEnd meas emf s = .next t ∧ t.flag R.SYS_MODE_IN_TRANSITION = true ∧ t.get R.SYS_MODE_TARGET = 5 ∧
      t.flag R.DISC_STATUS_BUSY = false ∧ t.disc.ran = true ∧ ∃ e, e ∈ t.host.events ∧ e.code = 0x6018 := by
  have hkept : RunKept (s.discJudge meas emf) ((s.discJudge meas emf).discFlags.discTold.startTrans .standby 6 precOwn 0) :=
    ((State.discFlags_runKept _).trans (State.event_runKept _ _ _ _ _ _ _)).trans (State.startTrans_standby_runKept _ _ _ _)
  obtain ⟨htrans, htarget⟩ := State.startTrans_standby_mode (s.discJudge meas emf).discFlags.discTold 6 precOwn 0
  obtain ⟨hbusy, hran⟩ := s.discJudge_ended meas emf
  refine ⟨_, execDiscoverEnd_discover meas emf hb hm, htrans, htarget, hkept.busy.trans hbusy, hkept.ran.trans hran, ?_⟩
  rw [State.startTrans_standby_host]
  exact State.discTold_event _

end

/-! ### The commands (R82, R83, R439) -/

section
variable {s : State} {c : Cmd}

/-- The commands of the group are COMMISSION's. -/
theorem State.modeOk_commission {opcode : Nat} (ho : opcode / 256 = 0x60) (hm : s.md = .commission) : s.modeOk opcode false = true := by
  simp [State.modeOk, groupAccepts, ho, hm]

/-- A DISC_RUN has started and waits for the end of its run. -/
def State.runAsked (s : State) (c : Cmd) : State := { s.begin c with disc := { s.disc with op := some (c.master, c.tag) } }

section
variable (meas : List (Nat × DiscMeas)) (hs : s.startable c 0x6010 = true) (ht : c.target = 0x15) (hm : s.md = .commission)
include hs ht hm

theorem execDiscRun_eq : execDiscRun c meas s =
    if s.flag R.DISC_STATUS_BUSY then .next (s.finish c .busyRetry) else .next ((s.runAsked c).discStart meas) := by
  have htg : s.targets c [0x15] = true := State.targets_self ht (by decide)
  simp only [execDiscRun, State.command_startable _ hs, discTargets, htg, State.modeOk_commission (opcode := 0x6010) rfl hm, Bool.not_true,
    Bool.false_eq_true, if_false]
  rfl

theorem discRun_begins (hb : s.flag R.DISC_STATUS_BUSY = false) : ∃ t, execDiscRun c meas s = .next t ∧
    t = (s.runAsked c).discStart meas ∧ t.flag R.DISC_STATUS_BUSY = true ∧ t.disc.op = some (c.master, c.tag) :=
  ⟨_, by rw [execDiscRun_eq meas hs ht hm, hb]; rfl, rfl, State.discStart_busy _ meas, ((s.runAsked c).discStart_spec meas).1.op⟩

theorem execDiscRun_busy (hb : s.flag R.DISC_STATUS_BUSY = true) : execDiscRun c meas s = .next (s.finish c .busyRetry) := by
  rw [execDiscRun_eq meas hs ht hm, hb, if_pos rfl]

end

/-- With the run's record in place of the commissioned one. -/
def State.recordTaken (s : State) : State := { s with led.stored.disc := s.disc.meas, led.present := true }

theorem TallyOnly.led {s t : State} (h : TallyOnly s t) : t.led = s.led := by obtain ⟨-, _, _, _, _, _, rfl⟩ := h; rfl
theorem TallyOnly.mem {s t : State} (h : TallyOnly s t) : t.mem = s.mem := by obtain ⟨-, _, _, _, _, _, rfl⟩ := h; rfl

theorem State.setChanged_led (s : State) : s.setChanged.led = s.led := by
  rw [s.setChanged_tallyOnly.led, State.markChanged, State.putB_led, State.putB_led]

theorem State.setChanged_mem (s : State) : s.setChanged.mem = s.mem := by
  rw [s.setChanged_tallyOnly.mem, State.markChanged, State.putB_mem, State.putB_mem]

section
variable (hs : s.startable c 0x6011 = true) (ht : c.target = 0x15) (hm : s.md = .commission)
include hs ht hm


theorem execDiscAdopt_eq : execDiscAdopt c s =
    if s.mramWorn 0x6011 || !s.disc.ran || s.flag R.DISC_STATUS_BUSY || discItems.any (fun n => s.itemStatus n = 3) then .next (s.finish c .badParam)
    else .next ((s.recordTaken.setChanged.putB R.DISC_STATUS_REFERENCE true).finish c .ok) := by
  have htg : s.targets c [0x15] = true := State.targets_self ht (by decide)
  simp only [execDiscAdopt, State.command_startable _ hs, discTargets, htg, State.modeOk_commission (opcode := 0x6011) rfl hm, Bool.not_true,
    Bool.false_eq_true, if_false]
  rfl

theorem execDiscAdopt_refused (h : s.disc.ran = false ∨ s.mramWorn 0x6011 = true) : execDiscAdopt c s = .next (s.finish c .badParam) := by
  rw [execDiscAdopt_eq hs ht hm, if_pos]
  rcases h with h | h <;> simp [h]

theorem execDiscAdopt_adopts (hr : s.disc.ran = true) (hb : s.flag R.DISC_STATUS_BUSY = false) (hi : ∀ n, n ∈ discItems → s.itemStatus n ≠ 3)
    (hw : s.mramWorn 0x6011 = false) :
    execDiscAdopt c s = .next ((s.recordTaken.setChanged.putB R.DISC_STATUS_REFERENCE true).finish c .ok) := by
  have hany : discItems.any (fun n => s.itemStatus n = 3) = false := by simpa using hi
  rw [execDiscAdopt_eq hs ht hm, hr, hb, hw, hany]
  rfl

theorem discAdopt_adopts (hr : s.disc.ran = true) (hb : s.flag R.DISC_STATUS_BUSY = false) (hi : ∀ n, n ∈ discItems → s.itemStatus n ≠ 3)
    (hw : s.mramWorn 0x6011 = false) : ∃ t, execDiscAdopt c s = .next t ∧ t.led.stored.disc = s.disc.meas ∧
    t.flag R.DISC_STATUS_REFERENCE = true ∧ t.flag R.LEDGER_COMM_STATUS_CHANGED = true ∧ t.flag R.LEDGER_COMM_STATUS_CONFIRMED = false ∧
    (∃ r, r ∈ t.host.results ∧ r.master = c.master ∧ r.tag = c.tag ∧ r.status = .ok) ∧ t.mem = s.mem := by
  obtain ⟨hchanged, hconfirmed⟩ := s.recordTaken.setChanged_changed
  refine ⟨_, execDiscAdopt_adopts hs ht hm hr hb hi hw, ?_, ?_, ?_, ?_, ⟨_, List.mem_append_right _ List.mem_cons_self, rfl, rfl, rfl⟩, ?_⟩
  · rw [State.finish_led, State.putB_led, State.setChanged_led, State.recordTaken]
  · rw [State.finish_flag]
    exact State.flag_putB_same _ R.DISC_STATUS_REFERENCE true rfl (by decide)
  · rw [State.finish_flag, State.flag_putB_of_apart _ _ _ _ (.inl (by decide)), hchanged]
  · rw [State.finish_flag, State.flag_putB_of_apart _ _ _ _ (.inl (by decide)), hconfirmed]
  · rw [State.finish_mem, State.putB_mem, State.setChanged_mem, State.recordTaken]

end

end

end Sys2Proof.Machine

open Sys2Proof.Machine in
/-- Settles O10: after BUSY is written no step of a run's beginning or end reaches DISC_STATUS, and no step of its beginning the memories or the
results; the engines take the discovery program one after the other. -/
theorem discoveryRuns : Obligations.DiscoveryRuns := by
  intro s
  exact ⟨fun meas hm hb => discoverStart_begins meas hm hb, fun meas hm => execDiscoverStart_idle meas hm, linkWaitExpiry_raises,
    fun meas emf hb => execDiscoverEnd_idle meas emf hb, fun meas emf hb hm => discoverEnd_completes meas emf hb hm,
    fun c meas hs ht hm hb => discRun_begins meas hs ht hm hb, fun c meas hs ht hm hb => execDiscRun_busy meas hs ht hm hb,
    fun c hs ht hm hr hb hi hw => discAdopt_adopts hs ht hm hr hb hi hw, fun c hs ht hm h => execDiscAdopt_refused hs ht hm h⟩
end

section
/-! SUPPORT. The step of a queue that holds a command (R90, R94). -/

namespace Sys2Proof.Machine

theorem step_of_waiting {s : State} {c : Instr} {rest : List Instr} (h : s.pending = c :: rest) : step s = exec c { s with pending := rest } := by
  simp only [step, h]

end Sys2Proof.Machine

open Sys2Proof.Machine in
/-- Settles O1: `step` takes the front of a queue that is not empty. -/
theorem stepRunsFrontCommand : Obligations.StepRunsFrontCommand := fun _ _ _ h => step_of_waiting h
end

section
/-! SUPPORT. The set-up of rings through the selection window (R86, R87, R110). -/

namespace Sys2Proof.Machine

/-! ### Who writes (R85, R86, R128) -/

/-- The service path is no master. -/
theorem ne_service_of_master {w : Writer} {m : Nat} (h : w.master = some m) : w ≠ .service := by
  rintro rfl
  exact absurd h (by simp [Writer.master])

/-- A master is no Warden, and reaches every block. -/
theorem State.writerLive_of_master (s : State) {w : Writer} {m : Nat} (h : w.master = some m) : s.writerLive w = true := by
  cases w with
  | hostA | hostB | steward | service | tap => rfl
  | wardenA | wardenB | coreA0 | coreA1 => exact absurd h (by simp [Writer.master])

/-- While the part runs, a master's write is answered by the row's own rule. -/
theorem State.windowWrite_master {s : State} {w : Writer} {m : Nat} (block : Nat) (f : State → Out) (hr : s.running = true)
    (hw : w.master = some m) : s.windowWrite w block f = f s :=
  s.windowWrite_live w block f hr (s.writerLive_of_master hw) (ne_service_of_master hw)

/-- The service path has no right to the ring block and to the doorbells (R128). -/
theorem State.mayWrite_service_rings (s : State) : s.mayWrite .service 0x03 = false ∧ s.mayWrite .service 0x04 = false := by
  simp [State.mayWrite]

theorem State.ownWindow_other {s : State} {w : Writer} {m : Nat} (h : w.master ≠ some m) : s.ownWindow w m = false := by
  simp [State.ownWindow, h]

theorem State.ownWindow_master {s : State} {w : Writer} {m : Nat} (hw : w.master = some m) (hm : s.md.fromDiscover = true) :
    s.ownWindow w m = true := by
  simp [State.ownWindow, hw, hm]

/-! ### The fields of RING_m_CFG (R86, R87) -/

/-- Free fields and locked fields share no bit. -/
theorem cfgFields_locked (v c : Word) : ((v &&& cfgFree) ||| (c &&& cfgLocked)) &&& cfgLocked = c &&& cfgLocked := by
  have h0 : cfgFree &&& cfgLocked = 0 := by decide
  calc ((v &&& cfgFree) ||| (c &&& cfgLocked)) &&& cfgLocked
      = (v &&& (cfgFree &&& cfgLocked)) ||| (c &&& (cfgLocked &&& cfgLocked)) := by
        rw [BitVec.and_comm, BitVec.and_or_distrib_left, BitVec.and_comm cfgLocked, BitVec.and_comm cfgLocked, BitVec.and_assoc, BitVec.and_assoc]
    _ = c &&& cfgLocked := by simp [h0]

/-- SIZE_LOG2 of a configuration written whole. -/
theorem cfgFields_size (v : Word) : bitsOf ((v &&& cfgFree) ||| (v &&& cfgLocked)) 3 0 = bitsOf v 3 0 := by
  have hm : (cfgFree ||| cfgLocked).toNat % 2 ^ 4 = 2 ^ 4 - 1 := by decide
  rw [← BitVec.and_or_distrib_left, bitsOf_eq, bitsOf_eq, BitVec.toNat_and, pow_zero, Nat.div_one, Nat.div_one, Nat.and_mod_two_pow, hm,
    Nat.and_two_pow_sub_one_eq_mod, Nat.mod_mod]

/-! ### A ring that stops (R87, R110) -/

/-- ERR of the ring that stops, and RING_ERROR to its master: nothing but the rings' state and the free values changes. -/
theorem State.ringError_stops (s : State) (m kind i e : Nat) :
    (s.ringError m kind i e).ring m kind i = { s.ring m kind i with err := e } ∧
    Told s (s.ringError m kind i e) 0x0120 0x03 (some (w32 (16 * kind + i))) (some (w32 e)) ∧
    s.ringError m kind i e = { s with host := (s.ringError m kind i e).host, free := (s.ringError m kind i e).free } := by
  rw [mul_comm 16 kind]
  exact ⟨s.ringError_ring m kind i e none, s.ringError_told m kind i e none, rfl⟩

/-- The same of a ring written before. -/
theorem State.setRing_ringError_stops (s : State) (m kind i e : Nat) (r : Ring) :
    let t := (s.setRing m kind i r).ringError m kind i e
    t.ring m kind i = { r with err := e } ∧ Told s t 0x0120 0x03 (some (w32 (16 * kind + i))) (some (w32 e)) ∧
      t = { s with host := t.host, free := t.free } := by
  obtain ⟨hring, htold, -⟩ := (s.setRing m kind i r).ringError_stops m kind i e
  rw [State.ring_setRing_same] at hring
  exact ⟨hring, htold, rfl⟩

/-! ### RING_SELECT (R86) -/

theorem ringSelIndex_apart_kind (m : Nat) : (R.RING_SEL_INDEX m).Apart (R.RING_SEL_KIND m) :=
  .inr ⟨(by decide : 0 ≤ 3), (by decide : 3 < 32), .inr (by decide : 3 < 4)⟩

/-- The window at KIND and INDEX. -/
theorem State.select_fields (s : State) (m : Nat) (v : Word) :
    let t := (s.put (R.RING_SEL_KIND m) (bitsOf v 5 4)).put (R.RING_SEL_INDEX m) (bitsOf v 3 0)
    t.get (R.RING_SEL_KIND m) = bitsOf v 5 4 ∧ t.get (R.RING_SEL_INDEX m) = bitsOf v 3 0 ∧ OnlyRegs s t [R.RING_SEL m] := by
  intro t
  refine ⟨?_, ?_, fun a ha => ?_⟩
  · rw [State.get_put_of_apart _ _ _ _ (ringSelIndex_apart_kind m),
      State.get_put_same _ (R.RING_SEL_KIND m) _ (by decide : 4 ≤ 5) (by decide : 5 < 32)]
    exact Nat.mod_eq_of_lt (bitsOf_lt v 5 4)
  · rw [State.get_put_same _ (R.RING_SEL_INDEX m) _ (by decide : 0 ≤ 3) (by decide : 3 < 32)]
    exact Nat.mod_eq_of_lt (bitsOf_lt v 3 0)
  · rw [State.put_onlyRegs _ (R.RING_SEL_INDEX m) _ a ha, State.put_onlyRegs _ (R.RING_SEL_KIND m) _ a ha]

/-! ### Writes that reach no ring -/

section
variable {s : State} {w : Writer} {m : Nat}

theorem execRingSelect_other (v : Word) (h : w.master ≠ some m) (hw : w ≠ .service) : execRingSelect w m v s = .next s :=
  State.windowWrite_idle _ _ _ _ hw (by simp [State.ownWindow_other h])

theorem execRingConfigWrite_other (v : Word) (h : w.master ≠ some m) (hw : w ≠ .service) : execRingConfigWrite w m v s = .next s :=
  State.windowWrite_idle _ _ _ _ hw (by simp [State.ownWindow_other h])

theorem execRingReset_other (v : Word) (h : w.master ≠ some m) (hw : w ≠ .service) : execRingReset w m v s = .next s :=
  State.windowWrite_idle _ _ _ _ hw (by simp [State.ownWindow_other h])

theorem execRingConfigWrite_unselected (v : Word) (hw : w.master = some m) (hs : s.selected m = none) : execRingConfigWrite w m v s = .next s :=
  State.windowWrite_idle _ _ _ _ (ne_service_of_master hw) (by simp [hs])

theorem execRingReset_unselected (v : Word) (hw : w.master = some m) (hs : s.selected m = none) : execRingReset w m v s = .next s :=
  State.windowWrite_idle _ _ _ _ (ne_service_of_master hw) (by simp [hs])

end

/-! ### RING_CONFIG_WRITE (R86, R87) -/

/-- Entries held for a completion ring follow its set-up (R104). -/
def State.setUp (s : State) (m kind i : Nat) : State := if kind = 1 then s.drainHeld m i else s

theorem State.setUp_other {kind : Nat} (s : State) (m i : Nat) (h : kind ≠ 1) : s.setUp m kind i = s := if_neg h

section
variable {s : State} {w : Writer} {m kind i : Nat} {v : Word} (hw : w.master = some m) (hm : s.md.fromDiscover = true)
  (hs : s.selected m = some (kind, i))
include hw hm

theorem execRingSelect_own (v : Word) :
    execRingSelect w m v s = .next ((s.put (R.RING_SEL_KIND m) (bitsOf v 5 4)).put (R.RING_SEL_INDEX m) (bitsOf v 3 0)) := by
  rw [execRingSelect, State.windowWrite_master _ _ (State.running_of_fromDiscover hm) hw]
  exact if_pos (State.ownWindow_master hw hm)

include hs

/-- EN rises with a legal size: the configuration is taken whole, and LOST and SEQ start anew. -/
theorem execRingConfigWrite_rises (he : (s.ring m kind i).en = false) (hv : bitOf v 31 = true) (h4 : 4 ≤ bitsOf v 3 0) (h12 : bitsOf v 3 0 ≤ 12) :
    execRingConfigWrite w m v s = .next ((s.setRing m kind i
      { s.ring m kind i with cfg := (v &&& cfgFree) ||| (v &&& cfgLocked), seq := 0, lost := 0 }).setUp m kind i) := by
  rw [execRingConfigWrite, State.windowWrite_master _ _ (State.running_of_fromDiscover hm) hw]
  simp [State.ownWindow_master hw hm, hs, he, hv, Ring.sizeLog2, cfgFields_size, h4, h12, State.setUp]

/-- EN rises with a size outside 4 to 12: the ring has its configuration, and stops. -/
theorem execRingConfigWrite_badSize (he : (s.ring m kind i).en = false) (hv : bitOf v 31 = true) (hz : bitsOf v 3 0 < 4 ∨ 12 < bitsOf v 3 0) :
    execRingConfigWrite w m v s = .next (((s.setRing m kind i
      { s.ring m kind i with cfg := (v &&& cfgFree) ||| (v &&& cfgLocked), seq := 0, lost := 0 }).ringError m kind i errSize).setUp m kind i) := by
  rw [execRingConfigWrite, State.windowWrite_master _ _ (State.running_of_fromDiscover hm) hw]
  simp [State.ownWindow_master hw hm, hs, he, hv, Ring.sizeLog2, cfgFields_size, hz, State.setUp]

/-- With EN = 1 and CPL, FMT and SIZE_LOG2 written as they stand, the free fields take effect. -/
theorem execRingConfigWrite_free (he : (s.ring m kind i).en = true) (hc : (v &&& cfgLocked) = ((s.ring m kind i).cfg &&& cfgLocked)) :
    execRingConfigWrite w m v s =
      .next ((s.setRing m kind i { s.ring m kind i with cfg := (v &&& cfgFree) ||| (v &&& cfgLocked) }).setUp m kind i) := by
  rw [execRingConfigWrite, State.windowWrite_master _ _ (State.running_of_fromDiscover hm) hw]
  simp [State.ownWindow_master hw hm, hs, he, hc, State.setUp]

/-- With EN = 1 a change of CPL, FMT or SIZE_LOG2 is not made and stops the ring. -/
theorem execRingConfigWrite_locked (he : (s.ring m kind i).en = true) (hc : (v &&& cfgLocked) ≠ ((s.ring m kind i).cfg &&& cfgLocked)) :
    execRingConfigWrite w m v s =
      .next (((s.setRing m kind i { s.ring m kind i with cfg := (v &&& cfgFree) ||| ((s.ring m kind i).cfg &&& cfgLocked) }).ringError
        m kind i errLocked).setUp m kind i) := by
  rw [execRingConfigWrite, State.windowWrite_master _ _ (State.running_of_fromDiscover hm) hw]
  simp [State.ownWindow_master hw hm, hs, he, hc, State.setUp]

/-! ### RING_RESET (R87) -/

theorem execRingReset_free (hv : bitOf v 0 = true) (hf : kind ≠ 1 ∨ s.cplBusy m i = false) :
    execRingReset w m v s =
      .next ((s.setRing m kind i { s.ring m kind i with elx := 0, mst := 0, err := 0, phase := true }).setUp m kind i) := by
  have hb : (decide (kind = 1) && s.cplBusy m i) = false := by
    obtain hk | hb := hf
    · simp [hk]
    · simp [hb]
  rw [execRingReset, State.windowWrite_master _ _ (State.running_of_fromDiscover hm) hw]
  simp [State.ownWindow_master hw hm, hs, hv, hb, State.setUp]

theorem execRingReset_busy (hk : kind = 1) (hv : bitOf v 0 = true) (hb : s.cplBusy m i = true) :
    execRingReset w m v s = .next (s.ringError m kind i errReset) := by
  rw [execRingReset, State.windowWrite_master _ _ (State.running_of_fromDiscover hm) hw]
  simp [State.ownWindow_master hw hm, hs, hv, hk, hb]

end

end Sys2Proof.Machine

open Sys2Proof.Machine in
/-- Settles O11: the window's rule gives the ring that is written and what becomes of it; only a completion ring goes on to its held entries. -/
theorem ringSetUp : Obligations.RingSetUp := by
  intro s w m v
  obtain ⟨hsvc, -⟩ := s.mayWrite_service_rings
  refine ⟨fun h hw => ⟨execRingSelect_other v h hw, execRingConfigWrite_other v h hw, execRingReset_other v h hw⟩,
    fun hr => ⟨s.windowWrite_refused 0x03 _ hr hsvc, s.windowWrite_refused 0x03 _ hr hsvc, s.windowWrite_refused 0x03 _ hr hsvc⟩,
    fun hw hm => ?_, fun hw hs => ⟨execRingConfigWrite_unselected v hw hs, execRingReset_unselected v hw hs⟩,
    fun kind i hw hm hs he hv h4 h12 => execRingConfigWrite_rises hw hm hs he hv h4 h12,
    fun kind i hw hm hs he hc => execRingConfigWrite_free hw hm hs he hc,
    fun kind i hw hm hs hk he hc => ?_, fun i hw hm hs he hc => execRingConfigWrite_locked hw hm hs he hc,
    fun kind i hw hm hs hk he hv hz => ?_, fun kind i hw hm hs hv hf => execRingReset_free hw hm hs hv hf, fun i hw hm hs hv hb => ?_⟩
  · obtain ⟨hkind, hindex, honly⟩ := s.select_fields m v
    exact ⟨_, execRingSelect_own hw hm v, hkind, hindex, honly, rfl⟩
  · have h := execRingConfigWrite_locked hw hm hs he hc
    rw [State.setUp_other _ _ _ hk] at h
    obtain ⟨hring, htold, honly⟩ := s.setRing_ringError_stops m kind i errLocked
      { s.ring m kind i with cfg := (v &&& cfgFree) ||| ((s.ring m kind i).cfg &&& cfgLocked) }
    refine ⟨_, h, ?_, ?_, htold, honly⟩
    · rw [hring]; rfl
    · rw [hring]; exact cfgFields_locked _ _
  · have h := execRingConfigWrite_badSize hw hm hs he hv hz
    rw [State.setUp_other _ _ _ hk] at h
    obtain ⟨hring, htold, honly⟩ := s.setRing_ringError_stops m kind i errSize
      { s.ring m kind i with cfg := (v &&& cfgFree) ||| (v &&& cfgLocked), seq := 0, lost := 0 }
    refine ⟨_, h, ?_, htold, honly⟩
    rw [hring]; rfl
  · obtain ⟨hring, htold, honly⟩ := s.ringError_stops m 1 i errReset
    refine ⟨_, execRingReset_busy hw hm hs rfl hv hb, ?_, ?_, htold, honly⟩
    · rw [hring]; rfl
    · rw [hring]
end

section
/-! SUPPORT. Doorbells (R88, R89, R104, R109, R110). -/

namespace Sys2Proof.Machine

/-! ### Which doorbells count (R88, R128) -/

/-- A write to doorbell `k` of a KIND, with the effect `f` where it counts. -/
def State.doorbell (s : State) (w : Writer) (m kind k : Nat) (f : State → State) : Out :=
  s.windowWrite w 0x04 fun t => if t.doorbellOk w m kind k then .next (f t) else .next t

section
variable {s : State} {w : Writer} {m kind k : Nat} (f : State → State)

/-- Another master's doorbell, or one that does not exist. -/
theorem State.doorbell_idle (hw : w ≠ .service) (h : w.master ≠ some m ∨ ringCount kind ≤ k) : s.doorbell w m kind k f = .next s := by
  refine s.windowWrite_idle w 0x04 _ hw (if_neg ?_)
  obtain h | h := h
  · simp [State.doorbellOk, h]
  · simp [State.doorbellOk, Nat.not_lt.mpr h]

theorem State.doorbell_service (hr : s.running = true) : s.doorbell .service m kind k f = .next (s.satInc R.OWN_SVC_STAT_REFUSED) :=
  s.windowWrite_refused 0x04 _ hr s.mayWrite_service_rings.2

theorem State.doorbell_stopped (hr : s.running = false) : s.doorbell w m kind k f = .next s := by
  simp [State.doorbell, State.windowWrite, hr]

theorem State.doorbell_counts (hr : s.running = true) (hw : w.master = some m) (hk : k < ringCount kind) :
    s.doorbell w m kind k f = .next (f s) := by
  rw [State.doorbell, State.windowWrite_master _ _ hr hw]
  simp [State.doorbellOk, hr, hw, hk]

theorem execDoorbellCmd_counts (v : Word) (hr : s.running = true) (hw : w.master = some m) (hk : k < 16) :
    execDoorbellCmd w m k v s = .next (s.ringDoorbell m 0 k v) := s.doorbell_counts _ hr hw hk

theorem execDoorbellCpl_counts (v : Word) (hr : s.running = true) (hw : w.master = some m) (hk : k < 16) :
    execDoorbellCpl w m k v s = .next ((s.ringDoorbell m 1 k v).drainHeld m k) := s.doorbell_counts _ hr hw hk

theorem execDoorbellEvt_counts (v : Word) (hr : s.running = true) (hw : w.master = some m) (hk : k < 4) :
    execDoorbellEvt w m k v s = .next ((s.ringDoorbell m 2 k v).overflowEntry m k) := s.doorbell_counts _ hr hw hk

theorem execDoorbellTlm_counts (v : Word) (hr : s.running = true) (hw : w.master = some m) (hk : k < 8) :
    execDoorbellTlm w m k v s = .next (s.ringDoorbell m 3 k v) := s.doorbell_counts _ hr hw hk

end

/-! ### The count that is announced (R89) -/

section
variable {s : State} {m kind k : Nat} {v : Word}

theorem bitsOf_count (v : Word) : bitsOf v 15 0 % 65536 = bitsOf v 15 0 := Nat.mod_eq_of_lt (bitsOf_lt v 15 0)

/-- A command ring takes what is at most its size ahead of the ELX. -/
theorem State.ringDoorbell_announced (h : (bitsOf v 15 0 + 65536 - (s.ring m 0 k).elx) % 65536 ≤ (s.ring m 0 k).size) :
    s.ringDoorbell m 0 k v = s.setRing m 0 k { s.ring m 0 k with mst := bitsOf v 15 0 } := by
  simp [State.ringDoorbell, Ring.legalIn, bitsOf_count, h]

theorem State.ringDoorbell_excess (h : (s.ring m 0 k).size < (bitsOf v 15 0 + 65536 - (s.ring m 0 k).elx) % 65536) :
    s.ringDoorbell m 0 k v = s.ringError m 0 k errDoorbell := by
  simp [State.ringDoorbell, Ring.legalIn, bitsOf_count, Nat.not_le.mpr h]

/-- A ring that the ELX fills takes what leaves at most its size outstanding. -/
theorem State.ringDoorbell_released (hk : kind ≠ 0) (h : ((s.ring m kind k).elx + 65536 - bitsOf v 15 0) % 65536 ≤ (s.ring m kind k).size) :
    s.ringDoorbell m kind k v = s.setRing m kind k { s.ring m kind k with mst := bitsOf v 15 0 } := by
  simp [State.ringDoorbell, Ring.legalOut, bitsOf_count, hk, h]

theorem State.ringDoorbell_overdrawn (hk : kind ≠ 0) (h : (s.ring m kind k).size < ((s.ring m kind k).elx + 65536 - bitsOf v 15 0) % 65536) :
    s.ringDoorbell m kind k v = s.ringError m kind k errDoorbell := by
  simp [State.ringDoorbell, Ring.legalOut, bitsOf_count, hk, Nat.not_le.mpr h]

/-! ### EV_OVERFLOW (R109) -/

theorem State.overflowEntry_undropped (h : (s.ring m 2 k).drops = 0) : s.overflowEntry m k = s := by
  simp [State.overflowEntry, h]

/-- A ring that has stopped takes no entry. -/
theorem State.overflowEntry_stopped (h : (s.ring m 2 k).run = false) : s.overflowEntry m k = s := by
  simp [State.overflowEntry, h]

theorem State.ringError_overflowEntry (s : State) (m k : Nat) :
    (s.ringError m 2 k errDoorbell).overflowEntry m k = s.ringError m 2 k errDoorbell := by
  refine State.overflowEntry_stopped ?_
  rw [State.ringError_ring]
  exact Bool.and_false _

end

end Sys2Proof.Machine

open Sys2Proof.Machine in
/-- Settles O12: the four doorbells differ in the count that R89 allows and in what follows a count that is taken. -/
theorem doorbells : Obligations.Doorbells := by
  intro s w m k v
  refine ⟨fun h hw => ⟨s.doorbell_idle _ hw (.inl h), s.doorbell_idle _ hw (.inl h), s.doorbell_idle _ hw (.inl h), s.doorbell_idle _ hw (.inl h)⟩,
    fun hr => ⟨s.doorbell_service _ hr, s.doorbell_service _ hr, s.doorbell_service _ hr, s.doorbell_service _ hr⟩,
    fun hw hk => ⟨s.doorbell_idle _ hw (.inr hk), s.doorbell_idle _ hw (.inr hk)⟩, fun hw hk => s.doorbell_idle _ hw (.inr hk),
    fun hw hk => s.doorbell_idle _ hw (.inr hk),
    fun hr => ⟨s.doorbell_stopped _ hr, s.doorbell_stopped _ hr, s.doorbell_stopped _ hr, s.doorbell_stopped _ hr⟩,
    fun hr hw hk h => ?_, fun hr hw hk h => ?_, fun hr hw hk h => ?_, fun hr hw hk h => ?_, fun hr hw hk h => ?_, fun hr hw hk h => ?_,
    fun hr hw hk h => ?_, fun hr hw hk h => ?_⟩
  · exact (execDoorbellCmd_counts v hr hw hk).trans (by rw [State.ringDoorbell_announced h])
  · obtain ⟨hring, htold, honly⟩ := s.ringError_stops m 0 k errDoorbell
    rw [mul_zero, zero_add] at htold
    refine ⟨_, (execDoorbellCmd_counts v hr hw hk).trans (by rw [State.ringDoorbell_excess h]), ?_, ?_, htold, honly⟩
    · rw [hring]; rfl
    · rw [hring]
  · exact (execDoorbellTlm_counts v hr hw hk).trans (by rw [State.ringDoorbell_released (by decide) h])
  · obtain ⟨hring, htold, honly⟩ := s.ringError_stops m 3 k errDoorbell
    refine ⟨_, (execDoorbellTlm_counts v hr hw hk).trans (by rw [State.ringDoorbell_overdrawn (by decide) h]), ?_, ?_, htold, honly⟩
    · rw [hring]; rfl
    · rw [hring]
  · have ht := execDoorbellEvt_counts v hr hw hk
    rw [State.ringDoorbell_released (by decide) h] at ht
    refine ⟨ht, fun hd => ht.trans ?_⟩
    rw [State.overflowEntry_undropped]
    rw [State.ring_setRing_same]
    exact hd
  · obtain ⟨hring, htold, honly⟩ := s.ringError_stops m 2 k errDoorbell
    have ht := execDoorbellEvt_counts v hr hw hk
    rw [State.ringDoorbell_overdrawn (by decide) h, State.ringError_overflowEntry] at ht
    refine ⟨_, ht, ?_, ?_, htold, honly⟩
    · rw [hring]; rfl
    · rw [hring]
  · exact (execDoorbellCpl_counts v hr hw hk).trans (by rw [State.ringDoorbell_released (by decide) h])
  · exact (execDoorbellCpl_counts v hr hw hk).trans (by rw [State.ringDoorbell_overdrawn (by decide) h]; rfl)
end

section
/-! SUPPORT. Results, completions, timeouts and progress (R100-R104, R110, R126). -/

namespace Sys2Proof.Machine

/-! ### RESULT_INTAKE (R103) -/

/-- An operation that holds no stalls gives none back: only the rings' state and the Market's queue of handles are written. -/
theorem State.useStage_stallless (s : State) (m tag : Nat) (h : ∀ o, s.opOf m tag = some o → o.stalls = []) :
    s.useStage m tag = { s with host := (s.useStage m tag).host, mkt := (s.useStage m tag).mkt } := by
  unfold State.useStage
  split
  · next o ho => rw [h o ho]; rfl
  · rfl

section
variable {s : State} {r : Result} {rest : List Result} (hr : s.host.results = r :: rest)
include hr

theorem execResultIntake_taken (hl : (Sparse.get (always []) s.host.intake r.gallery).length < 32) :
    execResultIntake s = .next { s.useStage r.master r.tag with
      host.results := rest
      host.intake := Sparse.set (always []) s.host.intake r.gallery (Sparse.get (always []) s.host.intake r.gallery ++ [r]) } := by
  simp only [execResultIntake, hr, hl, if_true]

theorem execResultIntake_marked (hl : 32 ≤ (Sparse.get (always []) s.host.intake r.gallery).length) :
    execResultIntake s = .next { s.useStage r.master r.tag with
      host.results := rest, host.pendingSlots := s.host.pendingSlots ++ [r] } := by
  simp only [execResultIntake, hr, Nat.not_lt.mpr hl, if_false]

end

theorem State.useStage_intake (s : State) (m tag : Nat) : (s.useStage m tag).host.intake = s.host.intake := by
  unfold State.useStage
  split
  · next o _ =>
    have h : ((s.holdStalls m tag []).unstage m o.stalls).host = (s.holdStalls m tag []).host := State.unstage_hosts _ m o.stalls
    rw [h]; rfl
  · rfl

/-! ### COMPLETION_ISSUE (R103) -/

/-- Every Gallery stands in the collector's order, and nothing else does. -/
theorem State.mem_galleryOrder (s : State) (g : Nat) : g ∈ s.galleryOrder ↔ g < 5 := by
  simp only [State.galleryOrder, List.mem_map, List.mem_range]
  constructor
  · rintro ⟨j, -, rfl⟩
    exact Nat.mod_lt _ (by decide)
  · intro hg
    exact ⟨(g + 4 - s.host.lastGallery % 5) % 5, by omega, by omega⟩

/-- The Gallery served next. -/
def State.nextGallery (s : State) : Option Nat := s.galleryOrder.find? fun g => !(Sparse.get (always []) s.host.intake g).isEmpty

theorem State.nextGallery_none {s : State} (h : ∀ g, g < 5 → Sparse.get (always []) s.host.intake g = []) : s.nextGallery = none := by
  rw [State.nextGallery, List.find?_eq_none]
  intro g hg
  simp [h g ((s.mem_galleryOrder g).mp hg)]

/-- The only queue that holds a result is served. -/
theorem State.nextGallery_only {s : State} {g : Nat} (hg : g < 5) (hn : Sparse.get (always []) s.host.intake g ≠ [])
    (ho : ∀ g', g' < 5 → g' ≠ g → Sparse.get (always []) s.host.intake g' = []) : s.nextGallery = some g := by
  have hsome : s.nextGallery.isSome = true := by
    rw [State.nextGallery, List.find?_isSome]
    exact ⟨g, (s.mem_galleryOrder g).mpr hg, by simp [hn]⟩
  obtain ⟨x, hx⟩ := Option.isSome_iff_exists.mp hsome
  have hq : Sparse.get (always []) s.host.intake x ≠ [] := by simpa using List.find?_some hx
  obtain rfl : x = g := by
    by_contra hne
    exact hq (ho x ((s.mem_galleryOrder x).mp (List.mem_of_find?_eq_some hx)) hne)
  exact hx

theorem execCompletionIssue_idle {s : State} (h : s.nextGallery = none) (hp : s.host.pendingSlots = []) : execCompletionIssue s = .next s := by
  rw [State.nextGallery] at h
  simp [execCompletionIssue, h, hp, firstPending]

theorem execCompletionIssue_pending {s : State} {r : Result} (h : s.nextGallery = none) (hp : s.host.pendingSlots = [r]) :
    execCompletionIssue s = .next ((({ s with host.pendingSlots := [] } : State).progressFirst r).issue r) := by
  rw [State.nextGallery] at h
  simp [execCompletionIssue, h, hp, firstPending]

theorem execCompletionIssue_queued {s : State} {g : Nat} {r : Result} {rest : List Result} (h : s.nextGallery = some g)
    (hq : Sparse.get (always []) s.host.intake g = r :: rest) :
    execCompletionIssue s = .next ((({ s with host.intake := Sparse.set (always []) s.host.intake g rest, host.lastGallery := g } :
      State).progressFirst r).issue r) := by
  rw [State.nextGallery] at h
  simp [execCompletionIssue, h, hq]

/-! ### Progress before the completion, and the entry (R100-R104, R126) -/

section
variable {s : State} {r : Result} {o : Op} (ho : s.opOf r.master r.tag = some o)
include ho

theorem State.progressFirst_eventless (he : s.host.events = []) : s.progressFirst r = s := by
  simp only [State.progressFirst, ho, he, uptoLast, State.each, List.foldl_nil]
  rw [← he]

theorem State.issue_unlinked (hl : s.linkUp r.master = false) : s.issue r = s.dropOp r.master r.tag := by
  simp [State.issue, ho, hl]

/-- A running completion ring with a free slot takes the entry. -/
theorem State.issue_written (hl : s.linkUp r.master = true) (hr : (s.ring r.master 1 (s.cplOf o)).run = true)
    (hu : (s.ring r.master 1 (s.cplOf o)).used < (s.ring r.master 1 (s.cplOf o)).size) :
    s.issue r = (s.writeEntry r.master 1 (s.cplOf o) 16 o.irq (cplBytes r o.ring)).dropOp r.master r.tag := by
  simp [State.issue, ho, hl, hr, Ring.full, Nat.not_le.mpr hu]

end

/-- A field of a format stands behind the bytes before it. -/
theorem fieldAt_append (as bs cs : List Byte) (i n : Nat) (ha : as.length = i) (hb : bs.length = n) : fieldAt (as ++ (bs ++ cs)) i n = leNat bs := by
  rw [fieldAt, ← ha, List.drop_left, ← hb, List.take_left]

theorem cplBytes_length (r : Result) (k : Nat) (ph : Bool) : (cplBytes r k ph).length = 16 := by
  simp [cplBytes, leBytes_length]

theorem Status.code_lt (st : Status) : st.code < 256 := by cases st <;> decide

/-- The fields of a completion entry (R101): tag, status, phase with command ring, result value. -/
theorem cplBytes_fields (r : Result) (k : Nat) (ph : Bool) :
    fieldAt (cplBytes r k ph) 0 2 % 512 = r.tag % 512 ∧ fieldAt (cplBytes r k ph) 2 1 = r.status.code ∧
      fieldAt (cplBytes r k ph) 3 1 = bit ph * 128 + k % 16 ∧ fieldAt (cplBytes r k ph) 8 8 = r.value % 2 ^ 64 := by
  have hbit (b : Bool) : bit b ≤ 1 := by cases b <;> decide
  have hcode := Status.code_lt r.status
  have htag : fieldAt (cplBytes r k ph) 0 2 = (r.tag % 512 + bit r.superseded * 512 + bit r.data * 1024) % 2 ^ 16 := by
    rw [cplBytes]
    simp only [List.append_assoc]
    exact (fieldAt_append [] _ _ 0 2 rfl (leBytes_length 2 _)).trans (leNat_leBytes 2 _)
  have hstatus : fieldAt (cplBytes r k ph) 2 1 = r.status.code % 2 ^ 8 := by
    rw [cplBytes]
    simp only [List.append_assoc]
    exact (fieldAt_append _ _ _ 2 1 (leBytes_length 2 _) (leBytes_length 1 _)).trans (leNat_leBytes 1 _)
  have hring : fieldAt (cplBytes r k ph) 3 1 = (bit ph * 128 + k % 16) % 2 ^ 8 := by
    rw [cplBytes, List.append_assoc, List.append_assoc]
    refine (fieldAt_append _ _ _ 3 1 ?_ (leBytes_length 1 _)).trans (leNat_leBytes 1 _)
    simp [leBytes_length]
  have hvalue : fieldAt (cplBytes r k ph) 8 8 = r.value % 2 ^ 64 := by
    rw [cplBytes, ← List.append_nil (leBytes 8 r.value)]
    refine (fieldAt_append _ _ _ 8 8 ?_ (leBytes_length 8 _)).trans (leNat_leBytes 8 _)
    simp [leBytes_length]
  have hph := hbit ph
  exact ⟨by omega, by omega, by omega, hvalue⟩

/-! ### CLASS_R_TIMEOUT and CMD_PROGRESS (R100, R110) -/

section
variable {s : State} {m tag : Nat} {o : Op} (ho : s.opOf m tag = some o)
include ho

theorem execClassRTimeout_passed (hc : o.cls = 1) (hd : o.done = false) (ht : 2000 ≤ s.since o.start) :
    execClassRTimeout m tag s = .next ((s.cancelWaits m tag).result m tag 3 .timeout 0 false false) := by
  simp [execClassRTimeout, ho, hc, hd, ht]

theorem execClassRTimeout_idle (h : o.cls ≠ 1 ∨ o.done = true ∨ s.since o.start < 2000) : execClassRTimeout m tag s = .next s := by
  obtain h | h | h := h <;> simp [execClassRTimeout, ho, h]

/-- A progress report tells CMD_PROGRESS and notes its time in the operation. -/
theorem execCmdProgress_due (pm b : Nat) (hc : o.cls = 2) (hd : o.done = false) (ht : 10000 ≤ s.since o.reported) :
    ∃ t, execCmdProgress m tag pm b s = .next t ∧
      Told s t 0x0123 0x03 (some (w32 (tag % 512 + o.ring * 2 ^ 16))) (some (w32 o.opcode)) ∧ t = { s with host := t.host, free := t.free } := by
  simp only [execCmdProgress, ho, hc, hd, ht, decide_true, Bool.not_false, Bool.and_self, if_true]
  exact ⟨_, rfl, ⟨_, rfl, rfl, rfl, rfl, fun _ h => Option.some.inj h, fun _ h => Option.some.inj h⟩, rfl⟩

theorem execCmdProgress_idle (pm b : Nat) (h : o.cls ≠ 2 ∨ o.done = true ∨ s.since o.reported < 10000) : execCmdProgress m tag pm b s = .next s := by
  obtain h | h | h := h <;> simp [execCmdProgress, ho, h]

end

/-! ### CR_FULL_REPEAT (R104) -/

theorem State.crFull_told (s : State) (m k : Nat) : Told s (s.crFull m k) 0x0121 0x03 (some (w32 k)) (some (w32 (s.heldFor m k).length)) :=
  ⟨_, rfl, rfl, rfl, rfl, fun _ h => Option.some.inj h, fun _ h => Option.some.inj h⟩

theorem execCrFullRepeat_due {s : State} {m k : Nat} {t0 : Time} (hf : (s.ring m 1 k).fullAt = some t0) (ht : 100000 ≤ s.since t0)
    (hr : (s.ring m 1 k).run = true) (hu : (s.ring m 1 k).size ≤ (s.ring m 1 k).used) (hh : s.heldFor m k ≠ []) :
    execCrFullRepeat m k s = .next (s.crFull m k) := by
  simp [execCrFullRepeat, hf, ht, hr, Ring.full, hu, hh]

theorem execCrFullRepeat_idle {s : State} {m k : Nat} (hf : (s.ring m 1 k).fullAt = none) : execCrFullRepeat m k s = .next s := by
  simp [execCrFullRepeat, hf]

end Sys2Proof.Machine

open Sys2Proof.Machine in
/-- Settles O14: a result's way from the Gallery's queue to its entry, the entry's fields, and the three expiries, each by its row's guard. -/
theorem resultsAndCompletions : Obligations.ResultsAndCompletions := by
  intro s
  refine ⟨fun hr => ?_, fun r rest hr hl ho => ?_, fun r rest hr hl ho => ?_,
    fun hg hp => execCompletionIssue_idle (State.nextGallery_none hg) hp,
    fun r hg hp => execCompletionIssue_pending (State.nextGallery_none hg) hp, fun g r rest hg hq ho => ?_,
    fun r o ho he => State.progressFirst_eventless ho he, fun r o ho hl => State.issue_unlinked ho hl,
    fun r o ho hl hr hu => State.issue_written ho hl hr hu, fun r k ph => ⟨cplBytes_length r k ph, cplBytes_fields r k ph⟩,
    fun m tag o ho hc hd ht => ⟨_, execClassRTimeout_passed ho hc hd ht, _, rfl, rfl, rfl, rfl, rfl, rfl, rfl⟩,
    fun m tag o ho h => execClassRTimeout_idle ho h, fun m tag pm b o ho hc hd ht => execCmdProgress_due ho pm b hc hd ht,
    fun m tag pm b o ho h => execCmdProgress_idle ho pm b h,
    fun m k t0 hf ht hr hu hh => ⟨_, execCrFullRepeat_due hf ht hr hu hh, s.crFull_told m k, rfl⟩, fun m k hf => execCrFullRepeat_idle hf⟩
  · simp [exec, execResultIntake, hr]
  · refine ⟨_, execResultIntake_taken hr hl, rfl, Sparse.get_set_same _ _ _ _, ?_⟩
    rw [s.useStage_stallless r.master r.tag ho]
  · refine ⟨_, execResultIntake_marked hr hl, rfl, rfl, s.useStage_intake r.master r.tag, ?_⟩
    rw [s.useStage_stallless r.master r.tag ho]
  · exact execCompletionIssue_queued (State.nextGallery_only hg (by simp [hq]) ho) hq
end

section
/-! SUPPORT. Events, interrupts by time, and telemetry streams (R107-R113, R143). -/

namespace Sys2Proof.Machine

/-! ### EVENT_DELIVERY (R107, R108) -/

/-- An event ring that does not run takes nothing. -/
theorem State.toRing_stopped {s : State} {m k : Nat} (e : Event) (h : (s.ring m 2 k).run = false) : s.toRing e m k = s := by
  simp [State.toRing, h]

theorem State.each_idle {α : Type} (s : State) (l : List α) (f : State → α → State) (h : ∀ a, f s a = s) : s.each l f = s :=
  List.foldl_fixed' h l

theorem State.deliver_nowhere {s : State} (e : Event) (h : ∀ m k, (s.ring m 2 k).run = false) : s.deliver e = s := by
  refine s.each_idle _ _ fun g => ?_
  dsimp only
  split
  · exact State.toRing_stopped e (h _ _)
  · rfl

theorem execEventDelivery_oldest {s : State} {e : Event} {rest : List Event} (h : s.host.events = e :: rest) :
    execEventDelivery s = .next (({ s with host.events := rest } : State).deliver e) := by
  simp only [execEventDelivery, h]

/-! ### IRQ_TIME_EXPIRY (R111) -/

/-- The ring has signalled: it has no unsignalled entry left. -/
def State.signalled (s : State) (m kind i : Nat) : State := s.setRing m kind i { s.ring m kind i with unsig := 0 }

theorem State.sendMsix_sent (s : State) (k : Nat) :
    Sparse.get (always 0) (s.sendMsix k).host.msixSent k = Sparse.get (always 0) s.host.msixSent k + 1 := by
  rw [State.sendMsix, Sparse.get_set_same]

section
variable {s : State} {m kind k : Nat}

theorem execIrqTimeExpiry_due (he : (s.ring m kind k).irqEn = true) (hu : 0 < (s.ring m kind k).unsig)
    (ht : bitsOf (s.ring m kind k).irq 15 0 ≠ 0) (hd : bitsOf (s.ring m kind k).irq 15 0 ≤ s.since (s.ring m kind k).unsigAt) :
    execIrqTimeExpiry m kind k s = .next (s.signal m kind k) := by
  simp [execIrqTimeExpiry, he, hu, ht, hd]

theorem execIrqTimeExpiry_idle (hu : (s.ring m kind k).unsig = 0) : execIrqTimeExpiry m kind k s = .next s := by
  simp [execIrqTimeExpiry, hu]

/-- A closed vector of a port gets its pending bit. -/
theorem State.signal_closed (hm : m < 2) (ho : Sparse.get (always false) s.host.msixOpen (64 * m + (s.ring m kind k).vec) = false) :
    s.signal m kind k = { s.signalled m kind k with
      host.msixPend := Sparse.set (always false) s.host.msixPend (64 * m + (s.ring m kind k).vec) true } :=
  if_pos ⟨hm, ho⟩

/-- An open vector, or the Steward cluster's signal, is sent. -/
theorem State.signal_open (h : 2 ≤ m ∨ Sparse.get (always false) s.host.msixOpen (64 * m + (s.ring m kind k).vec) = true) :
    s.signal m kind k = (s.signalled m kind k).sendMsix (64 * m + (s.ring m kind k).vec) := by
  refine if_neg fun ⟨hm, ho⟩ => ?_
  obtain h | h := h
  · omega
  · exact absurd (h.symm.trans ho) (by decide)

end

/-! ### TLM_SELECT (R112) -/

section
variable {s : State} {c : Cmd} (hs : s.startable c 0x0110 = true) (hm : s.md.fromDiscover = true)
include hs hm

theorem execTlmSelect_taken (hk : arg c 16 1 < 8) (h1 : 1 ≤ arg c 17 1) (h16 : arg c 17 1 ≤ 16) (hl : 2 + 2 * arg c 17 1 ≤ c.payload.length)
    (he : (s.ring c.master 3 (arg c 16 1)).en = false) (hp : ∀ p, p ∈ tlmSignals c (arg c 17 1) → p ≤ 511) :
    execTlmSelect c s = .next ((s.setStream c.master (arg c 16 1) { s.stream c.master (arg c 16 1) with
      signals := tlmSignals c (arg c 17 1) }).finish c .ok) := by
  have hshort2 : short c 2 = false := decide_eq_false (by omega)
  have hshort : short c (2 + 2 * arg c 17 1) = false := decide_eq_false (by omega)
  have hany : (tlmSignals c (arg c 17 1)).any (fun p => decide (511 < p)) = false := by simpa using hp
  have hn : arg c 17 1 ≠ 0 := by omega
  rw [execTlmSelect, State.command_startable _ hs]
  simp [State.modeOk_of_fromDiscover (opcode := 0x0110) false rfl hm, hshort2, hshort, hany, he, hn, hk, h16]

theorem execTlmSelect_enabled (he : (s.ring c.master 3 (arg c 16 1)).en = true) : execTlmSelect c s = .next (s.finish c .badParam) := by
  rw [execTlmSelect, State.command_startable _ hs]
  simp [State.modeOk_of_fromDiscover (opcode := 0x0110) false rfl hm, he, refuse]

end

/-! ### TLM_FLUSH_EXPIRY (R112, R143) -/

section
variable {s : State} {m k : Nat}

theorem State.stream_setStream_same (s : State) (m k : Nat) (t : Stream) : (s.setStream m k t).stream m k = t := Sparse.get_set_same _ _ _ _

theorem execTlmFlushExpiry_due (hf : (s.ring m 3 k).tlmFlush ≠ 0) (hu : (s.stream m k).used ≠ 0)
    (ht : 100 * (s.ring m 3 k).tlmFlush ≤ s.since (s.stream m k).firstAt) : execTlmFlushExpiry m k s = .next (s.tlmClose m k) := by
  simp [execTlmFlushExpiry, hf, hu, Nat.not_lt.mpr ht]

theorem execTlmFlushExpiry_idle (h : (s.stream m k).used = 0 ∨ s.since (s.stream m k).firstAt < 100 * (s.ring m 3 k).tlmFlush) :
    execTlmFlushExpiry m k s = .next s := by
  obtain h | h := h <;> simp [execTlmFlushExpiry, h]

/-- The stall being filled is handed over. -/
theorem State.tlmClose_filling {n : Nat} (hn : (s.stream m k).stall = some n) :
    s.tlmClose m k = (s.pushHandle (tlmChan m k) false (s.stream m k).used n).setStream m k
      { s.stream m k with stall := none, used := 0, full := (s.stream m k).full ++ [(s.stream m k).firstAt] } := by
  simp only [State.tlmClose, hn]

/-- What the hand-over leaves: no stall being filled, its first record's time with the filled ones, and its handle last in the queue. -/
theorem State.tlmClose_handsOver {n : Nat} (hn : (s.stream m k).stall = some n) :
    ((s.tlmClose m k).stream m k).stall = none ∧ ((s.tlmClose m k).stream m k).used = 0 ∧
      ((s.tlmClose m k).stream m k).full = (s.stream m k).full ++ [(s.stream m k).firstAt] ∧
      Sparse.get (always []) (s.tlmClose m k).mkt.queues (tlmChan m k) =
        Sparse.get (always []) s.mkt.queues (tlmChan m k) ++ [(false, (s.stream m k).used, n)] := by
  rw [State.tlmClose_filling hn, State.stream_setStream_same]
  exact ⟨rfl, rfl, rfl, Sparse.get_set_same _ _ _ _⟩

/-! ### TLM_BUFFER_COPY (R112, R113) -/

theorem execTlmBufferCopy_empty (h : (s.stream m k).full = []) : execTlmBufferCopy m k s = .next s := by
  simp [execTlmBufferCopy, h]

/-- The oldest filled stall taken from its stream and its channel's queue. -/
def State.tlmTaken (s : State) (m k : Nat) (rest : List Time) (left : List (Bool × Nat × Nat)) : State :=
  { s.setStream m k { s.stream m k with full := rest } with mkt.queues := Sparse.set (always []) s.mkt.queues (tlmChan m k) left }

theorem execTlmBufferCopy_copied {h : Bool × Nat × Nat} {at_ : Time} {rest : List Time} {left : List (Bool × Nat × Nat)} {u : State}
    {bs : List Byte} (hf : (s.stream m k).full = at_ :: rest) (hq : Sparse.get (always []) s.mkt.queues (tlmChan m k) = h :: left)
    (hr : (s.ring m 3 k).run = true) (hfull : (s.ring m 3 k).full = false) (hl : s.linkUp m = true)
    (hread : (s.tlmTaken m k rest left).readStall h.2.2 h.2.1 = (u, some bs)) :
    execTlmBufferCopy m k s = .next (((u.setRing m 3 k { s.ring m 3 k with seq := ((s.ring m 3 k).seq + 1) % 2 ^ 32 }).writeEntry m 3 k 512 false
      (tlmBytes k (s.ring m 3 k).seq bs at_)).freeStall (tlmChan m k) h.2.2) := by
  rw [State.tlmTaken] at hread
  simp only [execTlmBufferCopy, hf, hq, hr, hfull, hl, hread, Bool.not_true, Bool.or_self, Bool.false_eq_true, if_false]

end

end Sys2Proof.Machine

open Sys2Proof.Machine in
/-- Settles O15: the oldest event, the expired interrupt, the selection and the hand-over of a stream, each by its row's guard. -/
theorem eventsInterruptsTelemetry : Obligations.EventsInterruptsTelemetry := by
  intro s
  refine ⟨fun h => ?_, fun e rest h hr => ?_, fun e rest h => execEventDelivery_oldest h, fun m kind k he hu ht hm hd ho => ?_,
    fun m kind k he hu ht hd ho => ?_, fun m kind k hu => execIrqTimeExpiry_idle hu,
    fun c hs hm hk h1 h16 hl he hp => execTlmSelect_taken hs hm hk h1 h16 hl he hp, fun c hs hm he => execTlmSelect_enabled hs hm he,
    fun m k n hf hn hu ht => ⟨_, execTlmFlushExpiry_due hf hu ht, State.tlmClose_handsOver hn⟩, fun m k h => execTlmFlushExpiry_idle h,
    fun m k h => execTlmBufferCopy_empty h,
    fun m k h at_ rest left u bs hf hq hr hfull hl hread => execTlmBufferCopy_copied hf hq hr hfull hl hread⟩
  · simp [exec, execEventDelivery, h]
  · refine (execEventDelivery_oldest h).trans (congrArg _ (State.deliver_nowhere e ?_))
    exact hr
  · have h := execIrqTimeExpiry_due he hu ht hd
    rw [State.signal_closed hm ho] at h
    exact ⟨_, h, Sparse.get_set_same (always false) s.host.msixPend (64 * m + (s.ring m kind k).vec) true, rfl, rfl⟩
  · have h := execIrqTimeExpiry_due he hu ht hd
    rw [State.signal_open ho] at h
    refine ⟨_, h, (s.signalled m kind k).sendMsix_sent _, ?_, rfl⟩
    have hring : ((s.signalled m kind k).sendMsix (64 * m + (s.ring m kind k).vec)).ring m kind k = { s.ring m kind k with unsig := 0 } :=
      s.ring_setRing_same m kind k _
    rw [hring]
end

section
/-! SUPPORT. A change of owner, the claims and the window (R116-R120, R487). -/

namespace Sys2Proof.Machine

/-! ### The owner agent (R120) -/

/-- From `s` to `t` the owner agent has acted: engines, pads and the converter, CONV_STATUS, and events after those before. -/
def AgentActed (s t : State) : Prop :=
  (∃ fe edge conv regs events free, t = { s with fe := fe, edge := edge, conv := conv, regs := regs, host.events := events, free := free }) ∧
    OnlyRegs s t [R.CONV_STATUS] ∧ s.host.events <+: t.host.events

theorem AgentActed.refl (s : State) : AgentActed s s :=
  ⟨⟨s.fe, s.edge, s.conv, s.regs, s.host.events, s.free, rfl⟩, fun _ _ => rfl, List.prefix_rfl⟩

theorem AgentActed.trans {s t u : State} (h : AgentActed s t) (k : AgentActed t u) : AgentActed s u := by
  obtain ⟨⟨_, _, _, _, _, _, rfl⟩, hr, he⟩ := h
  obtain ⟨⟨fe, edge, conv, regs, events, free, rfl⟩, kr, ke⟩ := k
  exact ⟨⟨fe, edge, conv, regs, events, free, rfl⟩, hr.trans kr, he.trans ke⟩

theorem FeOnly.agentActed {s t : State} (h : FeOnly s t) : AgentActed s t := by
  obtain ⟨fe, rfl⟩ := h
  exact ⟨⟨fe, s.edge, s.conv, s.regs, s.host.events, s.free, rfl⟩, fun _ _ => rfl, List.prefix_rfl⟩

theorem EdgeOnly.agentActed {s t : State} (h : EdgeOnly s t) : AgentActed s t := by
  obtain ⟨edge, rfl⟩ := h
  exact ⟨⟨s.fe, edge, s.conv, s.regs, s.host.events, s.free, rfl⟩, fun _ _ => rfl, List.prefix_rfl⟩

/-- The CONV block moves, and no event is lost by it. -/
theorem ConvMoved.agentActed {s t : State} (h : ConvMoved s t) (he : s.host.events <+: t.host.events) : AgentActed s t := by
  obtain ⟨⟨conv, regs, events, free, rfl⟩, hr⟩ := h
  exact ⟨⟨s.fe, s.edge, conv, regs, events, free, rfl⟩, hr, he⟩

theorem State.withConv_agentActed (s : State) (c : ConvState) : AgentActed s (s.withConv c) :=
  (s.withConv_convMoved c).agentActed List.prefix_rfl

theorem State.event_events (s : State) (code source : Nat) (c0 c1 c2 c3 : Option Word) :
    s.host.events <+: (s.event code source c0 c1 c2 c3).host.events := List.prefix_append _ _

theorem State.convState_agentActed (s : State) (v : Nat) : AgentActed s (s.convState v) := by
  refine (s.convState_convMoved v).agentActed ?_
  unfold State.convState
  dsimp only
  split
  · exact List.prefix_rfl
  · rw [← congrArg HostState.events (s.put_host R.CONV_STATUS_STATE v)]
    exact State.event_events _ _ _ _ _ _ _

theorem State.convFollow_agentActed (s : State) : AgentActed s s.convFollow := by
  unfold State.convFollow
  dsimp only
  split
  · have h := s.convState_agentActed 0
    generalize s.convState 0 = t at h
    exact h.trans (t.withConv_agentActed _)
  · exact AgentActed.refl s

theorem State.refreshUnit_agentActed (s : State) (u : Nat) : AgentActed s (s.refreshUnit u) := by
  have hpads (t : State) : AgentActed t ((t.dropForced u).each ((t.dropForced u).unitChans u) State.refreshChan) :=
    ((t.dropForced_edgeOnly u).trans (EdgeOnly.each _ State.refreshChan_edgeOnly _ _)).agentActed
  unfold State.refreshUnit
  dsimp only
  split
  · exact s.convFollow_agentActed.trans (hpads _)
  · exact hpads s

theorem State.convRunOn_agentActed (s : State) (v : Nat) : AgentActed s (s.convRunOn v) := by
  have h := s.convState_agentActed v
  unfold State.convRunOn
  generalize s.convState v = t at h
  exact (h.trans (t.withConv_agentActed _)).trans (State.refreshUnit_agentActed _ unitConv)

theorem State.convWake_agentActed (s : State) : AgentActed s s.convWake := by
  by_cases h : s.get R.CONV_STATUS_STATE = 3
  · rw [State.convWake_asleep h]
    exact s.convRunOn_agentActed _
  · rw [State.convWake_awake h]
    exact AgentActed.refl s

theorem State.agentTorque_agentActed (s : State) : AgentActed s s.agentTorque := by
  unfold State.agentTorque
  split
  · exact State.each_rel AgentActed.refl AgentActed.trans s.sets
      (fun n _ t => ((t.stage_feOnly n 337 _).trans (State.stage_feOnly _ n 359 _)).agentActed) s
  · exact AgentActed.refl s

theorem State.agentVoltage_agentActed (s : State) : AgentActed s s.agentVoltage := by
  have h := (s.stage_feOnly 4 336 s.defaultVset).agentActed.trans (State.convWake_agentActed _)
  unfold State.agentVoltage
  generalize (s.stage 4 336 s.defaultVset).convWake = t at h
  exact h.trans (t.withConv_agentActed _)

theorem State.ownerAgent_agentActed (s : State) : AgentActed s s.ownerAgent := by
  rw [State.ownerAgent_eq]
  split
  · exact s.agentTorque_agentActed.trans (State.agentVoltage_agentActed _)
  · exact s.agentTorque_agentActed

theorem AgentActed.led {s t : State} (h : AgentActed s t) : t.led = s.led := by obtain ⟨⟨_, _, _, _, _, _, rfl⟩, _⟩ := h; rfl
theorem AgentActed.rd {s t : State} (h : AgentActed s t) {a : Nat} (ha : a ≠ R.CONV_STATUS) : t.rd a = s.rd a := h.2.1 a (by simpa using ha)
theorem AgentActed.events {s t : State} (h : AgentActed s t) : s.host.events <+: t.host.events := h.2.2

/-! ### OWNER changes (R487) -/

/-- From `s` to `t` the ownership registers have come to show a new owner, and OWN_SEQ is one further. -/
structure OwnShows (s t : State) (m st prio : Nat) (nonce : Word) : Prop where
  owner : t.owner = m
  state : t.get R.OWN_STATUS_STATE = st
  prio : t.get R.OWN_STATUS_PRIO = prio % 16
  nonce : t.rd R.OWN_NONCE = nonce
  seq : t.get R.OWN_STATUS_OWN_SEQ = (s.get R.OWN_STATUS_OWN_SEQ + 1) % 256

/-- What leaves the two registers alone leaves what they show. -/
theorem OwnShows.kept {s t u : State} {m st prio : Nat} {nonce : Word} (h : OwnShows s t m st prio nonce)
    (hs : u.rd R.OWN_STATUS = t.rd R.OWN_STATUS) (hn : u.rd R.OWN_NONCE = t.rd R.OWN_NONCE) : OwnShows s u m st prio nonce :=
  ⟨(State.get_of_rd R.OWN_STATUS_OWNER hs).trans h.owner, (State.get_of_rd R.OWN_STATUS_STATE hs).trans h.state,
    (State.get_of_rd R.OWN_STATUS_PRIO hs).trans h.prio, hn.trans h.nonce, (State.get_of_rd R.OWN_STATUS_OWN_SEQ hs).trans h.seq⟩

section
variable (s : State) (m st prio : Nat) (nonce : Word)

/-- OWNER, STATE and PRIO written. -/
def State.ownerPut : State := ((s.put R.OWN_STATUS_OWNER m).put R.OWN_STATUS_STATE st).put R.OWN_STATUS_PRIO prio

/-- The ownership registers of a new owner. -/
def State.ownWritten : State := ((s.ownerPut m st prio).wr R.OWN_NONCE nonce).wrapInc R.OWN_STATUS_OWN_SEQ

/-- A field of OWN_STATUS below OWN_SEQ reads as it was put. -/
theorem State.ownWritten_get {F : Fld} (hF : F.addr = R.OWN_STATUS) (h : R.OWN_STATUS_OWN_SEQ.Apart F) :
    (s.ownWritten m st prio nonce).get F = (s.ownerPut m st prio).get F := by
  rw [State.ownWritten, State.wrapInc, State.get_put_of_apart _ _ _ _ h]
  exact State.get_of_rd F (by rw [hF, State.rd_wr_ne _ _ _ (by decide)])

theorem State.ownWritten_shows (hm : m < 4) (hst : st < 8) : OwnShows s (s.ownWritten m st prio nonce) m st prio nonce := by
  refine ⟨?_, ?_, ?_, ?_, ?_⟩
  · rw [State.owner, s.ownWritten_get m st prio nonce rfl (.inr (by decide)), State.ownerPut,
      State.get_put_of_apart _ R.OWN_STATUS_PRIO _ _ (.inr (by decide)), State.get_put_of_apart _ R.OWN_STATUS_STATE _ _ (.inr (by decide)),
      State.get_put_same _ _ _ (by decide) (by decide)]
    exact Nat.mod_eq_of_lt hm
  · rw [s.ownWritten_get m st prio nonce rfl (.inr (by decide)), State.ownerPut,
      State.get_put_of_apart _ R.OWN_STATUS_PRIO _ _ (.inr (by decide)), State.get_put_same _ _ _ (by decide) (by decide)]
    exact Nat.mod_eq_of_lt hst
  · rw [s.ownWritten_get m st prio nonce rfl (.inr (by decide)), State.ownerPut, State.get_put_same _ _ _ (by decide) (by decide)]
    rfl
  · rw [State.ownWritten, State.wrapInc, State.rd_put_ne _ _ _ (by decide), State.rd_wr_same]
  · have hseq : ((s.ownerPut m st prio).wr R.OWN_NONCE nonce).get R.OWN_STATUS_OWN_SEQ = s.get R.OWN_STATUS_OWN_SEQ := by
      rw [State.get_of_rd (s := s.ownerPut m st prio) R.OWN_STATUS_OWN_SEQ (State.rd_wr_ne _ _ _ (by decide)), State.ownerPut,
        State.get_put_of_apart _ R.OWN_STATUS_PRIO _ _ (.inr (by decide)), State.get_put_of_apart _ R.OWN_STATUS_STATE _ _ (.inr (by decide)),
        State.get_put_of_apart _ R.OWN_STATUS_OWNER _ _ (.inr (by decide))]
    rw [State.ownWritten, State.wrapInc, State.get_put_same _ _ _ (by decide) (by decide), hseq]
    rfl

theorem State.ownWritten_onlyRegs : OnlyRegs s (s.ownWritten m st prio nonce) [R.OWN_STATUS, R.OWN_NONCE] := by
  have hput : OnlyRegs s (s.ownerPut m st prio) [R.OWN_STATUS] :=
    ((s.put_onlyRegs R.OWN_STATUS_OWNER m).trans (State.put_onlyRegs _ R.OWN_STATUS_STATE st)).trans (State.put_onlyRegs _ R.OWN_STATUS_PRIO prio)
  intro a ha
  obtain ⟨hs, hn⟩ : a ≠ R.OWN_STATUS ∧ a ≠ R.OWN_NONCE := by simpa using ha
  rw [State.ownWritten, State.wrapInc, State.rd_put_ne _ _ _ hs, State.rd_wr_ne _ _ _ hn]
  exact hput a (by simpa using hs)

theorem State.ownWritten_regsOnly : RegsOnly s (s.ownWritten m st prio nonce) :=
  ((((s.put_regsOnly _ _).trans (State.put_regsOnly _ _ _)).trans (State.put_regsOnly _ _ _)).trans (State.wr_regsOnly _ _ _)).trans
    (State.put_regsOnly _ _ _)

/-- The new owner's heartbeat starts, and OWN_CHANGED arises, with the registers already written. -/
def State.changeTold (old : Nat) : State :=
  ({ s with own.hbAt := s.atime } : State).event 0x0201 0x02 (w32 old) (w32 m) (w32 prio) (w32 (s.get R.OWN_STATUS_OWN_SEQ))

theorem State.changeTold_rd (old a : Nat) : (s.changeTold m prio old).rd a = s.rd a := rfl
theorem State.changeTold_own (old : Nat) : (s.changeTold m prio old).own = { s.own with hbAt := s.atime } := rfl

theorem State.changeTold_told (old : Nat) : Told s (s.changeTold m prio old) 0x0201 0x02 (some (w32 old)) (some (w32 m)) :=
  ⟨_, rfl, rfl, rfl, rfl, fun _ h => Option.some.inj h, fun _ h => Option.some.inj h⟩

/-- OWNER becomes `m`, before what the owner agent does. -/
def State.ownTold : State := (s.ownWritten m st prio nonce).changeTold m prio s.owner

theorem State.ownTold_shows (hm : m < 4) (hst : st < 8) : OwnShows s (s.ownTold m st prio nonce) m st prio nonce :=
  (s.ownWritten_shows m st prio nonce hm hst).kept (State.changeTold_rd _ _ _ _ _) (State.changeTold_rd _ _ _ _ _)

theorem State.ownTold_onlyRegs : OnlyRegs s (s.ownTold m st prio nonce) [R.OWN_STATUS, R.OWN_NONCE] := fun a ha =>
  (State.changeTold_rd _ _ _ _ a).trans (s.ownWritten_onlyRegs m st prio nonce a ha)

theorem State.ownTold_told : Told s (s.ownTold m st prio nonce) 0x0201 0x02 (some (w32 s.owner)) (some (w32 m)) := by
  have h := (s.ownWritten m st prio nonce).changeTold_told m prio s.owner
  obtain ⟨regs, hregs⟩ := s.ownWritten_regsOnly m st prio nonce
  exact h.after (by rw [hregs]) (by rw [hregs])

theorem State.ownTold_own : (s.ownTold m st prio nonce).own = { s.own with hbAt := s.atime } := by
  obtain ⟨regs, hregs⟩ := s.ownWritten_regsOnly m st prio nonce
  rw [State.ownTold, State.changeTold_own, hregs]

theorem State.changeOwner_eq : s.changeOwner m st prio nonce =
    if m = stewardMaster then (s.ownTold m st prio nonce).ownerAgent else s.ownTold m st prio nonce := by
  unfold State.changeOwner State.ownTold State.changeTold State.ownWritten State.ownerPut
  rfl

/-- A host becomes owner, and nothing else happens. -/
theorem State.changeOwner_host (h : m < 2) : s.changeOwner m st prio nonce = s.ownTold m st prio nonce := by
  have hhost : m ≠ stewardMaster := Nat.ne_of_lt h
  rw [State.changeOwner_eq, if_neg hhost]

/-- The Steward cluster becomes owner, and its agent acts. -/
theorem State.changeOwner_steward : s.changeOwner stewardMaster st prio nonce = (s.ownTold stewardMaster st prio nonce).ownerAgent := by
  rw [State.changeOwner_eq, if_pos rfl]

theorem State.changeOwner_steward_shows (hst : st < 8) :
    OwnShows s (s.changeOwner stewardMaster st prio nonce) stewardMaster st prio nonce := by
  have hagent := (s.ownTold stewardMaster st prio nonce).ownerAgent_agentActed
  rw [State.changeOwner_steward]
  exact (s.ownTold_shows stewardMaster st prio nonce (by decide) hst).kept (hagent.rd (by decide)) (hagent.rd (by decide))

end

/-! ### Results alone -/

/-- From `s` to `t` only results have come, and their operations are done. -/
def ResultsOnly (s t : State) : Prop := ∃ results ops, t = { s with host.results := results, host.ops := ops }

theorem ResultsOnly.refl (s : State) : ResultsOnly s s := ⟨s.host.results, s.host.ops, rfl⟩

theorem ResultsOnly.trans {s t u : State} (h : ResultsOnly s t) (k : ResultsOnly t u) : ResultsOnly s u := by
  obtain ⟨_, _, rfl⟩ := h
  obtain ⟨results, ops, rfl⟩ := k
  exact ⟨results, ops, rfl⟩

theorem State.result_resultsOnly (s : State) (m tag g : Nat) (st : Status) (value : Nat) (data superseded : Bool) :
    ResultsOnly s (s.result m tag g st value data superseded) := ⟨_, _, rfl⟩

theorem ResultsOnly.rd {s t : State} (h : ResultsOnly s t) (a : Nat) : t.rd a = s.rd a := by obtain ⟨_, _, rfl⟩ := h; rfl
theorem ResultsOnly.own {s t : State} (h : ResultsOnly s t) : t.own = s.own := by obtain ⟨_, _, rfl⟩ := h; rfl
theorem ResultsOnly.events {s t : State} (h : ResultsOnly s t) : t.host.events = s.host.events := by obtain ⟨_, _, rfl⟩ := h; rfl

/-- What is told stays told while no further event comes. -/
theorem Told.kept {s t u : State} {code source : Nat} {c0 c1 : Option Word} (h : Told s t code source c0 c1)
    (he : u.host.events = t.host.events) : Told s u code source c0 c1 := by
  obtain ⟨e, hev, hrest⟩ := h
  exact ⟨e, he.trans hev, hrest⟩

/-! ### Claims (R116-R118, R120) -/

theorem State.modeOk_ownership {s : State} {opcode : Nat} (read : Bool) (ho : opcode / 256 = 2) (h : s.md.fromDiscover = true) :
    s.modeOk opcode read = true := by
  simp [State.modeOk, groupAccepts, ho, h]

theorem State.targets_elx {s : State} {c : Cmd} (h : c.target = 0) : s.targets c elxTargets = true := State.targets_self h (by decide)

theorem pair64_low {n : Nat} (h : n < 2 ^ 32) : pair64 n 0 = n := by
  rw [pair64, Nat.mod_eq_of_lt h, Nat.zero_mod, Nat.zero_mul, Nat.add_zero]

/-- The claim of an OWN_CLAIM. -/
def claimOf (c : Cmd) : Claim := { master := c.master, tag := c.tag, prio := arg c 16 1, nonce := arg c 20 4, replaced := false }

/-- The claims once that of `c` has joined them. -/
def State.claimsWith (s : State) (c : Cmd) : List Claim :=
  (s.own.claims.map fun y => if y.master = c.master then { y with replaced := true } else y) ++ [claimOf c]

/-- The command's claim joins those of an open window. -/
def State.joined (s : State) (c : Cmd) : State := { s.begin c with own.claims := s.claimsWith c }

/-- A window that is open for every host. -/
def State.windowOpened (s : State) : State := (s.put R.OWN_STATUS_STATE ownWindowOpen).openWindow none

theorem State.openWindow_rd (s : State) (barred : Option Nat) (a : Nat) : (s.openWindow barred).rd a = s.rd a := rfl
theorem State.openWindow_own (s : State) (barred : Option Nat) : (s.openWindow barred).own = { s.own with claims := [], barred := barred } := rfl
theorem State.openWindow_led (s : State) (barred : Option Nat) : (s.openWindow barred).led = s.led := rfl
theorem State.openWindow_host (s : State) (barred : Option Nat) : (s.openWindow barred).host = s.host := rfl

theorem State.joined_rd (s : State) (c : Cmd) (a : Nat) : (s.joined c).rd a = s.rd a := rfl

/-- STATE as it is put where a window opens or closes, and the rest of the registers. -/
theorem State.openWindow_put_state (s : State) (barred : Option Nat) {st : Nat} (h : st < 8) :
    ((s.put R.OWN_STATUS_STATE st).openWindow barred).get R.OWN_STATUS_STATE = st := by
  rw [State.get_of_rd R.OWN_STATUS_STATE (State.openWindow_rd _ _ _), State.get_put_same _ _ _ (by decide) (by decide)]
  exact Nat.mod_eq_of_lt h

theorem State.openWindow_put_onlyRegs (s : State) (barred : Option Nat) (st : Nat) :
    OnlyRegs s ((s.put R.OWN_STATUS_STATE st).openWindow barred) [R.OWN_STATUS] := fun a ha =>
  (State.openWindow_rd _ _ a).trans (s.put_onlyRegs R.OWN_STATUS_STATE st a ha)

/-- A change of the registers, and then the window: registers and the election's state alone. -/
theorem RegsOnly.openWindow_frame {s t : State} (h : RegsOnly s t) (barred : Option Nat) :
    t.openWindow barred = { s with regs := (t.openWindow barred).regs, own := (t.openWindow barred).own } := by
  obtain ⟨regs, rfl⟩ := h
  rfl

/-- A claim that joins the window just opened is the only one; beside it only the operation has started. -/
theorem RegsOnly.openWindow_joined {s t : State} (h : RegsOnly s t) (c : Cmd) :
    ((t.openWindow none).joined c).own.claims = [claimOf c] ∧ ((t.openWindow none).joined c).host.results = s.host.results ∧
      (t.openWindow none).joined c =
        { s with regs := ((t.openWindow none).joined c).regs, own := ((t.openWindow none).joined c).own,
                 host := ((t.openWindow none).joined c).host } := by
  obtain ⟨regs, rfl⟩ := h
  exact ⟨rfl, rfl, rfl⟩

/-- A legal claim's answer, by STATE (R117, R118, R120). -/
def State.judgeClaim (s : State) (c : Cmd) : Out :=
  if s.ownSt = ownHandover then refuse s c .busyRetry
  else if s.ownSt = ownWindowOpen && s.own.barred = some c.master then refuse s c .busyRetry
  else if s.ownSt = ownHeld then .next (s.finish c .ok (s.claimValue 2 0))
  else .next ((if s.ownSt = ownWindowOpen then s else s.windowOpened).joined c)

section
variable {s : State} {c : Cmd}

theorem execOwnQuery_eq (hs : s.startable c 0x0200 = true) (ht : c.target = 0) (hm : s.md.fromDiscover = true) :
    execOwnQuery c s = .next (s.finish c .ok (pair64 (s.rd R.OWN_STATUS).toNat (s.rd R.OWN_NONCE).toNat)) := by
  rw [execOwnQuery, State.command_startable _ hs]
  simp [State.targets_elx ht, State.modeOk_ownership (opcode := 0x0200) true rfl hm]

theorem execOwnClaim_steward (hs : s.startable c 0x0201 = true) (ht : c.target = 0) (hm : s.md.fromDiscover = true) (hc : c.master = 2) :
    execOwnClaim c s = .next (s.finish c .badParam) := by
  rw [execOwnClaim, State.command_startable _ hs]
  simp [State.targets_elx ht, State.modeOk_ownership (opcode := 0x0201) true rfl hm, hc, stewardMaster, refuse]

theorem execOwnClaim_legal (hs : s.startable c 0x0201 = true) (ht : c.target = 0) (hm : s.md.fromDiscover = true) (hl : 8 ≤ c.payload.length)
    (hp : arg c 16 1 ≤ 15) (hc : c.master < 2) : execOwnClaim c s = s.judgeClaim c := by
  have hne : c.master ≠ stewardMaster := Nat.ne_of_lt hc
  rw [execOwnClaim, State.command_startable _ hs]
  simp only [State.targets_elx ht, State.modeOk_ownership (opcode := 0x0201) true rfl hm, short_of_le hl, hne, Nat.not_lt.mpr hp,
    Bool.not_true, Bool.or_self, decide_false, Bool.false_eq_true, if_false, State.judgeClaim, State.joined, State.claimsWith, claimOf,
    State.windowOpened]

theorem State.judgeClaim_opens (h : s.get R.OWN_STATUS_STATE = 0 ∨ s.get R.OWN_STATUS_STATE = 4) :
    s.judgeClaim c = .next (s.windowOpened.joined c) := by
  rcases h with h | h <;> simp [State.judgeClaim, State.ownSt, h, ownHandover, ownWindowOpen, ownHeld]

theorem State.judgeClaim_joins (h : s.get R.OWN_STATUS_STATE = 1) (hb : s.own.barred ≠ some c.master) : s.judgeClaim c = .next (s.joined c) := by
  simp [State.judgeClaim, State.ownSt, h, hb, ownHandover, ownWindowOpen, ownHeld]

theorem State.judgeClaim_held (h : s.get R.OWN_STATUS_STATE = 2) :
    s.judgeClaim c = .next (s.finish c .ok (2 + 256 * s.owner + 65536 * s.get R.OWN_STATUS_PRIO)) := by
  have howner : s.owner < 4 := bitsOf_lt _ 17 16
  have hprio : s.get R.OWN_STATUS_PRIO < 16 := bitsOf_lt _ 15 12
  have hvalue : s.claimValue 2 0 = 2 + 256 * s.owner + 65536 * s.get R.OWN_STATUS_PRIO := pair64_low (by omega)
  simp [State.judgeClaim, State.ownSt, h, hvalue, ownHandover, ownWindowOpen, ownHeld]

theorem State.judgeClaim_handover (h : s.get R.OWN_STATUS_STATE = 3) : s.judgeClaim c = .next (s.finish c .busyRetry) := by
  simp [State.judgeClaim, State.ownSt, h, ownHandover, refuse]

end

/-! ### The close of the window (R119) -/

theorem winnerOf_single {x : Claim} (h : x.replaced = false) : winnerOf [x] = some x := by simp [winnerOf, h]

theorem winnerOf_pair {a b : Claim} (ha : a.replaced = false) (hb : b.replaced = false) : winnerOf [a, b] = some (betterClaim a b) := by
  simp [winnerOf, ha, hb]

theorem betterClaim_cases (a b : Claim) : betterClaim a b = a ∨ betterClaim a b = b := by
  unfold betterClaim
  split
  · exact .inl rfl
  · exact .inr rfl

/-- The window is over, and the winner's priority noted. -/
def State.windowWon (s : State) (w : Claim) : State :=
  { s.openWindow none with own.lastPrio := Sparse.set (always 0) (s.openWindow none).own.lastPrio w.master w.prio }

theorem State.windowWon_rd (s : State) (w : Claim) (a : Nat) : (s.windowWon w).rd a = s.rd a := rfl
theorem State.windowWon_events (s : State) (w : Claim) : (s.windowWon w).host.events = s.host.events := rfl
theorem State.windowWon_hbAt (s : State) (w : Claim) : (s.windowWon w).own.hbAt = s.own.hbAt := rfl

/-- The winner `w` owns, and no window is open. -/
def State.elected (s : State) (w : Claim) : State := (s.ownTold w.master ownHeld w.prio (w32 w.nonce)).windowWon w

theorem State.elected_shows (s : State) {w : Claim} (h : w.master < 2) : OwnShows s (s.elected w) w.master ownHeld w.prio (w32 w.nonce) :=
  (s.ownTold_shows w.master ownHeld w.prio (w32 w.nonce) (by omega) (by decide)).kept (State.windowWon_rd _ _ _) (State.windowWon_rd _ _ _)

theorem State.elected_onlyRegs (s : State) (w : Claim) : OnlyRegs s (s.elected w) [R.OWN_STATUS, R.OWN_NONCE] := fun a ha =>
  (State.windowWon_rd _ _ a).trans (s.ownTold_onlyRegs w.master ownHeld w.prio (w32 w.nonce) a ha)

theorem State.elected_told (s : State) (w : Claim) : Told s (s.elected w) 0x0201 0x02 (some (w32 s.owner)) (some (w32 w.master)) :=
  (s.ownTold_told w.master ownHeld w.prio (w32 w.nonce)).kept (State.windowWon_events _ _)

theorem State.elected_hbAt (s : State) (w : Claim) : (s.elected w).own.hbAt = s.atime :=
  (State.windowWon_hbAt _ _).trans (congrArg OwnState.hbAt (s.ownTold_own w.master ownHeld w.prio (w32 w.nonce)))

section
variable {s : State}

theorem execClaimWindowClose_idle (h : s.get R.OWN_STATUS_STATE ≠ 1) : execClaimWindowClose s = .next s := if_pos h

theorem execClaimWindowClose_unclaimed (h : s.get R.OWN_STATUS_STATE = 1) (hc : s.own.claims = []) :
    execClaimWindowClose s = .next ((s.put R.OWN_STATUS_STATE ownFinal).openWindow none) := by
  simp [execClaimWindowClose, State.ownSt, h, hc, ownWindowOpen, winnerOf]

/-- A host that wins becomes owner; beside that only the claims' results come. -/
theorem execClaimWindowClose_won {w : Claim} (h : s.get R.OWN_STATUS_STATE = 1) (hw : winnerOf s.own.claims = some w) (hm : w.master < 2) :
    ∃ t, execClaimWindowClose s = .next t ∧ ResultsOnly (s.elected w) t := by
  have hst : ¬s.ownSt ≠ ownWindowOpen := not_not.mpr h
  simp only [execClaimWindowClose, if_neg hst, hw, s.changeOwner_host _ _ _ _ hm]
  rw [← State.windowWon, ← State.elected]
  refine ⟨_, rfl, State.each_rel ResultsOnly.refl ResultsOnly.trans _ (fun x _ t => ?_) (s.elected w)⟩
  split
  · exact t.result_resultsOnly _ _ _ _ _ _ _
  · exact ResultsOnly.refl t

end

end Sys2Proof.Machine

open Sys2Proof.Machine in
/-- Settles O16: a legal claim is answered by STATE, and the close of the window gives ownership to the best claim. -/
theorem claimsAndWindow : Obligations.ClaimsAndWindow := by
  intro s
  refine ⟨fun c hs ht hm => execOwnQuery_eq hs ht hm, fun c hs ht hm hl hp hc h => ?_, fun c hs ht hm hl hp hc h hb => ?_,
    fun c hs ht hm hl hp hc h => (execOwnClaim_legal hs ht hm hl hp hc).trans (State.judgeClaim_held h),
    fun c hs ht hm hl hp hc h => (execOwnClaim_legal hs ht hm hl hp hc).trans (State.judgeClaim_handover h),
    fun c hs ht hm hc => execOwnClaim_steward hs ht hm hc, fun h => execClaimWindowClose_idle h, fun h hc => ?_,
    fun x h hc hx hm hp => ?_, fun a b h hc ha hb hma hmb => ?_, fun a b => ?_⟩
  · have hput := s.put_regsOnly R.OWN_STATUS_STATE ownWindowOpen
    obtain ⟨hclaims, hresults, hframe⟩ := hput.openWindow_joined c
    refine ⟨_, (execOwnClaim_legal hs ht hm hl hp hc).trans (State.judgeClaim_opens h), ?_, hclaims, hresults, fun a ha => ?_, hframe⟩
    · exact (State.get_of_rd R.OWN_STATUS_STATE (State.joined_rd _ c _)).trans (s.openWindow_put_state none (by decide))
    · exact (State.joined_rd _ c a).trans (s.openWindow_put_onlyRegs none ownWindowOpen a ha)
  · exact ⟨_, (execOwnClaim_legal hs ht hm hl hp hc).trans (State.judgeClaim_joins h hb), rfl, rfl, rfl⟩
  · refine ⟨_, execClaimWindowClose_unclaimed h hc, s.openWindow_put_state none (by decide), ?_, s.openWindow_put_onlyRegs none ownFinal,
      (s.put_regsOnly _ _).openWindow_frame none⟩
    exact (State.get_of_rd R.OWN_STATUS_OWNER (State.openWindow_rd _ none _)).trans
      (s.get_put_of_apart R.OWN_STATUS_STATE R.OWN_STATUS_OWNER ownFinal (.inr (by decide)))
  · obtain ⟨t, ht, hres⟩ := execClaimWindowClose_won h (hc ▸ winnerOf_single hx) hm
    have hshow := (s.elected_shows hm).kept (hres.rd _) (hres.rd _)
    exact ⟨t, ht, hshow.owner, hshow.state, hshow.prio.trans (Nat.mod_eq_of_lt (by omega)), hshow.nonce, hshow.seq,
      (congrArg OwnState.hbAt hres.own).trans (s.elected_hbAt x), (s.elected_told x).kept hres.events,
      fun a ha => (hres.rd a).trans (s.elected_onlyRegs x a ha)⟩
  · have hm : (betterClaim a b).master < 2 := by
      rcases betterClaim_cases a b with h | h
      · rwa [h]
      · rwa [h]
    obtain ⟨t, ht, hres⟩ := execClaimWindowClose_won h (hc ▸ winnerOf_pair ha hb) hm
    have hshow := (s.elected_shows hm).kept (hres.rd _) (hres.rd _)
    exact ⟨t, ht, hshow.owner, hshow.state⟩
  · refine ⟨fun h => if_neg ?_, fun h => if_pos (.inl h), fun h hm => if_pos (.inr ⟨h, hm⟩), fun h hm => if_neg ?_⟩
    · omega
    · omega
end

section
/-! SUPPORT. The hand-over: its start, its confirmation, its passing, its hold and its timeout (R117, R121-R127). -/

namespace Sys2Proof.Machine

/-- From `s` to `t` nothing has changed but the registers, the election's state, what the hosts are told and the free counter. -/
def OwnOnly (s t : State) : Prop := t = { s with regs := t.regs, own := t.own, host := t.host, free := t.free }

/-! ### The start (R121) -/

/-- With no Class B operation in flight there is none to abort. -/
theorem State.abortB_of_none {s : State} (h : ∀ o, o ∈ s.host.ops → o.cls ≠ 2) (m : Nat) : s.abortB m = s := by
  have hnone : s.host.ops.filter (fun o => o.master = m && o.cls = 2 && !o.done) = [] :=
    List.filter_eq_nil_iff.mpr fun o ho => by simp [h o ho]
  rw [State.abortB, hnone]
  rfl

/-- A result leaves every operation its class. -/
theorem State.finish_classes {s : State} {n : Nat} (h : ∀ o, o ∈ s.host.ops → o.cls ≠ n) (c : Cmd) (st : Status) :
    ∀ o, o ∈ (s.finish c st).host.ops → o.cls ≠ n := by
  intro o ho
  obtain ⟨p, hp, rfl⟩ := List.mem_map.mp ho
  split
  · exact h p hp
  · exact h p hp

/-- STATE and SUCCESSOR of a hand-over to `k`. -/
def State.handPut (s : State) (k : Nat) : State := (s.put R.OWN_STATUS_STATE ownHandover).put R.OWN_STATUS_SUCCESSOR k

theorem State.handPut_state (s : State) (k : Nat) : (s.handPut k).get R.OWN_STATUS_STATE = 3 := by
  rw [State.handPut, State.get_put_of_apart _ R.OWN_STATUS_SUCCESSOR _ _ (.inr (by decide))]
  exact s.get_put_same R.OWN_STATUS_STATE 3 (by decide) (by decide)

theorem State.handPut_successor (s : State) {k : Nat} (h : k ≤ 2) : (s.handPut k).get R.OWN_STATUS_SUCCESSOR = k := by
  rw [State.handPut, State.get_put_same _ _ _ (by decide) (by decide)]
  exact Nat.mod_eq_of_lt (show k < 4 by omega)

theorem State.handPut_owner (s : State) (k : Nat) : (s.handPut k).owner = s.owner := by
  rw [State.owner, State.handPut, State.get_put_of_apart _ R.OWN_STATUS_SUCCESSOR _ _ (.inr (by decide)),
    State.get_put_of_apart _ R.OWN_STATUS_STATE _ _ (.inr (by decide)), State.owner]

theorem State.handPut_regsOnly (s : State) (k : Nat) : RegsOnly s (s.handPut k) := (s.put_regsOnly _ _).trans (State.put_regsOnly _ _ _)

theorem State.handPut_onlyRegs (s : State) (k : Nat) : OnlyRegs s (s.handPut k) [R.OWN_STATUS] :=
  (s.put_onlyRegs R.OWN_STATUS_STATE _).trans (State.put_onlyRegs _ R.OWN_STATUS_SUCCESSOR _)

/-- A hand-over from `m` to `k` stands, unconfirmed and with its hold. -/
def State.handNoted (s : State) (m k nonce : Nat) : State :=
  { s with own := { s.own with succNonce := nonce, confirmed := false, handAt := s.atime, holds := true, oldLost := false,
                               locked := natSetBit (natSetBit 0 m true) k true } }

theorem State.handEvent_told (s : State) (outcome : Nat) :
    Told s (s.handEvent outcome) 0x0202 0x02 (some (w32 outcome)) (some (w32 s.owner)) :=
  ⟨_, rfl, rfl, rfl, rfl, fun _ h => Option.some.inj h, fun _ h => Option.some.inj h⟩

/-- A hand-over to `k` is noted and told, with the registers already written. -/
def State.handTold (s : State) (m k nonce : Nat) : State := (s.handNoted m k nonce).handEvent 0

theorem State.handTold_rd (s : State) (m k nonce a : Nat) : (s.handTold m k nonce).rd a = s.rd a := rfl

/-- What the accepted OWN_HANDOVER leaves. -/
def State.handStarted (s : State) (c : Cmd) : State :=
  ((s.finish c .ok).handPut (arg c 16 1)).handTold c.master (arg c 16 1) (arg c 20 4)

theorem State.handStarted_get (s : State) (c : Cmd) (F : Fld) : (s.handStarted c).get F = ((s.finish c .ok).handPut (arg c 16 1)).get F :=
  State.get_of_rd F (State.handTold_rd _ _ _ _ _)

theorem State.handStarted_owner (s : State) (c : Cmd) : (s.handStarted c).owner = s.owner :=
  (s.handStarted_get c _).trans ((s.finish c .ok).handPut_owner _)

theorem State.handStarted_onlyRegs (s : State) (c : Cmd) : OnlyRegs s (s.handStarted c) [R.OWN_STATUS] := fun a ha =>
  (State.handTold_rd _ _ _ _ a).trans ((s.finish c .ok).handPut_onlyRegs _ a ha)

/-- Beside the registers: the command's result, the hand-over noted, and its event. -/
theorem RegsOnly.handTold {s t : State} {c : Cmd} (h : RegsOnly (s.finish c .ok) t) (m k nonce : Nat) :
    (t.handTold m k nonce).own.succNonce = nonce ∧ (t.handTold m k nonce).own.confirmed = false ∧ (t.handTold m k nonce).own.holds = true ∧
      (t.handTold m k nonce).own.handAt = s.atime ∧ Answered s (t.handTold m k nonce) c .ok ∧
      Told s (t.handTold m k nonce) 0x0202 0x02 (some (w32 0)) (some (w32 t.owner)) ∧ OwnOnly s (t.handTold m k nonce) := by
  have htold := (t.handNoted m k nonce).handEvent_told 0
  obtain ⟨regs, rfl⟩ := h
  exact ⟨rfl, rfl, rfl, rfl, rfl, htold.after rfl rfl, rfl⟩

/-- A legal hand-over's answer (R117). -/
def State.judgeHandover (s : State) (c : Cmd) : Out :=
  if c.master ≠ s.owner then refuse s c .notOwner
  else .next ((((s.finish c .ok).handPut (arg c 16 1)).abortB c.master).handTold c.master (arg c 16 1) (arg c 20 4))

section
variable {s : State} {c : Cmd}

theorem execOwnHandover_legal (hs : s.startable c 0x0202 = true) (ht : c.target = 0) (hm : s.md.fromDiscover = true)
    (hst : s.get R.OWN_STATUS_STATE ≠ 3) (hl : 8 ≤ c.payload.length) (hc : c.master < 2) (hk : arg c 16 1 ≤ 2) (hne : arg c 16 1 ≠ c.master)
    (hup : s.linkUp (arg c 16 1) = true) : execOwnHandover c s = s.judgeHandover c := by
  have hhost : c.master ≠ stewardMaster := Nat.ne_of_lt hc
  have hno : ¬s.ownSt = ownHandover := hst
  rw [execOwnHandover, State.command_startable _ hs]
  simp only [State.targets_elx ht, State.modeOk_ownership (opcode := 0x0202) false rfl hm, hno, short_of_le hl, hhost,
    Nat.not_lt.mpr hk, hne, hup, Bool.not_true, Bool.or_self, decide_false, Bool.false_eq_true, if_false, State.judgeHandover, State.handPut,
    State.handTold, State.handNoted]

theorem State.judgeHandover_notOwner (h : c.master ≠ s.owner) : s.judgeHandover c = .next (s.finish c .notOwner) := if_pos h

theorem State.judgeHandover_started (h : c.master = s.owner) (hb : ∀ o, o ∈ s.host.ops → o.cls ≠ 2) :
    s.judgeHandover c = .next (s.handStarted c) := by
  have hclasses : ∀ o, o ∈ ((s.finish c .ok).handPut (arg c 16 1)).host.ops → o.cls ≠ 2 := by
    rw [((s.finish c .ok).handPut_regsOnly (arg c 16 1)).host]
    exact State.finish_classes hb c .ok
  have habort := State.abortB_of_none hclasses c.master
  rw [State.judgeHandover, if_neg (not_not.mpr h), habort, State.handStarted]

/-! ### The confirmation (R122, R125) -/

/-- The successor has confirmed. -/
def State.confirmed (s : State) : State := { s with own.confirmed := true }

theorem execOwnConfirm_ok (hs : s.startable c 0x0203 = true) (ht : c.target = 0) (hm : s.md.fromDiscover = true)
    (hst : s.get R.OWN_STATUS_STATE = 3) (hl : 8 ≤ c.payload.length) (hc : c.master = s.get R.OWN_STATUS_SUCCESSOR)
    (hn : c.master = 2 ∨ arg c 20 4 = s.own.succNonce) : execOwnConfirm c s = .next (s.confirmed.finish c .ok) := by
  have hnonce : (c.master != stewardMaster && arg c 20 4 != s.own.succNonce) = false := by
    rcases hn with h | h <;> simp [h, stewardMaster]
  have hst' : s.ownSt = ownHandover := hst
  rw [execOwnConfirm, State.command_startable _ hs]
  simp [State.targets_elx ht, State.modeOk_ownership (opcode := 0x0203) true rfl hm, short_of_le hl, hst', hc.symm, hnonce]
  rfl

theorem execOwnConfirm_wrongNonce (hs : s.startable c 0x0203 = true) (ht : c.target = 0) (hm : s.md.fromDiscover = true) (hc : c.master ≠ 2)
    (hn : arg c 20 4 ≠ s.own.succNonce) : execOwnConfirm c s = .next (s.finish c .badParam) := by
  rw [execOwnConfirm, State.command_startable _ hs]
  simp [State.targets_elx ht, State.modeOk_ownership (opcode := 0x0203) true rfl hm, hc, hn, stewardMaster, refuse]

end

/-! ### The passing (R122, R125) -/

/-- The hand-over is over, and its hold with it. -/
def State.handPassed (s : State) : State := { s.handOver with own.holds := false }

theorem State.handPassed_rd (s : State) (a : Nat) : s.handPassed.rd a = s.rd a := rfl

/-- OWN_HANDOVER_STATE tells that ownership passes, with OWN_SEQ after the change. -/
def State.passTold (s : State) : State :=
  s.event 0x0202 0x02 (w32 1) (w32 s.owner) (w32 (s.get R.OWN_STATUS_SUCCESSOR)) (w32 ((s.get R.OWN_STATUS_OWN_SEQ + 1) % 256))

theorem State.passTold_rd (s : State) (a : Nat) : s.passTold.rd a = s.rd a := rfl

/-- Ownership that passes after the event shows as it does from the state before. -/
theorem OwnShows.passed {s t : State} {m st prio : Nat} {nonce : Word} (h : OwnShows s.passTold t m st prio nonce) :
    OwnShows s t.handPassed m st prio nonce :=
  have hkept := h.kept (t.handPassed_rd _) (t.handPassed_rd _)
  { hkept with seq := by rw [hkept.seq, State.get_of_rd _ (s.passTold_rd _)] }

/-- Beside the registers: the hand-over's state is cleared, and events are told. -/
theorem RegsOnly.handPassed {s t : State} (h : RegsOnly s.passTold t) (m prio old : Nat) :
    (t.changeTold m prio old).handPassed.own.locked = 0 ∧ (t.changeTold m prio old).handPassed.own.confirmed = false ∧
      (t.changeTold m prio old).handPassed.own.holds = false ∧ OwnOnly s (t.changeTold m prio old).handPassed := by
  obtain ⟨regs, rfl⟩ := h
  exact ⟨rfl, rfl, rfl, rfl⟩

theorem State.pass_eq (s : State) : s.pass =
    (if s.get R.OWN_STATUS_SUCCESSOR = stewardMaster then s.passTold.changeOwner (s.get R.OWN_STATUS_SUCCESSOR) ownFinal 0 0
      else s.passTold.changeOwner (s.get R.OWN_STATUS_SUCCESSOR) ownHeld (Sparse.get (always 0) s.own.lastPrio (s.get R.OWN_STATUS_SUCCESSOR))
        (w32 s.own.succNonce)).handPassed := by
  unfold State.pass State.passTold State.handPassed
  rfl

section
variable {s : State}

theorem State.pass_host {k : Nat} (hs : s.get R.OWN_STATUS_SUCCESSOR = k) (hk : k < 2) :
    s.pass = (s.passTold.ownTold k ownHeld (Sparse.get (always 0) s.own.lastPrio k) (w32 s.own.succNonce)).handPassed := by
  have hhost : k ≠ stewardMaster := Nat.ne_of_lt hk
  rw [State.pass_eq, hs, if_neg hhost, State.changeOwner_host _ _ _ _ _ hk]

theorem State.pass_steward_shows (hs : s.get R.OWN_STATUS_SUCCESSOR = 2) : OwnShows s s.pass stewardMaster ownFinal 0 0 := by
  have hsteward : s.get R.OWN_STATUS_SUCCESSOR = stewardMaster := hs
  rw [State.pass_eq, hsteward, if_pos rfl]
  exact (s.passTold.changeOwner_steward_shows ownFinal 0 0 (by decide)).passed

theorem State.pass_host_shows {k : Nat} (hs : s.get R.OWN_STATUS_SUCCESSOR = k) (hk : k < 2) :
    OwnShows s s.pass k ownHeld (Sparse.get (always 0) s.own.lastPrio k) (w32 s.own.succNonce) := by
  rw [State.pass_host hs hk]
  exact (s.passTold.ownTold_shows k ownHeld _ _ (by omega) (by decide)).passed

theorem State.pass_host_onlyRegs {k : Nat} (hs : s.get R.OWN_STATUS_SUCCESSOR = k) (hk : k < 2) :
    OnlyRegs s s.pass [R.OWN_STATUS, R.OWN_NONCE] := by
  rw [State.pass_host hs hk]
  exact fun a ha => ((State.handPassed_rd _ a).trans (s.passTold.ownTold_onlyRegs k ownHeld _ _ a ha)).trans (s.passTold_rd a)

theorem State.pass_host_rest {k : Nat} (hs : s.get R.OWN_STATUS_SUCCESSOR = k) (hk : k < 2) :
    s.pass.own.locked = 0 ∧ s.pass.own.confirmed = false ∧ s.pass.own.holds = false ∧ OwnOnly s s.pass := by
  rw [State.pass_host hs hk, State.ownTold]
  exact (s.passTold.ownWritten_regsOnly _ _ _ _).handPassed _ _ _

theorem State.tryPass_passes (hst : s.get R.OWN_STATUS_STATE = 3) (hc : s.own.confirmed = true) (hd : s.drained = true) : s.tryPass = s.pass := by
  simp [State.tryPass, State.ownSt, hst, hc, hd, ownHandover]

theorem State.tryPass_waits (h : s.get R.OWN_STATUS_STATE ≠ 3 ∨ s.own.confirmed = false ∨ s.drained = false) : s.tryPass = s := by
  rcases h with h | h | h <;> simp [State.tryPass, State.ownSt, h, ownHandover]

theorem execOwnershipPass_passes (hst : s.get R.OWN_STATUS_STATE = 3) (hc : s.own.confirmed = true) (hd : s.drained = true) :
    execOwnershipPass s = .next s.pass := by
  rw [execOwnershipPass, State.tryPass_passes hst hc hd]

theorem execOwnershipPass_waits (h : s.get R.OWN_STATUS_STATE ≠ 3 ∨ s.own.confirmed = false ∨ s.drained = false) :
    execOwnershipPass s = .next s := by
  rw [execOwnershipPass, State.tryPass_waits h]

theorem execStewardSuccessorConfirm_waits (hst : s.get R.OWN_STATUS_STATE = 3) (hs : s.get R.OWN_STATUS_SUCCESSOR = 2) (hd : s.drained = false) :
    execStewardSuccessorConfirm s = .next s.confirmed := by
  have hwait : s.confirmed.tryPass = s.confirmed := State.tryPass_waits (.inr (.inr hd))
  exact (if_pos ⟨hst, hs⟩).trans (congrArg Host.Outcome.next hwait)

theorem execStewardSuccessorConfirm_passes (hst : s.get R.OWN_STATUS_STATE = 3) (hs : s.get R.OWN_STATUS_SUCCESSOR = 2) (hd : s.drained = true) :
    execStewardSuccessorConfirm s = .next s.confirmed.pass := by
  have hpass : s.confirmed.tryPass = s.confirmed.pass := State.tryPass_passes hst rfl hd
  exact (if_pos ⟨hst, hs⟩).trans (congrArg Host.Outcome.next hpass)

theorem execStewardSuccessorConfirm_idle (hst : s.get R.OWN_STATUS_STATE ≠ 3) : execStewardSuccessorConfirm s = .next s :=
  if_neg fun h => hst h.1

end

/-! ### The hold (R123) -/

/-- From `s` to `t` the election's state, OWN_STATUS and the memories are as they were. -/
structure OwnKept (s t : State) : Prop where
  own : t.own = s.own
  status : t.rd R.OWN_STATUS = s.rd R.OWN_STATUS
  mem : t.mem = s.mem

theorem OwnKept.refl (s : State) : OwnKept s s := ⟨rfl, rfl, rfl⟩

theorem OwnKept.trans {s t u : State} (h : OwnKept s t) (k : OwnKept t u) : OwnKept s u :=
  ⟨k.own.trans h.own, k.status.trans h.status, k.mem.trans h.mem⟩

theorem EdgeOnly.ownKept {s t : State} (h : EdgeOnly s t) : OwnKept s t := by
  obtain ⟨_, rfl⟩ := h
  exact ⟨rfl, rfl, rfl⟩

theorem State.put_ownKept (s : State) (F : Fld) (v : Nat) (h : R.OWN_STATUS ≠ F.addr) : OwnKept s (s.put F v) := ⟨rfl, s.rd_put_ne F v h, rfl⟩

theorem State.raise_ownKept (s : State) (code sev unit : Nat) (c0 c1 : Option Word) : OwnKept s (s.raise code sev unit c0 c1) :=
  ⟨rfl, s.raise_onlyRegs code sev unit c0 c1 _ (by decide), rfl⟩

theorem State.event_ownKept (s : State) (code source : Nat) (c0 c1 c2 c3 : Option Word) : OwnKept s (s.event code source c0 c1 c2 c3) :=
  ⟨rfl, rfl, rfl⟩

theorem State.withChg_ownKept (s : State) (c : ChgState) : OwnKept s { s with chg := c } := ⟨rfl, rfl, rfl⟩

theorem State.chgShow_ownKept (s : State) : OwnKept s s.chgShow :=
  (((((((s.put_ownKept R.CHG_STATUS_HV_PHASE _ (by decide)).trans (State.put_ownKept _ R.CHG_STATUS_LV_PHASE _ (by decide))).trans
    (State.put_ownKept _ R.CHG_STATUS_HELD _ (by decide))).trans (State.put_ownKept _ R.CHG_STATUS_WD_HV _ (by decide))).trans
    (State.put_ownKept _ R.CHG_STATUS_WD_LV _ (by decide))).trans (State.put_ownKept _ R.CHG_STATUS_S2 _ (by decide))).trans
    (State.put_ownKept _ R.CHG_TIMER_STAT_HV_MIN _ (by decide))).trans (State.put_ownKept _ R.CHG_TIMER_STAT_LV_MIN _ (by decide))

theorem State.chgFlush_ownKept (s : State) : OwnKept s s.chgFlush := by
  refine (s.withChg_ownKept { s.chg with out := [] }).trans (State.each_rel OwnKept.refl OwnKept.trans _ (fun o _ t => ?_) _)
  split
  · exact t.raise_ownKept _ _ _ _ _
  · exact t.event_ownKept _ _ _ _ _ _

theorem State.chgDone_ownKept (s : State) : OwnKept s s.chgDone :=
  (s.chgShow_ownKept.trans (State.chgFlush_ownKept _)).trans (State.refreshUnit_edgeOnly _ unitCharger (by decide)).ownKept

theorem State.chgWatch_ownKept (s : State) (lv : Bool) : OwnKept s (s.chgWatch lv) := by
  unfold State.chgWatch
  dsimp only
  split
  · exact OwnKept.refl s
  · exact ((s.withChg_ownKept _).trans (State.raise_ownKept _ 0x0860 0 0x85 none none)).trans (State.chgDone_ownKept _)

theorem State.modTr_ownKept (s : State) (n : Nat) (f : Trac → Trac) : OwnKept s (s.modTr n f) := ⟨rfl, rfl, rfl⟩

theorem State.rampHandover_ownKept (s : State) : OwnKept s s.rampHandover :=
  State.each_rel OwnKept.refl OwnKept.trans s.sets (fun n _ t => t.modTr_ownKept n _) s

/-- The hold is over. -/
def State.released (s : State) : State := { s with own.holds := false }

/-- What the end of the hold does to the traction sets and the charger. -/
def State.holdReleased (s : State) : State := (s.released.rampHandover.chgWatch false).chgWatch true

theorem State.holdReleased_ownKept (s : State) : OwnKept s.released s.holdReleased :=
  (s.released.rampHandover_ownKept.trans (State.chgWatch_ownKept _ false)).trans (State.chgWatch_ownKept _ true)

section
variable {s : State}

theorem execHandoverHoldExpiry_due (hh : s.own.holds = true) (ht : 2000 ≤ s.since s.own.handAt) :
    execHandoverHoldExpiry s = .next s.holdReleased := by
  simp only [execHandoverHoldExpiry, hh, ht, decide_true, Bool.and_self, if_true]
  rfl

theorem execHandoverHoldExpiry_idle (h : s.own.holds = false ∨ s.since s.own.handAt < 2000) : execHandoverHoldExpiry s = .next s := by
  rcases h with h | h <;> simp [execHandoverHoldExpiry, h]

/-! ### The timeout (R124, R127) -/

theorem execHandoverConfirmTimeout_idle (h : s.get R.OWN_STATUS_STATE ≠ 3 ∨ s.own.confirmed = true ∨ s.since s.own.handAt < 50000) :
    execHandoverConfirmTimeout s = .next s := by
  rcases h with h | h | h <;> simp [execHandoverConfirmTimeout, State.ownSt, h, ownHandover]

theorem execHandoverConfirmTimeout_due (hst : s.get R.OWN_STATUS_STATE = 3) (hc : s.own.confirmed = false) (ht : 50000 ≤ s.since s.own.handAt) :
    execHandoverConfirmTimeout s = .next (if s.own.oldLost then (s.handEvent 3).handOver.seizeOwner s.owner else s.revert) := by
  simp only [execHandoverConfirmTimeout, State.ownSt, hst, hc, Nat.not_lt.mpr ht, ownHandover, decide_true, decide_false, Bool.not_true,
    Bool.or_self, Bool.false_eq_true, if_false]
  split <;> rfl

end

/-- STATE is HELD again, with OWN_HANDOVER_STATE told. -/
def State.heldAgain (s : State) : State := (s.handEvent 2).put R.OWN_STATUS_STATE ownHeld

theorem State.revert_eq (s : State) : s.revert = s.heldAgain.handOver := rfl

theorem State.handOver_rd (s : State) (a : Nat) : s.handOver.rd a = s.rd a := rfl
theorem State.handOver_host (s : State) : s.handOver.host = s.host := rfl

theorem State.revert_told (s : State) : Told s s.revert 0x0202 0x02 (some (w32 2)) (some (w32 s.owner)) := by
  refine (s.handEvent_told 2).kept ?_
  rw [State.revert_eq, State.handOver_host, State.heldAgain, State.put_host]

theorem State.revert_onlyRegs (s : State) : OnlyRegs s s.revert [R.OWN_STATUS] := fun a ha =>
  (s.heldAgain.handOver_rd a).trans ((s.handEvent 2).put_onlyRegs R.OWN_STATUS_STATE ownHeld a ha)

theorem State.revert_state (s : State) : s.revert.get R.OWN_STATUS_STATE = 2 :=
  (State.get_of_rd _ (s.heldAgain.handOver_rd _)).trans ((s.handEvent 2).get_put_same R.OWN_STATUS_STATE ownHeld (by decide) (by decide))

theorem State.revert_owner (s : State) : s.revert.owner = s.owner :=
  (State.get_of_rd R.OWN_STATUS_OWNER (s.heldAgain.handOver_rd _)).trans
    ((s.handEvent 2).get_put_of_apart R.OWN_STATUS_STATE R.OWN_STATUS_OWNER ownHeld (.inr (by decide)))

/-- Beside the registers: the hand-over's state is cleared, and the event told. -/
theorem State.revert_rest (s : State) : s.revert.own.locked = 0 ∧ OwnOnly s s.revert := by
  obtain ⟨regs, h⟩ : RegsOnly (s.handEvent 2) s.heldAgain := State.put_regsOnly _ _ _
  rw [State.revert_eq, h]
  exact ⟨rfl, rfl⟩

/-- The Steward cluster owns, with a window open to all but the lost master (R126). -/
theorem State.seizeOwner_shows (s : State) (m : Nat) : OwnShows s (s.seizeOwner m) stewardMaster ownWindowOpen 0 0 :=
  (s.changeOwner_steward_shows ownWindowOpen 0 0 (by decide)).kept (State.openWindow_rd _ _ _) (State.openWindow_rd _ _ _)

/-- The window bars the lost master, and has no claim. -/
theorem State.seizeOwner_window (s : State) (m : Nat) : (s.seizeOwner m).own.claims = [] ∧ (s.seizeOwner m).own.barred = some m := by
  rw [State.seizeOwner, State.openWindow_own]
  exact ⟨rfl, rfl⟩

end Sys2Proof.Machine

open Sys2Proof.Machine in
/-- Settles O17: a hand-over starts, is confirmed, passes or reverts, and its hold ends, each by its row's guard. -/
theorem ownershipHandOver : Obligations.OwnershipHandOver := by
  intro s
  refine ⟨fun c hs ht hm hst hl hc hk hne hup ho =>
      (execOwnHandover_legal hs ht hm hst hl hc hk hne hup).trans (State.judgeHandover_notOwner ho),
    fun c hs ht hm hst hl hc hk hne hup ho hb => ?_, fun c hs ht hm hst hl hc hn => execOwnConfirm_ok hs ht hm hst hl hc hn,
    fun c hs ht hm hc hn => execOwnConfirm_wrongNonce hs ht hm hc hn, fun h => execOwnershipPass_waits h,
    fun k hk hst hc hd hs => ?_, fun hst hc hd hs => ?_, fun hst hs hd => execStewardSuccessorConfirm_waits hst hs hd, fun hst hs hd => ?_,
    fun hst => ⟨execStewardSuccessorConfirm_idle hst, execHandoverConfirmTimeout_idle (.inl hst)⟩, fun hh ht => ?_,
    fun h => execHandoverHoldExpiry_idle h, fun hst hc hl ht => ?_, fun hst hc hl ht => ?_, fun h => execHandoverConfirmTimeout_idle (.inr h)⟩
  · have hlegal := execOwnHandover_legal hs ht hm (by omega) hl hc hk hne hup
    have hput := (s.finish c .ok).handPut_regsOnly (arg c 16 1)
    have howner := (s.finish c .ok).handPut_owner (arg c 16 1)
    obtain ⟨hnonce, hconf, hholds, hat, hans, htold, hframe⟩ := hput.handTold c.master (arg c 16 1) (arg c 20 4)
    rw [howner] at htold
    exact ⟨_, hlegal.trans (State.judgeHandover_started ho hb), (s.handStarted_get c _).trans (State.handPut_state _ _),
      (s.handStarted_get c _).trans (State.handPut_successor _ hk), s.handStarted_owner c, hnonce, hconf, hholds, hat, hans, htold,
      s.handStarted_onlyRegs c, hframe⟩
  · have hshow := State.pass_host_shows hs hk
    obtain ⟨hlocked, hconf, hholds, hframe⟩ := State.pass_host_rest hs hk
    exact ⟨_, execOwnershipPass_passes hst hc hd, hshow.owner, hshow.state, hshow.seq, hlocked, hconf, hholds,
      State.pass_host_onlyRegs hs hk, hframe⟩
  · have hshow := State.pass_steward_shows hs
    exact ⟨_, execOwnershipPass_passes hst hc hd, hshow.owner, hshow.state, hshow.prio, hshow.nonce⟩
  · have hshow := State.pass_steward_shows (s := s.confirmed) hs
    exact ⟨_, execStewardSuccessorConfirm_passes hst hs hd, hshow.owner, hshow.state⟩
  · have hkept := s.holdReleased_ownKept
    exact ⟨_, execHandoverHoldExpiry_due hh ht, congrArg OwnState.holds hkept.own, State.get_of_rd R.OWN_STATUS_OWNER hkept.status,
      State.get_of_rd R.OWN_STATUS_STATE hkept.status, hkept.mem⟩
  · have h := execHandoverConfirmTimeout_due hst hc ht
    rw [hl] at h
    obtain ⟨hlocked, hframe⟩ := s.revert_rest
    exact ⟨_, h, s.revert_owner, s.revert_state, hlocked, s.revert_told, s.revert_onlyRegs, hframe⟩
  · have h := execHandoverConfirmTimeout_due hst hc ht
    have hshow := (s.handEvent 3).handOver.seizeOwner_shows s.owner
    rw [hl] at h
    exact ⟨_, h, hshow.owner, hshow.state, (State.seizeOwner_window _ _).2⟩
end

section
/-! SUPPORT. The heartbeat and the loss of the owner (R115, R126, R127). -/

namespace Sys2Proof.Machine

/-! ### A heartbeat (R115) -/

theorem State.mayWrite_service_own (s : State) : s.mayWrite .service 0x02 = false := by simp [State.mayWrite]

section
variable {s : State} {w : Writer} {m : Nat} (v : Word)

theorem execHeartbeat_own (hr : s.running = true) (hw : w.master = some m) (hm : m < 2) : execHeartbeat w m v s = .next (s.beat m v) := by
  rw [execHeartbeat, State.windowWrite_master _ _ hr hw]
  simp [hr, hw, hm]

theorem execHeartbeat_other (hw : w ≠ .service) (h : w.master ≠ some m ∨ 2 ≤ m) : execHeartbeat w m v s = .next s := by
  refine s.windowWrite_idle w 0x02 _ hw (if_neg ?_)
  rcases h with h | h
  · simp [h]
  · simp [Nat.not_lt.mpr h]

theorem execHeartbeat_service (hr : s.running = true) : execHeartbeat .service m v s = .next (s.satInc R.OWN_SVC_STAT_REFUSED) :=
  s.windowWrite_refused 0x02 _ hr s.mayWrite_service_own

end

section
variable (s : State) (m : Nat) (v : Word)

/-- The time of the last heartbeat. -/
def State.hbNoted (t : Time) : State := { s with own.hbAt := t }

theorem State.hbNoted_rd (t : Time) (a : Nat) : (s.hbNoted t).rd a = s.rd a := rfl
theorem State.hbNoted_self : s.hbNoted s.own.hbAt = s := rfl

/-- COUNT is written, and the owner's silence starts anew. -/
theorem State.beat_eq : s.beat m v = (s.put (R.OWN_HB_COUNT m) (bitsOf v 15 0)).hbNoted (if s.owner = m then s.atime else s.own.hbAt) := by
  unfold State.beat
  dsimp only
  split
  · rw [State.hbNoted, State.put_atime]
  · exact (State.hbNoted_self _).symm

theorem State.beat_count : (s.beat m v).get (R.OWN_HB_COUNT m) = bitsOf v 15 0 := by
  rw [s.beat_eq, State.get_of_rd _ (State.hbNoted_rd _ _ _), s.get_put_same (R.OWN_HB_COUNT m) _ (Nat.zero_le 15) (by decide : (15 : Nat) < 32)]
  exact Nat.mod_eq_of_lt (bitsOf_lt v 15 0)

theorem State.beat_onlyRegs : OnlyRegs s (s.beat m v) [R.OWN_HB m] := by
  rw [s.beat_eq]
  exact fun a ha => (State.hbNoted_rd _ _ a).trans (s.put_onlyRegs (R.OWN_HB_COUNT m) _ a ha)

/-- Beside COUNT, the time alone. -/
theorem State.beat_rest : (s.beat m v).own.hbAt = (if s.owner = m then s.atime else s.own.hbAt) ∧
    s.beat m v = { s with regs := (s.beat m v).regs, own := (s.beat m v).own } := by
  obtain ⟨regs, h⟩ := s.put_regsOnly (R.OWN_HB_COUNT m) (bitsOf v 15 0)
  rw [s.beat_eq, h]
  exact ⟨rfl, rfl⟩

end

/-! ### The loss of the owner (R126, R127) -/

/-- OWN_HB_LOST and its record. -/
def State.lossTold (s : State) (cause : Nat) : State :=
  (s.event 0x0203 0x02 (w32 s.owner) (w32 cause) (w32 (s.get R.OWN_STATUS_OWN_SEQ)) (w32 0)).raise 0x0201 0 0x02

theorem State.lossTold_raised (s : State) (cause : Nat) : Raised s (s.lossTold cause) 0x0201 0 0x02 :=
  (State.raise_raised _ 0x0201 0 0x02).after rfl rfl rfl

theorem State.lossTold_event (s : State) (cause : Nat) :
    ∃ e, e ∈ (s.lossTold cause).host.events ∧ e.code = 0x0203 ∧ e.c0 = w32 s.owner :=
  ⟨_, List.mem_append_right _ (List.mem_singleton_self _), rfl, rfl⟩

theorem State.lossTold_get (s : State) (cause : Nat) (F : Fld) (h : F.addr ≠ R.LEDGER_SEQ) : (s.lossTold cause).get F = s.get F :=
  State.get_of_rd F (State.raise_onlyRegs _ 0x0201 0 0x02 none none _ (by simpa using h))

/-- A record raised stays the only one while the Ledger is left alone. -/
theorem Raised.kept {s t u : State} {code sev unit : Nat} (h : Raised s t code sev unit) (hl : u.led = t.led) : Raised s u code sev unit := by
  obtain ⟨r, harr, hrest⟩ := h
  exact ⟨r, by rw [hl, harr], hrest⟩

/-- The Ledger is left alone, and no event is lost, as the Steward cluster takes ownership. -/
theorem State.seizeOwner_told (s : State) (m : Nat) : (s.seizeOwner m).led = s.led ∧ s.host.events <+: (s.seizeOwner m).host.events := by
  have hagent := (s.ownTold stewardMaster ownWindowOpen 0 0).ownerAgent_agentActed
  obtain ⟨hled, hevents⟩ : (s.ownTold stewardMaster ownWindowOpen 0 0).led = s.led ∧
      s.host.events <+: (s.ownTold stewardMaster ownWindowOpen 0 0).host.events := by
    obtain ⟨regs, h⟩ := s.ownWritten_regsOnly stewardMaster ownWindowOpen 0 0
    rw [State.ownTold, h]
    exact ⟨rfl, List.prefix_append _ _⟩
  rw [State.seizeOwner, State.changeOwner_steward, State.openWindow_led, State.openWindow_host]
  exact ⟨hagent.led.trans hled, hevents.trans hagent.events⟩

section
variable {s : State}

/-- An owner lost with nothing in flight. -/
theorem State.ownerLost_idle (cause : Nat) (ho : s.host.ops = []) : s.ownerLost cause =
    if s.get R.OWN_STATUS_STATE = 3 then { s.lossTold cause with own.oldLost := true } else (s.lossTold cause).seizeOwner s.owner := by
  have habort : (s.lossTold cause).abortB s.owner = s.lossTold cause :=
    State.abortB_of_none (fun o h => absurd h (by rw [show (s.lossTold cause).host.ops = [] from ho]; exact List.not_mem_nil)) s.owner
  have hst : (s.lossTold cause).ownSt = s.get R.OWN_STATUS_STATE := s.lossTold_get cause R.OWN_STATUS_STATE (by decide)
  rw [← hst]
  unfold State.ownerLost
  dsimp only
  rw [← State.lossTold, habort]
  rfl

theorem execHeartbeatTimeout_lost (ho : s.owner < 2) (hst : s.get R.OWN_STATUS_STATE = 2 ∨ s.get R.OWN_STATUS_STATE = 3)
    (hl : s.own.oldLost = false) (ht : 1000 * s.get R.OWN_CFG_HB_TIMEOUT ≤ s.since s.own.hbAt) :
    execHeartbeatTimeout s = .next (s.ownerLost 0) := by
  rcases hst with h | h <;> simp [execHeartbeatTimeout, State.ownSt, ho, h, hl, ht, ownHeld, ownHandover]

theorem execHeartbeatTimeout_heard (h : s.since s.own.hbAt < 1000 * s.get R.OWN_CFG_HB_TIMEOUT) : execHeartbeatTimeout s = .next s := by
  simp [execHeartbeatTimeout, Nat.not_le.mpr h]

theorem execHeartbeatTimeout_steward (h : 2 ≤ s.owner) : execHeartbeatTimeout s = .next s := by
  simp [execHeartbeatTimeout, Nat.not_lt.mpr h]

end

end Sys2Proof.Machine

open Sys2Proof.Machine in
/-- Settles O18: a heartbeat counts from its own master alone, and the silent owner is lost outside a hand-over or in one. -/
theorem heartbeatAndItsLoss : Obligations.HeartbeatAndItsLoss := by
  intro s
  refine ⟨fun w m v hm hw hp => ?_, fun w m v hw h => execHeartbeat_other v hw h, fun m v hr => execHeartbeat_service v hr,
    fun ho hst hl ht hops => ?_, fun ho hst hl ht hops => ?_, fun h => execHeartbeatTimeout_heard h, fun h => execHeartbeatTimeout_steward h⟩
  · obtain ⟨hat, hframe⟩ := s.beat_rest m v
    exact ⟨_, execHeartbeat_own v (decide_eq_true hp) hw hm, s.beat_count m v, hat, s.beat_onlyRegs m v, hframe⟩
  · have h := execHeartbeatTimeout_lost ho (.inl hst) hl ht
    rw [State.ownerLost_idle 0 hops, if_neg (by omega)] at h
    have hshow := (s.lossTold 0).seizeOwner_shows s.owner
    obtain ⟨hclaims, hbarred⟩ := (s.lossTold 0).seizeOwner_window s.owner
    obtain ⟨hled, hevents⟩ := (s.lossTold 0).seizeOwner_told s.owner
    obtain ⟨e, he, hcode, hc0⟩ := s.lossTold_event 0
    exact ⟨_, h, hshow.owner, hshow.state, hclaims, hbarred, (s.lossTold_raised 0).kept hled, e, hevents.subset he, hcode, hc0⟩
  · have h := execHeartbeatTimeout_lost ho (.inr hst) hl ht
    rw [State.ownerLost_idle 0 hops, if_pos hst] at h
    exact ⟨_, h, s.lossTold_get 0 R.OWN_STATUS_OWNER (by decide), (s.lossTold_get 0 R.OWN_STATUS_STATE (by decide)).trans hst, rfl,
      (s.lossTold_raised 0).kept rfl⟩
end

section
/-! SUPPORT. The canonical form of the memories and the set-up map (R129, R460): every operation of the model keeps it, in the order of the
model's files, and from them every command's meaning. -/

namespace Sys2Proof.Machine

/-- `t` is in canonical form if `s` is. -/
def CanonFrom (s t : State) : Prop := s.canonical = true → t.canonical = true

/-- `CanonFrom`, under a name that no rule of simp rewrites. -/
def CanonStill (s t : State) : Prop := CanonFrom s t

/-- `f` keeps the canonical form. It is said as an equation, and not as `∀ t, CanonFrom t (f t)` (`keepsCanon_iff`), so that simp follows a chain
of operations back to the state that it starts from without a side condition at each of them. -/
abbrev KeepsCanon (f : State → State) : Prop := ∀ s t, CanonFrom s (f t) ↔ CanonFrom s t ∨ CanonStill s (f t)

@[simp, refl] theorem CanonFrom.refl (s : State) : CanonFrom s s := id

theorem CanonFrom.trans {s t u : State} (h : CanonFrom s t) (h' : CanonFrom t u) : CanonFrom s u := h' ∘ h

theorem KeepsCanon.of {f : State → State} (h : ∀ t, CanonFrom t (f t)) : KeepsCanon f := fun _ t =>
  ⟨.inr, fun h' => h'.elim (fun hs => hs.trans (h t)) id⟩

theorem KeepsCanon.apply {f : State → State} (h : KeepsCanon f) (t : State) : CanonFrom t (f t) := (h t t).2 (.inl (.refl t))

theorem keepsCanon_iff {f : State → State} : KeepsCanon f ↔ ∀ t, CanonFrom t (f t) := ⟨KeepsCanon.apply, KeepsCanon.of⟩

/-- The state of an answer, where the answer's state is in canonical form if `s` is. -/
theorem CanonFrom.of_pair {α : Type} {p : State × α} {s u : State} {a : α} (h : CanonFrom s p.1) (hp : p = (u, a)) : CanonFrom s u := by
  simpa [hp] using h

/-- The state of an answer, where the operation's state keeps the canonical form. -/
theorem KeepsCanon.of_pair {α : Type} {g : State → State × α} (h : KeepsCanon fun t => (g t).1) {s u : State} {a : α} (hp : g s = (u, a)) :
    CanonFrom s u := .of_pair (h.apply s) hp

/-- What the canonical form of a state rests on: its part, its set-up map and its memories. -/
def PartsCanonFrom (s : State) (p : Part) (r : Sparse Word) (m : Memory) : Prop :=
  s.canonical = true → (m.wf && Sparse.wf (resetValue p) r) = true

@[simp] theorem State.mk_canonFrom (s : State) (part pending atime free regs mem pwr mode host own store mkt led fe edge pair dcl acq trac conv
    chg mot disc safe tally net) : CanonFrom s (State.mk part pending atime free regs mem pwr mode host own store mkt led fe edge pair dcl acq
    trac conv chg mot disc safe tally net) ↔ PartsCanonFrom s part regs mem := (Iff.rfl)

/-- The three read from states that agree with the one whose set-up map it is. -/
@[simp] theorem partsCanonFrom_iff (s t u v : State) (hp : t.part = u.part) (hm : v.mem = u.mem) :
    PartsCanonFrom s t.part u.regs v.mem ↔ CanonFrom s u := by
  rw [hp, hm]; exact Iff.rfl

@[simp] theorem canonFrom_ite (s : State) (p : Prop) [Decidable p] (a b : State) :
    CanonFrom s (if p then a else b) ↔ if p then CanonFrom s a else CanonFrom s b := by split <;> rfl

theorem foldl_canonFrom {α : Type} {f : State → α → State} (h : ∀ t a, CanonFrom t (f t a)) (l : List α) (s : State) :
    CanonFrom s (l.foldl f s) := by
  induction l generalizing s with
  | nil => exact .refl s
  | cons a l ih => exact (h s a).trans (ih (f s a))

@[simp] theorem foldl_keepsCanon {α : Type} {f : State → α → State} (h : ∀ t a, CanonFrom t (f t a)) (l : List α) :
    KeepsCanon (l.foldl f ·) := .of (foldl_canonFrom h l)

@[simp] theorem State.each_keepsCanon {α : Type} {f : State → α → State} (h : ∀ t a, CanonFrom t (f t a)) (l : List α) :
    KeepsCanon (·.each l f) := .of (foldl_canonFrom h l)

@[simp] theorem State.onlyIf_keepsCanon {f : State → State} (h : ∀ t, CanonFrom t (f t)) (b : Bool) : KeepsCanon (·.onlyIf b f) := .of fun s => by
  cases b
  · exact .refl s
  · exact h s

/-- A meaning whose next state, if it answers one, is in canonical form if `s` is. -/
def AnswersCanon (s : State) (o : Out) : Prop := ∀ t, o = .next t → CanonFrom s t

@[simp] theorem answersCanon_next (s t : State) : AnswersCanon s (.next t) ↔ CanonFrom s t := by simp [AnswersCanon]

@[simp] theorem answersCanon_ite (s : State) (p : Prop) [Decidable p] (a b : Out) :
    AnswersCanon s (if p then a else b) ↔ if p then AnswersCanon s a else AnswersCanon s b := by split <;> rfl

@[simp] theorem answersCanon_command (s : State) (c : Cmd) (op : Nat) (f : State → Out) (h : AnswersCanon s (f s)) :
    AnswersCanon s (s.command c op f) := by
  unfold State.command
  split
  · exact h
  · simp

/-- What an instruction of a field engine does keeps the canonical form. -/
def Isa.CanonFrom (s : State) : Isa → Prop
  | .fault _ => True
  | .done t => Machine.CanonFrom s t
  | .jump t _ => Machine.CanonFrom s t

@[simp] theorem Isa.canonFrom_fault (s : State) (c : Nat) : (Isa.fault c).CanonFrom s := trivial
@[simp] theorem Isa.canonFrom_done (s t : State) : (Isa.done t).CanonFrom s ↔ Machine.CanonFrom s t := Iff.rfl
@[simp] theorem Isa.canonFrom_jump (s t : State) (p : Nat) : (Isa.jump t p).CanonFrom s ↔ Machine.CanonFrom s t := Iff.rfl
@[simp] theorem Isa.canonFrom_ite (s : State) (p : Prop) [Decidable p] (a b : Isa) :
    (if p then a else b).CanonFrom s ↔ if p then a.CanonFrom s else b.CanonFrom s := by split <;> rfl

/-- Valid bits found wrong keep the canonical form. -/
theorem State.parityBad_canonical (s : State) (k : Nat) (v : Bool) (h : s.canonical = true) :
    ({ s with mem.parityBad := Sparse.set (always false) s.mem.parityBad k v } : State).canonical = true := by
  rw [State.canonical_iff] at h ⊢
  obtain ⟨⟨hs, hv, hf, hp, hm⟩, hr⟩ := h
  exact ⟨⟨hs, hv, hf, Sparse.set_wf _ _ _ _ hp, hm⟩, hr⟩

/-- Damage of one MRAM word written keeps the canonical form. -/
theorem State.mramFlips_canonical (s : State) (k v : Nat) (h : s.canonical = true) :
    ({ s with mem.mramFlips := Sparse.set (always 0) s.mem.mramFlips k v } : State).canonical = true := by
  rw [State.canonical_iff] at h ⊢
  obtain ⟨⟨hs, hv, hf, hp, hm, hmf, hh⟩, hr⟩ := h
  exact ⟨⟨hs, hv, hf, hp, hm, Sparse.set_wf _ _ _ _ hmf, hh⟩, hr⟩

@[simp] theorem mramFlips_canonFrom (s t : State) (k v : Nat) :
    PartsCanonFrom s t.part t.regs { t.mem with mramFlips := Sparse.set (always 0) t.mem.mramFlips k v } ↔
      CanonFrom s t ∨ CanonStill s { t with mem.mramFlips := Sparse.set (always 0) t.mem.mramFlips k v } :=
  KeepsCanon.of (f := fun t => { t with mem.mramFlips := Sparse.set (always 0) t.mem.mramFlips k v }) (·.mramFlips_canonical k v) s t

/-! ### Sys2Proof/Machine/Ops.lean -/

@[simp] theorem State.wr_keepsCanon (a : Nat) (w : Word) : KeepsCanon (·.wr a w) := .of fun s => s.wr_canonical a w
@[simp] theorem State.put_keepsCanon (F : Fld) (v : Nat) : KeepsCanon (·.put F v) := .of fun s => by simp [State.put]
@[simp] theorem State.putB_keepsCanon (F : Fld) (b : Bool) : KeepsCanon (·.putB F b) := .of fun s => by simp [State.putB]
@[simp] theorem State.satInc_keepsCanon (F : Fld) : KeepsCanon (·.satInc F) := .of fun s => by simp [State.satInc]
@[simp] theorem State.wrapInc_keepsCanon (F : Fld) : KeepsCanon (·.wrapInc F) := .of fun s => by simp [State.wrapInc]
@[simp] theorem State.putBit_keepsCanon (F : Fld) (b : Nat) (v : Bool) : KeepsCanon (·.putBit F b v) := .of fun s => by simp [State.putBit]
@[simp] theorem State.useFree_keepsCanon : KeepsCanon (·.useFree) := .of fun s => by simp [State.useFree]
@[simp] theorem State.raiseFor_keepsCanon (code sev unit own : Nat) (c0 c1 : Option Word) : KeepsCanon (·.raiseFor code sev unit own c0 c1) :=
  .of fun s => by simp -implicitDefEqProofs [State.raiseFor]
@[simp] theorem State.raise_keepsCanon (code sev unit : Nat) (c0 c1 : Option Word) : KeepsCanon (·.raise code sev unit c0 c1) :=
  .of fun s => by simp [State.raise]
@[simp] theorem State.eventTo_keepsCanon (only : Option Nat) (code source : Nat) (c0 c1 c2 c3 : Option Word) :
    KeepsCanon (·.eventTo only code source c0 c1 c2 c3) := .of fun s => by simp [State.eventTo]
@[simp] theorem State.event_keepsCanon (code source : Nat) (c0 c1 c2 c3 : Option Word) : KeepsCanon (·.event code source c0 c1 c2 c3) :=
  .of fun s => by simp [State.event]
@[simp] theorem State.eventFor_keepsCanon (m code source : Nat) (c0 c1 c2 c3 : Option Word) : KeepsCanon (·.eventFor m code source c0 c1 c2 c3) :=
  .of fun s => by simp [State.eventFor]
@[simp] theorem State.result_keepsCanon (m tag g : Nat) (st : Status) (value : Nat) (data superseded : Bool) :
    KeepsCanon (·.result m tag g st value data superseded) := .of fun s => by simp [State.result]
@[simp] theorem State.begin_keepsCanon (c : Cmd) : KeepsCanon (·.begin c) := .of fun s => by simp [State.begin]
@[simp] theorem State.finish_keepsCanon (c : Cmd) (st : Status) (value : Nat) (data : Bool) : KeepsCanon (·.finish c st value data) :=
  .of fun s => by simp [State.finish]
@[simp] theorem refuse_canon (s : State) (c : Cmd) (st : Status) : AnswersCanon s (refuse s c st) := by simp [refuse]
@[simp] theorem State.setByte_keepsCanon (a : Nat) (b : Byte) : KeepsCanon (·.setByte a b) := .of fun s => s.setByte_canonical a b
@[simp] theorem State.setBytes_keepsCanon (a : Nat) (bs : List Byte) : KeepsCanon (·.setBytes a bs) := .of fun s => s.setBytes_canonical a bs
@[simp] theorem State.settle_keepsCanon (o : Nat) : KeepsCanon (·.settle o) := .of fun s => s.settle_canonical o
@[simp] theorem State.renew_keepsCanon (a n : Nat) : KeepsCanon (·.renew a n) := .of fun s => s.renew_canonical a n
@[simp] theorem State.writeByte_keepsCanon (a : Nat) (b : Byte) : KeepsCanon (·.writeByte a b) := .of fun s => by simp [State.writeByte]
@[simp] theorem State.writeEach_keepsCanon (a : Nat) (bs : List Byte) : KeepsCanon (·.writeEach a bs) := .of fun s => s.writeEach_canonical a bs
@[simp] theorem State.writeBytes_keepsCanon (a : Nat) (bs : List Byte) : KeepsCanon (·.writeBytes a bs) := .of fun s => by simp [State.writeBytes]
@[simp] theorem State.writeNat_keepsCanon (a n v : Nat) : KeepsCanon (·.writeNat a n v) := .of fun s => by simp [State.writeNat]
@[simp] theorem State.regionErr_keepsCanon (a who : Nat) : KeepsCanon (·.regionErr a who) := .of fun s => by simp [State.regionErr]
@[simp] theorem State.putHost_keepsCanon (m a : Nat) (bs : List Byte) : KeepsCanon (·.putHost m a bs) := .of fun s => s.putHost_canonical m a bs
@[simp] theorem State.finishData_keepsCanon (c : Cmd) (st : Status) (bs : List Byte) (value : Nat) : KeepsCanon (·.finishData c st bs value) :=
  .of fun s => by simp [State.finishData]
@[simp] theorem State.setPairSt_keepsCanon (k v : Nat) : KeepsCanon (·.setPairSt k v) := .of fun s => by simp [State.setPairSt]
@[simp] theorem State.setSafePair_keepsCanon (k : Nat) (p : SafePair) : KeepsCanon (·.setSafePair k p) := .of fun s => by simp [State.setSafePair]
@[simp] theorem State.setLines_keepsCanon (k u : Nat) (l : Lines) : KeepsCanon (·.setLines k u l) := .of fun s => by simp [State.setLines]
@[simp] theorem State.setChan_keepsCanon (n : Nat) (c : Chan) : KeepsCanon (·.setChan n c) := .of fun s => by simp [State.setChan]
@[simp] theorem State.setLeg_keepsCanon (n : Nat) (l : Leg) : KeepsCanon (·.setLeg n l) := .of fun s => by simp [State.setLeg]
@[simp] theorem State.setBand_keepsCanon (u : Nat) (b : BandSet) : KeepsCanon (·.setBand u b) := .of fun s => by simp [State.setBand]
@[simp] theorem State.clearLeg_keepsCanon (n u : Nat) : KeepsCanon (·.clearLeg n u) := .of fun s => by simp [State.clearLeg]
@[simp] theorem State.refreshChan_keepsCanon (n : Nat) : KeepsCanon (·.refreshChan n) := .of fun s => by
  unfold State.refreshChan
  repeat' split
  all_goals simp
@[simp] theorem State.convState_keepsCanon (v : Nat) : KeepsCanon (·.convState v) := .of fun s => by simp [State.convState]
@[simp] theorem State.convFollow_keepsCanon : KeepsCanon (·.convFollow) := .of fun s => by simp [State.convFollow]
@[simp] theorem State.dropForced_keepsCanon (u : Nat) : KeepsCanon (·.dropForced u) := .of fun s => by simp [State.dropForced]
@[simp] theorem State.refreshUnit_keepsCanon (u : Nat) : KeepsCanon (·.refreshUnit u) := .of fun s => by simp [State.refreshUnit]
@[simp] theorem State.refreshAll_keepsCanon : KeepsCanon (·.refreshAll) := .of fun s => by simp [State.refreshAll]
@[simp] theorem State.removeEnable_keepsCanon (u : Nat) : KeepsCanon (·.removeEnable u) := .of fun s => by simp [State.removeEnable]
@[simp] theorem State.forceUnit_keepsCanon (u : Nat) (asc : Bool) : KeepsCanon (·.forceUnit u asc) := .of fun s => by simp [State.forceUnit]
@[simp] theorem State.unforceUnit_keepsCanon (u : Nat) : KeepsCanon (·.unforceUnit u) := .of fun s => by simp [State.unforceUnit]
@[simp] theorem State.hold_keepsCanon (u : Nat) : KeepsCanon (·.hold u) := .of fun s => by simp [State.hold]
@[simp] theorem State.unhold_keepsCanon (u : Nat) : KeepsCanon (·.unhold u) := .of fun s => by simp [State.unhold]
@[simp] theorem State.raiseOwn_keepsCanon (code sev unit own : Nat) (c0 c1 : Option Word) : KeepsCanon (·.raiseOwn code sev unit own c0 c1) :=
  .of fun s => by simp [State.raiseOwn]
@[simp] theorem State.askGrant_keepsCanon (u : Nat) : KeepsCanon (·.askGrant u) := .of fun s => by simp [State.askGrant]
@[simp] theorem State.setEng_keepsCanon (n : Nat) (e : Engine) : KeepsCanon (·.setEng n e) := .of fun s => by simp [State.setEng]
@[simp] theorem State.modEng_keepsCanon (n : Nat) (f : Engine → Engine) : KeepsCanon (·.modEng n f) := .of fun s => by simp [State.modEng]
@[simp] theorem State.stage_keepsCanon (n p : Nat) (w : Word) : KeepsCanon (·.stage n p w) := .of fun s => by simp [State.stage]
@[simp] theorem State.wardenStage_keepsCanon (n p : Nat) (w : Word) : KeepsCanon (·.wardenStage n p w) := .of fun s => by simp [State.wardenStage]
@[simp] theorem State.flushTurnstile_keepsCanon (k : Nat) : KeepsCanon (·.flushTurnstile k) := .of fun s => by simp [State.flushTurnstile]

/-! ### Sys2Proof/Machine/ModeOps.lean -/

@[simp] theorem State.writeLimits_keepsCanon (n : Nat) : KeepsCanon (·.writeLimits n) := .of fun s => by simp [State.writeLimits]
@[simp] theorem State.refreshLimits_keepsCanon : KeepsCanon (·.refreshLimits) := .of fun s => by simp [State.refreshLimits]
@[simp] theorem State.refreshHold_keepsCanon : KeepsCanon (·.refreshHold) := .of fun s => by simp [State.refreshHold]
@[simp] theorem State.takeOut_keepsCanon (u : Nat) : KeepsCanon (·.takeOut u) := .of fun s => by simp [State.takeOut]
@[simp] theorem State.loseSet_keepsCanon (u : Nat) : KeepsCanon (·.loseSet u) := .of fun s => by
  simp only [State.loseSet]
  split <;> simp
@[simp] theorem State.disable_keepsCanon (u : Nat) : KeepsCanon (·.disable u) := .of fun s => by simp [State.disable]
@[simp] theorem State.safeOutputs_keepsCanon (code : Nat) : KeepsCanon (·.safeOutputs code) := .of fun s => by simp [State.safeOutputs]
@[simp] theorem State.regrant_keepsCanon (k u : Nat) : KeepsCanon (·.regrant k u) := .of fun s => by simp [State.regrant]
@[simp] theorem State.degrEvent_keepsCanon : KeepsCanon (·.degrEvent) := .of fun s => by simp [State.degrEvent]
@[simp] theorem State.degradedEntry_keepsCanon : KeepsCanon (·.degradedEntry) := .of fun s => by
  simp only [State.degradedEntry]
  split <;> simp -implicitDefEqProofs
@[simp] theorem State.stopEngine_keepsCanon (n : Nat) : KeepsCanon (·.stopEngine n) := .of fun s => by simp [State.stopEngine]
@[simp] theorem State.haltEngine_keepsCanon (n : Nat) : KeepsCanon (·.haltEngine n) := .of fun s => by simp [State.haltEngine]
@[simp] theorem State.stopDiscovery_keepsCanon : KeepsCanon (·.stopDiscovery) := .of fun s => by simp [State.stopDiscovery]
@[simp] theorem State.endDiscovery_keepsCanon : KeepsCanon (·.endDiscovery) := .of fun s => by simp [State.endDiscovery]
@[simp] theorem State.dropRamps_keepsCanon : KeepsCanon (·.dropRamps) := .of fun s => by simp [State.dropRamps]
@[simp] theorem State.accepted_keepsCanon (dest : Mode) : KeepsCanon (·.accepted dest) := .of fun s => by simp [State.accepted]
@[simp] theorem State.startTrans_keepsCanon (dest : Mode) (kind prec code : Nat) : KeepsCanon (·.startTrans dest kind prec code) :=
  .of fun s => by simp -implicitDefEqProofs [State.startTrans]
@[simp] theorem State.abandon_keepsCanon (cur : Trigger) (dest : Mode) : KeepsCanon (·.abandon cur dest) := .of fun s => by simp [State.abandon]
@[simp] theorem State.holdTrigger_keepsCanon (kind prec code : Nat) : KeepsCanon (·.holdTrigger kind prec code) :=
  .of fun s => by simp [State.holdTrigger]
@[simp] theorem State.sameTrigger_keepsCanon (cur : Trigger) (kind code : Nat) : KeepsCanon (·.sameTrigger cur kind code) :=
  .of fun s => by simp [State.sameTrigger]
@[simp] theorem State.trigger_keepsCanon (kind prec code : Nat) : KeepsCanon (·.trigger kind prec code) := .of fun s => by
  unfold State.trigger
  repeat' split
  all_goals simp
@[simp] theorem State.abandonForReset_keepsCanon : KeepsCanon (·.abandonForReset) := .of fun s => by
  unfold State.abandonForReset
  split <;> simp
@[simp] theorem State.cleared_keepsCanon : KeepsCanon (·.cleared) := .of fun s h => by
  rw [State.canonical_iff] at h ⊢
  obtain ⟨⟨_, _, _, _, hm, hf, h0, h1⟩, hr⟩ := h
  exact ⟨⟨rfl, rfl, rfl, rfl, hm, hf, h0, h1⟩, Sparse.filter_wf _ _ _ hr⟩
@[simp] theorem State.enterReset_keepsCanon (src : Nat) (cold : Bool) : KeepsCanon (·.enterReset src cold) :=
  .of fun s => by simp -implicitDefEqProofs [State.enterReset]

/-! ### Sys2Proof/Machine/FeOps.lean -/

@[simp] theorem State.missTick_keepsCanon (n : Nat) : KeepsCanon (·.missTick n) := .of fun s => by simp [State.missTick]
@[simp] theorem State.loopFault_keepsCanon (n code : Nat) : KeepsCanon (·.loopFault n code) := .of fun s => by simp [State.loopFault]
@[simp] theorem State.setPc_keepsCanon (n p : Nat) : KeepsCanon (·.setPc n p) := .of fun s => by simp [State.setPc]
@[simp] theorem State.branch_keepsCanon (n p : Nat) : KeepsCanon (·.branch n p) := .of fun s => by simp [State.branch]
@[simp] theorem isaRun_canon (n : Nat) (here : Bool) (s : State) (body : Engine → Isa) (h : ∀ e, (body e).CanonFrom s) :
    AnswersCanon s (isaRun n here s body) := by
  unfold isaRun
  have hb := h (s.eng n)
  cases e : body (s.eng n) <;> simp_all
@[simp] theorem isaStep_canon (n op d a b x : Nat) (s : State) (body : Engine → Isa) (h : ∀ e, (body e).CanonFrom s) :
    AnswersCanon s (isaStep n op d a b x s body) := isaRun_canon n _ s body h
@[simp] theorem State.noteFloat_keepsCanon (n : Nat) (v : F32) : KeepsCanon (·.noteFloat n v) := .of fun s => by simp [State.noteFloat]
@[simp] theorem State.floatOut_keepsCanon (n d : Nat) (v : F32) : KeepsCanon (·.floatOut n d v) := .of fun s => by simp [State.floatOut]
@[simp] theorem State.floatsOut_keepsCanon (n d : Nat) (vs : List F32) : KeepsCanon (·.floatsOut n d vs) := .of fun s => by
  induction vs generalizing s d with
  | nil => rfl
  | cons v t ih => exact CanonFrom.trans (by simp) (ih _ _)
@[simp] theorem State.intOut_keepsCanon (s t : State) (n d : Nat) (v : Word) (h : CanonFrom s t) : (t.intOut n d v).CanonFrom s := by
  simp [State.intOut, h]
@[simp] theorem floatOp_canon (n op d a b x : Nat) (s : State) (f : Engine → F32) : AnswersCanon s (floatOp n op d a b x s f) := by simp [floatOp]
@[simp] theorem floatsOp_canon (n op d a b x top : Nat) (s : State) (f : Engine → List F32) : AnswersCanon s (floatsOp n op d a b x top s f) := by
  simp [floatsOp]
@[simp] theorem intOp_canon (n op d a b x rb : Nat) (s : State) (f : Word → Word → Word) : AnswersCanon s (intOp n op d a b x rb s f) := by
  simp [intOp]
@[simp] theorem State.showRegion_keepsCanon (n : Nat) : KeepsCanon (·.showRegion n) := .of fun s => by simp [State.showRegion]
@[simp] theorem State.regionLookup_keepsCanon (n : Nat) (x y : F32) : KeepsCanon fun s => (s.regionLookup n x y).1 := .of fun s => by
  simp only [State.regionLookup]
  split <;> simp
@[simp] theorem State.plausCheck_keepsCanon (n k : Nat) (v thr : F32) (cnt : Nat) : KeepsCanon fun s => (s.plausCheck n k v thr cnt).1 :=
  .of fun s => by
    simp only [State.plausCheck]
    repeat' split
    all_goals simp
@[simp] theorem State.stageStore_keepsCanon (s : State) (n hb kind : Nat) (v : F32) : (s.stageStore n hb kind v).CanonFrom s := by
  simp [State.stageStore]
@[simp] theorem State.queueEvt_keepsCanon (n x : Nat) (fa fb : F32) : KeepsCanon (·.queueEvt n x fa fb) := .of fun s => by simp [State.queueEvt]
@[simp] theorem State.pushSample_keepsCanon (src : Nat) (v : Word) (flags : Nat) : KeepsCanon (·.pushSample src v flags) :=
  .of fun s => by simp [State.pushSample]
@[simp] theorem State.loadSample_keepsCanon (n d b src : Nat) : KeepsCanon (·.loadSample n d b src) := .of fun s => by simp [State.loadSample]
@[simp] theorem State.wakeSld_keepsCanon (n : Nat) : KeepsCanon (·.wakeSld n) := .of fun s => by
  simp only [State.wakeSld]
  split <;> simp

/-! ### Sys2Proof/Machine/TallyConn.lean -/

@[simp] theorem State.setRx_keepsCanon (k c : Nat) (r : TallyRx) : KeepsCanon (·.setRx k c r) := .of fun s => by simp [State.setRx]
@[simp] theorem State.setTx_keepsCanon (c : Nat) (t : TallyTx) : KeepsCanon (·.setTx c t) := .of fun s => by simp [State.setTx]
@[simp] theorem State.tallyShow_keepsCanon (c : Nat) : KeepsCanon (·.tallyShow c) := .of fun s => by simp [State.tallyShow]
@[simp] theorem State.tallyShowAll_keepsCanon : KeepsCanon (·.tallyShowAll) := .of fun s => by simp [State.tallyShowAll]
@[simp] theorem State.tallySet_keepsCanon (k c : Nat) (r : TallyRx) : KeepsCanon (·.tallySet k c r) := .of fun s => by simp [State.tallySet]
@[simp] theorem State.tallyOpen_keepsCanon (c : Nat) : KeepsCanon (·.tallyOpen c) := .of fun s => by simp [State.tallyOpen]
@[simp] theorem State.tallyClose_keepsCanon (c : Nat) : KeepsCanon (·.tallyClose c) := .of fun s => by simp [State.tallyClose]
@[simp] theorem State.tallyFollow_keepsCanon (c : Nat) : KeepsCanon (·.tallyFollow c) := .of fun s => by simp [State.tallyFollow]
@[simp] theorem State.tallyReopen_keepsCanon : KeepsCanon (·.tallyReopen) := .of fun s => by simp [State.tallyReopen]

/-! ### Sys2Proof/Machine/RegOps.lean -/

@[simp] theorem State.windowWrite_canon (s : State) (w : Writer) (block : Nat) (f : State → Out) (h : AnswersCanon s (f s)) :
    AnswersCanon s (s.windowWrite w block f) := by
  simp [State.windowWrite, h]
@[simp] theorem State.writeField_keepsCanon (a : Nat) (v : Word) (fd : FieldDef) : KeepsCanon (·.writeField a v fd) :=
  .of fun s => by simp [State.writeField]
@[simp] theorem State.setChanged_keepsCanon : KeepsCanon (·.setChanged) := .of fun s => by simp [State.setChanged]
@[simp] theorem State.applyWrite_keepsCanon (a : Nat) (v : Word) (fields : List FieldDef) (ok : FieldDef → Bool) :
    KeepsCanon (·.applyWrite a v fields ok) := .of fun s => by simp [State.applyWrite]
@[simp] theorem State.keepReg_keepsCanon (before : State) (w : Writer) (a : Nat) : KeepsCanon (·.keepReg before w a) := .of fun s => by
  simp [State.keepReg]

/-! ### Sys2Proof/Machine/Checked.lean -/

@[simp] theorem State.setBankState_keepsCanon (b v : Nat) : KeepsCanon (·.setBankState b v) := .of fun s => by simp [State.setBankState]
@[simp] theorem State.wakeBank_keepsCanon (b : Nat) : KeepsCanon (·.wakeBank b) := .of fun s => by simp [State.wakeBank]
@[simp] theorem State.wakeFor_keepsCanon (a n : Nat) : KeepsCanon (·.wakeFor a n) := .of fun s => by simp [State.wakeFor]
@[simp] theorem State.errInfo_keepsCanon (o cls syn src : Nat) : KeepsCanon (·.errInfo o cls syn src) := .of fun s => by simp [State.errInfo]
@[simp] theorem State.corrected_keepsCanon (o cls syn src : Nat) : KeepsCanon (·.corrected o cls syn src) := .of fun s => by simp [State.corrected]
@[simp] theorem State.ueRecord_keepsCanon (o cls syn src : Nat) (engine : Option Nat) : KeepsCanon (·.ueRecord o cls syn src engine) :=
  .of fun s => by simp [State.ueRecord]
@[simp] theorem State.queueWord_keepsCanon (o : Nat) : KeepsCanon (·.queueWord o) := .of fun s => by simp [State.queueWord]
@[simp] theorem State.checkWord_keepsCanon (o addr src : Nat) (engine : Option Nat) : KeepsCanon fun s => (s.checkWord o addr src engine).1 :=
  .of fun s => by
    simp only [State.checkWord]
    repeat' split
    all_goals simp
@[simp] theorem State.readWords_keepsCanon (a n : Nat) : KeepsCanon fun s => (s.readWords a n).1 := .of fun s => by
  induction n generalizing s a with
  | zero => rfl
  | succ n ih =>
    unfold State.readWords
    split
    · next t h => exact (State.checkWord_keepsCanon _ _ _ _).of_pair h
    · next t h =>
      have ht := (State.checkWord_keepsCanon _ _ _ _).of_pair h
      split
      · next u bs hu => exact ht.trans (.of_pair (ih _ _) hu)
      · next u hu => exact ht.trans (.of_pair (ih _ _) hu)

/-! ### Sys2Proof/Machine/Market.lean -/

@[simp] theorem State.mktStatus_keepsCanon : KeepsCanon (·.mktStatus) := .of fun s => by simp [State.mktStatus]
@[simp] theorem State.takeStall_keepsCanon (ch : Nat) : KeepsCanon fun s0 => (s0.takeStall ch).1 := .of fun s0 => by
  simp only [State.takeStall]
  repeat' split
  all_goals simp
@[simp] theorem State.freeStall_keepsCanon (ch n : Nat) : KeepsCanon (·.freeStall ch n) := .of fun s => by simp [State.freeStall]
@[simp] theorem State.fillStall_keepsCanon (n : Nat) (bs : List Byte) : KeepsCanon (·.fillStall n bs) := .of fun s => by simp [State.fillStall]
@[simp] theorem State.readStall_keepsCanon (n len : Nat) : KeepsCanon fun s => (s.readStall n len).1 := .of fun s => by
  unfold State.readStall
  split
  · next t bs h => exact .of_pair (by simp) h
  · next t h => exact .of_pair (by simp) h
@[simp] theorem State.readHandles_keepsCanon (hs : List (Bool × Nat × Nat)) : KeepsCanon fun s => (s.readHandles hs).1 := .of fun s => by
  induction hs generalizing s with
  | nil => rfl
  | cons h t ih =>
    unfold State.readHandles
    split
    · next u hu => exact (State.readStall_keepsCanon _ _).of_pair hu
    · next u bs hu =>
      have ht := (State.readStall_keepsCanon _ _).of_pair hu
      split
      · next v cs hv => exact ht.trans (.of_pair (ih _) hv)
      · next v hv => exact ht.trans (.of_pair (ih _) hv)
@[simp] theorem State.pushHandle_keepsCanon (ch : Nat) (more : Bool) (len n : Nat) : KeepsCanon (·.pushHandle ch more len n) :=
  .of fun s => by simp [State.pushHandle]
@[simp] theorem State.takeStalls_keepsCanon (ch k : Nat) (got : List Nat) : KeepsCanon fun s => (s.takeStalls ch k got).1 := .of fun s => by
  induction k generalizing s got with
  | zero => rfl
  | succ k ih =>
    unfold State.takeStalls
    split
    · next t n h => exact ((State.takeStall_keepsCanon ch).of_pair h).trans (ih _ t)
    · next t h => simp [(State.takeStall_keepsCanon _).of_pair h]
@[simp] theorem State.storeFrame_keepsCanon (ch : Nat) (bs : List Byte) : KeepsCanon fun s => (s.storeFrame ch bs).1 := .of fun s => by
  unfold State.storeFrame
  simp only []
  split
  · next t h => exact (State.takeStalls_keepsCanon _ _ _).of_pair h
  · next t ns h => simp [(State.takeStalls_keepsCanon _ _ _).of_pair h]
@[simp] theorem State.setRing_keepsCanon (m kind i : Nat) (r : Ring) : KeepsCanon (·.setRing m kind i r) := .of fun s => by simp [State.setRing]
@[simp] theorem State.setStream_keepsCanon (m k : Nat) (t : Stream) : KeepsCanon (·.setStream m k t) := .of fun s => by simp [State.setStream]
@[simp] theorem State.tlmDrop_keepsCanon (m k : Nat) : KeepsCanon (·.tlmDrop m k) := .of fun s => by simp [State.tlmDrop]
@[simp] theorem State.judgeRequest_keepsCanon (ch : Nat) : KeepsCanon (·.judgeRequest ch) := .of fun s => by
  unfold State.judgeRequest
  split
  · next t n h => exact (State.takeStall_keepsCanon _).of_pair h
  · next t h => simp [(State.takeStall_keepsCanon _).of_pair h]
@[simp] theorem State.judgeRequests_keepsCanon (n : Nat) (chs : List Nat) : KeepsCanon (·.judgeRequests n chs) := .of fun s => by
  induction n generalizing s chs with
  | zero => rfl
  | succ n ih =>
    unfold State.judgeRequests
    split
    · rfl
    · exact CanonFrom.trans (by simp) (ih _ _)
@[simp] theorem execMarketRequest_canon (chs : List Nat) (s : State) : AnswersCanon s (execMarketRequest chs s) := by simp [execMarketRequest]
@[simp] theorem execMarketRelease_canon (w : Option Writer) (ch stall : Nat) (s0 : State) : AnswersCanon s0 (execMarketRelease w ch stall s0) := by
  unfold execMarketRelease
  split <;> simp
@[simp] theorem execMarketQuotaWrite_canon (w : Writer) (ch : Nat) (v : Word) (s0 : State) : AnswersCanon s0 (execMarketQuotaWrite w ch v s0) := by
  simp [execMarketQuotaWrite]

/-! ### Sys2Proof/Machine/Rings.lean -/

@[simp] theorem State.ringError_keepsCanon (m kind i e : Nat) (slot : Option Nat) : KeepsCanon (·.ringError m kind i e slot) :=
  .of fun s => by simp [State.ringError]
@[simp] theorem State.sendMsix_keepsCanon (k : Nat) : KeepsCanon (·.sendMsix k) := .of fun s => by simp [State.sendMsix]
@[simp] theorem State.signal_keepsCanon (m kind i : Nat) : KeepsCanon (·.signal m kind i) := .of fun s => by simp [State.signal]
@[simp] theorem State.msixWrite_keepsCanon (p i : Nat) (v : Word) : KeepsCanon (·.msixWrite p i v) := .of fun s => by simp [State.msixWrite]
@[simp] theorem State.wrote_keepsCanon (m kind i : Nat) (now : Bool) : KeepsCanon (·.wrote m kind i now) := .of fun s => by simp [State.wrote]
@[simp] theorem State.writeEntry_keepsCanon (m kind i w : Nat) (now : Bool) (f : Bool → List Byte) : KeepsCanon (·.writeEntry m kind i w now f) :=
  .of fun s => by simp [State.writeEntry]
@[simp] theorem State.dropOp_keepsCanon (m tag : Nat) : KeepsCanon (·.dropOp m tag) := .of fun s => by simp [State.dropOp]
@[simp] theorem State.crFull_keepsCanon (m k : Nat) : KeepsCanon (·.crFull m k) := .of fun s => by simp [State.crFull]
@[simp] theorem State.issue_keepsCanon (r : Result) : KeepsCanon (·.issue r) := .of fun s => by
  unfold State.issue
  split <;> simp
@[simp] theorem State.drainHeld_keepsCanon (m k : Nat) : KeepsCanon (·.drainHeld m k) := .of fun s => by simp [State.drainHeld]
@[simp] theorem execRingSelect_canon (w : Writer) (m : Nat) (v : Word) (s0 : State) : AnswersCanon s0 (execRingSelect w m v s0) := by
  simp [execRingSelect]
@[simp] theorem execRingConfigWrite_canon (w : Writer) (m : Nat) (v : Word) (s : State) : AnswersCanon s (execRingConfigWrite w m v s) := by
  refine State.windowWrite_canon _ _ _ _ ?_
  split
  · simp
  · split <;> simp -implicitDefEqProofs
@[simp] theorem execRingReset_canon (w : Writer) (m : Nat) (v : Word) (s : State) : AnswersCanon s (execRingReset w m v s) := by
  refine State.windowWrite_canon _ _ _ _ ?_
  split
  · simp
  · split <;> simp
@[simp] theorem State.ringDoorbell_keepsCanon (m kind k : Nat) (v : Word) : KeepsCanon (·.ringDoorbell m kind k v) :=
  .of fun s => by simp [State.ringDoorbell]
@[simp] theorem execDoorbellCmd_canon (w : Writer) (m k : Nat) (v : Word) (s0 : State) : AnswersCanon s0 (execDoorbellCmd w m k v s0) := by
  simp [execDoorbellCmd]
@[simp] theorem execDoorbellCpl_canon (w : Writer) (m k : Nat) (v : Word) (s0 : State) : AnswersCanon s0 (execDoorbellCpl w m k v s0) := by
  simp [execDoorbellCpl]
@[simp] theorem State.overflowEntry_keepsCanon (m k : Nat) : KeepsCanon (·.overflowEntry m k) := .of fun s => by simp [State.overflowEntry]
@[simp] theorem execDoorbellEvt_canon (w : Writer) (m k : Nat) (v : Word) (s0 : State) : AnswersCanon s0 (execDoorbellEvt w m k v s0) := by
  simp [execDoorbellEvt]
@[simp] theorem execDoorbellTlm_canon (w : Writer) (m k : Nat) (v : Word) (s0 : State) : AnswersCanon s0 (execDoorbellTlm w m k v s0) := by
  simp [execDoorbellTlm]
@[simp] theorem execDescriptorFetch_canon (s : State) : AnswersCanon s (execDescriptorFetch s) := by
  unfold execDescriptorFetch
  split <;> simp
@[simp] theorem State.unstage_keepsCanon (m : Nat) (ns : List Nat) : KeepsCanon (·.unstage m ns) := .of fun s => by simp [State.unstage]
@[simp] theorem State.check5_keepsCanon (m : Nat) (d : Desc) (p : Option (List Byte)) : KeepsCanon fun s => (s.check5 m d p).1 := .of fun s => by
  unfold State.check5
  simp only []
  split
  · rfl
  · split
    · next t h => exact (State.takeStalls_keepsCanon _ _ _).of_pair h
    · next t ns h => split <;> simp [(State.takeStalls_keepsCanon _ _ _).of_pair h]
@[simp] theorem State.holdStalls_keepsCanon (m tag : Nat) (ns : List Nat) : KeepsCanon (·.holdStalls m tag ns) :=
  .of fun s => by simp [State.holdStalls]
@[simp] theorem State.takeDesc_keepsCanon (m k : Nat) (b : List Byte) (p : Option (List Byte)) : KeepsCanon (·.takeDesc m k b p) := .of fun s => by
  unfold State.takeDesc
  dsimp only
  split
  · rfl
  split
  · simp
  iterate 3
    split
    · simp
  split
  · next t st ht =>
    have h : CanonFrom s t := .of_pair (by simp) ht
    simp [h]
  · next t ns ht =>
    have h : CanonFrom s t := .of_pair (by simp) ht
    simp [h]
@[simp] theorem State.takeDescs_keepsCanon (m k w n : Nat) (bs : List Byte) (ps : List (Option (List Byte))) :
    KeepsCanon (·.takeDescs m k w n bs ps) :=
  .of fun s => by
    induction n generalizing s bs ps with
    | zero => rfl
    | succ n ih => exact CanonFrom.trans (by simp) (ih _ _ _)
@[simp] theorem execDescriptorReadDone_canon (data : Option (List Byte)) (payloads : List (Option (List Byte))) (s : State) :
    AnswersCanon s (execDescriptorReadDone data payloads s) := by
  unfold execDescriptorReadDone
  repeat' split
  all_goals simp
@[simp] theorem State.toRing_keepsCanon (e : Event) (m k : Nat) : KeepsCanon (·.toRing e m k) := .of fun s => by simp [State.toRing]
@[simp] theorem State.deliver_keepsCanon (e : Event) : KeepsCanon (·.deliver e) := .of fun s => by simp [State.deliver]
@[simp] theorem execEventDelivery_canon (s : State) : AnswersCanon s (execEventDelivery s) := by
  unfold execEventDelivery
  split <;> simp
@[simp] theorem State.deliverAll_keepsCanon : KeepsCanon (·.deliverAll) := .of fun s => by simp [State.deliverAll]
@[simp] theorem State.progressFirst_keepsCanon (r : Result) : KeepsCanon (·.progressFirst r) := .of fun s => by
  unfold State.progressFirst
  split <;> simp
@[simp] theorem State.useStage_keepsCanon (m tag : Nat) : KeepsCanon (·.useStage m tag) := .of fun s => by
  unfold State.useStage
  split <;> simp
@[simp] theorem execResultIntake_canon (s : State) : AnswersCanon s (execResultIntake s) := by
  unfold execResultIntake
  split <;> simp
@[simp] theorem execCompletionIssue_canon (s : State) : AnswersCanon s (execCompletionIssue s) := by
  unfold execCompletionIssue
  repeat' split
  all_goals simp
@[simp] theorem execCrFullRepeat_canon (m k : Nat) (s : State) : AnswersCanon s (execCrFullRepeat m k s) := by simp [execCrFullRepeat]
@[simp] theorem State.cancelWaits_keepsCanon (m tag : Nat) : KeepsCanon (·.cancelWaits m tag) := .of fun s => by simp [State.cancelWaits]
@[simp] theorem execClassRTimeout_canon (m tag : Nat) (s : State) : AnswersCanon s (execClassRTimeout m tag s) := by
  unfold execClassRTimeout
  split <;> simp
@[simp] theorem execCmdProgress_canon (m tag perMille bytes : Nat) (s : State) : AnswersCanon s (execCmdProgress m tag perMille bytes s) := by
  unfold execCmdProgress
  split <;> simp
@[simp] theorem execIrqTimeExpiry_canon (m kind k : Nat) (s : State) : AnswersCanon s (execIrqTimeExpiry m kind k s) := by simp [execIrqTimeExpiry]
@[simp] theorem execTlmSelect_canon (c : Cmd) (s0 : State) : AnswersCanon s0 (execTlmSelect c s0) := by simp [execTlmSelect]
@[simp] theorem State.tlmClose_keepsCanon (m k : Nat) : KeepsCanon (·.tlmClose m k) := .of fun s => by
  simp only [State.tlmClose]
  split <;> simp
@[simp] theorem State.tlmPut_keepsCanon (m k n : Nat) (bs : List Byte) : KeepsCanon (·.tlmPut m k n bs) := .of fun s => by simp [State.tlmPut]
@[simp] theorem State.tlmRecord_keepsCanon (m k : Nat) (ws : List Word) : KeepsCanon (·.tlmRecord m k ws) := .of fun s => by
  unfold State.tlmRecord
  dsimp only
  split
  · simp
  · split
    · next u n hu =>
      have h : CanonFrom s u := .of_pair (by simp) hu
      simp [h]
    · next u hu =>
      have h : CanonFrom s u := .of_pair (by simp) hu
      simp [h]
@[simp] theorem State.tlmSample_keepsCanon (n : Nat) : KeepsCanon (·.tlmSample n) := .of fun s => by simp [State.tlmSample]
@[simp] theorem execTlmBufferCopy_canon (m k : Nat) (s : State) : AnswersCanon s (execTlmBufferCopy m k s) := by
  unfold execTlmBufferCopy
  dsimp only
  split
  · split
    · simp
    · split
      · next u bs hu =>
        have h : CanonFrom s u := .of_pair (by simp) hu
        simp [h]
      · next u hu =>
        have h : CanonFrom s u := .of_pair (by simp) hu
        simp [h]
  · simp
@[simp] theorem execTlmFlushExpiry_canon (m k : Nat) (s : State) : AnswersCanon s (execTlmFlushExpiry m k s) := by simp [execTlmFlushExpiry]

/-! ### Sys2Proof/Machine/Setpoints.lean -/

@[simp] theorem State.queueSetpoint_keepsCanon (c : Cmd) (n opcode u : Nat) (bad : Bool) (words : List (Nat × Word)) :
    KeepsCanon (·.queueSetpoint c n opcode u bad words) := .of fun s => by simp [State.queueSetpoint]
@[simp] theorem State.storeWord_keepsCanon (n p : Nat) (v : Word) : KeepsCanon (·.storeWord n p v) := .of fun s => by simp [State.storeWord]
@[simp] theorem State.writeGroup_keepsCanon (n p : Nat) (ws : List Word) : KeepsCanon (·.writeGroup n p ws) := .of fun s => by
  induction ws generalizing s p with
  | nil => rfl
  | cons v t ih => exact CanonFrom.trans (by simp) (ih _ _)

/-! ### Sys2Proof/Machine/Acquisition.lean -/

@[simp] theorem State.setGrp_keepsCanon (g : Nat) (x : Option GroupStall) : KeepsCanon (·.setGrp g x) := .of fun s => by simp [State.setGrp]
@[simp] theorem State.grpDeliver_keepsCanon (g : Nat) : KeepsCanon (·.grpDeliver g) := .of fun s => by
  unfold State.grpDeliver
  split <;> simp
@[simp] theorem State.grpDrop_keepsCanon (g : Nat) : KeepsCanon (·.grpDrop g) := .of fun s => by simp -implicitDefEqProofs [State.grpDrop]
@[simp] theorem State.grpRecord_keepsCanon (k g ch code flags t : Nat) : KeepsCanon (·.grpRecord k g ch code flags t) := .of fun s => by
  unfold State.grpRecord
  extract_lets r late s0 s1
  have h0 : CanonFrom s s0 := by simp [s0]
  have h1 : CanonFrom s s1 := by
    unfold s1
    split
    · simp [h0]
    · split
      · next u n hu => simp [h0.trans ((State.takeStall_keepsCanon _).of_pair hu)]
      · next u hu => simp [h0.trans ((State.takeStall_keepsCanon _).of_pair hu)]
  split <;> simp [h1]
@[simp] theorem State.setShadow_keepsCanon (a : Nat) (v : Word) : KeepsCanon (·.setShadow a v) := .of fun s => by simp [State.setShadow]
@[simp] theorem State.swapTable_keepsCanon (k : Nat) : KeepsCanon (·.swapTable k) := .of fun s => by simp [State.swapTable]
@[simp] theorem State.armSwap_keepsCanon (k : Nat) : KeepsCanon (·.armSwap k) := .of fun s => by simp [State.armSwap]
@[simp] theorem State.tableWord_keepsCanon (stores : Bool) (a : Nat) (v : Word) : KeepsCanon (·.tableWord stores a v) :=
  .of fun s => by simp [State.tableWord]
@[simp] theorem State.entryWrite_keepsCanon (stores : Bool) (k e : Nat) (delay : Bool) (v : Word) : KeepsCanon (·.entryWrite stores k e delay v) :=
  .of fun s => by simp [State.entryWrite]
@[simp] theorem State.storedTable_keepsCanon (k : Nat) : KeepsCanon (·.storedTable k) := .of fun s => by simp [State.storedTable]
@[simp] theorem State.discTable_keepsCanon : KeepsCanon (·.discTable) := .of fun s => by simp [State.discTable]
@[simp] theorem State.commTable_keepsCanon : KeepsCanon (·.commTable) := .of fun s => by simp [State.commTable]
@[simp] theorem State.defaultTable_keepsCanon : KeepsCanon (·.defaultTable) := .of fun s => by simp [State.defaultTable]
@[simp] theorem State.seqRun_keepsCanon (k : Nat) (on : Bool) : KeepsCanon (·.seqRun k on) := .of fun s => by simp -implicitDefEqProofs [State.seqRun]
@[simp] theorem State.seqAdvance_keepsCanon (k : Nat) : KeepsCanon (·.seqAdvance k) := .of fun s => by simp [State.seqAdvance]
@[simp] theorem execSeqConversion_canon (k raw sub : Nat) (s : State) : AnswersCanon s (execSeqConversion k raw sub s) := by
  simp [execSeqConversion]
@[simp] theorem execSeqEntryWrite_canon (w : Writer) (k e : Nat) (delay : Bool) (v : Word) (s0 : State) :
    AnswersCanon s0 (execSeqEntryWrite w k e delay v s0) := by simp [execSeqEntryWrite]
@[simp] theorem execSeqSwap_canon (w : Writer) (k : Nat) (s0 : State) : AnswersCanon s0 (execSeqSwap w k s0) := by simp [execSeqSwap]
@[simp] theorem execRefReady_canon (ok : Bool) (s : State) : AnswersCanon s (execRefReady ok s) := by simp [execRefReady]
@[simp] theorem execRefFault_canon (s : State) : AnswersCanon s (execRefFault s) := by simp [execRefFault]
@[simp] theorem State.refOn_keepsCanon : KeepsCanon (·.refOn) := .of fun s => by simp -implicitDefEqProofs [State.refOn]
@[simp] theorem State.refWrite_keepsCanon (v : Word) : KeepsCanon (·.refWrite v) := .of fun s => by simp [State.refWrite]
@[simp] theorem execRefBufferWrite_canon (w : Writer) (v : Word) (s0 : State) : AnswersCanon s0 (execRefBufferWrite w v s0) := by
  simp [execRefBufferWrite]
@[simp] theorem execAcqSeqWrite_canon (c : Cmd) (s0 : State) : AnswersCanon s0 (execAcqSeqWrite c s0) := by simp [execAcqSeqWrite]
@[simp] theorem execAcqSeqRun_canon (c : Cmd) (s0 : State) : AnswersCanon s0 (execAcqSeqRun c s0) := by simp [execAcqSeqRun]
@[simp] theorem State.readGood_keepsCanon (hs : List (Bool × Nat × Nat)) : KeepsCanon fun s => (s.readGood hs).1 := .of fun s => by
  induction hs generalizing s with
  | nil => rfl
  | cons h t ih =>
    unfold State.readGood
    split
    · next u bs hu => exact ((State.readStall_keepsCanon _ _).of_pair hu).trans (ih u)
    · next u hu => exact ((State.readStall_keepsCanon _ _).of_pair hu).trans (ih u)
@[simp] theorem execAcqGrpFetch_canon (c : Cmd) (s0 : State) : AnswersCanon s0 (execAcqGrpFetch c s0) := by simp [execAcqGrpFetch]
@[simp] theorem State.insertFor_keepsCanon (c : Cmd) (kind : Nat) (y : Word) : KeepsCanon (·.insertFor c kind y) :=
  .of fun s => by simp [State.insertFor]
@[simp] theorem execAcqCalZero_canon (c : Cmd) (s0 : State) : AnswersCanon s0 (execAcqCalZero c s0) := by simp [execAcqCalZero]
@[simp] theorem execAcqCalSpan_canon (c : Cmd) (s0 : State) : AnswersCanon s0 (execAcqCalSpan c s0) := by simp [execAcqCalSpan]
@[simp] theorem execAcqCalStore_canon (c : Cmd) (s0 : State) : AnswersCanon s0 (execAcqCalStore c s0) := by simp [execAcqCalStore]
@[simp] theorem execAcqDiag_canon (c : Cmd) (s0 : State) : AnswersCanon s0 (execAcqDiag c s0) := by simp [execAcqDiag]
@[simp] theorem State.acqResult_keepsCanon (i : Insert) (st : Status) (v : Nat) : KeepsCanon (·.acqResult i st v) :=
  .of fun s => by simp [State.acqResult]
@[simp] theorem State.zeroDone_keepsCanon (i : Insert) (sum : Int) (good : Bool) : KeepsCanon (·.zeroDone i sum good) :=
  .of fun s => by simp [State.zeroDone]
@[simp] theorem State.spanDone_keepsCanon (i : Insert) (sum : Int) (good : Bool) : KeepsCanon (·.spanDone i sum good) := .of fun s => by
  unfold State.spanDone
  split <;> simp
@[simp] theorem State.diagDone_keepsCanon (i : Insert) (sum1 sum2 : Int) : KeepsCanon (·.diagDone i sum1 sum2) :=
  .of fun s => by simp [State.diagDone]
@[simp] theorem execAcqInsertionDone_canon (chan : Nat) (sum1 sum2 : Int) (good : Bool) (s : State) :
    AnswersCanon s (execAcqInsertionDone chan sum1 sum2 good s) := by
  unfold execAcqInsertionDone
  repeat' split
  all_goals simp

/-! ### Sys2Proof/Machine/Position.lean -/

@[simp] theorem State.setEmu_keepsCanon (k : Nat) (e : Emu) : KeepsCanon (·.setEmu k e) := .of fun s => by simp [State.setEmu]
@[simp] theorem State.emuMove_keepsCanon (k : Nat) (target : Int) (budget : Nat) : KeepsCanon (·.emuMove k target budget) :=
  .of fun s => by simp [State.emuMove]
@[simp] theorem State.emuFollow_keepsCanon (src : Nat) (num : Int) (den cycles : Nat) : KeepsCanon (·.emuFollow src num den cycles) :=
  .of fun s => by simp [State.emuFollow]
@[simp] theorem State.setEnc_keepsCanon (k : Nat) (e : Enc) : KeepsCanon (·.setEnc k e) := .of fun s => by simp [State.setEnc]
@[simp] theorem State.encShow_keepsCanon (k : Nat) : KeepsCanon (·.encShow k) := .of fun s => by simp [State.encShow]
@[simp] theorem State.encQerr_keepsCanon (k : Nat) : KeepsCanon (·.encQerr k) := .of fun s => by simp [State.encQerr]
@[simp] theorem State.encIllegal_keepsCanon (k : Nat) (a b : Bool) : KeepsCanon (·.encIllegal k a b) := .of fun s => by simp [State.encIllegal]
@[simp] theorem State.encMove_keepsCanon (k : Nat) (a b rev : Bool) (dt : Nat) : KeepsCanon (·.encMove k a b rev dt) :=
  .of fun s => by simp [State.encMove]
@[simp] theorem execEncoderEdge_canon (k : Nat) (a b : Bool) (dt : Nat) (s : State) : AnswersCanon s (execEncoderEdge k a b dt s) := by
  simp [execEncoderEdge]
@[simp] theorem execEncoderIndex_canon (k : Nat) (s : State) : AnswersCanon s (execEncoderIndex k s) := by simp [execEncoderIndex]
@[simp] theorem State.encStill_keepsCanon (k : Nat) : KeepsCanon (·.encStill k) := .of fun s => by simp [State.encStill]
@[simp] theorem execEncoderStandstill_canon (k : Nat) (s : State) : AnswersCanon s (execEncoderStandstill k s) := by simp [execEncoderStandstill]
@[simp] theorem State.encCap_keepsCanon (k : Nat) : KeepsCanon (·.encCap k) := .of fun s0 => by simp [State.encCap]
@[simp] theorem State.encWrite_keepsCanon (k : Nat) (v : Word) : KeepsCanon (·.encWrite k v) := .of fun s => by simp [State.encWrite]
@[simp] theorem execEncoderEnable_canon (w : Writer) (k : Nat) (v : Word) (s0 : State) : AnswersCanon s0 (execEncoderEnable w k v s0) := by
  simp -implicitDefEqProofs [execEncoderEnable]
@[simp] theorem execHallCodeChange_canon (k code : Nat) (s : State) : AnswersCanon s (execHallCodeChange k code s) := by simp [execHallCodeChange]
@[simp] theorem State.staleSource_keepsCanon (src : Nat) : KeepsCanon (·.staleSource src) := .of fun s => by simp [State.staleSource]
@[simp] theorem execSentFrame_canon (k sync : Nat) (nibbles : List Nat) (crcOk : Bool) (slow : Option Nat) (s : State) :
    AnswersCanon s (execSentFrame k sync nibbles crcOk slow s) := by
  unfold execSentFrame
  repeat' split
  all_goals simp -implicitDefEqProofs
@[simp] theorem execSentLost_canon (k : Nat) (s : State) : AnswersCanon s (execSentLost k s) := by simp [execSentLost]
@[simp] theorem State.resWrite_keepsCanon (k : Nat) (v : Word) : KeepsCanon (·.resWrite k v) := .of fun s => by simp [State.resWrite]
@[simp] theorem execResolverEnable_canon (w : Writer) (k : Nat) (v : Word) (s0 : State) : AnswersCanon s0 (execResolverEnable w k v s0) := by
  simp -implicitDefEqProofs [execResolverEnable]
@[simp] theorem execResSignal_canon (k : Nat) (s : State) : AnswersCanon s (execResSignal k s) := by simp [execResSignal]
@[simp] theorem State.resConversion_keepsCanon (c : Nat) : KeepsCanon (·.resConversion c) := .of fun s => by simp [State.resConversion]

/-! ### Sys2Proof/Machine/Sync.lean -/

@[simp] theorem State.carrier_keepsCanon (p : Nat) : KeepsCanon (·.carrier p) := .of fun s => by simp [State.carrier]
@[simp] theorem State.syncState_keepsCanon (v : Nat) : KeepsCanon (·.syncState v) := .of fun s => by simp [State.syncState]
@[simp] theorem State.carrierStart_keepsCanon : KeepsCanon (·.carrierStart) := .of fun s => by simp [State.carrierStart]
@[simp] theorem State.glide_keepsCanon : KeepsCanon (·.glide) := .of fun s => by simp [State.glide]
@[simp] theorem State.syncLoss_keepsCanon : KeepsCanon (·.syncLoss) := .of fun s => by simp [State.syncLoss]
@[simp] theorem State.syncStep_keepsCanon : KeepsCanon (·.syncStep) := .of fun s0 => by simp [State.syncStep]
@[simp] theorem State.syncWrite_keepsCanon (follow : Bool) (freq : Nat) : KeepsCanon (·.syncWrite follow freq) :=
  .of fun s => by simp [State.syncWrite]

/-! ### Sys2Proof/Machine/Edge.lean -/

@[simp] theorem execBanisterRemove_canon (pair unit line : Nat) (s : State) : AnswersCanon s (execBanisterRemove pair unit line s) := by
  simp [execBanisterRemove]
@[simp] theorem execBanisterGrant_canon (pair unit : Nat) (s : State) : AnswersCanon s (execBanisterGrant pair unit s) := by
  simp [execBanisterGrant]
@[simp] theorem execAscInterlockExpiry_canon (ch : Nat) (s : State) : AnswersCanon s (execAscInterlockExpiry ch s) := by
  simp [execAscInterlockExpiry]
@[simp] theorem State.tbEnable_keepsCanon (n : Nat) : KeepsCanon (·.tbEnable n) := .of fun s => by simp [State.tbEnable]
@[simp] theorem State.tbWrite_keepsCanon (n : Nat) (v : Word) : KeepsCanon (·.tbWrite n v) := .of fun s => by simp [State.tbWrite]
@[simp] theorem execTimebaseStart_canon (w : Writer) (n : Nat) (v : Word) (s0 : State) : AnswersCanon s0 (execTimebaseStart w n v s0) := by
  simp [execTimebaseStart]
@[simp] theorem State.toggle_keepsCanon (ch : Nat) : KeepsCanon (·.toggle ch) := .of fun s => by simp [State.toggle]
@[simp] theorem State.schedRun_keepsCanon (m ch : Nat) (p : CarrierPt) : KeepsCanon (·.schedRun m ch p) := .of fun s => by
  unfold State.schedRun
  split <;> simp
@[simp] theorem State.schedPoint_keepsCanon (m ch : Nat) (p : CarrierPt) : KeepsCanon (·.schedPoint m ch p) := .of fun s => by
  simp only [State.schedPoint]
  split <;> simp
@[simp] theorem State.quietChan_keepsCanon (m ch : Nat) (p : CarrierPt) (both : Bool) : KeepsCanon (·.quietChan m ch p both) :=
  .of fun s => by simp [State.quietChan]
@[simp] theorem State.settleCmds_keepsCanon (ch : Nat) : KeepsCanon (·.settleCmds ch) := .of fun s => by simp [State.settleCmds]
@[simp] theorem State.newRef_keepsCanon (k ch : Nat) (r : F32) (asStep : Bool) : KeepsCanon (·.newRef k ch r asStep) :=
  .of fun s => by simp [State.newRef]
@[simp] theorem State.applyChan_keepsCanon (k ch : Nat) (band switched : Bool) : KeepsCanon (·.applyChan k ch band switched) := .of fun s => by
  simp only [State.applyChan]
  repeat' split
  all_goals simp
@[simp] theorem State.applyUnit_keepsCanon (k u : Nat) : KeepsCanon (·.applyUnit k u) := .of fun s => by simp [State.applyUnit]
@[simp] theorem State.updateEngine_keepsCanon (m k : Nat) (p : CarrierPt) (settled : Bool) : KeepsCanon (·.updateEngine m k p settled) :=
  .of fun s => by simp [State.updateEngine]
@[simp] theorem execUpdatePoint_canon (n : Nat) (at_ : CarrierAt) (settled : Bool) (s : State) :
    AnswersCanon s (execUpdatePoint n at_ settled s) := by
  simp only [execUpdatePoint]
  repeat' split
  all_goals simp
@[simp] theorem State.legChange_keepsCanon (u h t : Nat) (hi : Bool) : KeepsCanon (·.legChange u h t hi) := .of fun s => by simp [State.legChange]
@[simp] theorem State.judgeLeg_keepsCanon (u h t : Nat) (scale i : F32) : KeepsCanon (·.judgeLeg u h t scale i) := .of fun s => by
  simp only [State.judgeLeg]
  repeat' split
  all_goals simp
@[simp] theorem State.cleanPair_keepsCanon (u t : Nat) (a b : Int) : KeepsCanon (·.cleanPair u t a b) := .of fun s => by simp [State.cleanPair]
@[simp] theorem State.compare_keepsCanon (k ch m u t : Nat) (count : Int) (edge invalid : Bool) :
    KeepsCanon (·.compare k ch m u t count edge invalid) :=
  .of fun s => by
    unfold State.compare
    extract_lets +onlyGivenNames blank sensor scale cur mate other otherBlank n s0 s1
    have h1 : CanonFrom s s1 := by
      unfold s1 s0
      split <;> simp
    clear_value s1 otherBlank other mate
    split
    · extract_lets third mine his hisScale sa s2
      clear_value mine his
      have h2 : CanonFrom s s2 := by
        unfold s2
        split <;> simp [h1]
      clear_value s2
      simp [h2]
    · exact h1
@[simp] theorem State.tickSample_keepsCanon (k ch m t inst : Nat) (count : Int) (flags : Nat) : KeepsCanon (·.tickSample k ch m t inst count flags) :=
  .of fun s => by
    simp only [State.tickSample]
    split <;> simp -implicitDefEqProofs
@[simp] theorem execFastConversion_canon (k t raw : Nat) (inst : Instant) (s : State) : AnswersCanon s (execFastConversion k t raw inst s) := by
  simp only [execFastConversion]
  repeat' split
  all_goals simp
@[simp] theorem execBandDwellEnd_canon (ch : Nat) (s : State) : AnswersCanon s (execBandDwellEnd ch s) := by
  simp only [execBandDwellEnd]
  split <;> simp
@[simp] theorem State.gateFault_keepsCanon (code n : Nat) : KeepsCanon (·.gateFault code n) := .of fun s => by
  unfold State.gateFault
  split <;> simp -implicitDefEqProofs
@[simp] theorem State.setLink_keepsCanon (n : Nat) (l : Link) : KeepsCanon (·.setLink n l) := .of fun s => by simp [State.setLink]
@[simp] theorem State.sendFrames_keepsCanon (n : Nat) (l : List Word) : KeepsCanon (·.sendFrames n l) := .of fun s => by simp [State.sendFrames]
@[simp] theorem State.linkFrame_keepsCanon (n : Nat) (w : Word) : KeepsCanon (·.linkFrame n w) := .of fun s => by simp [State.linkFrame]
@[simp] theorem State.derate_keepsCanon : KeepsCanon (·.derate) := .of fun s => by
  unfold State.derate
  split <;> simp
@[simp] theorem State.edgeCompare_keepsCanon (n edges : Nat) : KeepsCanon (·.edgeCompare n edges) := .of fun s => by simp [State.edgeCompare]
@[simp] theorem State.statusRead_keepsCanon (n status : Nat) : KeepsCanon (·.statusRead n status) := .of fun s => by simp [State.statusRead]
@[simp] theorem execGateLinkPoll_canon (n : Nat) (status count poll : List Word) (s : State) :
    AnswersCanon s (execGateLinkPoll n status count poll s) := by
  simp only [execGateLinkPoll]
  repeat' split
  all_goals simp
@[simp] theorem execDriverFault_canon (n : Nat) (s : State) : AnswersCanon s (execDriverFault n s) := by simp [execDriverFault]

/-! ### Sys2Proof/Machine/FeIsa.lean -/

@[simp] theorem execNop_canon (n d a b x : Nat) (s : State) : AnswersCanon s (execNop n d a b x s) := by simp [execNop]
@[simp] theorem execMov_canon (n d a b x : Nat) (s : State) : AnswersCanon s (execMov n d a b x s) := by simp [execMov]
@[simp] theorem execFadd_canon (n d a b x : Nat) (s : State) : AnswersCanon s (execFadd n d a b x s) := by simp [execFadd]
@[simp] theorem execFsub_canon (n d a b x : Nat) (s : State) : AnswersCanon s (execFsub n d a b x s) := by simp [execFsub]
@[simp] theorem execFmul_canon (n d a b x : Nat) (s : State) : AnswersCanon s (execFmul n d a b x s) := by simp [execFmul]
@[simp] theorem execFmac_canon (n d a b x : Nat) (s : State) : AnswersCanon s (execFmac n d a b x s) := by simp [execFmac]
@[simp] theorem execFmin_canon (n d a b x : Nat) (s : State) : AnswersCanon s (execFmin n d a b x s) := by simp [execFmin]
@[simp] theorem execFmax_canon (n d a b x : Nat) (s : State) : AnswersCanon s (execFmax n d a b x s) := by simp [execFmax]
@[simp] theorem execFabs_canon (n d a b x : Nat) (s : State) : AnswersCanon s (execFabs n d a b x s) := by simp [execFabs]
@[simp] theorem execFneg_canon (n d a b x : Nat) (s : State) : AnswersCanon s (execFneg n d a b x s) := by simp [execFneg]
@[simp] theorem execSqrt_canon (n d a b x : Nat) (s : State) : AnswersCanon s (execSqrt n d a b x s) := by simp [execSqrt]
@[simp] theorem execDiv_canon (n d a b x : Nat) (s : State) : AnswersCanon s (execDiv n d a b x s) := by simp [execDiv]
@[simp] theorem execFcmp_canon (n d a b x : Nat) (s : State) : AnswersCanon s (execFcmp n d a b x s) := by simp [execFcmp]
@[simp] theorem execFtoi_canon (n d a b x : Nat) (s : State) : AnswersCanon s (execFtoi n d a b x s) := by simp [execFtoi]
@[simp] theorem execItof_canon (n d a b x : Nat) (s : State) : AnswersCanon s (execItof n d a b x s) := by simp [execItof]
@[simp] theorem execSincos_canon (n d a b x : Nat) (s : State) : AnswersCanon s (execSincos n d a b x s) := by simp [execSincos]
@[simp] theorem execIadd_canon (n d a b x : Nat) (s : State) : AnswersCanon s (execIadd n d a b x s) := by simp [execIadd]
@[simp] theorem execIsub_canon (n d a b x : Nat) (s : State) : AnswersCanon s (execIsub n d a b x s) := by simp [execIsub]
@[simp] theorem execIand_canon (n d a b x : Nat) (s : State) : AnswersCanon s (execIand n d a b x s) := by simp [execIand]
@[simp] theorem execIor_canon (n d a b x : Nat) (s : State) : AnswersCanon s (execIor n d a b x s) := by simp [execIor]
@[simp] theorem execIxor_canon (n d a b x : Nat) (s : State) : AnswersCanon s (execIxor n d a b x s) := by simp [execIxor]
@[simp] theorem execIshl_canon (n d a b x : Nat) (s : State) : AnswersCanon s (execIshl n d a b x s) := by simp [execIshl]
@[simp] theorem execIshr_canon (n d a b x : Nat) (s : State) : AnswersCanon s (execIshr n d a b x s) := by simp [execIshr]
@[simp] theorem execIli_canon (n d imm : Nat) (s : State) : AnswersCanon s (execIli n d imm s) := by simp [execIli]
@[simp] theorem execLdp_canon (n d a b x : Nat) (s : State) : AnswersCanon s (execLdp n d a b x s) := by simp [execLdp]
@[simp] theorem execStp_canon (n d a b x : Nat) (s : State) : AnswersCanon s (execStp n d a b x s) := by simp [execStp]
@[simp] theorem execLdg_canon (n d a b x : Nat) (s : State) : AnswersCanon s (execLdg n d a b x s) := by simp [execLdg]
@[simp] theorem execClarke_canon (n d a b x : Nat) (s : State) : AnswersCanon s (execClarke n d a b x s) := by simp [execClarke]
@[simp] theorem execIclarke_canon (n d a b x : Nat) (s : State) : AnswersCanon s (execIclarke n d a b x s) := by simp [execIclarke]
@[simp] theorem execPark_canon (n d a b x : Nat) (s : State) : AnswersCanon s (execPark n d a b x s) := by simp [execPark]
@[simp] theorem execIpark_canon (n d a b x : Nat) (s : State) : AnswersCanon s (execIpark n d a b x s) := by simp [execIpark]
@[simp] theorem execPistep_canon (n d a b x : Nat) (s : State) : AnswersCanon s (execPistep n d a b x s) := by simp [execPistep]
@[simp] theorem execLimit_canon (n d a b x : Nat) (s : State) : AnswersCanon s (execLimit n d a b x s) := by simp [execLimit]
@[simp] theorem execRegion_canon (n d a b x : Nat) (s : State) : AnswersCanon s (execRegion n d a b x s) := by simp [execRegion]
@[simp] theorem execProf_canon (n d a b x : Nat) (s : State) : AnswersCanon s (execProf n d a b x s) := by simp [execProf]
@[simp] theorem execPlaus_canon (n d a b x : Nat) (s : State) : AnswersCanon s (execPlaus n d a b x s) := by simp [execPlaus]
@[simp] theorem execBset_canon (n d a b x : Nat) (s : State) : AnswersCanon s (execBset n d a b x s) := by simp [execBset]
@[simp] theorem execSld_canon (n d a b x : Nat) (s : State) : AnswersCanon s (execSld n d a b x s) := by simp [execSld]
@[simp] theorem execSldSampleTimeout_canon (n : Nat) (s : State) : AnswersCanon s (execSldSampleTimeout n s) := by
  unfold execSldSampleTimeout
  split <;> simp
@[simp] theorem execCst_canon (n d a b x : Nat) (s : State) : AnswersCanon s (execCst n d a b x s) := by simp [execCst]
@[simp] theorem execEvt_canon (n d a b x : Nat) (s : State) : AnswersCanon s (execEvt n d a b x s) := by simp [execEvt]
@[simp] theorem execBr_canon (n d a b x : Nat) (s : State) : AnswersCanon s (execBr n d a b x s) := by simp [execBr]
@[simp] theorem execBrc_canon (n d a b x : Nat) (s : State) : AnswersCanon s (execBrc n d a b x s) := by simp [execBrc]
@[simp] theorem execIllegalInstr_canon (n : Nat) (s : State) : AnswersCanon s (execIllegalInstr n s) := by
  unfold execIllegalInstr
  split <;> simp

/-! ### Sys2Proof/Machine/TracEst.lean -/

@[simp] theorem State.setTr_keepsCanon (n : Nat) (t : Trac) : KeepsCanon (·.setTr n t) := .of fun s => by simp [State.setTr]
@[simp] theorem State.modTr_keepsCanon (n : Nat) (f : Trac → Trac) : KeepsCanon (·.modTr n f) := .of fun s => by simp [State.modTr]

/-! ### Sys2Proof/Machine/TracTick.lean -/

@[simp] theorem State.checks_keepsCanon (n : Nat) (e : Engine) (t : Trac) (i : TickIn) (id iq : F32) :
    KeepsCanon fun s => (s.checks n e t i id iq).1 :=
  .of fun s => by
    unfold State.checks
    repeat' split
    all_goals simp
@[simp] theorem State.tracRun_keepsCanon (n law : Nat) : KeepsCanon (·.tracRun n law) := .of fun s => by simp [State.tracRun]
@[simp] theorem State.tracTick_keepsCanon (n : Nat) : KeepsCanon (·.tracTick n) := .of fun s => by
  simp only [State.tracTick]
  repeat' split
  all_goals simp
@[simp] theorem State.tracRelease_keepsCanon (n : Nat) : KeepsCanon (·.tracRelease n) := .of fun s => by simp [State.tracRelease]

/-! ### Sys2Proof/Machine/Converter.lean -/

@[simp] theorem State.convWake_keepsCanon : KeepsCanon (·.convWake) := .of fun s => by simp [State.convWake]
@[simp] theorem State.burstRefresh_keepsCanon : KeepsCanon (·.burstRefresh) := .of fun s => by simp [State.burstRefresh]
@[simp] theorem State.burstDv_keepsCanon : KeepsCanon (·.burstDv) := .of fun s => by simp [State.burstDv]
@[simp] theorem State.convStart_keepsCanon : KeepsCanon (·.convStart) := .of fun s => by simp [State.convStart]
@[simp] theorem State.convPadsLow_keepsCanon : KeepsCanon (·.convPadsLow) := .of fun s => by simp [State.convPadsLow]
@[simp] theorem State.convRun_keepsCanon : KeepsCanon (·.convRun) := .of fun s => by
  simp only [State.convRun]
  split <;> simp
@[simp] theorem State.convTick_keepsCanon : KeepsCanon (·.convTick) := .of fun s => by
  unfold State.convTick
  repeat' split
  all_goals simp
@[simp] theorem State.tellVoutAbsent_keepsCanon : KeepsCanon (·.tellVoutAbsent) := .of fun s => by simp [State.tellVoutAbsent]
@[simp] theorem State.convRelease_keepsCanon : KeepsCanon (·.convRelease) := .of fun s => by simp [State.convRelease]
@[simp] theorem execConvSetV_canon (c : Cmd) (s0 : State) : AnswersCanon s0 (execConvSetV c s0) := by simp [execConvSetV]
@[simp] theorem execConvStatus_canon (c : Cmd) (s0 : State) : AnswersCanon s0 (execConvStatus c s0) := by simp [execConvStatus]
@[simp] theorem execConvRestart_canon (c : Cmd) (s0 : State) : AnswersCanon s0 (execConvRestart c s0) := by simp [execConvRestart]
@[simp] theorem execConvLightLoad_canon (c : Cmd) (s0 : State) : AnswersCanon s0 (execConvLightLoad c s0) := by simp [execConvLightLoad]
@[simp] theorem execConvSync_canon (c : Cmd) (s0 : State) : AnswersCanon s0 (execConvSync c s0) := by simp [execConvSync]
@[simp] theorem execSyncEdge_canon (interval : Nat) (phase : Int) (s : State) : AnswersCanon s (execSyncEdge interval phase s) := by
  simp -implicitDefEqProofs [execSyncEdge]
@[simp] theorem execSyncLost_canon (s : State) : AnswersCanon s (execSyncLost s) := by simp [execSyncLost]
@[simp] theorem execConvStart_canon (s : State) : AnswersCanon s (execConvStart s) := by simp [execConvStart]
@[simp] theorem execBurstWakeSample_canon (low : Bool) (s : State) : AnswersCanon s (execBurstWakeSample low s) := by simp [execBurstWakeSample]
@[simp] theorem execConvShort_canon (s : State) : AnswersCanon s (execConvShort s) := by simp [execConvShort]
@[simp] theorem execConvRetryWaitExpiry_canon (s : State) : AnswersCanon s (execConvRetryWaitExpiry s) := by simp [execConvRetryWaitExpiry]
@[simp] theorem execCbcLimit_canon (k : Nat) (s : State) : AnswersCanon s (execCbcLimit k s) := by
  simp only [execCbcLimit]
  split <;> simp
@[simp] theorem execConvOvp_canon (s : State) : AnswersCanon s (execConvOvp s) := by simp [execConvOvp]
@[simp] theorem execConvVoutAbsent_canon (s : State) : AnswersCanon s (execConvVoutAbsent s) := by simp [execConvVoutAbsent]

/-! ### Sys2Proof/Machine/Charger.lean -/

@[simp] theorem State.chgFlush_keepsCanon : KeepsCanon (·.chgFlush) := .of fun s => by simp [State.chgFlush]
@[simp] theorem State.chgShow_keepsCanon : KeepsCanon (·.chgShow) := .of fun s => by simp [State.chgShow]
@[simp] theorem State.chgDone_keepsCanon : KeepsCanon (·.chgDone) := .of fun s => by simp [State.chgDone]
@[simp] theorem State.chgHold_keepsCanon (b : Nat) (v : Bool) : KeepsCanon (·.chgHold b v) := .of fun s => by simp [State.chgHold]
@[simp] theorem State.armWord_keepsCanon (b : Nat) (v new : Bool) : KeepsCanon (·.armWord b v new) := .of fun s => by simp [State.armWord]
@[simp] theorem State.contact_keepsCanon (lv : Bool) : KeepsCanon (·.contact lv) := .of fun s => by simp [State.contact]
@[simp] theorem State.lvEnd_keepsCanon : KeepsCanon (·.lvEnd) := .of fun s => by
  simp only [State.lvEnd]
  split <;> simp
@[simp] theorem State.supplyEvent_keepsCanon (k : Nat) : KeepsCanon (·.supplyEvent k) := .of fun s => by simp [State.supplyEvent]
@[simp] theorem State.stageLeg_keepsCanon (n u l : Nat) (v : F32) : KeepsCanon (·.stageLeg n u l v) := .of fun s => by
  unfold State.stageLeg
  split <;> simp
@[simp] theorem State.chgStage_keepsCanon (shift : F32) : KeepsCanon (·.chgStage shift) := .of fun s => by simp [State.chgStage]
@[simp] theorem State.supStep_keepsCanon (okBus : Bool) : KeepsCanon (·.supStep okBus) := .of fun s => by simp [State.supStep]
@[simp] theorem State.chgHv_keepsCanon (i : ChgIn) : KeepsCanon fun s => (s.chgHv i).1 := .of fun s => by
  simp only [State.chgHv]
  split <;> simp
@[simp] theorem State.chgLv_keepsCanon (i : ChgIn) : KeepsCanon (·.chgLv i) := .of fun s => by simp [State.chgLv]
@[simp] theorem State.chgDab_keepsCanon (i : ChgIn) (iref : F32) : KeepsCanon (·.chgDab i iref) := .of fun s => by simp [State.chgDab]
@[simp] theorem State.chgPlaus_keepsCanon (i : ChgIn) (on : Bool) : KeepsCanon (·.chgPlaus i on) := .of fun s => by simp [State.chgPlaus]
@[simp] theorem State.chgWords_keepsCanon (i : ChgIn) (iref : F32) (acl : Bool) : KeepsCanon (·.chgWords i iref acl) :=
  .of fun s => by simp [State.chgWords]
@[simp] theorem State.chgRun_keepsCanon : KeepsCanon (·.chgRun) := .of fun s => by simp [State.chgRun]
@[simp] theorem State.chgTick_keepsCanon : KeepsCanon (·.chgTick) := .of fun s => by
  unfold State.chgTick
  repeat' split
  all_goals simp
@[simp] theorem State.supplyEntry_keepsCanon : KeepsCanon (·.supplyEntry) := .of fun s => by simp [State.supplyEntry]
@[simp] theorem State.chargeEntry_keepsCanon : KeepsCanon (·.chargeEntry) := .of fun s => by simp [State.chargeEntry]
@[simp] theorem State.chargeLeaving_keepsCanon : KeepsCanon (·.chargeLeaving) := .of fun s => by simp [State.chargeLeaving]
@[simp] theorem State.chargeLeft_keepsCanon : KeepsCanon (·.chargeLeft) := .of fun s => by simp [State.chargeLeft]
@[simp] theorem State.lvStop_keepsCanon (cause : Nat) : KeepsCanon (·.lvStop cause) := .of fun s => by simp [State.lvStop]
@[simp] theorem State.phaseWords_keepsCanon (c : Cmd) (first : Nat) : KeepsCanon (·.phaseWords c first) := .of fun s => by simp [State.phaseWords]
@[simp] theorem execChgArm_canon (c : Cmd) (s0 : State) : AnswersCanon s0 (execChgArm c s0) := by simp [execChgArm]
@[simp] theorem execChgDisarm_canon (c : Cmd) (s0 : State) : AnswersCanon s0 (execChgDisarm c s0) := by simp [execChgDisarm]
@[simp] theorem execChgLimit_canon (c : Cmd) (s0 : State) : AnswersCanon s0 (execChgLimit c s0) := by simp [execChgLimit]
@[simp] theorem execChgStatus_canon (c : Cmd) (s0 : State) : AnswersCanon s0 (execChgStatus c s0) := by simp [execChgStatus]
@[simp] theorem execChgRestart_canon (c : Cmd) (s0 : State) : AnswersCanon s0 (execChgRestart c s0) := by simp [execChgRestart]
@[simp] theorem execSupSet_canon (c : Cmd) (s0 : State) : AnswersCanon s0 (execSupSet c s0) := by simp [execSupSet]
@[simp] theorem execLvChgArm_canon (c : Cmd) (s0 : State) : AnswersCanon s0 (execLvChgArm c s0) := by simp [execLvChgArm]
@[simp] theorem execLvChgDisarm_canon (c : Cmd) (s0 : State) : AnswersCanon s0 (execLvChgDisarm c s0) := by simp [execLvChgDisarm]
@[simp] theorem execLvChgLimit_canon (c : Cmd) (s0 : State) : AnswersCanon s0 (execLvChgLimit c s0) := by simp [execLvChgLimit]
@[simp] theorem State.supApplied_keepsCanon : KeepsCanon (·.supApplied) := .of fun s => by simp [State.supApplied]
@[simp] theorem State.pilotEvent_keepsCanon : KeepsCanon (·.pilotEvent) := .of fun s => by simp [State.pilotEvent]
@[simp] theorem State.pilotCharge_keepsCanon (st : Nat) : KeepsCanon (·.pilotCharge st) := .of fun s => by simp [State.pilotCharge]
@[simp] theorem State.pilotSupply_keepsCanon (old st : Nat) : KeepsCanon (·.pilotSupply old st) := .of fun s => by
  unfold State.pilotSupply
  split <;> simp
@[simp] theorem execPilotStateChange_canon (vh vl : Int) (freq duty : Nat) (s : State) :
    AnswersCanon s (execPilotStateChange vh vl freq duty s) := by simp [execPilotStateChange]
@[simp] theorem State.plugCheck_keepsCanon : KeepsCanon (·.plugCheck) := .of fun s => by simp [State.plugCheck]
@[simp] theorem execPpSample_canon (mv : Nat) (s : State) : AnswersCanon s (execPpSample mv s) := by simp [execPpSample]
@[simp] theorem execPilotRouteCheck_canon (vh : Int) (s : State) : AnswersCanon s (execPilotRouteCheck vh s) := by simp [execPilotRouteCheck]
@[simp] theorem execChgOnTimeEnd_canon (lv : Bool) (mean : F32) (s : State) : AnswersCanon s (execChgOnTimeEnd lv mean s) := by
  simp [execChgOnTimeEnd]
@[simp] theorem State.lvAbsent_keepsCanon : KeepsCanon (·.lvAbsent) := .of fun s => by simp [State.lvAbsent]
@[simp] theorem execChgRestEnd_canon (lv : Bool) (vOn v10 vEnd iOn : F32) (zero : Bool) (s : State) :
    AnswersCanon s (execChgRestEnd lv vOn v10 vEnd iOn zero s) := by simp [execChgRestEnd]
@[simp] theorem State.tellPrepFail_keepsCanon (lv : Bool) : KeepsCanon (·.tellPrepFail lv) := .of fun s => by simp [State.tellPrepFail]
@[simp] theorem execChgPrepFail_canon (lv : Bool) (s : State) : AnswersCanon s (execChgPrepFail lv s) := by simp [execChgPrepFail]
@[simp] theorem State.tellDone_keepsCanon (lv : Bool) : KeepsCanon (·.tellDone lv) := .of fun s => by
  simp only [State.tellDone]
  split <;> simp
@[simp] theorem execChgTerminate_canon (lv : Bool) (s : State) : AnswersCanon s (execChgTerminate lv s) := by simp [execChgTerminate]
@[simp] theorem State.chgWatch_keepsCanon (lv : Bool) : KeepsCanon (·.chgWatch lv) := .of fun s => by simp [State.chgWatch]
@[simp] theorem State.tellWatch_keepsCanon (lv : Bool) : KeepsCanon (·.tellWatch lv) := .of fun s => by simp [State.tellWatch]
@[simp] theorem execChgWatchdog_canon (lv : Bool) (s : State) : AnswersCanon s (execChgWatchdog lv s) := by simp [execChgWatchdog]
@[simp] theorem State.chgRelease_keepsCanon : KeepsCanon (·.chgRelease) := .of fun s => by simp [State.chgRelease]
@[simp] theorem execChgTimer_canon (lv : Bool) (s : State) : AnswersCanon s (execChgTimer lv s) := by simp [execChgTimer]
@[simp] theorem execLvBatteryAbsent_canon (s : State) : AnswersCanon s (execLvBatteryAbsent s) := by simp [execLvBatteryAbsent]
@[simp] theorem execLvVsetForward_canon (s : State) : AnswersCanon s (execLvVsetForward s) := by simp [execLvVsetForward]
@[simp] theorem State.supplyStop_keepsCanon : KeepsCanon (·.supplyStop) := .of fun s => by simp [State.supplyStop]
@[simp] theorem execSupplyOverload_canon (s : State) : AnswersCanon s (execSupplyOverload s) := by simp [execSupplyOverload]
@[simp] theorem State.batteryLost_keepsCanon : KeepsCanon (·.batteryLost) := .of fun s => by simp [State.batteryLost]

/-! ### Sys2Proof/Machine/Motion.lean -/

@[simp] theorem State.setAct_keepsCanon (m : Nat) (a : Act) : KeepsCanon (·.setAct m a) := .of fun s => by simp [State.setAct]
@[simp] theorem State.actSay_keepsCanon (n : Nat) (isRec : Bool) (code : Nat) (c0 c1 : Word) : KeepsCanon (·.actSay n isRec code c0 c1) :=
  .of fun s => by simp [State.actSay]
@[simp] theorem State.actLoops_keepsCanon (m : Nat) (a : Act) : KeepsCanon fun s => (s.actLoops m a).st := .of fun s => by
  simp only [State.actLoops]
  split <;> simp
@[simp] theorem State.actMotor_keepsCanon (m : Nat) : KeepsCanon (·.actMotor m) := .of fun s => by
  simp only [State.actMotor]
  repeat' split
  all_goals simp
@[simp] theorem State.actRun_keepsCanon (n : Nat) : KeepsCanon (·.actRun n) := .of fun s => by simp [State.actRun]
@[simp] theorem State.actTick_keepsCanon (n : Nat) : KeepsCanon (·.actTick n) := .of fun s => by
  simp only [State.actTick]
  repeat' split
  all_goals simp
@[simp] theorem State.parkWatch_keepsCanon : KeepsCanon (·.parkWatch) := .of fun s => by simp [State.parkWatch]
@[simp] theorem State.actRelease_keepsCanon (n : Nat) : KeepsCanon (·.actRelease n) := .of fun s0 => by simp [State.actRelease]
@[simp] theorem State.motSetpoint_canon (s : State) (c : Cmd) (opcode bytes mode : Nat) (ok : Nat → Bool) (words : Nat → List (Nat × Word)) :
    AnswersCanon s (s.motSetpoint c opcode bytes mode ok words) := by simp [State.motSetpoint]
@[simp] theorem execActCurrent_canon (c : Cmd) (s0 : State) : AnswersCanon s0 (execActCurrent c s0) := by simp [execActCurrent]
@[simp] theorem execActSpeed_canon (c : Cmd) (s0 : State) : AnswersCanon s0 (execActSpeed c s0) := by simp [execActSpeed]
@[simp] theorem execActMove_canon (c : Cmd) (s0 : State) : AnswersCanon s0 (execActMove c s0) := by simp [execActMove]
@[simp] theorem execActStatus_canon (c : Cmd) (s0 : State) : AnswersCanon s0 (execActStatus c s0) := by simp [execActStatus]
@[simp] theorem execEncStatus_canon (c : Cmd) (s0 : State) : AnswersCanon s0 (execEncStatus c s0) := by simp [execEncStatus]
@[simp] theorem State.parkEvent_keepsCanon (k : Nat) : KeepsCanon (·.parkEvent k) := .of fun s => by simp [State.parkEvent]
@[simp] theorem State.parkHoldBit_keepsCanon (v : Bool) : KeepsCanon (·.parkHoldBit v) := .of fun s => by
  unfold State.parkHoldBit
  split <;> simp
@[simp] theorem State.parkRequest_keepsCanon (engage : Bool) : KeepsCanon (·.parkRequest engage) := .of fun s => by
  simp only [State.parkRequest]
  repeat' split
  all_goals simp
@[simp] theorem State.parkOver_keepsCanon : KeepsCanon (·.parkOver) := .of fun s => by
  simp only [State.parkOver]
  split <;> simp
@[simp] theorem execParkVerified_canon (s : State) : AnswersCanon s (execParkVerified s) := by
  unfold execParkVerified
  repeat' split
  all_goals simp
@[simp] theorem execParkFail_canon (s : State) : AnswersCanon s (execParkFail s) := by
  unfold execParkFail
  split <;> simp
@[simp] theorem execParkRecheck_canon (s : State) : AnswersCanon s (execParkRecheck s) := by
  unfold execParkRecheck
  split <;> simp

/-! ### Sys2Proof/Machine/Traction.lean -/

@[simp] theorem State.tracSetpoint_canon (s : State) (c : Cmd) (opcode : Nat) (bad : Bool) (words : List (Nat × Word)) :
    AnswersCanon s (s.tracSetpoint c opcode bad words) := by simp [State.tracSetpoint]
@[simp] theorem execTrqSet_canon (c : Cmd) (s0 : State) : AnswersCanon s0 (execTrqSet c s0) := by simp [execTrqSet]
@[simp] theorem execSpdSet_canon (c : Cmd) (s0 : State) : AnswersCanon s0 (execSpdSet c s0) := by simp [execSpdSet]
@[simp] theorem execCtrlSel_canon (c : Cmd) (s0 : State) : AnswersCanon s0 (execCtrlSel c s0) := by simp [execCtrlSel]
@[simp] theorem execTrqStatus_canon (c : Cmd) (s0 : State) : AnswersCanon s0 (execTrqStatus c s0) := by simp [execTrqStatus]
@[simp] theorem execTrcParamWrite_canon (c : Cmd) (s0 : State) : AnswersCanon s0 (execTrcParamWrite c s0) := by simp [execTrcParamWrite]
@[simp] theorem execTrcParamRead_canon (c : Cmd) (s0 : State) : AnswersCanon s0 (execTrcParamRead c s0) := by simp [execTrcParamRead]
@[simp] theorem execLawSel_canon (c : Cmd) (s0 : State) : AnswersCanon s0 (execLawSel c s0) := by simp [execLawSel]
@[simp] theorem State.lawRelease_keepsCanon (n : Nat) : KeepsCanon (·.lawRelease n) := .of fun s => by
  simp only [State.lawRelease]
  repeat' split
  all_goals simp
@[simp] theorem State.rampAll_keepsCanon (kind ms : Nat) : KeepsCanon (·.rampAll kind ms) := .of fun s => by simp [State.rampAll]
@[simp] theorem State.rampHandover_keepsCanon : KeepsCanon (·.rampHandover) := .of fun s => by simp [State.rampHandover]
@[simp] theorem State.endRamp_keepsCanon (kind : Nat) : KeepsCanon (·.endRamp kind) := .of fun s => by simp [State.endRamp]
@[simp] theorem State.modEst_keepsCanon (n : Nat) (f : Est → Est) : KeepsCanon (·.modEst n f) := .of fun s => by simp [State.modEst]
@[simp] theorem State.tellSetpointWd_keepsCanon (n : Nat) : KeepsCanon (·.tellSetpointWd n) := .of fun s => by simp [State.tellSetpointWd]
@[simp] theorem State.tellOverspeed_keepsCanon (n : Nat) : KeepsCanon (·.tellOverspeed n) := .of fun s => by simp [State.tellOverspeed]
@[simp] theorem State.tellVdcAbsent_keepsCanon (n : Nat) : KeepsCanon (·.tellVdcAbsent n) := .of fun s => by simp [State.tellVdcAbsent]
@[simp] theorem State.tellBandSat_keepsCanon (n : Nat) : KeepsCanon (·.tellBandSat n) := .of fun s => by simp [State.tellBandSat]
@[simp] theorem State.tellFswLimit_keepsCanon (n : Nat) : KeepsCanon (·.tellFswLimit n) := .of fun s => by
  simp only [State.tellFswLimit]
  split <;> simp
@[simp] theorem State.tellLocked_keepsCanon (n : Nat) : KeepsCanon (·.tellLocked n) := .of fun s => by simp [State.tellLocked]
@[simp] theorem State.tellAcquireFail_keepsCanon (n : Nat) : KeepsCanon (·.tellAcquireFail n) := .of fun s => by simp [State.tellAcquireFail]
@[simp] theorem State.tellDecayTimeout_keepsCanon (n : Nat) : KeepsCanon (·.tellDecayTimeout n) := .of fun s => by simp [State.tellDecayTimeout]
@[simp] theorem State.tellFwEnd_keepsCanon (n : Nat) : KeepsCanon (·.tellFwEnd n) := .of fun s => by simp [State.tellFwEnd]
@[simp] theorem State.tellAscEnd_keepsCanon (n : Nat) : KeepsCanon (·.tellAscEnd n) := .of fun s => by simp [State.tellAscEnd]
@[simp] theorem State.tellRecaptureFail_keepsCanon (n : Nat) : KeepsCanon (·.tellRecaptureFail n) := .of fun s => by simp [State.tellRecaptureFail]
@[simp] theorem State.tellAll_keepsCanon (n : Nat) : KeepsCanon (·.tellAll n) := .of fun s => by simp [State.tellAll]
@[simp] theorem State.condition_canon (s : State) (n : Nat) (f : State → Nat → State) (h : CanonFrom s (f s n)) :
    AnswersCanon s (s.condition n f) := by
  simp [State.condition, h]
@[simp] theorem execSetpointWdExpiry_canon (n : Nat) (s : State) : AnswersCanon s (execSetpointWdExpiry n s) := by simp [execSetpointWdExpiry]
@[simp] theorem execOverspeed_canon (n : Nat) (s : State) : AnswersCanon s (execOverspeed n s) := by simp [execOverspeed]
@[simp] theorem execVdcAbsent_canon (n : Nat) (s : State) : AnswersCanon s (execVdcAbsent n s) := by simp [execVdcAbsent]
@[simp] theorem execBandSat_canon (n : Nat) (s : State) : AnswersCanon s (execBandSat n s) := by simp [execBandSat]
@[simp] theorem execFswLimit_canon (n : Nat) (s : State) : AnswersCanon s (execFswLimit n s) := by simp [execFswLimit]
@[simp] theorem execEstimatorLocked_canon (n : Nat) (s : State) : AnswersCanon s (execEstimatorLocked n s) := by simp [execEstimatorLocked]
@[simp] theorem execAcquireFail_canon (n : Nat) (s : State) : AnswersCanon s (execAcquireFail n s) := by simp [execAcquireFail]
@[simp] theorem execRecapDecayTimeout_canon (n : Nat) (s : State) : AnswersCanon s (execRecapDecayTimeout n s) := by simp [execRecapDecayTimeout]
@[simp] theorem execRecapFwEnd_canon (n : Nat) (s : State) : AnswersCanon s (execRecapFwEnd n s) := by simp [execRecapFwEnd]
@[simp] theorem execRecapAscEnd_canon (n : Nat) (s : State) : AnswersCanon s (execRecapAscEnd n s) := by simp [execRecapAscEnd]
@[simp] theorem execRecaptureFail_canon (n : Nat) (s : State) : AnswersCanon s (execRecaptureFail n s) := by simp [execRecaptureFail]

/-! ### Sys2Proof/Machine/FieldEngine.lean -/

@[simp] theorem State.setpointResult_keepsCanon (n : Nat) (p : Setpoint) (st : Status) (v : Nat) : KeepsCanon (·.setpointResult n p st v) :=
  .of fun s => by simp [State.setpointResult]
@[simp] theorem State.bump_keepsCanon (n p : Nat) : KeepsCanon (·.bump n p) := .of fun s => by simp [State.bump]
@[simp] theorem State.actSetpoint_keepsCanon (group : List Nat) (p : Setpoint) : KeepsCanon (·.actSetpoint group p) :=
  .of fun s => by simp [State.actSetpoint]
@[simp] theorem State.takeSetpoints_keepsCanon (group : List Nat) (n : Nat) : KeepsCanon (·.takeSetpoints group n) :=
  .of fun s => by simp [State.takeSetpoints]
@[simp] theorem State.edgeSamples_keepsCanon (n : Nat) : KeepsCanon (·.edgeSamples n) := .of fun s => by simp [State.edgeSamples]
@[simp] theorem State.strobe_keepsCanon (n : Nat) : KeepsCanon (·.strobe n) := .of fun s => by simp [State.strobe]
@[simp] theorem State.breakHold_keepsCanon (n : Nat) : KeepsCanon (·.breakHold n) := .of fun s => by simp [State.breakHold]
@[simp] theorem State.transferGroup_keepsCanon (group : List Nat) (n : Nat) : KeepsCanon (·.transferGroup group n) :=
  .of fun s => by simp [State.transferGroup]
@[simp] theorem State.tickStart_keepsCanon (n : Nat) : KeepsCanon (·.tickStart n) := .of fun s => by simp [State.tickStart]
@[simp] theorem State.discTick_keepsCanon (n : Nat) : KeepsCanon (·.discTick n) := .of fun s => by simp [State.discTick]
@[simp] theorem State.program_keepsCanon (n : Nat) : KeepsCanon (·.program n) := .of fun s => by
  unfold State.program
  split <;> simp
@[simp] theorem State.runProgram_keepsCanon (n : Nat) : KeepsCanon (·.runProgram n) := .of fun s => by simp [State.runProgram]
@[simp] theorem State.tracStart_keepsCanon (n : Nat) : KeepsCanon (·.tracStart n) := .of fun s => by simp [State.tracStart]
@[simp] theorem State.programStart_keepsCanon (n : Nat) : KeepsCanon (·.programStart n) := .of fun s => by
  unfold State.programStart
  split <;> simp
@[simp] theorem State.returnEngine_keepsCanon (n : Nat) : KeepsCanon (·.returnEngine n) := .of fun s => by simp [State.returnEngine]
@[simp] theorem State.startNow_keepsCanon (n : Nat) : KeepsCanon (·.startNow n) := .of fun s => by simp [State.startNow]
@[simp] theorem State.startEngine_keepsCanon (n : Nat) : KeepsCanon (·.startEngine n) := .of fun s => by simp [State.startEngine]
@[simp] theorem State.stopOrRestart_keepsCanon (n : Nat) : KeepsCanon (·.stopOrRestart n) := .of fun s => by simp [State.stopOrRestart]
@[simp] theorem State.cbcStrobe_keepsCanon (n : Nat) : KeepsCanon (·.cbcStrobe n) := .of fun s => by simp -implicitDefEqProofs [State.cbcStrobe]
@[simp] theorem execFeTick_canon (n : Nat) (s : State) : AnswersCanon s (execFeTick n s) := by simp [execFeTick]
@[simp] theorem State.abortTick_keepsCanon (n : Nat) : KeepsCanon (·.abortTick n) := .of fun s => by simp [State.abortTick]
@[simp] theorem execTickOverrun_canon (n : Nat) (s : State) : AnswersCanon s (execTickOverrun n s) := by simp [execTickOverrun]
@[simp] theorem State.divNote_keepsCanon (unit cause when_ main checker : Nat) : KeepsCanon (·.divNote unit cause when_ main checker) :=
  .of fun s => by simp [State.divNote]
@[simp] theorem State.feDiverge_keepsCanon (n cause main checker : Nat) : KeepsCanon (·.feDiverge n cause main checker) :=
  .of fun s => by simp [State.feDiverge]
@[simp] theorem State.releaseEvt_keepsCanon (n : Nat) (v : EvtReq) : KeepsCanon (·.releaseEvt n v) := .of fun s => by simp [State.releaseEvt]
@[simp] theorem State.arrive_keepsCanon (c : StageCmd) : KeepsCanon (·.arrive c) := .of fun s => by simp [State.arrive]
@[simp] theorem State.programRelease_keepsCanon (n : Nat) : KeepsCanon (·.programRelease n) := .of fun s => by
  unfold State.programRelease
  split <;> simp
@[simp] theorem State.emuTheta_keepsCanon (n : Nat) : KeepsCanon (·.emuTheta n) := .of fun s => by simp [State.emuTheta]
@[simp] theorem State.completeSetpoints_keepsCanon (n : Nat) : KeepsCanon (·.completeSetpoints n) := .of fun s => by simp [State.completeSetpoints]
@[simp] theorem State.release_keepsCanon (n : Nat) : KeepsCanon (·.release n) := .of fun s => by simp [State.release]
@[simp] theorem State.loadCycle_keepsCanon (n cycle : Nat) : KeepsCanon (·.loadCycle n cycle) := .of fun s => by simp [State.loadCycle]
@[simp] theorem State.feCanary_keepsCanon (n : Nat) (g : GateIn) : KeepsCanon (·.feCanary n g) := .of fun s => by simp [State.feCanary]
@[simp] theorem execCommit_canon (n cycle : Nat) (g : GateIn) (s : State) : AnswersCanon s (execCommit n cycle g s) := by
  simp only [execCommit]
  repeat' split
  all_goals simp
@[simp] theorem execFeRunStart_canon (w : Writer) (n : Nat) (s0 : State) : AnswersCanon s0 (execFeRunStart w n s0) := by simp [execFeRunStart]
@[simp] theorem State.askStop_keepsCanon (n : Nat) : KeepsCanon (·.askStop n) := .of fun s => by simp [State.askStop]
@[simp] theorem execFeRunStop_canon (w : Writer) (n : Nat) (s0 : State) : AnswersCanon s0 (execFeRunStop w n s0) := by simp [execFeRunStop]
@[simp] theorem State.entryTo_keepsCanon (n entry : Nat) : KeepsCanon (·.entryTo n entry) := .of fun s => by simp [State.entryTo]
@[simp] theorem execFeEntryWrite_canon (w : Writer) (n entry : Nat) (s0 : State) : AnswersCanon s0 (execFeEntryWrite w n entry s0) := by
  simp [execFeEntryWrite]
@[simp] theorem execFePstageHold_canon (w : Writer) (n : Nat) (hold : Bool) (s0 : State) : AnswersCanon s0 (execFePstageHold w n hold s0) := by
  simp [execFePstageHold]
@[simp] theorem State.paramTo_keepsCanon (w : Writer) (n p : Nat) (v : Word) : KeepsCanon (·.paramTo w n p v) := .of fun s => by simp [State.paramTo]
@[simp] theorem execFeParamWrite_canon (w : Writer) (n p : Nat) (vs : List Word) (s0 : State) :
    AnswersCanon s0 (execFeParamWrite w n p vs s0) := by simp [execFeParamWrite]
@[simp] theorem State.loopTo_keepsCanon (w : Writer) (n a : Nat) (v : Word) : KeepsCanon (·.loopTo w n a v) := .of fun s => by simp [State.loopTo]
@[simp] theorem execFeLoopStoreWrite_canon (w : Writer) (n a : Nat) (v : Word) (s0 : State) :
    AnswersCanon s0 (execFeLoopStoreWrite w n a v s0) := by simp [execFeLoopStoreWrite]

/-! ### Sys2Proof/Machine/Discovery.lean -/

@[simp] theorem State.loadEngine_keepsCanon (n : Nat) : KeepsCanon (·.loadEngine n) := .of fun s => by simp [State.loadEngine]
@[simp] theorem State.loadVendor_keepsCanon (n : Nat) : KeepsCanon (·.loadVendor n) := .of fun s => by simp [State.loadVendor]
@[simp] theorem State.loadEngines_keepsCanon : KeepsCanon (·.loadEngines) := .of fun s => by simp [State.loadEngines]
@[simp] theorem State.takeMeas_keepsCanon (l : List (Nat × DiscMeas)) (ok : Nat → Bool) : KeepsCanon (·.takeMeas l ok) :=
  .of fun s => by simp [State.takeMeas]
@[simp] theorem State.discLink_keepsCanon : KeepsCanon (·.discLink) := .of fun s => by simp [State.discLink]
@[simp] theorem State.readCap_keepsCanon (h cap : Nat) : KeepsCanon (·.readCap h cap) := .of fun s => by simp [State.readCap]
@[simp] theorem State.configDriver_keepsCanon (h : Nat) : KeepsCanon (·.configDriver h) := .of fun s => by simp [State.configDriver]
@[simp] theorem State.discEngine_keepsCanon (n : Nat) : KeepsCanon (·.discEngine n) := .of fun s => by simp [State.discEngine]
@[simp] theorem State.discStart_keepsCanon (meas : List (Nat × DiscMeas)) : KeepsCanon (·.discStart meas) :=
  .of fun s => by simp -implicitDefEqProofs [State.discStart]
@[simp] theorem execDiscoverStart_canon (meas : List (Nat × DiscMeas)) (s : State) : AnswersCanon s (execDiscoverStart meas s) := by
  simp [execDiscoverStart]
@[simp] theorem execDiscLinkWaitExpiry_canon (s : State) : AnswersCanon s (execDiscLinkWaitExpiry s) := by simp [execDiscLinkWaitExpiry]
@[simp] theorem State.gateDelay_keepsCanon (h : Nat) (m : DiscMeas) : KeepsCanon (·.gateDelay h m) := .of fun s => by simp [State.gateDelay]
@[simp] theorem State.gateDelays_keepsCanon : KeepsCanon (·.gateDelays) :=
  .of fun s => (State.each_keepsCanon (fun t h => by split <;> simp) _).apply s
@[simp] theorem State.judgeItem_keepsCanon (n : Nat) : KeepsCanon (·.judgeItem n) := .of fun s => by
  unfold State.judgeItem
  split <;> simp
@[simp] theorem State.windings_keepsCanon (meas : List (Nat × DiscMeas)) (emf : List Nat) : KeepsCanon (·.windings meas emf) :=
  .of fun s => by simp [State.windings]
@[simp] theorem State.discFlags_keepsCanon : KeepsCanon (·.discFlags) := .of fun s => by simp [State.discFlags]
@[simp] theorem State.discJudge_keepsCanon (meas : List (Nat × DiscMeas)) (emf : List Nat) : KeepsCanon (·.discJudge meas emf) :=
  .of fun s => by simp [State.discJudge]
@[simp] theorem execDiscoverEnd_canon (meas : List (Nat × DiscMeas)) (emf : List Nat) (s : State) :
    AnswersCanon s (execDiscoverEnd meas emf s) := by
  simp only [execDiscoverEnd]
  repeat' split
  all_goals simp
@[simp] theorem execDiscRun_canon (c : Cmd) (meas : List (Nat × DiscMeas)) (s0 : State) : AnswersCanon s0 (execDiscRun c meas s0) := by
  simp [execDiscRun]
@[simp] theorem execDiscAdopt_canon (c : Cmd) (s0 : State) : AnswersCanon s0 (execDiscAdopt c s0) := by simp [execDiscAdopt]
@[simp] theorem execDiscRead_canon (c : Cmd) (s0 : State) : AnswersCanon s0 (execDiscRead c s0) := by simp [execDiscRead]

/-! ### Sys2Proof/Machine/DcLink.lean -/

@[simp] theorem State.setChop_keepsCanon (on : Bool) : KeepsCanon (·.setChop on) := .of fun s => by
  simp only [State.setChop]
  repeat' split
  all_goals simp -implicitDefEqProofs
@[simp] theorem State.chopHold_keepsCanon : KeepsCanon (·.chopHold) := .of fun s => by simp [State.chopHold]
@[simp] theorem State.chopSample_keepsCanon (code : Nat) : KeepsCanon (·.chopSample code) := .of fun s => by simp [State.chopSample]
@[simp] theorem execChopperBudget_canon (s : State) : AnswersCanon s (execChopperBudget s) := by simp [execChopperBudget]
@[simp] theorem State.dclTell_keepsCanon : KeepsCanon (·.dclTell) := .of fun s => by simp [State.dclTell]
@[simp] theorem State.uvSample_keepsCanon (code : Nat) : KeepsCanon (·.uvSample code) := .of fun s => by simp [State.uvSample]
@[simp] theorem State.ov2Sample_keepsCanon (code : Nat) : KeepsCanon (·.ov2Sample code) := .of fun s => by simp -implicitDefEqProofs [State.ov2Sample]
@[simp] theorem State.ov3Sample_keepsCanon (code : Nat) : KeepsCanon (·.ov3Sample code) := .of fun s => by simp [State.ov3Sample]
@[simp] theorem State.dischargeSample_keepsCanon (code : Nat) : KeepsCanon (·.dischargeSample code) := .of fun s => by
  unfold State.dischargeSample
  split <;> simp
@[simp] theorem State.battSample_keepsCanon (code : Nat) : KeepsCanon (·.battSample code) := .of fun s => by simp [State.battSample]
@[simp] theorem execDclMonitorSample_canon (code : Nat) (s : State) : AnswersCanon s (execDclMonitorSample code s) := by
  simp [execDclMonitorSample]
@[simp] theorem execOv2Restore_canon (s : State) : AnswersCanon s (execOv2Restore s) := by simp [execOv2Restore]
@[simp] theorem execDclMonCompare_canon (s : State) : AnswersCanon s (execDclMonCompare s) := by simp [execDclMonCompare]
@[simp] theorem State.followChoice_keepsCanon (n : Nat) (asc : Bool) : KeepsCanon (·.followChoice n asc) := .of fun s => by simp [State.followChoice]
@[simp] theorem execSelectorEvaluation_canon (s : State) : AnswersCanon s (execSelectorEvaluation s) := by simp [execSelectorEvaluation]
@[simp] theorem State.ov3Release_keepsCanon : KeepsCanon (·.ov3Release) := .of fun s => by simp [State.ov3Release]
@[simp] theorem execOv3LatchRelease_canon (s : State) : AnswersCanon s (execOv3LatchRelease s) := by simp [execOv3LatchRelease]
@[simp] theorem execDclQuery_canon (c : Cmd) (s0 : State) : AnswersCanon s0 (execDclQuery c s0) := by simp [execDclQuery]
@[simp] theorem execDclDischarge_canon (c : Cmd) (s0 : State) : AnswersCanon s0 (execDclDischarge c s0) := by simp [execDclDischarge]
@[simp] theorem State.endDischarge_keepsCanon (st : Status) : KeepsCanon (·.endDischarge st) := .of fun s => by
  unfold State.endDischarge
  split <;> simp
@[simp] theorem State.chopTest_keepsCanon (drop : Nat) (fault : Bool) : KeepsCanon fun s => (s.chopTest drop fault).1 := .of fun s => by
  simp only [State.chopTest]
  split <;> simp -implicitDefEqProofs
@[simp] theorem execChopTest_canon (c : Cmd) (drop : Nat) (fault : Bool) (s0 : State) : AnswersCanon s0 (execChopTest c drop fault s0) := by
  simp [execChopTest]

/-! ### Sys2Proof/Machine/Tally.lean -/

@[simp] theorem State.tallyFail_keepsCanon (k c cause : Nat) : KeepsCanon (·.tallyFail k c cause) := .of fun s => by
  simp only [State.tallyFail]
  repeat' split
  all_goals simp
@[simp] theorem State.judgeSafe_keepsCanon (k c : Nat) (bs : List Byte) (at_ : Time) : KeepsCanon (·.judgeSafe k c bs at_) := .of fun s => by
  unfold State.judgeSafe
  split <;> simp
@[simp] theorem State.tallyAccept_keepsCanon (k c gap sq : Nat) (payload : List Byte) (at_ : Time) :
    KeepsCanon (·.tallyAccept k c gap sq payload at_) := .of fun s => by simp [State.tallyAccept]
@[simp] theorem State.judgeOpen_keepsCanon (k c : Nat) (bs : List Byte) (at_ : Time) : KeepsCanon (·.judgeOpen k c bs at_) := .of fun s => by
  unfold State.judgeOpen
  split <;> simp
@[simp] theorem State.judgeFrame_keepsCanon (k : Nat) (f : TallyFrame) : KeepsCanon (·.judgeFrame k f) := .of fun s => by
  unfold State.judgeFrame
  dsimp only
  split
  · next t h => exact (State.readStall_keepsCanon _ _).of_pair h
  · next t bs h => simp [(State.readStall_keepsCanon _ _).of_pair h]
@[simp] theorem State.tallyFree_keepsCanon : KeepsCanon (·.tallyFree) := .of fun s => by simp [State.tallyFree]
@[simp] theorem State.tallyDeadline_keepsCanon (k c : Nat) : KeepsCanon (·.tallyDeadline k c) := .of fun s => by simp [State.tallyDeadline]
@[simp] theorem State.tallyScan_keepsCanon (k : Nat) : KeepsCanon (·.tallyScan k) := .of fun s => by simp [State.tallyScan]
@[simp] theorem execTallyWatchdogExpiry_canon (pair c : Nat) (s : State) : AnswersCanon s (execTallyWatchdogExpiry pair c s) := by
  simp [execTallyWatchdogExpiry]
@[simp] theorem State.tallyArrive_keepsCanon (c path : Nat) (bs : List Byte) : KeepsCanon (·.tallyArrive c path bs) := .of fun s => by
  unfold State.tallyArrive
  dsimp only
  split
  · next t h => exact (State.takeStall_keepsCanon _).of_pair h
  · next t n h => simp [(State.takeStall_keepsCanon _).of_pair h]
@[simp] theorem State.sendFrame_keepsCanon (f : OutFrame) : KeepsCanon (·.sendFrame f) := .of fun s => by simp [State.sendFrame]
@[simp] theorem State.releaseFrames_keepsCanon (k : Nat) : KeepsCanon (·.releaseFrames k) := .of fun s => by simp [State.releaseFrames]
@[simp] theorem State.glCount_keepsCanon (path : Nat) : KeepsCanon (·.glCount path) := .of fun s => by simp [State.glCount]
@[simp] theorem execTallyTransmit_canon (c : Nat) (s : State) : AnswersCanon s (execTallyTransmit c s) := by simp [execTallyTransmit]
@[simp] theorem State.tallyCfgPut_keepsCanon (c : Nat) (v : Word) : KeepsCanon (·.tallyCfgPut c v) := .of fun s => by simp [State.tallyCfgPut]
@[simp] theorem State.tallyWrite_keepsCanon (w : Writer) (c : Nat) (v : Word) : KeepsCanon (·.tallyWrite w c v) :=
  .of fun s => by simp -implicitDefEqProofs [State.tallyWrite]
@[simp] theorem execTallyEnable_canon (w : Writer) (c : Nat) (v : Word) (s0 : State) : AnswersCanon s0 (execTallyEnable w c v s0) := by
  simp [execTallyEnable]
@[simp] theorem execTallyRearm_canon (c : Cmd) (s0 : State) : AnswersCanon s0 (execTallyRearm c s0) := by simp [execTallyRearm]
@[simp] theorem execTallyTxSet_canon (c : Cmd) (s0 : State) : AnswersCanon s0 (execTallyTxSet c s0) := by simp [execTallyTxSet]
@[simp] theorem execTallyRead_canon (c : Cmd) (s0 : State) : AnswersCanon s0 (execTallyRead c s0) := by simp [execTallyRead]

/-! ### Sys2Proof/Machine/SafetyIo.lean -/

@[simp] theorem State.setSin_keepsCanon (n : Nat) (x : Sin) : KeepsCanon (·.setSin n x) := .of fun s => by simp [State.setSin]
@[simp] theorem State.setSout_keepsCanon (n : Nat) (x : Sout) : KeepsCanon (·.setSout n x) := .of fun s => by simp [State.setSout]
@[simp] theorem State.soutVerdict_keepsCanon (n : Nat) (low high : Bool) : KeepsCanon (·.soutVerdict n low high) :=
  .of fun s => by simp [State.soutVerdict]
@[simp] theorem State.soutCommand_keepsCanon (n : Nat) (on : Bool) : KeepsCanon (·.soutCommand n on) := .of fun s => by simp [State.soutCommand]
@[simp] theorem State.refreshSout_keepsCanon : KeepsCanon (·.refreshSout) := .of fun s => by simp [State.refreshSout]
@[simp] theorem State.soutPulse_keepsCanon (n : Nat) : KeepsCanon (·.soutPulse n) := .of fun s => by simp [State.soutPulse]
@[simp] theorem execSoutTestPulse_canon (n : Nat) (s : State) : AnswersCanon s (execSoutTestPulse n s) := by simp [execSoutTestPulse]
@[simp] theorem State.soutOwed_keepsCanon : KeepsCanon (·.soutOwed) := .of fun s => by simp [State.soutOwed]
@[simp] theorem execSoutTestPulseEnd_canon (n : Nat) (low : Bool) (s : State) : AnswersCanon s (execSoutTestPulseEnd n low s) := by
  simp [execSoutTestPulseEnd]
@[simp] theorem execSoutTestJudge_canon (n : Nat) (high : Bool) (s : State) : AnswersCanon s (execSoutTestJudge n high s) := by
  simp [execSoutTestJudge]
@[simp] theorem execSoutReadbackFault_canon (n : Nat) (s : State) : AnswersCanon s (execSoutReadbackFault n s) := by simp [execSoutReadbackFault]
@[simp] theorem State.hwForces_keepsCanon : KeepsCanon (·.hwForces) := .of fun s => by simp [State.hwForces]
@[simp] theorem State.fastFire_keepsCanon (n : Nat) : KeepsCanon (·.fastFire n) := .of fun s => by simp [State.fastFire]
@[simp] theorem State.fastEnd_keepsCanon (n : Nat) : KeepsCanon (·.fastEnd n) := .of fun s => by simp [State.fastEnd]
@[simp] theorem State.fastClear_keepsCanon (v : Word) : KeepsCanon (·.fastClear v) := .of fun s => by simp [State.fastClear]
@[simp] theorem execFastClear_canon (w : Writer) (v : Word) (s0 : State) : AnswersCanon s0 (execFastClear w v s0) := by simp [execFastClear]
@[simp] theorem State.demandRefresh_keepsCanon (n : Nat) : KeepsCanon (·.demandRefresh n) := .of fun s => by simp [State.demandRefresh]
@[simp] theorem State.discChange_keepsCanon (n : Nat) (b : Bool) : KeepsCanon (·.discChange n b) := .of fun s => by simp [State.discChange]
@[simp] theorem execSinContactChange_canon (n : Nat) (b level : Bool) (s : State) : AnswersCanon s (execSinContactChange n b level s) := by
  simp [execSinContactChange]
@[simp] theorem execSinFiltered_canon (n : Nat) (b : Bool) (s : State) : AnswersCanon s (execSinFiltered n b s) := by simp [execSinFiltered]
@[simp] theorem execSinDiscrepancy_canon (n : Nat) (s : State) : AnswersCanon s (execSinDiscrepancy n s) := by
  simp only [execSinDiscrepancy]
  split <;> simp
@[simp] theorem State.tableUnit_keepsCanon (k u : Nat) (now : Bool) : KeepsCanon (·.tableUnit k u now) := .of fun s => by simp [State.tableUnit]
@[simp] theorem State.scanOutputs_keepsCanon (k : Nat) (x : Scan) : KeepsCanon (·.scanOutputs k x) := .of fun s => by simp [State.scanOutputs]
@[simp] theorem State.scanPark_keepsCanon (k : Nat) (x : Scan) : KeepsCanon (·.scanPark k x) := .of fun s => by simp [State.scanPark]
@[simp] theorem execSafetyScan_canon (pair : Nat) (s : State) : AnswersCanon s (execSafetyScan pair s) := by simp [execSafetyScan]
@[simp] theorem execSafetyRowTimerExpiry_canon (pair row : Nat) (s : State) : AnswersCanon s (execSafetyRowTimerExpiry pair row s) := by
  simp [execSafetyRowTimerExpiry]
@[simp] theorem State.soutRelease_keepsCanon (k : Nat) : KeepsCanon (·.soutRelease k) := .of fun s => by simp [State.soutRelease]
@[simp] theorem execWardenKick_canon (pair : Nat) (s : State) : AnswersCanon s (execWardenKick pair s) := by simp [execWardenKick]
@[simp] theorem State.latchFire_keepsCanon (cause : Nat) : KeepsCanon (·.latchFire cause) :=
  .of fun s => by simp -implicitDefEqProofs [State.latchFire]
@[simp] theorem execSafeLatchFire_canon (s : State) : AnswersCanon s (execSafeLatchFire s) := by simp [execSafeLatchFire]
@[simp] theorem State.loadTable_keepsCanon (t : List Nat) : KeepsCanon (·.loadTable t) := .of fun s => by simp [State.loadTable]
@[simp] theorem execSafeTableWrite_canon (c : Cmd) (s0 : State) : AnswersCanon s0 (execSafeTableWrite c s0) := by simp [execSafeTableWrite]
@[simp] theorem execSafeIoStatus_canon (c : Cmd) (s0 : State) : AnswersCanon s0 (execSafeIoStatus c s0) := by simp [execSafeIoStatus]

/-! ### Sys2Proof/Machine/Store.lean -/

@[simp] theorem State.answer_keepsCanon (resp data : Nat) : KeepsCanon (·.answer resp data) := .of fun s => by simp [State.answer]
@[simp] theorem State.upset_keepsCanon (o : Nat) (e : EccHit) : KeepsCanon (·.upset o e) := .of fun s => by
  have h1 : CanonFrom s (if e.flips = 0 then s
      else { s with mem.flips := Sparse.set (always 0) s.mem.flips (o / 8) ((s.flipsAt o ^^^ e.flips) % 2 ^ 72) }) := by
    split
    · rfl
    · exact s.flips_canonical _ _
  unfold State.upset
  dsimp only
  split
  · exact h1.trans (State.parityBad_canonical _ _ _)
  · exact h1
@[simp] theorem State.serve_keepsCanon (a : Access) (e : EccHit) : KeepsCanon (·.serve a e) := .of fun s => by
  unfold State.serve
  dsimp only
  split
  · simp
  · split
    · next t h =>
      have ht : CanonFrom s t := .of_pair (by simp) h
      simp [ht]
    · next t h =>
      have ht : CanonFrom s t := .of_pair (by simp) h
      simp [ht]
@[simp] theorem State.otherWrite_keepsCanon (a : Access) (x : Side) : KeepsCanon (·.otherWrite a x) := .of fun s => by simp [State.otherWrite]
@[simp] theorem State.busy_keepsCanon : KeepsCanon (·.busy) := .of fun s => by simp [State.busy]
@[simp] theorem State.collide_keepsCanon : KeepsCanon (·.collide) := .of fun s => by simp [State.collide]
@[simp] theorem State.serveBoth_keepsCanon (a : Access) : KeepsCanon (·.serveBoth a) := .of fun s => by
  unfold State.serveBoth
  split <;> simp
@[simp] theorem State.regionRefused_keepsCanon (a : Access) : KeepsCanon (·.regionRefused a) := .of fun s => by simp [State.regionRefused]
@[simp] theorem State.bankOff_keepsCanon : KeepsCanon (·.bankOff) := .of fun s => by simp [State.bankOff]
@[simp] theorem State.sectorWritten_keepsCanon (a : Nat) : KeepsCanon (·.sectorWritten a) := .of fun s => by simp [State.sectorWritten]
@[simp] theorem State.fwWrite_keepsCanon : KeepsCanon (·.fwWrite) := .of fun s => by simp [State.fwWrite]
@[simp] theorem State.mramUpset_keepsCanon (a flips : Nat) : KeepsCanon (·.mramUpset a flips) := .of fun s => by simp [State.mramUpset]
@[simp] theorem State.mramChecked_keepsCanon (a : Nat) : KeepsCanon (·.mramChecked a) := .of fun s => by
  unfold State.mramChecked
  split <;> simp
@[simp] theorem State.mramWrite_keepsCanon (a n v : Nat) : KeepsCanon (·.mramWrite a n v) := .of fun s => by simp [State.mramWrite]
@[simp] theorem State.mramAccess_keepsCanon (a : Access) : KeepsCanon (·.mramAccess a) := .of fun s0 => by simp [State.mramAccess]
@[simp] theorem State.nextWindow_keepsCanon : KeepsCanon (·.nextWindow) := .of fun s => by simp -implicitDefEqProofs [State.nextWindow]
@[simp] theorem State.abortWindow_keepsCanon (w : Nat) : KeepsCanon (·.abortWindow w) := .of fun s => by simp -implicitDefEqProofs [State.abortWindow]
@[simp] theorem State.meetWindow_keepsCanon (o : Nat) (portD : Bool) : KeepsCanon (·.meetWindow o portD) := .of fun s => by
  unfold State.meetWindow
  split <;> simp
@[simp] theorem State.sramAccess_keepsCanon (a : Access) : KeepsCanon (·.sramAccess a) := .of fun s => by simp [State.sramAccess]
@[simp] theorem execSramAccess_canon (a : Access) (s : State) : AnswersCanon s (execSramAccess a s) := by simp [execSramAccess]
@[simp] theorem State.lockedOut_keepsCanon (a : Access) : KeepsCanon (·.lockedOut a) := .of fun s => by
  unfold State.lockedOut
  split <;> simp
@[simp] theorem State.atomic_keepsCanon (a : Access) (f : Nat → Nat) : KeepsCanon (·.atomic a f) := .of fun s => by
  unfold State.atomic
  dsimp only
  iterate 5
    split
    · simp
  split
  · next t h =>
    have ht : CanonFrom s t := .of_pair (by simp) h
    simp [ht]
  · next t h =>
    have ht : CanonFrom s t := .of_pair (by simp) h
    simp [ht]
@[simp] theorem execAadd_canon (a : Access) (s : State) : AnswersCanon s (execAadd a s) := by simp [execAadd]
@[simp] theorem execAswp_canon (a : Access) (s : State) : AnswersCanon s (execAswp a s) := by simp [execAswp]
@[simp] theorem execBankPowerRequest_canon (w : Writer) (k : Nat) (v : Word) (s0 : State) : AnswersCanon s0 (execBankPowerRequest w k v s0) := by
  simp [execBankPowerRequest]
@[simp] theorem execBankIdleRetention_canon (bank : Nat) (s : State) : AnswersCanon s (execBankIdleRetention bank s) := by
  simp [execBankIdleRetention]
@[simp] theorem State.track_keepsCanon (o : Nat) : KeepsCanon (·.track o) := .of fun s => by
  simp only [State.track]
  split <;> simp
@[simp] theorem State.scrubWord_keepsCanon (o addr : Nat) : KeepsCanon (·.scrubWord o addr) := .of fun s => by simp [State.scrubWord]
@[simp] theorem execScrubLine_canon (found : List EccHit) (s : State) : AnswersCanon s (execScrubLine found s) := by simp [execScrubLine]
@[simp] theorem execScrubPriorityWriteback_canon (s : State) : AnswersCanon s (execScrubPriorityWriteback s) := by
  unfold execScrubPriorityWriteback
  split <;> simp
@[simp] theorem execTrackerEntryExpiry_canon (word : Nat) (s : State) : AnswersCanon s (execTrackerEntryExpiry word s) := by
  simp [execTrackerEntryExpiry]
@[simp] theorem State.copyRow_keepsCanon (b r : Nat) : KeepsCanon (·.copyRow b r) := .of fun s => by simp [State.copyRow]
@[simp] theorem State.repair_keepsCanon (o cause : Nat) : KeepsCanon (·.repair o cause) := .of fun s => by simp [State.repair]
@[simp] theorem execRowRepair_canon (word cause : Nat) (s : State) : AnswersCanon s (execRowRepair word cause s) := by simp [execRowRepair]
@[simp] theorem execBgtWindowStep_canon (ends : Bool) (fails : Option Nat) (s : State) : AnswersCanon s (execBgtWindowStep ends fails s) := by
  unfold execBgtWindowStep
  repeat' split
  all_goals simp
@[simp] theorem execMramDailyRead_canon (addr flips : Nat) (s : State) : AnswersCanon s (execMramDailyRead addr flips s) := by
  simp [execMramDailyRead]

/-! ### Sys2Proof/Machine/PairOps.lean -/

@[simp] theorem State.setWarden_keepsCanon (k : Nat) (w : Warden) : KeepsCanon (·.setWarden k w) := .of fun s => by simp [State.setWarden]
@[simp] theorem State.pairsChanged_keepsCanon : KeepsCanon (·.pairsChanged) := .of fun s => by simp [State.pairsChanged]
@[simp] theorem State.dropTurnstile_keepsCanon (k : Nat) : KeepsCanon (·.dropTurnstile k) := .of fun s => by simp [State.dropTurnstile]
@[simp] theorem State.pairJoins_keepsCanon (k : Nat) : KeepsCanon (·.pairJoins k) := .of fun s => by simp [State.pairJoins]
@[simp] theorem State.dbgEnd_keepsCanon (t : Nat) : KeepsCanon (·.dbgEnd t) := .of fun s => by simp [State.dbgEnd]
@[simp] theorem State.dbgShow_keepsCanon : KeepsCanon (·.dbgShow) := .of fun s => by simp [State.dbgShow]
@[simp] theorem State.replayed_keepsCanon (k : Nat) : KeepsCanon (·.replayed k) := .of fun s => by simp [State.replayed]
@[simp] theorem State.wardenDiverge_keepsCanon (k cause main checker : Nat) : KeepsCanon (·.wardenDiverge k cause main checker) := .of fun s => by
  simp only [State.wardenDiverge]
  split <;> simp
@[simp] theorem State.splitA_keepsCanon : KeepsCanon (·.splitA) := .of fun s => by simp -implicitDefEqProofs [State.splitA]
@[simp] theorem State.rejoinA_keepsCanon (good : Bool) : KeepsCanon (·.rejoinA good) := .of fun s => by simp [State.rejoinA]
@[simp] theorem State.pairCtrl_canon (s : State) (c : Cmd) (good : Bool) : AnswersCanon s (s.pairCtrl c good) := by simp [State.pairCtrl]
@[simp] theorem execPairSplit_canon (c : Cmd) (s0 : State) : AnswersCanon s0 (execPairSplit c s0) := by simp [execPairSplit]
@[simp] theorem execPairRejoin_canon (c : Cmd) (good : Bool) (s0 : State) : AnswersCanon s0 (execPairRejoin c good s0) := by simp [execPairRejoin]
@[simp] theorem execPairStatus_canon (c : Cmd) (s0 : State) : AnswersCanon s0 (execPairStatus c s0) := by simp [execPairStatus]
@[simp] theorem State.coreMiss_keepsCanon (j : Nat) : KeepsCanon (·.coreMiss j) := .of fun s => by simp [State.coreMiss]
@[simp] theorem State.checkIn_keepsCanon (w : Writer) (j : Nat) (v : Word) : KeepsCanon (·.checkIn w j v) :=
  .of fun s => by simp -implicitDefEqProofs [State.checkIn]
@[simp] theorem execPairCheckin_canon (w : Writer) (j : Nat) (v : Word) (s0 : State) : AnswersCanon s0 (execPairCheckin w j v s0) := by
  simp [execPairCheckin]
@[simp] theorem execSupervisionMiss_canon (j : Nat) (s : State) : AnswersCanon s (execSupervisionMiss j s) := by simp [execSupervisionMiss]
@[simp] theorem State.engineDiverge_keepsCanon (n cause main checker : Nat) : KeepsCanon (·.engineDiverge n cause main checker) :=
  .of fun s => by simp [State.engineDiverge]
@[simp] theorem execDivergence_canon (unit cause main checker : Nat) (s : State) : AnswersCanon s (execDivergence unit cause main checker s) := by
  simp [execDivergence]
@[simp] theorem State.dbgRefuse_keepsCanon : KeepsCanon (·.dbgRefuse) := .of fun s => by simp [State.dbgRefuse]
@[simp] theorem State.replayAct_keepsCanon (t kind addr : Nat) (data : Word) : KeepsCanon (·.replayAct t kind addr data) :=
  .of fun s => by simp [State.replayAct]
@[simp] theorem State.dbgSelect_keepsCanon (t : Nat) : KeepsCanon fun s => (s.dbgSelect t).1 := .of fun s => by
  unfold State.dbgSelect
  split <;> simp
@[simp] theorem State.dbgHalt_keepsCanon (t : Nat) : KeepsCanon (·.dbgHalt t) := .of fun s => by simp [State.dbgHalt]
@[simp] theorem State.dbgStep_keepsCanon (t : Nat) : KeepsCanon (·.dbgStep t) := .of fun s => by simp [State.dbgStep]
@[simp] theorem State.dbgResume_keepsCanon (t : Nat) : KeepsCanon (·.dbgResume t) := .of fun s => by simp [State.dbgResume]
@[simp] theorem State.dbgCtrl_keepsCanon (w : Writer) (t : Nat) (act : State → Nat → State) (h : ∀ u k, CanonFrom u (act u k)) :
    KeepsCanon (·.dbgCtrl w t act) :=
  .of fun s => by
    unfold State.dbgCtrl
    split
    · rfl
    · split
      · next u hu => exact ((State.dbgSelect_keepsCanon _).of_pair hu).trans (h u _)
      · next u hu => exact (State.dbgSelect_keepsCanon _).of_pair hu
@[simp] theorem execDbgHalt_canon (w : Writer) (t : Nat) (s0 : State) : AnswersCanon s0 (execDbgHalt w t s0) := by simp [execDbgHalt]
@[simp] theorem execDbgStep_canon (w : Writer) (t : Nat) (s0 : State) : AnswersCanon s0 (execDbgStep w t s0) := by simp [execDbgStep]
@[simp] theorem execDbgResume_canon (w : Writer) (t : Nat) (s0 : State) : AnswersCanon s0 (execDbgResume w t s0) := by simp [execDbgResume]
@[simp] theorem State.dbgAccess_keepsCanon (t : Nat) (write : Bool) (v : Word) : KeepsCanon (·.dbgAccess t write v) :=
  .of fun s => by simp [State.dbgAccess]
@[simp] theorem execDbgMemRead_canon (s : State) : AnswersCanon s (execDbgMemRead s) := by simp [execDbgMemRead]
@[simp] theorem State.dbgMemWrite_keepsCanon (w : Writer) (v : Word) : KeepsCanon (·.dbgMemWrite w v) := .of fun s => by simp [State.dbgMemWrite]
@[simp] theorem execDbgMemWrite_canon (w : Writer) (v : Word) (s0 : State) : AnswersCanon s0 (execDbgMemWrite w v s0) := by simp [execDbgMemWrite]
@[simp] theorem execDbgRegRead_canon (s : State) : AnswersCanon s (execDbgRegRead s) := by simp [execDbgRegRead]
@[simp] theorem State.dbgRegWrite_keepsCanon (w : Writer) (v : Word) : KeepsCanon (·.dbgRegWrite w v) :=
  .of fun s => by simp -implicitDefEqProofs [State.dbgRegWrite]
@[simp] theorem execDbgRegWrite_canon (w : Writer) (v : Word) (s0 : State) : AnswersCanon s0 (execDbgRegWrite w v s0) := by simp [execDbgRegWrite]

/-! ### Sys2Proof/Machine/Ledger.lean -/

@[simp] theorem State.logDropped_keepsCanon : KeepsCanon (·.logDropped) := .of fun s => by simp -implicitDefEqProofs [State.logDropped]
@[simp] theorem State.logRec_keepsCanon (r : Rec) : KeepsCanon (·.logRec r) := .of fun s => by
  unfold State.logRec
  repeat' split
  all_goals simp
@[simp] theorem State.tellDrop_keepsCanon : KeepsCanon (·.tellDrop) := .of fun s => by simp [State.tellDrop]
@[simp] theorem State.ledgerDrain_keepsCanon : KeepsCanon (·.ledgerDrain) := .of fun s => by
  unfold State.ledgerDrain
  split <;> simp
@[simp] theorem execLedgerMramWrite_canon (s : State) : AnswersCanon s (execLedgerMramWrite s) := by simp [execLedgerMramWrite]
@[simp] theorem State.report_keepsCanon (r : Rec) : KeepsCanon (·.report r) := .of fun s => by simp [State.report]
@[simp] theorem State.recaptureEnd_keepsCanon (u : Nat) : KeepsCanon (·.recaptureEnd u) := .of fun s => by simp [State.recaptureEnd]
@[simp] theorem State.noteAct_keepsCanon (r : Rec) : KeepsCanon (·.noteAct r) := .of fun s => by simp [State.noteAct]
@[simp] theorem State.degradeAct_keepsCanon (r : Rec) : KeepsCanon (·.degradeAct r) := .of fun s => by simp [State.degradeAct]
@[simp] theorem State.recAct_keepsCanon (r : Rec) : KeepsCanon (·.recAct r) := .of fun s => by simp [State.recAct]
@[simp] theorem State.showQueue_keepsCanon : KeepsCanon (·.showQueue) := .of fun s => by simp [State.showQueue]
@[simp] theorem State.preempt_keepsCanon (sev : Nat) : KeepsCanon (·.preempt sev) := .of fun s => by
  unfold State.preempt
  split <;> simp
@[simp] theorem State.enqueue_keepsCanon (r : Rec) : KeepsCanon (·.enqueue r) := .of fun s => by simp [State.enqueue]
@[simp] theorem State.receive_keepsCanon (r : Rec) : KeepsCanon (·.receive r) := .of fun s => by simp [State.receive]
@[simp] theorem State.receiveReset_keepsCanon (r : Rec) (written : Nat) : KeepsCanon (·.receiveReset r written) :=
  .of fun s => by simp [State.receiveReset]
@[simp] theorem State.raiseIn_keepsCanon (x : RecIn) : KeepsCanon (·.raiseIn x) := .of fun s => by simp -implicitDefEqProofs [State.raiseIn]
@[simp] theorem execLedgerRecord_canon (r : Option RecIn) (written : Nat) (s0 : State) : AnswersCanon s0 (execLedgerRecord r written s0) := by
  simp only [execLedgerRecord]
  repeat' split
  all_goals simp
@[simp] theorem State.finishRec_keepsCanon : KeepsCanon (·.finishRec) := .of fun s => by
  unfold State.finishRec
  split <;> simp
@[simp] theorem State.startRecord_keepsCanon : KeepsCanon (·.startRecord) := .of fun s => by
  unfold State.startRecord
  split <;> simp
@[simp] theorem execLedgerRecordStart_canon (cut : Bool) (s : State) : AnswersCanon s (execLedgerRecordStart cut s) := by
  simp only [execLedgerRecordStart]
  repeat' split
  all_goals simp
@[simp] theorem State.receiveAll_keepsCanon : KeepsCanon (·.receiveAll) := .of fun s => by simp [State.receiveAll]
@[simp] theorem State.writeOut_keepsCanon : KeepsCanon (·.writeOut) := .of fun s => by simp [State.writeOut]
@[simp] theorem State.writeQueue_keepsCanon : KeepsCanon (·.writeQueue) := .of fun s => by simp [State.writeQueue]
@[simp] theorem State.issueAll_keepsCanon : KeepsCanon (·.issueAll) := .of fun s => by simp [State.issueAll]
@[simp] theorem State.commandReset_keepsCanon : KeepsCanon (·.commandReset) := .of fun s => by simp [State.commandReset]
@[simp] theorem execLogRead_canon (c : Cmd) (s0 : State) : AnswersCanon s0 (execLogRead c s0) := by simp [execLogRead]
@[simp] theorem execLogErase_canon (c : Cmd) (s0 : State) : AnswersCanon s0 (execLogErase c s0) := by simp [execLogErase]
@[simp] theorem execFaultClear_canon (c : Cmd) (s0 : State) : AnswersCanon s0 (execFaultClear c s0) := by simp [execFaultClear]
@[simp] theorem execCommAuth_canon (c : Cmd) (s0 : State) : AnswersCanon s0 (execCommAuth c s0) := by simp [execCommAuth]
@[simp] theorem execCommAuthExpiry_canon (s : State) : AnswersCanon s (execCommAuthExpiry s) := by
  unfold execCommAuthExpiry
  split <;> simp
@[simp] theorem execCommCheck_canon (c : Cmd) (s0 : State) : AnswersCanon s0 (execCommCheck c s0) := by simp [execCommCheck]
@[simp] theorem State.confirmSet_keepsCanon (v : Word) : KeepsCanon (·.confirmSet v) := .of fun s => by simp -implicitDefEqProofs [State.confirmSet]
@[simp] theorem execCommConfirm_canon (c : Cmd) (s0 : State) : AnswersCanon s0 (execCommConfirm c s0) := by simp [execCommConfirm]

/-! ### Sys2Proof/Machine/Ownership.lean -/

@[simp] theorem State.ownerAgent_keepsCanon : KeepsCanon (·.ownerAgent) := .of fun s => by simp [State.ownerAgent]
@[simp] theorem State.changeOwner_keepsCanon (m st prio : Nat) (nonce : Word) : KeepsCanon (·.changeOwner m st prio nonce) :=
  .of fun s => by simp -implicitDefEqProofs [State.changeOwner]
@[simp] theorem State.handEvent_keepsCanon (outcome : Nat) : KeepsCanon (·.handEvent outcome) := .of fun s => by simp [State.handEvent]
@[simp] theorem State.abortOp_keepsCanon (o : Op) : KeepsCanon (·.abortOp o) := .of fun s => by simp [State.abortOp]
@[simp] theorem State.abortB_keepsCanon (m : Nat) : KeepsCanon (·.abortB m) := .of fun s => by simp [State.abortB]
@[simp] theorem State.discardHeld_keepsCanon (m : Nat) : KeepsCanon (·.discardHeld m) := .of fun s => by simp [State.discardHeld]
@[simp] theorem State.openWindow_keepsCanon (barred : Option Nat) : KeepsCanon (·.openWindow barred) := .of fun s => by simp [State.openWindow]
@[simp] theorem State.seizeOwner_keepsCanon (m : Nat) : KeepsCanon (·.seizeOwner m) := .of fun s => by simp [State.seizeOwner]
@[simp] theorem State.handOver_keepsCanon : KeepsCanon (·.handOver) := .of fun s => by simp [State.handOver]
@[simp] theorem State.revert_keepsCanon : KeepsCanon (·.revert) := .of fun s => by simp [State.revert]
@[simp] theorem State.ownerLost_keepsCanon (cause : Nat) : KeepsCanon (·.ownerLost cause) := .of fun s => by simp [State.ownerLost]
@[simp] theorem State.hostGone_keepsCanon (m : Nat) : KeepsCanon (·.hostGone m) := .of fun s => by simp [State.hostGone]
@[simp] theorem execOwnQuery_canon (c : Cmd) (s0 : State) : AnswersCanon s0 (execOwnQuery c s0) := by simp [execOwnQuery]
@[simp] theorem execOwnClaim_canon (c : Cmd) (s0 : State) : AnswersCanon s0 (execOwnClaim c s0) := by simp [execOwnClaim]
@[simp] theorem execOwnHandover_canon (c : Cmd) (s0 : State) : AnswersCanon s0 (execOwnHandover c s0) := by simp [execOwnHandover]
@[simp] theorem execOwnConfirm_canon (c : Cmd) (s0 : State) : AnswersCanon s0 (execOwnConfirm c s0) := by simp [execOwnConfirm]
@[simp] theorem execClaimWindowClose_canon (s : State) : AnswersCanon s (execClaimWindowClose s) := by
  simp only [execClaimWindowClose]
  repeat' split
  all_goals simp
@[simp] theorem State.pass_keepsCanon : KeepsCanon (·.pass) := .of fun s => by simp [State.pass]
@[simp] theorem State.tryPass_keepsCanon : KeepsCanon (·.tryPass) := .of fun s => by simp [State.tryPass]
@[simp] theorem execOwnershipPass_canon (s : State) : AnswersCanon s (execOwnershipPass s) := by simp [execOwnershipPass]
@[simp] theorem execStewardSuccessorConfirm_canon (s : State) : AnswersCanon s (execStewardSuccessorConfirm s) := by
  simp [execStewardSuccessorConfirm]
@[simp] theorem execHandoverHoldExpiry_canon (s : State) : AnswersCanon s (execHandoverHoldExpiry s) := by simp [execHandoverHoldExpiry]
@[simp] theorem execHandoverConfirmTimeout_canon (s : State) : AnswersCanon s (execHandoverConfirmTimeout s) := by
  simp [execHandoverConfirmTimeout]
@[simp] theorem State.beat_keepsCanon (m : Nat) (v : Word) : KeepsCanon (·.beat m v) := .of fun s => by simp -implicitDefEqProofs [State.beat]
@[simp] theorem execHeartbeat_canon (w : Writer) (m : Nat) (v : Word) (s0 : State) : AnswersCanon s0 (execHeartbeat w m v s0) := by
  simp [execHeartbeat]
@[simp] theorem execHeartbeatTimeout_canon (s : State) : AnswersCanon s (execHeartbeatTimeout s) := by simp [execHeartbeatTimeout]

/-! ### Sys2Proof/Machine/Links.lean -/

@[simp] theorem execPcieLinkUp_canon (port gen : Nat) (x2 : Bool) (s : State) : AnswersCanon s (execPcieLinkUp port gen x2 s) := by
  simp -implicitDefEqProofs [execPcieLinkUp]
@[simp] theorem State.portDown_keepsCanon (p : Nat) : KeepsCanon (·.portDown p) := .of fun s => by simp [State.portDown]
@[simp] theorem State.linkLoss_keepsCanon (p : Nat) : KeepsCanon (·.linkLoss p) := .of fun s => by simp [State.linkLoss]
@[simp] theorem execPcieLinkDown_canon (port : Nat) (s : State) : AnswersCanon s (execPcieLinkDown port s) := by simp [execPcieLinkDown]
@[simp] theorem execPerstAssert_canon (port : Nat) (s : State) : AnswersCanon s (execPerstAssert port s) := by simp [execPerstAssert]
@[simp] theorem State.clockLost_keepsCanon (clk : Nat) : KeepsCanon (·.clockLost clk) := .of fun s => by
  unfold State.clockLost
  split <;> simp
@[simp] theorem execClockMonitorTrip_canon (trips : Nat) (s : State) : AnswersCanon s (execClockMonitorTrip trips s) := by
  simp [execClockMonitorTrip]
@[simp] theorem State.toChannel_keepsCanon (ch : Nat) (bs : List Byte) (drop : Fld) : KeepsCanon (·.toChannel ch bs drop) := .of fun s => by
  unfold State.toChannel
  split
  · next t h => exact (State.storeFrame_keepsCanon _ _).of_pair h
  · next t h => simp [(State.storeFrame_keepsCanon _ _).of_pair h]
@[simp] theorem State.toTally_keepsCanon (c path : Nat) (bs : List Byte) (drop : Fld) : KeepsCanon (·.toTally c path bs drop) :=
  .of fun s => by simp [State.toTally]
@[simp] theorem execEthFrameRx_canon (m : Nat) (accept : Bool) (frame : List Byte) (s : State) :
    AnswersCanon s (execEthFrameRx m accept frame s) := by
  simp only [execEthFrameRx, answersCanon_ite, answersCanon_next]
  split
  · simp
  · split
    · simp
    · split
      · split <;> simp
      · split
        · simp
        · split
          · split
            · next t h => simp [(State.storeFrame_keepsCanon _ _).of_pair h]
            · next t h => simp [(State.storeFrame_keepsCanon _ _).of_pair h]
          · simp
@[simp] theorem execEthLinkUp_canon (m : Nat) (s : State) : AnswersCanon s (execEthLinkUp m s) := by simp [execEthLinkUp]
@[simp] theorem execEthLinkDown_canon (m : Nat) (s : State) : AnswersCanon s (execEthLinkDown m s) := by simp [execEthLinkDown]
@[simp] theorem State.canCounts_keepsCanon (k tec rec : Nat) : KeepsCanon (·.canCounts k tec rec) := .of fun s => by simp [State.canCounts]
@[simp] theorem execCanFrameRx_canon (k id : Nat) (xtd hit : Bool) (data : List Byte) (tec rec : Nat) (s : State) :
    AnswersCanon s (execCanFrameRx k id xtd hit data tec rec s) := by
  simp only [execCanFrameRx]
  repeat' split
  all_goals simp
@[simp] theorem execCanBusOff_canon (k tec rec : Nat) (s : State) : AnswersCanon s (execCanBusOff k tec rec s) := by simp [execCanBusOff]
@[simp] theorem execCanBusOffRecovery_canon (k : Nat) (s : State) : AnswersCanon s (execCanBusOffRecovery k s) := by simp [execCanBusOffRecovery]
@[simp] theorem State.showOffset_keepsCanon (o : Int) : KeepsCanon (·.showOffset o) := .of fun s => by simp [State.showOffset]
@[simp] theorem State.setLocked_keepsCanon (v : Bool) : KeepsCanon (·.setLocked v) := .of fun s => by simp [State.setLocked]
@[simp] theorem State.timeLost_keepsCanon (ns : Int) : KeepsCanon (·.timeLost ns) := .of fun s => by simp [State.timeLost]
@[simp] theorem execTimeSyncMessage_canon (path : Nat) (offset : Int) (s : State) : AnswersCanon s (execTimeSyncMessage path offset s) := by
  simp [execTimeSyncMessage]
@[simp] theorem execTimeUnsync_canon (offset : Option Int) (s : State) : AnswersCanon s (execTimeUnsync offset s) := by
  unfold execTimeUnsync
  repeat' split
  all_goals simp
@[simp] theorem execGlTimeSend_canon (p : Nat) (s : State) : AnswersCanon s (execGlTimeSend p s) := by simp [execGlTimeSend]
@[simp] theorem State.glLocal_keepsCanon (p cls tag : Nat) (payload : List Byte) : KeepsCanon (·.glLocal p cls tag payload) := .of fun s => by
  unfold State.glLocal
  repeat' split
  all_goals simp
@[simp] theorem execGlFrameRx_canon (p tag : Nat) (frame : List Byte) (s : State) : AnswersCanon s (execGlFrameRx p tag frame s) := by
  simp [execGlFrameRx]
@[simp] theorem execGlLinkTrained_canon (p : Nat) (s : State) : AnswersCanon s (execGlLinkTrained p s) := by simp [execGlLinkTrained]
@[simp] theorem execGlPortDown_canon (p : Nat) (s : State) : AnswersCanon s (execGlPortDown p s) := by simp [execGlPortDown]

/-! ### Sys2Proof/Machine/RegWrite.lean -/

@[simp] theorem State.after_keepsCanon (s : State) (o : Out) (h : AnswersCanon s o) : CanonFrom s (s.after o) := by
  unfold State.after
  split
  · next t => exact h t rfl
  · rfl
@[simp] theorem State.afterWrite_keepsCanon (b : State) (n : RegName) (i : Nat) : KeepsCanon (·.afterWrite b n i) := .of fun s => by
  unfold State.afterWrite
  repeat' split
  all_goals simp
@[simp] theorem State.plainWrite_keepsCanon (w : Writer) (a : Nat) (v : Word) (f : RegFam) (i : Nat) : KeepsCanon (·.plainWrite w a v f i) :=
  .of fun s => by simp [State.plainWrite]
@[simp] theorem State.thresholdWrite_keepsCanon (w : Writer) (a : Nat) (v : Word) (f : RegFam) (i : Nat) : KeepsCanon (·.thresholdWrite w a v f i) :=
  .of fun s => by simp [State.thresholdWrite]
@[simp] theorem State.dclWrite_keepsCanon (w : Writer) (a : Nat) (v : Word) (f : RegFam) (i : Nat) : KeepsCanon (·.dclWrite w a v f i) :=
  .of fun s => by simp [State.dclWrite]
@[simp] theorem State.feCtrlWrite_keepsCanon (w : Writer) (n : Nat) (v : Word) : KeepsCanon (·.feCtrlWrite w n v) :=
  .of fun s => by simp [State.feCtrlWrite]
@[simp] theorem State.convCtrlWrite_keepsCanon (w : Writer) (v : Word) : KeepsCanon (·.convCtrlWrite w v) :=
  .of fun s => by simp [State.convCtrlWrite]
@[simp] theorem State.syncCfgWrite_keepsCanon (w : Writer) (a : Nat) (v : Word) (f : RegFam) (i : Nat) : KeepsCanon (·.syncCfgWrite w a v f i) :=
  .of fun s => by simp [State.syncCfgWrite]
@[simp] theorem State.seqCtrlWrite_keepsCanon (w : Writer) (k : Nat) (v : Word) : KeepsCanon (·.seqCtrlWrite w k v) :=
  .of fun s => by simp [State.seqCtrlWrite]
@[simp] theorem State.dbgCtrlWrite_keepsCanon (w : Writer) (v : Word) : KeepsCanon (·.dbgCtrlWrite w v) := .of fun s => by simp [State.dbgCtrlWrite]
@[simp] theorem State.ringWord_keepsCanon (w : Writer) (m : Nat) (f : Ring → Ring × Bool) : KeepsCanon (·.ringWord w m f) := .of fun s => by
  unfold State.ringWord
  repeat' split
  all_goals simp
@[simp] theorem State.regWriteAt_keepsCanon (w : Writer) (a : Nat) (v : Word) (f : RegFam) (i : Nat) : KeepsCanon (·.regWriteAt w a v f i) :=
  .of fun s => by
    unfold State.regWriteAt
    split <;> simp -implicitDefEqProofs
@[simp] theorem State.regWrite_keepsCanon (w : Writer) (a : Nat) (v : Word) : KeepsCanon (·.regWrite w a v) := .of fun s => by
  unfold State.regWrite
  repeat' split
  all_goals simp
@[simp] theorem State.portWrite_keepsCanon (w : Writer) (addr : Nat) (v : Word) : KeepsCanon (·.portWrite w addr v) := .of fun s => by
  unfold State.portWrite
  split <;> simp
@[simp] theorem execRegisterWrite_canon (w : Writer) (addr : Nat) (v : Word) (s : State) : AnswersCanon s (execRegisterWrite w addr v s) := by
  simp [execRegisterWrite]
@[simp] theorem State.svcWrites_keepsCanon (a n : Nat) (bs : List Byte) : KeepsCanon (·.svcWrites a n bs) := .of fun s => by
  induction n generalizing s a bs with
  | zero => rfl
  | succ n ih => exact CanonFrom.trans (by simp) (ih _ _ _)
@[simp] theorem State.svcServe_keepsCanon (req : List Byte) : KeepsCanon fun s => (s.svcServe req).1 := .of fun s => by
  simp only [State.svcServe]
  repeat' split
  all_goals simp
@[simp] theorem execServiceRequest_canon (s : State) : AnswersCanon s (execServiceRequest s) := by
  unfold execServiceRequest
  split
  · simp
  · dsimp only
    split
    · simp
    · split
      · next t h =>
        have ht : CanonFrom s t := .of_pair (by simp) h
        simp [ht]
      · next t b h =>
        have ht : CanonFrom s t := .of_pair (by simp) h
        simp [ht]

/-! ### Sys2Proof/Machine/Modes.lean -/

@[simp] theorem State.judge_keepsCanon (kind prec code : Nat) : KeepsCanon (·.judge kind prec code) := .of fun s => by simp [State.judge]
@[simp] theorem State.modeSet_keepsCanon (fromCode : Nat) (dest : Mode) (kind code : Nat) : KeepsCanon (·.modeSet fromCode dest kind code) :=
  .of fun s => by simp -implicitDefEqProofs [State.modeSet]
@[simp] theorem State.modeEnables_keepsCanon : KeepsCanon (·.modeEnables) := .of fun s => by simp [State.modeEnables]
@[simp] theorem State.modeRights_keepsCanon : KeepsCanon (·.modeRights) := .of fun s => by simp [State.modeRights]
@[simp] theorem State.modeCharger_keepsCanon (old : Mode) : KeepsCanon (·.modeCharger old) := .of fun s => by simp [State.modeCharger]
@[simp] theorem State.modeAborts_keepsCanon : KeepsCanon (·.modeAborts) := .of fun s => by simp [State.modeAborts]
@[simp] theorem State.degrFirst_keepsCanon : KeepsCanon (·.degrFirst) := .of fun s => by simp [State.degrFirst]
@[simp] theorem State.startEngines_keepsCanon : KeepsCanon (·.startEngines) := .of fun s => by simp [State.startEngines]
@[simp] theorem State.modeEffects_keepsCanon (old : Mode) : KeepsCanon (·.modeEffects old) := .of fun s => by simp [State.modeEffects]
@[simp] theorem State.judgeHeld_keepsCanon : KeepsCanon (·.judgeHeld) := .of fun s => by simp [State.judgeHeld]
@[simp] theorem State.hibernate_keepsCanon : KeepsCanon (·.hibernate) := .of fun s => by simp [State.hibernate]
@[simp] theorem execModeTransitionEnd_canon (drop : Nat) (fault : Bool) (s : State) : AnswersCanon s (execModeTransitionEnd drop fault s) := by
  unfold execModeTransitionEnd
  split <;> simp
@[simp] theorem execModeStatus_canon (c : Cmd) (s0 : State) : AnswersCanon s0 (execModeStatus c s0) := by simp [execModeStatus]
@[simp] theorem State.acceptRequest_keepsCanon (dest : Mode) (option : Nat) : KeepsCanon (·.acceptRequest dest option) :=
  .of fun s => by simp [State.acceptRequest]
@[simp] theorem State.triggersFirst_keepsCanon : KeepsCanon (·.triggersFirst) := .of fun s => by simp [State.triggersFirst]
@[simp] theorem execModeRequest_canon (c : Cmd) (s : State) : AnswersCanon s (execModeRequest c s) := by
  refine answersCanon_command _ _ _ _ ?_
  extract_lets target option s'
  have h : CanonFrom s s' := by simp [s']
  iterate 6
    split
    · simp [refuse, h]
  split <;> simp [refuse, h]
@[simp] theorem execParkEngage_canon (c : Cmd) (s0 : State) : AnswersCanon s0 (execParkEngage c s0) := by simp [execParkEngage]
@[simp] theorem execParkRelease_canon (c : Cmd) (s0 : State) : AnswersCanon s0 (execParkRelease c s0) := by simp [execParkRelease]
@[simp] theorem execSafeStopRequest_canon (c : Cmd) (s0 : State) : AnswersCanon s0 (execSafeStopRequest c s0) := by simp [execSafeStopRequest]
@[simp] theorem execSysReset_canon (c : Cmd) (s0 : State) : AnswersCanon s0 (execSysReset c s0) := by simp [execSysReset]
@[simp] theorem execDegradedTimerExpiry_canon (s : State) : AnswersCanon s (execDegradedTimerExpiry s) := by simp [execDegradedTimerExpiry]
@[simp] theorem execDegradedTimer_canon (s : State) : AnswersCanon s (execDegradedTimer s) := by simp [execDegradedTimer]

/-! ### Sys2Proof/Machine/Supply.lean -/

@[simp] theorem State.setGood_keepsCanon (k : Nat) (v : Bool) : KeepsCanon (·.setGood k v) := .of fun s => by
  unfold State.setGood
  split <;> simp
@[simp] theorem State.backToHibernate_keepsCanon : KeepsCanon (·.backToHibernate) := .of fun s => by simp [State.backToHibernate]
@[simp] theorem State.railsUp_keepsCanon : KeepsCanon (·.railsUp) := .of fun s => by simp [State.railsUp]
@[simp] theorem State.waitRails_keepsCanon : KeepsCanon (·.waitRails) := .of fun s => by simp [State.waitRails]
@[simp] theorem execVstbyRise_canon (resetN : Bool) (straps wake : Nat) (s : State) : AnswersCanon s (execVstbyRise resetN straps wake s) := by
  simp [execVstbyRise]
@[simp] theorem execSupplyGood_canon (supply : Nat) (s : State) : AnswersCanon s (execSupplyGood supply s) := by simp [execSupplyGood]
@[simp] theorem State.powerOff_keepsCanon : KeepsCanon (·.powerOff) := .of fun s h => by
  have hc := State.cleared_keepsCanon.apply s h
  rw [State.canonical_iff] at hc ⊢
  exact ⟨hc.1, rfl⟩
@[simp] theorem execSupplyLost_canon (supply : Nat) (s : State) : AnswersCanon s (execSupplyLost supply s) := by simp [execSupplyLost]
@[simp] theorem execRailWaitExpiry_canon (s : State) : AnswersCanon s (execRailWaitExpiry s) := by simp [execRailWaitExpiry]
@[simp] theorem execResetPin_canon (s : State) : AnswersCanon s (execResetPin s) := by
  unfold execResetPin
  split <;> simp
@[simp] theorem execStrapChangeDetected_canon (live : Nat) (s : State) : AnswersCanon s (execStrapChangeDetected live s) := by
  simp [execStrapChangeDetected]
@[simp] theorem State.wake_keepsCanon : KeepsCanon (·.wake) := .of fun s => by simp [State.wake]
@[simp] theorem execWakeEvent_canon (pin : Option (Nat × Bool)) (s : State) : AnswersCanon s (execWakeEvent pin s) := by
  unfold execWakeEvent
  split <;> simp -implicitDefEqProofs
@[simp] theorem execWakeTimerExpiry_canon (s : State) : AnswersCanon s (execWakeTimerExpiry s) := by simp -implicitDefEqProofs [execWakeTimerExpiry]
@[simp] theorem execEarlyWakeDelayExpiry_canon (s : State) : AnswersCanon s (execEarlyWakeDelayExpiry s) := by simp [execEarlyWakeDelayExpiry]

/-! ### Sys2Proof/Machine/Boot.lean -/

@[simp] theorem State.bootBegin_keepsCanon (b : BootIn) : KeepsCanon (·.bootBegin b) := .of fun s => by simp [State.bootBegin]
@[simp] theorem State.showWear_keepsCanon : KeepsCanon (·.showWear) := .of fun s => by simp [State.showWear]
@[simp] theorem State.bootStore_keepsCanon (b : BootIn) : KeepsCanon (·.bootStore b) := .of fun s0 => by simp [State.bootStore]
@[simp] theorem State.bootLanding_keepsCanon : KeepsCanon (·.bootLanding) := .of fun s => by simp -implicitDefEqProofs [State.bootLanding]
@[simp] theorem State.bootComm_keepsCanon (b : BootIn) : KeepsCanon (·.bootComm b) := .of fun s => by
  unfold State.bootComm
  dsimp only
  split <;> simp -implicitDefEqProofs
@[simp] theorem State.loadReg_keepsCanon (a : Nat) (v : Word) : KeepsCanon (·.loadReg a v) := .of fun s => by
  unfold State.loadReg
  split <;> simp
@[simp] theorem State.loadTally_keepsCanon : KeepsCanon (·.loadTally) := .of fun s => by simp [State.loadTally]
@[simp] theorem State.loadFollow_keepsCanon : KeepsCanon (·.loadFollow) := .of fun s => by simp [State.loadFollow]
@[simp] theorem State.loadSet_keepsCanon : KeepsCanon (·.loadSet) := .of fun s => by simp [State.loadSet]
@[simp] theorem State.loadNone_keepsCanon : KeepsCanon (·.loadNone) := .of fun s => by simp [State.loadNone]
@[simp] theorem State.loadFactory_keepsCanon : KeepsCanon (·.loadFactory) := .of fun s => by simp [State.loadFactory]
@[simp] theorem State.setupConv_keepsCanon : KeepsCanon (·.setupConv) := .of fun s => by simp [State.setupConv]
@[simp] theorem State.setupCharger_keepsCanon : KeepsCanon (·.setupCharger) := .of fun s => by simp [State.setupCharger]
@[simp] theorem State.setupMotors_keepsCanon : KeepsCanon (·.setupMotors) := .of fun s => by simp [State.setupMotors]
@[simp] theorem State.bootLoad_keepsCanon : KeepsCanon (·.bootLoad) := .of fun s => by simp [State.bootLoad]
@[simp] theorem State.bootLog_keepsCanon : KeepsCanon (·.bootLog) := .of fun s => by simp [State.bootLog]
@[simp] theorem State.flushAll_keepsCanon : KeepsCanon (·.flushAll) := .of fun s => by simp [State.flushAll]
@[simp] theorem State.bootEnd_keepsCanon (b : BootIn) : KeepsCanon (·.bootEnd b) := .of fun s => by simp [State.bootEnd]
@[simp] theorem State.bootRecords_keepsCanon (b : BootIn) : KeepsCanon (·.bootRecords b) := .of fun s => by simp [State.bootRecords]
@[simp] theorem State.bootNoRuntime_keepsCanon : KeepsCanon (·.bootNoRuntime) := .of fun s => by simp [State.bootNoRuntime]
@[simp] theorem execBootStart_canon (b : BootIn) (s : State) : AnswersCanon s (execBootStart b s) := by simp [execBootStart]

/-! ### Sys2Proof/Machine/Pairing.lean -/

@[simp] theorem State.windowCounts_keepsCanon (k : Nat) (x : WindowIn) : KeepsCanon (·.windowCounts k x) := .of fun s => by simp [State.windowCounts]
@[simp] theorem State.releaseWindow_keepsCanon (k : Nat) (x : WindowIn) : KeepsCanon (·.releaseWindow k x) :=
  .of fun s => by simp [State.releaseWindow]
@[simp] theorem State.wardenCanary_keepsCanon (k : Nat) (g : GateIn) : KeepsCanon (·.wardenCanary k g) := .of fun s => by simp [State.wardenCanary]
@[simp] theorem execWardenWindowClose_canon (k : Nat) (x : WindowIn) (s : State) : AnswersCanon s (execWardenWindowClose k x s) := by
  unfold execWardenWindowClose
  repeat' split
  all_goals simp

/-! ### The dispatch -/

/-- The state that a command answers is in canonical form if the one it runs on is. -/
theorem exec_canon (c : Instr) (s : State) : AnswersCanon s (exec c s) := by
  cases c <;> simp [exec]

theorem idle_canonFrom (s : State) : CanonFrom s (idle s) := by simp [idle]

end Sys2Proof.Machine

open Sys2Proof.Machine in
/-- Settles O59: on an empty queue only time passes, and with a command at its front the state that `exec` runs on differs in the queue alone. -/
theorem stepKeepsCanonical : Obligations.StepKeepsCanonical := by
  intro s t hs ht
  cases hq : s.pending with
  | nil =>
    rw [step_of_empty s hq] at ht
    cases ht
    exact idle_canonFrom s hs
  | cons c rest =>
    rw [step_of_waiting hq] at ht
    exact exec_canon c _ t ht hs
end

section
/-! SUPPORT. Bank power: the requests of the sixteen banks of a register, and retention of an idle bank (R139, R140, R464). -/

namespace Sys2Proof.Machine

/-! ### A fold that meets one member's unit once -/

/-- Where the steps of the other members leave what `g` reads, a fold makes of it what the step of `a` makes of a state that reads as the first. -/
theorem State.each_at {α β : Type} (g : State → β) {f : State → α → State} {a : α} {l : List α} (hn : l.Nodup) (ha : a ∈ l)
    (hf : ∀ b ∈ l, b ≠ a → ∀ t, g (f t b) = g t) (s : State) : ∃ t, g t = g s ∧ g (s.each l f) = g (f t a) := by
  have others (m : List α) (hm : ∀ b ∈ m, b ∈ l ∧ b ≠ a) (t : State) : g (t.each m f) = g t :=
    State.each_rel (r := fun t u => g u = g t) (fun _ => rfl) (fun h k => k.trans h) m (fun b hb => hf b (hm b hb).1 (hm b hb).2) t
  obtain ⟨l1, l2, rfl⟩ := List.append_of_mem ha
  have hd := List.nodup_append.1 hn
  have ha2 : a ∉ l2 := (List.nodup_cons.1 hd.2.1).1
  refine ⟨s.each l1 f, others l1 (fun b hb => ⟨by simp [hb], hd.2.2 b hb a (by simp)⟩) s, ?_⟩
  have hs : s.each (l1 ++ a :: l2) f = (f (s.each l1 f) a).each l2 f := by simp [State.each]
  rw [hs]
  exact others l2 (fun b hb => ⟨by simp [hb], fun h => ha2 (h ▸ hb)⟩) _

/-! ### One field of a request -/

theorem State.bankState_eq (s : State) (k : Nat) {j : Nat} (hj : j < 16) : s.bankState (16 * k + j) = s.get (R.STORE_BANK_STATE_STATE k j) := by
  have hk : (16 * k + j) / 16 = k := by omega
  have hm : (16 * k + j) % 16 = j := by omega
  rw [State.bankState, hk, hm]

theorem State.setBankState_eq (s : State) (k : Nat) {j : Nat} (hj : j < 16) (v : Nat) :
    s.setBankState (16 * k + j) v = s.put (R.STORE_BANK_STATE_STATE k j) v := by
  have hk : (16 * k + j) / 16 = k := by omega
  have hm : (16 * k + j) % 16 = j := by omega
  rw [State.setBankState, hk, hm]

/-- What a power request makes of bank `j` of its register: the body of `execBankPowerRequest`. -/
def State.askBank (s : State) (k : Nat) (v : Word) (j : Nat) : State :=
  let r := bitsOf v (2 * j + 1) (2 * j)
  if 2 ≤ r then s.putB R.STORE_STATUS_PWR_REFUSED true
  else
    let t := s.put (R.STORE_BANK_PWR_REQ k j) r
    if r = 0 then t.wakeBank (16 * k + j) else t

theorem execBankPowerRequest_steward {s : State} {k : Nat} (v : Word) (hr : s.running = true) (hk : k < 2) :
    execBankPowerRequest .steward k v s = .next (s.each (List.range 16) fun t j => t.askBank k v j) := by
  rw [execBankPowerRequest, s.windowWrite_right .steward _ _ hr rfl rfl]
  have h2 : ¬ 2 ≤ k := by omega
  simp [State.mayWrite, h2, State.askBank]

theorem execBankPowerRequest_none {s : State} {w : Sys2Proof.Writer} {k : Nat} (v : Word) (hw : w ≠ .service)
    (h : s.mayWrite w 0x06 = false ∨ 2 ≤ k) : execBankPowerRequest w k v s = .next s :=
  State.windowWrite_idle _ _ _ _ hw (by rcases h with h | h <;> simp [h])

theorem execBankPowerRequest_refused {s : State} {k : Nat} (v : Word) (hr : s.running = true) (h : s.mayWrite .service 0x06 = false) :
    execBankPowerRequest .service k v s = .next (s.satInc R.OWN_SVC_STAT_REFUSED) :=
  s.windowWrite_refused 0x06 _ hr h

section

variable (s : State) (k : Nat) (v : Word) {j : Nat}

theorem State.askBank_on (hv : bitsOf v (2 * j + 1) (2 * j) = 0) :
    s.askBank k v j = (s.put (R.STORE_BANK_PWR_REQ k j) 0).wakeBank (16 * k + j) := by simp [State.askBank, hv]

theorem State.askBank_ret (hv : bitsOf v (2 * j + 1) (2 * j) = 1) : s.askBank k v j = s.put (R.STORE_BANK_PWR_REQ k j) 1 := by
  simp [State.askBank, hv]

theorem State.askBank_off (hv : 2 ≤ bitsOf v (2 * j + 1) (2 * j)) : s.askBank k v j = s.putB R.STORE_STATUS_PWR_REFUSED true := by
  simp [State.askBank, hv]

/-- A field that shares no bit with the bank's request and state keeps its value, PWR_REFUSED where the request is not refused. -/
theorem State.askBank_get (hj : j < 16) (F : Fld) (hq : (R.STORE_BANK_PWR_REQ k j).Apart F) (hst : (R.STORE_BANK_STATE_STATE k j).Apart F)
    (hp : 2 ≤ bitsOf v (2 * j + 1) (2 * j) → R.STORE_STATUS_PWR_REFUSED.Apart F) : (s.askBank k v j).get F = s.get F := by
  unfold State.askBank
  dsimp only
  split
  · next h => exact s.get_put_of_apart _ F _ (hp h)
  · split
    · unfold State.wakeBank
      split
      · rw [State.setBankState_eq _ k hj, State.get_put_of_apart _ _ F _ hst, State.get_put_of_apart _ _ F _ hq]
      · exact s.get_put_of_apart _ F _ hq
    · exact s.get_put_of_apart _ F _ hq

theorem State.askBank_regsOnly : RegsOnly s (s.askBank k v j) := by
  unfold State.askBank
  dsimp only
  split
  · exact s.putB_regsOnly _ _
  · split
    · unfold State.wakeBank
      split
      · exact (s.put_regsOnly _ _).trans (State.put_regsOnly _ _ _)
      · exact s.put_regsOnly _ _
    · exact s.put_regsOnly _ _

end

/-- REQ and STATE of bank `j` of register `k`. -/
def State.bankView (k j : Nat) (s : State) : Nat × Nat := (s.get (R.STORE_BANK_PWR_REQ k j), s.get (R.STORE_BANK_STATE_STATE k j))

theorem State.askBank_bankView (s : State) {k i j : Nat} (v : Word) (hk : k < 2) (hi : i < 16) (h : i ≠ j) :
    (s.askBank k v i).bankView k j = s.bankView k j := by
  have hq := s.askBank_get k v hi (R.STORE_BANK_PWR_REQ k j)
    (by simp only [Fld.Apart, R.STORE_BANK_PWR_REQ]; omega)
    (by simp only [Fld.Apart, R.STORE_BANK_PWR_REQ, R.STORE_BANK_STATE_STATE, R.STORE_BANK_PWR, R.STORE_BANK_STATE]; omega)
    (fun _ => .inl (by simp only [R.STORE_BANK_PWR_REQ, R.STORE_STATUS_PWR_REFUSED, R.STORE_BANK_PWR, R.STORE_STATUS]; omega))
  have hst := s.askBank_get k v hi (R.STORE_BANK_STATE_STATE k j)
    (by simp only [Fld.Apart, R.STORE_BANK_PWR_REQ, R.STORE_BANK_STATE_STATE, R.STORE_BANK_PWR, R.STORE_BANK_STATE]; omega)
    (by simp only [Fld.Apart, R.STORE_BANK_STATE_STATE]; omega)
    (fun _ => .inl (by simp only [R.STORE_BANK_STATE_STATE, R.STORE_STATUS_PWR_REFUSED, R.STORE_BANK_STATE, R.STORE_STATUS]; omega))
  simp only [State.bankView, hq, hst]

/-- Of the sixteen steps the bank's own decides what its two fields read. -/
theorem State.askBanks_bankView (s : State) {k j : Nat} (v : Word) (hk : k < 2) (hj : j < 16) :
    ∃ t : State, t.bankView k j = s.bankView k j ∧
      (s.each (List.range 16) fun t i => t.askBank k v i).bankView k j = (t.askBank k v j).bankView k j :=
  State.each_at (State.bankView k j) List.nodup_range (List.mem_range.2 hj)
    (fun _ hi hne t => t.askBank_bankView v hk (List.mem_range.1 hi) hne) s

section

variable (s : State) {k j : Nat} (hj : j < 16)
include hj

theorem State.bankView_putReq {r : Nat} (hr : r < 4) :
    (s.put (R.STORE_BANK_PWR_REQ k j) r).bankView k j = (r, s.get (R.STORE_BANK_STATE_STATE k j)) := by
  have hw : 2 * j + 1 + 1 - 2 * j = 2 := by omega
  have hq : (s.put (R.STORE_BANK_PWR_REQ k j) r).get (R.STORE_BANK_PWR_REQ k j) = r := by
    rw [State.get_put_same _ _ _ (by simp only [R.STORE_BANK_PWR_REQ]; omega) (by simp only [R.STORE_BANK_PWR_REQ]; omega)]
    simp only [R.STORE_BANK_PWR_REQ, hw]
    omega
  rw [State.bankView, hq,
    s.get_put_ne _ _ _ (by simp only [R.STORE_BANK_PWR_REQ, R.STORE_BANK_STATE_STATE, R.STORE_BANK_PWR, R.STORE_BANK_STATE]; omega)]

theorem State.bankView_wakeBank :
    (s.wakeBank (16 * k + j)).bankView k j =
      (s.get (R.STORE_BANK_PWR_REQ k j), if s.get (R.STORE_BANK_STATE_STATE k j) = 1 then 0 else s.get (R.STORE_BANK_STATE_STATE k j)) := by
  unfold State.wakeBank
  rw [State.bankState_eq _ k hj, State.setBankState_eq _ k hj]
  split
  · rw [State.bankView,
      s.get_put_ne _ _ _ (by simp only [R.STORE_BANK_PWR_REQ, R.STORE_BANK_STATE_STATE, R.STORE_BANK_PWR, R.STORE_BANK_STATE]; omega),
      State.get_put_same _ _ _ (by simp only [R.STORE_BANK_STATE_STATE]; omega) (by simp only [R.STORE_BANK_STATE_STATE]; omega), Nat.zero_mod]
  · rfl

/-- A field that asks for ON has it, and a bank in RET wakes. -/
theorem State.askBanks_on (hk : k < 2) (v : Word) (hv : bitsOf v (2 * j + 1) (2 * j) = 0) :
    (s.each (List.range 16) fun t i => t.askBank k v i).bankView k j =
      (0, if s.get (R.STORE_BANK_STATE_STATE k j) = 1 then 0 else s.get (R.STORE_BANK_STATE_STATE k j)) := by
  obtain ⟨t, ht, he⟩ := s.askBanks_bankView v hk hj
  obtain ⟨_, hst⟩ := Prod.mk.inj ht
  have hp := t.bankView_putReq hj (k := k) (r := 0) (by omega)
  obtain ⟨hq, hs⟩ := Prod.mk.inj hp
  rw [he, t.askBank_on k v hv, State.bankView_wakeBank _ hj, hq, hs, hst]

/-- A field that asks for RET has it, and the bank stays as it is. -/
theorem State.askBanks_ret (hk : k < 2) (v : Word) (hv : bitsOf v (2 * j + 1) (2 * j) = 1) :
    (s.each (List.range 16) fun t i => t.askBank k v i).bankView k j = (1, s.get (R.STORE_BANK_STATE_STATE k j)) := by
  obtain ⟨t, ht, he⟩ := s.askBanks_bankView v hk hj
  rw [he, t.askBank_ret k v hv, t.bankView_putReq hj (by omega), (Prod.mk.inj ht).2]

/-- A field that asks for OFF, or holds the reserved value, leaves both. -/
theorem State.askBanks_off (hk : k < 2) (v : Word) (hv : 2 ≤ bitsOf v (2 * j + 1) (2 * j)) :
    (s.each (List.range 16) fun t i => t.askBank k v i).bankView k j = s.bankView k j := by
  obtain ⟨t, ht, he⟩ := s.askBanks_bankView v hk hj
  rw [he, t.askBank_off k v hv, ← ht]
  have hne (F : Fld) (h : F.addr ≠ R.STORE_STATUS) : (t.putB R.STORE_STATUS_PWR_REFUSED true).get F = t.get F := t.get_put_ne _ F _ h
  rw [State.bankView, hne, hne]
  · rfl
  · simp only [R.STORE_BANK_STATE_STATE, R.STORE_BANK_STATE, R.STORE_STATUS]; omega
  · simp only [R.STORE_BANK_PWR_REQ, R.STORE_BANK_PWR, R.STORE_STATUS]; omega

end

/-- PWR_REFUSED, once set, stays set through every step. -/
theorem State.askBank_refused (s : State) {k i : Nat} (v : Word) (hk : k < 2) (hi : i < 16) (h : s.flag R.STORE_STATUS_PWR_REFUSED = true) :
    (s.askBank k v i).flag R.STORE_STATUS_PWR_REFUSED = true := by
  by_cases hv : 2 ≤ bitsOf v (2 * i + 1) (2 * i)
  · rw [s.askBank_off k v hv, State.flag_putB_same _ _ _ rfl (by decide)]
  · rw [State.flag, s.askBank_get k v hi _
      (.inl (by simp only [R.STORE_BANK_PWR_REQ, R.STORE_STATUS_PWR_REFUSED, R.STORE_BANK_PWR, R.STORE_STATUS]; omega))
      (.inl (by simp only [R.STORE_BANK_STATE_STATE, R.STORE_STATUS_PWR_REFUSED, R.STORE_BANK_STATE, R.STORE_STATUS]; omega))
      (fun hv' => absurd hv' hv)]
    exact h

/-- One refused field sets PWR_REFUSED. -/
theorem State.askBanks_refused (s : State) {k j : Nat} (v : Word) (hk : k < 2) (hj : j < 16) (hv : 2 ≤ bitsOf v (2 * j + 1) (2 * j)) :
    (s.each (List.range 16) fun t i => t.askBank k v i).flag R.STORE_STATUS_PWR_REFUSED = true := by
  obtain ⟨l1, l2, hl⟩ := List.append_of_mem (List.mem_range.2 hj)
  have hs : (s.each (List.range 16) fun t i => t.askBank k v i) =
      ((s.each l1 fun t i => t.askBank k v i).askBank k v j).each l2 fun t i => t.askBank k v i := by rw [hl]; simp [State.each]
  rw [hs]
  refine State.each_rel (r := fun t u => t.flag R.STORE_STATUS_PWR_REFUSED = true → u.flag R.STORE_STATUS_PWR_REFUSED = true) (fun _ => id)
    (fun h h' => h' ∘ h) l2 (fun i hi t => t.askBank_refused v hk (List.mem_range.1 (hl ▸ by simp [hi]))) _ ?_
  rw [State.askBank_off _ k v hv, State.flag_putB_same _ _ _ rfl (by decide)]

theorem State.askBanks_regsOnly (s : State) (k : Nat) (v : Word) : RegsOnly s (s.each (List.range 16) fun t i => t.askBank k v i) :=
  State.each_rel RegsOnly.refl RegsOnly.trans _ (fun _ _ t => t.askBank_regsOnly k v) s

theorem State.wakeBank_onlyRegs (s : State) (b : Nat) : OnlyRegs s (s.wakeBank b) [R.STORE_BANK_STATE (b / 16)] := by
  unfold State.wakeBank
  split
  · exact s.put_onlyRegs _ _
  · exact fun _ _ => rfl

/-- Sixteen requests for ON reach two registers. -/
theorem State.askBanks_onlyRegs (s : State) (k : Nat) :
    OnlyRegs s (s.each (List.range 16) fun t i => t.askBank k 0 i) [R.STORE_BANK_PWR k, R.STORE_BANK_STATE k] := by
  refine State.each_rel (r := fun t u => OnlyRegs t u _) (fun _ _ _ => rfl) OnlyRegs.trans _ (fun i hi t => ?_) s
  have hk : (16 * k + i) / 16 = k := by have := List.mem_range.1 hi; omega
  rw [t.askBank_on k 0 (by simp [bitsOf])]
  exact OnlyRegs.trans ((t.put_onlyRegs (R.STORE_BANK_PWR_REQ k i) 0).mono (by simp [R.STORE_BANK_PWR_REQ]))
    ((State.wakeBank_onlyRegs _ _).mono (by simp [hk]))

/-! ### Retention (R139) -/

theorem execBankIdleRetention_idle {s : State} {b : Nat} (h : s.running = false ∨ s.bankState b ≠ 0) : execBankIdleRetention b s = .next s := by
  rcases h with h | h <;> simp [execBankIdleRetention, h]

theorem execBankIdleRetention_enters {s : State} {b : Nat} (hr : s.running = true) (hb : b < 32)
    (hq : s.get (R.STORE_BANK_PWR_REQ (b / 16) (b % 16)) = 1) (h0 : s.bankState b = 0) :
    execBankIdleRetention b s = .next (s.setBankState b 1) := by
  simp [execBankIdleRetention, hr, hb, hq, h0]

theorem State.bankState_setBankState (s : State) (b : Nat) {v : Nat} (hv : v < 4) : (s.setBankState b v).bankState b = v := by
  have hw : 2 * (b % 16) + 1 + 1 - 2 * (b % 16) = 2 := by omega
  rw [State.bankState, State.setBankState, State.get_put_same _ _ _ (by simp only [R.STORE_BANK_STATE_STATE]; omega)
    (by simp only [R.STORE_BANK_STATE_STATE]; omega)]
  simp only [R.STORE_BANK_STATE_STATE, hw]
  omega

theorem State.bankState_lt (s : State) (b : Nat) : s.bankState b < 4 := by
  have hw : 2 * (b % 16) + 1 + 1 - 2 * (b % 16) = 2 := by omega
  have h := bitsOf_lt (s.rd (R.STORE_BANK_STATE (b / 16))) (2 * (b % 16) + 1) (2 * (b % 16))
  rw [hw] at h
  exact h

end Sys2Proof.Machine

open Sys2Proof.Machine in
/-- Settles O22: of the sixteen steps of a request each reaches the fields of its own bank alone. -/
theorem bankPower : Obligations.BankPower := by
  intro s
  refine ⟨fun w k v hw h => execBankPowerRequest_none v hw h, fun k v hr hm => execBankPowerRequest_refused v hr hm, fun k hr hk => ?_,
    fun k v j hr hk hj hv => ?_, fun k v j hr hk hj hv => ?_, fun b hr hb hq h0 => ?_, fun b h => execBankIdleRetention_idle h⟩
  · have hv (j : Nat) : bitsOf 0 (2 * j + 1) (2 * j) = 0 := by simp [bitsOf]
    refine ⟨_, execBankPowerRequest_steward 0 hr hk, fun j hj => congrArg Prod.fst (s.askBanks_on hj hk 0 (hv j)), fun j hj h2 h3 => ?_,
      s.askBanks_onlyRegs k, (s.askBanks_regsOnly k 0).frame⟩
    have hst := congrArg Prod.snd (s.askBanks_on hj hk 0 (hv j))
    have hlt := s.bankState_lt (16 * k + j)
    rw [State.bankState_eq _ k hj] at h2 h3 hlt ⊢
    refine hst.trans ?_
    dsimp only
    split <;> omega
  · have hb := s.askBanks_ret hj hk v hv
    refine ⟨_, execBankPowerRequest_steward v hr hk, congrArg Prod.fst hb, ?_⟩
    rw [State.bankState_eq _ k hj, State.bankState_eq _ k hj]
    exact congrArg Prod.snd hb
  · exact ⟨_, execBankPowerRequest_steward v hr hk, congrArg Prod.fst (s.askBanks_off hj hk v hv), s.askBanks_refused v hk hj hv⟩
  · exact ⟨_, execBankIdleRetention_enters hr hb hq h0, s.bankState_setBankState b (by omega), s.put_onlyRegs _ _, rfl⟩
end

section
/-! SUPPORT. Accesses to the SRAM and the MRAM: what reaches a bank, what a whole word written reads, and what a checked read leaves
(R129-R139, R149-R153). -/

namespace Sys2Proof.Machine

/-! ### The address ranges (R129) -/

theorem inSram_iff {x : Nat} : inSram x = true ↔ 0x20000000 ≤ x ∧ x < 0x20800000 := by
  rw [inSram, Bool.and_eq_true, decide_eq_true_eq, decide_eq_true_eq, sramBase, sramEnd]

theorem inMram_iff {x : Nat} : inMram x = true ↔ 0x40000000 ≤ x ∧ x < 0x42100000 := by
  rw [inMram, Bool.and_eq_true, decide_eq_true_eq, decide_eq_true_eq, mramBase, mramEnd]

theorem inMram_of_inSram {x : Nat} (h : inSram x = true) : inMram x = false := by
  have hs := inSram_iff.1 h
  exact Bool.eq_false_iff.2 fun hm => by have := inMram_iff.1 hm; omega

/-! ### What a step that leaves the memories leaves of a word -/

section

variable {s t : State} (h : t.mem = s.mem)
include h

theorem State.readByte_of_mem (x : Nat) : t.readByte x = s.readByte x := by rw [State.readByte, h, ← State.readByte]

theorem State.flipsAt_of_mem (o : Nat) : t.flipsAt o = s.flipsAt o := by rw [State.flipsAt, h, ← State.flipsAt]

theorem State.wordValid_of_mem (o : Nat) : t.wordValid o = s.wordValid o := by rw [State.wordValid, h, ← State.wordValid]

theorem State.synAt_of_mem (o addr : Nat) : t.synAt o addr = s.synAt o addr := by rw [State.synAt, State.flipsAt_of_mem h, ← State.synAt]

theorem State.classAt_of_mem (o addr : Nat) : t.classAt o addr = s.classAt o addr := by
  rw [State.classAt, State.parityAt, h, State.wordValid_of_mem h, State.synAt_of_mem h]
  rfl

end

/-- Bytes that read the same make the same numbers. -/
theorem SameBytes.readNat {s t : State} (h : SameBytes s t) (a n : Nat) : t.readNat a n = s.readNat a n := by
  have hb : t.readBytes a n = s.readBytes a n := by
    induction n generalizing a with
    | zero => rfl
    | succ n ih => rw [State.readBytes, h, ih, ← State.readBytes]
  rw [State.readNat, hb, ← State.readNat]

theorem State.checkedNat_of_mem {s t : State} (h : t.mem = s.mem) (a n : Nat) : t.checkedNat a n = s.checkedNat a n := by
  have hn : ∀ a n, t.readNat a n = s.readNat a n := SameBytes.readNat (State.readByte_of_mem h)
  simp only [State.checkedNat, State.checkedWord, State.flipsAt_of_mem h, State.wordValid_of_mem h, State.synAt_of_mem h, hn]

/-! ### Steps that change the memories alone -/

/-- From `s` to `t` nothing but the memories has changed. -/
def MemOnly (s t : State) : Prop := ∃ m, t = { s with mem := m }

theorem MemOnly.refl (s : State) : MemOnly s s := ⟨s.mem, rfl⟩

theorem MemOnly.trans {s t u : State} (h : MemOnly s t) (k : MemOnly t u) : MemOnly s u := by
  obtain ⟨_, rfl⟩ := h
  obtain ⟨m, rfl⟩ := k
  exact ⟨m, rfl⟩

theorem MemOnly.silent {s t : State} (h : MemOnly s t) : Silent s t := by obtain ⟨_, rfl⟩ := h; exact ⟨rfl, rfl, rfl⟩

theorem RegsOnly.silent {s t : State} (h : RegsOnly s t) : Silent s t := by obtain ⟨_, rfl⟩ := h; exact ⟨rfl, rfl, rfl⟩

theorem Silent.trans {s t u : State} (h : Silent s t) (k : Silent t u) : Silent s u :=
  ⟨k.1.trans h.1, k.2.1.trans h.2.1, k.2.2.trans h.2.2⟩

theorem State.setByte_memOnly (s : State) (a : Nat) (b : Byte) : MemOnly s (s.setByte a b) := by
  unfold State.setByte
  split
  · exact ⟨_, rfl⟩
  · split
    · exact ⟨_, rfl⟩
    · exact .refl s

theorem State.setBytes_memOnly (s : State) (a : Nat) (bs : List Byte) : MemOnly s (s.setBytes a bs) := by
  induction bs generalizing s a with
  | nil => exact .refl s
  | cons b t ih => exact (s.setByte_memOnly a b).trans (ih _ _)

theorem State.upset_memOnly (s : State) (o : Nat) (e : EccHit) : MemOnly s (s.upset o e) := by
  unfold State.upset
  dsimp only
  split <;> split
  · exact ⟨_, rfl⟩
  · exact ⟨_, rfl⟩
  · exact .refl s
  · exact ⟨_, rfl⟩

/-- Damage changes no stored byte. -/
theorem State.upset_sameBytes (s : State) (o : Nat) (e : EccHit) : SameBytes s (s.upset o e) := by
  intro x
  unfold State.upset
  dsimp only
  split <;> split <;> rfl

theorem State.upset_mem_congr {s t : State} (h : t.mem = s.mem) (o : Nat) (e : EccHit) : (t.upset o e).mem = (s.upset o e).mem := by
  unfold State.upset
  dsimp only
  rw [State.flipsAt_of_mem h]
  split <;> split <;> simp [h]

/-! ### A whole word written (R150, R152) -/

/-- Storing a byte makes its word valid, and takes no other word's valid bit. -/
theorem State.setByte_wordValid (s : State) {a : Nat} (b : Byte) (hs : inSram a = true) (o : Nat) :
    (s.setByte a b).wordValid o = (decide (o / 8 = (a - sramBase) / 8) || s.wordValid o) := by
  rw [State.setByte, if_pos hs, State.wordValid]
  by_cases ho : o / 8 = (a - sramBase) / 8
  · simp [ho]
  · simp [ho, State.wordValid]

theorem State.setByte_flipsAt (s : State) (a : Nat) (b : Byte) (o : Nat) : (s.setByte a b).flipsAt o = s.flipsAt o := by
  unfold State.setByte
  split
  · rfl
  · split <;> rfl

theorem State.setByte_parityAt (s : State) (a : Nat) (b : Byte) (o : Nat) : (s.setByte a b).parityAt o = s.parityAt o := by
  unfold State.setByte
  split
  · rfl
  · split <;> rfl

theorem State.setBytes_flipsAt (s : State) (a : Nat) (bs : List Byte) (o : Nat) : (s.setBytes a bs).flipsAt o = s.flipsAt o := by
  induction bs generalizing s a with
  | nil => rfl
  | cons b t ih => rw [State.setBytes, ih, State.setByte_flipsAt]

theorem State.setBytes_wordValid (s : State) {a : Nat} (bs : List Byte) (hs : ∀ k < bs.length, inSram (a + k) = true) {o : Nat}
    (h : s.wordValid o = true) : (s.setBytes a bs).wordValid o = true := by
  induction bs generalizing s a with
  | nil => exact h
  | cons b t ih =>
    refine ih _ (fun k hk => ?_) (by rw [s.setByte_wordValid b (show inSram a = true from hs 0 (by simp)), h, Bool.or_true])
    rw [show a + 1 + k = a + (k + 1) by omega]
    exact hs (k + 1) (by simpa using hk)

/-- Bytes stored below or above an address leave it. -/
theorem State.readByte_setBytes_ne (s : State) {a : Nat} (bs : List Byte) {x : Nat} (h : x < a ∨ a + bs.length ≤ x) :
    (s.setBytes a bs).readByte x = s.readByte x := by
  induction bs generalizing s a with
  | nil => rfl
  | cons b t ih =>
    rw [List.length_cons] at h
    rw [State.setBytes, ih _ (by omega), s.readByte_setByte_ne a b (by omega)]

/-- Each of the bytes stored reads as it was given. -/
theorem State.readByte_setBytes (s : State) {a : Nat} (bs : List Byte) (hs : ∀ k < bs.length, inSram (a + k) = true) {k : Nat}
    (hk : k < bs.length) : (s.setBytes a bs).readByte (a + k) = bs[k] := by
  induction bs generalizing s a k with
  | nil => simp at hk
  | cons b t ih =>
    rw [State.setBytes]
    cases k with
    | zero => exact (State.readByte_setBytes_ne _ t (by omega)).trans (s.readByte_setByte_same a b (.inl (hs 0 hk)))
    | succ k =>
      rw [show a + (k + 1) = a + 1 + k by omega, ih _ (fun j hj => ?_) (by simpa using hk)]
      · rfl
      · rw [show a + 1 + j = a + (j + 1) by omega]
        exact hs (j + 1) (by simpa using hj)

/-- Bytes written into one undamaged word are stored. -/
theorem State.writeEach_clean (s : State) (o : Nat) {a : Nat} (bs : List Byte) (hw : ∀ k < bs.length, (a + k - sramBase) / 8 = o / 8)
    (hf : s.flipsAt o = 0) (hp : s.parityAt o = false) : s.writeEach a bs = s.setBytes a bs := by
  induction bs generalizing s a with
  | nil => rfl
  | cons b t ih =>
    have ho : (a - sramBase) / 8 = o / 8 := hw 0 (by simp)
    have hl : (a - sramBase) / 64 = o / 64 := by omega
    rw [State.writeEach, s.writeByte_clean a b fun _ => ⟨by rw [State.flipsAt, ho]; exact hf, by rw [State.parityAt, hl]; exact hp⟩]
    refine ih _ (fun k hk => ?_) (by rw [State.setByte_flipsAt, hf]) (by rw [State.setByte_parityAt, hp])
    rw [show a + 1 + k = a + (k + 1) by omega]
    exact hw (k + 1) (by simpa using hk)

/-- The word of number `w` lies in the `n` bytes from address `a`: the test of `renew`. -/
def wholeIn (a n w : Nat) : Bool := decide (a ≤ sramBase + 8 * w) && decide (sramBase + 8 * w + 8 ≤ a + n)

theorem State.renew_flipsAt (s : State) (a n o : Nat) : (s.renew a n).flipsAt o = if !wholeIn a n (o / 8) then s.flipsAt o else 0 :=
  Sparse.get_filter (always 0) (fun w => !wholeIn a n w) s.mem.flips (o / 8)

theorem State.renew_parityAt (s : State) (a n o : Nat) :
    (s.renew a n).parityAt o = if !(List.range 8).any fun k => wholeIn a n (8 * (o / 64) + k) then s.parityAt o else false :=
  Sparse.get_filter (always false) (fun l => !(List.range 8).any fun k => wholeIn a n (8 * l + k)) s.mem.parityBad (o / 64)

/-- The word written whole has no damage left. -/
theorem State.renew_word (s : State) {o : Nat} (h8 : o % 8 = 0) :
    (s.renew (sramBase + o) 8).flipsAt o = 0 ∧ (s.renew (sramBase + o) 8).parityAt o = false := by
  have hw : wholeIn (sramBase + o) 8 (o / 8) = true := by
    rw [wholeIn, Bool.and_eq_true, decide_eq_true_eq, decide_eq_true_eq]
    omega
  have hl : 8 * (o / 64) + o / 8 % 8 = o / 8 := by omega
  have hp : ((List.range 8).any fun k => wholeIn (sramBase + o) 8 (8 * (o / 64) + k)) = true :=
    List.any_eq_true.2 ⟨o / 8 % 8, List.mem_range.2 (Nat.mod_lt _ (by decide)), by rw [hl, hw]⟩
  exact ⟨by rw [s.renew_flipsAt, hw]; rfl, by rw [s.renew_parityAt, hp]; rfl⟩

theorem leBytes_getElem (n v : Nat) {k : Nat} (hk : k < (leBytes n v).length) : (leBytes n v)[k] = BitVec.ofNat 8 (v / 256 ^ k) := by
  induction n generalizing v k with
  | zero => simp [leBytes] at hk
  | succ n ih =>
    cases k with
    | zero => simp [leBytes]
    | succ k => simp only [leBytes, List.getElem_cons_succ, ih, Nat.div_div_eq_div_mul, pow_succ']

/-- What a write of the whole word at `a` leaves: a clean word stored byte by byte. -/
theorem State.writeNat_word (s : State) {a : Nat} (v : Nat) (hs : sramBase ≤ a) (h8 : (a - sramBase) % 8 = 0) :
    s.writeNat a 8 v = (s.renew a 8).setBytes a (leBytes 8 v) := by
  obtain ⟨hf, hp⟩ := s.renew_word h8
  rw [show sramBase + (a - sramBase) = a by omega] at hf hp
  rw [State.writeNat, State.writeBytes, leBytes_length]
  exact State.writeEach_clean _ (a - sramBase) _ (fun k hk => by rw [leBytes_length] at hk; omega) hf hp

theorem State.writeNat_word_spec (s : State) {a : Nat} (v : Nat) (hs : inSram a = true) (h8 : a % 8 = 0) :
    (∀ k, k < 8 → (s.writeNat a 8 v).readByte (a + k) = BitVec.ofNat 8 (v / 256 ^ k)) ∧
    (∀ x, x < a ∨ a + 8 ≤ x → (s.writeNat a 8 v).readByte x = s.readByte x) ∧
    (s.writeNat a 8 v).wordValid (a - sramBase) = true ∧ (s.writeNat a 8 v).flipsAt (a - sramBase) = 0 ∧ Silent s (s.writeNat a 8 v) := by
  obtain ⟨hlo, hhi⟩ := inSram_iff.1 hs
  have hlen := leBytes_length 8 v
  have ho : (a - sramBase) % 8 = 0 := by rw [sramBase]; omega
  have hbase : sramBase ≤ a := hlo
  have hin : ∀ k < (leBytes 8 v).length, inSram (a + k) = true := fun k hk => by
    rw [hlen] at hk
    exact inSram_iff.2 ⟨by omega, by omega⟩
  obtain ⟨hf, _⟩ := s.renew_word ho
  rw [show sramBase + (a - sramBase) = a by omega] at hf
  rw [s.writeNat_word v hbase ho]
  refine ⟨fun k hk => ?_, fun x hx => ?_, ?_, ?_, ?_⟩
  · rw [State.readByte_setBytes _ _ hin (by omega), leBytes_getElem]
  · rw [State.readByte_setBytes_ne _ _ (by rwa [hlen])]
    rfl
  · rw [show leBytes 8 v = BitVec.ofNat 8 v :: leBytes 7 (v / 256) from rfl, State.setBytes]
    refine State.setBytes_wordValid _ _ (fun k hk => ?_) (by rw [State.setByte_wordValid _ _ hs]; simp)
    rw [show a + 1 + k = a + (k + 1) by omega]
    exact hin _ (by rw [hlen]; rw [leBytes_length] at hk; omega)
  · rw [State.setBytes_flipsAt, hf]
  · exact MemOnly.silent (MemOnly.trans ⟨_, rfl⟩ (State.setBytes_memOnly _ _ _))

/-! ### A checked read (R149-R151, R156) -/

theorem State.errInfo_regsOnly (s : State) (o cls syn src : Nat) : RegsOnly s (s.errInfo o cls syn src) :=
  (s.put_regsOnly _ _).trans (State.wr_regsOnly _ _ _)

theorem State.corrected_regsOnly (s : State) (o cls syn src : Nat) : RegsOnly s (s.corrected o cls syn src) :=
  ((s.put_regsOnly _ _).trans (State.putB_regsOnly _ _ _)).trans (State.errInfo_regsOnly _ _ _ _ _)

theorem State.errInfo_flag (s : State) (o cls syn src : Nat) (F : Fld) (h : F.addr = R.STORE_ECC_STATUS) :
    (s.errInfo o cls syn src).flag F = s.flag F := by
  rw [State.errInfo, State.flag_wr_ne _ _ _ F (by rw [h]; decide)]
  exact s.flag_put_of_apart _ F _ (.inl (by rw [h]; decide))

theorem State.corrected_ce (s : State) (o cls syn src : Nat) : (s.corrected o cls syn src).flag R.STORE_ECC_STATUS_CE = true := by
  rw [State.corrected, State.errInfo_flag _ _ _ _ _ _ rfl, State.flag_putB_same _ _ _ rfl (by decide)]

theorem State.queueWord_spec (s : State) (o : Nat) :
    (s.queueWord o).mem = s.mem ∧ Silent s (s.queueWord o) ∧ (s.queueWord o).flag R.STORE_ECC_STATUS_CE = s.flag R.STORE_ECC_STATUS_CE := by
  unfold State.queueWord
  dsimp only
  split
  · exact ⟨rfl, ⟨rfl, rfl, rfl⟩, rfl⟩
  · split
    · exact ⟨rfl, ⟨rfl, rfl, rfl⟩, rfl⟩
    · have hr : RegsOnly s (s.satInc R.STORE_ECC_STATUS_QUEUE_DROP) := s.put_regsOnly _ _
      have ha : R.STORE_ECC_STATUS_QUEUE_DROP.Apart R.STORE_ECC_STATUS_CE := .inr (by decide)
      exact ⟨hr.mem, hr.silent, s.flag_put_of_apart _ _ _ ha⟩

theorem State.ueRecord_spec (s : State) (o cls syn src : Nat) (engine : Option Nat) :
    (s.ueRecord o cls syn src engine).mem = s.mem ∧ (s.ueRecord o cls syn src engine).flag R.STORE_ECC_STATUS_UE = true := by
  refine ⟨by simp [State.ueRecord, State.errInfo], ?_⟩
  have hseq : R.STORE_ECC_STATUS_UE.addr ∉ [R.LEDGER_SEQ] := by decide
  rw [State.ueRecord, State.flag_of_rd _ (State.raise_onlyRegs _ _ _ _ _ _ _ hseq), State.errInfo_flag _ _ _ _ _ _ rfl,
    State.flag_putB_same _ _ _ rfl (by decide)]

section

variable (s : State) (o addr src : Nat) (engine : Option Nat)

/-- CLASS 0 to 2: the word can be used, in silence; a correction sets CE. -/
theorem State.checkWord_usable (h : s.classAt o addr ≤ 2) :
    ∃ t, s.checkWord o addr src engine = (t, true) ∧ t.mem = s.mem ∧ Silent s t ∧
      (1 ≤ s.classAt o addr → t.flag R.STORE_ECC_STATUS_CE = true) := by
  unfold State.checkWord
  dsimp only
  split
  · next h0 => exact ⟨s, rfl, rfl, ⟨rfl, rfl, rfl⟩, by omega⟩
  · have hc := s.corrected_regsOnly o (s.classAt o addr) (s.synAt o addr) src
    obtain ⟨hm, hs, hf⟩ := (s.corrected o (s.classAt o addr) (s.synAt o addr) src).queueWord_spec o
    exact ⟨_, rfl, hm.trans hc.mem, hc.silent.trans hs, fun _ => hf.trans (s.corrected_ce ..)⟩

/-- CLASS 3 and above: it cannot, and UE is set. -/
theorem State.checkWord_unusable (h : 3 ≤ s.classAt o addr) :
    ∃ t, s.checkWord o addr src engine = (t, false) ∧ t.mem = s.mem ∧ t.flag R.STORE_ECC_STATUS_UE = true := by
  unfold State.checkWord
  dsimp only
  rw [if_neg (by omega), if_neg (by omega)]
  obtain ⟨hm, hf⟩ := (s.satInc R.STORE_ECC_STATUS_UNCORRECTED).ueRecord_spec o (s.classAt o addr) (s.synAt o addr) src engine
  have hmem := hm.trans (s.satInc_mem _)
  cases engine with
  | none => exact ⟨_, rfl, hmem, hf⟩
  | some n => exact ⟨_, rfl, (State.modEng_mem _ _ _).trans hmem, (State.modEng_flag _ _ _ _).trans hf⟩

end

/-! ### The access reaches its bank (R138, R139, R161) -/

theorem State.wakeBank_regsOnly (s : State) (b : Nat) : RegsOnly s (s.wakeBank b) := by
  unfold State.wakeBank
  split
  · exact s.put_regsOnly _ _
  · exact .refl s

theorem State.nextWindow_mem (s : State) : s.nextWindow.mem = s.mem := by
  simp -implicitDefEqProofs [State.nextWindow, apply_ite State.mem]

theorem State.abortWindow_mem (s : State) (w : Nat) : (s.abortWindow w).mem = s.mem := by
  simp -implicitDefEqProofs [State.abortWindow, apply_ite State.mem, State.nextWindow_mem]

theorem State.meetWindow_mem (s : State) (o : Nat) (portD : Bool) : (s.meetWindow o portD).mem = s.mem := by
  unfold State.meetWindow
  split
  · split
    · exact s.abortWindow_mem _
    · rfl
  · rfl

theorem State.meetWindow_idle (s : State) (o : Nat) (portD : Bool) (h : s.store.borrowed = none) : s.meetWindow o portD = s := by
  simp [State.meetWindow, h]

/-- The access's bank is awake, and the background test has given the word back. -/
def State.reached (s : State) (a : Access) : State := (s.wakeBank (bankOf (a.addr - sramBase))).meetWindow (a.addr - sramBase) a.portD

theorem State.reached_mem (s : State) (a : Access) : (s.reached a).mem = s.mem := (State.meetWindow_mem _ _ _).trans (s.wakeBank_regsOnly _).mem

theorem State.reached_silent (s : State) (a : Access) (h : s.store.borrowed = none) : Silent s (s.reached a) := by
  have hw := s.wakeBank_regsOnly (bankOf (a.addr - sramBase))
  have hb : (s.wakeBank (bankOf (a.addr - sramBase))).store.borrowed = none := by rw [hw.frame]; exact h
  rw [State.reached, State.meetWindow_idle _ _ _ hb]
  exact hw.silent

section

variable {s : State} {a : Access}

theorem execSramAccess_allowed (hm : s.mayAccess a = true) : exec (.sramAccess a) s = .next (s.sramAccess a) :=
  congrArg Host.Outcome.next (if_pos hm)

theorem State.sramAccess_outside (hs : inSram a.addr = false) (hr : inMram a.addr = false) : s.sramAccess a = s.answer respDecode 0 := by
  simp [State.sramAccess, hs, hr]

theorem State.sramAccess_crossing (hi : inSram a.addr = true ∨ inMram a.addr = true) (h : 8 < a.addr % 8 + a.size) :
    s.sramAccess a = s.answer respAlign 0 := by
  rcases hi with hi | hi <;> simp [State.sramAccess, hi, h]

theorem State.sramAccess_mram (hi : inMram a.addr = true) (h : a.addr % 8 + a.size ≤ 8) : s.sramAccess a = s.mramAccess a := by
  simp [State.sramAccess, hi, Nat.not_lt.2 h]

theorem State.sramAccess_region (hi : inSram a.addr = true) (h : a.addr % 8 + a.size ≤ 8) (hr : regionBad a = true) :
    s.sramAccess a = s.regionRefused a := by
  simp [State.sramAccess, hi, inMram_of_inSram hi, Nat.not_lt.2 h, hr]

theorem State.sramAccess_bankOff (hi : inSram a.addr = true) (h : a.addr % 8 + a.size ≤ 8) (hr : regionBad a = false)
    (hb : s.bankState (bankOf (a.addr - sramBase)) = 2) : s.sramAccess a = s.bankOff := by
  simp [State.sramAccess, hi, inMram_of_inSram hi, Nat.not_lt.2 h, hr, hb]

/-- An access alone at its word is served by its bank. -/
theorem State.sramAccess_served (hi : inSram a.addr = true) (h : a.addr % 8 + a.size ≤ 8) (hr : regionBad a = false)
    (hb : s.bankState (bankOf (a.addr - sramBase)) ≠ 2) (ho : a.other = none) : s.sramAccess a = (s.reached a).serve a a.ecc := by
  simp [State.sramAccess, hi, inMram_of_inSram hi, Nat.not_lt.2 h, hr, hb, State.serveBoth, ho, State.reached]

theorem regionBad_iff : regionBad a = true ↔ a.write = true ∧ inWarden a.addr = true ∧ (a.gallery ≠ none ∨ a.who.isWarden = false) := by
  simp only [regionBad, wardenOnly, Bool.and_eq_true, Bool.not_eq_true', Bool.and_eq_false_iff, decide_eq_false_iff_not, ne_eq]

/-- A whole word is written without a check. -/
theorem State.serve_word (hw : a.write = true) (hz : a.size = 8) (e : EccHit) :
    s.serve a e = ((s.upset (a.addr - sramBase) e).writeNat a.addr 8 a.data).answer respOk 0 := by
  simp [State.serve, hw, hz]

/-- A read whose check finds the word usable is answered with the data as the check gives them. -/
theorem State.serve_usable {t : State} (hw : a.write = false) (e : EccHit)
    (h : (s.upset (a.addr - sramBase) e).checkWord (a.addr - sramBase) e.addr (if a.portD then 1 else 0) a.engine = (t, true)) :
    s.serve a e = t.answer respOk (t.checkedNat a.addr a.size) := by
  simp [State.serve, hw, h]

theorem State.serve_unusable {t : State} (hw : a.write = false) (e : EccHit)
    (h : (s.upset (a.addr - sramBase) e).checkWord (a.addr - sramBase) e.addr (if a.portD then 1 else 0) a.engine = (t, false)) :
    s.serve a e = t.answer respDataErr 0 := by
  simp [State.serve, hw, h]

/-- An access refused with a flag and a record: the memories and the other registers stay. -/
theorem State.refused_spec (s : State) (F : Fld) (code sev unit resp : Nat) (c0 c1 : Option Word) (hF : F.addr ≠ R.LEDGER_SEQ) (hw : F.lo = F.hi)
    (h32 : F.hi < 32) : let t := ((s.putB F true).raise code sev unit c0 c1).answer resp 0
    t.store.resp = resp ∧ t.flag F = true ∧ Raised s t code sev unit ∧ t.mem = s.mem ∧ OnlyRegs s t [F.addr, R.LEDGER_SEQ] := by
  obtain ⟨hflag, hrec, hregs⟩ := s.flag_raise F code sev unit c0 c1 hF hw h32
  exact ⟨rfl, hflag, hrec, by simp [State.answer], hregs⟩

theorem State.regionRefused_spec (s : State) (a : Access) :
    (s.regionRefused a).store.resp = respRegion ∧ (s.regionRefused a).flag R.STORE_STATUS_REGION_ERR = true ∧
      Raised s (s.regionRefused a) 0x0601 0 0x06 ∧ (s.regionRefused a).mem = s.mem ∧
      OnlyRegs s (s.regionRefused a) [R.STORE_STATUS, R.LEDGER_SEQ] := by
  rw [State.regionRefused, State.regionErr]
  exact s.refused_spec R.STORE_STATUS_REGION_ERR 0x0601 0 0x06 respRegion _ _ (by decide) rfl (by decide)

theorem State.bankOff_spec (s : State) :
    s.bankOff.store.resp = respBankOff ∧ s.bankOff.flag R.STORE_STATUS_BANK_OFF_ERR = true ∧ Raised s s.bankOff 0x0602 0 0x06 ∧
      s.bankOff.mem = s.mem ∧ OnlyRegs s s.bankOff [R.STORE_STATUS, R.LEDGER_SEQ] := by
  rw [State.bankOff]
  exact s.refused_spec R.STORE_STATUS_BANK_OFF_ERR 0x0602 0 0x06 respBankOff none none (by decide) rfl (by decide)

/-! ### The MRAM (R163) -/

theorem weight_zero (n : Nat) : weight n 0 = 0 := by
  induction n with
  | zero => rfl
  | succ n ih => simp [weight, ih]

theorem State.mramChecked_good (s : State) {x : Nat} (h : s.mramClass x = 0) : s.mramChecked x = s := by
  unfold State.mramChecked
  split
  · rfl
  · next h1 => exact absurd (h.symm.trans h1) (by decide)
  · next h0 _ => exact absurd h h0

theorem State.mramUpset_none (s : State) (x : Nat) : s.mramUpset x 0 = s := if_pos rfl

theorem State.mramAccess_read (hw : a.write = false) (hf : s.mramFlipsAt a.addr = 0) (he : a.ecc.flips = 0) :
    s.mramAccess a = s.answer respOk (s.readNat a.addr a.size) := by
  have hc : s.mramClass a.addr = 0 := by simp [State.mramClass, hf, weight_zero]
  have hn := s.mramChecked_good hc
  simp [State.mramAccess, he, State.mramUpset_none, hw, hc, hn]

/-- A unit that is no Warden writes nothing into the code partition (R165). -/
theorem State.mramAccess_code (hw : a.write = true) (hl : a.addr < mramLog) (he : a.ecc.flips = 0)
    (hu : a.gallery ≠ none ∨ a.who.isWarden = false) : s.mramAccess a = s.answer respRegion 0 := by
  have hsplit : (decide (a.gallery = none) && a.who.splitCore) = false := by
    rcases hu with hu | hu
    · simp [hu]
    · cases hwho : a.who <;> simp [hwho, Writer.splitCore, Writer.isWarden] at hu ⊢
  have hward : (decide (a.gallery = none) && a.who.isWarden) = false := by
    rcases hu with hu | hu <;> simp [hu]
  simp [State.mramAccess, he, State.mramUpset_none, hw, hsplit, hward, Nat.not_le.2 hl]

/-! ### Atomics that reach no word (R136, R137) -/

variable (f : Nat → Nat)

theorem State.atomic_idle (h : s.mayAccess a = false ∨ a.portD = true ∨ a.gallery = some 0) : s.atomic a f = s := by
  rcases h with h | h | h <;> simp [State.atomic, h]

section

variable (hm : s.mayAccess a = true) (hd : a.portD = false) (hg : a.gallery ≠ some 0)
include hm hd hg

theorem State.atomic_outside (hs : inSram a.addr = false) : s.atomic a f = s.answer respDecode 0 := by
  simp [State.atomic, hm, hd, hg, hs]

theorem State.atomic_size (hs : inSram a.addr = true) (h4 : a.size ≠ 4) (h8 : a.size ≠ 8) : s.atomic a f = s.answer respAlign 0 := by
  simp [State.atomic, hm, hd, hg, hs, h4, h8]

theorem State.atomic_region (hs : inSram a.addr = true) (hz : a.size = 4 ∨ a.size = 8) (ha : a.addr % a.size = 0)
    (hr : regionBad { a with write := true } = true) : s.atomic a f = s.regionRefused a := by
  have h1 : (!s.mayAccess a || a.portD || decide (a.gallery = some 0)) = false := by simp [hm, hd, hg]
  have h2 : (!(decide (a.size = 4) || decide (a.size = 8)) || a.addr % a.size != 0) = false := by
    rw [ha]
    rcases hz with hz | hz <;> simp [hz]
  rw [State.atomic, h1, hs, h2, hr]
  rfl

end

end

end Sys2Proof.Machine

open Sys2Proof.Machine in
/-- Settles O19: a read leaves what its check leaves, and a word written whole is stored anew whatever it held. -/
theorem sramAccesses : Obligations.SramAccesses := by
  intro s a
  refine ⟨fun hm => congrArg Host.Outcome.next (if_neg (by simp [hm])), fun hm hs hr => ?_, fun hm hi h => ?_, fun hm hi h hw hlt hu => ?_,
    fun hm hi h hr hb => ?_, fun hm hi h8 hz hw ho hr hb => ?_, fun hm hi h hw ho hb => ?_, fun hm hi h hw hf he => ?_,
    fun hm hi h hw hl he hu => ?_, fun hm hd hg hs => ?_, fun hm hd hg hs h4 h8 => ?_, fun hm hd hg hs hz ha hr => ?_, fun h => ?_⟩
  · rw [execSramAccess_allowed hm, State.sramAccess_outside hs hr]
  · rw [execSramAccess_allowed hm, State.sramAccess_crossing hi h]
  · have hlo : sramBase ≤ a.addr := by simp only [inSram, Bool.and_eq_true, decide_eq_true_eq] at hi; exact hi.1
    have hr : regionBad a = true := regionBad_iff.2 ⟨hw, by simpa [inWarden, hlo] using show a.addr < sramBase + 0x100000 from hlt, hu⟩
    exact ⟨_, (execSramAccess_allowed hm).trans (congrArg _ (State.sramAccess_region hi h hr)), s.regionRefused_spec a⟩
  · exact ⟨_, (execSramAccess_allowed hm).trans (congrArg _ (State.sramAccess_bankOff hi h hr hb)), s.bankOff_spec⟩
  · have hu := (s.reached a).upset_sameBytes (a.addr - sramBase) a.ecc
    obtain ⟨hbytes, hrest, hvalid, hclean, hsilent⟩ := ((s.reached a).upset (a.addr - sramBase) a.ecc).writeNat_word_spec a.data hi h8
    refine ⟨_, (execSramAccess_allowed hm).trans (congrArg _ ((State.sramAccess_served hi (by omega) hr hb ho).trans (State.serve_word hw hz _))),
      rfl, hbytes, fun x hx => ?_, hvalid, hclean, fun hn => ?_⟩
    · exact (hrest x hx).trans ((hu x).trans (State.readByte_of_mem (s.reached_mem a) x))
    · exact ((s.reached_silent a hn).trans (State.upset_memOnly _ _ _).silent).trans hsilent
  · intro o u
    have hr : regionBad a = false := by simp [regionBad, hw]
    have hserve : exec (.sramAccess a) s = .next ((s.reached a).serve a a.ecc) :=
      (execSramAccess_allowed hm).trans (congrArg _ (State.sramAccess_served hi h hr hb ho))
    have hmem : ((s.reached a).upset o a.ecc).mem = u.mem := State.upset_mem_congr (s.reached_mem a) o a.ecc
    refine ⟨fun hc => ?_, fun hf => ?_, fun hc => ?_⟩
    · rw [← State.classAt_of_mem hmem] at hc ⊢
      obtain ⟨t, ht, htm, hts, hce⟩ := State.checkWord_usable _ o a.ecc.addr (if a.portD then 1 else 0) a.engine hc
      rw [State.serve_usable hw _ ht] at hserve
      refine ⟨_, hserve, rfl, State.checkedNat_of_mem (htm.trans hmem) _ _, htm.trans hmem, fun hn => ?_, hce⟩
      exact ((s.reached_silent a hn).trans (State.upset_memOnly _ _ _).silent).trans hts
    · exact (if_pos hf).trans ((s.upset_sameBytes o a.ecc).readNat _ _)
    · rw [← State.classAt_of_mem hmem] at hc
      obtain ⟨t, ht, htm, hue⟩ := State.checkWord_unusable _ o a.ecc.addr (if a.portD then 1 else 0) a.engine hc
      rw [State.serve_unusable hw _ ht] at hserve
      exact ⟨_, hserve, rfl, hue, htm.trans hmem⟩
  · rw [execSramAccess_allowed hm, State.sramAccess_mram hi h, State.mramAccess_read hw hf he]
  · rw [execSramAccess_allowed hm, State.sramAccess_mram hi h, State.mramAccess_code hw hl he hu]
  · exact ⟨congrArg _ (State.atomic_outside _ hm hd hg hs), congrArg _ (State.atomic_outside _ hm hd hg hs)⟩
  · exact ⟨congrArg _ (State.atomic_size _ hm hd hg hs h4 h8), congrArg _ (State.atomic_size _ hm hd hg hs h4 h8)⟩
  · exact ⟨congrArg _ (State.atomic_region _ hm hd hg hs hz ha hr), congrArg _ (State.atomic_region _ hm hd hg hs hz ha hr)⟩
  · exact ⟨congrArg _ (State.atomic_idle _ h), congrArg _ (State.atomic_idle _ h)⟩
end

section
/-! SUPPORT. An atomic on a word whose address check fails (R136, R150): the columns of the code, and what a write does to a word that a check
does not correct. -/

namespace Sys2Proof.Machine

/-! ### The columns drawn (R148) -/

theorem mem_of_mem_draw {f : Nat → Nat} {c n : Nat} {l : List Nat} (h : c ∈ draw f n l) : c ∈ l := by
  induction n generalizing l with
  | zero => simp [draw] at h
  | succ n ih =>
    rw [draw] at h
    split at h
    · next d hd =>
      obtain rfl | h := List.mem_cons.1 h
      · exact List.mem_of_getElem? hd
      · exact List.mem_of_mem_erase (ih h)
    · simp at h

theorem draw_ne_nil (f : Nat → Nat) (n : Nat) {l : List Nat} (h : l ≠ []) : draw f (n + 1) l ≠ [] := by
  rw [draw, List.getElem?_eq_getElem (Nat.mod_lt _ (List.length_pos_iff.2 h))]
  simp

theorem dataCol_weight {c : Nat} (h : c ∈ dataCols) : weight 8 c = 3 ∨ weight 8 c = 5 := by
  have hc : c ∈ dataCands := mem_of_mem_draw h
  simpa using (List.mem_filter.1 hc).2

theorem addrCol_spec {c : Nat} (h : c ∈ addrCols) : c < 256 ∧ weight 8 c = 4 := by
  have hc : c ∈ addrCands := mem_of_mem_draw h
  simpa [addrCands] using hc

/-- An address column is a syndrome of CLASS 4. -/
theorem classOf_addrCol {c : Nat} (h : c ∈ addrCols) : classOf c = 4 := by
  have hw := (addrCol_spec h).2
  have h0 : c ≠ 0 := by rintro rfl; simp [weight] at hw
  have hd : c ∉ dataCols := fun hd => by have := dataCol_weight hd; omega
  simp [classOf, h0, hd, hw, h]

theorem xorCols_zero (l : List Nat) : xorCols l 0 = 0 := by
  induction l with
  | nil => rfl
  | cons c t ih => simp [xorCols, ih]

/-- The column of the lowest word-address bit. -/
def firstAddrCol : Nat := xorCols addrCols 1

theorem firstAddrCol_mem : firstAddrCol ∈ addrCols := by
  have hne : addrCols ≠ [] := draw_ne_nil _ 19 (by decide)
  obtain ⟨c, l, hl⟩ := List.exists_cons_of_ne_nil hne
  have hc : firstAddrCol = c := by simp [firstAddrCol, hl, xorCols, xorCols_zero]
  rw [hc, hl]
  exact List.mem_cons_self

/-- Check bits wrong by an address column: reached at the right address the syndrome is the column. -/
theorem syndromeOf_checkBits {c : Nat} (h : c ∈ addrCols) (addr : Nat) : syndromeOf (2 ^ 64 * c) addr = c ^^^ xorCols addrCols addr := by
  obtain ⟨hlt, hw⟩ := addrCol_spec h
  have h0 : c ≠ 0 := by rintro rfl; simp [weight] at hw
  have hz : 2 ^ 64 * c ≠ 0 := Nat.mul_ne_zero (by decide) h0
  rw [syndromeOf, if_neg (fun h => hz h.1), Nat.mul_div_cancel_left c (by decide), Nat.mul_mod_right, xorCols_zero, Nat.mod_eq_of_lt hlt,
    Nat.xor_zero]

/-! ### A part of a word that a check does not correct (R150) -/

theorem State.classAt_congr (s : State) {o p : Nat} (addr : Nat) (h : o / 8 = p / 8) : s.classAt o addr = s.classAt p addr := by
  have hl : o / 64 = p / 64 := by omega
  rw [State.classAt, State.classAt, State.synAt, State.synAt, State.parityAt, State.parityAt, State.wordValid, State.wordValid, State.flipsAt,
    State.flipsAt, h, hl]

/-- Fewer than eight bytes cover no word whole. -/
theorem State.renew_part (s : State) (a : Nat) {n : Nat} (hn : n < 8) : s.renew a n = s := by
  have hw (w : Nat) : (decide (a ≤ sramBase + 8 * w) && decide (sramBase + 8 * w + 8 ≤ a + n)) = false := by
    rw [Bool.and_eq_false_iff, decide_eq_false_iff_not, decide_eq_false_iff_not]
    omega
  have hf : (s.mem.parityBad.filter fun _ => !(List.range 8).any fun _ => false) = s.mem.parityBad := List.filter_eq_self.2 fun _ _ => by simp
  simp only [State.renew, hw, hf, Bool.not_false, List.filter_true]

theorem State.writeByte_uncorrectable (s : State) {a : Nat} (b : Byte) (hs : inSram a = true) (hc : 3 ≤ s.classAt (a - sramBase) 0) :
    s.writeByte a b = s := by
  simp [State.writeByte, hs, hc]

/-- Bytes of one uncorrectable word are not stored. -/
theorem State.writeEach_uncorrectable (s : State) (o : Nat) (bs : List Byte) {a : Nat} (ha : sramBase ≤ a) (he : a + bs.length ≤ sramEnd)
    (hw : ∀ k < bs.length, (a + k - sramBase) / 8 = o / 8) (hc : 3 ≤ s.classAt o 0) : s.writeEach a bs = s := by
  induction bs generalizing a with
  | nil => rfl
  | cons b t ih =>
    rw [List.length_cons] at he hw
    have hs : inSram a = true := inSram_iff.2 ⟨ha, by rw [sramEnd] at he; omega⟩
    rw [State.writeEach, s.writeByte_uncorrectable b hs (by rwa [s.classAt_congr 0 (show (a - sramBase) / 8 = o / 8 from hw 0 (by omega))])]
    exact ih (by omega) (by omega) fun k hk => by rw [← hw (k + 1) (by omega)]; congr 2; omega

theorem State.writeNat_uncorrectable (s : State) (o : Nat) {a n : Nat} (v : Nat) (hn : n < 8) (ha : sramBase ≤ a) (he : a + n ≤ sramEnd)
    (hw : ∀ k < n, (a + k - sramBase) / 8 = o / 8) (hc : 3 ≤ s.classAt o 0) : s.writeNat a n v = s := by
  rw [State.writeNat, State.writeBytes, leBytes_length, s.renew_part a hn]
  exact s.writeEach_uncorrectable o _ ha (by rwa [leBytes_length]) (by rwa [leBytes_length]) hc

/-! ### The word and the atomic -/

/-- A running part with one written word, all zero, whose check bits are wrong by the column of the lowest address bit. -/
def wrongColumn : State :=
  { State.reset with pwr.power := .run, mem.valid := [(0x20000, true)], mem.flips := [(0x20000, 2 ^ 64 * firstAddrCol)] }

/-- The lower half of that word, reached by a Gallery with the lowest word-address bit wrong. -/
def wrongAddress : Access :=
  { who := .steward, gallery := some 1, engine := none, portD := false, write := false, addr := 0x20100000, size := 4, data := 1,
    other := none, ecc := { bank := 0, flips := 0, addr := 1, parity := false } }

theorem wrongColumn_valid : wrongColumn.wordValid 0x100000 = true ∧ wrongColumn.parityAt 0x100000 = false := by decide +kernel

theorem wrongColumn_synAt (addr : Nat) : wrongColumn.synAt 0x100000 addr = firstAddrCol ^^^ xorCols addrCols addr := by
  rw [← syndromeOf_checkBits firstAddrCol_mem]
  rfl

theorem wrongColumn_classAt (addr : Nat) : wrongColumn.classAt 0x100000 addr = classOf (firstAddrCol ^^^ xorCols addrCols addr) := by
  obtain ⟨hv, hp⟩ := wrongColumn_valid
  rw [State.classAt, hp, hv, wrongColumn_synAt]
  rfl

/-- The two errors cancel in the syndrome. -/
theorem wrongColumn_reached : wrongColumn.classAt 0x100000 1 = 0 := by
  rw [wrongColumn_classAt, show xorCols addrCols 1 = firstAddrCol from rfl, Nat.xor_self]
  rfl

/-- Judged at its own address the word cannot be corrected. -/
theorem wrongColumn_own : wrongColumn.classAt 0x100000 0 = 4 := by
  rw [wrongColumn_classAt, xorCols_zero, Nat.xor_zero, classOf_addrCol firstAddrCol_mem]

theorem State.readNat_zero (s : State) (h : ∀ a, s.readByte a = 0) (a n : Nat) : s.readNat a n = 0 := by
  unfold State.readNat
  induction n generalizing a with
  | zero => rfl
  | succ n ih => simp [State.readBytes, leNat, h, ih]

theorem wrongColumn_readByte (a : Nat) : wrongColumn.readByte a = 0 := reset_readByte a

theorem wrongColumn_readNat (a n : Nat) : wrongColumn.readNat a n = 0 := State.readNat_zero _ wrongColumn_readByte a n

/-- An address column is no correction, so the data stay as they read. -/
theorem wrongColumn_checkedNat : wrongColumn.checkedNat 0x20100000 4 = 0 := by
  have hw := (addrCol_spec firstAddrCol_mem).2
  have hd : firstAddrCol ∉ dataCols := fun hd => by have := dataCol_weight hd; omega
  have hf : fixOf (wrongColumn.synAt 0x100000 0) = 0 := by
    rw [wrongColumn_synAt, xorCols_zero, Nat.xor_zero]
    simp [fixOf, hd, hw]
  have hk : wrongColumn.flipsAt 0x100000 = 2 ^ 64 * firstAddrCol := rfl
  have hc : wrongColumn.checkedWord 0x100000 = 0 := by
    rw [State.checkedWord, hf, hk, wrongColumn_readNat, Nat.xor_zero, Nat.mul_mod_right]
    simp
  rw [State.checkedNat, wrongColumn_readNat, show 0x20100000 - sramBase = 0x100000 from rfl, hc]
  simp

/-- The address error hidden in the check bits gives the old value, and the write is lost. -/
theorem wrongColumn_aadd : execAadd wrongAddress wrongColumn = .next (wrongColumn.answer respOk 0) := by
  have hlost (v : Nat) : wrongColumn.writeNat 0x20100000 4 v = wrongColumn :=
    wrongColumn.writeNat_uncorrectable 0x100000 v (by decide) (by decide) (by decide) (by decide) (by rw [wrongColumn_own]; decide)
  have hm : wrongColumn.mayAccess wrongAddress = true := by decide +kernel
  have hb : wrongColumn.bankState (bankOf 0x100000) = 0 := by decide +kernel
  have hwake : wrongColumn.wakeBank (bankOf 0x100000) = wrongColumn := by simp [State.wakeBank, hb]
  have hcheck : wrongColumn.checkWord 0x100000 1 4 none = (wrongColumn, true) := by simp [State.checkWord, wrongColumn_reached]
  have hmet : (wrongColumn.meetWindow 0x100000 false).upset 0x100000 wrongAddress.ecc = wrongColumn := rfl
  have hstep : wrongColumn.atomic wrongAddress (· + 1) =
      (wrongColumn.writeNat 0x20100000 4 ((wrongColumn.checkedNat 0x20100000 4 + 1) % 2 ^ 32)).answer respOk
        (wrongColumn.checkedNat 0x20100000 4) := by
    rw [State.atomic, hm, if_neg (by decide), if_neg (by decide), if_neg (by decide), if_neg (by decide)]
    simp only [show wrongAddress.addr - sramBase = 0x100000 from rfl, hb, hwake, hmet, show wrongAddress.ecc.addr = 1 from rfl, hcheck]
    rfl
  rw [hlost, wrongColumn_checkedNat] at hstep
  exact congrArg Host.Outcome.next hstep

end Sys2Proof.Machine

open Sys2Proof.Machine in
/-- Refutes O20: an atomic judges its word by the address bits that its access met, and the write of its half judges the word again by the right
ones. Where an error of the check bits hides the error of the address, AADD answers OK and stores nothing. -/
theorem not_atomics : ¬ Obligations.Atomics := by
  intro h
  have hword := (h wrongColumn wrongAddress (by decide +kernel) rfl (by decide) rfl (.inl rfl)).2 rfl rfl (by decide +kernel) rfl
  obtain ⟨⟨t, ht, _, _, hsum, _⟩, _⟩ := hword.1 (wrongColumn_reached.trans_le (by decide))
  obtain rfl : wrongColumn.answer respOk 0 = t := Host.Outcome.next.inj (wrongColumn_aadd.symm.trans ht)
  have hzero : (wrongColumn.answer respOk 0).readNat 0x20100000 4 = 0 := State.readNat_zero _ wrongColumn_readByte _ _
  have hone : (wrongColumn.checkedNat 0x20100000 4 + 1) % 2 ^ 32 = 0 := hsum.symm.trans hzero
  rw [wrongColumn_checkedNat] at hone
  exact absurd hone (by decide)
end
